-- ==== Sys2Proof/Word.lean ====
section
/-!
DEFINITION. The word types of the TRV-4416 model, the plain arithmetic on them, and the finite
table that holds sparse state in one canonical form.
-/

namespace Sys2Proof

/-- One byte of a payload, a frame or a mailbox window. -/
abbrev Byte := BitVec 8

/-- One 32-bit register or message word. -/
abbrev W32 := BitVec 32

/-- A sparse table from a number to a value: keys strictly rising, no entry equal to the default
that an unlisted key reads as. -/
abbrev Tab (α : Type) := List (Nat × α)

namespace Tab

/-- The value at a key; an unlisted key reads as the default `d`. -/
def get {α : Type} (d : α) : Tab α → Nat → α
  | [], _ => d
  | (k, v) :: t, i => if i = k then v else get d t i

/-- Take a key out of a table. -/
def erase {α : Type} (t : Tab α) (i : Nat) : Tab α := t.filter (fun y => y.1 != i)

/-- Write a value at a key, keeping the canonical form: writing the default removes the entry. A read after a write
gives the value written even where the table is not in canonical form. -/
def set {α : Type} [DecidableEq α] (d : α) : Tab α → Nat → α → Tab α
  | [], i, x => if x = d then [] else [(i, x)]
  | (k, v) :: t, i, x =>
    if i < k then (if x = d then (k, v) :: erase t i else (i, x) :: (k, v) :: t)
    else if i = k then (if x = d then erase t i else (i, x) :: t)
    else (k, v) :: set d t i x

/-- Change the value at a key. -/
def modify {α : Type} [DecidableEq α] (d : α) (t : Tab α) (i : Nat) (f : α → α) : Tab α :=
  set d t i (f (get d t i))

/-- Keys strictly above a bound, strictly rising, and no entry equal to the default. -/
def wfFrom {α : Type} [DecidableEq α] (d : α) : Nat → Tab α → Bool
  | _, [] => true
  | b, (k, v) :: t => decide (b ≤ k) && decide (v ≠ d) && wfFrom d (k + 1) t

/-- The canonical form of a table. -/
def wf {α : Type} [DecidableEq α] (d : α) (t : Tab α) : Bool := wfFrom d 0 t

end Tab

end Sys2Proof
end

