-- ==== Sys2Proof/Syntax.lean ====
section
/-!
DEFINITION. The commands of the TRV-4416: one constructor of `Instr` for each row of the table of
operations and events, with the operands that the step needs from outside the device. A message or
frame that arrives is a record of its fields (the wire coding below the field is the standard's, R2).
-/

namespace Sys2Proof

abbrev Lane := Fin 4
abbrev PortNo := Fin 16
abbrev E1No := Fin 8
/-- Ring side: 0 EAST, 1 WEST (R294). -/
abbrev Side := Fin 2
abbrev NodeNo := Fin 16
abbrev MbxNo := Fin 34
/-- Bank 1 (index 0) or bank 2 (index 1) of a line key slot (R583). -/
abbrev BankNo := Fin 2

/-- A request that Itvekor has taken from a mailbox (Table HM-5): the header fields and the payload
bytes. -/
structure Req where
  mbx     : MbxNo
  flags   : Byte
  berth   : Byte
  seq     : BitVec 16
  tag     : W32
  payload : List Byte
  deriving DecidableEq, Repr

/-- The clock multiplexers of Table CK-3. Source A is the first column entry, B the second. -/
inductive Mux
  | core
  | cp
  | lane (n : Lane)
  | e1 (p : E1No)
  deriving DecidableEq, Repr

/-- Sequence number and addressing of a downstream PLOAM message. -/
structure PloamHdr where
  seqno   : Nat
  unicast : Bool
  deriving DecidableEq, Repr

/-- A Burst_Profile's FEC bit, and whether with this message the lane has collected the burst profiles that the
Recommendation asks for (R130; DESIGN CHOICE, log 92). -/
structure ProfileFlags where
  fec      : Bool
  complete : Bool
  deriving DecidableEq, Repr

/-- Downstream PLOAM messages (Table LN-4). Burst_Profile's `complete` tells that with this message the lane has
collected the burst profiles that the Recommendation asks for (R130; DESIGN CHOICE, log 92). -/
inductive PloamMsg
  | burstProfile (index : Fin 4) (preamble delimiter : Nat) (fec complete : Bool)
  | assignOnuId (serial : BitVec 64) (onuId : Nat)
  | rangingTime (absolute negative : Bool) (bits : Nat)
  | deactivate
  | disableSerial (enable : Bool) (serial : BitVec 64)
  | requestRegistration
  | assignAllocId (allocId : Nat) (remove : Bool)
  | keyControl (generate : Bool) (bank : BankNo)
  | sleepAllow
  | unknown (code : Nat) (ackRequired : Bool)
  deriving DecidableEq, Repr

/-- What a read of a packet's cell data finds (R285, R286): no error, an error of one bit, which is corrected, or of
two. -/
inductive Ecc
  | none
  | corrected
  | uncorrectable
  deriving DecidableEq, Repr

/-- What a command that reads cells acts on, and what its reads of their data find. -/
structure CellRead (α β : Type) where
  on  : α
  ecc : β
  deriving DecidableEq, Repr

/-- The outcome of a header error check. -/
inductive Hec
  | good
  | correctable
  | uncorrectable
  deriving DecidableEq, Repr

/-- One BWmap allocation structure. `frame` is the count of the downstream frame that carried it. -/
structure AllocStruct where
  frame     : Nat
  allocId   : Nat
  startTime : Nat
  grantSize : Nat
  dbru      : Bool
  ploamu    : Bool
  profile   : Nat
  hec       : Hec
  snGrant   : Bool
  deriving DecidableEq, Repr

/-- One downstream XGEM frame: header fields, payload bytes as received, and its FEC outcome. -/
structure XgemFrame where
  portId   : Nat
  keyIndex : Nat
  lf       : Bool
  payload  : List Byte
  fecOk    : Bool
  hecOk    : Bool
  idle     : Bool
  deriving DecidableEq, Repr

/-- What a masked engine works for (R571). -/
inductive MaskWork
  | ploam | omci | derive | report | dcc | flash | stored
  deriving DecidableEq, Repr

/-- The modes of a masked engine (Table CY-1). -/
inductive MaskMode
  | ctr | cbc | cfb | xts | cmac | ecb
  deriving DecidableEq, Repr

/-- A message that Itvekor gives to a masked engine: what it is for, the mode, whether the key has 256 bits, the vault
slot of the key, the initial vector, counter block or data-unit number, and the bytes. -/
structure MaskJob where
  work : MaskWork
  mode : MaskMode
  wide : Bool
  slot : Fin 32
  iv   : List Byte
  data : List Byte
  deriving DecidableEq, Repr

/-- A turn of a masked engine: the engine, and the messages that Itvekor has formed since the last one. -/
structure MaskTurn where
  engine : Fin 2
  formed : List MaskJob
  deriving DecidableEq, Repr

/-- One downstream frame of a lane: its superframe count, its start against the anchor lane's in ticks (R263), line
error figures and XGEM frames. -/
structure DsFrame where
  lane      : Lane
  count     : Nat
  skew      : Int
  inSync    : Bool
  corrSym   : Nat
  uncorr    : Nat
  psbdErr   : Nat
  hdrErr    : Nat
  xgem      : List XgemFrame
  deriving DecidableEq, Repr

/-- A bonding control message (Table BL-4). -/
inductive CtrlBody
  | groupState (cfgMask opMask window nextSeq : Nat)
  | laneDown (lane reason : Nat)
  | laneUp (lane : Nat)
  | resync (seq : Nat)
  | ack
  deriving DecidableEq, Repr

/-- A bonding control message with its group and message number (Table BL-3). -/
structure CtrlMsg where
  grp    : Fin 64
  msgSeq : Nat
  body   : CtrlBody
  deriving DecidableEq, Repr

/-- A ring container (Table QY-4) with its 256-byte cell. -/
structure Container where
  dst    : NodeNo
  src    : NodeNo
  cclass : Fin 8
  first  : Bool
  last   : Bool
  gen    : Fin 16
  valid  : Bool
  turns  : Fin 4
  trunc  : Bool
  bad    : Bool
  epoch  : Bool
  oper   : Bool
  berth  : Fin 32
  queue  : Fin 4096
  check  : W32
  crValid : Bool
  crNode  : NodeNo
  crClass : Fin 8
  crEpoch : Bool
  crCum   : Nat
  crcOk  : Bool
  cell   : List Byte
  deriving DecidableEq, Repr

/-- A credit return record of the ring overhead (Table QY-6). -/
structure CreditRec where
  owner  : NodeNo
  origin : NodeNo
  cclass : Fin 8
  epoch  : Bool
  cum    : Nat
  deriving DecidableEq, Repr

/-- The overhead of a ring frame of one lane (Table QY-1): frame number, LABEL, SRQ, NDF and the pointer's ten bits as
sent, the negative stuff byte, credit return records, DCC slot and BIP-8. -/
structure RingHead where
  frameNo  : Nat
  label    : Nat
  req      : Nat
  spanFar  : NodeNo
  txNode   : NodeNo
  longPath : Bool
  status   : Nat
  ndf      : Nat
  ptr      : Nat
  stuff    : Byte
  credits  : List CreditRec
  slot     : List Byte
  bip      : Byte
  deriving DecidableEq, Repr

/-- A side's ring frames to send, with the justification (0 none, 1 positive, 2 negative) that the transmitter's
elastic store asks for. -/
structure RingSend where
  side    : Side
  justify : Fin 3
  deriving DecidableEq, Repr

/-- What JOIN_ACCEPT carries beside the node number: generation, the manager's nonce, the chain key. -/
structure JoinGrant where
  gen   : Fin 16
  nonce : BitVec 64
  chain : BitVec 128
  deriving DecidableEq, Repr

/-- DCC message bodies (Table QY-11). -/
inductive DccBody
  | hello (nonce : BitVec 64)
  | joinReq (serial : BitVec 64) (nonce : BitVec 64) (isManager : Bool) (version : W32)
      (east west : BitVec 64) (position : Nat)
  | joinAccept (serial : BitVec 64) (number : NodeNo) (gen : Fin 16) (nonce : BitVec 64) (chain : BitVec 128)
  | joinRefuse (serial : BitVec 64) (reason : Nat)
  | imgReq
  | imgBlock (bytes : List Byte)
  | tsReq
  | tsRsp
  | tideSync (nonce : BitVec 64) (frame : Nat) (state anchor : Nat)
  | stepAnnounce (at_ : Nat) (frame : Nat)
  | creditReinit (cclass : Fin 8) (sent : Nat)
  | creditReinitAck (cclass : Fin 8) (consumed : Nat)
  | joinComplete
  | leave
  | relayCmd (opc : Nat) (seq : BitVec 16) (mbx : MbxNo) (payload : List Byte)
  | relayRsp (opc : Nat) (seq : BitVec 16) (mbx : MbxNo) (status : Nat) (payload : List Byte)
  | commitPart (switchFrame : Nat)
  | eventPending (pending : Bool)
  | eventRaise (source : Nat) (tide : BitVec 64) (object detail : W32)
  | vinFail
  | vinReturn
  | mgrShed
  | qthRelay (entry : W32)
  | cntRelay (entry : W32)
  | logRelay (kind : Nat) (data : List Byte)
  | nodeReset
  deriving DecidableEq, Repr

/-- A DCC message (Table QY-10). -/
structure DccMsg where
  dst        : NodeNo
  src        : NodeNo
  bcast      : Bool
  unnumbered : Bool
  ackOnly    : Bool
  ttl        : Nat
  msgSeq     : Nat
  ackSeq     : Nat
  body       : DccBody
  deriving DecidableEq, Repr

/-- Why a side declares or clears a defect (Table QY-9). -/
inductive RingDefect
  | los
  | lof
  | lop
  | skew
  | bip
  | labelSf
  | sd
  deriving DecidableEq, Repr

/-- A joining worker's request as the manager receives it (Table QY-12, step 2). -/
structure JoinRequest where
  serial    : BitVec 64
  nonce     : BitVec 64
  isManager : Bool
  version   : W32
  east      : BitVec 64
  west      : BitVec 64
  position  : Nat
  side      : Side
  deriving DecidableEq, Repr

/-- A worker's event report (R768, R769) as the manager receives it. -/
inductive WorkerReport
  | pending (on : Bool)
  | raised (source : Nat) (tide : BitVec 64) (object detail : W32)
  | mgrShed
  deriving DecidableEq, Repr

/-- Flash regions of Table ST-2. -/
inductive FlashRegion
  | bootHeader
  | bankA
  | bankB
  | logbook
  | store
  deriving DecidableEq, Repr

/-- How a received UART character arrived. -/
inductive CharError
  | none
  | framing
  | parity
  deriving DecidableEq, Repr

/-- The six receive defects of Table TF-3, by their bit in DEFECTS (Table TF-5). -/
inductive E1Defect
  | los
  | rclkLoss
  | lof
  | ais
  | rai
  | lomf
  deriving DecidableEq, Repr

/-- The partial reset domains of Table ST-5, the CP domain excepted (a warm CP restart). -/
inductive ResetDomain
  | lane (n : Lane)
  | ring (side : Side)
  | port (p : PortNo)
  | e1
  | cipher
  deriving DecidableEq, Repr

/-- The commands of the device: every row of the table of operations and events. -/
inductive Instr
  -- resets and start
  | powerOnReset
  | resetNAssert
  | noValidBankRetry
  | hostCommandReset (value : W32)
  | pciePerst (released : Bool)
  | watchdogRestart
  | watchdogBite
  | watchdogCountClear
  | warmCpRestart
  | warmRestartDone
  | partialReset (d : ResetDomain)
  -- rails
  | railPowerGood (k : Fin 6)
  | railPgWindowExpiry (k : Fin 6)
  | powerUpRetry
  | railPowerDownStep (pgFell : Bool)
  | railPgLost (k : Fin 6)
  | railFailInPowerDown (k : Fin 6)
  -- clocks
  | oscAccepted
  | oscStartTimeout
  | referenceFail
  | rootLock
  | rootUnlock
  | clockHoldRelease (lane : Option Lane)
  | aonRcCalibration
  | clkMuxSwitchRequest (m : Mux) (toB : Bool)
  | clkDeadSource (m : Mux) (newSource : Bool)
  | clkGateStart (bit : Fin 30)
  | clkRefclkLoss (eth : Bool)
  | clkSteerLimit
  | coreDividerChange
  -- Tide
  | tideAnchored (count : Nat)
  | tideHoldover
  | tideReacquireDecision (frame tick : Nat)
  | tideSlewDone
  | tideStep (count : Nat)
  | tideAbandonPending
  | tideAnchorMove
  | tideAnchorReturn
  | tideHoldLimit
  | tideSync (nonce : BitVec 64) (frame : Nat) (state : Fin 4) (anchor : Lane)
  | tsReq (node : NodeNo) (side : Side) (rtt : Nat)
  | workerRemeasure (node : NodeNo) (rttEast rttWest : Nat)
  | rangingReplyTimeout (node : NodeNo) (side : Side)
  | rangingRetry (node : NodeNo)
  | workerStepAnnounce (count : Nat)
  | tideAlarm (k : Fin 64)
  | tidePulseRise
  | tidePulseFall
  | tideLoRead
  -- fibre line
  | downstreamFrame (f : DsFrame)
  | lnLos (l : Lane) (declared : Bool)
  | lnLods (l : Lane)
  | burstProfile (l : Lane) (h : PloamHdr) (index : Fin 4) (preamble delimiter : Nat) (flags : ProfileFlags)
  | assignOnuId (l : Lane) (h : PloamHdr) (serial : BitVec 64) (onuId : Nat)
  | rangingTime (l : Lane) (h : PloamHdr) (absolute negative : Bool) (bits : Nat)
  | deactivateOnuId (l : Lane) (h : PloamHdr)
  | disableSerialNumber (l : Lane) (h : PloamHdr) (enable : Bool) (serial : BitVec 64)
  | requestRegistration (l : Lane) (h : PloamHdr)
  | assignAllocId (l : Lane) (h : PloamHdr) (allocId : Nat) (remove : Bool)
  | keyControl (l : Lane) (h : PloamHdr) (generate : Bool) (bank : BankNo)
  | sleepAllow (l : Lane) (h : PloamHdr)
  | ploamUnknownType (l : Lane) (h : PloamHdr) (code : Nat) (ackRequired : Bool)
  | ploamDuplicate (l : Lane) (h : PloamHdr) (msg : PloamMsg)
  | ploamMicFail (l : Lane)
  | to1Expiry (l : Lane)
  | to2Expiry (l : Lane)
  | omciDownstream (l : Lane) (msg mic : List Byte)
  | sdSfWindow (l : Lane) (codewords corrected uncorrectable : Nat)
  | rssiTrig (l : Lane)
  | lnRogue (l : Lane)
  | rogueGuardRelease (l : Lane)
  -- caravans
  | allocationStructure (l : Lane) (a : AllocStruct)
  | runAheadStage (a : Fin 128)
  | stagedCellTimeout (a : Fin 128)
  | cvRunaheadSuspend (a : Fin 128)
  | runaheadResume (a : Fin 128)
  | cvNotReady (l : Lane)
  | burstLaunch (r : CellRead Lane (List Ecc))
  -- bonded line
  | reseqWindowExpiry (g : Fin 64)
  | blSkew (l : Lane) (count anchorCount : Nat)
  | blLaneJoin (l : Lane)
  | bondingHoldReset (l : Lane)
  | bondingControlMessage (l : Lane) (msg : CtrlMsg)
  | bondingControlResend (g : Fin 64) (msgSeq : Nat)
  | groupState (g : Fin 64)
  -- cell pool and ledger
  | packetEnqueue (q : Fin 4096) (r : CellRead (List Byte) Ecc)
  | qthRelay (node : NodeNo) (queue : Fin 4096) (frame : BitVec 16)
  | qthFifoDataRead
  | cntFifoDataRead
  | cntHalf (index : BitVec 16)
  | rolloverRelay (node : NodeNo) (index : BitVec 16) (frame : BitVec 12)
  | flushAct (q : Fin 4096)
  | descriptorEccError (q : Fin 4096) (position : Nat)
  | ledgerAudit
  | ledgerRecountDone
  | sweepBorrow (cells : Nat)
  | sweepReturn (cells : Nat) (r : CellRead Nat (List Ecc))
  -- scheduling
  | calendarRelease (q : Fin 128)
  | calendarUnpark
  | gateSwap (p : PortNo)
  | gateChange (p : PortNo)
  | egressStart (p : PortNo)
  | mcastReplicate (r : CellRead (Fin 256) Ecc)
  -- subscriber ports
  | frameReceive (p : PortNo) (bytes : List Byte) (last : Bool)
  | pauseExpiry (p : PortNo) (c : Fin 8)
  | pauseTx (p : PortNo)
  | frameTransmit (r : CellRead PortNo Ecc)
  | spLinkUp (p : PortNo) (learned : Option (Fin 6))
  | spLinkDown (p : PortNo)
  | spFault (p : PortNo) (code : Fin 6) (learned : Option (Fin 6))
  | phyPoll (p : PortNo) (answer : Option (BitVec 16))
  -- E1
  | rclkLoss (p : E1No)
  | rclkReturn (p : E1No)
  | slipBufferRead (p : E1No)
  | cesPacketise (p : E1No)
  | cesPacketArrival (p : E1No)
  | playoutStartInstant (r : CellRead E1No Ecc)
  | crc4SearchTimeout (p : E1No)
  | e1Defect (p : E1No) (d : E1Defect) (declared : Bool)
  -- cipher
  | cyEntropyFail
  | entropyRetest (samples : List Bool)
  | cyFallbackNonce
  | drbgReseed
  | vaultRerandomise
  | keyZeroise (slot : Fin 256) (bank : BankNo)
  | maskedJob (turn : MaskTurn) (stallClocks : Nat)
  -- ring
  | ringFrameReceive (side : Side) (lane : Fin 2) (wire : List Byte)
  | rgPtrJump (side : Side) (lane : Fin 2) (value : Nat)
  | ringFrameTransmit (r : CellRead RingSend (List Ecc))
  | ringDefect (side : Side) (d : RingDefect)
  | ringWrap (side : Side)
  | ringDefectClear (side : Side) (d : RingDefect)
  | wtrExpiry (side : Side)
  | dccMessageReceive (side : Side) (message mac : List Byte)
  | dccRetransmit (peer : NodeNo) (msgSeq : Nat)
  | hello
  | workerGoneTimeout (n : NodeNo)
  | managerLost
  | joinReq (r : JoinRequest)
  | joinCollectionEnd
  | joinAccept (number : NodeNo) (a : JoinGrant)
  | joinRefuse (reason : Nat)
  | joinAttemptStart
  | joinAttemptTimeout
  | joinHoldoffExpiry
  | joinComplete (n : NodeNo)
  | imgReq (n : NodeNo)
  | imgBlock (side : Side) (node : NodeNo) (bytes : List Byte)
  | ringBootDone (node : NodeNo)
  | creditReinit (src : NodeNo) (cclass : Fin 8) (sent : Nat)
  | creditReinitAck (dst : NodeNo) (cclass : Fin 8) (consumed : Nat)
  | leave (n : NodeNo)
  | relayCmd (opc : Nat) (seq : BitVec 16) (mbx : MbxNo) (payload : List Byte)
  | relayRsp (n : NodeNo) (opc : Nat) (seq : BitVec 16) (mbx : MbxNo) (status : Nat) (payload : List Byte)
  | event (n : NodeNo) (r : WorkerReport)
  | bypassRelease
  -- host registers and mailboxes
  | mbxDbReqWrite (m : MbxNo) (value : W32)
  | mbxDbRplWrite (m : MbxNo) (value : W32)
  | mailboxRequest
  | txnIdleTimeout (m : MbxNo)
  | commitSwitchOver
  | admissionRecheck
  | evtStatusWrite (g : Fin 20) (value : W32)
  | evtEnableWrite (addr : Nat) (value : W32)
  | vectorUnmask (v : Fin 8)
  | spiWrite (addr : Nat) (words : List W32) (cutShort : Bool)
  | spiRead (addr : Nat) (words : Nat)
  | registerWrite (addr : Nat) (value : W32) (byteEnables : BitVec 4)
  -- commands: session and provisioning
  | mbxHello (q : Req)
  | opAbort (q : Req)
  | identGet (q : Req)
  | statusGet (q : Req)
  | berthSet (q : Req)
  | txnOpen (q : Req)
  | txnCommit (q : Req)
  | txnAbort (q : Req)
  | txnStatus (q : Req)
  | lineModeSet (q : Req)
  | lineLaneSet (q : Req)
  | lineStatusGet (q : Req)
  | ringStatusGet (q : Req)
  | ringSet (q : Req)
  | ringProtectCmd (q : Req)
  | ringRenumber (q : Req)
  | nodeReset (q : Req)
  | portSet (q : Req)
  | portStatusGet (q : Req)
  | mdioAccess (q : Req)
  | queueSet (q : Req)
  | queueFlush (q : Req)
  | schedSet (q : Req)
  | shaperSet (q : Req)
  | gateListSet (q : Req)
  | policerSet (q : Req)
  | classifierSet (q : Req)
  | allocMapSet (q : Req)
  | xgemMapSet (q : Req)
  | mcastSet (q : Req)
  | poolReserveSet (q : Req)
  | e1Set (q : Req)
  | cesSet (q : Req)
  -- commands: keys, power and maintenance
  | keyLoad (q : Req)
  | keyErase (q : Req)
  | cntRead (q : Req)
  | cntSnapshot (q : Req)
  | snapshotFillDone
  | pwrStateSet (q : Req)
  | lswEnable (q : Req) (node : NodeNo) (switch : Fin 4) (window : Byte)
  | lswDisable (q : Req) (node : NodeNo) (switch : Fin 4) (window : Byte)
  | lswRearm (q : Req) (node : NodeNo) (switch : Fin 4) (window : Byte)
  | cisternSet (q : Req)
  | fwWriteBegin (q : Req)
  | fwWriteBlock (q : Req)
  | fwWriteEnd (q : Req)
  | fwVerifyDone (flashOk : Bool)
  | fwActivate (q : Req)
  | fwConfirm (q : Req)
  | confirmWindowExpiry
  | workerImageUpdate (n : NodeNo)
  | logbookRead (q : Req)
  | diagSelftest (q : Req)
  | selftestDone (tested retired failedUnits durationMs : Nat)
  | diagLoopback (q : Req)
  | loopbackExpiry (object : W32)
  | diagPrbs (q : Req)
  | prbsDone (object : W32) (bits errors syncLosses : Nat)
  | diagMaintenance (q : Req)
  | omciSend (q : Req)
  | evtConfig (q : Req)
  | evtAck (q : Req)
  | evtFetch (q : Req)
  | tideAlarmSet (q : Req)
  | tidePulseSet (q : Req)
  | tideSet (q : Req)
  -- power states
  | mooredEntry
  | drainEnd
  | cpWaitHalt (irqPending : Bool)
  | beachedEntry
  | pwWake (cause : Nat)
  | thermalSample (t0 t1 t2 t3 : Option Int)
  | thermalStepExit (step : Fin 4)
  -- Cistern and load switches
  | cisternMonitorSample (vinBall storeBall : Nat)
  | probeChargeStart
  | probeChargeEnd
  | vinFail
  | vinFailShedLoads
  | csVinReturn
  | csMgrShed
  | workerShedRestore
  | lswOn (k : Fin 4)
  | lswFail (k : Fin 4) (cause : Fin 5)
  | lswRetryExpiry (k : Fin 4)
  | lswFailCountClear (k : Fin 4)
  | lswPres (k : Fin 4)
  | lswReinsertion (k : Fin 4)
  -- logbook and flash
  | logbookFlush
  | logbookRelay (n : NodeNo) (kind : Nat) (data : List Byte)
  | flashProgram (r : FlashRegion) (firstOk secondOk : Bool)
  -- craft port and peripherals
  | uartCharacter (c : Byte) (err : CharError)
  | uartRxService
  | longBreak
  | shortBreak
  | shellLine (line : List Char)
  | shellRaw (opc : BitVec 16) (payload : List Byte)
  | shellUart (baud bits parity stop fifo rxtrig txtrig : Nat)
  | uartTrialTimeout
  | shellDdm (lane : Nat)
  | shellGpio (pin func level debounce : Nat)
  | ddmRead (l : Lane) (pageA2 : Bool) (data : Option (List Byte))
  | cfI2cStuck (m : Fin 2) (stillLow : Bool)
  | i2cStretchTimeout (m : Fin 2)
  | gpioEdge (pin : Fin 16) (level : Bool)
  | statusLedBlink
  -- the remaining rows of the table
  | slipBufferWrite (p : E1No) (frame : List Byte)
  | hostPcieLink (up : Bool)
  | refclkReturn (eth : Bool)
  | heartbeat
  | joinHoldoffReset (n : NodeNo)
  | fwEraseDone
  | resetNRelease
  | powerOnResetAssert
  deriving DecidableEq, Repr

end Sys2Proof
end

