-- ==== Sys2Proof/Decode.lean ====
section
/-!
DEFINITION. The commands that a word spells by the table's bits. No row of the table of operations
and events gives bits (every row's field list is empty): no word spells a command.
-/

namespace Sys2Proof

/-- The command that the `nbits` low bits of `w` spell: none, as the table gives no row any bits. -/
def decodeTableWord (_nbits _w : Nat) : Option Instr := none

end Sys2Proof
end

