-- ==== Sys2Proof/Config.lean ====
section
/-!
DEFINITION. What the manual leaves to an implementation or leaves open: free values. Each is an
opaque constant, so no proof can rest on a value of it. The numbers of the log entries stand at
each.
-/

namespace Sys2Proof.Config

/-- DESIGN CHOICE (log 5). The output of the DRBG for its n-th draw: keys, nonces, chain keys. -/
opaque drbg : Nat → BitVec 128

/-- DESIGN CHOICE (log 6). The key that the Recommendation's or the device key's derivation gives:
from a source key and a label number. The manual names the function (AES CMAC) and not its value. -/
opaque deriveKey : BitVec 128 → Nat → BitVec 128

/-- DESIGN CHOICE (log 6). The Recommendation's default key of a lane's vault slot (R152). -/
opaque defaultKey : Nat → BitVec 128

/-- DESIGN CHOICE (log 6). The counter block of a block of an XGEM payload, which the Recommendation forms: the number
of the payload, the number of the block in it. -/
opaque ctrBlock : Nat → Nat → BitVec 128

/-- DESIGN CHOICE (log 6). What the Recommendation runs AES-CMAC over for the integrity code of an OMCI message,
upstream or not (R155, R158). -/
opaque micInput : Bool → List (BitVec 8) → List (BitVec 8)

/-- DESIGN CHOICE (log 5). The key under which the entropy source conditions raw samples (R575). -/
opaque conditionKey : BitVec 128

/-- DESIGN CHOICE (log 110). The raw samples of the entropy source (R575): the n-th draw's, in their order. -/
opaque rawSample : Nat → Nat → Bool

/-- DESIGN CHOICE (log 7). The Recommendation's random delay of a Serial_Number_ONU answer. -/
opaque snDelay : Nat → Nat

/-- DESIGN CHOICE (log 8). The result of an MDIO read that a PHY answers is the PHY's; a value the
manual does not give, drawn afresh. -/
opaque freeWord : Nat → BitVec 32

/-- DESIGN CHOICE (log 68). What an E1 port sends in a timeslot that its circuit does not carry (port, count of frame
boundaries, timeslot), which the manual does not give. -/
opaque e1Slot : Nat → Nat → Nat → Byte

/-- DESIGN CHOICE (log 100). Whether a KEY_ID names a public-key hash that is fused, not revoked, and that of the key
carried with the signature (R860). -/
opaque keyFused : Nat → Bool

/-- DESIGN CHOICE (log 100). Whether a signature of some bytes verifies under the key of a KEY_ID: ECDSA with P-384 and
SHA-384 (R860). -/
opaque signatureOk : Nat → List Byte → List Byte → Bool

end Sys2Proof.Config
end

