-- ==== Sys2Proof/Machine/Bytes.lean ====
section
/-!
DEFINITION. Bytes and bits: byte order (R10, R11), bit fields, and the check codes that the spec names: CRC-32C (R288),
the Ethernet FCS, the CRC-8 of the ring overhead (R428) and the CRC-16 of container headers (R966).
-/

namespace Sys2Proof.Machine

/-- The `k` low bytes of a number, least significant first (R10). -/
def leBytes : Nat → Nat → List Byte
  | 0, _ => []
  | k + 1, n => BitVec.ofNat 8 n :: leBytes k (n / 256)

/-- The number that bytes spell, least significant first. -/
def leNat : List Byte → Nat
  | [] => 0
  | b :: t => b.toNat + 256 * leNat t

/-- The number that bytes spell, most significant first (R11). -/
def beNat (l : List Byte) : Nat := l.foldl (fun a b => a * 256 + b.toNat) 0

/-- The `k` low bytes of a number, most significant first. -/
def beBytes (k n : Nat) : List Byte := (leBytes k n).reverse

/-- The number at an offset of some bytes: `k` of them, most significant first. -/
def beAt (l : List Byte) (i k : Nat) : Nat := beNat ((l.drop i).take k)

/-- The number at an offset of some bytes: `k` of them, least significant first. -/
def leAt (l : List Byte) (i k : Nat) : Nat := leNat ((l.drop i).take k)

/-- Bytes of a list with zeros up to a length. -/
def padTo (n : Nat) (l : List Byte) : List Byte := l ++ List.replicate (n - l.length) 0

/-- Bytes of two lists combined by exclusive or, as many as the shorter has. -/
def xorBytes (a b : List Byte) : List Byte := List.zipWith (fun x y => x ^^^ y) a b

/-- A list cut into pieces of `n`, the last one shorter; `fuel` bounds their number. -/
def chunks {α : Type} (n : Nat) : Nat → List α → List (List α)
  | 0, _ => []
  | _, [] => []
  | fuel + 1, x :: l => (x :: l).take n :: chunks n fuel ((x :: l).drop n)

/-- A list cut into pieces of `n`. -/
def chunksOf {α : Type} (n : Nat) (l : List α) : List (List α) := chunks n l.length l

/-- Whether bit `i` of a number is set. -/
def bit (n i : Nat) : Bool := n / 2 ^ i % 2 == 1

/-- A Boolean as a number. -/
def b2n (b : Bool) : Nat := if b then 1 else 0

/-- Set or clear bit `i` of a number. -/
def putBit (n i : Nat) (v : Bool) : Nat :=
  if bit n i = v then n else if v then n + 2 ^ i else n - 2 ^ i

/-- A field of a number: `w` bits from bit `lo`. -/
def field (n lo w : Nat) : Nat := n / 2 ^ lo % 2 ^ w

/-- Ceiling division. -/
def ceilDiv (a b : Nat) : Nat := (a + (b - 1)) / b

/-! ### Check codes -/

/-- One bit of the reflected CRC-32C (R288). -/
def crcBit (c : W32) : W32 :=
  if c.getLsbD 0 then (c >>> 1) ^^^ 0x82F63B78#32 else c >>> 1

/-- One byte of the CRC-32C. -/
def crcByte (c : W32) (b : Byte) : W32 :=
  crcBit (crcBit (crcBit (crcBit (crcBit (crcBit (crcBit (crcBit (c ^^^ b.setWidth 32))))))))

/-- The check value: CRC-32C (R288). -/
def crc32c (l : List Byte) : W32 := ~~~ (l.foldl crcByte 0xFFFFFFFF#32)

/-- One bit and one byte of the CRC-32 of IEEE 802.3, reflected. -/
def fcsBit (c : W32) : W32 :=
  if c.getLsbD 0 then (c >>> 1) ^^^ 0xEDB88320#32 else c >>> 1
def fcsByte (c : W32) (b : Byte) : W32 :=
  fcsBit (fcsBit (fcsBit (fcsBit (fcsBit (fcsBit (fcsBit (fcsBit (c ^^^ b.setWidth 32))))))))

/-- The Ethernet FCS of a frame's bytes (IEEE 802.3, R2), with every bit inverted where the frame must not be good
(R221, R292). -/
def fcsBytes (inverted : Bool) (l : List Byte) : List Byte :=
  let c := l.foldl fcsByte 0xFFFFFFFF#32
  leBytes 4 (if inverted then c else ~~~ c).toNat

/-- One bit and one byte of CRC-8, polynomial x^8 + x^2 + x + 1 (R428). -/
def crc8Bit (c : Byte) : Byte := if c.getLsbD 7 then (c <<< 1) ^^^ 0x07#8 else c <<< 1
def crc8Byte (c b : Byte) : Byte :=
  crc8Bit (crc8Bit (crc8Bit (crc8Bit (crc8Bit (crc8Bit (crc8Bit (crc8Bit (c ^^^ b))))))))

/-- The CRC-8 of the ring overhead, from 0x00 (R428). -/
def crc8 (l : List Byte) : Byte := l.foldl crc8Byte 0#8

/-- One bit and one byte of CRC-16, polynomial 0x1021, each byte most significant bit first (R966). -/
def crc16Bit (c : BitVec 16) : BitVec 16 := if c.getLsbD 15 then (c <<< 1) ^^^ 0x1021#16 else c <<< 1
def crc16Byte (c : BitVec 16) (b : Byte) : BitVec 16 :=
  crc16Bit (crc16Bit (crc16Bit (crc16Bit (crc16Bit (crc16Bit (crc16Bit (crc16Bit
    (c ^^^ (b.setWidth 16 <<< 8)))))))))

/-- The CRC-16 of a container header, from 0xFFFF (R966). -/
def crc16 (l : List Byte) : BitVec 16 := l.foldl crc16Byte 0xFFFF#16

/-- Bit-interleaved even parity over bytes (R427). -/
def bip8 (l : List Byte) : Byte := l.foldl (fun a b => a ^^^ b) 0#8

end Sys2Proof.Machine
end

