-- ==== Sys2Proof/Machine/Aes.lean ====
section
/-!
DEFINITION. AES and the modes of Table CY-1 that the device uses. The spec names the cipher (AES-128 of R564, AES-256 of
R569) and its modes; the block function, its table and the modes are those of FIPS 197, NIST SP 800-38A, SP 800-38B and
IEEE 1619 (PRESUMED, log 6).
-/

namespace Sys2Proof.Machine

/-- The substitution table, sixteen bytes a row, the first byte of a row most significant. -/
def aesRows : List Nat :=
  [0x637C777BF26B6FC53001672BFED7AB76, 0xCA82C97DFA5947F0ADD4A2AF9CA472C0,
   0xB7FD9326363FF7CC34A5E5F171D83115, 0x04C723C31896059A071280E2EB27B275,
   0x09832C1A1B6E5AA0523BD6B329E32F84, 0x53D100ED20FCB15B6ACBBE394A4C58CF,
   0xD0EFAAFB434D338545F9027F503C9FA8, 0x51A3408F929D38F5BCB6DA2110FFF3D2,
   0xCD0C13EC5F974417C4A77E3D645D1973, 0x60814FDC222A908846EEB814DE5E0BDB,
   0xE0323A0A4906245CC2D3AC629195E479, 0xE7C8376D8DD54EA96C56F4EA657AAE08,
   0xBA78252E1CA6B4C6E8DD741F4BBD8B8A, 0x703EB5664803F60E613557B986C11D9E,
   0xE1F8981169D98E949B1E87E9CE5528DF, 0x8CA1890DBFE6426841992D0FB054BB16]

/-- Substitute a byte. -/
def aesSub (b : Byte) : Byte :=
  BitVec.ofNat 8 ((aesRows.getD (b.toNat / 16) 0) >>> (8 * (15 - b.toNat % 16)))

/-- Multiply by x in the cipher's field. -/
def aesX (b : Byte) : Byte := if b.getLsbD 7 then (b <<< 1) ^^^ 0x1B#8 else b <<< 1

/-- Mix one column. -/
def aesMix : List Byte → List Byte
  | [a, b, c, d] =>
    [aesX a ^^^ aesX b ^^^ b ^^^ c ^^^ d, a ^^^ aesX b ^^^ aesX c ^^^ c ^^^ d,
     a ^^^ b ^^^ aesX c ^^^ aesX d ^^^ d, aesX a ^^^ a ^^^ b ^^^ c ^^^ aesX d]
  | l => l

/-- Substitute and shift the rows of a block, which holds its columns one after another. -/
def aesShift (s : List Byte) : List Byte :=
  let t := s.map aesSub
  (List.range 16).map (fun i => t.getD (5 * i % 16) 0)

/-- The words of the key schedule, the latest first: word `i` follows from the one before it and from the one `nk`
before it; `n` words are still to come. -/
def aesExpand (nk : Nat) : Nat → Nat → Byte → List (List Byte) → List (List Byte)
  | 0, _, _, w => w
  | n + 1, i, rc, w =>
    let prev := w.headD []
    let old := w.getD (nk - 1) []
    if i % nk = 0 then
      let t := (prev.drop 1 ++ prev.take 1).map aesSub
      aesExpand nk n (i + 1) (aesX rc) (xorBytes old (xorBytes t [rc, 0, 0, 0]) :: w)
    else if nk = 8 ∧ i % 8 = 4 then aesExpand nk n (i + 1) rc (xorBytes old (prev.map aesSub) :: w)
    else aesExpand nk n (i + 1) rc (xorBytes old prev :: w)

/-- The round keys of a key of 16 or 32 bytes: one for the start and one for each of its 10 or 14 rounds. -/
def aesKeys (key : List Byte) : List (List Byte) :=
  let nk := key.length / 4
  let w := (aesExpand nk (4 * (nk + 7) - nk) nk 1 (chunksOf 4 key).reverse).reverse
  (chunksOf 4 w).map List.flatten

/-- The rounds of a block under the round keys that are left; the last does not mix. -/
def aesRounds : List (List Byte) → List Byte → List Byte
  | [], s => s
  | [k], s => xorBytes (aesShift s) k
  | k :: t, s => aesRounds t (xorBytes ((chunksOf 4 (aesShift s)).flatMap aesMix) k)

/-- AES encryption of one block of 16 bytes under a key of 16 or 32 bytes. -/
def aes (key block : List Byte) : List Byte :=
  match aesKeys key with
  | [] => block
  | k :: t => aesRounds t (xorBytes block k)

/-- A 128-bit key as bytes, most significant first. -/
def keyBytes (k : BitVec 128) : List Byte := beBytes 16 k.toNat

/-- The key that 16 bytes spell. -/
def keyOf (b : List Byte) : BitVec 128 := BitVec.ofNat 128 (beNat b)

/-! ### Modes (Table CY-1) -/

/-- ECB: one block (Key_Report wrapping). -/
def aesEcb (key block : BitVec 128) : BitVec 128 := keyOf (aes (keyBytes key) (keyBytes block))

/-- CBC over whole blocks. -/
def aesCbc (key : List Byte) : List Byte → List (List Byte) → List Byte
  | _, [] => []
  | iv, b :: t =>
    let c := aes key (xorBytes b iv)
    c ++ aesCbc key c t

/-- CFB-128 encryption over blocks, the last one possibly short. -/
def cfbEnc (key : List Byte) : List Byte → List (List Byte) → List Byte
  | _, [] => []
  | iv, b :: t =>
    let c := xorBytes b (aes key iv)
    c ++ cfbEnc key c t

/-- CFB-128 decryption. -/
def cfbDec (key : List Byte) : List Byte → List (List Byte) → List Byte
  | _, [] => []
  | iv, c :: t => xorBytes c (aes key iv) ++ cfbDec key c t

/-- CFB-128 of a message, either way. -/
def aesCfb (dec : Bool) (key iv msg : List Byte) : List Byte :=
  (if dec then cfbDec else cfbEnc) key iv (chunksOf 16 msg)

/-- Double an element of the field of 128-bit blocks, most significant bit first (CMAC subkeys). -/
def dbl (b : BitVec 128) : BitVec 128 := if b.getLsbD 127 then (b <<< 1) ^^^ 0x87#128 else b <<< 1

/-- The chain of CMAC over the blocks before the last. -/
def cmacChain (key : List Byte) : List Byte → List (List Byte) → List Byte
  | x, [] => x
  | x, b :: t => cmacChain key (aes key (xorBytes x b)) t

/-- AES-CMAC of a message. -/
def aesCmac (key msg : List Byte) : List Byte :=
  let k1 := dbl (keyOf (aes key (List.replicate 16 0)))
  let bs := chunksOf 16 msg
  let last := bs.getLast?.getD []
  let fin := if last.length = 16 then xorBytes last (keyBytes k1)
    else xorBytes (padTo 16 (last ++ [0x80])) (keyBytes (dbl k1))
  aes key (xorBytes (cmacChain key (List.replicate 16 0) bs.dropLast) fin)

/-- Double the tweak of XTS, least significant byte first. -/
def xtsNext (t : List Byte) : List Byte :=
  let n := leNat t
  leBytes 16 (if bit n 127 then (2 * n) % 2 ^ 128 ^^^ 0x87 else 2 * n)

/-- XTS over the blocks of a data unit from a tweak. -/
def xtsBlocks (key : List Byte) : List Byte → List (List Byte) → List Byte
  | _, [] => []
  | t, b :: bs => xorBytes (aes key (xorBytes b t)) t ++ xtsBlocks key (xtsNext t) bs

/-- XTS-AES-128 encryption of a data unit under a data key and a tweak key; the tweak is the unit's number (R605). -/
def aesXts (dataKey tweakKey : BitVec 128) (unit : Nat) (b : List Byte) : List Byte :=
  xtsBlocks (keyBytes dataKey) (aes (keyBytes tweakKey) (leBytes 16 unit)) (chunksOf 16 b)

/-- CTR: the key stream of counter blocks, as many bytes as the message has. -/
def aesCtr (key : List Byte) (ctr : Nat → List Byte) (b : List Byte) : List Byte :=
  ((chunksOf 16 b).zipIdx.map (fun x => xorBytes x.1 (aes key (ctr x.2)))).flatten

end Sys2Proof.Machine
end

