-- ==== Sys2Proof/Machine/StateConfig.lean ====
section
/-!
DEFINITION. The configuration that transactions write: one record for each transactional command's
object, keyed by object ID (R654), and the staged form of each command (`Setting`). The defaults are
those of R971, R972, R208, R257, R261, R313, R350, R367, R408, R463, R547, R554, Table SH-4 and
Table CS-4.
-/

namespace Sys2Proof.Machine

/-- Build an object ID from node, class and index (R654). -/
def objId (node cls index : Nat) : Nat := node * 2 ^ 28 + cls * 2 ^ 24 + index

/-- Bonding group entry of LINE_MODE_SET (Table CA-9). `members` is a lane mask; 0 means that the
group is not configured. -/
structure GroupCfg where
  members    : Nat := 0
  index      : Nat := 0
  window     : Nat := 64
  reorderMax : Nat := 4096
  deriving DecidableEq, Repr

/-- LINE_MODE_SET (Table CA-9). -/
structure LineCfg where
  bonded : Bool := false
  rate25 : Bool := false
  laneEn : Nat := 1
  ctrl0  : Nat := 0xFFFF
  ctrl1  : Nat := 0xFFFF
  ctrl2  : Nat := 0xFFFF
  ctrl3  : Nat := 0xFFFF
  groups : Tab GroupCfg := []
  deriving DecidableEq, Repr

/-- The bonding control XGEM port of a lane. -/
def LineCfg.ctrlPort (c : LineCfg) (l : Nat) : Nat :=
  match l with
  | 0 => c.ctrl0
  | 1 => c.ctrl1
  | 2 => c.ctrl2
  | _ => c.ctrl3

/-- LINE_LANE_SET (Table CA-10, R972). `enable` of lane 0 is 1 and of the others 0 by R972: the
table of lanes is keyed by lane, and an unlisted lane reads as `laneCfgDefault`. -/
structure LaneCfg where
  enable  : Bool := false
  losPol  : Bool := true
  rate    : Nat := 0xFF
  sdThr   : Nat := 4
  sfThr   : Nat := 8
  benLead : Nat := 16
  benLag  : Nat := 8
  to1     : Nat := 80000
  to2     : Nat := 800
  regId   : List Byte := List.replicate 36 0
  deriving DecidableEq, Repr

/-- RING_SET: WTR_MIN and RING_SD_THR (R463, Table QY-9). -/
structure RingCfg where
  wtrMin : Nat := 5
  sdThr  : Nat := 80
  deriving DecidableEq, Repr

/-- PORT_SET (Table CA-13, R971). -/
structure PortCfg where
  mode      : Nat := 2
  rate      : Nat := 5
  enable    : Bool := false
  anEn      : Bool := false
  pauseRx   : Bool := false
  pfcRx     : Bool := false
  pauseTx   : Bool := false
  phyAddr   : Nat := 0xFF
  maxLen    : Nat := 2048
  linkHold  : Nat := 0
  quanta    : Nat := 65535
  hyst      : Nat := 256
  pauseSa   : List Byte := [0x02, 0, 0, 0, 0, 0]
  deriving DecidableEq, Repr

/-- QUEUE_SET (Table CA-15). `gateMaxLen` 0 stands for the default MAX_LEN (R367) and `drrBurst` 0
for the default QUANTUM (R350). -/
structure QueueCfg where
  qthr       : Nat := 0
  ctBytes    : Nat := 0
  gateMaxLen : Nat := 0
  quantum    : Nat := 1518
  shedPri    : Nat := 4
  drrBurst   : Nat := 0
  ringCir    : Nat := 0
  deriving DecidableEq, Repr

/-- SCHED_SET (Table SH-4). `ovh` none stands for the object's default: +20 for a port, +8 for an
Alloc-ID index (R336). -/
structure SchedCfg where
  nstrict : Nat := 0
  ovh     : Option Int := none
  qEnable : Nat := 1
  deriving DecidableEq, Repr

/-- SHAPER_SET (Table CA-17): rate in bit/s, size in bytes; a rate 0 disables its bucket. -/
structure ShaperCfg where
  sizeA : Nat := 0
  rateA : Nat := 0
  rateB : Nat := 0
  sizeB : Nat := 0
  deriving DecidableEq, Repr

/-- GATE_LIST_SET (Table CA-18): entries are (INTERVAL, GATE_STATE). -/
structure GateCfg where
  baseFrame : Nat := 0
  baseTick  : Nat := 0
  enable    : Bool := false
  entries   : List (Nat × Nat) := []
  deriving DecidableEq, Repr

/-- POLICER_SET (Table CA-19). -/
structure PolicerCfg where
  enable     : Bool := false
  aware      : Bool := false
  yellowPass : Bool := false
  yellowDei  : Bool := false
  ovh        : Int := 0
  cir        : Nat := 0
  pir        : Nat := 0
  cbs        : Nat := 0
  pbs        : Nat := 0
  deriving DecidableEq, Repr

/-- CLASSIFIER_SET (Table CA-20). -/
structure ClassCfg where
  valid     : Bool := false
  sMode     : Nat := 0
  cMode     : Nat := 0
  precolour : Nat := 0
  ports     : Nat := 0
  sVid      : Nat := 0
  sMask     : Nat := 0
  cVid      : Nat := 0
  cMask     : Nat := 0
  pcp       : Nat := 0
  pcpMask   : Nat := 0
  etype     : Nat := 0
  etypeMask : Nat := 0
  dscp      : Nat := 0
  dscpMask  : Nat := 0
  policer   : Nat := 0
  queue     : Nat := 0
  ringClass : Nat := 0
  tagOp     : Nat := 0
  tagVid    : Nat := 0
  tagPcp    : Nat := 0
  deriving DecidableEq, Repr

/-- ALLOC_MAP_SET (Table CA-21, R697): `maps` gives the Alloc-ID of each lane that maps the index. -/
structure AllocCfg where
  maps      : Tab (Option Nat) := []
  allocRate : Nat := 1
  runahead  : Nat := 16
  gw        : Nat := 0
  gi        : Nat := 0
  deriving DecidableEq, Repr

/-- XGEM_MAP_SET (Table CA-22). -/
structure XgemCfg where
  valid     : Bool := false
  encrypted : Bool := false
  bonded    : Bool := false
  multicast : Bool := false
  lane      : Nat := 0
  grp       : Nat := 0
  keySlot   : Nat := 0
  destNode  : Nat := 0
  destKind  : Nat := 0
  destIndex : Nat := 0
  cls       : Nat := 0
  ringClass : Nat := 0
  policer   : Nat := 0
  tagOp     : Nat := 0
  tagPcp    : Nat := 0
  tagVid    : Nat := 0
  usQueue   : Nat := 0
  deriving DecidableEq, Repr

/-- MCAST_SET: members are (port, class). -/
structure McastCfg where
  ringClass : Nat := 0
  nodeMask  : Nat := 0
  members   : List (Nat × Nat) := []
  deriving DecidableEq, Repr

/-- POOL_RESERVE_SET (R313). -/
structure PoolCfg where
  minDown : Nat := 16384
  minUp   : Nat := 16384
  minRing : Nat := 16384
  minCp   : Nat := 4096
  deriving DecidableEq, Repr

/-- E1_SET (R526, R529, R532). -/
structure E1Cfg where
  enable  : Bool := false
  framed  : Bool := false
  rising  : Bool := false
  raiAuto : Bool := false
  loopTx  : Bool := false
  crc4    : Nat := 2
  deriving DecidableEq, Repr

/-- CES_SET (Table CA-23). -/
structure CesCfg where
  enable    : Bool := false
  tagEn     : Bool := false
  fillRep   : Bool := false
  pktFrames : Nat := 1
  shedPri   : Nat := 4
  tsMask    : W32 := 0
  da        : List Byte := List.replicate 6 0
  sa        : List Byte := List.replicate 6 0
  tagTci    : Nat := 0
  upQueue   : Nat := 2048
  txLabel   : Nat := 0
  rxLabel   : Nat := 0
  jbDepth   : Nat := 32
  lopsSet   : Nat := 8
  lopsClr   : Nat := 8
  deadline  : Nat := 2
  deriving DecidableEq, Repr

/-- CISTERN_SET (Table CB-5, Table CS-4). -/
structure CisternCfg where
  chgEn     : Bool := true
  vinDiv    : Nat := 10000
  vinFail   : Nat := 9000
  vinOk     : Nat := 10000
  vstoreMin : Nat := 5000
  vstoreMax : Nat := 15000
  dvdt      : Nat := 5
  chgIset   : Nat := 4
  storeDiv  : Nat := 10000
  deriving DecidableEq, Repr

/-- TIDE_SET (R37, R73). -/
structure TideCfg where
  slewPpm : Nat := 50
  holdLim : Nat := 60
  deriving DecidableEq, Repr

/-- The whole configuration. Tables are keyed by object ID, by node for POOL_RESERVE_SET and
CISTERN_SET, by berth for QUOTA. `owner` is the berth plus one; 0 is the operator. `parts` holds for
each worker the committed commands that concern it, opcode and payload, as they are relayed to it at
a join (Table QY-12, step 9). -/
structure Cfg where
  owner   : Tab Nat := []
  quota   : Tab Nat := []
  line    : LineCfg := {}
  lanes   : Tab (Option LaneCfg) := []
  ring    : RingCfg := {}
  ports   : Tab PortCfg := []
  queues  : Tab QueueCfg := []
  sched   : Tab SchedCfg := []
  shapers : Tab ShaperCfg := []
  gates   : Tab GateCfg := []
  policers : Tab PolicerCfg := []
  classes : Tab ClassCfg := []
  allocs  : Tab AllocCfg := []
  xgems   : Tab XgemCfg := []
  mcasts  : Tab McastCfg := []
  pools   : Tab (Option PoolCfg) := []
  e1s     : Tab E1Cfg := []
  ces     : Tab CesCfg := []
  cistern : Tab CisternCfg := []
  tide    : TideCfg := {}
  parts   : Tab (List (Nat × List Byte)) := []
  deriving DecidableEq, Repr

/-- A staged transactional command (R644), its arguments already checked. -/
inductive Setting
  | berth (b op : Nat) (quota : Option Nat) (objs : List Nat)
  | line (c : LineCfg)
  | lane (l : Nat) (c : LaneCfg) (rearm : Bool)
  | ring (c : RingCfg)
  | port (o : Nat) (c : PortCfg)
  | queue (o : Nat) (c : QueueCfg)
  | sched (o : Nat) (c : SchedCfg)
  | shaper (o : Nat) (c : ShaperCfg)
  | gate (o : Nat) (c : GateCfg)
  | policer (o : Nat) (c : PolicerCfg)
  | classifier (o : Nat) (c : ClassCfg)
  | alloc (o lane : Nat) (allocId : Option Nat) (rate runahead gw gi : Nat)
  | xgem (o : Nat) (c : XgemCfg)
  | mcast (o : Nat) (c : McastCfg)
  | pool (node : Nat) (c : PoolCfg)
  | e1 (o : Nat) (c : E1Cfg)
  | ces (o : Nat) (c : CesCfg)
  | cistern (node : Nat) (c : CisternCfg)
  | tide (c : TideCfg)
  deriving DecidableEq, Repr

/-- A staged command (R644): what it sets, the objects it names (R641, R707), and its opcode and payload
as they are relayed to a worker (R663). -/
structure StagedCmd where
  setting : Setting
  named   : List Nat
  opc     : Nat
  payload : List Byte
  deriving DecidableEq, Repr

end Sys2Proof.Machine
end

