-- ==== Sys2Proof/Machine/StateHost.lean ====
section
/-!
DEFINITION. State of the host attachment: mailboxes, transactions, the event block, counters, the
snapshot window, and what the device has sent (`Emission`).
-/

namespace Sys2Proof.Machine

/-- A reply or event message (Table HM-5). -/
structure Msg where
  opc     : Nat
  seq     : Nat
  flags   : Nat
  status  : Nat
  tag     : W32
  payload : List Byte
  deriving DecidableEq, Repr

/-- A deferred operation that is outstanding (R650). `object` names what it runs on. -/
structure Deferred where
  seq    : Nat
  tag    : W32
  opc    : Nat
  object : Nat
  deriving DecidableEq, Repr

/-- An open transaction (R643, R644). -/
structure Txn where
  staged  : List StagedCmd
  bytes   : Nat
  lastCmd : Nat
  deriving DecidableEq, Repr

/-- What an unanswered request waits for. -/
inductive Wait
  | relay (node : Nat)
  | zeroise (slot bank : Nat)
  | recount (queue : Nat)
  | powerMode
  | erase
  | ranging (node : Nat)
  | snapshot
  | maintenance
  deriving DecidableEq, Repr

/-- A request that is taken and not yet answered: its opcode, the request and what it waits for. -/
structure Waiting where
  opc : Nat
  req : Req
  on  : Wait
  deriving DecidableEq, Repr

/-- One mailbox (Tables HM-4, CA-5). -/
structure Mbx where
  reqProd : Nat := 0
  rplCons : Nat := 0
  rplProd : Nat := 0
  reqCons : Nat := 0
  session : Bool := false
  stalled : Bool := false
  lastIgnOpc : Nat := 0
  ignored : Nat := 0
  dropped : Nat := 0
  lastIgnSeq : Nat := 0
  lastIgnCause : Nat := 0
  lastIgnFrame : Nat := 0
  retrans : Nat := 0
  expSeq  : Nat := 0
  lastReq : Option (Nat × W32) := none
  cached  : Option Msg := none
  evtCount : Nat := 1
  held    : List Msg := []
  evtDropped : Nat := 0
  completions : List Msg := []
  deferred : List Deferred := []
  txn     : Option Txn := none
  lastSwitch : Nat := 0
  hostVer : W32 := 0
  waiting : Option Waiting := none
  msgSel  : Tab W32 := []
  deriving DecidableEq, Repr

/-- An accepted commit that awaits its switch-over frame (R645). -/
structure Accepted where
  mbx      : Nat
  frame    : Nat
  staged   : List StagedCmd
  deriving DecidableEq, Repr

/-- The host attachment. -/
structure HostIf where
  mbx      : Tab Mbx := []
  win      : Tab Byte := []
  order    : List Nat := []
  accepted : List Accepted := []
  mbxReady : Bool := false
  pcieUp   : Bool := false
  heartbeat : W32 := 0
  msixTab  : Tab W32 := []
  msixMask : Nat := 0xFF
  msixPend : Nat := 0
  omciSeg  : Option (Nat × List Byte) := none
  deriving DecidableEq, Repr

/-- The event block (Table EV-3). A window is kept as the boundary count at which it closes. -/
structure Events where
  status  : Tab W32 := []
  enable  : Tab W32 := []
  route   : Tab W32 := []
  nodeRoute   : W32 := 0
  nodeSummary : Nat := 0
  windows : Tab Nat := []
  qthFifo : List W32 := []
  qthOvf  : Bool := false
  qthHush : Bool := false
  cntFifo : List W32 := []
  cntOvf  : Bool := false
  cntHush : Bool := false
  reported : Bool := false
  deriving DecidableEq, Repr

/-- A snapshot that is latched and not yet in the window: its selection's object, the Tide word of the
latch and the values. -/
structure SnapFill where
  object : Nat
  tide   : Nat
  vals   : List Nat
  deriving DecidableEq, Repr

/-- The snapshot window and selection (Table EV-9, R718 to R720). -/
structure Snapshot where
  object  : Nat := 0
  count   : Nat := 0
  filling : Option SnapFill := none
  seq     : W32 := 0
  tide    : Nat := 0
  winObj  : Nat := 0
  winCount : Nat := 0
  vals    : List Nat := []
  asker   : Option Nat := none
  deriving DecidableEq, Repr

/-- An upstream PLOAM message (Table LN-5). -/
inductive PloamUp
  | serialNumber (serial : BitVec 64) (delay : Nat)
  | registration (regId : List Byte)
  | acknowledge (seqno code : Nat)
  | keyReport (bank : Nat) (wrapped : BitVec 128)
  | rogueNotice
  | dyingGasp
  deriving DecidableEq, Repr

/-- One XGEM frame of a launched burst (R212, R220, R246): XGEM port ID (none where no port maps the queue), key index,
LF bit, and the payload as sent: tag, packet bytes, FCS, encrypted. -/
structure UpXgem where
  port     : Option Nat
  keyIndex : Nat
  lf       : Bool
  payload  : List Byte
  deriving DecidableEq, Repr

/-- A launched burst (R192, R193, R201): its lane, launch tick and bits of delay, the burst profile's index, whether
that profile has FEC, whether it continues the burst before (R189), the dying-gasp indication (R172), DBRu, PLOAMu,
XGEM frames and words of idle XGEM frames. -/
structure BurstOut where
  lane    : Nat
  launch  : Nat
  trim    : Nat
  profile : Nat
  fec     : Bool
  cont    : Bool
  dg      : Bool
  dbru    : Option Nat
  ploam   : Option PloamUp
  frames  : List UpXgem
  idle    : Nat
  deriving DecidableEq, Repr

/-- What the device sends or drives, newest first in `State.out`. `frame` gives the bytes that a subscriber port sends,
from the destination address through the FCS. `ben` gives the instants at which BEN rises
and falls, `cut` the end of a burst in progress that is cut, `rssi` the edges of a lane's RSSI_TRIG, all in
eighths of a tick, `i2c` the clocks of a bus recovery, which a STOP follows (R912, R913). -/
inductive Emission
  | msix (vector : Nat)
  | ploam (lane : Nat) (m : PloamUp)
  | omci (lane : Nat) (msg : List Byte)
  | burst (b : BurstOut)
  | ben (lane rise fall : Nat)
  | cut (lane at_ : Nat)
  | rssi (lane rise fall : Nat)
  | ctrl (lane : Nat) (m : CtrlMsg) (x : UpXgem)
  | frame (port : Nat) (bytes : List Byte)
  | e1 (port : Nat) (bytes : List Byte)
  | e1Ts0 (port : Nat) (ts0 : Byte)
  | ringFrame (side lane : Nat) (wire : List Byte)
  | flash (addr : Nat) (bytes : List Byte)
  | uart (text : List Char)
  | i2c (master clocks : Nat)
  | read (addr : Nat) (value : W32)
  | pin (name : String) (high : Bool)
  deriving DecidableEq, Repr

/-- One logbook record (Table ST-7), before its coding. -/
structure LogRecord where
  no    : Nat
  tide  : Nat
  kind  : Nat
  node  : Nat
  vin   : Bool
  unanch : Bool
  fw    : W32
  data  : List Byte
  deriving DecidableEq, Repr

/-- The logbook: the data units of the region, each with up to eight records (R605, R607), the number of the data unit
that is written next, records in the retained buffer (newest last), the number of the next record. -/
structure Logbook where
  region : List (List LogRecord) := []
  unit   : Nat := 0
  buffer : List LogRecord := []
  next   : Nat := 0
  lastFlush : Nat := 0
  deriving DecidableEq, Repr

end Sys2Proof.Machine
end

