-- ==== Sys2Proof/Machine/StateRing.lean ====
section
/-!
DEFINITION. State of the Quay ring: receivers, sides, protection, credit links, transit stores, DCC
peers, the node table and the join machine.
-/

namespace Sys2Proof.Machine

/-- A DCC message that is not acknowledged: its bytes as first sent (R601), transmissions made and the frame of the last
(R469). -/
structure Unacked where
  msg    : DccMsg
  wire   : List Byte
  sends  : Nat
  frame  : Nat
  deriving DecidableEq, Repr

/-- One DCC peer (R467 to R470): sequence state toward and from it with the counts of MSG_SEQ wraps (R601), and
messages that wait because eight are unacknowledged. -/
structure Peer where
  nextSeq : Nat := 1
  lastDelivered : Nat := 0
  txWraps : Nat := 0
  rxWraps : Nat := 0
  unacked : List Unacked := []
  queue   : List DccBody := []
  deriving DecidableEq, Repr

/-- One ring lane (R426, R427, R430, R431, R436). `good` and `bad` are consecutive alignment patterns; `oof` the
frames out of frame; `value` the VALUE expected in the next frame; `cand` and `candN` a changed VALUE and how often it
has been seen; `badPtr` consecutive invalid pointers; `bip80` and `bip8000` the errored frames of windows of 80 and
8,000 frames, `win80` and `win8000` the frames counted in them. Of the receiver, `rxScr` is the descrambler's state,
`rxBip` the parity of the last frame, `rxNo` the number of the last frame counted on from 0, `rxCut` the container that
the last frame's end cut with its place, `rxDone` the containers received and not yet merged with the other lane's, each
with its place, `rxSlots` likewise the DCC slots with the number of their frame. Of the transmitter, `txScr` and `txBip` are the same, `txCut` the bytes of the container that the frame's
end cut, whose number is the next VALUE, and `newPtr` marks a new pointer to be sent. -/
structure RingLane where
  good    : Nat := 0
  bad     : Nat := 0
  inFrame : Bool := false
  oof     : Nat := 0
  lof     : Bool := false
  value   : Nat := 0
  cand    : Nat := 0
  candN   : Nat := 0
  badPtr  : Nat := 0
  lop     : Bool := false
  los     : Bool := false
  bip80   : Nat := 0
  win80   : Nat := 0
  bip8000 : Nat := 0
  win8000 : Nat := 0
  rxScr   : BitVec 58 := 0
  rxBip   : Option Byte := none
  rxNo    : Nat := 0
  rxCut   : Option (Nat × List Byte) := none
  rxDone  : List (Nat × Container) := []
  rxSlots : List (Nat × List Byte) := []
  txScr   : BitVec 58 := 0
  txBip   : Byte := 0
  txCut   : List Byte := []
  newPtr  : Bool := false
  deriving DecidableEq, Repr

/-- One ring side (Tables QY-7 to QY-9, QY-14). `lane0Bad` tells that RING_LANE_0's last overhead
failed (R432). `onlyLabel` marks an SF that label SF alone caused, `faultNeighbour` the neighbour when
the defect was declared (R463, R464). `farWrap` marks a wrap for a request of the far end. `txReq` is
the node's own request for its span on this side; `cmd` the forced (7) or manual (3) switch that it
carries there. `managerSeen` marks a second manager (R17). `due` is a justification that waits (1 positive, 2 negative)
and `justHold` the frames that must pass before the next one (R435); `lastTx` is one more than the number of the Tide
frame in which the last ring frame was sent. `dccTx` holds the DCC slots to be sent, each with
whether a message of this node begins in it, `dccRx` the slots of a message that is arriving (R465). -/
structure RingSide where
  neighbour : Nat := 0
  neighCand : Nat := 0
  neighN  : Nat := 0
  reqRx   : Nat := 0
  spanFar : Nat := 0
  longRx  : Bool := false
  reqCand : Nat × Nat × Bool := (0, 0, false)
  reqN    : Nat := 0
  labelRx : Nat := 0
  labelCand : Nat := 0
  labelN  : Nat := 0
  lane0Bad : Bool := true
  skew    : Bool := false
  bipSf   : Bool := false
  labelSf : Bool := false
  sd      : Bool := false
  sf      : Bool := false
  onlyLabel : Bool := false
  faultNeighbour : Nat := 0
  wrapped : Bool := false
  farWrap : Bool := false
  wtr     : Bool := false
  trained : Bool := false
  txReq   : Nat := 0
  cmd     : Nat := 0
  managerSeen : Bool := false
  prbs    : Bool := false
  due     : Nat := 0
  justHold : Nat := 0
  lastTx  : Nat := 0
  mirror  : W32 := 0
  dccTx   : List (Bool × List Byte) := []
  dccRx   : List Byte := []
  deriving DecidableEq, Repr

/-- The source end of a credit link (R446, R450, R452). -/
structure CreditLink where
  held   : Nat := 0
  sent   : Nat := 0
  cum    : Nat := 0
  epoch  : Bool := false
  reinit : Bool := false
  moved  : Nat := 0
  deriving DecidableEq, Repr

/-- The destination end of a credit link (R447). -/
structure CreditEnd where
  consumed : Nat := 0
  epoch    : Bool := false
  deriving DecidableEq, Repr

/-- An entry of the manager's node table (R418), with the membership record kept beside it. `member`
is Table CA-12's MEMBER code; `pos` the eastward position on the ring; `since` the elapsed time since
which the entry is absent or joining. -/
structure NodeEntry where
  used    : Bool := false
  serial  : BitVec 64 := 0
  gen     : Nat := 0
  east    : BitVec 64 := 0
  west    : BitVec 64 := 0
  nonce   : Option (BitVec 64) := none
  member  : Nat := 0
  since   : Nat := 0
  joinedAt : Nat := 0
  holdoff : Nat := 2
  holdEnd : Nat := 0
  version : W32 := 0
  pos     : Nat := 0
  deriving DecidableEq, Repr

/-- A worker's join attempt (Table QY-12): 0 none, 1 bypass open and training, 2 JOIN_REQ sent,
3 accepted, 4 ring boot, 5 ranging, 6 Tide taken, 7 credits, 8 JOIN_COMPLETE sent. `image` is what has arrived of an
image by the DCC, from node `imgFrom`; `imgDone` tells that it is whole. -/
structure JoinState where
  step    : Nat := 0
  joined  : Bool := false
  joinedAt : Nat := 0
  holdoff : Nat := 2
  holdEnd : Nat := 0
  nonce   : BitVec 64 := 0
  mgrNonce : BitVec 64 := 0
  newNonce : Bool := true
  version : W32 := 0
  image   : List Byte := []
  imgFrom : Nat := 0
  imgDone : Bool := false
  gen     : Nat := 0
  bypOpen : Bool := false
  lostMgr : Bool := false
  deriving DecidableEq, Repr

/-- A packet that is being reassembled from containers (R444): its bytes, the cells it holds, its owner
and queue, TRUNC and BAD so far, and whether it has been refused a cell (R315). -/
structure Reasm where
  bytes : List Byte := []
  cells : Nat := 0
  owner : Nat := 0
  queue : Nat := 0
  trunc : Bool := false
  bad   : Bool := false
  dropped : Bool := false
  deriving DecidableEq, Repr

/-- The ring block. `links` and `ends` are keyed (source × 16 + destination) × 8 + class; `transit`
and `rr` by side × 8 + ring class; `reasm` by source × 8 + class; `lanes` by side × 2 + lane;
`returns` holds the credit return records that wait on each side's output; `holdoffs` the hold-offs
recorded for serial numbers without an entry (R477), as instants of elapsed time; `refused` the serial
numbers refused once for their VERSION (R868); `enabled` tells that the data path carries containers;
`relayed` holds, on a worker, opcode, SEQ and mailbox of the relayed craft requests that it has not yet
answered. -/
structure Ring where
  node    : Nat := 0
  lanes   : Tab RingLane := []
  sides   : Tab RingSide := []
  links   : Tab CreditLink := []
  ends    : Tab CreditEnd := []
  transit : Tab (List Container) := []
  returns : Tab (List CreditRec) := []
  reasm   : Tab (Option Reasm) := []
  peers   : Tab Peer := []
  nodes   : Tab NodeEntry := []
  working : Tab Nat := []
  collecting : Option (List JoinRequest) := none
  join    : JoinState := {}
  rr      : Tab Nat := []
  altTransit : Tab Bool := []
  altReply : Tab Bool := []
  holdoffs : List (BitVec 64 × Nat) := []
  refused : List (BitVec 64) := []
  enabled : Bool := false
  relayed : List (Nat × Nat × Nat) := []
  deriving DecidableEq, Repr

end Sys2Proof.Machine
end

