-- ==== Sys2Proof/Machine/StatePool.lean ====
section
/-!
DEFINITION. State of the cell pool, the queues, the ledger, the schedulers, the gates and the
policers.
-/

namespace Sys2Proof.Machine

/-- A packet in the pool: its bytes, the CHECK of its last descriptor, TRUNC and BAD (Table CL-1),
and its owner (0 the operator, otherwise berth plus one). `sent` is the offset of the part of it that
is bound to committed caravans (R216), `out` the byte ranges that have been launched, whose cells are free
again (R217), `no` a number that tells bound packets apart (0 before); `dest` is the queue at the destination node
of a packet in a ring egress queue. `writer` names the entry point that still writes the packet, 0 once its
last cell is written (R310): port p is p + 1. `key` is the key
index and the key that the packet latched at its first byte (R212). -/
structure Packet where
  bytes : List Byte
  check : W32 := 0
  trunc : Bool := false
  bad   : Bool := false
  owner : Nat := 0
  sent  : Nat := 0
  out   : List (Nat × Nat) := []
  no    : Nat := 0
  dest  : Nat := 0
  writer : Nat := 0
  key   : Option (Nat × BitVec 128) := none
  deriving DecidableEq, Repr

/-- A token bucket (R338): tokens in units of one byte's 1/(8 × 6.2208 × 10⁹) part, so that a rate
of one bit per second adds exactly one unit per tick; `last` is the elapsed-time instant to which it
is accrued. -/
structure Bucket where
  tok  : Nat := 0
  last : Nat := 0
  deriving DecidableEq, Repr

/-- One queue (R293): its complete packets, head first; whether its head is being transmitted; the
threshold state of R299 to R301; a flush that waits for the packet being transmitted or for the end
of a recount, as the number of packets it frees; its DRR deficit; its calendar state (release instant
in elapsed time, and whether it is parked) and its buckets (A: CIR or EGR; B: PIR). -/
structure Queue where
  pkts    : List Packet := []
  sending : Bool := false
  unread  : Bool := false
  above   : Bool := false
  flush   : Option Nat := none
  deficit : Int := 0
  release : Option Nat := none
  parked  : Bool := false
  bktA    : Bucket := {}
  bktB    : Bucket := {}
  deriving DecidableEq, Repr

/-- A latched ledger (Table CL-8). -/
structure Latch where
  frame  : Nat := 0
  free   : Nat := 0
  queued : Nat := 0
  staged : Nat := 0
  ring   : Nat := 0
  test   : Nat := 0
  cp     : Nat := 0
  deriving DecidableEq, Repr

/-- The cell pool and its ledger. The class counts are registers of the device, moved with every
cell; the audit compares them with 262,144 (R318). `cuts` are the bad links (queue, packet position)
that a recount's walk meets (R321); `grantBad` counts for each lane the bursts committed since the last
audit whose words do not add up (R318). -/
structure Pool where
  queues  : Tab Queue := []
  free    : Nat := 262144
  queued  : Nat := 0
  staged  : Nat := 0
  ring    : Nat := 0
  test    : Nat := 0
  cp      : Nat := 0
  retired : Nat := 0
  latch   : Latch := {}
  recount : Bool := false
  cellBrk : Bool := false
  creditBrk : Bool := false
  tokenBrk : Bool := false
  grantBrk : Bool := false
  recounts : Nat := 0
  breaches : Nat := 0
  recountAt : List Nat := []
  grantBad : Tab Nat := []
  low     : Bool := false
  borrowed : Nat := 0
  cuts    : List (Nat × Nat) := []
  deriving DecidableEq, Repr

/-- The gate lists of a port (R363): the operational list, the administrative bank with its swap
instant (an absolute Tide word in ticks), and the gates in force. -/
structure Gate where
  oper  : Option GateCfg := none
  admin : Option (GateCfg × Nat) := none
  mask  : Nat := 0xFF
  deriving DecidableEq, Repr

/-- The two buckets of a policer. -/
structure PolicerState where
  c : Bucket := {}
  p : Bucket := {}
  deriving DecidableEq, Repr

/-- Schedulers: DRR pointers (ports, then 16 + Alloc-ID index), gates, policers. A
pointer is the number of the queue in its turn plus one, 0 none. -/
structure Sched where
  drrPtr   : Tab Nat := []
  gates    : Tab Gate := []
  policers : Tab PolicerState := []
  deriving DecidableEq, Repr

end Sys2Proof.Machine
end

