-- ==== Sys2Proof/Machine/StateTide.lean ====
section
/-!
DEFINITION. State of Tide, its comparators and its workers' ranging, and of the root clock, the
multiplexers and the gates.
-/

namespace Sys2Proof.Machine

/-- Tide states (Table TD-2). -/
inductive TideState
  | unanchored
  | anchored
  | holdover
  | slewing
  deriving DecidableEq, Repr

/-- One alarm comparator (R54 to R60): target as frame and tick, period likewise, action mask. -/
structure Alarm where
  enable  : Bool := false
  frame   : Nat := 0
  tick    : Nat := 0
  perF    : Nat := 0
  perT    : Nat := 0
  event   : Bool := false
  snap    : Bool := false
  fired   : Bool := false
  deriving DecidableEq, Repr

/-- TIDE_PULSE (R62 to R67, R970). `next` is the next rising edge and `fall` the end of the pulse in
progress, both in ticks from Tide zero. -/
structure Pulse where
  enable  : Bool := false
  holdOff : Bool := false
  width   : Nat := 800
  base    : Nat := 0
  next    : Nat := 0
  high    : Bool := false
  fall    : Nat := 0
  deriving DecidableEq, Repr

/-- Ranging of one worker (R48, R50, R78): the last round trip of each side, the successive differences
above 2 ticks, for each side whether a failed measurement waits for its retry (R79), and
the exchanges made on each side since the worker was accepted (Table QY-12, step 5). The manager keeps
one for each worker, a worker its own under node 0. -/
structure Ranger where
  rttEast : Nat := 0
  rttWest : Nat := 0
  diffEast : Nat := 0
  diffWest : Nat := 0
  retryEast : Bool := false
  retryWest : Bool := false
  nEast   : Nat := 0
  nWest   : Nat := 0
  deriving DecidableEq, Repr

/-- Tide (Tables TD-2, TD-5). `frame` and `tick` are the Tide word. `holdAcc` and `holdRun` measure
HOLD_AGE in ticks of elapsed time. `deciding` is the interval between regaining lock and R35's
decision; `stepAt` the count of the frame at whose start a decided step is applied, and the Tide in ticks
that is reached there before it (R39); `error` and `errAt` the error E at an elapsed instant. On a worker,
`announced` is the manager's step in the same form (R52), `offEast` and `offWest` are halves of its round
trips, `timingWest` its timing side and `timingNext` the side that it takes at the next frame boundary
(R51), `ranged` tells that it has been ranged in this join (R77), and `corr`, `corrAt` are a measured
correction that it applies by slewing and the elapsed instant at which it began (R50). -/
structure Tide where
  frame   : Nat := 0
  tick    : Nat := 0
  state   : TideState := .unanchored
  hi      : W32 := 0
  stepCnt : Nat := 0
  anchor  : Nat := 0
  holdAcc : Nat := 0
  holdRun : Option Nat := none
  limitRaised : Bool := false
  deciding : Bool := false
  stepAt  : Option (Nat × Nat) := none
  error   : Int := 0
  errAt   : Nat := 0
  alarms  : Tab Alarm := []
  pulse   : Pulse := {}
  rangers : Tab Ranger := []
  announced : Option (Nat × Nat) := none
  offEast : Nat := 0
  offWest : Nat := 0
  timingWest : Bool := false
  timingNext : Option Bool := none
  ranged  : Bool := false
  corr    : Int := 0
  corrAt  : Nat := 0
  deriving DecidableEq, Repr

/-- One clock multiplexer (Table CK-3, R97 to R100): the selected source, the pending switch, a request that
waits for it, and whether the output is held low because neither source shows an edge (R99). -/
structure ClkMux where
  selB    : Bool := false
  pending : Option Bool := none
  queued  : Option Bool := none
  low     : Bool := false
  deriving DecidableEq, Repr

/-- A host access that arrives during a root clock hold and completes after its release (R111). -/
inductive HostAccess
  | write (addr : Nat) (value : W32) (byteEnables : BitVec 4)
  | spiWrite (addr : Nat) (words : List W32) (cutShort : Bool)
  | spiRead (addr : Nat) (words : Nat)
  | read (addr : Nat)
  deriving DecidableEq, Repr

/-- The root clock, CLK_STATUS and CLK_GATE (Tables CK-4, CK-7). `starting` holds the gate bits whose
clock has not yet started (R105); `running` tells that the dividers have started (R90); `holdDrops` counts
the packets discarded during root clock holds, which nothing shows (DESIGN CHOICE, log 102), and `waiting` holds the host accesses that wait for the end of
one, oldest first (R111). -/
structure Clocks where
  oscOn   : Bool := false
  xoOk    : Bool := false
  xoRestarts : Nat := 0
  xoThr   : Nat := 4
  refFailed : Bool := false
  refSrc  : Bool := false
  rootLock : Bool := false
  running : Bool := false
  steered : Bool := false
  aonCal  : Bool := false
  coreSave : Bool := false
  coreReq : Option Bool := none
  cpOnRef : Bool := false
  ethRef  : Bool := false
  pcieRef : Bool := false
  rootHold : Bool := false
  laneHold : Nat := 0
  gate    : W32 := 0
  starting : W32 := 0
  muxes   : Tab ClkMux := []
  fdiv    : Nat := 623
  holdDrops : Nat := 0
  waiting : List HostAccess := []
  deriving DecidableEq, Repr

end Sys2Proof.Machine
end

