-- ==== Sys2Proof/Machine/StateLine.lean ====
section
/-!
DEFINITION. State of the line lanes, the caravan engine and the bonding groups.
-/

namespace Sys2Proof.Machine

/-- Activation states (Table LN-3); the ACT_STATE code is the constructor's place. -/
inductive Act
  | off
  | o11
  | o12
  | o23
  | o4
  | o5
  | o6
  | o7
  deriving DecidableEq, Repr

/-- The ACT_STATE code (Table LN-3). -/
def Act.code : Act → Nat
  | .off => 0
  | .o11 => 1
  | .o12 => 2
  | .o23 => 3
  | .o4 => 4
  | .o5 => 5
  | .o6 => 6
  | .o7 => 7

/-- A stored burst profile (R143); `since` is the count of the downstream frame that carried it: it
applies to BWmaps of other, later, frames. -/
structure BurstProfile where
  index     : Nat
  preamble  : Nat
  delimiter : Nat
  fec       : Bool
  since     : Option Nat
  deriving DecidableEq, Repr

/-- An equalisation delay as held (R140). -/
structure Eqd where
  ticks : Nat := 0
  trim  : Nat := 0
  deriving DecidableEq, Repr

/-- One remembered unicast downstream message with its response (R147). -/
structure PloamMemo where
  seqno : Nat
  msg   : PloamMsg
  resp  : Option PloamUp
  deriving DecidableEq, Repr

/-- A bonding control message that is not acknowledged (R267). -/
structure CtrlWait where
  msg     : CtrlMsg
  resends : Nat
  deriving DecidableEq, Repr

/-- One line lane. `lastDs` is the count of the downstream frame received last; `eqdOld` holds for the
BWmap of the frame `eqdFrom`, `eqd` for every later one. Held PLOAM messages
are those of a warm CP restart (R874). `parts` gives for an XGEM port the bytes of a packet in
reassembly and whether it has lost a fragment. `served` counts structures served in the frame `servedIn`;
`lastEnd` is the end and the trim of the allocation before in the BWmap, if it was served; `spans`
the bursts on the line, in eighths of a tick; `burst` the first and the last bit of the burst launched last with
the allocations that continue it, likewise (R160, R189). `winCw`, `winCorr` and `winUncorr` are the codewords, the
corrected symbols and the uncorrectable codewords of the window of R180; `omciRest` is the partly sent OMCI message; `skew` is measured every frame (R263) and `skewRun` counts the
consecutive frames with too much of it (R264); `rssiAt` the boundary count of the
last RSSI_TRIG (R165); `grantBrk` those of the last GRANT_WORDS breaches (R326); `mirror` the word of
LN_STATUS, refreshed at each frame boundary (R179). -/
structure LaneState where
  act     : Act := .off
  actFrame : Nat := 0
  onuId   : Option Nat := none
  eqd     : Eqd := {}
  eqdOld  : Eqd := {}
  eqdFrom : Option Nat := none
  los     : Bool := false
  sync    : Bool := false
  sd      : Bool := false
  sf      : Bool := false
  txDis   : Bool := true
  dgSent  : Bool := false
  rogue   : Bool := false
  rogueLatch : Bool := false
  rogueAt : List Nat := []
  profiles : List BurstProfile := []
  allocs  : List Nat := []
  memo    : List PloamMemo := []
  upq     : List PloamUp := []
  omciRest : Option Packet := none
  heldPloam : List (PloamHdr × PloamMsg) := []
  parts   : Tab (Option (List Byte × Bool)) := []
  skew    : Int := 0
  skewRun : Nat := 0
  served  : Nat := 0
  servedIn : Nat := 0
  lastEnd : Option (Nat × Nat) := none
  spans   : List (Nat × Nat) := []
  burst   : Option (Nat × Nat) := none
  winCw   : Nat := 0
  winCorr : Nat := 0
  winUncorr : Nat := 0
  rssiAt  : Nat := 0
  grantBrk : List Nat := []
  mirror  : W32 := 0xFFC00200
  keyUp   : Nat := 0
  shedTherm : Bool := false
  lastDs  : Option Nat := none
  deriving DecidableEq, Repr

/-- A packet staged by run-ahead (R204 to R207): the boundary count at staging, its tier (R349), and
the DRR pointer and DEFICIT changes that its provisional rounds gave it (R973). -/
structure Staged where
  queue  : Nat
  packet : Packet
  frame  : Nat
  tier   : Nat
  ptr    : Nat
  deltas : List (Nat × Int)
  deriving DecidableEq, Repr

/-- One item of a committed burst: a packet, or a fragment of it: first byte, byte count (the FCS
counted), last fragment; the tier that it debited; the bonding SEQ of a member's fragment; the bank of
the lane's unicast slot (1 or 2) in use at its commit, 0 for a packet in clear; whether it was staged. -/
structure BurstItem where
  queue    : Nat
  packet   : Packet
  first    : Nat
  len      : Nat
  last     : Bool
  tier     : Nat
  seq      : Option Nat
  key      : Nat
  staged   : Bool
  deriving DecidableEq, Repr

/-- A caravan committed and not yet launched. `start` and `stop` bound its bits in eighths of a tick;
`queued` marks a PLOAM message that came from the lane's queue; `cont` one that continues a burst
(R189). -/
structure Caravan where
  lane    : Nat
  alloc   : Nat
  index   : Option Nat
  launch  : Nat
  trim    : Nat
  start   : Nat
  stop    : Nat
  grant   : Nat
  data    : Nat
  idle    : Nat
  ovh     : Nat
  dbru    : Option Nat
  ploam   : Option PloamUp
  queued  : Bool
  items   : List BurstItem
  profile : Nat
  fec     : Bool
  cont    : Bool
  dg      : Bool
  deriving DecidableEq, Repr

/-- A partly bound packet: its queue, the packet with the offset bound so far, its tier and its key. -/
structure Rest where
  queue  : Nat
  packet : Packet
  tier   : Nat
  key    : Nat
  deriving DecidableEq, Repr

/-- Per Alloc-ID index (or group) run-ahead state (R203 to R209): served grant sizes by lane, newest
first, staged packets in staging order, the partly sent packet, the window of R209. -/
structure AllocState where
  grants  : Tab (List Nat) := []
  staged  : List Staged := []
  rest    : Option Rest := none
  winStart : Nat := 0
  winStaged : Nat := 0
  winRewound : Nat := 0
  suspended : Option Nat := none
  deriving DecidableEq, Repr

/-- A held downstream fragment (R255). -/
structure HeldFrag where
  seq     : Nat
  first   : Bool
  last    : Bool
  bytes   : List Byte
  arrival : Nat
  port    : Nat
  deriving DecidableEq, Repr

/-- One bonding group's dynamic state. `lanes` is the mask of operating members, `shared` the mask of
lanes that both ends configure (R269); `exp` is none before R253's first fragment; `drop` is R258's
discard of fragments without FIRST; `building` the packet in assembly with its port; `up` tells that the group
has come up and is not down (R275). -/
structure GroupState where
  lanes   : Nat := 0
  up      : Bool := false
  shared  : Nat := 0xF
  txSeq   : Nat := 0
  exp     : Option Nat := none
  frags   : List HeldFrag := []
  timer   : Option Nat := none
  drop    : Bool := false
  building : Option (Nat × List Byte) := none
  msgSeq  : Nat := 0
  waits   : List CtrlWait := []
  acted   : List Nat := []
  deriving DecidableEq, Repr

/-- A lane's rejoin state (R276, R277). -/
structure JoinLane where
  hold   : Nat := 8000
  inGroup : Bool := false
  rejoinAt : Nat := 0
  o5Since : Nat := 0
  upAcked : Bool := false
  upSent : Bool := false
  deriving DecidableEq, Repr

/-- The line. `omciHeld` holds the undelivered OMCI messages with their lanes in arrival order, the first
with the bytes that are not yet delivered (R156, R157); `dg` tells that the Cistern requests a dying gasp
(R172). -/
structure Line where
  lanes   : Tab LaneState := []
  allocs  : Tab AllocState := []
  pending : List Caravan := []
  groups  : Tab GroupState := []
  joins   : Tab JoinLane := []
  o7Store : Nat := 0
  laneIdle : Tab Nat := []
  omciHeld : List (Nat × List Byte) := []
  dg      : Bool := false
  deriving DecidableEq, Repr

end Sys2Proof.Machine
end

