-- ==== Sys2Proof/Machine/StatePorts.lean ====
section
/-!
DEFINITION. State of the subscriber ports, the E1 ports with their circuits, and the cipher.
-/

namespace Sys2Proof.Machine

/-- A frame that a port is transmitting: its queue, its packet, and the accounted length debited at its start. -/
structure TxFrame where
  queue  : Nat
  packet : Packet
  charged : Nat
  deriving DecidableEq, Repr

/-- What becomes of a frame that is being received: not yet classified, written to its queue, refused a cell
(R315), ended by its consumer's underrun (R505), or thrown away. -/
inductive RxWrite
  | waiting
  | open_
  | refused
  | underrun
  | lost
  deriving DecidableEq, Repr

/-- A frame of which the receive MAC has taken a part: its bytes so far, what becomes of it, and the classifier
entry that it matched, by object ID. -/
structure RxFrame where
  bytes : List Byte := []
  write : RxWrite := .waiting
  cls   : Option (Nat × ClassCfg) := none
  deriving DecidableEq, Repr

/-- One subscriber port. `fault` is the FAULT code of Table CA-14, `paused` gives for each class the
elapsed-time instant at which its pause ends, `pauseBerths` the owners whose quota holds PAUSE_TX
(R509). `heldQueues` marks a port taken down under R513; `idle` tells that the SerDes transmitter sends electrical
idle (R517). -/
structure Port where
  link    : Bool := false
  linkFrame : Nat := 0
  fault   : Nat := 0
  anRate  : Option Nat := none
  phyLink : Bool := false
  phyStatus : Nat := 0
  paused  : Tab Nat := []
  pauseBerths : List Nat := []
  tx      : Option TxFrame := none
  rx      : Option RxFrame := none
  heldQueues : Bool := false
  idle    : Bool := true
  deriving DecidableEq, Repr

/-- One E1 port and its circuit. `slip` holds the received frames that are complete and unread (at
most 2); `start` is the boundary count at which the packet `nextSeq` starts to play; `margins` the
start-instant-minus-arrival of the last 64 arrivals, newest first (R552); `played` the SEQ of the packets
played that still lie behind the next one (R550); `txq` the frames of the packet being played that are still to be
sent, `skip` that the next packet loses its first frame (R552). `rxPos` is the place of the next received frame in the
CRC-4 multiframe, `rxCrc` the remainder of the sub-multiframe being received, `rxC` the CRC bits received in it and
`rxPrev` the remainder of the one before; `errI` and `errII` the received block errors that the E bits report (R530);
`txCrc` and `txC` the remainder of the sub-multiframe being sent and that of the one before. `mirror` is the word of
E1_STATUS, refreshed at each frame boundary (R559). The jitter buffer is queue 1208 + p of the pool. -/
structure E1 where
  rclkLost : Bool := false
  slip    : List (List Byte) := []
  lastRead : List Byte := []
  crc4On  : Bool := false
  defects : BitVec 6 := 0
  gather  : List (List Byte) := []
  txSeq   : Nat := 0
  playing : Bool := false
  start   : Nat := 0
  nextSeq : Nat := 0
  margins : List Int := []
  sinceSlip : Nat := 64
  lostRun : Nat := 0
  playRun : Nat := 0
  played  : List Nat := []
  lops    : Bool := false
  rRx     : Bool := false
  lRx     : Bool := false
  lastPlayed : List Byte := []
  txq     : List (List Byte) := []
  skip    : Bool := false
  shed    : Bool := false
  rxPos   : Nat := 0
  rxCrc   : Nat := 0
  rxC     : Nat := 0
  rxPrev  : Option Nat := none
  errI    : Bool := false
  errII   : Bool := false
  txCrc   : Nat := 0
  txC     : Nat := 0
  mirror  : W32 := 0
  deriving DecidableEq, Repr

/-- One bank of a line key slot: the key in force, the shadow that waits (R588), whether an erased
key awaits its zeroisation (R592), and whether the bank has been erased since the last write (R590). -/
structure Bank where
  key     : Option (BitVec 128) := none
  shadow  : Option (BitVec 128) := none
  erasing : Bool := false
  erased  : Bool := false
  deriving DecidableEq, Repr

/-- The health tests of the entropy source (R575): the last raw sample and how often it has come in a row; the first
sample of the window of 1,024, how many of the window have come and how many of them were like it. -/
structure Health where
  last   : Bool := false
  run    : Nat := 0
  first  : Bool := false
  seen   : Nat := 0
  same   : Nat := 0
  deriving DecidableEq, Repr

/-- A masked job that waits (R572): the message and the offset of the part of it that the job covers. -/
structure MaskPart where
  job : MaskJob
  off : Nat
  deriving DecidableEq, Repr

/-- A masked engine: the key that its last job latched (R596), whether that job ended with LEN_ERR (R574), and its
output. -/
structure MaskEngine where
  key    : List Byte := []
  lenErr : Bool := false
  out    : List Byte := []
  deriving DecidableEq, Repr

/-- The cipher block. `health`, `raw` and `seed` are the entropy source's tests, the raw samples that are not
conditioned yet, and the conditioned bits for the next seed (R575, R577). `turn` is the line engine that is next in turn
and `busy` the instants at which each is free again (R566); `jobs` are the masked jobs that wait, in arrival order, and
`masked` the two masked engines (R571). `banks` is keyed slot × 2 + bank index; `vault` by vault slot 0 to 31 (Table
CY-2); `session` holds the session key derived for each lane (R152); `shares` numbers the mask that splits the vault's
contents in two shares (R594); `startCount` stands in the configuration store (R581). -/
structure Cipher where
  banks   : Tab Bank := []
  vault   : Tab (Option (BitVec 128)) := []
  session : Tab (Option (BitVec 128)) := []
  mskLoaded : Nat := 0
  entropyOk : Bool := false
  drbgReady : Bool := false
  dccChain : Bool := false
  storeOk : Bool := false
  startCount : Nat := 0
  bootNonce : BitVec 64 := 0
  shares  : Nat := 0
  health  : Health := {}
  raw     : List Bool := []
  seed    : List Byte := []
  turn    : Nat := 0
  busy    : Tab Nat := []
  jobs    : List MaskPart := []
  masked  : Tab MaskEngine := []
  deriving DecidableEq, Repr

end Sys2Proof.Machine
end

