-- ==== Sys2Proof/Machine/StateBoard.lean ====
section
/-!
DEFINITION. State of the board side: rails and power states, thermal steps, the Cistern, the load
switches, flash and firmware, the craft port, the I2C masters and the GPIO pins.
-/

namespace Sys2Proof.Machine

/-- What the rail sequencer is doing. -/
inductive Seq
  | off
  | up (k : Nat)
  | retryWait
  | on
  | down (k : Nat)
  | mooredDown (k : Nat)
  | mooredUp (k : Nat)
  deriving DecidableEq, Repr

/-- Power states as the device is in them (Table PW-2), with the drain of a MOORED or BEACHED entry. -/
inductive Pwr
  | run
  | idle
  | draining
  | halting
  | moored
  | beached
  deriving DecidableEq, Repr

/-- The wake record of the AON domain (Table PW-6), field by field; `valid` false stands for a CRC
that fails (R808). -/
structure WakeRecord where
  valid   : Bool := false
  cause   : Nat := 0
  o7      : Nat := 0
  retVoid : Bool := false
  fullTest : Bool := false
  thermal : Bool := false
  rail    : Nat := 0
  phase   : Nat := 0
  nonce   : BitVec 64 := 0
  entryTide : Nat := 0
  timer   : Nat := 0
  mask    : Nat := 0
  wakeCause : Nat := 0
  deriving DecidableEq, Repr

/-- A power-state entry that waits for its boundary or runs (R722, R797, R813). -/
structure Entry where
  beached : Bool := false
  thermal : Bool := false
  drainMs : Nat := 0
  wake    : Nat := 0
  timer   : Nat := 0
  at_     : Nat := 0
  deriving DecidableEq, Repr

/-- Rails and power. `en` and `pg` are the levels of PSEQ_EN_k and PSEQ_PG_k as masks; `was` the rails
that have reached power-good. -/
structure Power where
  vaon    : Bool := true
  en      : Nat := 0
  pg      : Nat := 0
  seq     : Seq := .up 0
  fails   : Nat := 0
  delay   : Nat := 1
  state   : Pwr := .run
  idleReq : Option Bool := none
  entry   : Option Entry := none
  drainLeft : Nat := 0
  wakePresent : Option Nat := none
  wakeEn  : Nat := 0
  pwrMode : Nat := 0
  thermalBit : Bool := false
  wakeRec : WakeRecord := {}
  readings : List (Option Int) := []
  step    : Nat := 0
  above   : Tab Nat := []
  sensorBad : Nat := 0
  thermTimer : Nat := 60
  recheckFirst : Bool := false
  deriving DecidableEq, Repr

/-- Load-switch states (Table CS-2). -/
inductive LswState
  | off
  | softStart
  | on
  | retryWait
  | latched
  | absent
  deriving DecidableEq, Repr

/-- The STATE code of Table CS-2. -/
def LswState.code : LswState → Nat
  | .off => 0
  | .softStart => 1
  | .on => 2
  | .retryWait => 3
  | .latched => 4
  | .absent => 5

/-- One load switch. -/
structure Lsw where
  state   : LswState := .off
  enable  : Bool := false
  pg      : Bool := false
  fails   : Nat := 0
  window  : Nat := 20
  waiting : Bool := false
  deriving DecidableEq, Repr

/-- The Cistern. `run` is the VIN-fail sequence: step 0 none, otherwise the last step begun; `failAt` is the elapsed
instant of its step 2, `gasp` the lanes that were in O5.1 then, `acks` the joined workers that have not answered the
broadcast (R832). -/
structure Cistern where
  settings : CisternCfg := {}
  vinBall  : Nat := 0
  storeBall : Nat := 0
  lastStore : Nat := 0
  vinOk    : Bool := false
  run      : Nat := 0
  probe    : Bool := false
  absent   : Bool := false
  dgReady  : Bool := false
  readySince : Option Nat := none
  aboveMin : Option Nat := none
  charging : Bool := false
  snap     : Option CisternCfg := none
  shed     : Option Nat := none
  failAt   : Nat := 0
  gasp     : List Nat := []
  acks     : List Nat := []
  switches : Tab Lsw := []
  lswQueue : List Nat := []
  deriving DecidableEq, Repr

/-- Image bank states (Table ST-3). -/
inductive BankState
  | empty
  | valid
  | trial
  | bad
  deriving DecidableEq, Repr

/-- One image bank: its state, the bytes of the image it holds, and whether the image passed its last verification
(R736). -/
structure ImgBank where
  state   : BankState := .empty
  image   : List Byte := []
  good    : Bool := false
  deriving DecidableEq, Repr

/-- A firmware write in progress (R730 to R735), with the bytes written so far; `cutOff` tells that a flush of the
logbook suspended its erase, which is not resumed (R920). -/
structure FwWrite where
  mbx     : Nat
  seq     : Nat
  size    : Nat
  version : W32
  bytes   : List Byte := []
  erasing : Bool := true
  cutOff  : Bool := false
  verifying : Bool := false
  deriving DecidableEq, Repr

/-- A diagnostic that runs on an object (R740 to R744): MODE of a loopback or DIR of a PRBS, PATTERN, the request that
began it, and the elapsed instant at which it ends, none for a loopback that runs until it is cleared. -/
structure Diag where
  loopback : Bool
  mode    : Nat
  pattern : Nat := 0
  ends    : Option Nat := none
  mbx     : Nat
  seq     : Nat
  deriving DecidableEq, Repr

/-- One copy of the configuration store (R886): how new it is, what it holds, and whether it authenticates. -/
structure StoreCopy where
  gen  : Nat := 0
  cfg  : Cfg := {}
  good : Bool := false
  deriving DecidableEq, Repr

/-- Start, images, watchdog. `header0` and `header1` are the boot header copies in flash (Table ST-3), `store0` and
`store1` the copies of the configuration store (R886); `flashMib` is the density of the flash that the board fits and
`flashSfdp` whether it passes SFDP (R917, R921); `fwState` is FW_STATE (Table HM-3), `cpImage` the image that the CP runs
(R865), `headerFdiv` the boot header's FDIV, `xoThr` the XO_THR code in the configuration store (R83). -/
structure Start where
  resetPin : Bool := true
  deferred : Bool := false
  manager  : Bool := true
  flashPresent : Bool := true
  roleStrap : Bool := true
  flashStrap : Bool := true
  part4410 : Bool := false
  serialNum : W32 := 0
  fwState  : Nat := 0
  booting  : Bool := true
  startBank : Bool := false
  image    : Bool := false
  bankA    : ImgBank := {}
  bankB    : ImgBank := {}
  unconfirmed : Bool := false
  fallback : Bool := false
  resetCause : Nat := 1
  wdCount  : Nat := 0
  lastBite : Option Nat := none
  target   : Option Bool := none
  activateAt : Option Nat := none
  confirmMin : Nat := 10
  confirmEnd : Option Nat := none
  write    : Option FwWrite := none
  header0  : List Byte := []
  header1  : List Byte := []
  store0   : StoreCopy := {}
  store1   : StoreCopy := {}
  flashMib : Nat := 32
  flashSfdp : Bool := true
  lastKick : Nat := 0
  maint    : Bool := false
  pendingEvents : List Nat := []
  selftest : Option (Nat × Nat × Nat) := none
  diags    : Tab (Option Diag) := []
  fwVersion : W32 := 0
  cpImage : List Byte := []
  headerFdiv : Nat := 78
  xoThr   : Nat := 4
  deriving DecidableEq, Repr

/-- UART settings (Table CF-1, R112): the divisor, data bits, parity and stop codes of Table CF-2, FIFO
depth in bytes and triggers in characters. -/
structure UartCfg where
  div     : Nat := 6750
  bits    : Nat := 8
  parity  : Nat := 0
  stop    : Nat := 0
  fifo    : Nat := 64
  rxTrig  : Nat := 32
  txTrig  : Nat := 0
  deriving DecidableEq, Repr

/-- One GPIO pin. -/
structure Gpio where
  func    : Nat := 0
  level   : Bool := false
  debounce : Nat := 0
  input   : Bool := false
  deriving DecidableEq, Repr

/-- One I2C master: its clock in kHz, 100 or 400 (R911), the segment that I2C_SEG_m selects (R910) and the elapsed
instant of its last STOP. -/
structure I2c where
  stuck   : Bool := false
  timeouts : Nat := 0
  khz     : Nat := 100
  seg     : Bool := false
  stopAt  : Option Nat := none
  deriving DecidableEq, Repr

/-- The module diagnostics cache of a lane. `due` tells that RSSI_TRIG calls for a read of page A2h (R165, R914),
`dueA0` that the lane's enabling or the module's recovery calls for one of page A0h (R914). -/
structure Ddm where
  a0      : List Byte := []
  a2      : List Byte := []
  fails   : Nat := 0
  silent  : Bool := false
  due     : Bool := false
  dueA0   : Bool := false
  deriving DecidableEq, Repr

/-- The craft port and the peripherals. `trial` holds the settings that a trial returns to (R908); `broke`
marks a BREAK since the last line (R909); `storedUart` and `storedGpio` are in the configuration store. -/
structure Craft where
  uart    : UartCfg := {}
  trial   : Option UartCfg := none
  rx      : List Byte := []
  line    : List Char := []
  drop    : Bool := false
  gpio    : Tab Gpio := []
  i2c     : Tab I2c := []
  ddm     : Tab Ddm := []
  broke   : Bool := false
  lastLine : Option Nat := none
  storedUart : UartCfg := {}
  storedGpio : Tab Gpio := []
  mirrors : Tab W32 := []
  deriving DecidableEq, Repr

end Sys2Proof.Machine
end

