-- ==== Sys2Proof/Machine/State.lean ====
section
/-!
DEFINITION. The state of the TRV-4416, its faults and refusals, and the state after reset.
-/

namespace Sys2Proof.Machine

/-- A fault. No command of the block ends in one: the spec gives each of them an effect. The
constructor is never raised; it stands so that the type is not empty. Safe. -/
inductive Fault
  | none
  deriving DecidableEq, Repr

/-- A refusal. `notModelled` is raised by the dispatch alone, for a command without a meaning; safe,
as nothing is said of such a command. -/
inductive Refusal
  | notModelled (mnemonic : String)
  deriving DecidableEq, Repr

/-- A re-run of admission that is due (R407), what is shed and at risk (R409 to R413). `shed` is in
shed order. -/
structure Admission where
  due     : Option Nat := none
  shed    : List Nat := []
  atRisk  : List Nat := []
  lastFrame : Nat := 0
  deriving DecidableEq, Repr

/-- The whole device. `now` is the elapsed time in ticks since power-on reset as the Tide counter
counts it (R338); `bnd` counts Tide frame boundaries (R967); `fresh` numbers the free values drawn;
`out` holds what the device has sent, newest first; `pending` is the queue of commands that wait.
These five are the model's own. -/
structure State where
  pending : List Instr := []
  now     : Nat := 0
  bnd     : Nat := 0
  fresh   : Nat := 0
  out     : List Emission := []
  start   : Start := {}
  power   : Power := {}
  clk     : Clocks := {}
  tide    : Tide := {}
  line    : Line := {}
  pool    : Pool := {}
  sched   : Sched := {}
  ports   : Tab Port := []
  e1s     : Tab E1 := []
  cipher  : Cipher := {}
  ring    : Ring := {}
  host    : HostIf := {}
  evt     : Events := {}
  cnt     : Tab Nat := []
  snap    : Snapshot := {}
  cfg     : Cfg := {}
  adm     : Admission := {}
  cistern : Cistern := {}
  log     : Logbook := {}
  craft   : Craft := {}
  deriving DecidableEq, Repr

/-- The device right after power-on reset, before any rail is good. -/
def State.reset : State := {}

end Sys2Proof.Machine
end

