-- ==== Sys2Proof/Machine/Flash.lean ====
section
/-!
DEFINITION. The flash: its layout (Table ST-2), data units and their protection (R605, R607), boot header copies (Table
ST-3, R859), and the format and the checks of images (Table ST-4, R860).
-/

namespace Sys2Proof.Machine

/-! ### Layout (Table ST-2) and data units -/

/-- The size of an image bank, and the offsets of the banks, the logbook and the configuration store's copies. -/
def bankSize : Nat := 8388608
def bankAddr (b : Bool) : Nat := if b then 0x00810000 else 0x00010000
def logAddr : Nat := 0x01010000
def storeAddr (copy : Bool) : Nat := if copy then 0x01810000 else 0x01410000

/-- Bytes from `addr` on, as whole data units of `size` bytes, the last one completed with zeros (R607), each encrypted
under the XTS keys with its number counted from flash address 0 (R605): what the flash is given, the last first. -/
def flashUnits (dataKey tweakKey : BitVec 128) (addr size : Nat) (b : List Byte) : List Emission :=
  ((chunksOf size b).zipIdx.map (fun x =>
    Emission.flash (addr + size * x.2) (aesXts dataKey tweakKey (addr / size + x.2) (padTo size x.1)))).reverse

/-- The same with the keys of vault slots 19 and 20. -/
def Cipher.units (c : Cipher) (addr size : Nat) (b : List Byte) : List Emission :=
  flashUnits ((Tab.get none c.vault 19).getD 0) ((Tab.get none c.vault 20).getD 0) addr size b

/-- Write data units of the flash. -/
def State.flashWrite (addr size : Nat) (b : List Byte) (s : State) : State :=
  { s with out := s.cipher.units addr size b ++ s.out }

/-- Whether the device has a flash: strapped, passing SFDP, of a density that R917 allows (R921, R922). -/
def Start.hasFlash (k : Start) : Bool :=
  k.flashPresent && k.flashSfdp && decide (32 ≤ k.flashMib) && decide (k.flashMib ≤ 256)

/-! ### Boot header copies (Table ST-3, R859) -/

def headerMagic : Nat := 0x56544842

def BankState.code : BankState → Nat
  | .empty => 0
  | .valid => 1
  | .trial => 2
  | .bad => 3

def bankStateOf (n : Nat) : BankState :=
  match n with
  | 1 => .valid
  | 2 => .trial
  | 3 => .bad
  | _ => .empty

/-- A copy with a GEN, of the bank states, START_BANK and FDIV in force. -/
def Start.headerBytes (gen : Nat) (k : Start) : List Byte :=
  let b := leBytes 4 headerMagic ++ leBytes 4 gen ++ leBytes 1 (b2n k.startBank) ++ leBytes 1 k.bankA.state.code
    ++ leBytes 1 k.bankB.state.code ++ [0] ++ leBytes 2 k.headerFdiv ++ [0, 0]
  b ++ leBytes 4 (crc32c b).toNat

/-- Whether a copy's MAGIC and CRC are good. -/
def headerOk (c : List Byte) : Bool :=
  leAt c 0 4 == headerMagic && leAt c 16 4 == (crc32c (c.take 16)).toNat && decide (20 ≤ c.length)

/-- The copy in use: of the copies that are good the one with the higher GEN. -/
def Start.headerUsed (k : Start) : Option Bool :=
  match headerOk k.header0, headerOk k.header1 with
  | true, true => some (decide (leAt k.header0 4 4 < leAt k.header1 4 4))
  | true, false => some false
  | false, true => some true
  | false, false => none

def Start.headerCopy (c : Bool) (k : Start) : List Byte := if c then k.header1 else k.header0

/-- Rewrite the older copy: never the one in use. -/
def Start.rewrite (k : Start) : Start × Bool × List Byte :=
  let c := !k.headerUsed.getD true
  let g := match k.headerUsed with
    | some u => leAt (k.headerCopy u) 4 4 + 1
    | none => 0
  let b := k.headerBytes g
  (if c then { k with header1 := b } else { k with header0 := b }, c, b)

/-- Change bank states, START_BANK or FDIV: the boot header is rewritten where the device has a flash. -/
def State.header (f : Start → Start) (s : State) : State :=
  let k := f s.start
  if !k.hasFlash then { s with start := k }
  else
    let r := k.rewrite
    { s with start := r.1, out := .flash (if r.2.1 then 0x8000 else 0) r.2.2 :: s.out }

/-- What the boot ROM reads from the boot header: the copy in use, or nothing where both fail. -/
def Start.readHeader (k : Start) : Start :=
  match k.headerUsed with
  | none => { k with startBank := false, headerFdiv := 623 }
  | some u =>
    let c := k.headerCopy u
    { k with startBank := leAt c 8 1 == 1, bankA := { k.bankA with state := bankStateOf (leAt c 9 1) }
             bankB := { k.bankB with state := bankStateOf (leAt c 10 1) }, headerFdiv := leAt c 12 2 }

/-! ### Images (Table ST-4, R860) -/

/-- VERSION, LENGTH and DCC_COMPAT of an image. -/
def imgVersion (b : List Byte) : W32 := BitVec.ofNat 32 (leAt b 4 4)
def imgLength (b : List Byte) : Nat := leAt b 8 4
def imgCompat (b : List Byte) : W32 := BitVec.ofNat 32 (leAt b 16 4)

/-- The checks of R860: 0 where the image passes, 1 where signature or hash fail, 2 where another field does (Table
CB-12); another field comes first (DESIGN CHOICE, log 47). The fused hashes and the signature's verification are free
values (log 100). -/
def imageCheck (part4410 : Bool) (step : Nat) (b : List Byte) : Nat :=
  if leAt b 0 4 ≠ 0x564D4749 ∨ bankSize < imgLength b + 512 ∨ !bit (leAt b 12 1) (b2n part4410) ∨ step < leAt b 13 1
      ∨ 3 < leAt b 14 1 ∨ !Config.keyFused (leAt b 14 1) then 2
  else if !Config.signatureOk (leAt b 14 1) (b.take 68) ((b.drop 68).take 96)
      || sha384 ((b.drop 512).take (imgLength b)) != (b.drop 20).take 48 then 1
  else 0

/-! ### Configuration store copies (R886) -/

/-- The newer copy that authenticates. -/
def Start.storeUsed (k : Start) : Option Bool :=
  match k.store0.good, k.store1.good with
  | true, true => some (decide (k.store0.gen < k.store1.gen))
  | true, false => some false
  | false, true => some true
  | false, false => none

def Start.storeCopy (c : Bool) (k : Start) : StoreCopy := if c then k.store1 else k.store0

/-- The stored configuration, where a copy authenticates. -/
def Start.stored (k : Start) : Option Cfg := k.storeUsed.map (fun c => (k.storeCopy c).cfg)

/-- Write a configuration to the older copy: which copy that is, and the start block after it. -/
def Start.putStore (c : Cfg) (k : Start) : Start × Bool :=
  let o := !k.storeUsed.getD true
  let n : StoreCopy := { gen := (k.storeUsed.map (fun u => (k.storeCopy u).gen + 1)).getD 0, cfg := c, good := true }
  (if o then { k with store1 := n } else { k with store0 := n }, o)

end Sys2Proof.Machine
end

