-- ==== Sys2Proof/Machine/Wire.lean ====
section
/-!
DEFINITION. What the Quay ring carries, as bytes: containers (Table QY-4), the overhead of a frame (Table QY-1), the
scrambler (R426), and DCC messages (Tables QY-10, QY-11) with their protection (R600 to R602).
-/

namespace Sys2Proof.Machine

/-! ### Containers (R440, R441, R966) -/

/-- Bits 127 to 16 of a container header (Table QY-4), as a number. -/
def headerNat (c : Container) : Nat :=
  c.dst.val * 2 ^ 124 + c.src.val * 2 ^ 120 + c.cclass.val * 2 ^ 117 + b2n c.first * 2 ^ 116 + b2n c.last * 2 ^ 115
  + c.gen.val * 2 ^ 111 + b2n c.valid * 2 ^ 110 + c.turns.val * 2 ^ 108 + b2n c.trunc * 2 ^ 107 + b2n c.bad * 2 ^ 106
  + b2n c.epoch * 2 ^ 105 + b2n c.oper * 2 ^ 104 + c.berth.val * 2 ^ 99 + c.queue.val * 2 ^ 87
  + c.cell.length * 2 ^ 78 + c.check.toNat * 2 ^ 46 + b2n c.crValid * 2 ^ 45 + c.crNode.val * 2 ^ 41
  + c.crClass.val * 2 ^ 38 + b2n c.crEpoch * 2 ^ 37 + c.crCum * 2 ^ 16

/-- The 16 bytes of a container header, with its CRC. -/
def headerBytes (c : Container) : List Byte :=
  let h := beBytes 14 (headerNat c / 2 ^ 16)
  h ++ beBytes 2 (crc16 h).toNat

/-- The 272 bytes of a container: its header and its cell. -/
def containerBytes (c : Container) : List Byte := headerBytes c ++ padTo 256 c.cell

/-- An idle container (R441). -/
def idleContainer : Container :=
  { dst := 0, src := 0, cclass := 0, first := false, last := false, gen := 0, valid := false, turns := 0, trunc := false
    bad := false, epoch := false, oper := false, berth := 0, queue := 0, check := 0, crValid := false, crNode := 0
    crClass := 0, crEpoch := false, crCum := 0, crcOk := true, cell := [] }

/-- The container that 272 bytes spell; `crcOk` tells whether its CRC and its reserved bits are good (R440). -/
def parseContainer (b : List Byte) : Container :=
  let n := beAt b 0 16
  { dst := Fin.ofNat 16 (field n 124 4), src := Fin.ofNat 16 (field n 120 4), cclass := Fin.ofNat 8 (field n 117 3)
    first := bit n 116, last := bit n 115, gen := Fin.ofNat 16 (field n 111 4), valid := bit n 110
    turns := Fin.ofNat 4 (field n 108 2), trunc := bit n 107, bad := bit n 106, epoch := bit n 105, oper := bit n 104
    berth := Fin.ofNat 32 (field n 99 5), queue := Fin.ofNat 4096 (field n 87 12)
    check := BitVec.ofNat 32 (field n 46 32), crValid := bit n 45, crNode := Fin.ofNat 16 (field n 41 4)
    crClass := Fin.ofNat 8 (field n 38 3), crEpoch := bit n 37, crCum := field n 16 16
    crcOk := crc16 (b.take 14) == BitVec.ofNat 16 (beAt b 14 2) && field n 32 5 == 0
    cell := (b.drop 16).take (min 256 (field n 78 9)) }

/-! ### The overhead of a ring frame (Table QY-1) -/

/-- Bytes of a ring frame and of its payload (R425). -/
def ringFrameBytes : Nat := 388800
def ringPayload : Nat := 388736

/-- The frame alignment pattern. -/
def alignPattern : List Byte := [0xB4, 0x3C, 0xD2, 0x5A, 0xB4, 0x3C, 0xD2, 0x5A]

/-- The I bits and the D bits of the pointer's VALUE (Table QY-2). -/
def iBits : Nat := 0x2AA
def dBits : Nat := 0x155

/-- How many bits of a 10-bit number are set. -/
def ones (n : Nat) : Nat := ((List.range 10).filter (fun i => bit n i)).length

/-- A credit return record (Table QY-6), or four zero bytes for none. -/
def creditBytes (r : Option CreditRec) : List Byte :=
  match r with
  | none => [0, 0, 0, 0]
  | some r => beBytes 4 (2 ^ 31 + r.owner.val * 2 ^ 27 + r.origin.val * 2 ^ 23 + r.cclass.val * 2 ^ 20
      + b2n r.epoch * 2 ^ 19 + r.cum % 65536)

/-- The record that four bytes spell, if its VALID is set. -/
def parseCredit (b : List Byte) : Option CreditRec :=
  let n := beNat b
  if bit n 31 then
    some { owner := Fin.ofNat 16 (field n 27 4), origin := Fin.ofNat 16 (field n 23 4)
           cclass := Fin.ofNat 8 (field n 20 3), epoch := bit n 19, cum := field n 0 16 }
  else none

/-- Overhead bytes 8 to 62 (Tables QY-1, QY-2, QY-7). -/
def headBytes (h : RingHead) : List Byte :=
  beBytes 2 h.frameNo ++ beBytes 1 h.label
  ++ beBytes 2 (h.req * 4096 + h.spanFar.val * 256 + h.txNode.val * 16 + b2n h.longPath * 8 + h.status)
  ++ beBytes 2 (h.ndf * 4096 + h.ptr) ++ [h.stuff]
  ++ creditBytes (h.credits[0]?) ++ creditBytes (h.credits[1]?)
  ++ padTo 32 (h.slot.take 32) ++ List.replicate 6 0 ++ [h.bip]

/-- The overhead that bytes 8 to 63 spell. -/
def parseHead (b : List Byte) : RingHead :=
  let q := beAt b 3 2
  let p := beAt b 5 2
  { frameNo := beAt b 0 2, label := beAt b 2 1, req := field q 12 4, spanFar := Fin.ofNat 16 (field q 8 4)
    txNode := Fin.ofNat 16 (field q 4 4), longPath := bit q 3, status := field q 0 3, ndf := field p 12 4
    ptr := field p 0 10, stuff := b.getD 7 0
    credits := (parseCredit ((b.drop 8).take 4)).toList ++ (parseCredit ((b.drop 12).take 4)).toList
    slot := (b.drop 16).take 32, bip := b.getD 54 0 }

/-- Whether the overhead check of bytes 8 to 63 is good (R428). -/
def headOk (b : List Byte) : Bool := crc8 (b.take 55) == b.getD 55 0

/-! ### The scrambler 1 + x^39 + x^58 (R426), eight bits at a time; its state is the last 58 bits sent -/

/-- The bits that the scrambler adds to a byte. -/
def scrMask (st : BitVec 58) : Byte := (st >>> 31).setWidth 8 ^^^ (st >>> 50).setWidth 8

/-- The state after a scrambled byte. -/
def scrNext (st : BitVec 58) (b : Byte) : BitVec 58 := (st <<< 8) ||| b.setWidth 58

/-- Scramble bytes: what is sent, and the state after it. -/
def scramble : BitVec 58 → List Byte → List Byte × BitVec 58
  | st, [] => ([], st)
  | st, b :: t =>
    let x := b ^^^ scrMask st
    let r := scramble (scrNext st x) t
    (x :: r.1, r.2)

/-- Descramble bytes: self-synchronous, the state is what has been received. -/
def descramble : BitVec 58 → List Byte → List Byte × BitVec 58
  | st, [] => ([], st)
  | st, b :: t =>
    let r := descramble (scrNext st b) t
    ((b ^^^ scrMask st) :: r.1, r.2)

/-! ### DCC messages (Tables QY-10, QY-11) -/

/-- The header of a DCC message. -/
structure DccHead where
  dst        : NodeNo
  src        : NodeNo
  bcast      : Bool
  unnumbered : Bool
  ackOnly    : Bool
  type       : Nat
  ttl        : Nat
  msgSeq     : Nat
  ackSeq     : Nat
  len        : Nat
  deriving DecidableEq, Repr

/-- The 16 bytes of a header. -/
def DccHead.bytes (h : DccHead) : List Byte :=
  beBytes 1 (h.dst.val * 16 + h.src.val)
  ++ beBytes 1 (b2n h.bcast * 128 + b2n h.unnumbered * 64 + b2n h.ackOnly * 32) ++ beBytes 1 h.type ++ beBytes 1 h.ttl
  ++ beBytes 2 h.msgSeq ++ beBytes 2 h.ackSeq ++ beBytes 2 h.len ++ List.replicate 6 0

/-- The header that a message begins with; a message is 32 bytes at least. -/
def parseDcc (b : List Byte) : Option DccHead :=
  let f := beAt b 1 1
  let h : DccHead :=
    { dst := Fin.ofNat 16 (beAt b 0 1 / 16), src := Fin.ofNat 16 (beAt b 0 1), bcast := bit f 7, unnumbered := bit f 6
      ackOnly := bit f 5, type := beAt b 2 1, ttl := beAt b 3 1, msgSeq := beAt b 4 2, ackSeq := beAt b 6 2
      len := beAt b 8 2 }
  if b.length < 32 + h.len then none else some h

/-- TYPE of a body (Table QY-11). Itvekor's reports share 0x0F, TS_REQ and TS_RSP 0x07 (DESIGN CHOICE, log 53). -/
def dccType (b : DccBody) : Nat :=
  match b with
  | .hello _ => 0x01
  | .joinReq .. => 0x02
  | .joinAccept .. => 0x03
  | .joinRefuse .. => 0x04
  | .imgReq => 0x05
  | .imgBlock _ => 0x06
  | .tsReq | .tsRsp => 0x07
  | .tideSync .. | .stepAnnounce .. => 0x08
  | .creditReinit .. => 0x09
  | .creditReinitAck .. => 0x0A
  | .joinComplete => 0x0B
  | .leave => 0x0C
  | .relayCmd .. | .commitPart _ => 0x0D
  | .relayRsp .. => 0x0E
  | .nodeReset => 0x10
  | _ => 0x0F

/-- The bytes of a body, in clear. The spec gives the reason's place in JOIN_REFUSE (R477) and the size of an IMG_BLOCK;
the other layouts, and the first byte that tells apart what shares a TYPE, are the model's (DESIGN CHOICE, log 53). -/
def bodyBytes (b : DccBody) : List Byte :=
  match b with
  | .hello nonce => beBytes 8 nonce.toNat
  | .joinReq serial nonce mgr version east west position =>
    beBytes 8 serial.toNat ++ beBytes 8 nonce.toNat ++ beBytes 1 (b2n mgr) ++ beBytes 4 version.toNat
    ++ beBytes 8 east.toNat ++ beBytes 8 west.toNat ++ beBytes 1 position
  | .joinAccept serial number gen nonce chain =>
    beBytes 8 serial.toNat ++ beBytes 1 number.val ++ beBytes 1 gen.val ++ beBytes 8 nonce.toNat ++ keyBytes chain
  | .joinRefuse serial reason => beBytes 1 reason ++ beBytes 8 serial.toNat
  | .imgReq => []
  | .imgBlock bytes => padTo 512 bytes
  | .tsReq => [1]
  | .tsRsp => [2]
  | .tideSync nonce frame state anchor =>
    [1] ++ beBytes 8 nonce.toNat ++ beBytes 8 frame ++ beBytes 1 state ++ beBytes 1 anchor
  | .stepAnnounce at_ frame => [2] ++ beBytes 8 at_ ++ beBytes 8 frame
  | .creditReinit c sent => beBytes 1 c.val ++ beBytes 2 sent
  | .creditReinitAck c consumed => beBytes 1 c.val ++ beBytes 2 consumed
  | .joinComplete => []
  | .leave => []
  | .relayCmd opc seq mbx payload => [1] ++ beBytes 2 opc ++ beBytes 2 seq.toNat ++ beBytes 1 mbx.val ++ payload
  | .commitPart frame => [2] ++ beBytes 8 frame
  | .relayRsp opc seq mbx status payload =>
    beBytes 2 opc ++ beBytes 2 seq.toNat ++ beBytes 1 mbx.val ++ beBytes 2 status ++ payload
  | .eventPending on => [1] ++ beBytes 1 (b2n on)
  | .eventRaise source tide object detail =>
    [2] ++ beBytes 2 source ++ beBytes 8 tide.toNat ++ beBytes 4 object.toNat ++ beBytes 4 detail.toNat
  | .qthRelay entry => [3] ++ beBytes 4 entry.toNat
  | .cntRelay entry => [4] ++ beBytes 4 entry.toNat
  | .logRelay kind data => [5] ++ beBytes 2 kind ++ data
  | .vinFail => [6]
  | .vinReturn => [7]
  | .mgrShed => [8]
  | .nodeReset => []

/-- The body that bytes in clear spell under a TYPE; none where they spell none. -/
def parseBody (type : Nat) (b : List Byte) : Option DccBody :=
  let k := beAt b 0 1
  match type with
  | 0x01 => some (.hello (BitVec.ofNat 64 (beAt b 0 8)))
  | 0x02 => some (.joinReq (BitVec.ofNat 64 (beAt b 0 8)) (BitVec.ofNat 64 (beAt b 8 8)) (beAt b 16 1 != 0)
      (BitVec.ofNat 32 (beAt b 17 4)) (BitVec.ofNat 64 (beAt b 21 8)) (BitVec.ofNat 64 (beAt b 29 8)) (beAt b 37 1))
  | 0x03 => some (.joinAccept (BitVec.ofNat 64 (beAt b 0 8)) (Fin.ofNat 16 (beAt b 8 1)) (Fin.ofNat 16 (beAt b 9 1))
      (BitVec.ofNat 64 (beAt b 10 8)) (keyOf ((b.drop 18).take 16)))
  | 0x04 => some (.joinRefuse (BitVec.ofNat 64 (beAt b 1 8)) k)
  | 0x05 => some .imgReq
  | 0x06 => if b.length = 512 then some (.imgBlock b) else none
  | 0x07 => if k = 1 then some .tsReq else if k = 2 then some .tsRsp else none
  | 0x08 =>
    if k = 1 then some (.tideSync (BitVec.ofNat 64 (beAt b 1 8)) (beAt b 9 8) (beAt b 17 1) (beAt b 18 1))
    else if k = 2 then some (.stepAnnounce (beAt b 1 8) (beAt b 9 8)) else none
  | 0x09 => some (.creditReinit (Fin.ofNat 8 k) (beAt b 1 2))
  | 0x0A => some (.creditReinitAck (Fin.ofNat 8 k) (beAt b 1 2))
  | 0x0B => some .joinComplete
  | 0x0C => some .leave
  | 0x0D =>
    if k = 1 then some (.relayCmd (beAt b 1 2) (BitVec.ofNat 16 (beAt b 3 2)) (Fin.ofNat 34 (beAt b 5 1)) (b.drop 6))
    else if k = 2 then some (.commitPart (beAt b 1 8)) else none
  | 0x0E => some (.relayRsp (beAt b 0 2) (BitVec.ofNat 16 (beAt b 2 2)) (Fin.ofNat 34 (beAt b 4 1)) (beAt b 5 2)
      (b.drop 7))
  | 0x0F =>
    match k with
    | 1 => some (.eventPending (beAt b 1 1 != 0))
    | 2 => some (.eventRaise (beAt b 1 2) (BitVec.ofNat 64 (beAt b 3 8)) (BitVec.ofNat 32 (beAt b 11 4))
        (BitVec.ofNat 32 (beAt b 15 4)))
    | 3 => some (.qthRelay (BitVec.ofNat 32 (beAt b 1 4)))
    | 4 => some (.cntRelay (BitVec.ofNat 32 (beAt b 1 4)))
    | 5 => some (.logRelay (beAt b 1 2) (b.drop 3))
    | 6 => some .vinFail
    | 7 => some .vinReturn
    | 8 => some .mgrShed
    | _ => none
  | 0x10 => some .nodeReset
  | _ => none

/-! ### Protection of DCC messages (R600 to R602) -/

/-- What protects a pair's messages: the chain key where there is one, the manager's boot nonce, the worker's
generation and the count of MSG_SEQ wraps. -/
structure DccKeys where
  chain : Option (BitVec 128)
  nonce : BitVec 64
  gen   : Nat
  wraps : Nat
  deriving DecidableEq, Repr

/-- Whether a message runs under the join key, its body in clear (R602). -/
def joinKeyed (h : DccHead) : Bool := h.unnumbered || (decide (3 ≤ h.type) && decide (h.type ≤ 6))

/-- The key of a message: the all-zero join key, or the chain key. -/
def dccKey (k : DccKeys) (h : DccHead) : List Byte :=
  keyBytes (if joinKeyed h then 0 else k.chain.getD 0)

/-- The CFB initial vector (R601). -/
def dccIv (k : DccKeys) (h : DccHead) : List Byte :=
  beBytes 1 (h.dst.val * 16 + h.src.val) ++ beBytes 1 k.gen ++ [0, 0] ++ beBytes 8 k.nonce.toNat ++ beBytes 2 h.msgSeq
  ++ beBytes 2 k.wraps

/-- A body encrypted or decrypted: in clear under the join key, but for the chain key of JOIN_ACCEPT (R602). -/
def dccCrypt (dec : Bool) (k : DccKeys) (h : DccHead) (b : List Byte) : List Byte :=
  if h.type = 0x03 then b.take 18 ++ aesCfb dec (dccKey k h) (dccIv k h) (b.drop 18)
  else if joinKeyed h then b
  else aesCfb dec (dccKey k h) (dccIv k h) b

/-- The MAC over header bytes 0 to 15, TTL taken as zero, and the encrypted body (R600). -/
def dccMac (k : DccKeys) (h : DccHead) (enc : List Byte) : List Byte :=
  aesCmac (dccKey k h) ({ h with ttl := 0 }.bytes ++ enc)

/-- The header of a message. -/
def DccMsg.head (m : DccMsg) : DccHead :=
  { dst := m.dst, src := m.src, bcast := m.bcast, unnumbered := m.unnumbered, ackOnly := m.ackOnly
    type := dccType m.body, ttl := m.ttl, msgSeq := m.msgSeq, ackSeq := m.ackSeq, len := (bodyBytes m.body).length }

/-- A message as it is sent: header, encrypted body, MAC (Table QY-10, R600). -/
def dccWire (k : DccKeys) (m : DccMsg) : List Byte :=
  let h := DccMsg.head m
  let enc := dccCrypt false k h (bodyBytes m.body)
  h.bytes ++ enc ++ dccMac k h enc

/-- The encrypted body of a message, and whether its MAC is good (R604). -/
def dccEnc (h : DccHead) (b : List Byte) : List Byte := (b.drop 16).take h.len
def dccGood (k : DccKeys) (h : DccHead) (b : List Byte) : Bool :=
  (b.drop (16 + h.len)).take 16 == dccMac k h (dccEnc h b)

/-- The message that good bytes spell. -/
def dccOpen (k : DccKeys) (h : DccHead) (b : List Byte) : Option DccMsg :=
  (parseBody h.type (dccCrypt true k h (dccEnc h b))).map (fun body =>
    { dst := h.dst, src := h.src, bcast := h.bcast, unnumbered := h.unnumbered, ackOnly := h.ackOnly, ttl := h.ttl
      msgSeq := h.msgSeq, ackSeq := h.ackSeq, body := body })

/-- The DCC slots that a message fills (R465): each with whether a message of this node begins in it, the last padded
with zeros. -/
def dccSlots (own : Bool) (wire : List Byte) : List (Bool × List Byte) :=
  match chunksOf 32 wire with
  | [] => []
  | x :: t => (own, padTo 32 x) :: t.map (fun y => (false, padTo 32 y))

end Sys2Proof.Machine
end

