-- ==== Sys2Proof/Machine/Ops.lean ====
section
/-!
DEFINITION. Operations that the commands share: byte order, check values, Tide arithmetic, accessors,
raising events (R761 to R772), counters (R773), the logbook (R884), DCC messages (R465 to R468) and
the posting of replies and event messages (R627 to R639).
-/

namespace Sys2Proof.Machine

/-- DESIGN CHOICE (log 103). The bytes of a configuration in the store, which the manual does not give. -/
opaque storeBytes : Cfg → List Byte

/-! ### Tide -/

/-- Ticks per frame (R28), per millisecond of nominal time, per microsecond × 10. -/
def frameTicks : Nat := 777600
def msTicks : Nat := 6220800
def frameWrap : Nat := 2 ^ 44

/-- Ticks per second. -/
def secTicks : Nat := 6220800000

/-- The range of Tide in ticks (R28). -/
def tideMod : Nat := frameTicks * frameWrap

/-- The Tide word (R28) and Tide as ticks from zero. -/
def Tide.word (t : Tide) : Nat := t.frame * 2 ^ 20 + t.tick
def Tide.ticks (t : Tide) : Nat := t.frame * frameTicks + t.tick

/-- Whether the device serves as manager (R12, R13). -/
def State.isManager (s : State) : Bool := s.start.manager

/-- Vault slots 0 to 3 as the store holds them (R598): an IV, AES-256-CBC of the four keys under STORE_ENC, and the
AES-CMAC of both under STORE_MAC. An empty slot is zeros. -/
def Cipher.storedKeys (iv : BitVec 128) (c : Cipher) : List Byte :=
  let key (v : Nat) := keyBytes ((Tab.get none c.vault v).getD 0)
  let e := keyBytes iv ++ aesCbc (key 17 ++ keyBytes (Config.deriveKey 0 2117)) (keyBytes iv) [key 0, key 1, key 2, key 3]
  e ++ aesCmac (key 18) e

/-- Write a configuration to the store's older copy (R886), with the stored keys under a fresh IV of the DRBG (R598). What
the bytes of a configuration are the manual does not say: a free function of it (log 103). -/
def State.putStore (c : Cfg) (s : State) : State :=
  if !s.start.hasFlash then s
  else
    let r := s.start.putStore c
    ({ s with start := r.1, fresh := s.fresh + 1 }).flashWrite (storeAddr r.2) 4096
      (storeBytes c ++ s.cipher.storedKeys (Config.drbg s.fresh))

/-- The device's own node number: 0 on the manager. -/
def State.self (s : State) : Nat := if s.start.manager then 0 else s.ring.node

/-- Whether the device's subscriber and E1 ports may be up: on a manager, and on a worker that has joined (R15). -/
def State.inService (s : State) : Bool := s.start.manager || s.ring.join.joined

/-! ### Accessors -/

def State.lane (s : State) (l : Nat) : LaneState := Tab.get {} s.line.lanes l
def State.modLane (l : Nat) (f : LaneState → LaneState) (s : State) : State :=
  { s with line := { s.line with lanes := Tab.modify {} s.line.lanes l f } }

def State.alloc (s : State) (a : Nat) : AllocState := Tab.get {} s.line.allocs a
def State.modAlloc (a : Nat) (f : AllocState → AllocState) (s : State) : State :=
  { s with line := { s.line with allocs := Tab.modify {} s.line.allocs a f } }

def State.group (s : State) (g : Nat) : GroupState := Tab.get {} s.line.groups g
def State.modGroup (g : Nat) (f : GroupState → GroupState) (s : State) : State :=
  { s with line := { s.line with groups := Tab.modify {} s.line.groups g f } }

def State.joinLane (s : State) (l : Nat) : JoinLane := Tab.get {} s.line.joins l
def State.modJoinLane (l : Nat) (f : JoinLane → JoinLane) (s : State) : State :=
  { s with line := { s.line with joins := Tab.modify {} s.line.joins l f } }

def State.queue (s : State) (q : Nat) : Queue := Tab.get {} s.pool.queues q
def State.modQueue (q : Nat) (f : Queue → Queue) (s : State) : State :=
  { s with pool := { s.pool with queues := Tab.modify {} s.pool.queues q f } }

def State.port (s : State) (p : Nat) : Port := Tab.get {} s.ports p
def State.modPort (p : Nat) (f : Port → Port) (s : State) : State :=
  { s with ports := Tab.modify {} s.ports p f }

def State.e1 (s : State) (p : Nat) : E1 := Tab.get {} s.e1s p
def State.modE1 (p : Nat) (f : E1 → E1) (s : State) : State :=
  { s with e1s := Tab.modify {} s.e1s p f }

def State.side (s : State) (d : Nat) : RingSide := Tab.get {} s.ring.sides d
def State.modSide (d : Nat) (f : RingSide → RingSide) (s : State) : State :=
  { s with ring := { s.ring with sides := Tab.modify {} s.ring.sides d f } }

def State.rlane (s : State) (d n : Nat) : RingLane := Tab.get {} s.ring.lanes (2 * d + n)

def State.node (s : State) (n : Nat) : NodeEntry := Tab.get {} s.ring.nodes n
def State.modNode (n : Nat) (f : NodeEntry → NodeEntry) (s : State) : State :=
  { s with ring := { s.ring with nodes := Tab.modify {} s.ring.nodes n f } }

def HostIf.box (h : HostIf) (m : Nat) : Mbx := Tab.get {} h.mbx m
def HostIf.modBox (m : Nat) (f : Mbx → Mbx) (h : HostIf) : HostIf :=
  { h with mbx := Tab.modify {} h.mbx m f }
def State.box (s : State) (m : Nat) : Mbx := s.host.box m
def State.modBox (m : Nat) (f : Mbx → Mbx) (s : State) : State :=
  { s with host := s.host.modBox m f }

def State.bank (s : State) (slot b : Nat) : Bank := Tab.get {} s.cipher.banks (slot * 2 + b)
def State.modBank (slot b : Nat) (f : Bank → Bank) (s : State) : State :=
  { s with cipher := { s.cipher with banks := Tab.modify {} s.cipher.banks (slot * 2 + b) f } }

def State.lsw (s : State) (k : Nat) : Lsw := Tab.get {} s.cistern.switches k
def State.modLsw (k : Nat) (f : Lsw → Lsw) (s : State) : State :=
  { s with cistern := { s.cistern with switches := Tab.modify {} s.cistern.switches k f } }

/-- Record what leaves the device. -/
def State.emit (e : Emission) (s : State) : State := { s with out := e :: s.out }

/-- Whether worker `n` is joined (Table CA-12, MEMBER 2). -/
def State.joined (s : State) (n : Nat) : Bool := (s.node n).member == 2

/-- Change the configuration's objects: owner of an object, 0 the operator, otherwise berth plus one
(R23): berth object b belongs to berth b. -/
def Cfg.ownerOf (c : Cfg) (o : Nat) : Nat :=
  if o / 2 ^ 24 % 16 = 0xD then o % 2 ^ 24 + 1 else Tab.get 0 c.owner o

/-- LINE_LANE_SET in force for a lane (R972): lane 0 is enabled where nothing is stored. -/
def Cfg.lane (c : Cfg) (l : Nat) : LaneCfg :=
  match Tab.get none c.lanes l with
  | some x => x
  | none => { enable := l == 0 }

/-- POOL_RESERVE_SET in force for a node (R313): MIN for UP is 0 on a worker. -/
def Cfg.pool (c : Cfg) (node : Nat) : PoolCfg :=
  match Tab.get none c.pools node with
  | some x => x
  | none => if node = 0 then {} else { minUp := 0 }

def Cfg.port (c : Cfg) (o : Nat) : PortCfg := Tab.get {} c.ports o
def Cfg.queue (c : Cfg) (o : Nat) : QueueCfg := Tab.get {} c.queues o
def Cfg.schedOf (c : Cfg) (o : Nat) : SchedCfg := Tab.get {} c.sched o
def Cfg.shaper (c : Cfg) (o : Nat) : ShaperCfg := Tab.get {} c.shapers o
def Cfg.gate (c : Cfg) (o : Nat) : GateCfg := Tab.get {} c.gates o
def Cfg.policer (c : Cfg) (o : Nat) : PolicerCfg := Tab.get {} c.policers o
def Cfg.cls (c : Cfg) (o : Nat) : ClassCfg := Tab.get {} c.classes o
def Cfg.alloc (c : Cfg) (a : Nat) : AllocCfg := Tab.get {} c.allocs a
def Cfg.xgem (c : Cfg) (x : Nat) : XgemCfg := Tab.get {} c.xgems x
def Cfg.mcast (c : Cfg) (o : Nat) : McastCfg := Tab.get {} c.mcasts o
def Cfg.e1 (c : Cfg) (o : Nat) : E1Cfg := Tab.get {} c.e1s o
def Cfg.circuit (c : Cfg) (o : Nat) : CesCfg := Tab.get {} c.ces o
def Cfg.quotaOf (c : Cfg) (b : Nat) : Nat := Tab.get 262144 c.quota b

/-- An object of this device: its node is the device's own (R654). -/
def State.obj (s : State) (cls index : Nat) : Nat := objId s.self cls index

/-! ### Clocks (R87, R90, R104 to R108) -/

def State.setClk (f : Clocks → Clocks) (s : State) : State := { s with clk := f s.clk }

/-- Whether a lane's transmitter may be enabled (R163, R166); while a dying gasp is requested only in O5.1 (R172). -/
def State.txMay (s : State) (l : Nat) : Bool :=
  let x := s.lane l
  (decide (x.act = .o23) || decide (x.act = .o4) || decide (x.act = .o5)) && !x.rogue && !x.rogueLatch
  && !s.clk.rootHold && (!s.line.dg || decide (x.act = .o5))

/-- TX_DIS of a lane follows (R163, R166). -/
def State.syncTx (l : Nat) (s : State) : State := s.modLane l (fun x => { x with txDis := !s.txMay l })

/-- TX_DIS of every lane follows. -/
def State.syncTxs (s : State) : State := (List.range 4).foldl (fun t l => t.syncTx l) s

/-- CP_SEL takes the reference or root/24 (Table CK-3); CP_ON_REF follows it. -/
def Clocks.cpTo (onRef : Bool) (c : Clocks) : Clocks :=
  { c with cpOnRef := onRef, muxes := Tab.set {} c.muxes 1 { selB := !onRef } }

/-- End a multiplexer's pending switch: on source `sel`; a request that waited becomes the pending
one (R100). -/
def muxEnd (sel : Bool) (m : ClkMux) : ClkMux :=
  { selB := sel, pending := m.queued.bind (fun q => if q = sel then none else some q) }

/-- How far ahead of now an instant in eighths of a tick lies, modulo the range of Tide. -/
def State.eighthsAhead (s : State) (t8 : Nat) : Int :=
  let m := 8 * tideMod
  let d := (t8 % m + (m - 8 * s.tide.ticks % m)) % m
  if d < m / 2 then (d : Int) else (d : Int) - (m : Int)

/-- A burst in progress is cut at once (R166, R175). -/
def State.cutBurst (l : Nat) (s : State) : State :=
  match (s.lane l).burst with
  | none => s
  | some b =>
    let s1 := s.modLane l (fun x => { x with burst := none, spans := [] })
    if 0 < s.eighthsAhead (b.2 % (8 * tideMod)) && decide (s.eighthsAhead (b.1 % (8 * tideMod)) ≤ 0) then
      s1.emit (.cut l (8 * s.tide.ticks))
    else s1

/-- A root re-lock begins (R107, R108). Whether it needs a clock hold depends on a frequency change that the
device does not hold: a free value (log 18). During a hold CP runs from the reference (Table CK-5), and BEN is
inactive (R166). -/
def State.relock (s : State) : State :=
  let hold := (Config.freeWord s.fresh).getLsbD 0
  let c := { s.clk with rootLock := false, rootHold := s.clk.rootHold || hold }
  let s1 := ({ s with fresh := s.fresh + 1, clk := if hold then c.cpTo true else c }).syncTxs
  if hold then (List.range 4).foldl (fun t l => t.cutBurst l) s1 else s1

/-- The SerDes transmitter of a port that is disabled or gated sends electrical idle (R517). -/
def State.syncIdle (s : State) : State :=
  (List.range 16).foldl (fun t p => t.modPort p (fun x =>
    { x with idle := !((t.cfg.port (t.obj 1 p)).enable && t.clk.gate.getLsbD (8 + p)) })) s

/-- Set CLK_GATE bits: their blocks' clocks start later (R105). -/
def State.gateOn (mask : W32) (s : State) : State :=
  (s.setClk (fun c =>
    { c with gate := c.gate ||| mask, starting := c.starting ||| (mask &&& ~~~ c.gate) })).syncIdle

/-- Clear CLK_GATE bits. -/
def State.gateOff (mask : W32) (s : State) : State :=
  (s.setClk (fun c => { c with gate := c.gate &&& ~~~ mask, starting := c.starting &&& ~~~ mask })).syncIdle

/-- Whether a gated block's clock runs. -/
def State.clocked (s : State) (k : Nat) : Bool := s.clk.gate.getLsbD k && !s.clk.starting.getLsbD k

/-- A host access: none in MOORED and BEACHED, whose host interface is off (R794); one during a root clock hold
completes after the hold is released (R111). -/
def State.hostAccess (a : HostAccess) (f : State → State) (s : State) : State :=
  if s.power.state = .moored ∨ s.power.state = .beached then s
  else if s.clk.rootHold then s.setClk (fun c => { c with waiting := c.waiting ++ [a] }) else f s

/-! ### Interrupt conditions and vectors -/

/-- EVT_STATUS[g] and EVT_ENABLE[g] both set somewhere (Table EV-3). -/
def Events.groupPending (e : Events) (g : Nat) : Bool :=
  (Tab.get 0 e.status g &&& Tab.get 0 e.enable g) != 0

/-- Whether any enabled source is pending. -/
def Events.anyPending (e : Events) : Bool := (List.range 20).any e.groupPending

/-- The condition of MSI-X vector `v` (R766). -/
def Events.vector (e : Events) (v : Nat) : Bool :=
  (List.range 20).any (fun g =>
    (Tab.get 0 e.route g).toNat % 8 == v && e.groupPending g)
  || (e.nodeRoute.getLsbD 8 && e.nodeRoute.toNat % 8 == v && e.nodeSummary != 0)

/-- What R767 does for vector `v` when the event block goes from `e0` to `e1`: the host with its
pending bits, and whether the message is sent. -/
def vectorStep (e0 e1 : Events) (force : Bool) (h : HostIf) (v : Nat) : HostIf × Bool :=
  let fire := e1.vector v && (force || !e0.vector v)
  if bit h.msixMask v then
    ({ h with msixPend := putBit h.msixPend v (e1.vector v && (fire || bit h.msixPend v)) }, false)
  else (h, fire && h.pcieUp)

/-- R767 for all eight vectors. -/
def vectorsStep (e0 e1 : Events) (force : Bool) (h : HostIf) : HostIf × List Emission :=
  (List.range 8).foldl (fun a v =>
    let r := vectorStep e0 e1 force a.1 v
    (r.1, if r.2 then Emission.msix v :: a.2 else a.2)) (h, [])

/-! ### Replies and event messages -/

/-- Entries that a message of `len` payload bytes occupies (R627). -/
def entries (len : Nat) : Nat := ceilDiv (16 + len) 64

/-- The bytes of a reply or event message (Table HM-5, R633). -/
def Msg.bytes (m : Msg) : List Byte :=
  let h := leBytes 2 m.seq ++ leBytes 2 m.opc ++ leBytes 2 m.payload.length
    ++ leBytes 1 m.status ++ leBytes 1 m.flags ++ leBytes 4 m.tag.toNat
  h ++ leBytes 4 (crc32c (h ++ m.payload)).toNat ++ m.payload

/-- The CRC that a request carries (R633), from its fields. -/
def reqCrc (opc : Nat) (q : Req) : W32 :=
  crc32c (leBytes 2 q.seq.toNat ++ leBytes 2 opc ++ leBytes 2 q.payload.length
    ++ [q.berth] ++ [q.flags] ++ leBytes 4 q.tag.toNat ++ q.payload)

/-- Write bytes into a 2 KiB ring of a window from byte offset `i`, wrapping (R627). -/
def ringWrite (base : Nat) : Nat → List Byte → Tab Byte → Tab Byte
  | _, [], w => w
  | i, b :: t, w => ringWrite base (i + 1) t (Tab.set 0 w (base + i % 2048) b)

/-- Free entries of the reply ring (R628). -/
def Mbx.free (b : Mbx) : Nat := 32 - (b.rplProd + 64 - b.rplCons) % 64

/-- The address of mailbox n's window in the table of windows. -/
def winBase (m : Nat) : Nat := m * 4096

/-- A character of a hexadecimal digit, and a byte in two of them. -/
def hexDigit (n : Nat) : Char :=
  if n < 10 then Char.ofNat (48 + n) else Char.ofNat (87 + n)

def hexByte (b : Byte) : List Char := [hexDigit (b.toNat / 16), hexDigit (b.toNat % 16)]

/-- Names of the status codes (Table HM-7), as the shell prints them (R759). -/
def statusName (n : Nat) : List Char :=
  match n with
  | 0 => "DONE".toList
  | 1 => "ACCEPTED".toList
  | 2 => "REFUSED".toList
  | 3 => "IGNORED".toList
  | 4 => "BAD_ARG".toList
  | 5 => "NO_SPACE".toList
  | 6 => "DEFERRED".toList
  | 7 => "DENIED".toList
  | 8 => "ABORTED".toList
  | 9 => "UNSUPPORTED".toList
  | _ => "FAULT".toList

/-- What the shell prints for a reply or an event message (R759). -/
def Msg.shell (m : Msg) : List Char :=
  statusName m.status ++ (m.payload.flatMap (fun b => ' ' :: hexByte b))

/-- Post a message: into the reply ring of a host mailbox, before RPL_PROD advances past it (R629);
onto the craft port for mailbox 33 (R759). -/
def HostIf.post (m : Nat) (msg : Msg) (h : HostIf) : HostIf × List Emission :=
  if m = 33 then (h, [Emission.uart msg.shell])
  else
    let b := h.box m
    let b1 : Mbx := { b with rplProd := (b.rplProd + entries msg.payload.length) % 64 }
    ({ h with
        win := ringWrite (winBase m + 2048) (b.rplProd % 32 * 64) msg.bytes h.win
        mbx := Tab.set {} h.mbx m b1 }, [])

/-- Whether a message fits the reply ring now. -/
def HostIf.fits (m : Nat) (msg : Msg) (h : HostIf) : Bool :=
  m == 33 || decide (entries msg.payload.length ≤ (h.box m).free)

/-- Post messages in order while they fit; what stays waits. -/
def HostIf.drain (m : Nat) : List Msg → HostIf → HostIf × List Emission × List Msg
  | [], h => (h, [], [])
  | x :: t, h =>
    if h.fits m x then
      let r := h.post m x
      let r2 := HostIf.drain m t r.1
      (r2.1, r2.2.1 ++ r.2, r2.2.2)
    else (h, [], x :: t)

/-- Post what waits for mailbox `m`: completions first, then event messages (R639). -/
def HostIf.flushBox (m : Nat) (h : HostIf) : HostIf × List Emission :=
  let r := HostIf.drain m (h.box m).completions h
  if r.2.2 ≠ [] then (r.1.modBox m (fun b => { b with completions := r.2.2 }), r.2.1)
  else
    let r2 := HostIf.drain m (h.box m).held r.1
    (r2.1.modBox m (fun b => { b with completions := [], held := r2.2.2 }), r2.2.1 ++ r.2.1)

/-- Whether mailbox state `b` selects source `src` on `node` for event messages (EVT_CONFIG). -/
def Mbx.selects (b : Mbx) (node src : Nat) : Bool :=
  (Tab.get 0 b.msgSel (node * 32 + src / 32)).getLsbD (src % 32)

/-- Whether a berth mailbox may receive a source for an object (R772, Table EV-6). -/
def berthRelevant (c : Cfg) (m src obj : Nat) : Bool :=
  if 32 ≤ m then true
  else ((416 ≤ src && src ≤ 479) || (512 ≤ src && src ≤ 543) || src == 263
      || (303 ≤ src && src ≤ 305)) && c.ownerOf obj == m + 1

/-- The payload of an event message (Table EV-5). -/
def evtPayload (src node tide obj detail : Nat) : List Byte :=
  leBytes 2 src ++ leBytes 1 node ++ [0] ++ leBytes 8 tide ++ leBytes 4 obj ++ leBytes 4 detail

/-- Add to a counter modulo 2^40 (R773), nothing else. -/
def cntAdd (c : Tab Nat) (i n : Nat) : Tab Nat := Tab.modify 0 c i (fun v => (v + n) % 2 ^ 40)

/-- What an event message does to one mailbox: held, or dropped and counted when 64 are held
(R639); then delivered as far as the ring has room. -/
def queueEvt (m : Nat) (payload : List Byte) (a : HostIf × Tab Nat × List Emission × Bool) :
    HostIf × Tab Nat × List Emission × Bool :=
  let b := a.1.box m
  if 64 ≤ b.held.length then
    (a.1.modBox m (fun b => { b with evtDropped := b.evtDropped + 1 }),
      cntAdd a.2.1 (0x600 + 8 * m + 7) 1, a.2.2.1, true)
  else
    let msg : Msg :=
      { opc := 0xFE01, seq := b.evtCount, flags := 0x80, status := 0, tag := 0, payload := payload }
    let h := a.1.modBox m (fun b =>
      { b with held := b.held ++ [msg]
               evtCount := if b.evtCount = 0xFFFF then 1 else b.evtCount + 1 })
    let r := h.flushBox m
    (r.1, if m = 33 then a.2.1 else cntAdd a.2.1 (0x600 + 8 * m + 6) 1, r.2 ++ a.2.2.1, a.2.2.2)

/-- R771 for one raise: an event message to every mailbox that selects the source on the node. The flag tells whether
one was dropped. A worker has the craft mailbox alone (Table PD-1). -/
def queueEvts (c : Cfg) (mgr : Bool) (node src tide obj detail : Nat) (h : HostIf) (cnt : Tab Nat) :
    HostIf × Tab Nat × List Emission × Bool :=
  (List.range 34).foldl (fun a m =>
    if (mgr || m == 33) && (h.box m).selects node src && berthRelevant c m src obj
    then queueEvt m (evtPayload src node tide obj detail) a else a) (h, cnt, [], false)

/-- Whether any mailbox selects the source on the node. -/
def HostIf.selected (h : HostIf) (node src : Nat) : Bool :=
  (List.range 34).any (fun m => (h.box m).selects node src)

/-! ### DCC messages -/

/-- The side that a message toward `dst` leaves on: its working side (R423). -/
def Ring.sideOf (r : Ring) (dst : Nat) : Nat := Tab.get 0 r.working dst

/-- Give the slots of a message to a side's transmitter (R465); `own` where this node is its sender. -/
def dccPut (d : Nat) (own : Bool) (wire : List Byte) (r : Ring) : Ring :=
  { r with sides := Tab.modify {} r.sides d (fun x => { x with dccTx := x.dccTx ++ dccSlots own wire }) }

/-- The generation of the worker of a pair (R601): on the manager the peer's, on a worker its own. -/
def Ring.pairGen (r : Ring) (self n : Nat) : Nat :=
  if self = 0 then (Tab.get {} r.nodes n : NodeEntry).gen else r.join.gen

/-- What protects the messages of this node (R600, R601); generation and wraps are those of a pair. -/
def State.dccKeys (s : State) : DccKeys :=
  { chain := Tab.get none s.cipher.vault 16
    nonce := if s.start.manager then s.cipher.bootNonce else s.ring.join.mgrNonce, gen := 0, wraps := 0 }

/-- Number and send a message toward a peer on side `d` (R467, R600); beyond eight unacknowledged it waits. -/
def dccPushOn (d : Nat) (k : DccKeys) (self dst frame : Nat) (body : DccBody) (r : Ring) : Ring :=
  let p : Peer := Tab.get {} r.peers dst
  if 8 ≤ p.unacked.length then { r with peers := Tab.set {} r.peers dst { p with queue := p.queue ++ [body] } }
  else
    let m : DccMsg :=
      { dst := Fin.ofNat 16 dst, src := Fin.ofNat 16 self, bcast := false, unnumbered := false
        ackOnly := false, ttl := 31, msgSeq := p.nextSeq, ackSeq := p.lastDelivered, body := body }
    let w := dccWire { k with gen := r.pairGen self dst, wraps := p.txWraps } m
    let last := p.nextSeq = 0xFFFF
    let p1 : Peer :=
      { p with nextSeq := if last then 1 else p.nextSeq + 1
               txWraps := if last then (p.txWraps + 1) % 65536 else p.txWraps
               unacked := p.unacked ++ [{ msg := m, wire := w, sends := 1, frame := frame }] }
    dccPut d true w { r with peers := Tab.set {} r.peers dst p1 }

/-- The same on the working side of the peer (R423). -/
def dccPush (k : DccKeys) (self dst frame : Nat) (body : DccBody) (r : Ring) : Ring :=
  dccPushOn (r.sideOf dst) k self dst frame body r

/-- Send a DCC message to a node. -/
def State.dcc (dst : Nat) (body : DccBody) (s : State) : State :=
  { s with ring := dccPush s.dccKeys s.self dst s.tide.frame body s.ring }

/-- Send a DCC message to a node on a given side. -/
def State.dccOn (d dst : Nat) (body : DccBody) (s : State) : State :=
  { s with ring := dccPushOn d s.dccKeys s.self dst s.tide.frame body s.ring }

/-- Send a message that has no sequence number of a peer on a side. The generation in its initial vector (R601) is that
of the pair, for JOIN_ACCEPT the one that it gives, for a broadcast 0 (log 53). -/
def State.dccRaw (d : Nat) (m : DccMsg) (s : State) : State :=
  let k := { s.dccKeys with gen := match m.body with
                | .joinAccept _ _ g _ _ => g.val
                | _ => if m.bcast then 0 else s.ring.pairGen s.self m.dst.val }
  { s with ring := dccPut d true (dccWire k m) s.ring }

/-- A broadcast message (R466): it has no sequence number of a peer. -/
def bcastMsg (self : Nat) (body : DccBody) : DccMsg :=
  { dst := 0, src := Fin.ofNat 16 self, bcast := true, unnumbered := false, ackOnly := false
    ttl := 31, msgSeq := 0, ackSeq := 0, body := body }

/-- Send a broadcast message on both sides (R466). -/
def State.dccBcast (body : DccBody) (s : State) : State :=
  let m := bcastMsg s.self body
  (s.dccRaw 0 m).dccRaw 1 m

/-! ### The logbook -/

/-- Whether a source's raise is written to the logbook (R884). -/
def logged (src : Nat) : Bool :=
  let g := src / 32
  g == 0 || g == 2 || g == 3 || g == 8 || g == 12 || (302 ≤ src && src ≤ 305)

/-- The bytes of a record (Table ST-7). -/
def LogRecord.bytes (r : LogRecord) : List Byte :=
  let b := leBytes 4 r.no ++ leBytes 8 r.tide ++ leBytes 2 r.kind ++ leBytes 1 r.node
    ++ leBytes 1 (b2n r.vin + 2 * b2n r.unanch) ++ leBytes 4 r.fw.toNat
    ++ (r.data ++ List.replicate (40 - r.data.length) 0)
  b ++ leBytes 4 (crc32c b).toNat

/-- Data units of the logbook region, and how many hold records: at least 4 KiB is kept erased (R835, Table ST-2). -/
def logUnits : Nat := 8192
def logCap : Nat := 8184

/-- Write records to the logbook region in whole data units (R607), of which the oldest give way; a device without flash
has none. What the flash is given goes with it. -/
def Logbook.write (flash : Bool) (c : Cipher) (b : List LogRecord) (frame : Nat) (l : Logbook) :
    Logbook × List Emission :=
  if !flash then ({ l with region := [], buffer := [], lastFlush := frame }, [])
  else
    let us := chunksOf 8 b
    let all := l.region ++ us
    ({ l with region := all.drop (all.length - logCap), unit := (l.unit + us.length) % logUnits, buffer := []
              lastFlush := frame },
      (us.zipIdx.flatMap (fun x =>
        c.units (logAddr + 512 * ((l.unit + x.2) % logUnits)) 512 (x.1.flatMap LogRecord.bytes))).reverse)

/-- Append a record to the retained buffer; a buffer that fills (64 records of 64 bytes) is written
to the region (R884). -/
def Logbook.add (flash : Bool) (c : Cipher) (rec : Nat → LogRecord) (frame : Nat) (l : Logbook) :
    Logbook × List Emission :=
  let b := l.buffer ++ [rec l.next]
  let l1 := { l with buffer := b, next := l.next + 1 }
  if 64 ≤ b.length then l1.write flash c b frame else (l1, [])

/-- Write a logbook record of a kind (Table ST-7); a worker also relays it to the manager (R885). -/
def logParts (kind : Nat) (data : List Byte) (s : State) (r : Ring) : Logbook × Ring × List Emission :=
  let l := Logbook.add s.start.hasFlash s.cipher (fun n =>
    { no := n, tide := s.tide.word, kind := kind, node := s.self, vin := false
      unanch := decide (s.tide.state = .unanchored), fw := s.start.fwVersion, data := data.take 40 })
    s.tide.frame s.log
  (l.1, if s.start.manager then r else dccPush s.dccKeys s.self 0 s.tide.frame (.logRelay kind data) r, l.2)

/-- Write a record to the logbook. -/
def State.logRec (kind : Nat) (data : List Byte) (s : State) : State :=
  let p := logParts kind data s s.ring
  { s with log := p.1, ring := p.2.1, out := p.2.2 ++ s.out }

/-! ### Raising events -/

/-- Whether a source is assigned in its owner's table; the others are reserved (R760). -/
def assigned (n : Nat) : Bool :=
  [(0, 6), (32, 69), (72, 87), (96, 108), (128, 233), (240, 251), (256, 266), (288, 294), (302, 306), (320, 338),
   (352, 370), (384, 399), (416, 483), (512, 555), (576, 584), (608, 633)].any (fun r =>
    decide (r.1 ≤ n) && decide (n ≤ r.2))

/-- The assigned sources of a group: the bits of EVT_ENABLE that can be set (R6, R760). -/
def assignedMask (g : Nat) : W32 :=
  (List.range 32).foldl (fun w k => if assigned (32 * g + k) then w ||| BitVec.twoPow 32 k else w) 0

/-- Write EVT_ENABLE of a group: the bits of reserved sources stay zero. -/
def Events.putEnable (g : Nat) (w : W32) (e : Events) : Events :=
  { e with enable := Tab.set 0 e.enable g (w &&& assignedMask g) }

/-- Set a source's bit in EVT_STATUS (R761). -/
def Events.setBit (e : Events) (src : Nat) : Events :=
  { e with status := Tab.modify 0 e.status (src / 32) (fun w => w ||| BitVec.twoPow 32 (src % 32)) }

/-- What a change of the event block does on this device: vectors and IRQ_N on a manager (R767), the
report of a change to the manager on a worker (R768). -/
def setEvtParts (e1 : Events) (force : Bool) (h : HostIf) (r : Ring) (s : State) :
    Events × HostIf × Ring × List Emission :=
  let v := vectorsStep s.evt e1 force h
  if s.start.manager || e1.anyPending == s.evt.reported then
    ({ e1 with reported := if s.start.manager then e1.reported else e1.anyPending }, v.1, r, v.2)
  else
    ({ e1 with reported := e1.anyPending }, v.1,
      dccPush s.dccKeys s.self 0 s.tide.frame (.eventPending e1.anyPending) r, v.2)

/-- Replace the event block and do what follows from the change. -/
def State.setEvt (e1 : Events) (force : Bool) (s : State) : State :=
  let p := setEvtParts e1 force s.host s.ring s
  { s with evt := p.1, host := p.2.1, ring := p.2.2.1, out := p.2.2.2 ++ s.out }

/-- Everything one raise changes: status bit, event messages, the worker's report, vectors, logbook.
An event message that is posted raises MBX_REPLY (E_576), one that is dropped MBX_EVT_DROP (E_581);
for these two, raised by an event message itself, no further event message is queued (log 11). -/
def raiseParts (src obj detail : Nat) (s : State) :
    Events × HostIf × Ring × Logbook × Tab Nat × List Emission :=
  let w := s.tide.word
  let q := queueEvts s.cfg s.start.manager s.self src w obj detail s.host s.cnt
  let e0 := s.evt.setBit src
  let e1 := if q.2.1 = s.cnt then e0 else if q.2.2.2 then (e0.setBit 576).setBit 581
    else e0.setBit 576
  let rd := if s.start.manager || !s.host.selected s.self src then s.ring
    else dccPush s.dccKeys s.self 0 s.tide.frame
      (.eventRaise src (BitVec.ofNat 64 w) (BitVec.ofNat 32 obj) (BitVec.ofNat 32 detail)) s.ring
  let p := setEvtParts e1 false q.1 rd s
  let l := if logged src then logParts 1 (evtPayload src s.self w obj detail) s p.2.2.1
    else (s.log, p.2.2.1, [])
  (p.1, p.2.1, l.2.1, l.1, q.2.1, l.2.2 ++ p.2.2.2 ++ q.2.2.1 ++ s.out)

/-- Raise a source (R761, R771, R884). -/
def State.raise (src obj detail : Nat) (s : State) : State :=
  let p := raiseParts src obj detail s
  { s with evt := p.1, host := p.2.1, ring := p.2.2.1, log := p.2.2.2.1, cnt := p.2.2.2.2.1
           out := p.2.2.2.2.2 }

/-- The key of a window: source and, for the sources of R968, a number of the object. -/
def windowKey (src sub : Nat) : Nat := src * 2 ^ 20 + sub

/-- Raise a source at most once in a window of `n` frame boundaries (R967), kept per source and, with
`sub`, per object (R968). -/
def State.raiseWin (n src sub obj detail : Nat) (s : State) : State :=
  let k := windowKey src sub
  if s.bnd < Tab.get 0 s.evt.windows k then s
  else
    ({ s with evt := { s.evt with windows := Tab.set 0 s.evt.windows k (s.bnd + n) } }).raise
      src obj detail

/-! ### Counters -/

/-- Post an entry to the rollover FIFO (R773, R774): the state after it, and whether it was posted. -/
def cntPost (entry : W32) (e : Events) : Events × Nat :=
  if e.cntFifo.length < 512 then ({ e with cntFifo := e.cntFifo ++ [entry] }, 480)
  else if e.cntHush then ({ e with cntOvf := true }, 0)
  else ({ e with cntOvf := true, cntHush := true }, 481)

/-- The rollover entry of a counter (Table EV-7). -/
def cntEntry (node frame index : Nat) : W32 :=
  BitVec.ofNat 32 (node * 2 ^ 28 + frame % 4096 * 2 ^ 16 + index)

/-- Post a rollover entry and raise CNT_HALF or, at the first overflow, CNT_FIFO_OVF. A worker
relays the entry to the manager (R775). -/
def State.postHalf (entry : W32) (obj : Nat) (s : State) : State :=
  if s.start.manager then
    let p := cntPost entry s.evt
    let s1 := { s with evt := p.1 }
    if p.2 = 0 then s1 else s1.raise p.2 obj 0
  else (s.raise 480 obj 0).dcc 0 (.cntRelay entry)

/-- Count `n` in a counter of Table EV-8: modulo 2^40, and at a crossing of half range an entry and
an event (R773). -/
def State.count (i n : Nat) (s : State) : State :=
  let v := Tab.get 0 s.cnt i
  let s1 := { s with cnt := cntAdd s.cnt i n }
  if v < 2 ^ 39 ∧ 2 ^ 39 ≤ (v + n) % 2 ^ 40 then
    s1.postHalf (cntEntry s.self s.tide.frame i) (objId s.self 0xF i)
  else s1

/-- Count one. -/
def State.inc (i : Nat) (s : State) : State := s.count i 1

/-! ### Answers and completions -/

/-- Status codes (Table HM-7). -/
inductive Status
  | done
  | accepted
  | refused
  | ignored (cause : Nat)
  | badArg
  | noSpace
  | deferred
  | denied
  | aborted
  | unsupported
  | fault
  deriving DecidableEq, Repr

/-- The code of a status. -/
def Status.code : Status → Nat
  | .done => 0
  | .accepted => 1
  | .refused => 2
  | .ignored _ => 3
  | .badArg => 4
  | .noSpace => 5
  | .deferred => 6
  | .denied => 7
  | .aborted => 8
  | .unsupported => 9
  | .fault => 10

/-- The SEQ after one (R634). -/
def nextSeq16 (n : Nat) : Nat := if n = 0xFFFF then 1 else n + 1

/-- Record an IGNORED answer (R642). -/
def Mbx.noteIgnored (opc seq cause frame : Nat) (b : Mbx) : Mbx :=
  { b with ignored := min 255 (b.ignored + 1), lastIgnOpc := opc, lastIgnSeq := seq
           lastIgnCause := cause, lastIgnFrame := frame }

/-- The mailbox after a request is answered: the reply cached (R635), the expected SEQ advanced
(R634, R661). -/
def Mbx.answered (opc : Nat) (q : Req) (msg : Msg) (b : Mbx) : Mbx :=
  { b with lastReq := some (q.seq.toNat, reqCrc opc q), cached := some msg
           expSeq := nextSeq16 q.seq.toNat, waiting := none }

/-- The events of an answer: MBX_IGNORED (R642), MBX_DENIED first in 8,000 frames, MBX_REPLY. -/
def State.answerEvents (m : Nat) (st : Status) (s : State) : State :=
  let s1 := match st with
    | .ignored _ => (s.raise 578 0 0).inc (0x600 + 8 * m + 4)
    | .denied => (s.raiseWin 8000 579 0 0 0).inc (0x600 + 8 * m + 5)
    | _ => s
  if m = 33 then s1 else s1.raise 576 0 0

/-- The status of a RELAY_RSP: the code, and above it the cause of an IGNORED (DESIGN CHOICE, log 28:
the layout of the body is not given). -/
def Status.wire (st : Status) : Nat :=
  match st with
  | .ignored c => 3 + 256 * c
  | _ => st.code

/-- The status that a RELAY_RSP carries. -/
def statusOf (n : Nat) : Status :=
  match n % 256 with
  | 0 => .done
  | 1 => .accepted
  | 2 => .refused
  | 3 => .ignored (n / 256)
  | 4 => .badArg
  | 5 => .noSpace
  | 6 => .deferred
  | 7 => .denied
  | 8 => .aborted
  | 9 => .unsupported
  | _ => .fault

/-- Whether a request came to a worker over the DCC: a worker has no host attachment (Table PD-1), so
only its own craft mailbox sends it others. -/
def State.isRelayed (s : State) (opc seq m : Nat) : Bool :=
  !s.start.manager && (m != 33 || s.ring.relayed.contains (opc, seq, m))

/-- A worker's answer or completion to the manager (R664); the request stays open while it is
DEFERRED. -/
def State.relayBack (opc : Nat) (seq : BitVec 16) (m : MbxNo) (st : Status) (payload : List Byte)
    (s : State) : State :=
  let s1 := { s with ring := { s.ring with
    relayed := if st = Status.deferred then s.ring.relayed
      else s.ring.relayed.filter (fun x => x != (opc, seq.toNat, m.val)) } }
  s1.dcc 0 (.relayRsp opc seq m st.wire payload)

/-- Queue an answer to the request `q` of opcode `opc` (R634, R635, R637, R642). An answer that finds
no room in the reply ring waits as a completion does. -/
def State.answer (opc : Nat) (q : Req) (st : Status) (payload : List Byte) (s : State) : State :=
  let m := q.mbx.val
  if s.isRelayed opc q.seq.toNat m then
    (s.modBox m (fun b => { b with waiting := none })).relayBack opc q.seq q.mbx st payload
  else
  let msg : Msg :=
    { opc := opc % 2 ^ 15 + 2 ^ 15, seq := q.seq.toNat, flags := 0, status := st.code, tag := q.tag
      payload := payload }
  let h1 := s.host.modBox m (fun b =>
    let b1 := b.answered opc q msg
    let b2 := match st with
      | .ignored c => b1.noteIgnored opc q.seq.toNat c s.tide.frame
      | _ => b1
    { b2 with completions := b2.completions ++ [msg] })
  let r := h1.flushBox m
  let s1 := { s with host := r.1, out := r.2 ++ s.out }
  ((s1.inc (0x600 + 8 * m)).inc (0x600 + 8 * m + 1)).answerEvents m st

/-- Answer without a payload. -/
def State.reply (opc : Nat) (q : Req) (st : Status) (s : State) : State := s.answer opc q st []

/-- Queue the completion event of a deferred operation (Table HM-6, R650): never dropped. -/
def State.complete (m seq : Nat) (st : Status) (payload : List Byte) (s : State) : State :=
  match (s.box m).deferred.find? (fun d => d.seq == seq) with
  | none => s
  | some d =>
    if s.isRelayed d.opc d.seq m then
      (s.modBox m (fun b => { b with deferred := b.deferred.filter (fun x => x.seq != seq) })).relayBack
        d.opc (BitVec.ofNat 16 d.seq) (Fin.ofNat 34 m) st payload
    else
    let msg : Msg :=
      { opc := d.opc % 2 ^ 15 + 2 ^ 15, seq := d.seq, flags := 0x80, status := st.code, tag := d.tag
        payload := payload }
    let h1 := s.host.modBox m (fun b =>
      { b with deferred := b.deferred.filter (fun x => x.seq != seq)
               completions := b.completions ++ [msg] })
    let r := h1.flushBox m
    let s1 := { s with host := r.1, out := r.2 ++ s.out }
    if m = 33 then s1 else s1.raise 576 0 0

/-- A request that waits for something before it is answered. -/
def State.await (opc : Nat) (q : Req) (w : Wait) (s : State) : State :=
  s.modBox q.mbx.val (fun b => { b with waiting := some { opc := opc, req := q, on := w } })

/-- Answer every request that waits for `w`. -/
def State.answerOn (w : Wait) (st : Status) (payload : List Byte) (s : State) : State :=
  (List.range 34).foldl (fun t m =>
    match (t.box m).waiting with
    | some x => if x.on = w then t.answer x.opc x.req st payload else t
    | none => t) s

/-- Accept a deferred operation: at most four of a mailbox are outstanding (R650). -/
def State.defer_ (opc : Nat) (q : Req) (object : Nat) (act : State → State) (s : State) : State :=
  if 4 ≤ (s.box q.mbx.val).deferred.length then s.reply opc q .noSpace
  else
    let d : Deferred := { seq := q.seq.toNat, tag := q.tag, opc := opc, object := object }
    act ((s.modBox q.mbx.val (fun b => { b with deferred := b.deferred ++ [d] })).reply opc q .deferred)

end Sys2Proof.Machine
end

