-- ==== Sys2Proof/Machine/Frame.lean ====
section
/-!
DEFINITION. What happens at a Tide frame boundary and how time passes to an instant: the change between RUN and IDLE,
the E1 transmitters, a worker's timing, the status mirrors that are refreshed every frame.
-/

namespace Sys2Proof.Machine

/-- A change between RUN and IDLE takes effect and is answered (R721, Table PW-9: the DETAIL is the state's
code). -/
def State.idleChange (s : State) : State :=
  match s.power.idleReq with
  | none => s
  | some idle =>
    let s1 := { s with power := { s.power with state := if idle then .idle else .run, idleReq := none } }
    (s1.raise 0 0 (b2n idle)).answerOn .powerMode .done []

/-- CV_LANE_IDLE of a lane: in O5.1 without an allocation for 8,000 frames. -/
def State.laneIdleCheck (s : State) (l : Nat) : State :=
  if (s.lane l).act = .o5 && decide (Tab.get 0 s.line.laneIdle l + 8000 ≤ s.bnd) then
    ({ s with line := { s.line with laneIdle := Tab.set 0 s.line.laneIdle l s.bnd } }).raise (230 + l)
      (s.obj 0xE l) 0
  else s

/-- Settings of E1 port p and of its circuit in force. -/
def State.e1Cfg (s : State) (p : Nat) : E1Cfg := s.cfg.e1 (s.obj 7 p)
def State.cesCfg (s : State) (p : Nat) : CesCfg := s.cfg.circuit (s.obj 8 p)

/-- Whether a circuit is in service: enabled, not shed (R556), its E1 port under no test (R740). -/
def State.cesOn (s : State) (p : Nat) : Bool :=
  (s.cesCfg p).enable && !(s.e1 p).shed && (Tab.get none s.start.diags (s.obj 7 p)).isNone

/-- The timeslots of TS_MASK (R539). -/
def tsCount (m : W32) : Nat := ((List.range 32).filter (fun t => m.getLsbD t)).length

/-- The timeslots of a frame that TS_MASK selects, in ascending order (R539). -/
def selectSlots (m : W32) (frame : List Byte) : List Byte :=
  ((List.range 32).filter (fun t => m.getLsbD t)).map (fun t => frame.getD t 0)

/-- Whether E1 port p runs: enabled, on a worker once it has joined (R15, R562), its block clocked (R106), no root
clock hold (R108). Its TCLK and TDAT pins are driven only then, else high-impedance (R527, step 3 of Table CS-1): nothing is sent. -/
def State.e1Runs (s : State) (p : Nat) : Bool :=
  (s.e1Cfg p).enable && s.inService && s.clocked 6 && !s.clk.rootHold
  && decide (s.cistern.run < 3) && s.cistern.shed.isNone

/-- Whether port p uses CRC-4 (R529). -/
def State.e1Crc4 (s : State) (p : Nat) : Bool :=
  let c := s.e1Cfg p
  c.framed && (c.crc4 == 1 || (c.crc4 == 2 && (s.e1 p).crc4On))

/-- CRC-4 of ITU-T G.704: the remainder by x^4 + x + 1 after one more bit. -/
def crc4Bit (r : Nat) (b : Bool) : Nat := (r * 2 % 16) ^^^ (if decide (8 ≤ r) != b then 3 else 0)

/-- The same over bytes, most significant bit first. -/
def crc4 (r : Nat) (l : List Byte) : Nat :=
  l.foldl (fun a b => (List.range 8).foldl (fun x i => crc4Bit x (b.getLsbD (7 - i))) a) r

/-- A byte whose first bit is 0. -/
def clearFirst (b : Byte) : Byte := b &&& 0x7F

/-- Timeslot 0 of the frame that FRAMED port p starts at this boundary (R530, R531): FAS and NFAS in turn, with the A
bit when RAI_AUTO reports a receive defect other than RAI, and Sa4 to Sa8 at 1; its first bit is 1 without CRC-4, else
the CRC-4 multiframe's as ITU-T G.704 gives it (PRESUMED, log 68). The place in the multiframe is the boundary count's,
so nothing breaks the sequence. -/
def State.e1Ts0 (s : State) (p : Nat) : Byte :=
  let x := s.e1 p
  let k := s.bnd % 16
  let first := !s.e1Crc4 p ||
    (if k % 2 = 0 then x.txC.testBit (3 - k % 8 / 2)
     else if k = 13 then !x.errI else if k = 15 then !x.errII
     else k == 5 || k == 9 || k == 11)
  let a := (s.e1Cfg p).raiAuto && (x.defects &&& 0b101111#6) != 0
  let rest := if k % 2 = 0 then 0x1B else 0x40 + b2n a * 0x20 + 0x1F
  BitVec.ofNat 8 (b2n first * 0x80 + rest)

/-- A FRAMED port sends its timeslot 0 (R530): a sub-multiframe's CRC covers it with the CRC bits at 0. -/
def State.sendTs0 (s : State) (p : Nat) : State :=
  if !(s.e1Cfg p).framed then s
  else
    let k := s.bnd % 16
    let s1 := if k % 8 = 0 then s.modE1 p (fun x => { x with txC := x.txCrc, txCrc := 0 }) else s
    let b := s1.e1Ts0 p
    (s1.modE1 p (fun x => { x with txCrc := crc4 x.txCrc [if k % 2 = 0 then clearFirst b else b] })).emit (.e1Ts0 p b)

/-- Bytes of a frame that a circuit carries (R539). -/
def State.carried (s : State) (p : Nat) : Nat := if (s.e1Cfg p).framed then tsCount (s.cesCfg p).tsMask else 32

/-- Timeslots 1 to 31 of a frame: the carried ones take the bytes in turn. -/
def e1Slots (p bnd : Nat) (m : W32) : Nat → List Byte → List Byte
  | 0, _ => []
  | n + 1, l =>
    if m.getLsbD (31 - n) then l.getD 0 0xFF :: e1Slots p bnd m n l.tail
    else Config.e1Slot p bnd (31 - n) :: e1Slots p bnd m n l

/-- Port p sends the carried bits of one frame. -/
def State.e1Send (p : Nat) (frame : List Byte) (s : State) : State :=
  let s1 := s.modE1 p (fun x => { x with
    lastPlayed := frame
    txCrc := if (s.e1Cfg p).framed then crc4 x.txCrc (e1Slots p s.bnd (s.cesCfg p).tsMask 31 frame) else x.txCrc })
  if frame.isEmpty then s1 else s1.emit (.e1 p frame)

/-- What port p sends at a frame boundary (R530, R546 to R556): timeslot 0, and the next frame of the packet being
played, else all ones. A packet whose start instant is this boundary brings its first frame itself. -/
def State.e1Boundary (s : State) (p : Nat) : State :=
  if !s.e1Runs p then s
  else
    let s1 := s.sendTs0 p
    let x := s1.e1 p
    match x.txq with
    | f :: t => (s1.modE1 p (fun y => { y with txq := t })).e1Send p f
    | [] =>
      if s1.cesOn p && x.playing && x.start == s1.bnd then s1
      else s1.e1Send p (List.replicate (s1.carried p) 0xFF)

/-- The error that remains of a slew at `ppm` after `el` ticks (R36). -/
def slewRemain (e : Int) (ppm el : Nat) : Int :=
  let r := e.natAbs - el * ppm / 1000000
  if e < 0 then -(r : Int) else (r : Int)

/-- The offset of a worker's timing side (R48, R51). -/
def Tide.timingOffset (t : Tide) : Nat := if t.timingWest then t.offWest else t.offEast

/-- A worker's correction in progress (R50): it closes at the slew rate. -/
def State.correction (s : State) : Int := slewRemain s.tide.corr s.cfg.tide.slewPpm (s.now - s.tide.corrAt)

/-- A worker's offset changes: the difference of its timing side is corrected by slewing (R50, R51). -/
def State.reoffset (f : Tide → Tide) (s : State) : State :=
  let t := f s.tide
  { s with tide := { t with
      corr := s.correction + ((t.timingOffset : Int) - (s.tide.timingOffset : Int)), corrAt := s.now } }

/-- A worker whose timing has moved to its other side applies that side's offset (R51). -/
def State.timingTake (s : State) : State :=
  match s.tide.timingNext with
  | none => s
  | some west => s.reoffset (fun t => { t with timingWest := west, timingNext := none })

/-! ### Status mirrors -/

/-- The Tide frame boundary at which something that was asked for takes place: now at a boundary, otherwise the
next one. -/
def Tide.boundaryAt (t : Tide) : Nat := (t.frame + if t.tick = 0 then 0 else 1) * frameTicks

/-- A field at a bit position. -/
def fld (v lo : Nat) : Nat := v * 2 ^ lo
def flag (b : Bool) (k : Nat) : Nat := b2n b * 2 ^ k

/-- Whether the lanes run at 24.8832 Gbit/s (R232). -/
def State.is25 (s : State) : Bool := s.cfg.line.bonded && s.cfg.line.rate25

/-- Whether a lane is a bonding member. -/
def State.member (s : State) (l : Nat) : Bool :=
  s.cfg.line.bonded && s.cfg.line.groups.any (fun g => bit g.2.members l)

/-- Whether a lane carries the dying-gasp indication (R172): in O5.1, its guard not tripped. -/
def State.dgOn (s : State) (l : Nat) : Bool :=
  let x := s.lane l
  s.line.dg && decide (x.act = .o5) && !x.rogue && !x.rogueLatch

/-- The state of a lane as LN_STATUS shows it (Table LN-6). -/
def State.lnStatus (s : State) (l : Nat) : Nat :=
  let x := s.lane l
  fld (x.onuId.getD 0x3FF) 22 + flag s.is25 15 + flag (s.member l) 14 + flag (s.dgOn l) 13 + flag x.sf 12
  + flag x.sd 11 + flag x.rogueLatch 10 + flag x.txDis 9 + flag x.los 7 + flag x.sync 6 + x.act.code

/-- A signed number in `n` bits. -/
def signedBits (n : Nat) (i : Int) : Nat := (i % (2 ^ n : Nat)).toNat

/-- RING_STATUS (Table QY-14). -/
def State.ringStatus (s : State) (d : Nat) : Nat :=
  let x := s.side d
  let any (f : RingLane → Bool) : Bool := f (s.rlane d 0) || f (s.rlane d 1)
  fld s.self 28 + fld x.neighbour 24 + fld x.reqRx 20 + flag s.ring.join.bypOpen 16 + flag x.wrapped 15
  + flag x.wtr 14 + flag x.trained 13 + flag x.sf 12 + flag x.sd 11 + flag (any (·.los)) 10
  + flag (any (·.lof)) 9 + flag (any (·.lop)) 8 + x.labelRx % 256

/-- A temperature reading (Table CF-4): 0x8000 when the sensor is excluded. -/
def tempBits (r : Option Int) : Nat :=
  match r with
  | none => 0x8000
  | some i => signedBits 16 i

/-- Reading of sensor k: zero before the first sample. -/
def State.temp (s : State) (k : Nat) : Nat :=
  match s.power.readings[k]? with
  | none => 0
  | some r => tempBits r

def State.tempReg (s : State) (k : Nat) : Nat := fld (s.temp (k + 1)) 16 + s.temp k

/-- GPIO_STATUS (Table CF-4). -/
def State.gpioStatus (s : State) : Nat :=
  ((List.range 16).map (fun p =>
    let g : Gpio := Tab.get {} s.craft.gpio p
    flag (g.func != 0) (16 + p) + flag (if g.func = 0 then g.input else g.level) p)).sum

/-- PF_STATUS (Table CF-4); the fields of a gated block read zero (R104). The boot ROM has found the flash once it clocks it (R101, R918; log 29). The density
of the flash is the board's (free value, log 29). -/
def State.pfStatus (s : State) : Nat :=
  let found := s.start.hasFlash && s.clocked 29
  fld (if found then s.start.flashMib % 512 else 0) 16
  + flag (s.clocked 27 && (match s.craft.lastLine with
      | none => false
      | some t => decide (s.now < t + 600 * secTicks))) 3
  + flag (s.craft.i2c.any (fun x => s.clocked (24 + x.1) && x.2.stuck)) 2 + flag found 1 + flag s.start.flashPresent 0

/-- CES_STATE of a circuit (Table TF-5). -/
def State.cesState (s : State) (p : Nat) : Nat :=
  if !(s.cesCfg p).enable then 0 else if (s.e1 p).shed then 3 else if (s.e1 p).lops then 2 else 1

/-- E1_STATUS (Table TF-5). -/
def State.e1Status (s : State) (p : Nat) : Nat :=
  let x := s.e1 p
  let m : ClkMux := Tab.get {} s.clk.muxes (6 + p)
  fld (min 255 ((s.queue (1208 + p)).pkts.length * (s.cesCfg p).pktFrames)) 24 + fld (s.cesState p) 18
  + flag ((s.e1Cfg p).enable && !m.selB) 17 + flag x.crc4On 16 + flag x.rRx 7 + flag x.lRx 6 + x.defects.toNat

/-- The mirrors of the lanes, the ring sides, the E1 ports and the peripherals are refreshed, every frame (R179, R484,
R559, R932). -/
def State.refresh (s : State) : State :=
  let s1 := (List.range 4).foldl (fun (t : State) l =>
    t.modLane l (fun x => { x with mirror := BitVec.ofNat 32 (t.lnStatus l) })) s
  let s2 := (List.range 2).foldl (fun (t : State) d =>
    t.modSide d (fun x => { x with mirror := BitVec.ofNat 32 (t.ringStatus d) })) s1
  let s3 := (List.range 8).foldl (fun (t : State) p =>
    t.modE1 p (fun x => { x with mirror := BitVec.ofNat 32 (t.e1Status p) })) s2
  let m : Tab W32 := [s.tempReg 0, s.tempReg 2, s.gpioStatus, s.pfStatus].zipIdx.map (fun x =>
    (x.2, BitVec.ofNat 32 x.1))
  { s3 with craft := { s3.craft with mirrors := m.filter (fun x => x.2 != 0) } }

/-- A mirror of a peripheral register (Table CF-4). -/
def Craft.mirror (c : Craft) (k : Nat) : Nat := (Tab.get 0 c.mirrors k).toNat

/-- PF_STATUS as it reads: what stands behind a gated bit reads zero (R104), FLASH_PRESENT is the latched strap. -/
def State.pfReg (s : State) : Nat :=
  let v := s.craft.mirror 3
  (if s.clocked 29 then v / 65536 * 65536 + flag (v.testBit 1) 1 else 0) + flag (s.clocked 27 && v.testBit 3) 3
  + flag ((s.clocked 24 || s.clocked 25) && v.testBit 2) 2 + flag s.start.flashPresent 0

/-- What a Tide frame boundary does by itself. -/
def State.boundary (s : State) : State :=
  ((((List.range 8).foldl State.e1Boundary ((List.range 4).foldl State.laneIdleCheck s.idleChange)).timingTake)).refresh

/-- Whether Tide counts: the dividers have started and are not held (R74, R90, R108), and the device
is not in MOORED or BEACHED (R794). -/
def tideRuns (s : State) : Bool :=
  s.clk.running && !s.clk.rootHold && decide (s.power.state ≠ .moored)
  && decide (s.power.state ≠ .beached)

/-- Time passes until Tide reaches an instant that the state holds, if it has not reached it yet: the
arrival of a command that stands for the instant says that it has (log 2). An instant less than half of Tide's range
ahead, modulo that range, is one that lies ahead (DEDUCED, log 2). While Tide does not count, no instant comes. -/
def State.until (t : Nat) (s : State) : State :=
  let d := (t + (tideMod - s.tide.ticks % tideMod)) % tideMod
  if d = 0 ∨ tideMod / 2 ≤ d ∨ tideRuns s = false then s
  else
    let e := s.tide.ticks + d
    let s1 := { s with now := s.now + d
                       bnd := s.bnd + (e / frameTicks - s.tide.frame)
                       tide := { s.tide with frame := e / frameTicks % frameWrap, tick := e % frameTicks } }
    if s1.bnd = s.bnd then s1 else s1.boundary

/-- Time passes until an elapsed instant that the state holds, none for none. -/
def State.untilNow (e : Option Nat) (s : State) : State :=
  match e with
  | some e => s.until (s.tide.ticks + (e - s.now))
  | none => s

/-- Request a switch of a clock multiplexer (R100). -/
def State.muxRequest (key : Nat) (toB : Bool) (s : State) : State :=
  { s with clk := { s.clk with muxes := Tab.modify {} s.clk.muxes key (fun m =>
      match m.pending with
      | none => if m.selB = toB then m else { m with pending := some toB }
      | some b => if b = toB then m else { m with queued := some toB }) } }

/-- Draw a fresh free value number. -/
def State.draw (s : State) : Nat × State := (s.fresh, { s with fresh := s.fresh + 1 })

/-- Ask for a re-run of checks 4 to 10 at the second frame boundary after now (R407); of two triggers
the later one counts (Table AD-4). -/
def State.recheck (s : State) : State :=
  { s with adm := { s.adm with due := some (s.tide.frame + 2) } }

end Sys2Proof.Machine
end

