-- ==== Sys2Proof/Machine/Packets.lean ====
section
/-!
DEFINITION. Operations over the cell pool, the queues, reservations, thresholds, flushes and token
buckets (chapters on the cell pool and on scheduling), shared by every entry and exit point.
-/

namespace Sys2Proof.Machine

/-! ### Packets, cells and queues -/

/-- Cells that a packet of `n` bytes occupies (R284). -/
def cellsOf (n : Nat) : Nat := max 1 (ceilDiv n 256)

/-- Bytes from `a` to before `b` that launched ranges cover; the ranges of a packet do not overlap. -/
def covered (out : List (Nat × Nat)) (a b : Nat) : Nat :=
  (out.map (fun r => min b (r.1 + r.2) - max a r.1)).sum

/-- Cells that a packet occupies: those with a byte that has not been launched, and the one that is being filled
while the packet is written (R217, R284). -/
def Packet.cells (p : Packet) : Nat :=
  let n := p.bytes.length
  if p.out.isEmpty then cellsOf n
  else ((List.range (cellsOf n)).filter (fun k =>
    (p.writer != 0 && decide (n < 256 * k + 256))
    || decide (covered p.out (256 * k) (min n (256 * k + 256)) < min n (256 * k + 256) - 256 * k))).length

/-- Whether the bytes still give the check value (R289). -/
def Packet.checkOk (p : Packet) : Bool := crc32c p.bytes == p.check

/-- A packet as an entry point writes it (R289). -/
def mkPacket (bytes : List Byte) (trunc : Bool) (owner : Nat) : Packet :=
  { bytes := bytes, check := crc32c bytes, trunc := trunc, owner := owner }

/-- Direction of a queue (R312): 0 DOWN, 1 UP, 2 RING, 3 CP, 4 none. -/
def dirOf (q : Nat) : Nat :=
  if q < 128 ∨ (1200 ≤ q ∧ q ≤ 1215) ∨ (1536 ≤ q ∧ q ≤ 1791) then 0
  else if 2048 ≤ q ∧ q ≤ 4095 then 1
  else if 1024 ≤ q ∧ q ≤ 1143 then 2
  else if 1280 ≤ q ∧ q ≤ 1343 then 3
  else 4

def sumCells (l : List Packet) : Nat := (l.map Packet.cells).sum

def Queue.cells (q : Queue) : Nat := sumCells q.pkts

/-- One of each numbered packet among some. -/
def onePerNo (l : List (Nat × Packet)) : List (Nat × Packet) :=
  l.foldr (fun x t => if x.2.no != 0 && t.any (fun y => y.2.no == x.2.no) then t else x :: t) []

/-- The CP queue of a lane's OMCC (R158, Table CL-3; the number is Itvekor's: DESIGN CHOICE, log 22). -/
def omciQueue (l : Nat) : Nat := 1280 + l

/-- Partly sent and bound packets that still occupy cells, each once, with its queue. -/
def Line.boundUp (l : Line) : List (Nat × Packet) :=
  onePerNo (l.allocs.flatMap (fun a => a.2.rest.toList.map (fun x => (x.queue, x.packet)))
    ++ l.lanes.flatMap (fun x => x.2.omciRest.toList.map (fun p => (omciQueue x.1, p)))
    ++ l.pending.flatMap (fun c => c.items.map (fun i => (i.queue, i.packet))))

/-- Staged, partly sent and bound packets that still occupy cells: upstream packets outside their queue's
list, each with its queue. -/
def Line.heldUp (l : Line) : List (Nat × Packet) :=
  l.allocs.flatMap (fun a => a.2.staged.map (fun x => (x.queue, x.packet))) ++ l.boundUp

/-- Occupancy of a queue in cells (R297). -/
def State.occupancy (s : State) (q : Nat) : Nat :=
  (s.queue q).cells + sumCells ((s.line.heldUp.filter (fun x => x.1 == q)).map (·.2))

/-- Cells of held resequencer fragments (R261). -/
def Line.fragCells (l : Line) : Nat :=
  (l.groups.map (fun g => (g.2.frags.map (fun f => cellsOf f.bytes.length)).sum)).sum

/-- Packets in reassembly from the ring. -/
def Ring.parts (r : Ring) : List Reasm := r.reasm.filterMap (·.2)

/-- Cells that a direction uses (R312). -/
def State.used (s : State) (d : Nat) : Nat :=
  ((s.pool.queues.filter (fun x => dirOf x.1 == d)).map (fun x => x.2.cells)).sum
  + sumCells ((s.line.heldUp.filter (fun x => dirOf x.1 == d)).map (·.2))
  + ((s.ring.parts.filter (fun x => dirOf x.queue == d)).map (·.cells)).sum
  + (if d = 0 then s.line.fragCells else 0)

/-- Cells of a berth (owner is berth plus one). -/
def State.ownerCells (s : State) (o : Nat) : Nat :=
  (s.pool.queues.map (fun x => sumCells (x.2.pkts.filter (fun p => p.owner == o)))).sum
  + sumCells ((s.line.heldUp.map (·.2)).filter (fun p => p.owner == o))
  + ((s.ring.parts.filter (fun x => x.owner == o)).map (·.cells)).sum

/-- MIN of a direction in force (R313). -/
def State.minOf (s : State) (d : Nat) : Nat :=
  let c := s.cfg.pool s.self
  match d with
  | 0 => c.minDown
  | 1 => c.minUp
  | 2 => c.minRing
  | _ => c.minCp

/-- The unmet reservations of the directions other than `d` (R314); `d` 4 gives all. -/
def State.unmet (s : State) (d : Nat) : Nat :=
  ((List.range 4).map (fun x => if x = d then 0 else s.minOf x - s.used x)).sum

/-- What R314 answers when an entry point asks for cells. -/
inductive Take
  | ok
  | quota
  | full
  deriving DecidableEq, Repr

/-- R314 for `n` cells taken one after another: `used`, `berth`, `free` as they stand. -/
def takeCells (min quota unmet : Nat) (owned : Bool) : Nat → Nat → Nat → Nat → Take
  | 0, _, _, _ => .ok
  | n + 1, used, berth, free =>
    if owned && decide (quota ≤ berth) then .quota
    else if free = 0 then .full
    else if used < min ∨ unmet < free then
      takeCells min quota unmet owned n (used + 1) (berth + 1) (free - 1)
    else .full

/-- R314 for a packet of `n` cells of an owner toward queue `q`. -/
def State.mayTake (s : State) (q owner n : Nat) : Take :=
  let d := dirOf q
  takeCells (s.minOf d) (s.cfg.quotaOf (owner - 1)) (s.unmet d) (owner != 0) n (s.used d)
    (s.ownerCells owner) s.pool.free

/-! ### Thresholds and the low-water mark -/

/-- Post a threshold entry on the manager (R299, R302). -/
def State.qthPost (entry : W32) (obj : Nat) (s : State) : State :=
  let e := s.evt
  if e.qthFifo.length < 1024 then
    ({ s with evt := { e with qthFifo := e.qthFifo ++ [entry] } }).raise 288 obj 0
  else if e.qthHush then { s with evt := { e with qthOvf := true } }
  else ({ s with evt := { e with qthOvf := true, qthHush := true } }).raise 289 obj 0

/-- The threshold entry of a queue (Table CL-4). -/
def qthEntry (node q frame : Nat) : W32 :=
  BitVec.ofNat 32 (node * 2 ^ 28 + q * 2 ^ 16 + frame % 2 ^ 16)

/-- Follow a change of a queue's occupancy: an upward crossing posts (R299, R300), a fall below QTHR
re-arms (R301). A worker relays its entry at once (R303). -/
def State.threshold (q : Nat) (s : State) : State :=
  let thr := (s.cfg.queue (s.obj 2 q)).qthr
  let occ := s.occupancy q
  let x := s.queue q
  if thr = 0 ∨ occ < thr then s.modQueue q (fun y => { y with above := false })
  else if x.above then s
  else
    let s1 := s.modQueue q (fun y => { y with above := true })
    let en := qthEntry s.self q s.tide.frame
    if x.unread then s1
    else if s.isManager then
      if s.evt.qthFifo.length < 1024 then
        (s1.modQueue q (fun y => { y with unread := true })).qthPost en (s.obj 2 q)
      else s1.qthPost en (s.obj 2 q)
    else (s1.raise 288 (s.obj 2 q) 0).dcc 0 (.qthRelay en)

/-- POOL_LOW, once per fall of FREE below the unmet reservations plus 4,096 cells (Table CL-9). -/
def State.poolLow (s : State) : State :=
  let low := decide (s.pool.free < s.unmet 4 + 4096)
  let s1 := { s with pool := { s.pool with low := low } }
  if low && !s.pool.low then s1.raise 259 0 0 else s1

/-! ### Errors in cell data (R285, R286) -/

/-- What a read of cell data finds: an error of one bit is corrected and counted, one of two counted (Table CL-9). -/
def State.eccRead (e : Ecc) (obj : Nat) (s : State) : State :=
  match e with
  | .none => s
  | .corrected => (s.inc 0x5C0).raiseWin 8000 256 0 obj 0
  | .uncorrectable => (s.inc 0x5C1).raise 257 obj 0

/-- A packet with an error of two bits is BAD (R286). -/
def Packet.ecc (e : Ecc) (p : Packet) : Packet := if e = .uncorrectable then { p with bad := true } else p

/-! ### Ring egress queues -/

/-- The ring egress queue toward node `n` in a ring class (R294, R423). -/
def State.ringQueue (s : State) (n c : Nat) : Nat :=
  1024 + 60 * s.ring.sideOf n + 4 * (if n < s.self then n else n - 1) + c

/-! ### Moves between classes (R317) -/

/-- Move `n` cells from FREE to QUEUED. -/
def State.takeQueued (n : Nat) (s : State) : State :=
  { s with pool := { s.pool with free := s.pool.free - n, queued := s.pool.queued + n } }

/-- Move `n` cells from QUEUED to FREE. -/
def State.freeQueued (n : Nat) (s : State) : State :=
  { s with pool := { s.pool with free := s.pool.free + n, queued := s.pool.queued - n } }

/-- Count packets as queue drops of a queue (Table EV-8, offset 1). -/
def State.queueDrop (q n : Nat) (s : State) : State := s.count (0x8000 + 4 * q + 1) n

/-- Link a whole packet to the tail of a queue whose cells have been granted. -/
def State.link (q : Nat) (p : Packet) (s : State) : State :=
  (((s.modQueue q (fun x => { x with pkts := x.pkts ++ [p] })).takeQueued p.cells).threshold
    q).poolLow

/-- The events of a refused cell (Table CL-9: BERTH_QUOTA, DIR_MIN_SHORT). -/
def State.refusedCell (q owner : Nat) (t : Take) (s : State) : State :=
  let d := dirOf q
  let s1 := if t = .quota then
      s.raiseWin 8000 263 owner (objId 0 0xD (owner - 1)) 0 else s
  if s.used d < s.minOf d then s1.raiseWin 8000 264 (1000 + d) (s.obj 2 q) d else s1

/-- Whether intake is stopped: MOORED or BEACHED entry (Table PW-4 step 1), a VIN-fail sequence past
step 3 or a worker's shed (R840), MAINTENANCE (R881). -/
def State.intakeStopped (s : State) : Bool :=
  s.power.entry.any (fun _ => s.power.state != .run && s.power.state != .idle)
  || decide (3 ≤ s.cistern.run) || s.cistern.shed.isSome || s.start.maint

/-- Whether an egress queue takes packets: its port is up, or was taken down under R513. -/
def State.egressTakes (s : State) (q : Nat) : Bool :=
  let p := s.port (q / 8)
  decide (128 ≤ q) || p.link || p.heldQueues

/-- Whether an upstream queue is enabled (R343, R345). -/
def Cfg.upEnabled (c : Cfg) (q : Nat) : Bool :=
  bit (c.schedOf (objId 0 9 ((q - 2048) / 16))).qEnable ((q - 2048) % 16)

/-- How an entry point's packet ended. -/
inductive Entered
  | queued
  | dropped
  | quota
  | full
  deriving DecidableEq, Repr

/-- An entry point offers a packet, whole or begun, to a queue: discarded during a recount (R321), while intake
is stopped (what Itvekor itself sends is no intake: the OMCI relay goes on, R881), at a port that is down (R512) or at a disabled upstream queue (R345); refused a cell
under R314 and R315; otherwise linked. -/
def State.offer (q : Nat) (p : Packet) (s : State) : State × Entered :=
  if s.pool.recount then (s.inc 0x5C2, .dropped)
  else if s.intakeStopped && dirOf q != 3 then (s.queueDrop q 1, .dropped)
  else if !s.egressTakes q then (s.queueDrop q 1, .dropped)
  else if 2048 ≤ q && !s.cfg.upEnabled q then (s.queueDrop q 1, .dropped)
  else
    match s.mayTake q p.owner p.cells with
    | .ok => (s.link q p, .queued)
    | .quota => ((s.queueDrop q 1).refusedCell q p.owner .quota, .quota)
    | .full => ((s.queueDrop q 1).refusedCell q p.owner .full, .full)

/-- Offer a packet to a manager upstream queue: directly on the manager, over the ring in a ring
class from a worker (R383, R544). -/
def State.offerUp (q cls : Nat) (p : Packet) (s : State) : State × Entered :=
  if s.isManager then s.offer q p
  else s.offer (s.ringQueue 0 cls) { p with dest := q }

/-- Free a packet that has left its queue's list. -/
def State.freePacket (q : Nat) (p : Packet) (s : State) : State :=
  ((s.freeQueued p.cells).threshold q).poolLow

/-- Remove packets from a queue and free them. -/
def State.removeAll (q : Nat) (gone keep : List Packet) (s : State) : State :=
  (((s.modQueue q (fun x => { x with pkts := keep })).freeQueued (sumCells gone)).threshold
    q).poolLow

/-! ### Packets that are still being written (R310, R311, R315, R499) -/

/-- Change every copy of the packet that entry point `w` writes: in its queue, at its port, in the remainder
and the caravans that hold it. -/
def State.mapWriter (w : Nat) (f : Packet → Packet) (s : State) : State :=
  let g := fun (p : Packet) => if p.writer = w then f p else p
  { s with
    pool := { s.pool with queues := s.pool.queues.map (fun x => (x.1, { x.2 with pkts := x.2.pkts.map g })) }
    ports := s.ports.map (fun x => (x.1, { x.2 with tx := x.2.tx.map (fun t => { t with packet := g t.packet }) }))
    line := { s.line with
      allocs := s.line.allocs.map (fun x =>
        (x.1, { x.2 with rest := x.2.rest.map (fun r => { r with packet := g r.packet }) }))
      pending := s.line.pending.map (fun c =>
        { c with items := c.items.map (fun i => { i with packet := g i.packet }) }) } }

/-- The packet that entry point `w` is writing, with its queue and whether its consumer has started it: it
stands in its queue, or at a port, or it is a partly sent remainder. -/
def State.writing (s : State) (w : Nat) : Option (Nat × Packet × Bool) :=
  let inQueue := s.pool.queues.flatMap (fun x =>
    (x.2.pkts.zipIdx.filter (fun y => y.1.writer == w)).map (fun y =>
      (x.1, y.1, (x.2.sending && y.2 == 0) || y.1.sent != 0)))
  let atPort := s.ports.flatMap (fun x =>
    (x.2.tx.toList.filter (fun t => t.packet.writer == w)).map (fun t => (t.queue, t.packet, true)))
  let inRest := s.line.allocs.flatMap (fun x =>
    (x.2.rest.toList.filter (fun r => r.packet.writer == w)).map (fun r => (r.queue, r.packet, true)))
  (atPort ++ inRest ++ inQueue).head?

/-- Whether a packet of which `n` bytes are present may be started before it is complete (R310). -/
def State.startsEarly (s : State) (q n : Nat) : Bool :=
  let ct := (s.cfg.queue (s.obj 2 q)).ctBytes
  decide (ct ≠ 0) && decide (ct ≤ n)

/-- Whether the consumer of queue `q` may start a packet: it is complete, or CT_BYTES of it are present (R310). -/
def State.mayStart (s : State) (q : Nat) (p : Packet) : Bool := p.writer == 0 || s.startsEarly q p.bytes.length

/-- The last cell of a packet is written: its check value stands in its descriptor (R289), BAD where it must not
leave as good (R311). -/
def State.endWrite (w : Nat) (bad trunc : Bool) (s : State) : State :=
  let f := fun (p : Packet) =>
    { p with writer := 0, check := crc32c p.bytes, bad := p.bad || bad, trunc := p.trunc || trunc }
  match s.writing w with
  | none => s
  | some (q, p, _) =>
    let n := p.cells - (f p).cells
    let s1 := s.mapWriter w f
    if n = 0 then s1 else ((s1.freeQueued n).threshold q).poolLow

/-- A packet still being written is discarded: its cells are free again. -/
def State.dropWrite (w q : Nat) (p : Packet) (s : State) : State :=
  (((s.modQueue q (fun x =>
    { x with pkts := x.pkts.filter (fun y => y.writer != w)
             flush := x.flush.map (fun n => ((x.pkts.take n).filter (fun y => y.writer != w)).length) })).freeQueued
    p.cells).threshold q).poolLow

/-- A packet being written ends without being good: one that its consumer has started gets BAD, another is
discarded (R311, R315, R379, R499). -/
def State.spoilWrite (w : Nat) (s : State) : State :=
  match s.writing w with
  | none => s
  | some (q, p, started) => if started then s.endWrite w true false else s.dropWrite w q p

/-- More bytes of the packet that `w` writes: cells are taken for them under R314; a refusal ends the packet
(R315). What is no longer written, because its consumer has ended it, takes none. -/
def State.moreWrite (w : Nat) (b : List Byte) (s : State) : State × Entered :=
  match s.writing w with
  | none => (s, .queued)
  | some (q, p, _) =>
    let n := cellsOf (p.bytes.length + b.length) - cellsOf p.bytes.length
    match s.mayTake q p.owner n with
    | .ok => ((((s.mapWriter w (fun p => { p with bytes := p.bytes ++ b })).takeQueued n).threshold q).poolLow, .queued)
    | .quota => (((s.spoilWrite w).queueDrop q 1).refusedCell q p.owner .quota, .quota)
    | .full => (((s.spoilWrite w).queueDrop q 1).refusedCell q p.owner .full, .full)

/-- What becomes of the frame that port `p` receives: kept while it goes on, forgotten at its end. -/
def State.setRx (p : Nat) (fin : Bool) (x : RxFrame) (s : State) : State :=
  s.modPort p (fun y => { y with rx := if fin then none else some x })

/-- The frame that port `p` receives is thrown away: what was written of it is discarded, or BAD where its consumer
has started it (R311). -/
def State.loseRx (p : Nat) (fin : Bool) (s : State) : State := (s.spoilWrite (p + 1)).setRx p fin { write := .lost }

/-! ### Flush (R304 to R308) -/

/-- Whether a queue has staged packets. -/
def State.hasStaged (s : State) (q : Nat) : Bool :=
  s.line.allocs.any (fun a => a.2.staged.any (fun x => x.queue == q))

/-- The flush acts: it frees the complete packets among the first `n` of the list, but not the one being
transmitted (R304). -/
def State.flushNow (q n : Nat) (s : State) : State :=
  let x := s.queue q
  let head := if x.sending then 1 else 0
  let old := (x.pkts.drop head).take (n - head)
  let gone := old.filter (fun p => p.writer == 0)
  let keep := x.pkts.take head ++ old.filter (fun p => p.writer != 0) ++ (x.pkts.drop head).drop (n - head)
  ((s.modQueue q (fun y => { y with flush := none })).removeAll q gone keep).count (0x8000 + 4 * q)
    gone.length

/-- The flush point of a queue (R304, R307): it acts at once when nothing of the queue is being
transmitted or staged and no recount holds it; otherwise it waits. -/
def State.flushPoint (q : Nat) (s : State) : State :=
  let x := s.queue q
  if x.sending || s.pool.recount || s.hasStaged q then
    s.modQueue q (fun y => { y with flush := some y.pkts.length })
  else s.flushNow q x.pkts.length

/-- Carry out a flush that waits, if there is one and nothing delays it any more. -/
def State.flushWaiting (q : Nat) (s : State) : State :=
  match (s.queue q).flush with
  | none => s
  | some n => if s.pool.recount || s.hasStaged q then s else s.flushNow q n

/-! ### Token buckets (R338 to R342) -/

/-- Units of a bucket per byte: 8 bits × 6.2208 × 10⁹ ticks. -/
def byteUnits : Nat := 49766400000

/-- Accrue a bucket to an elapsed-time instant, up to its size (R338, R339). -/
def Bucket.accrue (rate size now : Nat) (b : Bucket) : Bucket :=
  { tok := min (size * byteUnits) (b.tok + rate * (now - b.last)), last := now }

/-- A full bucket (R341). -/
def fullBucket (size now : Nat) : Bucket := { tok := size * byteUnits, last := now }

/-- Whether a bucket covers a length; a disabled bucket always does (R340, R342). -/
def Bucket.covers (rate len : Nat) (b : Bucket) : Bool :=
  rate == 0 || decide (len * byteUnits ≤ b.tok)

/-- Debit a bucket; a disabled bucket is never debited (R340). -/
def Bucket.debit (rate len : Nat) (b : Bucket) : Bucket :=
  if rate = 0 then b else { b with tok := b.tok - len * byteUnits }

/-- Ticks until accrual covers a length (R359). -/
def Bucket.wait (rate len : Nat) (b : Bucket) : Nat :=
  if rate = 0 then 0 else ceilDiv (len * byteUnits - b.tok) rate

end Sys2Proof.Machine
end

