-- ==== Sys2Proof/Machine/E1.lean ====
section
/-!
DEFINITION. E1 ports and circuit emulation: the slip buffer, the packetiser, the jitter buffer and
playout, defects and timing fallback.
-/

namespace Sys2Proof.Machine

/-- Raise event `k` of E1 port p (R560). -/
def State.e1Event (p k detail : Nat) (s : State) : State :=
  s.raise (512 + 4 * p + k) (s.obj 7 p) detail

/-- Counter index of E1 port p (Table TF-7). -/
def e1Cnt (p i : Nat) : Nat := 0x400 + 32 * p + i

/-- Payload bytes P (R540): SAToP for an UNFRAMED port, CESoPSN for a FRAMED one. -/
def payloadLen (framed : Bool) (c : CesCfg) : Nat :=
  c.pktFrames * (if framed then tsCount c.tsMask else 32)

/-- Header length H (Table TF-2), stored length L and cells C_pkt (R543). -/
def hdrLen (c : CesCfg) : Nat := if c.tagEn then 26 else 22
def storedLen (framed : Bool) (c : CesCfg) : Nat := max (hdrLen c + payloadLen framed c) 60
def pktCells (framed : Bool) (c : CesCfg) : Nat := ceilDiv (storedLen framed c) 256

/-- JB_CELLS (R547): JB_DEPTH and T_p are both in frames of 125 µs. -/
def jbCells (framed : Bool) (c : CesCfg) : Nat :=
  (ceilDiv (2 * c.jbDepth) c.pktFrames + 2) * pktCells framed c

/-- Bytes of a frame whose content nothing gives: free values (log 9). -/
def freeFrame (n : Nat) : List Byte :=
  (List.range 32).map (fun i => (Config.freeWord (n + i)).setWidth 8)

/-- The slip buffer restarts with a separation of one frame (R538): one frame that nothing wrote. -/
def State.slipRestart (p : Nat) (s : State) : State :=
  { s.modE1 p (fun x => { x with slip := [freeFrame s.fresh] }) with fresh := s.fresh + 32 }

/-- Count one receive (5), transmit (6) or jitter-buffer (7) slip and raise E1_SLIP. -/
def State.e1Slip (p i : Nat) (s : State) : State := (s.inc (e1Cnt p i)).e1Event p 1 0

/-- Playout restarts (R548): the buffer is discarded, the next arrival is the first packet. -/
def State.cesRestart (p : Nat) (s : State) : State :=
  let q := s.queue (1208 + p)
  ((s.modE1 p (fun x => { x with playing := false, margins := [], sinceSlip := 64
                                 lostRun := 0, playRun := 0, played := [], txq := [], skip := false })).removeAll (1208 + p) q.pkts [])

/-- A circuit goes out of service (R556): both queues flushed, playout stopped; a packet being played completes (Table
TF-4). DETAIL 3 is out of service (log 12). -/
def State.cesStop (p : Nat) (s : State) : State :=
  (((s.flushPoint (1200 + p)).flushPoint (1208 + p)).modE1 p (fun x =>
    { x with playing := false, margins := [], sinceSlip := 64, lostRun := 0, playRun := 0
             gather := [], lops := false, played := [], skip := false })).e1Event p 3 3

/-- The circuit is restored (R413, R556): playout restarts. DETAIL 4 is the restore (log 12). -/
def State.cesRestore (p : Nat) (s : State) : State := (s.cesRestart p).e1Event p 3 4

/-! ### Receive side -/

/-- The receive framer restarts its place in the multiframe: the next frame is the first of one (log 68). -/
def E1.realign (x : E1) : E1 := { x with rxPos := 0, rxCrc := 0, rxC := 0, rxPrev := none }

/-- What the receive framer reads in timeslot 0 of a frame: an errored FAS (0), a CRC-4 block error (1), an E bit that
reports one (2), as counter offsets of Table TF-7. The first bit of the frame is `c`. -/
def framerErrors (crc : Bool) (x : E1) (ts0 : Byte) : List Nat :=
  let k := x.rxPos
  let c := ts0.getLsbD 7
  (if k % 2 = 0 ∧ ts0.toNat % 128 ≠ 0x1B then [0] else [])
  ++ (if crc = true ∧ k % 8 = 6 ∧ x.rxPrev.any (fun r => r != x.rxC * 2 + b2n c) = true then [1] else [])
  ++ (if crc = true ∧ (k = 13 ∨ k = 15) ∧ c = false then [2] else [])

/-- The receive framer after a frame: the remainder of the sub-multiframe, its CRC bits and the block errors that the E
bits are to report (R530). -/
def framerNext (frame : List Byte) (x : E1) : E1 :=
  let k := x.rxPos
  let c := (frame.getD 0 0).getLsbD 7
  let f := if k % 2 = 0 then clearFirst (frame.getD 0 0) :: frame.tail else frame
  let start := decide (k % 8 = 0)
  let prev := if start && (x.rxPrev.isSome || k = 8) then some x.rxCrc else x.rxPrev
  let got := (if start then 0 else x.rxC * 2) + b2n c
  let bad := prev.any (fun r => r != got)
  { x with rxPos := (k + 1) % 16, rxCrc := crc4 (if start then 0 else x.rxCrc) f, rxPrev := prev
           rxC := if k % 2 = 0 then got else x.rxC
           errI := if k = 14 then bad else x.errI
           errII := if k = 6 then bad else x.errII }

/-- A received frame passes the framer, which runs before the slip buffer: in an aligned FRAMED port it counts errors
(Table TF-7). -/
def State.framer (p : Nat) (frame : List Byte) (s : State) : State :=
  let x := s.e1 p
  if !(s.e1Cfg p).framed || (x.defects &&& 0b000101#6) != 0 then s
  else
    (framerErrors (s.e1Crc4 p && !x.defects.getLsbD 5) x (frame.getD 0 0)).foldl (fun t k => t.inc (e1Cnt p k))
      (s.modE1 p (framerNext frame))

/-- SLIP_BUFFER_WRITE (R536, R537): a frame that the framer has delimited is written on RCLK; a write that finds both
frames full drops the oldest. -/
def execSlipBufferWrite (p : E1No) (frame : List Byte) (s : State) :
    Host.Outcome State Fault Refusal :=
  .next (
    if !s.e1Runs p.val then s
    else
      let x := s.e1 p.val
      let s1 := (s.framer p.val frame).modE1 p.val (fun x =>
        { x with slip := x.slip.drop (x.slip.length - 1) ++ [frame] })
      if 2 ≤ x.slip.length then s1.e1Slip p.val 5 else s1)

/-- A frame read from the slip buffer goes to the packetiser, while its circuit is in service (R541, R556). -/
def E1.gathers (on : Bool) (frame : List Byte) (x : E1) : List (List Byte) :=
  if on then x.gather ++ [frame] else x.gather

/-- SLIP_BUFFER_READ (R536, R537): one frame at a Tide frame boundary; a read that finds none repeats
the last frame read. -/
def execSlipBufferRead (p : E1No) (s : State) : Host.Outcome State Fault Refusal :=
  .next (
    if !s.e1Runs p.val then s
    else
      let s0 := s.until s.tide.boundaryAt
      let on := s0.cesOn p.val
      match (s0.e1 p.val).slip with
      | fr :: t =>
        s0.modE1 p.val (fun x => { x with slip := t, lastRead := fr, gather := x.gathers on fr })
      | [] =>
        (s0.modE1 p.val (fun x => { x with gather := x.gathers on x.lastRead })).e1Slip p.val 5)

/-- A circuit packet (Table TF-2, R542). LEN of the control word is the length of control word and
payload when it is below 64 and 0 otherwise, as RFC 4553 gives (PRESUMED, log 10). -/
def cesPacket (framed : Bool) (c : CesCfg) (seq : Nat) (l r : Bool) (payload : List Byte) :
    List Byte :=
  let n := payload.length + 4
  let cw := [BitVec.ofNat 8 (8 * b2n l + 4 * b2n r), BitVec.ofNat 8 (if n < 64 then n else 0)]
    ++ beBytes 2 seq
  let hd := c.da ++ c.sa ++ (if c.tagEn then beBytes 2 0x8100 ++ beBytes 2 c.tagTci else [])
    ++ beBytes 2 0x8847 ++ beBytes 4 (c.txLabel * 4096 + 256 + 255)
  let b := hd ++ cw ++ payload
  b ++ List.replicate (storedLen framed c - b.length) 0

/-- Defects that make the packetiser set L (R542): all of Table TF-3 but RAI (R555). -/
def defectL (d : BitVec 6) : Bool := (d &&& 0b101111#6) != 0

/-- CES_PACKETISE (R541, R542): one packet when F frames have been read. -/
def execCesPacketise (p : E1No) (s : State) : Host.Outcome State Fault Refusal :=
  .next (
    let c := s.cesCfg p.val
    let x := s.e1 p.val
    let framed := (s.e1Cfg p.val).framed
    if !s.e1Runs p.val || !s.cesOn p.val || decide (x.gather.length < c.pktFrames) then s
    else
      let l := defectL x.defects
      let fr := x.gather.take c.pktFrames
      let pay := if l then List.replicate (payloadLen framed c) 0xFF#8
        else if framed then fr.flatMap (selectSlots c.tsMask) else fr.flatten
      let pkt := mkPacket (cesPacket framed c x.txSeq l x.lops pay) false
        (s.cfg.ownerOf (s.obj 8 p.val))
      let s1 := s.modE1 p.val (fun x =>
        { x with gather := x.gather.drop c.pktFrames, txSeq := (x.txSeq + 1) % 65536 })
      (s1.inc (e1Cnt p.val 8)).offerUp c.upQueue 1 pkt |>.1)

/-! ### Jitter buffer and playout -/

/-- Position of the control word in a stored packet, its SEQ, L and R bits and its payload. -/
def cwAt (c : CesCfg) : Nat := hdrLen c - 4
def pktSeq (c : CesCfg) (b : List Byte) : Nat := beNat ((b.drop (cwAt c + 2)).take 2)
def pktL (c : CesCfg) (b : List Byte) : Bool := (b.getD (cwAt c) 0).getLsbD 3
def pktR (c : CesCfg) (b : List Byte) : Bool := (b.getD (cwAt c) 0).getLsbD 2
def pktPayload (framed : Bool) (c : CesCfg) (b : List Byte) : List Byte :=
  (b.drop (hdrLen c)).take (payloadLen framed c)

/-- Whether the CES engine accepts a packet (R545). -/
def cesAccepts (framed : Bool) (c : CesCfg) (b : List Byte) : Bool :=
  beNat ((b.drop (hdrLen c - 10)).take 2) == 0x8847
  && beNat ((b.drop (hdrLen c - 8)).take 4) / 4096 == c.rxLabel
  && b.length == storedLen framed c

/-- Insert a packet in SEQ order, counted from the next packet to play. -/
def insertSeq (c : CesCfg) (base : Nat) (p : Packet) : List Packet → List Packet
  | [] => [p]
  | x :: t =>
    if (pktSeq c p.bytes + 65536 - base) % 65536 < (pktSeq c x.bytes + 65536 - base) % 65536
    then p :: x :: t else x :: insertSeq c base p t

/-- Boundaries from now to the first frame boundary at or after now plus `n` frames (R548). -/
def State.boundaryAfter (s : State) (n : Nat) : Nat :=
  s.bnd + n + (if s.tide.tick = 0 then 0 else 1)

/-- Ticks from now to the boundary counted `b` (negative when it has passed). -/
def State.ticksTo (s : State) (b : Nat) : Int :=
  ((b : Int) - (s.bnd : Int)) * (frameTicks : Int) - (s.tide.tick : Int)

/-- One whole frame is repeated: the last one played again, every later start a frame later (R552). Before the first
start only the start moves. -/
def E1.repeatFrame (x : E1) : E1 :=
  { x with start := x.start + 1, sinceSlip := 0
           txq := if x.playRun + x.lostRun = 0 then x.txq else x.lastPlayed :: x.txq }

/-- One whole frame is dropped: the next one to be played, every later start a frame earlier (R552; which frame is
dropped is the model's choice, log 104). -/
def E1.dropFrame (x : E1) : E1 :=
  { x with start := x.start - 1, sinceSlip := 0
           txq := x.txq.drop 1
           skip := x.skip || (x.txq.isEmpty && x.playRun + x.lostRun != 0) }

/-- R552: note an arrival's margin; when the smallest of the last 64 leaves its bounds, one frame is
repeated or dropped, not again before 64 more arrivals and not in LOPS. -/
def State.jbMargin (p depth : Nat) (m : Int) (s : State) : State :=
  let ms := (m :: (s.e1 p).margins).take 64
  let low := ms.foldl min m
  let x := s.e1 p
  let s1 := s.modE1 p (fun x => { x with margins := ms, sinceSlip := x.sinceSlip + 1 })
  if x.sinceSlip < 64 || x.lops then s1
  else if low < (frameTicks : Int) then
    (s1.modE1 p E1.repeatFrame).e1Slip p 7
  else if ((depth + 2) * frameTicks : Int) < low then
    (s1.modE1 p E1.dropFrame).e1Slip p 7
  else s1

/-- The head packet of queue 1200 + p leaves it without a place in the jitter buffer. -/
def State.cesDiscard (p : Nat) (pkt : Packet) (i : Nat) (s : State) : State :=
  (((s.modQueue (1200 + p) (fun q => { q with pkts := q.pkts.drop 1 })).freePacket (1200 + p)
    pkt).inc (e1Cnt p i))

/-- The head packet of queue 1200 + p moves into the jitter buffer. -/
def State.cesHold (p base : Nat) (pkt : Packet) (s : State) : State :=
  let c := s.cesCfg p
  ((s.modQueue (1200 + p) (fun q => { q with pkts := q.pkts.drop 1 })).modQueue (1208 + p)
    (fun q => { q with pkts := insertSeq c base pkt q.pkts })).inc (e1Cnt p 9)

/-- An accepted packet reaches a circuit that plays (R549 to R552). -/
def State.cesPlace (p : Nat) (pkt : Packet) (s : State) : State :=
  let c := s.cesCfg p
  let framed := (s.e1Cfg p).framed
  let x := s.e1 p
  let seq := pktSeq c pkt.bytes
  let ahead := (seq + 65536 - x.nextSeq) % 65536
  let held := (s.queue (1208 + p)).pkts
  let capacity := jbCells framed c
  if 32768 ≤ ahead then
    -- behind the next packet to play: its start instant has passed, or it has been played
    s.cesDiscard p pkt (if x.played.contains seq then 12 else 11)
  else if held.any (fun y => pktSeq c y.bytes == seq) then s.cesDiscard p pkt 12
  else if capacity / pktCells framed c < ahead then
    let s1 := (((s.cesRestart p).cesHold p seq pkt).inc (e1Cnt p 15)).e1Event p 3 0
    s1.modE1 p (fun x => { x with playing := true, nextSeq := seq, start := s1.boundaryAfter c.jbDepth })
  else if capacity < sumCells held + pkt.cells then s.cesDiscard p pkt 14
  else
    (s.cesHold p x.nextSeq pkt).jbMargin p c.jbDepth (s.ticksTo (x.start + ahead * c.pktFrames))

/-- CES_PACKET_ARRIVAL (R545, R546, R548 to R553): the packet at the head of queue 1200 + p. -/
def execCesPacketArrival (p : E1No) (s : State) : Host.Outcome State Fault Refusal :=
  .next (
    match (s.queue (1200 + p.val)).pkts with
    | [] => s
    | pkt :: _ =>
      let c := s.cesCfg p.val
      let framed := (s.e1Cfg p.val).framed
      if !s.clocked 6 || s.clk.rootHold then s
      else if !s.cesOn p.val then
        (s.modQueue (1200 + p.val) (fun q => { q with pkts := q.pkts.drop 1 })).freePacket
          (1200 + p.val) pkt
      else if !cesAccepts framed c pkt.bytes then s.cesDiscard p.val pkt 13
      else
        let r := pktR c pkt.bytes
        let s0 := s.modE1 p.val (fun x => { x with rRx := r, lRx := pktL c pkt.bytes })
        let s1 := if r then s0.inc (e1Cnt p.val 16) else s0
        if (s.e1 p.val).playing then s1.cesPlace p.val pkt
        else
          let seq := pktSeq c pkt.bytes
          let s2 := s1.cesHold p.val seq pkt
          let st := s.boundaryAfter c.jbDepth
          (s2.modE1 p.val (fun x =>
            { x with playing := true, nextSeq := seq, start := st })).jbMargin p.val c.jbDepth
              (s.ticksTo st))

/-- The circuit enters or leaves LOPS (R554); M is reset at LOPS exit (Table TF-4). -/
def State.cesLops (p : Nat) (s : State) : State :=
  let c := s.cesCfg p
  let x := s.e1 p
  if !x.lops && decide (c.lopsSet ≤ x.lostRun) then
    (s.modE1 p (fun x => { x with lops := true })).e1Event p 3 1
  else if x.lops && decide (c.lopsClr ≤ x.playRun) then
    (s.modE1 p (fun x => { x with lops := false, margins := [], sinceSlip := 64 })).e1Event p 3 2
  else s

/-- The frames of FILL for a lost packet (R549): all ones, or the last frame played repeated. -/
def cesFill (framed : Bool) (c : CesCfg) (last : List Byte) : List (List Byte) :=
  List.replicate c.pktFrames
    (if c.fillRep && !last.isEmpty then last else List.replicate (payloadLen framed c / c.pktFrames) 0xFF#8)

/-- The frames of a packet that is played (R553): with L all ones. -/
def cesFrames (framed : Bool) (c : CesCfg) (b : List Byte) : List (List Byte) :=
  let raw := pktPayload framed c b
  chunksOf (payloadLen framed c / c.pktFrames)
    (if pktL c b then List.replicate raw.length 0xFF#8 else raw)

/-- Frames start to play: the first is sent at this boundary, the others at the following ones; a frame that a buffer
slip has dropped is not sent (R552). -/
def State.playFrames (p : Nat) (fs : List (List Byte)) (s : State) : State :=
  let x := s.e1 p
  if x.skip || !x.txq.isEmpty then
    s.modE1 p (fun y => { y with txq := y.txq ++ fs.drop (b2n y.skip), skip := false })
  else (s.modE1 p (fun y => { y with txq := fs.tail })).e1Send p (fs.headD [])

/-- The SEQ of packets played that still count as behind the packet to play next (R550). -/
def playedBehind (next : Nat) (l : List Nat) : List Nat :=
  l.filter (fun e => decide ((next + 65536 - e) % 65536 ≤ 32768))

/-- The circuit goes on to the next packet in its sequence (R548). -/
def E1.nextPacket (c : CesCfg) (x : E1) : E1 :=
  let n := (x.nextSeq + 1) % 65536
  { x with nextSeq := n, start := x.start + c.pktFrames, played := playedBehind n x.played }

/-- The packet to play is lost (R549): FILL is played in its place. -/
def State.cesLost (p : Nat) (s : State) : State :=
  let c := s.cesCfg p
  let fill := cesFill (s.e1Cfg p).framed c (s.e1 p).lastPlayed
  let s1 := (s.modE1 p (fun y => { y.nextPacket c with lostRun := y.lostRun + 1, playRun := 0 })).inc (e1Cnt p 10)
  (((s1.raiseWin 8000 (512 + 4 * p + 2) 0 (s.obj 7 p) 0).playFrames p fill).cesLops p)

/-- A packet is played (R548, R553). -/
def State.cesPlay (p : Nat) (b : List Byte) (s : State) : State :=
  let c := s.cesCfg p
  ((s.modE1 p (fun y =>
    { y.nextPacket c with playRun := y.playRun + 1, lostRun := 0
                          played := y.nextSeq :: (y.nextPacket c).played })).playFrames p
    (cesFrames (s.e1Cfg p).framed c b)).cesLops p

/-- The instant at which the packet to play next starts. -/
def State.playAt (p : Nat) (s : State) : Nat :=
  (s.tide.frame + ((s.e1 p).start - s.bnd)) * frameTicks

/-- PLAYOUT_START_INSTANT (R286, R549, R553, R554): the packet whose start instant has come is read, with `r.ecc` what
the read finds, and played; one that is absent, fails its check or carries BAD is lost. -/
def execPlayoutStartInstant (r : CellRead E1No Ecc) (s : State) : Host.Outcome State Fault Refusal :=
  .next (
    let p := r.on
    if !s.e1Runs p.val || !s.cesOn p.val || !(s.e1 p.val).playing then s
    else
      let s0 := s.until (s.playAt p.val)
      match (s0.queue (1208 + p.val)).pkts with
      | [] => s0.cesLost p.val
      | pkt0 :: rest =>
        if pktSeq (s0.cesCfg p.val) pkt0.bytes = (s0.e1 p.val).nextSeq then
          let s1 := (s0.eccRead r.ecc (s.obj 8 p.val)).removeAll (1208 + p.val) [pkt0] rest
          let pkt := pkt0.ecc r.ecc
          if pkt.checkOk && !pkt.bad && !pkt.trunc then s1.cesPlay p.val pkt.bytes else s1.cesLost p.val
        else s0.cesLost p.val)

/-! ### Defects and timing -/

/-- The bit of a defect in DEFECTS (Table TF-5). -/
def defectPos : E1Defect → Nat
  | .los => 0
  | .rclkLoss => 1
  | .lof => 2
  | .ais => 3
  | .rai => 4
  | .lomf => 5

/-- Declare or clear a defect's bit; each change raises E1_DEFECT (R555). DETAIL is the defect's bit
number plus one (DESIGN CHOICE, log 12). -/
def State.e1Mark (p : Nat) (d : E1Defect) (on : Bool) (s : State) : State :=
  if (s.e1 p).defects.getLsbD (defectPos d) = on then s
  else
    (s.modE1 p (fun x => { x with
      defects := if on then x.defects ||| BitVec.twoPow 6 (defectPos d)
                 else x.defects &&& ~~~ (BitVec.twoPow 6 (defectPos d)) })).e1Event p 0 ((defectPos d) + 1)

/-- A transmit timing switch of port p (R535, R538): one transmit slip, the slip buffer restarts,
the change of timing raises E1_DEFECT. -/
def State.e1Timing (p : Nat) (toRclk : Bool) (s : State) : State :=
  ((((s.muxRequest (6 + p) toRclk).slipRestart p).e1Slip p 6)).e1Event p 0 (if toRclk then 9 else 8)

/-- RCLK_LOSS (R533): declared in either timing mode; in LOOP mode the port falls back. -/
def execRclkLoss (p : E1No) (s : State) : Host.Outcome State Fault Refusal :=
  .next (
    let c := s.e1Cfg p.val
    if !s.e1Runs p.val || (s.e1 p.val).rclkLost then s
    else
      let s1 := (s.modE1 p.val (fun x => { x with rclkLost := true })).e1Mark p.val .rclkLoss true
      if c.loopTx then s1.e1Timing p.val false else s1)

/-- RCLK_RETURN (R534): RCLK loss has been clear for 10 s; a LOOP port returns to RCLK_p at a frame boundary. -/
def execRclkReturn (p : E1No) (s : State) : Host.Outcome State Fault Refusal :=
  .next (
    let c := s.e1Cfg p.val
    if !s.e1Runs p.val || !c.loopTx || (Tab.get {} s.clk.muxes (6 + p.val)).selB then s
    else
      let s0 := s.until s.tide.boundaryAt
      let s1 := (s0.modE1 p.val (fun x => { x with rclkLost := false })).e1Mark p.val .rclkLoss false
      s1.e1Timing p.val true)

/-- CRC4_SEARCH_TIMEOUT (R529): in AUTO the port runs without CRC-4, cause CRC4_ABSENT; LOMF, a defect of a port with
CRC-4 on, is no longer one (Table TF-3). -/
def execCrc4SearchTimeout (p : E1No) (s : State) : Host.Outcome State Fault Refusal :=
  .next (
    let c := s.e1Cfg p.val
    if !s.e1Runs p.val || !c.framed || c.crc4 != 2 then s
    else ((s.modE1 p.val (fun x => { x with crc4On := false })).e1Event p.val 0 7).e1Mark p.val .lomf false)

/-- E1_DEFECT (Table TF-3, R529, R538, R555). -/
def execE1Defect (p : E1No) (d : E1Defect) (declared : Bool) (s : State) :
    Host.Outcome State Fault Refusal :=
  .next (
    let c := s.e1Cfg p.val
    if !s.e1Runs p.val || (s.e1 p.val).defects.getLsbD (defectPos d) == declared then s
    else
      let s1 := s.e1Mark p.val d declared
      match d with
      | .los => if declared then s1.inc (e1Cnt p.val 4) else s1
      | .rclkLoss =>
        let s2 := s1.modE1 p.val (fun x => { x with rclkLost := declared })
        if declared then s2 else s2.slipRestart p.val
      | .lof =>
        if !c.framed then s
        else if declared then s1.inc (e1Cnt p.val 3)
        else
          -- frame alignment is regained: the search for the multiframe begins again (R529)
          (s1.modE1 p.val (fun x => { x.realign with crc4On := c.crc4 != 0 })).slipRestart p.val
      | .ais => s1
      | .rai => if !c.framed then s else s1
      | .lomf =>
        if !c.framed || c.crc4 == 0 then s
        else if declared then s1 else s1.modE1 p.val (fun x => { x.realign with crc4On := true }))

/-- What a Tide step does to every enabled port (Tables TD-3, TF-4): transmit realigns as one
transmit slip, the slip buffer and playout restart. -/
def State.e1Step (s : State) : State :=
  (List.range 8).foldl (fun t p =>
    if (t.e1Cfg p).enable then ((t.slipRestart p).e1Slip p 6).cesRestart p else t) s

end Sys2Proof.Machine
end

