-- ==== Sys2Proof/Machine/Sched.lean ====
section
/-!
DEFINITION. Scheduling: deficit round robin, egress service, the calendar wheel, the time gates,
policers, the classifier, tag edits and multicast replication.
-/

namespace Sys2Proof.Machine

/-- R_port in bit/s by PORT_RATE code (Table CA-13). -/
def rateBits (code : Nat) : Nat :=
  match code with
  | 0 => 10000000
  | 1 => 100000000
  | 2 => 1000000000
  | 3 => 2500000000
  | 4 => 5000000000
  | _ => 10000000000

/-- The tick rate, 6.2208 GHz. -/
def tickHz : Nat := 6220800000

def State.portCfg (s : State) (p : Nat) : PortCfg := s.cfg.port (s.obj 1 p)

/-- OVH of a port and of an Alloc-ID index (R336). -/
def SchedCfg.ovhOr (c : SchedCfg) (d : Int) : Int := c.ovh.getD d

/-- Accounted length: at least 1 byte (R335). -/
def accounted (len : Nat) (ovh : Int) : Nat := max 1 ((len : Int) + ovh).toNat

/-- The length that the transmit MAC sends (R335, R503, R504). -/
def txLen (maxLen : Nat) (p : Packet) : Nat := min maxLen (max 64 (p.bytes.length + 4))

/-- GATE_MAX_LEN, QUANTUM and DRR_BURST in force, with their defaults (R350, R367). -/
def QueueCfg.gateMax (c : QueueCfg) (maxLen : Nat) : Nat :=
  if c.gateMaxLen = 0 then maxLen else c.gateMaxLen
def QueueCfg.burst (c : QueueCfg) : Nat := if c.drrBurst = 0 then c.quantum else c.drrBurst

/-! ### Deficit round robin (R350 to R354) -/

/-- One queue of a DRR group as a selection sees it. -/
structure DrrQ where
  q       : Nat
  ok      : Bool
  empty   : Bool
  len     : Nat
  quantum : Nat
  burst   : Nat
  deficit : Int
  deriving DecidableEq, Repr

/-- The next eligible queue after queue number `cur` plus one, cyclically (R351). -/
def drrNext (l : List DrrQ) (cur : Nat) : Option DrrQ :=
  match l.find? (fun x => x.ok && decide (cur ≤ x.q)) with
  | some x => some x
  | none => l.find? (fun x => x.ok)

/-- What a wrap of the pointer gives every empty queue (R353). -/
def drrWrap (l : List DrrQ) : List DrrQ :=
  l.map (fun x => if x.empty then
    { x with deficit := min (x.deficit + (x.quantum : Int)) ((x.burst - x.quantum : Nat) : Int) }
    else x)

/-- Add a turn's QUANTUM to a queue (R352). -/
def drrTurn (q : Nat) (l : List DrrQ) : List DrrQ :=
  l.map (fun x => if x.q = q then { x with deficit := x.deficit + (x.quantum : Int) } else x)

/-- A pointer whose turn has ended (R352): its queue is passed, and gets no more of that turn. -/
def drrOver (ptr : Nat) : Nat := if 0 < ptr ∧ ptr ≤ 4096 then ptr + 4096 else ptr

/-- Where a pointer stands, its turn ended or not. -/
def drrPos (ptr : Nat) : Nat := if 4096 < ptr then ptr - 4096 else ptr

/-- A selection: `ptr` is the queue in its turn plus one, or that plus 4,096 when its turn has ended. Answers the
chosen queue with the pointer and the group's deficits; the chosen packet's length is charged. -/
def drrPick : Nat → Nat → List DrrQ → Option Nat × Nat × List DrrQ
  | 0, ptr, l => (none, ptr, l)
  | fuel + 1, ptr, l =>
    let cur := l.find? (fun x => x.ok && x.q + 1 == ptr)
    match cur with
    | some x =>
      if (x.len : Int) ≤ x.deficit then
        (some x.q, ptr, l.map (fun y => if y.q = x.q then
          { y with deficit := y.deficit - (x.len : Int) } else y))
      else
        match drrNext l ptr with
        | none => (none, ptr, l)
        | some y => drrPick fuel (y.q + 1) (drrTurn y.q (if y.q < ptr then drrWrap l else l))
    | none =>
      match drrNext l (drrPos ptr) with
      | none => (none, drrOver ptr, l)
      | some y => drrPick fuel (y.q + 1) (drrTurn y.q (if y.q < drrPos ptr then drrWrap l else l))

/-- Rounds that a selection can need: a packet of 16,448 bytes against a QUANTUM of 64, sixteen
queues. -/
def drrFuel : Nat := 4200

/-! ### Time gates -/

/-- The cycle of a list in ticks (R362). -/
def gateCycle (l : List (Nat × Nat)) : Nat := (l.map (·.1)).sum

/-- The entry in force at an offset of the cycle. -/
def gateAt : List (Nat × Nat) → Nat → Nat
  | [], _ => 0xFF
  | (n, m) :: t, k => if k < n then m else gateAt t (k - n)

/-- The offset of Tide in the cycle on the grid base + n × cycle, n any integer (R976). -/
def GateCfg.offset (g : GateCfg) (t : Nat) : Nat :=
  ((((t : Int) - ((g.baseFrame * frameTicks + g.baseTick : Nat) : Int)) % (gateCycle g.entries : Int))).toNat

/-- The gates that an operational list gives at a Tide (R364). -/
def gateMask (o : Option GateCfg) (t : Nat) : Nat :=
  match o with
  | none => 0xFF
  | some g => if !g.enable || g.entries.isEmpty then 0xFF else gateAt g.entries (g.offset t)

/-- Offsets at which class `c` closes, walking the entries from offset `k` with the previous entry's
openness (R365). -/
def closings (c : Nat) : Bool → Nat → List (Nat × Nat) → List Nat
  | _, _, [] => []
  | prev, k, (n, m) :: t =>
    if prev && !bit m c then k :: closings c (bit m c) (k + n) t
    else closings c (bit m c) (k + n) t

/-- The closings of class `c` per cycle of a list. -/
def GateCfg.closings (g : GateCfg) (c : Nat) : List Nat :=
  Sys2Proof.Machine.closings c (bit (g.entries.getLast?.map (·.2) |>.getD 0) c) 0 g.entries

/-- Whether a list closes class `c` at least once per cycle (R369). -/
def gateCloses (o : Option GateCfg) (c : Nat) : Bool :=
  match o with
  | none => false
  | some g => g.enable && !(g.closings c).isEmpty

/-- Ticks from Tide `t` to the list's next closing of class `c`. -/
def nextClosing (o : Option GateCfg) (c t : Nat) : Option Nat :=
  match o with
  | none => none
  | some g =>
    if !g.enable then none
    else
      let cyc := gateCycle g.entries
      let off := g.offset t
      ((g.closings c).map (fun k => let d := (k + cyc - off) % cyc; if d = 0 then cyc else d)).min?

/-- The next closing including the swap instant of a waiting bank, and past it those of that bank (R365). -/
def Gate.closing (g : Gate) (c t : Nat) : Option Nat :=
  match g.admin with
  | none => nextClosing g.oper c t
  | some (a, w) =>
    let d := w - t
    let shut := a.enable && !bit (a.entries.head?.map (·.2) |>.getD 0xFF) c
    let past := if shut then some d else (nextClosing (some a) c w).map (fun k => d + k)
    match nextClosing g.oper c t with
    | some k => if k < d then some k else past
    | none => past

/-- GB_c (R366). -/
def guardBand (gml rate : Nat) : Nat := ceilDiv ((gml + 8) * 8 * tickHz) rate

def State.gate (s : State) (p : Nat) : Gate := Tab.get {} s.sched.gates p
def State.modGate (p : Nat) (f : Gate → Gate) (s : State) : State :=
  { s with sched := { s.sched with gates := Tab.modify {} s.sched.gates p f } }

/-- The turn of a queue in its DRR group ends (R352): port groups, then 16 plus the Alloc-ID index. -/
def State.endTurn (q : Nat) (s : State) : State :=
  let k := if q < 128 then q / 8 else 16 + (q - 2048) / 16
  if Tab.get 0 s.sched.drrPtr k = q + 1 then
    { s with sched := { s.sched with drrPtr := Tab.set 0 s.sched.drrPtr k (drrOver (q + 1)) } }
  else s

/-- New gates of a port: a class that is closed ends its turn (R352, R356). -/
def State.putGate (p : Nat) (g : Gate) (s : State) : State :=
  (List.range 8).foldl (fun t c => if bit g.mask c then t else t.endTurn (8 * p + c)) (s.modGate p (fun _ => g))

/-- The operational bank takes the administrative one: the gates that it gives now. -/
def Gate.swapped (a : GateCfg) (t : Nat) : Gate :=
  let o := if a.entries.isEmpty then none else some a
  { oper := o, admin := none, mask := gateMask o t }

/-- GATE_SWAP (R363): the operational bank takes the administrative one. -/
def execGateSwap (p : PortNo) (s : State) : Host.Outcome State Fault Refusal :=
  .next (
    match (s.gate p.val).admin with
    | none => s
    | some (a, w) =>
      if s.clk.rootHold then s
      else
        let s1 := s.until w
        (s1.putGate p.val (Gate.swapped a s1.tide.ticks)).raise 290 (s.obj 6 p.val) 0)

/-- Ticks from an offset of the cycle to the end of the entry in force. -/
def gateLeft : List (Nat × Nat) → Nat → Nat
  | [], _ => 0
  | (n, _) :: t, k => if k < n then n - k else gateLeft t (k - n)

/-- Ticks from Tide `t` to the list's next entry; 0 when no list runs. -/
def gateNext (o : Option GateCfg) (t : Nat) : Nat :=
  match o with
  | none => 0
  | some g => if !g.enable || g.entries.isEmpty then 0 else gateLeft g.entries (g.offset t)

/-- GATE_CHANGE (R977): the gates in force become those of the entry that begins at this instant. -/
def execGateChange (p : PortNo) (s : State) : Host.Outcome State Fault Refusal :=
  .next (
    let g := s.gate p.val
    let s1 := if gateMask g.oper s.tide.ticks = g.mask then
        s.until (s.tide.ticks + gateNext g.oper s.tide.ticks) else s
    s1.putGate p.val { g with mask := gateMask g.oper s1.tide.ticks })

/-- What a step or the load of R32 does to the lists (R976): the new phase, and a swap instant that
a forward step passes takes effect at once. -/
def State.gatesStep (s : State) : State :=
  (List.range 16).foldl (fun t p =>
    let g := t.gate p
    match g.admin with
    | some (a, w) =>
      if w ≤ t.tide.ticks then
        (t.putGate p (Gate.swapped a t.tide.ticks)).raise 290 (t.obj 6 p) 0
      else t.putGate p { g with mask := gateMask g.oper t.tide.ticks }
    | none => t.putGate p { g with mask := gateMask g.oper t.tide.ticks }) s

/-! ### The calendar wheel -/

/-- The egress bucket of queue q, accrued to now. -/
def State.egrBucket (s : State) (q : Nat) : Bucket :=
  let c := s.cfg.shaper (s.obj 2 q)
  (s.queue q).bktA.accrue c.rateA c.sizeA s.now

/-- The accounted length of a head packet of an egress queue (R335); of one that is still being written, that of the
bytes present. -/
def State.headLen (s : State) (q : Nat) (p : Packet) : Nat :=
  accounted (txLen (s.portCfg (q / 8)).maxLen p) ((s.cfg.schedOf (s.obj 1 (q / 8))).ovhOr 20)

/-- The elapsed-time instant of the first slot that begins at or after `wait` ticks from now (R358,
R359). -/
def State.slotAfter (s : State) (wait : Nat) : Nat :=
  let t := s.tide.ticks + wait
  s.now + (ceilDiv t 256 * 256 - s.tide.ticks)

/-- Put a queue whose head its bucket does not cover on the wheel, or park it (R359, R360). -/
def State.shape (q : Nat) (s : State) : State :=
  match (s.queue q).pkts with
  | [] => s
  | p :: _ =>
    let c := s.cfg.shaper (s.obj 2 q)
    let b := s.egrBucket q
    if b.covers c.rateA (s.headLen q p) || (s.queue q).release.isSome then s
    else
      let w := b.wait c.rateA (s.headLen q p)
      s.modQueue q (fun x => { x with bktA := b, release := some (s.slotAfter w)
                                      parked := decide (4194304 < w) })

/-- CALENDAR_RELEASE (R359, R361): the queue leaves the wheel at its slot. -/
def execCalendarRelease (q : Fin 128) (s : State) : Host.Outcome State Fault Refusal :=
  .next (
    match (s.queue q.val).release with
    | none => s
    | some r =>
      if (s.queue q.val).parked || s.clk.rootHold then s
      else (s.untilNow (some r)).modQueue q.val (fun x => { x with release := none }))

/-- CALENDAR_UNPARK (R360): at slot 0 each parked queue whose remaining wait is within the horizon
moves onto the wheel. -/
def execCalendarUnpark (s : State) : Host.Outcome State Fault Refusal :=
  .next (
    if s.clk.rootHold then s
    else (List.range 128).foldl (fun t q =>
      match (t.queue q).release with
      | some r => if (t.queue q).parked && decide (r ≤ t.now + 4194304) then
          t.modQueue q (fun x => { x with parked := false }) else t
      | none => t) (s.until (ceilDiv s.tide.ticks 4194304 * 4194304)))

/-- The wheel at a step (R975): each remaining wait is kept and rounded up to a slot start of the new
Tide; parking is decided again. -/
def State.wheelStep (s : State) : State :=
  (List.range 128).foldl (fun t q =>
    match (t.queue q).release with
    | some r =>
      let w := r - t.now
      t.modQueue q (fun x => { x with release := some (t.slotAfter w), parked := decide (4194304 < w) })
    | none => t) s

/-! ### Subscriber egress service -/

/-- Whether a head packet is discarded before service: too long for a class with a closing (R369),
or never eligible against its bucket (R974). -/
def State.headDrop (s : State) (q : Nat) (p : Packet) : Option Bool :=
  let pc := s.portCfg (q / 8)
  let qc := s.cfg.queue (s.obj 2 q)
  let sh := s.cfg.shaper (s.obj 2 q)
  if gateCloses (s.gate (q / 8)).oper (q % 8) && decide (qc.gateMax pc.maxLen < txLen pc.maxLen p)
  then some true
  else if sh.rateA != 0 && decide (sh.sizeA < s.headLen q p) then some false
  else none

/-- Discard the head packet of a queue as GATE_OVERSIZE (true) or a queue drop (false). -/
def State.dropHead (q : Nat) (p : Packet) (oversize : Bool) (s : State) : State :=
  let s1 := (s.modQueue q (fun x => { x with pkts := x.pkts.drop 1 })).freePacket q p
  if oversize then
    (s1.inc (0x8000 + 4 * q + 2)).raiseWin 8000 291 0 (s.obj 2 q) 0
  else s1.queueDrop q 1

/-- Discard heads until one may be served. -/
def State.dropHeads (q : Nat) : List Packet → State → State
  | [], s => s
  | p :: t, s =>
    match s.headDrop q p with
    | some o => State.dropHeads q t (s.dropHead q p o)
    | none => s

/-- Whether class `c` of port `p` may start its head now (R310, R356, R368); none at a local or remote fault (R493). -/
def State.eligible (s : State) (p c : Nat) : Bool :=
  let q := 8 * p + c
  let pc := s.portCfg p
  let g := s.gate p
  match (s.queue q).pkts with
  | [] => false
  | h :: _ =>
    s.mayStart q h && (s.port p).fault != 1 && (s.port p).fault != 2 && (s.queue q).release.isNone
    && (s.egrBucket q).covers (s.cfg.shaper (s.obj 2 q)).rateA (s.headLen q h)
    && bit g.mask c
    && (match g.closing c s.tide.ticks with
        | none => true
        | some d => decide (guardBand ((s.cfg.queue (s.obj 2 q)).gateMax pc.maxLen)
            (rateBits pc.rate) ≤ d))
    && decide (Tab.get 0 (s.port p).paused c ≤ s.now)

/-- The DRR group of a port (R355). -/
def State.egressGroup (s : State) (p : Nat) : List DrrQ :=
  let n := (s.cfg.schedOf (s.obj 1 p)).nstrict
  (List.range (8 - n)).map (fun c =>
    let q := 8 * p + c
    let qc := s.cfg.queue (s.obj 2 q)
    { q := q, ok := s.eligible p c, empty := (s.queue q).pkts.isEmpty
      len := match (s.queue q).pkts with | [] => 0 | h :: _ => s.headLen q h
      quantum := qc.quantum, burst := qc.burst, deficit := (s.queue q).deficit })

/-- Write the deficits of a group back. -/
def State.putDeficits (l : List DrrQ) (s : State) : State :=
  l.foldl (fun t x => t.modQueue x.q (fun y => { y with deficit := x.deficit })) s

/-- Start the head of queue q: debit its bucket, mark it as being transmitted (R357). What of the packet is not yet
written is debited when it leaves (DESIGN CHOICE, log 98). -/
def State.startFrame (p q : Nat) (s : State) : State :=
  match (s.queue q).pkts with
  | [] => s
  | h :: _ =>
    let c := s.cfg.shaper (s.obj 2 q)
    let b := (s.egrBucket q).debit c.rateA (s.headLen q h)
    (s.modQueue q (fun x => { x with sending := true, bktA := b })).modPort p (fun x =>
      { x with tx := some { queue := q, packet := h, charged := s.headLen q h } })

/-- EGRESS_START (R355 to R357, R369, R974): the highest eligible strict class, or the DRR choice. -/
def execEgressStart (p : PortNo) (s : State) : Host.Outcome State Fault Refusal :=
  .next (
    let x := s.port p.val
    if !x.link || x.tx.isSome || s.pool.recount || s.clk.rootHold then s
    else
      let s1 := (List.range 8).foldl (fun t c =>
        (State.dropHeads (8 * p.val + c) (t.queue (8 * p.val + c)).pkts t).shape (8 * p.val + c)) s
      let n := (s1.cfg.schedOf (s1.obj 1 p.val)).nstrict
      let strict := ((List.range n).map (fun i => 7 - i)).find? (fun c => s1.eligible p.val c)
      match strict with
      | some c => s1.startFrame p.val (8 * p.val + c)
      | none =>
        let r := drrPick drrFuel (Tab.get 0 s1.sched.drrPtr p.val) (s1.egressGroup p.val)
        let s2 := { s1 with sched := { s1.sched with
          drrPtr := Tab.set 0 s1.sched.drrPtr p.val r.2.1 } }
        match r.1 with
        | none => s2
        | some q => (s2.putDeficits r.2.2).startFrame p.val q)

/-- When a queue empties its DEFICIT is clipped and its turn ends (R352, R353). -/
def State.clipDeficit (q : Nat) (s : State) : State :=
  let qc := s.cfg.queue (s.obj 2 q)
  if (s.queue q).pkts.isEmpty then
    (s.modQueue q (fun x =>
      { x with deficit := min x.deficit ((qc.burst - qc.quantum : Nat) : Int) })).endTurn q
  else s

/-! ### Policers (RFC 2698; R371 to R379) -/

/-- Colours. -/
inductive Colour
  | green
  | yellow
  | red
  deriving DecidableEq, Repr

/-- Meter a length against both buckets (RFC 2698). -/
def meter (c : PolicerCfg) (len now : Nat) (input : Colour) (b : PolicerState) :
    Colour × PolicerState :=
  let cb := b.c.accrue c.cir c.cbs now
  let pb := b.p.accrue c.pir c.pbs now
  if input = .red ∨ pb.tok < len * byteUnits then (.red, { c := cb, p := pb })
  else if input = .yellow ∨ cb.tok < len * byteUnits then
    (.yellow, { c := cb, p := { pb with tok := pb.tok - len * byteUnits } })
  else (.green, { c := { cb with tok := cb.tok - len * byteUnits }
                  p := { pb with tok := pb.tok - len * byteUnits } })

/-- The first counter of a colour (Table SH-6). -/
def colourCnt : Colour → Nat
  | .green => 0
  | .yellow => 2
  | .red => 4

/-- Meter a frame of `len` bytes, FCS included, at policer `k` of this device (0xFFFF none) and count
it; GREEN_BYTES and its like count the metered length (DESIGN CHOICE, log 13). -/
def State.police (k len : Nat) (input : Colour) (s : State) : State × Colour × PolicerCfg :=
  let c := s.cfg.policer (s.obj 3 k)
  if k = 0xFFFF ∨ c.enable = false then (s, .green, {})
  else
    let n := accounted len c.ovh
    let r := meter c n s.now (if c.aware then input else .green) (Tab.get {} s.sched.policers k)
    let s1 := { s with sched := { s.sched with policers := Tab.set {} s.sched.policers k r.2 } }
    let i := 0x2000 + 8 * k + colourCnt r.1
    ((s1.inc i).count (i + 1) n, r.1, c)

/-! ### Tags and the classifier (R380 to R384, R501) -/

/-- The two bytes at an offset, most significant first. -/
def be16At (b : List Byte) (i : Nat) : Nat := beNat ((b.drop i).take 2)

/-- What the parser finds in a frame (R381, R382). -/
structure Parsed where
  sTag  : Option Nat
  cTag  : Option Nat
  outer : Option Nat
  etype : Nat
  dscp  : Option Nat
  deriving DecidableEq, Repr

/-- Parse the tags, EtherType and DSCP of a frame (R381, R382). -/
def parseFrame (b : List Byte) : Parsed :=
  let t0 := be16At b 12
  let sTag := if t0 = 0x88A8 then some (be16At b 14) else none
  let cAt := if t0 = 0x88A8 then 16 else 12
  let cTag := if be16At b cAt = 0x8100 then some (be16At b (cAt + 2)) else none
  let eAt := if cTag.isSome then cAt + 4 else cAt
  let e := be16At b eAt
  let v := (b.getD (eAt + 2) 0).toNat / 16
  let dscp := if e = 0x0800 ∧ v = 4 then some ((b.getD (eAt + 3) 0).toNat / 4)
    else if e = 0x86DD ∧ v = 6 then some (be16At b (eAt + 2) / 64 % 64)
    else none
  { sTag := sTag, cTag := cTag, outer := if sTag.isSome then sTag else cTag, etype := e, dscp := dscp }

/-- Match a tag field of an entry: ANY, ABSENT, or PRESENT with VID and mask (Table SH-2). -/
def tagMatch (mode vid mask : Nat) (tag : Option Nat) : Bool :=
  match mode, tag with
  | 0, _ => true
  | 1, t => t.isNone
  | _, none => false
  | _, some t => (t % 4096 &&& mask) == (vid &&& mask)

/-- Whether an entry matches a parsed frame of a port (Table SH-2, R382). -/
def ClassCfg.matchesFrame (c : ClassCfg) (port : Nat) (f : Parsed) : Bool :=
  c.valid && bit c.ports port && tagMatch c.sMode c.sVid c.sMask f.sTag
  && tagMatch c.cMode c.cVid c.cMask f.cTag
  && (match f.outer with
      | none => c.pcpMask == 0
      | some t => (t / 8192 &&& c.pcpMask) == (c.pcp &&& c.pcpMask))
  && (f.etype &&& c.etypeMask) == (c.etype &&& c.etypeMask)
  && (match f.dscp with
      | none => c.dscpMask == 0
      | some d => (d &&& c.dscpMask) == (c.dscp &&& c.dscpMask))

/-- The lowest-numbered entry of this device that matches (R380): its object ID and content. -/
def State.classify (s : State) (port : Nat) (b : List Byte) : Option (Nat × ClassCfg) :=
  let f := parseFrame b
  s.cfg.classes.find? (fun x => x.1 / 2 ^ 28 == s.self && x.2.matchesFrame port f)

/-- Apply a TAG_OP (Table SP-3). -/
def tagEdit (op vid pcp : Nat) (b : List Byte) : List Byte :=
  let push := fun tpid => b.take 12 ++ beBytes 2 tpid ++ beBytes 2 (pcp * 8192 + vid) ++ b.drop 12
  let tagged := be16At b 12 == 0x8100 || be16At b 12 == 0x88A8
  match op with
  | 1 => push 0x8100
  | 2 => push 0x88A8
  | 3 => if tagged then b.take 12 ++ b.drop 16 else b
  | 4 => if tagged then b.take 14 ++ beBytes 2 (be16At b 14 / 4096 * 4096 + vid) ++ b.drop 16 else b
  | _ => b

/-- Set DEI in the outermost tag (R377). -/
def setDei (b : List Byte) : List Byte :=
  if be16At b 12 = 0x8100 ∨ be16At b 12 = 0x88A8 then
    let t := be16At b 14
    b.take 14 ++ beBytes 2 (t / 8192 * 8192 + 4096 + t % 4096) ++ b.drop 16
  else b

/-- The input colour of an entry (R375). -/
def inputColour (pre : Nat) (b : List Byte) : Colour :=
  match pre with
  | 0 => .green
  | 1 => .yellow
  | 2 => .red
  | _ =>
    match (parseFrame b).outer with
    | none => .green
    | some t => if bit t 12 then .yellow else .green

/-! ### Multicast replication (R385 to R390) -/

/-- Write one copy of a packet to a queue; a copy refused a cell is counted (R388). -/
def State.copyTo (g q : Nat) (p : Packet) (s : State) : State :=
  let r := s.offer q p
  match r.2 with
  | .quota | .full => (r.1.inc (0x4000 + g)).raiseWin 8000 294 0 (s.obj 0xC g) 0
  | _ => r.1

/-- MCAST_REPLICATE (R285, R386 to R389): one copy per local member, one per destination node, then the
original is freed. A node copy goes to that node's queue of the same group. Every copy is the group's owner's. -/
def execMcastReplicate (r : CellRead (Fin 256) Ecc) (s : State) : Host.Outcome State Fault Refusal :=
  .next (
    let g := r.on
    let c := s.cfg.mcast (s.obj 0xC g.val)
    match (s.queue (1536 + g.val)).pkts with
    | [] => s
    | pkt0 :: rest =>
      if s.pool.recount || s.clk.rootHold || pkt0.writer != 0 then s
      else
        let pkt := { pkt0.ecc r.ecc with owner := s.cfg.ownerOf (s.obj 0xC g.val) }
        let local_ := ((List.range 16).flatMap (fun p =>
          (c.members.filter (fun m => m.1 == p)).map (fun m => 8 * p + m.2)))
        let nodes := if s.isManager then (List.range 16).filter (fun n => n != 0 && bit c.nodeMask n)
          else []
        let s1 := local_.foldl (fun t q => t.copyTo g.val q pkt) (s.eccRead r.ecc (s.obj 2 (1536 + g.val)))
        let s2 := nodes.foldl (fun t n =>
          t.copyTo g.val (t.ringQueue n c.ringClass) { pkt with dest := 1536 + g.val }) s1
        s2.removeAll (1536 + g.val) [pkt0] rest)

end Sys2Proof.Machine
end

