-- ==== Sys2Proof/Machine/Ports.lean ====
section
/-!
DEFINITION. Subscriber ports: receive, transmit, flow control, link state and PHY polling.
-/

namespace Sys2Proof.Machine

/-- Counter `i` of port p (Table SP-7). -/
def spCnt (p i : Nat) : Nat := 64 * p + i

/-- Raise event `k` of port p (R520). -/
def State.spEvent (p k detail : Nat) (s : State) : State :=
  s.raise (416 + 4 * p + k) (s.obj 1 p) detail

/-- Raise event `k` of port p, first in 8,000 frames (Table SP-6). -/
def State.spFirst (p k : Nat) (s : State) : State :=
  s.raiseWin 8000 (416 + 4 * p + k) 0 (s.obj 1 p) 0

/-- The size bucket of a frame length, as an offset from the first (Table SP-7). -/
def sizeBucket (n : Nat) : Nat :=
  if n ≤ 64 then 0 else if n ≤ 127 then 1 else if n ≤ 255 then 2 else if n ≤ 511 then 3
  else if n ≤ 1023 then 4 else if n ≤ 1518 then 5 else if n ≤ 2047 then 6 else if n ≤ 4095 then 7
  else 8

/-- The cast counter of a destination address: 12 UCAST, 13 MCAST, 14 BCAST. -/
def castOf (b : List Byte) : Nat :=
  if b.take 6 = List.replicate 6 0xFF#8 then 14
  else if (b.headD 0).getLsbD 0 then 13 else 12

/-- Count a frame of 64 bytes to MAX_LEN (R522): octets, size bucket and cast; `base` 0 receive, 32
transmit. Of a shorter frame, which only an underrun sends, the octets alone. -/
def State.countFrame (p base : Nat) (b : List Byte) (len : Nat) (ok : Bool) (s : State) : State :=
  if len < 64 then s.count (spCnt p (base + 1)) len
  else
  let s1 := (s.count (spCnt p (base + 1)) len).inc (spCnt p (base + 2 + sizeBucket len))
  let s2 := s1.inc (spCnt p (base + castOf b))
  if ok then s2.count (spCnt p base) len else s2

/-! ### Flow control (R506 to R511) -/

/-- Ticks that a number of quanta lasts at a rate, 512 bit times each (R506). -/
def pauseTicks (quanta rate : Nat) : Nat := ceilDiv (quanta * 512 * tickHz) rate

/-- Pause or release class `c` of port `p` (R506, Table SP-4): a quanta of 0 ends the pause; of two the later
expiry governs. A class that is paused ends its turn (R352, R356). -/
def State.pauseClass (p c quanta : Nat) (s : State) : State :=
  let fin := s.now + pauseTicks quanta (rateBits (s.portCfg p).rate)
  if quanta = 0 then s.modPort p (fun x => { x with paused := Tab.set 0 x.paused c 0 })
  else (s.modPort p (fun x =>
    { x with paused := Tab.set 0 x.paused c (max (Tab.get 0 x.paused c) fin) })).endTurn (8 * p + c)

/-- A received frame with EtherType 0x8808 (R506): PAUSE (opcode 0x0001) or PFC (0x0101). -/
def State.macControl (p : Nat) (b : List Byte) (s : State) : State :=
  let c := s.portCfg p
  let op := be16At b 14
  if op = 1 then
    let s1 := s.inc (spCnt p 20)
    if c.pauseRx then
      (List.range 8).foldl (fun t k => t.pauseClass p k (be16At b 16)) s1
    else s1
  else if op = 0x0101 then
    let s1 := s.inc (spCnt p 21)
    if c.pfcRx then
      (List.range 8).foldl (fun t k =>
        if bit (be16At b 16) k then t.pauseClass p k (be16At b (18 + 2 * k)) else t) s1
    else s1
  else s

/-- A frame as it is sent: with its FCS, inverted where it must not be good (R503, R504). -/
def withFcs (inverted : Bool) (b : List Byte) : List Byte := b ++ fcsBytes inverted b

/-- A PAUSE frame (R511; IEEE 802.3): 64 bytes to 01-80-C2-00-00-01, EtherType 0x8808, opcode 0x0001, the quanta. -/
def pauseFrame (sa : List Byte) (quanta : Nat) : List Byte :=
  withFcs false ([0x01, 0x80, 0xC2, 0x00, 0x00, 0x01] ++ sa ++ beBytes 2 0x8808 ++ beBytes 2 1 ++ beBytes 2 quanta
    ++ List.replicate 42 0)

/-- Send a PAUSE frame with a quanta (R509, R511). -/
def State.sendPause (p quanta : Nat) (s : State) : State :=
  (s.emit (.frame p (pauseFrame (s.portCfg p).pauseSa quanta))).inc (spCnt p 50)

/-- PAUSE_EXPIRY (R506): a class resumes. -/
def execPauseExpiry (p : PortNo) (c : Fin 8) (s : State) : Host.Outcome State Fault Refusal :=
  .next (s.modPort p.val (fun x => { x with paused := Tab.set 0 x.paused c.val 0 }))

/-- PAUSE_TX (R509): PAUSE again while a berth that brought it about holds at least QUOTA − PAUSE_HYST cells, then
one with quanta 0. -/
def execPauseTx (p : PortNo) (s : State) : Host.Outcome State Fault Refusal :=
  .next (
    let c := s.portCfg p.val
    let l := (s.port p.val).pauseBerths
    let high := l.filter (fun o => decide (s.cfg.quotaOf (o - 1) - c.hyst ≤ s.ownerCells o))
    if l.isEmpty || s.clk.rootHold then s
    else (s.modPort p.val (fun x => { x with pauseBerths := high })).sendPause p.val
      (if high.isEmpty then 0 else c.quanta))

/-! ### Receive (Table SP-2) -/

/-- A frame refused a cell (R315, R509): RX QUEUE_DROP, and PAUSE where its berth has reached QUOTA. -/
def State.rxRefused (p owner : Nat) (e : Entered) (s : State) : State :=
  let s1 := s.inc (spCnt p 19)
  if e = .quota && (s.portCfg p).pauseTx && owner != 0 then
    (s1.modPort p (fun x =>
      { x with pauseBerths := owner :: x.pauseBerths.filter (fun o => o != owner) })).sendPause p (s.portCfg p).quanta
  else s1

/-- The stored bytes of the first part of a frame of MAX_LEN `maxLen`: without what may still be its FCS, and at most
the first MAX_LEN − 4 (R497, R498). -/
def rxStored (maxLen : Nat) (b : List Byte) : List Byte := (b.take (b.length - 4)).take (maxLen - 4)

/-- A packet of a frame that matched entry `e`: the bytes as the TAG_OP edits them (R501). -/
def rxPacket (c : Cfg) (o : Nat) (e : ClassCfg) (b : List Byte) (trunc : Bool) : Packet :=
  mkPacket (tagEdit e.tagOp e.tagVid e.tagPcp b) trunc (c.ownerOf o)

/-- The first 64 bytes of a frame that goes on have arrived (R500): it is classified, and its packet begins in the
queue that the classifier chooses; a control frame or one that matches no entry waits for its end. -/
def State.rxOpen (p : Nat) (x : RxFrame) (s : State) : State :=
  if x.bytes.length < 64 ∨ be16At x.bytes 12 = 0x8808 then s.setRx p false x
  else
    match s.classify p x.bytes with
    | none => s.setRx p false x
    | some (o, e) =>
      let r := s.offerUp e.queue e.ringClass
        { rxPacket s.cfg o e (rxStored (s.portCfg p).maxLen x.bytes) false with writer := p + 1 }
      if r.2 = .queued then r.1.setRx p false { x with write := .open_, cls := some (o, e) }
      else (r.1.rxRefused p (s.cfg.ownerOf o) r.2).setRx p false { x with write := .refused, cls := some (o, e) }

/-- A part of a frame that goes on: `old` is what had arrived before it. -/
def State.rxPart (p : Nat) (old x : RxFrame) (s : State) : State :=
  let m := (s.portCfg p).maxLen
  match x.write, x.cls with
  | .waiting, _ => s.rxOpen p x
  | .open_, some (o, _) =>
    let r := s.moreWrite (p + 1) ((rxStored m x.bytes).drop (rxStored m old.bytes).length)
    if r.2 = .queued then r.1.setRx p false x
    else (r.1.rxRefused p (s.cfg.ownerOf o) r.2).setRx p false { x with write := .refused }
  | _, _ => s.setRx p false x

/-- A frame that passes ends in the pool (R289, R377, R383): linked whole, or the rest of what has begun written.
`b` is the frame without FCS, `n` how much of it is written, `dei` whether its outermost tag gets DEI; where the
consumer has started the packet, that byte has left (DESIGN CHOICE, log 98). -/
def State.rxStore (p : Nat) (w : RxWrite) (o : Nat) (e : ClassCfg) (b : List Byte) (n : Nat) (dei trunc : Bool)
    (s : State) : State :=
  match w with
  | .waiting =>
    let r := s.offerUp e.queue e.ringClass (rxPacket s.cfg o e (if dei then setDei b else b) trunc)
    if r.2 = .queued then r.1 else r.1.rxRefused p (s.cfg.ownerOf o) r.2
  | .open_ =>
    let r := s.moreWrite (p + 1) (b.drop n)
    if r.2 ≠ .queued then r.1.rxRefused p (s.cfg.ownerOf o) r.2
    else
      let s1 := match r.1.writing (p + 1) with
        | some (_, _, false) => if dei then r.1.mapWriter (p + 1) (fun k => { k with bytes := setDei k.bytes }) else r.1
        | _ => r.1
      s1.endWrite (p + 1) false trunc
  | _ => s

/-- After classification (R374 to R379, R383, R500, R509): meter, edit, enter the pool. `len` is the
length that the policer uses, `b` the frame without FCS, `n` how many bytes of it are written. A frame refused a cell
before its last byte is not metered (R378). -/
def State.enterFrame (p len : Nat) (x : RxFrame) (b : List Byte) (n : Nat) (trunc : Bool) (s : State) : State :=
  match x.cls.orElse (fun _ => s.classify p b) with
  | none => (s.inc (spCnt p 22)).raiseWin 8000 292 0 (s.obj 1 p) 0
  | some (o, e) =>
    if x.write = .refused then s
    else
      let m := s.police e.policer len (inputColour e.precolour b)
      match m.2.1 with
      | .red => ((m.1.inc (spCnt p 18)).raiseWin 8000 293 0 (s.obj 3 e.policer) 0).spoilWrite (p + 1)
      | .yellow =>
        if m.2.2.yellowPass then m.1.rxStore p x.write o e b n m.2.2.yellowDei trunc
        else m.1.spoilWrite (p + 1)
      | .green => m.1.rxStore p x.write o e b n false trunc

/-- Whether a received frame's last four bytes are its FCS (R498). -/
def fcsGood (b : List Byte) : Bool := b.drop (b.length - 4) == fcsBytes false (b.take (b.length - 4))

/-- The end of a received frame (R495): the first row of Table SP-2 that matches decides. `x` holds all its bytes, from
the destination address through the FCS, `n` is how many of its stored bytes are written. -/
def State.rxEnd (p n : Nat) (x : RxFrame) (s : State) : State :=
  let m := (s.portCfg p).maxLen
  let b := x.bytes
  let len := b.length
  let ok := fcsGood b
  if len < 64 then
    ((s.count (spCnt p 1) len).inc (spCnt p (if ok then 16 else 17))).spFirst p 2
  else if m < len then
    (((s.count (spCnt p 1) len).inc (spCnt p 11)).spFirst p 2).enterFrame p m x (b.take (m - 4)) n true
  else if !ok then
    (((s.countFrame p 0 b len false).inc (spCnt p 15)).spFirst p 2).spoilWrite (p + 1)
  else
    let s1 := s.countFrame p 0 b len true
    if be16At b 12 = 0x8808 then s1.macControl p b
    else s1.enterFrame p len x (b.take (len - 4)) n false

/-- FRAME_RECEIVE (R494 to R500): bytes of a frame arrive, `last` with its end. A frame comes in one part or in
several; a packet begins in the pool as soon as the classifier has its 64 bytes (R310, R500). -/
def execFrameReceive (p : PortNo) (bytes : List Byte) (last : Bool) (s : State) :
    Host.Outcome State Fault Refusal :=
  .next (
    let y := s.port p.val
    let old := y.rx.getD {}
    let x : RxFrame := { old with bytes := old.bytes ++ bytes }
    if !y.link then s
    else if old.write = .lost then s.setRx p.val last old
    else if s.clk.rootHold then
      { s.loseRx p.val last with clk := { s.clk with holdDrops := s.clk.holdDrops + 1 } }
    else if s.pool.recount then (s.loseRx p.val last).inc 0x5C2
    else if s.intakeStopped then (s.loseRx p.val last).inc (spCnt p.val 19)
    else if last then
      (s.rxEnd p.val (rxStored (s.portCfg p.val).maxLen old.bytes).length x).setRx p.val true x
    else s.rxPart p.val old x)

/-! ### Transmit (R503 to R505) -/

/-- The bytes that the transmit MAC sends before the FCS: padded to 60, cut at MAX_LEN − 4. -/
def txBytes (maxLen : Nat) (b : List Byte) : List Byte :=
  (b ++ List.replicate (60 - b.length) 0).take (maxLen - 4)

/-- A frame in transmission is over: its packet leaves its queue's head and is freed. -/
def State.txDone (p : Nat) (t : TxFrame) (s : State) : State :=
  ((s.modPort p (fun x => { x with tx := none })).modQueue t.queue (fun x =>
    { x with sending := false, pkts := x.pkts.drop 1, flush := x.flush.map (fun k => k - 1) })).freePacket t.queue
    t.packet

/-- The unit that writes a packet whose consumer has ended it frees the rest when it has been written (R505). -/
def State.endedEarly (w : Nat) (s : State) : State :=
  if w = 0 then s
  else s.modPort (w - 1) (fun y => { y with rx := y.rx.map (fun x => { x with write := .underrun }) })

/-- The accounted length of a frame that was still being written at its start is debited when it leaves (log 98). -/
def State.txRest (t : TxFrame) (s : State) : State :=
  let n := s.headLen t.queue t.packet - t.charged
  if n = 0 then s
  else
    let c := s.cfg.shaper (s.obj 2 t.queue)
    s.modQueue t.queue (fun x =>
      { x with bktA := (s.egrBucket t.queue).debit c.rateA n
               deficit := if t.queue % 8 + (s.cfg.schedOf (s.obj 1 (t.queue / 8))).nstrict < 8
                 then x.deficit - (n : Int) else x.deficit })

/-- FRAME_TRANSMIT (R285, R286, R292, R503 to R505): the frame that is being transmitted leaves, with a valid or
an inverted FCS, and its packet is freed. One whose bytes are not all in the pool ends here as an underrun. `r.ecc`
is what the MAC's reads of its cells find. -/
def execFrameTransmit (r : CellRead PortNo Ecc) (s : State) : Host.Outcome State Fault Refusal :=
  .next (
    let p := r.on
    match (s.port p.val).tx with
    | none => s
    | some t =>
      if s.clk.rootHold then s
      else
        let c := s.portCfg p.val
        let pk := t.packet.ecc r.ecc
        let early := pk.writer != 0
        let tooLong := decide (c.maxLen < pk.bytes.length + 4) && !early
        let fail := !pk.checkOk && !early
        let marked := pk.bad || pk.trunc
        let badFcs := early || fail || marked || tooLong
        let b := if early then pk.bytes else txBytes c.maxLen pk.bytes
        let s1 := ((s.eccRead r.ecc (s.obj 2 t.queue)).emit (.frame p.val (withFcs badFcs b))).countFrame p.val 32 b
          (b.length + 4) (!badFcs)
        let s2 := if early then s1.inc (spCnt p.val 49) else if tooLong then s1.inc (spCnt p.val 43) else s1
        let s3 := if fail then
            ((s2.inc (spCnt p.val 47)).raiseWin 8000 258 0 (s.obj 2 t.queue) 0) else s2
        let s4 := if marked then s3.inc (spCnt p.val 48) else s3
        let s5 := if early || fail || marked then s4.spFirst p.val 3 else s4
        ((((s5.txRest t).txDone p.val t).endedEarly t.packet.writer).clipDeficit t.queue).flushWaiting t.queue)

/-! ### Link state (R491 to R493, R512 to R516) -/

/-- Set the FAULT code; a change raises SP_FAULT with the new code (Table SP-6). -/
def State.setFault (p code : Nat) (s : State) : State :=
  if (s.port p).fault = code then s
  else (s.modPort p (fun x => { x with fault := code })).spEvent p 1 code

/-- Cut the frame in transmission: freed and counted as a queue drop of its queue, and with `own` in
the port's TX QUEUE_DROP (R512, R513). -/
def State.cutTx (p : Nat) (own : Bool) (s : State) : State :=
  match (s.port p).tx with
  | none => s
  | some t =>
    let s1 := ((s.txDone p t).endedEarly t.packet.writer).queueDrop t.queue 1
    if own then s1.inc (spCnt p 51)
    else s1.emit (.frame p (withFcs true t.packet.bytes))

/-- A frame that is being received when its link goes down (R512, R513): discarded, or BAD where its consumer has
started it; a discarded one counts in RX QUEUE_DROP and, once classified, for its queue. -/
def State.cutRx (p : Nat) (s : State) : State :=
  match (s.port p).rx with
  | none => s
  | some x =>
    let s1 := (s.loseRx p false).setRx p true {}
    match s.writing (p + 1), x.write with
    | some (_, _, true), _ => s1
    | some (q, _, false), _ => (s1.inc (spCnt p 19)).queueDrop q 1
    | none, .waiting => s1.inc (spCnt p 19)
    | none, _ => s1

/-- The state of a link down: PAUSE transmission stops (Table SP-4), LINK and its frame. -/
def downPort (frame : Nat) (x : Port) : Port :=
  { x with link := false, linkFrame := frame, pauseBerths := [], anRate := none }

/-- A link down under R512: the frames in transmission and in reception are cut, the port's egress queues flushed. -/
def State.linkDown (p : Nat) (s : State) : State :=
  let s1 := (s.cutTx p true).cutRx p
  let s2 := (List.range 8).foldl (fun t c => t.flushPoint (8 * p + c)) s1
  (s2.modPort p (downPort s.tide.frame)).spEvent p 0 0

/-- A port taken down under R513: its queues keep their cells. -/
def State.linkHold (p : Nat) (s : State) : State :=
  if (s.port p).link then
    (((s.cutTx p false).cutRx p).modPort p (fun x =>
      { downPort s.tide.frame x with heldQueues := true })).spEvent p 0 0
  else s

/-- Whether port p may be up: enabled, clocked, in service, on a manager or a joined worker (R15,
R93, R740, R881). -/
def State.portServes (s : State) (p : Nat) : Bool :=
  (s.portCfg p).enable && s.clocked (8 + p) && s.clk.ethRef && !s.start.maint && !s.intakeStopped
  && (Tab.get none s.start.diags (s.obj 1 p)).isNone
  && s.inService

/-- SP_LINK_UP (R491, R492, R515). `learned` is the rate that auto-negotiation learned. -/
def execSpLinkUp (p : PortNo) (learned : Option (Fin 6)) (s : State) :
    Host.Outcome State Fault Refusal :=
  .next (
    let c := s.portCfg p.val
    let x := s.port p.val
    if x.link || !s.portServes p.val then s
    else if c.anEn then
      match learned with
      | none => s.setFault p.val 5
      | some r =>
        if r.val = c.rate then
          ((s.setFault p.val (if x.fault = 4 then 4 else 0)).modPort p.val (fun x =>
            { x with link := true, linkFrame := s.tide.frame, anRate := some r.val
                     heldQueues := false })).spEvent p.val 0 1
        else (s.modPort p.val (fun x => { x with anRate := some r.val })).setFault p.val 3
    else if c.phyAddr != 0xFF && !x.phyLink then s
    else
      ((s.setFault p.val 0).modPort p.val (fun x =>
        { x with link := true, linkFrame := s.tide.frame, heldQueues := false })).spEvent p.val 0 1)

/-- SP_LINK_DOWN (R492, R512). -/
def execSpLinkDown (p : PortNo) (s : State) : Host.Outcome State Fault Refusal :=
  .next (if (s.port p.val).link then s.linkDown p.val else s)

/-- SP_FAULT (R491, R493, Table SP-6): the FAULT code changes. A rate mismatch or a failed auto-negotiation takes the
link down; at a local or remote fault no frame starts, and the link counts as down, which R492 declares after
LINK_DOWN_HOLD: at once where that is 0, else with SP_LINK_DOWN. -/
def execSpFault (p : PortNo) (code : Fin 6) (learned : Option (Fin 6)) (s : State) :
    Host.Outcome State Fault Refusal :=
  .next (
    if !(s.portCfg p.val).enable then s
    else
      let s1 := s.setFault p.val code.val
      let s2 := if (s.port p.val).link
          && (((code.val == 1 || code.val == 2) && (s.portCfg p.val).linkHold == 0) || code.val == 3 || code.val == 5) then s1.linkDown p.val else s1
      if code.val = 3 then s2.modPort p.val (fun x => { x with anRate := learned.map (·.val) }) else s2)

/-- Whether MDC is held low and MDIO is high-impedance (R517): the MDIO master has no clock, as in reset. -/
def State.mdioIdle (s : State) : Bool := !s.clocked 26

/-- PHY_POLL (R106, R515, R516): while the MDIO master is clocked. `answer` is the PMA/PMD status word, none for a PHY that does not answer;
its link bit is bit 2 (PRESUMED, log 14: IEEE 802.3 Clause 45). -/
def execPhyPoll (p : PortNo) (answer : Option (BitVec 16)) (s : State) :
    Host.Outcome State Fault Refusal :=
  .next (
    if (s.portCfg p.val).phyAddr = 0xFF || s.mdioIdle || s.clk.rootHold then s
    else
      match answer with
      | none => s.setFault p.val 4
      | some w =>
        let s1 := s.modPort p.val (fun x => { x with phyStatus := w.toNat, phyLink := w.getLsbD 2 })
        if (s.port p.val).fault = 4 then s1.setFault p.val 0 else s1)

end Sys2Proof.Machine
end

