-- ==== Sys2Proof/Machine/PoolCmds.lean ====
section
/-!
DEFINITION. Commands of the cell pool and the FIFOs: entry, thresholds, rollover, flush, descriptor
errors, the recount and the background sweep.
-/

namespace Sys2Proof.Machine

/-- Whether a queue number is one of this device (Table CL-3, R295). -/
def State.queueUsed (s : State) (q : Nat) : Bool :=
  dirOf q != 4 && (s.isManager || decide (q < 2048))

/-- QTH_RELAY (R300, R303): a worker's threshold entry is posted in the manager's FIFO. -/
def execQthRelay (node : NodeNo) (queue : Fin 4096) (frame : BitVec 16) (s : State) :
    Host.Outcome State Fault Refusal :=
  .next (
    let en := qthEntry node.val queue.val frame.toNat
    if !s.isManager || !s.joined node.val then s
    else if s.evt.qthFifo.any (fun w => w.toNat / 2 ^ 16 == en.toNat / 2 ^ 16) then s
    else s.qthPost en (objId node.val 2 queue.val))

/-- A read of the threshold FIFO (R301, R302, R764): the head leaves; a read that leaves the FIFO empty re-arms
the overflow event. -/
def State.readQthFifo (s : State) : State :=
  match s.evt.qthFifo with
  | [] => { s with evt := { s.evt with qthHush := false }
                   out := .read 0x1150 0xFFFFFFFF :: s.out }
  | w :: t =>
    let s1 := { s with evt := { s.evt with qthFifo := t, qthHush := s.evt.qthHush && !t.isEmpty }
                       out := .read 0x1150 w :: s.out }
    if w.toNat / 2 ^ 28 = s.self then
      s1.modQueue (w.toNat / 2 ^ 16 % 4096) (fun x => { x with unread := false })
    else s1

/-- QTH_FIFO_DATA_READ (R111, R301). -/
def execQthFifoDataRead (s : State) : Host.Outcome State Fault Refusal :=
  .next (s.hostAccess (.read 0x1150) State.readQthFifo)

/-- A read of the rollover FIFO (R764, R774). -/
def State.readCntFifo (s : State) : State :=
  match s.evt.cntFifo with
  | [] => { s with evt := { s.evt with cntHush := false }
                   out := .read 0x1158 0xFFFFFFFF :: s.out }
  | w :: t =>
    { s with evt := { s.evt with cntFifo := t, cntHush := s.evt.cntHush && !t.isEmpty }
             out := .read 0x1158 w :: s.out }

/-- CNT_FIFO_DATA_READ (R111, R774). -/
def execCntFifoDataRead (s : State) : Host.Outcome State Fault Refusal :=
  .next (s.hostAccess (.read 0x1158) State.readCntFifo)

/-- Whether a counter index is named by Table EV-8 (R777). -/
def cntNamed (i : Nat) : Bool :=
  if i < 0x400 then
    let k := i % 64
    decide (k ≤ 22) || (decide (32 ≤ k) && decide (k ≤ 51))
  else if i < 0x500 then decide ((i - 0x400) % 32 ≤ 16)
  else if i < 0x580 then decide ((i - 0x500) % 32 ≤ 25)
  else if i < 0x5C0 then decide ((i - 0x580) % 32 ≤ 26)
  else if i < 0x5E0 then decide (i - 0x5C0 ≤ 12)
  else if i < 0x600 then false
  else if i ≤ 0x707 then true
  else if i < 0x1000 then false
  else if i < 0x1800 then decide ((i - 0x1000) % 16 ≤ 9)
  else if i < 0x1A00 then true
  else if i < 0x2000 then false
  else if i < 0x4000 then decide ((i - 0x2000) % 8 ≤ 5)
  else if i < 0x4100 then true
  else if i < 0x8000 then false
  else if i < 0xC000 then
    let k := i % 4
    decide (k ≤ 1) || decide (k = 3) || decide ((i - 0x8000) / 4 < 128)
  else false

/-- CNT_HALF (R773): bit 39 of a counter sets. The counts up to the crossing come with the command
(log 2). -/
def execCntHalf (index : BitVec 16) (s : State) : Host.Outcome State Fault Refusal :=
  .next (
    let v := Tab.get 0 s.cnt index.toNat
    if cntNamed index.toNat && decide (v < 2 ^ 39) then s.count index.toNat (2 ^ 39 - v) else s)

/-- ROLLOVER_RELAY (R775): a worker's entry is posted in the manager's FIFO with NODE the worker. -/
def execRolloverRelay (node : NodeNo) (index : BitVec 16) (frame : BitVec 12) (s : State) :
    Host.Outcome State Fault Refusal :=
  .next (
    if !s.isManager || !s.joined node.val then s
    else s.postHalf (cntEntry node.val frame.toNat index.toNat) (objId node.val 0xF index.toNat))

/-- FLUSH_ACT (R304): a flush that waits acts, unless its packet is still being transmitted. -/
def execFlushAct (q : Fin 4096) (s : State) : Host.Outcome State Fault Refusal :=
  .next (if (s.queue q.val).sending then s else s.flushWaiting q.val)

/-! ### Breach and recount (R319 to R325) -/

/-- The latched ledger, class, object and frame of a breach as the logbook holds them (R320). The
order of the fields is the model's (DESIGN CHOICE, log 15). -/
def breachData (l : Latch) (cls obj frame : Nat) : List Byte :=
  leBytes 1 cls ++ leBytes 4 obj ++ leBytes 8 frame ++ leBytes 4 l.free ++ leBytes 4 l.queued
  ++ leBytes 4 l.staged ++ leBytes 4 l.ring ++ leBytes 4 l.test ++ leBytes 4 l.cp

/-- The class counts as they stand. -/
def Pool.now (p : Pool) (frame : Nat) : Latch :=
  { frame := frame, free := p.free, queued := p.queued, staged := p.staged, ring := p.ring
    test := p.test, cp := p.cp }

/-- Report a breach: the event, the count and the logbook record before any repair (R319, R320).
Class 0 CELLS, 1 RING_CREDITS, 2 TOKENS, 3 GRANT_WORDS. -/
def State.breach (cls obj reason : Nat) (s : State) : State :=
  let p := s.pool
  let p1 := { p with
    breaches := min 0xFFFF (p.breaches + 1)
    cellBrk := p.cellBrk || cls == 0
    creditBrk := p.creditBrk || cls == 1
    tokenBrk := p.tokenBrk || cls == 2
    grantBrk := p.grantBrk || cls == 3 }
  (({ s with pool := p1 }).raise 260 obj reason).logRec 2
    (breachData (p.now s.tide.frame) cls obj s.tide.frame)

/-- A packet that port `p` is writing at the hold instant is discarded and counted (R321 step 1). -/
def State.holdRx (p : Nat) (s : State) : State :=
  if (s.writing (p + 1)).isSome then (s.loseRx p false).inc 0x5C2 else s

/-- The packets in reassembly from the ring are discarded and counted too. -/
def State.holdReasm (s : State) : State :=
  let live := s.ring.parts.filter (fun r => !r.dropped)
  let n := (live.map (·.cells)).sum
  ({ s with ring := { s.ring with reasm := [] }
            pool := { s.pool with free := s.pool.free + n, ring := s.pool.ring - n } }).count 0x5C2 live.length

/-- Start a CELLS recount: hold, counts, LEDGER_REPEAT at three within 80,000 frames (R321, R325). -/
def State.startRecount (s : State) : State :=
  let at_ := (s.pool.recountAt.filter (fun b => decide (s.bnd < b + 80000))) ++ [s.bnd]
  let s1 := ((List.range 16).foldl (fun t p => t.holdRx p) s).holdReasm
  let s2 := { s1 with pool := { s1.pool with
    recount := true, recounts := min 0xFFFF (s1.pool.recounts + 1), recountAt := at_ } }
  if 3 ≤ at_.length then s2.raise 262 0 0 else s2

/-- A double-bit error in the descriptor of the packet at a position of a queue's list (R287): a breach and a recount
with reason DESC_ECC (DETAIL 1, log 15); during a recount walk it only cuts the list (Table CL-7). -/
def State.descError (q position : Nat) (s : State) : State :=
  let s1 := (s.inc 0x5C1).raise 257 (s.obj 2 q) 0
  let s2 := { s1 with pool := { s1.pool with cuts := (q, position) :: s1.pool.cuts } }
  if s.pool.recount then s2 else (s2.breach 0 (s.obj 2 q) 1).startRecount

/-- DESCRIPTOR_ECC_ERROR (R287). `position` counts packets of the queue. -/
def execDescriptorEccError (q : Fin 4096) (position : Nat) (s : State) :
    Host.Outcome State Fault Refusal :=
  .next (s.descError q.val position)

/-- What the read of a descriptor finds when a packet is linked behind `n` others (R285, R287). -/
def State.linkRead (e : Ecc) (q n : Nat) (s : State) : State :=
  if e = .uncorrectable then s.descError q n else s.eccRead e (s.obj 2 q)

/-- PACKET_ENQUEUE (R284, R285, R289, R314, R315): an entry point offers a packet to a queue; linking it reads
descriptors. -/
def execPacketEnqueue (q : Fin 4096) (r : CellRead (List Byte) Ecc) (s : State) :
    Host.Outcome State Fault Refusal :=
  .next (
    if s.queueUsed q.val && !r.on.isEmpty && decide (r.on.length ≤ 16384) then
      let n := (s.queue q.val).pkts.length
      let x := s.offer q.val (mkPacket r.on false (s.cfg.ownerOf (s.obj 2 q.val)))
      if x.2 = .queued then x.1.linkRead r.ecc q.val n else x.1
    else s)

/-- Cut a queue's list at a bad link: that packet and the later ones are returned to FREE, in no
packet counter (R321 step 4). -/
def State.cutList (q n : Nat) (s : State) : State :=
  s.modQueue q (fun x => { x with pkts := x.pkts.take n, sending := x.sending && n != 0 })

/-- Cells that the walk reaches in queues, bound bursts and held fragments. -/
def State.walkQueued (s : State) : Nat :=
  (s.pool.queues.map (fun x => x.2.cells)).sum + s.line.fragCells
  + sumCells (s.line.boundUp.map (·.2))

/-- Cells that the walk reaches in staging. -/
def State.walkStaged (s : State) : Nat :=
  sumCells (s.line.allocs.flatMap (fun a => a.2.staged.map (·.packet)))

/-- Re-arm the thresholds of every queue by its occupancy without posting (R297, Table CL-7). -/
def State.rearmQuiet (s : State) : Tab Queue :=
  s.pool.queues.map (fun x => if x.2.above && decide (s.occupancy x.1 < (s.cfg.queue (s.obj 2 x.1)).qthr)
    then (x.1, { x.2 with above := false }) else x)

/-- Flushes accepted during a recount take effect after the hold, and their requests are answered
(Table CL-7, R690). -/
def State.releaseFlushes (s : State) : State :=
  (List.range 34).foldl (fun t m =>
    match (t.box m).waiting with
    | some w =>
      match w.on with
      | .recount q => (t.flushPoint q).reply w.opc w.req .done
      | _ => t
    | none => t)
    (s.pool.queues.foldl (fun t x => t.flushWaiting x.1) s)

/-- LEDGER_RECOUNT_DONE (R321 steps 4 and 5): bad lists cut, unmarked cells returned to FREE and their
number written to the logbook, the hold released. -/
def execLedgerRecountDone (s : State) : Host.Outcome State Fault Refusal :=
  .next (
    if !s.pool.recount then s
    else
      let s1 := s.pool.cuts.foldl (fun t x => t.cutList x.1 x.2) s
      let queued := s1.walkQueued
      let staged := s1.walkStaged
      let test := s1.pool.borrowed + s1.pool.retired
      let held := queued + staged + s1.pool.ring + test + s1.pool.cp
      let free := 262144 - held
      let s2 := { s1 with pool := { s1.pool with
        free := free, queued := queued, staged := staged, test := test, recount := false, cuts := []
        queues := s1.rearmQuiet.filter (fun x => decide (x.2 ≠ ({} : Queue))) } }
      (((s2.logRec 2 (leBytes 4 (free - s.pool.free))).raise 261 0 0)).releaseFlushes)

/-! ### The background sweep (R327, R328) -/

/-- SWEEP_BORROW (R327): cells move from FREE to TEST while FREE exceeds the unmet reservations by
more than 4,096 cells, at most 1,024 held at once. -/
def execSweepBorrow (cells : Nat) (s : State) : Host.Outcome State Fault Refusal :=
  .next (
    let n := min cells (min (1024 - s.pool.borrowed) (s.pool.free - (s.unmet 4 + 4096)))
    { s with pool := { s.pool with
        free := s.pool.free - n, test := s.pool.test + n, borrowed := s.pool.borrowed + n } })

/-- Retire one cell: it stays in TEST (R328); POOL_DEGRADED when 1,024 are reached. -/
def State.retireOne (s : State) : State :=
  let s1 := ({ s with pool := { s.pool with retired := s.pool.retired + 1 } }).raise 265 0 0
  if s.pool.retired + 1 = 1024 then s1.raise 266 0 0 else s1

/-- SWEEP_RETURN (R328): borrowed cells return to FREE; those that fail twice are retired, which
re-runs admission (R407). `r` is how many fail and what its reads of cell data found (R285). -/
def execSweepReturn (cells : Nat) (r : CellRead Nat (List Ecc)) (s : State) : Host.Outcome State Fault Refusal :=
  .next (
    let k := min cells s.pool.borrowed
    let f := min r.on k
    let s0 := r.ecc.foldl (fun t e => t.eccRead e 0) s
    let s1 := { s0 with pool := { s.pool with
      borrowed := s.pool.borrowed - k, free := s.pool.free + (k - f), test := s.pool.test - (k - f) } }
    let s2 := ((List.range f).foldl (fun t _ => t.retireOne) s1).poolLow
    if f = 0 then s2 else s2.recheck)

end Sys2Proof.Machine
end

