-- ==== Sys2Proof/Machine/Snap.lean ====
section
/-!
DEFINITION. Reading counters and taking snapshots of them (R717 to R720, R777 to R780).
-/

namespace Sys2Proof.Machine

/-- Counters that only a manager has: mailbox, Alloc-ID and upstream queue counters (R777). -/
def cntManagerOnly (i : Nat) : Bool :=
  (decide (0x600 ≤ i) && decide (i ≤ 0x707)) || (decide (0x1000 ≤ i) && decide (i < 0x1800))
    || (decide (0xA000 ≤ i) && decide (i < 0xC000))

/-- Whether a counter of a node counts at all: a reserved one reads zero, and so does a manager's on a
worker (R777). -/
def cntLive (node i : Nat) : Bool := cntNamed i && (node == 0 || !cntManagerOnly i)

/-- The value that a counter of this node reads as. -/
def State.cntVal (s : State) (i : Nat) : Nat := if cntLive s.self i then Tab.get 0 s.cnt i else 0

/-- The values of `n` counters of a node from index `i`. Those of another node are that node's: free
values of 40 bits (log 16), each from two draws. -/
def State.cntVals (s : State) (node i n : Nat) : List Nat :=
  (List.range n).map (fun k =>
    if node = s.self then s.cntVal (i + k)
    else if cntLive node (i + k) then
      (Config.freeWord (s.fresh + 2 * k)).toNat
        + 2 ^ 32 * ((Config.freeWord (s.fresh + 2 * k + 1)).toNat % 256)
    else 0)

/-- A snapshot falls due (R718): skipped while the one before fills the window (R720); otherwise the
selection is latched and the fill begins, SNAP_SEQ odd (R779). Without a selection there is nothing
to copy (DESIGN CHOICE, log 17). -/
def State.takeSnapshot (asker : Option Nat) (s : State) : State :=
  let x := s.snap
  if x.count = 0 then s
  else if x.filling.isSome then s.raise 483 x.object 0
  else
    let vals := s.cntVals (x.object / 2 ^ 28) (x.object % 2 ^ 24) x.count
    let f : SnapFill := { object := x.object, tide := s.tide.word, vals := vals }
    { s with snap := { x with filling := some f, seq := x.seq + 1, asker := asker }
             fresh := s.fresh + 2 * x.count }

end Sys2Proof.Machine
end

