-- ==== Sys2Proof/Machine/Tide.lean ====
section
/-!
DEFINITION. Tide: its states, slew and step, re-anchoring, the anchor lane, the alarms, TIDE_PULSE and
the ranging of workers.
-/

namespace Sys2Proof.Machine

/-! ### Arithmetic on Tide -/

/-- The whole range of Tide in ticks. -/
def tideSpan : Nat := frameWrap * frameTicks

/-- Ticks of a duration in frames and ticks. -/
def spanTicks (frames ticks : Nat) : Nat := frames * frameTicks + ticks

/-- The smallest value `base + k × period`, `k` any whole number, greater than `t` (R56, R59, R62). -/
def nextPhase (base period t : Nat) : Nat :=
  t + period - (((t : Int) - (base : Int)) % (period : Int)).toNat

/-- E: the downstream position minus Tide, across frames (R36), the shorter way around the wrap of
R29. -/
def tideError (pos t : Nat) : Int :=
  let d := ((pos : Int) - (t : Int)) % (tideSpan : Int)
  if d < (tideSpan : Int) / 2 then d else d - (tideSpan : Int)



/-- The remaining error E (R38). -/
def State.slewError (s : State) : Int :=
  if s.tide.state = .slewing then
    slewRemain s.tide.error s.cfg.tide.slewPpm (s.now - s.tide.errAt)
  else 0

/-- HOLD_AGE in ticks and in ms (Table TD-5). -/
def Tide.holdTicks (t : Tide) (now : Nat) : Nat :=
  t.holdAcc + (match t.holdRun with | none => 0 | some r => now - r)

def Tide.holdAge (t : Tide) (now : Nat) : Nat :=
  if t.state = .holdover then min 0xFFFFFF (t.holdTicks now / msTicks) else 0

/-- HOLD_AGE stops and holds its value (R41). -/
def Tide.holdStop (now : Nat) (t : Tide) : Tide :=
  { t with holdAcc := t.holdTicks now, holdRun := none }

/-- HOLD_AGE no longer counts: HOLDOVER has been left. -/
def Tide.holdClear (t : Tide) : Tide :=
  { t with holdAcc := 0, holdRun := none, limitRaised := false }

/-- Whether a lane is in operation: in O5 without LOS. -/
def State.laneUp (s : State) (l : Nat) : Bool :=
  decide ((s.lane l).act = .o5) && !(s.lane l).los

/-- The lanes other than `a` in operation, in bonded mode; R34's eligible lanes (DEDUCED, log 108). -/
def State.eligibleLanes (s : State) (a : Nat) : List Nat :=
  if s.cfg.line.bonded then (List.range 4).filter (fun l => l != a && s.laneUp l) else []

/-! ### Alarms (R54 to R61) -/

def State.alarm (s : State) (k : Nat) : Alarm := Tab.get {} s.tide.alarms k
def State.modAlarm (k : Nat) (f : Alarm → Alarm) (s : State) : State :=
  { s with tide := { s.tide with alarms := Tab.modify {} s.tide.alarms k f } }

def Alarm.target (a : Alarm) : Nat := spanTicks a.frame a.tick
def Alarm.period (a : Alarm) : Nat := spanTicks a.perF a.perT

/-- Whether the alarm can still fire: a one-shot alarm fires once. -/
def Alarm.armed (a : Alarm) : Bool := a.enable && (a.period != 0 || !a.fired)

/-- Put a target given in ticks. -/
def Alarm.setTarget (t : Nat) (a : Alarm) : Alarm :=
  { a with frame := t / frameTicks % frameWrap, tick := t % frameTicks }

/-- The next target of a periodic alarm that fires at Tide `t` (R56): the previous target plus the
period as tide_add computes it, or past `t` on the same phase. -/
def Alarm.following (t : Nat) (a : Alarm) : Alarm :=
  let n := (a.target + a.period) % tideSpan
  a.setTarget (if t < n then n else nextPhase a.target a.period t)

/-- Fire an alarm: its actions, TIDE_ALARM_LATE when it is late, and its next target. -/
def State.fireAlarm (k : Nat) (late : Bool) (s : State) : State :=
  let a := s.alarm k
  let s1 := s.modAlarm k (fun a =>
    if a.period = 0 then { a with fired := true } else a.following s.tide.ticks)
  let s2 := if a.event && decide (48 ≤ k) then s1.raise (40 + (k - 48)) 0 0 else s1
  let s3 := if late then s2.raise 39 0 0 else s2
  if a.snap then s3.takeSnapshot none else s3

/-- A comparator fires if it is armed and Tide has reached its target (R54). -/
def State.alarmDue (s : State) (k : Nat) : State :=
  if (s.alarm k).armed && decide ((s.alarm k).target ≤ s.tide.ticks) then s.fireAlarm k false else s

/-- TIDE_ALARM (R54): Tide reaches the target of an armed comparator; every comparator that is due on that
clock fires, in ascending order (R58). -/
def execTideAlarm (k : Fin 64) (s : State) : Host.Outcome State Fault Refusal :=
  .next (
    let a := s.alarm k.val
    if a.armed then (List.range 64).foldl State.alarmDue (s.until a.target) else s)

/-- One comparator at a load or step from Tide `old` to the present one (R59, R60). -/
def State.alarmStep (old : Nat) (s : State) (k : Nat) : State :=
  let a := s.alarm k
  let new := s.tide.ticks
  if !a.armed then s
  else if old < new then
    if a.target ≤ new then s.fireAlarm k true else s
  else if a.period = 0 then s
  else s.modAlarm k (fun a => a.setTarget (nextPhase a.target a.period new))

/-- Every comparator, in ascending order (R58). -/
def State.alarmsStep (old : Nat) (s : State) : State :=
  (List.range 64).foldl (fun t k => t.alarmStep old k) s

/-! ### TIDE_PULSE (R62 to R67, R970) -/

def pulsePeriod : Nat := 8000 * frameTicks

def State.setTide (f : Tide → Tide) (s : State) : State := { s with tide := f s.tide }

def State.setPulse (f : Pulse → Pulse) (s : State) : State :=
  { s with tide := { s.tide with pulse := f s.tide.pulse } }

/-- Whether TIDE_PULSE may rise: enabled, not UNANCHORED, not held off in HOLDOVER (R65, R66). -/
def State.pulseMay (s : State) : Bool :=
  s.tide.pulse.enable && decide (s.tide.state ≠ .unanchored)
  && !(s.tide.pulse.holdOff && decide (s.tide.state = .holdover))

/-- TIDE_PULSE falls, if it is high. -/
def State.pulseLow (s : State) : State :=
  if s.tide.pulse.high then
    (s.setPulse (fun p => { p with high := false })).emit (.pin "TIDE_PULSE" false)
  else s

/-- TIDE_PULSE rises until `fall`. -/
def State.pulseHigh (fall : Nat) (s : State) : State :=
  let s1 := s.setPulse (fun p => { p with high := true, fall := fall })
  if s.tide.pulse.high then s1 else s1.emit (.pin "TIDE_PULSE" true)

/-- TIDE_PULSE is held low when the present state asks for it. -/
def State.pulseHold (s : State) : State := if s.pulseMay then s else s.pulseLow

/-- TIDE_PULSE_RISE (R62, R64). -/
def execTidePulseRise (s : State) : Host.Outcome State Fault Refusal :=
  .next (
    let p := s.tide.pulse
    if !p.enable then s
    else
      let s0 := s.until p.next
      let s1 := if s0.pulseMay then s0.pulseHigh (p.next + p.width * frameTicks) else s0
      s1.setPulse (fun p => { p with next := nextPhase p.base pulsePeriod s0.tide.ticks }))

/-- TIDE_PULSE_FALL (R64). -/
def execTidePulseFall (s : State) : Host.Outcome State Fault Refusal :=
  .next (if s.tide.pulse.high then (s.until s.tide.pulse.fall).pulseLow else s)

/-- The pulse at a step from Tide `old` (R67, R970): one late pulse for the edges that a forward step
passes, with TIDE_ALARM_LATE as R59 raises it (log 63), unless the next edge is within 1 frame; otherwise a
pulse in progress ends. -/
def State.pulseStep (old : Nat) (s : State) : State :=
  let p := s.tide.pulse
  let t := s.tide.ticks
  let n := nextPhase p.base pulsePeriod t
  let s1 := if old < t && decide (p.next ≤ t) && s.pulseMay && decide (t + frameTicks < n) then
      (s.pulseHigh (min (t + p.width * frameTicks) (n - frameTicks))).raise 39 0 0
    else s.pulseLow
  if p.enable then s1.setPulse (fun p => { p with next := n }) else s1

/-- The pulse at the load of R32: no late pulse (R76); it is low in UNANCHORED (R65). -/
def State.pulseLoad (s : State) : State :=
  if s.tide.pulse.enable then
    s.setPulse (fun p => { p with next := nextPhase p.base pulsePeriod s.tide.ticks })
  else s

/-! ### Loading, stepping, holding -/

/-- A new Tide word; the model counts a boundary (R967). -/
def State.loadTide (frame tick : Nat) (s : State) : State :=
  { s with tide := { s.tide with frame := frame % frameWrap, tick := tick % frameTicks }, bnd := s.bnd + 1 }

/-- Put a Tide word; the boundary has its effects (R967). -/
def State.putTide (frame tick : Nat) (s : State) : State := (s.loadTide frame tick).boundary

/-- Every worker that is joined. -/
def State.joinedNodes (s : State) : List Nat := (List.range 16).filter (fun n => n != 0 && s.joined n)

/-- The code of a Tide state (Table TD-2). -/
def TideState.code : TideState → Nat
  | .unanchored => 0
  | .anchored => 1
  | .holdover => 2
  | .slewing => 3

/-- The manager's TIDE_SYNC for a worker (R47, R481). -/
def State.syncTo (n : Nat) (s : State) : State :=
  s.dcc n (.tideSync s.cipher.bootNonce s.tide.frame s.tide.state.code s.tide.anchor)

/-- TIDE_SYNC to every joined worker. -/
def State.syncAll (s : State) : State :=
  if s.isManager then s.joinedNodes.foldl (fun t n => t.syncTo n) s else s

/-- What a step to the present Tide from `old` does to the users of Tide (Table TD-3), and the
manager's TIDE_SYNC after it (R47). -/
def State.reanchor (old : Nat) (s : State) : State :=
  ((((s.alarmsStep old).gatesStep).wheelStep).e1Step).pulseStep old |>.syncAll

/-- The root is steered to the anchor lane (R87). A failed reference gives way to the anchor lane (R118): the
root's reference changes, which is a re-lock (R108). -/
def State.anchorRoot (s : State) : State :=
  let s1 := s.setClk (fun c => { c with steered := true, refSrc := c.refFailed })
  if s.clk.refFailed && !s.clk.refSrc then (s1.relock).raise 58 0 0 else s1

/-- Enter ANCHORED (Table TD-6). -/
def State.enterAnchored (s : State) : State :=
  ((s.anchorRoot).setTide (fun t => { t with state := .anchored, error := 0 }.holdClear)).raise 32 0 0

/-- Enter HOLDOVER (R34): HOLD_AGE counts from 0, the root holds its steering value (R87). -/
def State.enterHoldover (s : State) : State :=
  (({ s with tide := { s.tide with state := .holdover, deciding := false, stepAt := none, holdAcc := 0
                                   holdRun := some s.now, limitRaised := false }
             clk := { s.clk with steered := false } }).raise 33 0 0).pulseHold

/-- The anchor lane changes; the decision of R35 is due (R41, R44). A move in SLEWING leaves the state and the
error as they are until the decision (DESIGN CHOICE, log 88). -/
def State.moveAnchor (l : Nat) (s : State) : State :=
  ({ s with tide := { s.tide with anchor := l, deciding := true, stepAt := none }.holdStop s.now
            clk := { s.clk with steered := true } }).raise 36 0 0

/-- The anchor lane regains frame lock in HOLDOVER: R35's decision is due and HOLD_AGE holds (R41). -/
def State.lockRegained (s : State) : State :=
  if s.tide.state = .holdover && !s.tide.deciding && s.tide.stepAt.isNone then
    { s with tide := { s.tide with deciding := true }.holdStop s.now
             clk := { s.clk with steered := true } }
  else s

/-- TIDE_ANCHORED (R32, R76, R91). -/
def execTideAnchored (count : Nat) (s : State) : Host.Outcome State Fault Refusal :=
  .next (
    if !s.isManager || s.tide.state ≠ .unanchored then s
    else
      let old := s.tide.ticks
      let s1 := (s.putTide count 0).enterAnchored
      let s2 := ((s1.alarmsStep old).gatesStep).wheelStep
      let s3 := s2.pulseLoad
      s3.syncAll)

/-- Whether a worker has lost ring timing on both sides (R53). -/
def State.timingLost (s : State) : Bool := (s.side 0).sf && (s.side 1).sf

/-- TIDE_HOLDOVER (R34): on a manager when the anchor lane is lost and no other lane is eligible; on a
worker when both sides have lost ring timing (R53). -/
def execTideHoldover (s : State) : Host.Outcome State Fault Refusal :=
  .next (
    if s.tide.state = .unanchored || s.tide.state = .holdover then s
    else if s.isManager && !(s.eligibleLanes s.tide.anchor).isEmpty then s
    else if !s.isManager && !s.timingLost then s
    else s.enterHoldover)

/-- The end in Tide ticks of the last burst that is scheduled (R39). -/
def Line.lastEnd (l : Line) : Nat := l.pending.foldl (fun m c => max m (ceilDiv c.stop 8)) 0

/-- The step of R39, step 3, for a decision at downstream position `pos` with error `e`: the count of the
first frame that begins at least 4 frames after the decision and not before the end of the last scheduled
burst, and the Tide in ticks that is reached there. -/
def Line.stepAt (l : Line) (pos : Nat) (e : Int) : Nat × Nat :=
  let first := ceilDiv (pos + 4 * frameTicks) frameTicks
  let free := ceilDiv ((l.lastEnd : Int) + e).toNat frameTicks
  let n := max first free
  (n % frameWrap, ((n * frameTicks : Int) - e).toNat)

/-- TIDE_REACQUIRE_DECISION (R35, R36, R39): slew, or schedule a step and announce it to the workers
(R52). -/
def execTideReacquireDecision (frame tick : Nat) (s : State) : Host.Outcome State Fault Refusal :=
  .next (
    if !s.isManager || !(s.tide.deciding || s.tide.state = .holdover) || s.tide.stepAt.isSome then s
    else
      let e := tideError (spanTicks frame tick) s.tide.ticks
      let s0 := { s with clk := { s.clk with steered := true } }
      if e.natAbs ≤ 777600 then
        ({ s0 with tide := { s.tide with state := .slewing, deciding := false, error := e
                                         errAt := s.now }.holdClear }).raise 34 0 0
      else
        let at_ := s.line.stepAt (spanTicks frame tick) e
        let s1 := { s0 with tide := { s.tide with deciding := false, stepAt := some at_ }.holdStop s.now }
        s.joinedNodes.foldl (fun t n => t.dcc n (.stepAnnounce at_.2 at_.1)) s1)

/-- TIDE_SLEW_DONE (R36). -/
def execTideSlewDone (s : State) : Host.Outcome State Fault Refusal :=
  .next (if s.tide.state = .slewing then s.enterAnchored else s)

/-- The step itself (R39 step 3 to 5, R40, R41). -/
def State.applyStep (count tick : Nat) (s : State) : State :=
  let old := s.tide.ticks
  let held := decide (s.tide.state = .holdover)
  let s1 := s.putTide count tick
  let s2 := (s1.anchorRoot).setTide (fun t =>
    { t with state := .anchored, stepAt := none, announced := none, error := 0, corr := 0
             stepCnt := (t.stepCnt + 1) % 16 }.holdClear)
  let s3 := s2.raise 35 0 0
  (if held then s3.raise 32 0 0 else s3).reanchor old

/-- TIDE_STEP (R39): the boundary at which Tide takes `count`, the chosen frame's, no burst still scheduled. -/
def execTideStep (count : Nat) (s : State) : Host.Outcome State Fault Refusal :=
  .next (
    match s.tide.stepAt with
    | none => s
    | some (c, t) =>
      if s.isManager && s.line.pending.isEmpty && c == count then (s.until t).applyStep count 0 else s)

/-- TIDE_ABANDON_PENDING (R969): lock is lost again before the decision or the step. -/
def execTideAbandonPending (s : State) : Host.Outcome State Fault Refusal :=
  .next (
    if !s.tide.deciding && s.tide.stepAt.isNone then s
    else
      let s1 := { s with tide := { s.tide with deciding := false, stepAt := none } }
      if s.tide.state = .holdover then
        { s1 with tide := { s1.tide with holdRun := some s.now }, clk := { s1.clk with steered := false } }
      else
        match s.eligibleLanes s.tide.anchor with
        | l :: _ => s1.moveAnchor l
        | [] => s1.enterHoldover)

/-- TIDE_ANCHOR_MOVE (R44): to the lowest-numbered lane in operation. -/
def execTideAnchorMove (s : State) : Host.Outcome State Fault Refusal :=
  .next (
    if s.tide.state = .unanchored then s
    else
      match s.eligibleLanes s.tide.anchor with
      | l :: _ => s.moveAnchor l
      | [] => s)

/-- TIDE_ANCHOR_RETURN (R45): lane 0 has been in operation for 10 s. -/
def execTideAnchorReturn (s : State) : Host.Outcome State Fault Refusal :=
  .next (
    if s.tide.anchor = 0 || !s.laneUp 0 || s.tide.state = .unanchored then s else s.moveAnchor 0)

/-- TIDE_HOLD_LIMIT (R73): once in each period of HOLDOVER. -/
def execTideHoldLimit (s : State) : Host.Outcome State Fault Refusal :=
  .next (
    if s.tide.state = .holdover && !s.tide.limitRaised then
      ({ s with tide := { s.tide with limitRaised := true } }).raise 37 0 0
    else s)

/-- A read of TIDE_LO (R69): the upper half goes into the TIDE_HI shadow. -/
def State.readTideLo (s : State) : State :=
  { s with tide := { s.tide with hi := BitVec.ofNat 32 (s.tide.word / 2 ^ 32) }
           out := .read 0x0200 (BitVec.ofNat 32 s.tide.word) :: s.out }

/-- TIDE_LO_READ (R69, R111). -/
def execTideLoRead (s : State) : Host.Outcome State Fault Refusal :=
  .next (s.hostAccess (.read 0x200) State.readTideLo)

/-! ### Workers (R48 to R53, R78, R79) -/

def State.ranger (s : State) (n : Nat) : Ranger := Tab.get {} s.tide.rangers n
def State.modRanger (n : Nat) (f : Ranger → Ranger) (s : State) : State :=
  { s with tide := { s.tide with rangers := Tab.modify {} s.tide.rangers n f } }

/-- The ring-side object of a node's side (Table HM-8). -/
def sideObj (n d : Nat) : Nat := objId n 0xE (0x10 + d)

/-- The round trip of one side as measured (R48); a failed measurement of it is made good. -/
def Ranger.take (d rtt : Nat) (r : Ranger) : Ranger :=
  if d = 0 then { r with rttEast := rtt, retryEast := false, nEast := r.nEast + 1 }
  else { r with rttWest := rtt, retryWest := false, nWest := r.nWest + 1 }

/-- The ranging of a join is complete: 16 exchanges on each side (Table QY-12, step 5). -/
def Ranger.complete (r : Ranger) : Bool := decide (16 ≤ r.nEast) && decide (16 ≤ r.nWest)

/-- The offset of a side of a worker: half of its measured round trip (R48). -/
def Tide.putOffset (d rtt : Nat) (t : Tide) : Tide :=
  if d = 0 then { t with offEast := rtt / 2 } else { t with offWest := rtt / 2 }



/-- TS_REQ (R48): one ranging exchange on one side of a worker: the manager keeps the round trip, the
worker half of it as that side's offset. A joining worker that is ranged on both sides gets TIDE_SYNC (R47,
Table QY-12, step 6). -/
def execTsReq (node : NodeNo) (side : Side) (rtt : Nat) (s : State) :
    Host.Outcome State Fault Refusal :=
  .next (
    if s.isManager then
      let s1 := s.modRanger node.val (Ranger.take side.val rtt)
      if (s.node node.val).member = 1 && (s1.ranger node.val).complete && !(s.ranger node.val).complete then
        s1.syncTo node.val else s1
    else if node.val = s.ring.node then
      let s1 := ({ s with tide := s.tide.putOffset side.val rtt }).modRanger 0 (Ranger.take side.val rtt)
      { s1 with tide := { s1.tide with ranged := s1.tide.ranged || (s1.ranger 0).complete } }
    else s)

/-- Whether two round trips differ by more than 2 ticks (R78). -/
def differs (a b : Nat) : Bool := decide (2 < ((a : Int) - (b : Int)).natAbs)

/-- A re-measurement of side `d` fails (R78): TIDE_RANGE, and it is retried (R79). -/
def State.rangeFail (n d : Nat) (s : State) : State :=
  (s.modRanger n (fun r => if d = 0 then { r with retryEast := true } else { r with retryWest := true })).raise
    38 (sideObj n d) 0

/-- One side re-measured (R78): the successive differences of more than 2 ticks, of which the third fails and
leaves the round trip as it was. -/
def Ranger.remeasure (d rtt : Nat) (r : Ranger) : Ranger :=
  let n := if differs rtt (if d = 0 then r.rttEast else r.rttWest)
    then (if d = 0 then r.diffEast else r.diffWest) + 1 else 0
  let r1 := if d = 0 then { r with diffEast := n } else { r with diffWest := n }
  if 3 ≤ n then r1 else r1.take d rtt

/-- Whether a side's last re-measurement failed (R78). -/
def Ranger.failed (d : Nat) (r : Ranger) : Bool := decide (3 ≤ (if d = 0 then r.diffEast else r.diffWest))

/-- WORKER_REMEASURE (R50, R78): a third successive difference of more than 2 ticks fails on its side, of
which the worker then keeps the last offset. A worker applies a correction by slewing. -/
def execWorkerRemeasure (node : NodeNo) (rttEast rttWest : Nat) (s : State) :
    Host.Outcome State Fault Refusal :=
  .next (
    let k := if s.isManager then node.val else 0
    let r := ((s.ranger k).remeasure 0 rttEast).remeasure 1 rttWest
    let s1 := s.modRanger k (fun _ => r)
    if s.isManager then
      [0, 1].foldl (fun t d => if r.failed d then t.rangeFail node.val d else t) s1
    else if node.val ≠ s.ring.node then s
    else s1.reoffset (fun t => (t.putOffset 0 r.rttEast).putOffset 1 r.rttWest))

/-- RANGING_REPLY_TIMEOUT (R78): no timestamp reply within 8 frames. -/
def execRangingReplyTimeout (node : NodeNo) (side : Side) (s : State) :
    Host.Outcome State Fault Refusal :=
  .next (if s.isManager then s.rangeFail node.val side.val else s)

/-- RANGING_RETRY (R79): each side whose measurement failed is measured again, on that side. -/
def execRangingRetry (node : NodeNo) (s : State) : Host.Outcome State Fault Refusal :=
  .next (
    let r := s.ranger node.val
    if s.isManager then
      let s1 := if r.retryEast then s.dccOn 0 node.val .tsReq else s
      if r.retryWest then s1.dccOn 1 node.val .tsReq else s1
    else s)

/-- WORKER_STEP_ANNOUNCE (R52): a worker steps at the announced boundary, with the manager: its Tide is the
manager's (R49), so it takes the same `count` with tick 0 (DEDUCED, log 108). -/
def execWorkerStepAnnounce (count : Nat) (s : State) : Host.Outcome State Fault Refusal :=
  .next (
    match s.tide.announced with
    | none => s
    | some (c, t) => if s.isManager || c != count then s else (s.until t).applyStep count 0)

end Sys2Proof.Machine
end

