-- ==== Sys2Proof/Machine/Clock.lean ====
section
/-!
DEFINITION. The root clock, the clock multiplexers, the gates, the reference clocks and the PCIe link
that one of them carries.
-/

namespace Sys2Proof.Machine

/-- OSC_ACCEPTED (R82, R119): the reference is accepted; a root that ran on the anchor lane changes
back to it, which is a re-lock (R108). -/
def execOscAccepted (s : State) : Host.Outcome State Fault Refusal :=
  .next (
    if !s.clk.oscOn || s.clk.xoOk then s
    else
      let s1 := s.setClk (fun c => { c with xoOk := true, refFailed := false, refSrc := false })
      if s.clk.refSrc then (s1.relock).raise 58 0 0 else s1)

/-- OSC_START_TIMEOUT (R84): stopped for 1 ms and started again. -/
def execOscStartTimeout (s : State) : Host.Outcome State Fault Refusal :=
  .next (
    if !s.clk.oscOn || s.clk.xoOk then s
    else s.setClk (fun c => { c with xoRestarts := min 255 (c.xoRestarts + 1) }))

/-- REFERENCE_FAIL (R85, R117, R118). -/
def execReferenceFail (s : State) : Host.Outcome State Fault Refusal :=
  .next (
    if !s.clk.xoOk then s
    else
      let s1 := (s.setClk (fun c => { c with xoOk := false, refFailed := true })).raise 56 0 0
      if s.tide.state = .anchored || s.tide.state = .slewing then
        (s1.setClk (fun c => { c with refSrc := true })).raise 58 0 0
      else if s.clk.rootLock then (s1.setClk (fun c => { c with rootLock := false })).raise 57 0 0
      else s1)

/-- ROOT_UNLOCK (CLK_ROOT_UNLOCK, R107 to R109): the root loses lock and a re-lock begins. -/
def execRootUnlock (s : State) : Host.Outcome State Fault Refusal :=
  .next (if s.clk.rootLock then (s.relock).raise 57 0 0 else s)

/-- AON_RC_CALIBRATION (R95). -/
def execAonRcCalibration (s : State) : Host.Outcome State Fault Refusal :=
  .next (if s.clk.rootLock then s.setClk (fun c => { c with aonCal := true }) else s)

/-- The key of a multiplexer in the table of multiplexers. -/
def muxKey : Mux → Nat
  | .core => 0
  | .cp => 1
  | .lane n => 2 + n.val
  | .e1 p => 6 + p.val

/-- CLK_MUX_SWITCH_REQUEST (R100). A switch of CORE_SEL is made with the CORE divider, at a frame boundary
(R92). -/
def execClkMuxSwitchRequest (m : Mux) (toB : Bool) (s : State) : Host.Outcome State Fault Refusal :=
  .next (
    let s1 := s.muxRequest (muxKey m) toB
    if m = .core then s1.setClk (fun c => { c with coreReq := (Tab.get {} c.muxes 0 : ClkMux).pending }) else s1)

/-- The object that CLK_DEAD_SOURCE names: the lane or E1 port of its multiplexer, none for CORE_SEL and CP_SEL
(DESIGN CHOICE, log 56: Table CK-8 names none). -/
def muxObj (self : Nat) : Mux → Nat
  | .core => 0
  | .cp => 0
  | .lane n => objId self 0xE n.val
  | .e1 p => objId self 7 p.val

/-- Put multiplexer `k` and what follows from its source: CP_ON_REF, and the divider change that CORE_SEL waits
for. -/
def Clocks.putMux (k : Nat) (m : ClkMux) (c : Clocks) : Clocks :=
  { c with muxes := Tab.set {} c.muxes k m
           cpOnRef := if k = 1 then !m.selB else c.cpOnRef
           coreReq := if k = 0 then m.pending else c.coreReq
           coreSave := if k = 0 then m.selB else c.coreSave }

/-- CLK_DEAD_SOURCE (R97, R98): the switch completes when the source being left is dead and is
abandoned when the new source is. -/
def execClkDeadSource (m : Mux) (newSource : Bool) (s : State) : Host.Outcome State Fault Refusal :=
  .next (
    let k := muxKey m
    let x : ClkMux := Tab.get {} s.clk.muxes k
    match x.pending with
    | none => s
    | some b =>
      (s.setClk (Clocks.putMux k (muxEnd (if newSource then x.selB else b) x))).raise 60 (muxObj s.self m) 0)

/-- CLK_GATE_START (R105): a block's clock starts. -/
def execClkGateStart (bit : Fin 30) (s : State) : Host.Outcome State Fault Refusal :=
  .next (s.setClk (fun c => { c with
    starting := c.starting &&& ~~~ (c.gate &&& BitVec.twoPow 32 bit.val) }))

/-- The PCIe link changes (Table HM-10). -/
def State.pcieLink (up : Bool) (s : State) : State :=
  if s.host.pcieUp = up then s
  else ({ s with host := { s.host with pcieUp := up } }).raise 584 0 0

/-- CLK_REFCLK_LOSS (R93, R94, section When it goes wrong of the clocks): the ports or the PCIe link
go down. -/
def execClkRefclkLoss (eth : Bool) (s : State) : Host.Outcome State Fault Refusal :=
  .next (
    if eth then
      if !s.clk.ethRef then s
      else
        let s1 := (s.setClk (fun c => { c with ethRef := false })).raise 62 0 0
        (List.range 16).foldl (fun t p => if (t.port p).link then t.linkDown p else t) s1
    else if !s.clk.pcieRef then s
    else ((s.setClk (fun c => { c with pcieRef := false })).raise 62 0 0).pcieLink false)

/-- REFCLK_RETURN (R119): the OK bit sets again; the ports and the PCIe link train with their own
commands. -/
def execRefclkReturn (eth : Bool) (s : State) : Host.Outcome State Fault Refusal :=
  .next (s.setClk (fun c => if eth then { c with ethRef := true } else { c with pcieRef := true }))

/-- HOST_PCIE_LINK (R655): it comes up on a manager while PCIE_REFCLK is present (R94, R947). -/
def execHostPcieLink (up : Bool) (s : State) : Host.Outcome State Fault Refusal :=
  .next (if up && !(s.isManager && s.clk.pcieRef) then s else s.pcieLink up)

/-- PCIE_PERST (R946): only the endpoint is reset: its link and its MSI-X vectors. -/
def execPciePerst (released : Bool) (s : State) : Host.Outcome State Fault Refusal :=
  .next (
    if released then s
    else
      let s1 := s.pcieLink false
      { s1 with host := { s1.host with msixTab := [], msixMask := 0xFF, msixPend := 0 } })

/-- CLK_STEER_LIMIT (R88). -/
def execClkSteerLimit (s : State) : Host.Outcome State Fault Refusal :=
  .next (if s.clk.steered then s.raise 61 0 0 else s)

/-- CORE_DIVIDER_CHANGE (R92): at a frame boundary CORE takes the divider asked for. -/
def execCoreDividerChange (s : State) : Host.Outcome State Fault Refusal :=
  .next (
    match s.clk.coreReq with
    | none => s
    | some b =>
      let s0 := s.until s.tide.boundaryAt
      let x : ClkMux := Tab.get {} s0.clk.muxes 0
      let s1 := s0.setClk (Clocks.putMux 0 (muxEnd b x))
      if s.clk.coreSave = b then s1 else s1.raise 63 0 0)

end Sys2Proof.Machine
end

