-- ==== Sys2Proof/Machine/Cipher.lean ====
section
/-!
DEFINITION. The cipher block: line key slots and their shadows, the vault, entropy, the DRBG and the
line engines.
-/

namespace Sys2Proof.Machine

/-! ### Line key slots (R583 to R592) -/

/-- A write to a bank goes to its shadow (R588). -/
def State.writeBank (slot b : Nat) (k : BitVec 128) (s : State) : State :=
  s.modBank slot b (fun x => { x with shadow := some k, erased := false })

/-- A packet start on a bank: a shadow replaces the key (R588). -/
def State.latchBank (slot b : Nat) (s : State) : State :=
  s.modBank slot b (fun x =>
    match x.shadow with
    | none => x
    | some k => { x with key := some k, shadow := none })

/-- Whether a packet start on the bank finds a key (R127, R590, R591). -/
def Bank.holds (b : Bank) : Bool := b.key.isSome || b.shadow.isSome

/-- Erase a bank: it selects no key any more, and its zeroisation is pending (R590, R592). -/
def State.eraseBank (slot b : Nat) (s : State) : State :=
  s.modBank slot b (fun _ => { key := none, shadow := none, erasing := true, erased := true })

/-- Whether a committed caravan holds a packet bound to a bank (R592): lane n uses slot n. -/
def State.bankBusy (s : State) (slot b : Nat) : Bool :=
  s.line.pending.any (fun c => c.lane == slot && c.items.any (fun i => i.key == b + 1))

/-- The key-slot object of a line slot or a vault slot (Table HM-8). -/
def slotObj (slot : Nat) : Nat := objId 0 0xB slot

/-- KEY_ZEROISE (R592, R713, R714): the requests that wait for this bank are answered, and those that wait
for both banks (2) when neither is being erased any more. -/
def execKeyZeroise (slot : Fin 256) (bank : BankNo) (s : State) : Host.Outcome State Fault Refusal :=
  .next (
    if !(s.bank slot.val bank.val).erasing || s.bankBusy slot.val bank.val then s
    else
      let s1 := ((s.modBank slot.val bank.val (fun x => { x with erasing := false })).raise 548
        (slotObj slot.val) 0).answerOn (.zeroise slot.val bank.val) .done []
      if (s1.bank slot.val (1 - bank.val)).erasing then s1
      else s1.answerOn (.zeroise slot.val 2) .done [])

/-! ### The DRBG and the entropy source (R575 to R582) -/

/-- Draw from the DRBG: 128 bits that nothing else uses. -/
def State.drawKey (s : State) : BitVec 128 × State :=
  (Config.drbg s.fresh, { s with fresh := s.fresh + 1 })

/-- The DRBG reseeds from the conditioned bits (R577). -/
def State.reseed (s : State) : State :=
  { s with cipher := { s.cipher with drbgReady := true, seed := [] } }.inc 0x5C7

/-- Generate a key, nonce or chain key: a reseed first (R577). -/
def State.genKey (s : State) : BitVec 128 × State := s.reseed.drawKey

/-- The health tests after one more raw sample, and whether one fails (R575): repetition count at 32, adaptive
proportion at 589 in a window of 1,024. -/
def Health.step (h : Health) (x : Bool) : Health × Bool :=
  let run := if h.run ≠ 0 ∧ h.last = x then h.run + 1 else 1
  let fresh := h.seen = 0 ∨ 1024 ≤ h.seen
  let first := if fresh then x else h.first
  let same := if fresh then 1 else h.same + b2n (x == h.first)
  ({ last := x, run := run, first := first, seen := if fresh then 1 else h.seen + 1, same := same },
    decide (32 ≤ run) || decide (589 ≤ same))

/-- The health tests over raw samples, and whether one has failed. -/
def Health.run_ : List Bool → Health → Health × Bool
  | [], h => (h, false)
  | x :: t, h =>
    let r := h.step x
    let r2 := Health.run_ t r.1
    (r2.1, r.2 || r2.2)

/-- The bytes that bits spell, most significant bit first. -/
def bitBytes (l : List Bool) : List Byte :=
  (chunksOf 8 l).map (fun b => BitVec.ofNat 8 (b.foldl (fun a x => 2 * a + b2n x) 0))

/-- Raw samples come from the oscillators: tested, and conditioned 1,024 at a time into 128 bits with AES-CMAC (R575);
384 bits are a seed (R577). -/
def Cipher.sample (l : List Bool) (c : Cipher) : Cipher × Bool :=
  let r := c.health.run_ l
  let all := chunksOf 1024 (c.raw ++ l)
  let whole := all.filter (fun b => b.length == 1024)
  let out := whole.flatMap (fun b => aesCmac (keyBytes Config.conditionKey) (bitBytes b))
  let seed := c.seed ++ out
  ({ c with health := r.1, raw := (all.filter (fun b => b.length != 1024)).flatten
            seed := seed.drop (seed.length - 48) }, r.2)

/-- The next 1,024 raw samples of the source, free values (R575; what a sample is: PRESUMED, log 110). -/
def State.nextRaw (s : State) : List Bool := (List.range 1024).map (Config.rawSample s.fresh)

/-- CY_ENTROPY_FAIL (R575, R578): the source's next 1,024 raw samples, on which a health test may fail. -/
def execCyEntropyFail (s : State) : Host.Outcome State Fault Refusal :=
  .next (
    let r := s.cipher.sample s.nextRaw
    let s1 := { s with fresh := s.fresh + 1 }
    if !r.2 || !s.cipher.entropyOk then { s1 with cipher := r.1 }
    else (({ s1 with cipher := { r.1 with entropyOk := false } }).inc 0x5C8).raise 544 0 0)

/-- ENTROPY_RETEST (R576, R578): the start-up test over 4,096 raw samples passes without a health failure. -/
def execEntropyRetest (samples : List Bool) (s : State) : Host.Outcome State Fault Refusal :=
  .next (
    if s.cipher.entropyOk then s
    else
      let r := { s.cipher with health := {} }.sample samples
      if r.2 || decide (samples.length < 4096) then { s with cipher := r.1 }
      else ({ s with cipher := { r.1 with entropyOk := true } }).raise 545 0 0)

/-- Labels of the derivations (R595, R597). -/
def labelNonce (n : Nat) : Nat := 1000 + 2 * n
def labelChain (n : Nat) : Nat := 1001 + 2 * n

/-- Write a vault slot. -/
def State.putVault (v : Nat) (k : Option (BitVec 128)) (s : State) : State :=
  { s with cipher := { s.cipher with vault := Tab.set none s.cipher.vault v k } }

/-- CY_FALLBACK_NONCE (R581): nonce, and on a manager the chain key, from the device key and the
start counter. A worker without a configuration store draws nothing (R582). -/
def execCyFallbackNonce (s : State) : Host.Outcome State Fault Refusal :=
  .next (
    if s.cipher.entropyOk || !(s.isManager || s.start.hasFlash) then s
    else
      let n := s.cipher.startCount + 1
      let s1 := { s with cipher := { s.cipher with
        startCount := n
        bootNonce := (Config.deriveKey 0 (labelNonce n)).setWidth 64 } }
      let s2 := if s.isManager then s1.putVault 16 (some (Config.deriveKey 0 (labelChain n))) else s1
      ({ s2 with ring := { s2.ring with join := { s2.ring.join with
        nonce := s2.cipher.bootNonce } } }).raise 555 0 0)

/-- DRBG_RESEED (R577, R579). -/
def execDrbgReseed (s : State) : Host.Outcome State Fault Refusal :=
  .next (if s.cipher.entropyOk then s.reseed else s)

/-! ### The vault (R593 to R598) -/

/-- The master session key of a lane, or the Recommendation's default (R152). -/
def State.mskOf (s : State) (l : Nat) : BitVec 128 :=
  match Tab.get none s.cipher.vault l with
  | some k => k
  | none => Config.defaultKey l

/-- Set or forget the session key of a lane. -/
def State.putSession (l : Nat) (k : Option (BitVec 128)) (s : State) : State :=
  { s with cipher := { s.cipher with session := Tab.set none s.cipher.session l k } }

/-- Re-derive a lane's session key and its slots 4 to 15 from its master session key or the default key (R152, R595,
R716). -/
def State.rederive (l : Nat) (s : State) : State :=
  let k := Config.deriveKey (s.mskOf l) 0
  (((s.putSession l (some k)).putVault (4 + l) (some (Config.deriveKey k 1))).putVault (8 + l)
    (some (Config.deriveKey k 2))).putVault (12 + l) (some (Config.deriveKey k 3))

/-- Forget a lane's derived keys (R135). -/
def State.underive (l : Nat) (s : State) : State :=
  (((s.putSession l none).putVault (4 + l) none).putVault (8 + l) none).putVault (12 + l) none

/-- Load or erase a lane's master session key (R712, R716), which the configuration store keeps (R598). -/
def State.loadMsk (l : Nat) (k : Option (BitVec 128)) (s : State) : State :=
  let s1 := (s.putVault l k).rederive l
  ({ s1 with cipher := { s1.cipher with mskLoaded := putBit s1.cipher.mskLoaded l k.isSome } }).putStore
    (s.start.stored.getD {})

/-- The key-encryption key of a lane. -/
def State.kekOf (s : State) (l : Nat) : BitVec 128 :=
  match Tab.get none s.cipher.vault (12 + l) with
  | some k => k
  | none => Config.deriveKey (Config.deriveKey (s.mskOf l) 0) 3

/-- The integrity code of an OMCI message under the lane's OMCI integrity key (R155, R158): the first four bytes of an
AES-CMAC (PRESUMED, log 6) over what the Recommendation names. -/
def State.omciMic (l : Nat) (up : Bool) (msg : List Byte) (s : State) : List Byte :=
  (aesCmac (keyBytes ((Tab.get none s.cipher.vault (8 + l)).getD 0)) (Config.micInput up msg)).take 4

/-- VAULT_RERANDOMISE (R594): a fresh mask splits the contents. -/
def execVaultRerandomise (s : State) : Host.Outcome State Fault Refusal :=
  .next { s with fresh := s.fresh + 1, cipher := { s.cipher with shares := s.fresh } }

/-! ### Line engines (R564 to R567) -/

/-- Ticks per byte of a lane (Tables TD-1, BL-1). -/
def byteTicks (r25 : Bool) : Nat := if r25 then 2 else 5

/-- The dispatcher gives a block that arrives at `t` to the free line engine next in turn; when none is free the block
waits for the first one that will be. An engine takes 11 CORE clocks (R564, R565). -/
def Cipher.block (coreTicks t : Nat) (c : Cipher) : Cipher :=
  let at_ (e : Nat) : Nat := Tab.get 0 c.busy e
  let turn := (List.range 24).map (fun i => (c.turn + i) % 24)
  let e := match turn.find? (fun e => decide (at_ e ≤ t)) with
    | some e => e
    | none => turn.foldl (fun a e => if at_ e < at_ a then e else a) c.turn
  { c with turn := (e + 1) % 24, busy := Tab.set 0 c.busy e (max t (at_ e) + 11 * coreTicks) }

/-- The blocks of an XGEM payload of `n` bytes go to the line engines one after another as they come (R566). -/
def State.dispatch (n : Nat) (s : State) : State :=
  let core := if s.clk.coreSave then 10 else 8
  { s with cipher := (List.range (ceilDiv n 16)).foldl (fun c i =>
      c.block core (s.now + i * 16 * byteTicks s.is25)) s.cipher }

/-- AES-CTR over a payload, either way (R564); the counter blocks are the Recommendation's (log 6). -/
def ctrBytes (k : BitVec 128) (n : Nat) (b : List Byte) : List Byte :=
  aesCtr (keyBytes k) (fun i => keyBytes (Config.ctrBlock n i)) b

end Sys2Proof.Machine
end

