-- ==== Sys2Proof/Machine/Caravan.lean ====
section
/-!
DEFINITION. The caravan engine: allocation structures, run-ahead, filling, commit, rewind and launch.
-/

namespace Sys2Proof.Machine

/-! ### Lanes, units and mappings -/

/-- Counter `i` of lane l (Tables LN-9 and EV-8). -/
def lnCnt (l i : Nat) : Nat := 0x500 + 32 * l + i

/-- Raise lane event `k` (Table LN-7) and activation event `k` (Table LN-8). -/
def State.lnEvent (l k detail : Nat) (s : State) : State :=
  s.raise (128 + 16 * l + k) (s.obj 0xE l) detail
def State.actEvent (l k detail : Nat) (s : State) : State :=
  s.raise (192 + 8 * l + k) (s.obj 0xE l) detail

/-- Raise lane event `k` at most once per 8,000 frames. -/
def State.lnFirst (l k : Nat) (s : State) : State :=
  s.raiseWin 8000 (128 + 16 * l + k) 0 (s.obj 0xE l) 0

/-- Ticks per unit of StartTime, words per unit of GrantSize, words of a DBRu, and
eighths of a tick per bit (Tables TD-1, BL-1, R235). -/
def startTicks (r25 : Bool) : Nat := if r25 then 16 else 20
def grantWords (r25 : Bool) (g : Nat) : Nat := if r25 then 2 * g else g
def dbruWords (r25 : Bool) : Nat := if r25 then 2 else 1
def bitEighths (r25 : Bool) : Nat := if r25 then 2 else 5

/-- Words of a PLOAMu in a grant (PRESUMED, log 20: 48 bytes of ITU-T G.9807.1). -/
def ploamuWords : Nat := 12

/-- The local index that an Alloc-ID of a lane maps to (R197). -/
def State.indexOf (s : State) (l allocId : Nat) : Option Nat :=
  (s.cfg.allocs.find? (fun x => Tab.get none x.2.maps l == some allocId)).map (·.1)

/-- The group that uses a local index, in bonded mode (R241). -/
def State.groupAt (s : State) (a : Nat) : Option (Nat × GroupCfg) :=
  if s.cfg.line.bonded then s.cfg.line.groups.find? (fun x => x.2.members != 0 && x.2.index == a)
  else none

/-- Whether a lane carries the traffic of an index: for a group, an operating member that both ends
configure (R269, R276). -/
def State.carries (s : State) (l a : Nat) : Bool :=
  match s.groupAt a with
  | none => true
  | some (g, _) => bit (s.group g).lanes l && bit (s.group g).shared l

/-- The Alloc-ID object of a local index (Table HM-8). -/
def allocObj (a : Nat) : Nat := objId 0 9 a
def cvCnt (a i : Nat) : Nat := 0x1000 + 16 * a + i
def upQueue (a i : Nat) : Nat := 2048 + 16 * a + i
def upQueues (a : Nat) : List Nat := (List.range 16).map (upQueue a)

/-! ### Lengths and fragments (R199, R200, R219, R250) -/

/-- The bytes of a packet as it is sent: with its FCS (R219). -/
def Packet.total (p : Packet) : Nat := p.bytes.length + 4

/-- Header words of an XGEM frame, and the smallest space for a fragment; one more with a tag. -/
def hdrWords (grp : Bool) : Nat := if grp then 3 else 2
def minSpace (grp : Bool) : Nat := if grp then 7 else 6

/-- Words of an XGEM frame of `n` payload bytes. -/
def xgemWords (grp : Bool) (n : Nat) : Nat := ceilDiv n 4 + hdrWords grp

/-- The bytes of a packet that can be bound: of one still being written whole words of those present (R223). -/
def Packet.left (p : Packet) : Nat := (if p.writer = 0 then p.total else p.bytes.length / 4 * 4) - p.sent

/-- Whether a packet is bound whole once `n` bytes more are. -/
def Packet.endsAt (p : Packet) (n : Nat) : Bool := p.writer == 0 && decide (p.total ≤ p.sent + n)

/-- Payload bytes to bind of a packet with `r` bytes left in `space` words (R199, R200); 0 closes the caravan, also
where the bytes could only leave exactly 1 word and cannot be shortened. -/
def fitBytes (grp : Bool) (r space : Nat) : Nat :=
  let need := xgemWords grp r
  if need ≤ space then
    if space = need + 1 then (if minSpace grp ≤ space ∧ 1 < ceilDiv r 4 then (ceilDiv r 4 - 1) * 4 else 0) else r
  else if minSpace grp ≤ space then (space - hdrWords grp) * 4 else 0

/-! ### Tokens of upstream queues (R342, R346 to R349) -/

def State.upShaper (s : State) (q : Nat) : ShaperCfg := s.cfg.shaper (objId 0 2 q)
def State.upOvh (s : State) (q : Nat) : Int := (s.cfg.schedOf (allocObj ((q - 2048) / 16))).ovhOr 8

/-- The accounted length of an upstream packet (R335). -/
def State.upLen (s : State) (q : Nat) (p : Packet) : Nat := accounted p.total (s.upOvh q)

/-- Tokens debited by the first `off` bytes of a packet (R348). -/
def debitUpTo (total acc : Nat) (ovh : Int) (off : Nat) : Nat :=
  if off = 0 then 0 else if total ≤ off then acc else min acc ((off : Int) + ovh).toNat

/-- Tokens that the bytes from `first` to `first + n` debit; of a packet still being written the length is not known
yet, and each byte debits itself. -/
def State.upDebit (s : State) (q : Nat) (p : Packet) (first n : Nat) : Nat :=
  let d := if p.writer = 0 then debitUpTo p.total (s.upLen q p) (s.upOvh q)
    else fun off => if off = 0 then 0 else ((off : Int) + s.upOvh q).toNat
  d (first + n) - d first

/-- Debit a queue's buckets of a tier: CIR and PIR in tiers 1 and 2, PIR in 3 and 4 (Table SH-1). -/
def State.debitUp (q tier n : Nat) (s : State) : State :=
  let c := s.upShaper q
  s.modQueue q (fun x =>
    { x with bktA := let b := x.bktA.accrue c.rateA c.sizeA s.now
                     if tier ≤ 2 then b.debit c.rateA n else b
             bktB := (x.bktB.accrue c.rateB c.sizeB s.now).debit c.rateB n })

/-- Give tokens back, up to the size: bytes that were bound and are not sent (R348: a packet debits
exactly its accounted length in total; DEDUCED, log 21). -/
def Bucket.refund (rate size n : Nat) (b : Bucket) : Bucket :=
  if rate = 0 then b else { b with tok := min (size * byteUnits) (b.tok + n * byteUnits) }

def State.refundUp (q tier n : Nat) (s : State) : State :=
  let c := s.upShaper q
  s.modQueue q (fun x =>
    { x with bktA := let b := x.bktA.accrue c.rateA c.sizeA s.now
                     if tier ≤ 2 then b.refund c.rateA c.sizeA n else b
             bktB := (x.bktB.accrue c.rateB c.sizeB s.now).refund c.rateB c.sizeB n })

/-- Tokens of a queue that staged packets and the remainder of index `a` claim: of CIR and of PIR
(R205, R349). -/
def State.claims (s : State) (a q : Nat) : Nat × Nat :=
  let st := (s.alloc a).staged.filter (fun x => x.queue == q)
  let rest := match (s.alloc a).rest with
    | some r => if r.queue = q then (r.tier, s.upDebit q r.packet r.packet.sent r.packet.total) else (3, 0)
    | none => (3, 0)
  (((st.filter (fun x => decide (x.tier ≤ 2))).map (fun x => s.upLen q x.packet)).sum
      + (if rest.1 ≤ 2 then rest.2 else 0),
   (st.map (fun x => s.upLen q x.packet)).sum + rest.2)

/-- Whether CIR and PIR, and PIR alone, cover a length beside what is claimed (R342). -/
def State.upCovers (s : State) (a q len : Nat) : Bool × Bool :=
  let c := s.upShaper q
  let k := s.claims a q
  let x := s.queue q
  let pir := (x.bktB.accrue c.rateB c.sizeB s.now).covers c.rateB (len + k.2)
  ((x.bktA.accrue c.rateA c.sizeA s.now).covers c.rateA (len + k.1) && pir, pir)

/-! ### The scheduler of an Alloc-ID (R343, R347, R350 to R354, R973, R974) -/

/-- What a selection chose: queue, tier, the pointer after it and the DEFICIT changes. -/
structure UpPick where
  queue  : Nat
  tier   : Nat
  ptr    : Nat
  deltas : List (Nat × Int)
  deriving DecidableEq, Repr

/-- The DEFICIT of a queue with the provisional changes of the staged packets (R973). -/
def State.provDeficit (s : State) (a q : Nat) : Int :=
  (s.queue q).deficit
    + (((s.alloc a).staged.flatMap (·.deltas)).filter (fun d => d.1 == q)).foldl (fun n d => n + d.2) 0

/-- The DRR pointer of an index, the provisional one while packets are staged. -/
def State.provPtr (s : State) (a : Nat) : Nat :=
  match (s.alloc a).staged.getLast? with
  | some x => x.ptr
  | none => Tab.get 0 s.sched.drrPtr (16 + a)

/-- One queue of the DRR group of an index as tier `t` sees it; a head that is still being written is eligible once
CT_BYTES of it are present (R310). -/
def State.upDrr (s : State) (a t q : Nat) : DrrQ :=
  let qc := s.cfg.queue (objId 0 2 q)
  let d := s.provDeficit a q
  match (s.queue q).pkts with
  | [] => { q := q, ok := false, empty := true, len := 0, quantum := qc.quantum, burst := qc.burst
            deficit := d }
  | h :: _ =>
    let len := s.upLen q h
    let c := s.upCovers a q len
    let starts := h.writer == 0 || s.startsEarly q h.bytes.length
    { q := q, ok := starts && (if t = 2 then c.1 else c.2), empty := false, len := len, quantum := qc.quantum
      burst := qc.burst, deficit := d }

/-- The strict choice of a tier: the lowest queue whose buckets cover its head. -/
def State.upStrict (s : State) (a t : Nat) (qs : List Nat) : Option UpPick :=
  match qs.find? (fun q => (s.upDrr a (if t = 1 then 2 else 4) q).ok) with
  | some q => some { queue := q, tier := t, ptr := s.provPtr a, deltas := [] }
  | none => none

/-- The DRR choice of a tier. -/
def State.upRound (s : State) (a t : Nat) (qs : List Nat) : Option UpPick :=
  let g := qs.map (s.upDrr a t)
  let r := drrPick drrFuel (s.provPtr a) g
  match r.1 with
  | none => none
  | some q => some
    { queue := q, tier := t, ptr := r.2.1
      deltas := ((g.zip r.2.2).map (fun x => (x.1.q, x.2.deficit - x.1.deficit))).filter
        (fun d => d.2 != 0) }

/-- The next packet's queue: the first tier of Table SH-1 that has a candidate (R347). Staging passes over a queue
with a flush that waits: what stands before the flush point goes with it (R213). -/
def State.upPick (s : State) (a : Nat) (staging : Bool) : Option UpPick :=
  let c := s.cfg.schedOf (allocObj a)
  let on := (List.range 16).filter (fun i =>
    bit c.qEnable i && !(staging && (s.queue (upQueue a i)).flush.isSome))
  let strict := (on.filter (fun i => decide (i < c.nstrict))).map (upQueue a)
  let drr := (on.filter (fun i => decide (c.nstrict ≤ i))).map (upQueue a)
  (((s.upStrict a 1 strict).orElse (fun _ => s.upRound a 2 drr)).orElse
    (fun _ => s.upStrict a 3 strict)).orElse (fun _ => s.upRound a 4 drr)

/-- Discard the heads of a queue that an enabled PIR bucket can never cover (R974). -/
def State.dropOver (q : Nat) : List Packet → State → State
  | [], s => s
  | p :: t, s =>
    let c := s.upShaper q
    if c.rateB ≠ 0 ∧ c.sizeB < s.upLen q p then
      State.dropOver q t (((s.modQueue q (fun x => { x with pkts := x.pkts.drop 1 })).freePacket q
        p).queueDrop q 1)
    else s

/-- The same for every queue of an index. -/
def State.dropOvers (a : Nat) (s : State) : State :=
  (upQueues a).foldl (fun t q => State.dropOver q (t.queue q).pkts t) s

/-- Charge a selection's DRR changes (R973). -/
def State.chargeDrr (a ptr : Nat) (deltas : List (Nat × Int)) (s : State) : State :=
  let s1 := deltas.foldl (fun t d => t.modQueue d.1 (fun x => { x with deficit := x.deficit + d.2 })) s
  { s1 with sched := { s1.sched with drrPtr := Tab.set 0 s1.sched.drrPtr (16 + a) ptr } }

/-! ### Run-ahead (R203 to R209) -/

/-- The mean of the last 8 grants of each member, summed (R203, R243). -/
def AllocState.predicted (x : AllocState) : Nat :=
  (x.grants.map (fun g => if g.2.length < 8 then 0 else g.2.sum / 8)).sum

/-- Bytes staged, FCS counted. -/
def AllocState.stagedBytes (x : AllocState) : Nat := (x.staged.map (fun y => y.packet.total)).sum

/-- The limit on staged bytes (R204, R208). -/
def State.stageLimit (s : State) (a : Nat) : Nat :=
  min ((s.cfg.alloc a).runahead * 1024) (2 * (s.alloc a).predicted * 4)

/-- Move cells between QUEUED and STAGED (R317). -/
def State.toStaged (n : Nat) (s : State) : State :=
  { s with pool := { s.pool with queued := s.pool.queued - n, staged := s.pool.staged + n } }
def State.toQueued (n : Nat) (s : State) : State :=
  { s with pool := { s.pool with queued := s.pool.queued + n, staged := s.pool.staged - n } }

/-- Take the head packet out of a queue's list; a flush that waits counts it no more. -/
def State.popHead (q : Nat) (s : State) : State :=
  s.modQueue q (fun x => { x with pkts := x.pkts.drop 1, flush := x.flush.map (fun n => n - 1) })

/-- Put a packet back at the head of its queue (R214). -/
def State.pushHead (q : Nat) (p : Packet) (s : State) : State :=
  s.modQueue q (fun x => { x with pkts := p :: x.pkts, flush := x.flush.map (fun n => n + 1) })

/-- Stage whole packets while the limit and the tokens allow (R204, R205); `fuel` bounds the number
of packets that the queues can hold. -/
def State.stageLoop (a : Nat) : Nat → State → State
  | 0, s => s
  | fuel + 1, s =>
    let s0 := s.dropOvers a
    match s0.upPick a true with
    | none => s0
    | some k =>
      match (s0.queue k.queue).pkts with
      | [] => s0
      | p :: _ =>
        if p.writer ≠ 0 ∨ s0.stageLimit a < (s0.alloc a).stagedBytes + p.total then s0
        else
          let s1 := ((s0.popHead k.queue).toStaged p.cells).modAlloc a (fun x =>
            { x with staged := x.staged ++ [{ queue := k.queue, packet := p, frame := s0.bnd
                                              tier := k.tier, ptr := k.ptr, deltas := k.deltas }]
                     winStaged := x.winStaged + p.total })
          State.stageLoop a fuel (s1.count (cvCnt a 5) p.total)

/-- The number of packets in the queues of an index. -/
def State.upCount (s : State) (a : Nat) : Nat := ((upQueues a).map (fun q => (s.queue q).pkts.length)).sum

/-- A window of R209 that has ended begins anew. -/
def State.raWindow (a : Nat) (s : State) : State :=
  s.modAlloc a (fun x =>
    if x.winStart + 8000 ≤ s.bnd then { x with winStart := s.bnd, winStaged := 0, winRewound := 0 } else x)

/-- RUN_AHEAD_STAGE (R203 to R206). A recount stages nothing. -/
def execRunAheadStage (a : Fin 128) (s : State) : Host.Outcome State Fault Refusal :=
  .next (
    if (s.alloc a.val).suspended.isSome || s.pool.recount || s.clk.rootHold || !s.isManager then s
    else (s.raWindow a.val).stageLoop a.val (s.upCount a.val))

/-- Rewind staged packets (R214): the last goes back first. The bytes count in the window of R209 in force. -/
def State.unstage (a : Nat) (l : List Staged) (s : State) : State :=
  l.foldr (fun x t =>
    (((t.pushHead x.queue x.packet).toQueued x.packet.cells).modAlloc a (fun y =>
      { y with winRewound := y.winRewound + x.packet.total })).count (cvCnt a 6) x.packet.total) (s.raWindow a)

/-- The staged packets that a rewind of some of them takes, and those that stay: with each that goes every later
one of its queue goes, so that the order within the queue stays (R206, R214). -/
def rewound (gone : Staged → Bool) : List Nat → List Staged → List Staged × List Staged
  | _, [] => ([], [])
  | qs, x :: t =>
    if gone x || qs.contains x.queue then
      let r := rewound gone (x.queue :: qs) t
      (x :: r.1, r.2)
    else
      let r := rewound gone qs t
      (r.1, x :: r.2)

/-- Rewind the staged packets that `gone` selects, with the later ones of their queues (R214). -/
def State.rewindRaw (a : Nat) (gone : Staged → Bool) (s : State) : State :=
  let r := rewound gone [] (s.alloc a).staged
  (s.modAlloc a (fun x => { x with staged := r.2 })).unstage a r.1

/-- The same; a flush that waited for them acts (R213). -/
def State.rewindIf (a : Nat) (gone : Staged → Bool) (s : State) : State :=
  ((rewound gone [] (s.alloc a).staged).1.map (·.queue)).foldl (fun t q => t.flushWaiting q) (s.rewindRaw a gone)

/-- Rewind every staged packet of an index. -/
def State.rewindAll (a : Nat) (s : State) : State := s.rewindIf a (fun _ => true)

/-- STAGED_CELL_TIMEOUT (R207): the packets that were staged first are rewound. -/
def execStagedCellTimeout (a : Fin 128) (s : State) : Host.Outcome State Fault Refusal :=
  .next (
    match (s.alloc a.val).staged with
    | [] => s
    | x :: _ => s.rewindIf a.val (fun y => decide (y.frame ≤ x.frame)))

/-- CV_RUNAHEAD_SUSPEND (R209). -/
def execCvRunaheadSuspend (a : Fin 128) (s : State) : Host.Outcome State Fault Refusal :=
  .next (
    let x := (s.raWindow a.val).alloc a.val
    if x.suspended.isNone && decide (x.winStaged < 2 * x.winRewound) then
      (s.modAlloc a.val (fun x =>
        { x with suspended := some s.bnd, winStart := s.bnd, winStaged := 0, winRewound := 0 })).raise
          226 (allocObj a.val) 0
    else s)

/-- RUNAHEAD_RESUME (R209): the history is kept. -/
def execRunaheadResume (a : Fin 128) (s : State) : Host.Outcome State Fault Refusal :=
  .next (s.modAlloc a.val (fun x => { x with suspended := none }))

/-! ### Filling a caravan (R198 to R202, R211) -/

/-- A caravan that is being filled: the device, words of space left, items so far, whether it is
closed. -/
structure Fill where
  st    : State
  space : Nat
  items : List BurstItem
  stop  : Bool

/-- The XGEM port of an upstream queue, with its number. -/
def Cfg.portOfQueue (c : Cfg) (q : Nat) : Option (Nat × XgemCfg) :=
  c.xgems.find? (fun x => x.2.valid && x.2.usQueue == q)

/-- The key of a packet's first fragment on lane l: none in clear, the bank in use plus one, or no key
at all (R586, R591). -/
def State.upKey (s : State) (l q : Nat) : Option Nat :=
  match s.cfg.portOfQueue q with
  | none => some 0
  | some x =>
    if !x.2.encrypted then some 0
    else
      let b := (s.lane l).keyUp
      if (s.bank l b).holds then some (b + 1) else none

/-- Discard a packet whose bank is empty (R591). -/
def State.keyDrop (l q : Nat) (p : Packet) (s : State) : State :=
  ((s.freePacket q p).inc (lnCnt l 25)).raiseWin 8000 549 l (slotObj l) 0

/-- The next upstream SEQ of a group (R248, R249). -/
def State.takeSeq (g : Option Nat) (s : State) : Option Nat × State :=
  match g with
  | none => (none, s)
  | some g =>
    (some (s.group g).txSeq,
      (s.modGroup g (fun x => { x with txSeq := (x.txSeq + 1) % 2 ^ 24 })).inc (0x1800 + 8 * g))

/-- How a packet is bound: its queue, tier, bank and whether it was staged. -/
structure Bind where
  queue  : Nat
  tier   : Nat
  key    : Nat
  staged : Bool

/-- Bind `n` bytes of a packet from its offset: tokens debited, a SEQ taken, words used. -/
def Fill.bind (grp : Option Nat) (k : Bind) (n : Nat) (p : Packet) (f : Fill) : Fill :=
  let r := (f.st.debitUp k.queue k.tier (f.st.upDebit k.queue p p.sent n)).takeSeq grp
  { st := r.2, space := f.space - xgemWords grp.isSome n, stop := f.stop
    items := f.items ++ [{ queue := k.queue, packet := p, first := p.sent, len := n, last := p.endsAt n
                           tier := k.tier, seq := r.1, key := k.key, staged := k.staged }] }

/-- Keep the remainder of a packet bound up to `n` more bytes (R199, R216, R223). -/
def Fill.keepRest (a : Nat) (k : Bind) (n : Nat) (p : Packet) (f : Fill) : Fill :=
  if p.endsAt n then { f with st := f.st.modAlloc a (fun x => { x with rest := none }) }
  else
    { f with stop := true
             st := f.st.modAlloc a (fun x =>
               { x with rest := some { queue := k.queue, packet := { p with sent := p.sent + n }
                                       tier := k.tier, key := k.key } }) }

/-- Step 1 of R198: the remainder of a partly sent packet. -/
def Fill.rest (a : Nat) (grp : Option Nat) (f : Fill) : Fill :=
  match (f.st.alloc a).rest with
  | none => f
  | some r =>
    let n := fitBytes grp.isSome r.packet.left f.space
    let k : Bind := { queue := r.queue, tier := r.tier, key := r.key, staged := false }
    if n = 0 then { f with stop := true }
    else (f.bind grp k n r.packet).keepRest a k n r.packet

/-- Number a packet at its first fragment. -/
def Fill.number (p : Packet) (f : Fill) : Packet × Fill :=
  ({ p with no := f.st.fresh + 1 }, { f with st := { f.st with fresh := f.st.fresh + 1 } })

/-- Step 2 of R198: staged packets in staging order. -/
def Fill.staged (a l : Nat) (grp : Option Nat) : List Staged → Fill → Fill
  | [], f => f
  | x :: t, f =>
    let n := fitBytes grp.isSome x.packet.left f.space
    if f.stop || n = 0 then { f with stop := true }
    else
      let s0 := (f.st.modAlloc a (fun y => { y with staged := y.staged.drop 1 })).toQueued x.packet.cells
      match s0.upKey l x.queue with
      | none => Fill.staged a l grp t { f with st := s0.keyDrop l x.queue x.packet }
      | some key =>
        let k : Bind := { queue := x.queue, tier := x.tier, key := key, staged := true }
        let r := Fill.number x.packet { f with st := s0.chargeDrr a x.ptr x.deltas }
        Fill.staged a l grp t ((r.2.bind grp k n r.1).keepRest a k n r.1)

/-- Step 3 of R198: further packets that the scheduler chooses; `fuel` bounds their number. -/
def Fill.sched (a l : Nat) (grp : Option Nat) : Nat → Fill → Fill
  | 0, f => f
  | fuel + 1, f =>
    if f.stop then f
    else
      let s0 := f.st.dropOvers a
      match s0.upPick a false with
      | none => { f with st := s0, stop := true }
      | some c =>
        match (s0.queue c.queue).pkts with
        | [] => { f with st := s0, stop := true }
        | p :: _ =>
          let n := fitBytes grp.isSome p.left f.space
          if n = 0 then { f with st := s0, stop := true }
          else
            let s1 := s0.popHead c.queue
            match s1.upKey l c.queue with
            | none => Fill.sched a l grp fuel { f with st := s1.keyDrop l c.queue p }
            | some key =>
              let k : Bind := { queue := c.queue, tier := c.tier, key := key, staged := false }
              let r := Fill.number p { f with st := s1.chargeDrr a c.ptr c.deltas }
              Fill.sched a l grp fuel ((r.2.bind grp k n r.1).keepRest a k n r.1)

/-- Fill from an index: the three steps, then the surplus is rewound (R211); during a recount nothing (R323). -/
def Fill.index (a l : Nat) (f : Fill) : Fill :=
  let grp := (f.st.groupAt a).map (·.1)
  let f1 := if f.st.pool.recount then f
    else
      let f := Fill.rest a grp f
      let g := Fill.staged a l grp (f.st.alloc a).staged f
      Fill.sched a l grp (g.st.upCount a) g
  { f1 with st := f1.st.rewindRaw a (fun _ => true) }

/-- Bind `n` bytes of an OMCI message (R158, R199). -/
def Fill.bindOmci (l n : Nat) (p : Packet) (f : Fill) : Fill :=
  let last := decide (p.bytes.length ≤ p.sent + n)
  { st := f.st.modLane l (fun x =>
      { x with omciRest := if last then none else some { p with sent := p.sent + n } })
    space := f.space - xgemWords false n, stop := f.stop || !last
    items := f.items ++ [{ queue := omciQueue l, packet := p, first := p.sent, len := n, last := last
                           tier := 4, seq := none, key := 0, staged := false }] }

/-- The remainder of an OMCI message that is partly sent. -/
def Fill.omciRest (l : Nat) (f : Fill) : Fill :=
  match (f.st.lane l).omciRest with
  | none => f
  | some p =>
    let n := fitBytes false (p.bytes.length - p.sent) f.space
    if n = 0 then { f with stop := true } else f.bindOmci l n p

/-- Whole OMCI messages of the lane's CP queue, the last one perhaps a fragment. -/
def Fill.omciQueue (l : Nat) : List Packet → Fill → Fill
  | [], f => f
  | p :: t, f =>
    let n := fitBytes false p.bytes.length f.space
    if f.stop || n = 0 then { f with stop := true }
    else
      let r := Fill.number p { f with st := f.st.popHead (Sys2Proof.Machine.omciQueue l) }
      Fill.omciQueue l t (r.2.bindOmci l n r.1)

/-- Fill a grant of the default Alloc-ID from the lane's CP queue (R158). -/
def Fill.omci (l : Nat) (f : Fill) : Fill :=
  if f.st.pool.recount then f
  else
    let g := f.omciRest l
    Fill.omciQueue l (g.st.queue (Sys2Proof.Machine.omciQueue l)).pkts g

/-- Bytes of a packet of `total` bytes that are neither launched nor among the items. -/
def Packet.unsent (total : Nat) (items : List BurstItem) (p : Packet) : Nat :=
  total - (p.out.map (·.2)).sum
    - ((items.filter (fun i => p.no != 0 && i.packet.no == p.no)).map (·.len)).sum

/-- Words that a report counts for some bytes of a packet. -/
def reportWords (grp : Bool) (n : Nat) : Nat := if n = 0 then 0 else xgemWords grp n

/-- DBRu (R219, R251): the words of the queued bytes of the index's queues and, for the default Alloc-ID, of its CP
queue (R158); staged and bound packets stand in it, the bytes bound to this caravan's `items` do not. -/
def State.dbruOf (s : State) (idx : Option Nat) (own : Bool) (l : Nat) (items : List BurstItem) : Nat :=
  let held := s.line.heldUp
  let part := fun (q : Nat) => (s.queue q).pkts ++ (held.filter (fun x => x.1 == q)).map (·.2)
  let up := match idx with
    | none => 0
    | some a =>
      let grp := (s.groupAt a).isSome
      ((upQueues a).map (fun q => ((part q).map (fun p => reportWords grp (p.unsent p.total items))).sum)).sum
  let cp := if own then ((part (omciQueue l)).map (fun p =>
      reportWords false (p.unsent p.bytes.length items))).sum else 0
  min 0xFFFFFE (up + cp)

/-! ### Cancelling (R176, R177, R196, R214, R216) -/

/-- Undo one OMCI item. -/
def State.unbindOmci (l : Nat) (i : BurstItem) (s : State) : State :=
  if i.first = 0 then
    (s.modLane l (fun x => { x with omciRest := x.omciRest.filter (fun p => p.no != i.packet.no) })).pushHead
      i.queue { i.packet with sent := 0, no := 0 }
  else s.modLane l (fun x => { x with omciRest := some { i.packet with sent := i.first } })

/-- Undo one item of an index: its tokens return; a packet whose first byte is among them goes back to the head of
its queue, another becomes the remainder again. -/
def State.unbindUp (a : Nat) (i : BurstItem) (s : State) : State :=
  let s1 := s.refundUp i.queue i.tier (s.upDebit i.queue i.packet i.first i.len)
  if i.first = 0 then
    (s1.modAlloc a (fun x => { x with rest := x.rest.filter (fun r => r.packet.no != i.packet.no) })).pushHead
      i.queue { i.packet with sent := 0, no := 0 }
  else
    let r : Rest :=
      { queue := i.queue, packet := { i.packet with sent := i.first }, tier := i.tier, key := i.key }
    s1.modAlloc a (fun x => { x with rest := some r })

/-- Undo one item of a caravan. -/
def State.unbind (c : Caravan) (i : BurstItem) (s : State) : State :=
  match c.index with
  | none => s.unbindOmci c.lane i
  | some a => if i.queue = omciQueue c.lane then s.unbindOmci c.lane i else s.unbindUp a i

/-- Whether a caravan's words add up (R224). -/
def Caravan.adds (c : Caravan) : Bool := c.data + c.idle + c.ovh == c.grant

/-- Undo a caravan, the last item first. It is not served, so it forms no part of GRANT_WORDS (R225). -/
def State.unwind (c : Caravan) (s : State) : State :=
  let s1 := { s with line := { s.line with pending := s.line.pending.filter (fun x => x ≠ c) } }
  let s2 := if c.adds then s1
    else { s1 with pool := { s1.pool with grantBad := Tab.modify 0 s1.pool.grantBad c.lane (· - 1) } }
  let t := c.items.foldr (fun i t => t.unbind c i) s2
  match c.index with
  | none => t
  | some a =>
    let back := fun (l : List BurstItem) => (l.map (·.len)).sum
    let t1 := ((t.raWindow a).modAlloc a (fun x =>
      { x with winRewound := x.winRewound + back (c.items.filter (·.staged)) })).count (cvCnt a 6) (back c.items)
    (upQueues a).foldl (fun t q => t.flushWaiting q) t1

/-- Whether two caravans hold bytes of one packet. -/
def Caravan.shares (c d : Caravan) : Bool :=
  c.items.any (fun i => i.packet.no != 0 && d.items.any (fun j => j.packet.no == i.packet.no))

/-- Cancel caravans: staged packets of their indices go back first, so that what was bound before them stands before
them again (R214, R215); then the caravans, the last committed first. A later caravan that holds a further fragment
of a packet of one of them cannot be sent either (DEDUCED, log 21). -/
def State.cancel (which : Caravan → Bool) (s : State) : State :=
  let gone := s.line.pending.filter (fun c => which c
    || s.line.pending.any (fun d => which d && decide (d.launch ≤ c.launch) && d.shares c))
  let s1 := (gone.filterMap (·.index)).foldl (fun t a => t.rewindRaw a (fun _ => true)) s
  gone.foldr (fun c t => t.unwind c) s1

/-- Cancel every caravan of a lane that is not yet launched. -/
def State.cancelLane (l : Nat) (s : State) : State := s.cancel (fun c => c.lane == l)

/-- Free the remainder of a partly sent packet, a queue drop (R216). -/
def State.dropRest (a : Nat) (s : State) : State :=
  match (s.alloc a).rest with
  | none => s
  | some r =>
    ((s.modAlloc a (fun x => { x with rest := none })).freePacket r.queue r.packet).queueDrop r.queue 1

/-- Entry of a lane to O1 or O7, or removal of an Alloc-ID (R215, R216, R229): the index's staged
cells are rewound, its remainder is freed and its history cleared. For a group the other members go
on with both (R242, R272). -/
def State.leaveIndex (a l : Nat) (s : State) : State :=
  let s0 := s.modAlloc a (fun x => { x with grants := Tab.set [] x.grants l [] })
  let others := (List.range 4).any (fun k => k != l && (Tab.get none (s.cfg.alloc a).maps k).any (fun id =>
    (s.lane k).allocs.contains id && decide ((s.lane k).act = .o5)))
  if others then s0 else (s0.rewindAll a).dropRest a

/-- A partly sent OMCI message is freed, a queue drop of its CP queue (R216). -/
def State.dropOmci (l : Nat) (s : State) : State :=
  match (s.lane l).omciRest with
  | none => s
  | some p => ((s.modLane l (fun x => { x with omciRest := none })).freePacket (omciQueue l) p).queueDrop (omciQueue l) 1

/-! ### Allocation structures (R186 to R190, R211) -/

/-- Count an allocation that is not served (ALLOC_MISSED). -/
def State.missed (l : Nat) (s : State) : State :=
  (s.inc (lnCnt l 19)).modLane l (fun x => { x with lastEnd := none })

/-- The profile of an index in force for a BWmap (R143). -/
def State.profileOf (s : State) (l i frame : Nat) : Option BurstProfile :=
  (s.lane l).profiles.find? (fun p => p.index == i && p.since != some frame)

/-- EqD in force for the BWmap of a frame (R141). -/
def LaneState.eqdAt (x : LaneState) (frame : Nat) : Eqd :=
  if x.eqdFrom = some frame then x.eqdOld else x.eqd

/-- The launch tick of R192 in ticks from Tide zero, modulo the range of Tide. -/
def launchTick (r25 : Bool) (frame : Nat) (e : Eqd) (start psbu extra : Nat) (err : Int) : Nat :=
  ((((spanTicks frame (217728 + e.ticks + start * startTicks r25 + extra) : Nat) : Int)
    - (psbu * byteTicks r25 : Nat) + err) % (tideMod : Int)).toNat

/-- Completion codes of Acknowledgement (PRESUMED, log 23: ITU-T G.9807.1). -/
def ackOk : Nat := 0
def ackNoMessage : Nat := 1
def ackBusy : Nat := 2
def ackUnknown : Nat := 3
def ackParam : Nat := 4

/-- Serial number of a lane (R137, R237, R238): the last 4 bits of ID_SN_NUM read 0. -/
def State.serialOf (s : State) (l : Nat) : BitVec 64 :=
  let n := s.start.serialNum.toNat / 16 * 16 + (if s.cfg.line.bonded then l else 0)
  BitVec.ofNat 64 (0x564E5841 * 2 ^ 32 + n)

/-- What a grant carries: whether the structure is for this device, its PLOAMu content, whether that
comes from the queue, and the random delay of a serial-number answer (R130, R149, R150). -/
structure Grant where
  mine   : Bool
  ploam  : Option PloamUp
  queued : Bool
  delay  : Nat
  deriving DecidableEq, Repr

/-- The head of the lane's upstream PLOAM queue behind the messages that committed caravans carry already. -/
def State.ploamHead (s : State) (l : Nat) : Option PloamUp :=
  ((s.lane l).upq.drop (s.line.pending.filter (fun c => c.lane == l && c.queued)).length).head?

/-- A grant as the lane's state answers it (Table LN-3). -/
def State.grantOf (s : State) (l : Nat) (a : AllocStruct) : Grant :=
  let x := s.lane l
  let mine := x.allocs.contains a.allocId || x.onuId == some a.allocId
  let q : PloamUp × Bool := match s.ploamHead l with
    | none => (.acknowledge 0 ackNoMessage, false)
    | some m => (m, true)
  match x.act with
  | .o23 =>
    if a.snGrant then
      let d := Config.snDelay s.fresh
      { mine := true, ploam := some (.serialNumber (s.serialOf l) d), queued := false, delay := d }
    else { mine := false, ploam := none, queued := false, delay := 0 }
  | .o4 =>
    { mine := x.onuId == some a.allocId, queued := false, delay := 0
      ploam := some (.registration (s.cfg.lane l).regId) }
  | .o5 =>
    { mine := mine, ploam := if a.ploamu then some q.1 else none, queued := a.ploamu && q.2, delay := 0 }
  | _ => { mine := false, ploam := none, queued := false, delay := 0 }

/-- Bytes of preamble and delimiter. -/
def BurstProfile.psbu (p : BurstProfile) : Nat := p.preamble + p.delimiter

/-- Words of an allocation's overhead: DBRu and PLOAMu, none in a grant of size 0 (R224). -/
def ovhWords (r25 : Bool) (g : Nat) (dbru ploam : Bool) : Nat :=
  if g = 0 then 0
  else (if dbru then dbruWords r25 else 0) + (if ploam then ploamuWords else 0)

/-- Where an accepted structure's burst stands on the line: launch tick, bits of delay, first and last bit in
eighths of a tick, whether it continues the burst before, whether its profile has FEC. -/
structure Place where
  launch : Nat
  trim   : Nat
  start  : Nat
  stop   : Nat
  cont   : Bool
  fec    : Bool
  deriving DecidableEq, Repr

/-- What an allocation carries: the default Alloc-ID's CP queue first, then its index (R158, R198; the order of the
two is the model's: DESIGN CHOICE, log 22). -/
def State.fillGrant (l : Nat) (idx : Option Nat) (own : Bool) (space : Nat) (s : State) : Fill :=
  let f0 : Fill := { st := s, space := space, items := [], stop := false }
  let f1 := if own then f0.omci l else f0
  match idx with
  | none => f1
  | some i => if s.carries l i then f1.index i l else f1

/-- The caravan of an accepted structure: filled and committed (R190, R198 to R202, R211, R224). -/
def State.commitGrant (l : Nat) (a : AllocStruct) (g : Grant) (p : Place) (s : State) : State :=
  let r25 := s.is25
  let w := grantWords r25 a.grantSize
  let ovh := ovhWords r25 w a.dbru g.ploam.isSome
  let o5 := decide ((s.lane l).act = .o5)
  let idx := if o5 then s.indexOf l a.allocId else none
  let own := o5 && (s.lane l).onuId == some a.allocId
  let f := s.fillGrant l idx own (w - ovh)
  let c : Caravan :=
    { lane := l, alloc := a.allocId, index := idx, launch := p.launch, trim := p.trim, start := p.start
      stop := p.stop, grant := w, data := w - ovh - f.space, idle := f.space, ovh := ovh
      dbru := if a.dbru then some (f.st.dbruOf idx own l f.items) else none
      ploam := g.ploam, queued := g.queued, items := f.items, profile := a.profile, fec := p.fec
      cont := p.cont, dg := s.line.dg && o5 }
  let s1 := { f.st with line := { f.st.line with pending := f.st.line.pending ++ [c] } }
  let s2 := s1.modLane l (fun x => { x with lastEnd := some (p.stop, p.trim) })
  let s3 := if c.adds then s2
    else { s2 with pool := { s2.pool with grantBad := Tab.modify 0 s2.pool.grantBad l (· + 1) } }
  match idx with
  | none => if o5 && !own then s3.raiseWin 8000 227 l (s.obj 0xE l) a.allocId else s3
  | some i => (upQueues i).foldl (fun t q => t.flushWaiting q) s3

/-- Whether the engine accepts structures on a lane now: synchronised and transmitting (R228), no decision or step
of Tide is due (R35, R39), Tide is not dead-reckoned (R34), no root clock hold (R166), and with a dying gasp
requested the lane is in O5.1 (R172). -/
def State.accepts (s : State) (l : Nat) : Bool :=
  let x := s.lane l
  x.sync && (decide (x.act = .o23) || decide (x.act = .o4) || decide (x.act = .o5))
  && !s.tide.deciding && s.tide.stepAt.isNone && decide (s.tide.state ≠ .holdover) && !s.clk.rootHold
  && (!s.line.dg || decide (x.act = .o5))

/-- Structures served per lane and frame (R187). -/
def State.perFrame (s : State) : Nat := if s.clk.coreSave then 48 else 64

/-- The ticks that a burst occupies, relative to now: its first and its last (R188). -/
def State.tickSpan (s : State) (x : Nat × Nat) : Int × Int :=
  let a := s.eighthsAhead x.1
  (a / 8, (a + ((x.2 - x.1 : Nat) : Int) - 1) / 8)

/-- Whether two bursts occupy a tick together. -/
def State.overlap (s : State) (x y : Nat × Nat) : Bool :=
  let a := s.tickSpan x
  let b := s.tickSpan y
  decide (a.1 ≤ b.2) && decide (b.1 ≤ a.2)

/-- Place an accepted structure on the line: overlap (R188), then commit. A structure that continues a burst follows
that burst's last word (R189), which is no overlap. -/
def State.placeGrant (l : Nat) (a : AllocStruct) (g : Grant) (launch trim psbu first : Nat)
    (cont fec : Bool) (s : State) : State :=
  let r25 := s.is25
  let w := grantWords r25 a.grantSize
  let words := max w (ovhWords r25 w a.dbru g.ploam.isSome)
  let start := first % (8 * tideMod)
  let stop := start + 8 * (psbu * byteTicks r25 + words * 4 * byteTicks r25)
  let taken := (s.line.pending.filter (fun c => c.lane == l)).map (fun c => (c.start, c.stop)) ++ (s.lane l).spans
  let rivals := if cont then taken.filter (fun x => decide (x.2 % (8 * tideMod) ≠ start)) else taken
  if rivals.any (s.overlap (start, stop)) then (s.missed l).raise 228 (s.obj 0xE l) 0
  else s.commitGrant l a g { launch := launch, trim := trim, start := start, stop := stop, cont := cont, fec := fec }

/-- Note a structure for this device: counted in its frame (R187). -/
def State.noteGrant (l frame : Nat) (s : State) : State :=
  let s1 := s.modLane l (fun x =>
    { x with lastDs := some frame, servedIn := frame
             served := if x.servedIn = frame then x.served + 1 else 1 })
  { s1 with fresh := s1.fresh + 1 }

/-- A structure for the device arrives: the lane is not idle (Table CV-3). -/
def State.laneGranted (l : Nat) (s : State) : State :=
  { s with line := { s.line with laneIdle := Tab.set 0 s.line.laneIdle l s.bnd } }

/-- Serve a structure that the engine accepts: at most so many of a frame (R187), with the transmitter on (R169), a
StartTime in range (R234; what becomes of another is the model's: DESIGN CHOICE, log 95) and a profile (R144); then
its place on the line (R189, R192). A continuation whose allocation before was not served is not served, with no
event (DESIGN CHOICE, log 94). -/
def State.serveGrant (n : Nat) (a : AllocStruct) (g : Grant) (s : State) : State :=
  let r25 := s.is25
  let s0 := s.noteGrant n a.frame
  if s.perFrame ≤ (if (s.lane n).servedIn = a.frame then (s.lane n).served else 0) then
    ((s0.missed n).raise 224 (s.obj 0xE n) 0).lnEvent n 11 0
  else if (s.lane n).txDis || (r25 && decide (48599 < a.startTime) && decide (a.startTime ≠ 0xFFFF)) then
    (s0.missed n).lnEvent n 11 0
  else
    match s.profileOf n a.profile a.frame with
    | none => ((s0.inc (lnCnt n 20)).lnFirst n 10).modLane n (fun x => { x with lastEnd := none })
    | some p =>
      if a.startTime = 0xFFFF then
        match (s.lane n).lastEnd with
        | none => s0.missed n
        | some e => s0.placeGrant n a g ((e.1 - e.2 * bitEighths r25) / 8 % tideMod) e.2 0 e.1 true p.fec
      else
        let eq := (s.lane n).eqdAt a.frame
        let t := launchTick r25 a.frame eq a.startTime p.psbu g.delay s.slewError
        s0.placeGrant n a g t eq.trim p.psbu (8 * t + eq.trim * bitEighths r25) false p.fec

/-- ALLOCATION_STRUCTURE (R186 to R192). -/
def execAllocationStructure (l : Lane) (a : AllocStruct) (s : State) :
    Host.Outcome State Fault Refusal :=
  .next (
    let n := l.val
    let g := s.grantOf n a
    if !(s.lane n).sync then s
    else if a.hec = .uncorrectable then
      ((s.inc (lnCnt n 24)).raiseWin 8000 229 n (s.obj 0xE n) 0).modLane n (fun x =>
        { x with lastEnd := none })
    else if !g.mine then s
    else if !s.accepts n then s.laneGranted n
    else (s.laneGranted n).serveGrant n a g)

/-- A lane's caravan with the next launch tick. -/
def State.nextCaravan (s : State) (l : Nat) : Option Caravan :=
  (s.line.pending.filter (fun c => c.lane == l)).foldl (fun o c =>
    match o with
    | none => some c
    | some d => if s.eighthsAhead c.start < s.eighthsAhead d.start then some c else some d) none

/-- CV_NOT_READY (R196): the lane's next caravan is not burst-ready. -/
def execCvNotReady (l : Lane) (s : State) : Host.Outcome State Fault Refusal :=
  .next (
    match s.nextCaravan l.val with
    | none => s
    | some c =>
      (((s.cancel (fun x => x == c)).missed l.val).raise 224
        ((c.index.map allocObj).getD (s.obj 0xE l.val)) 0).lnEvent l.val 11 0)

/-! ### Launch (R192 to R194, R212, R217, R218, R220 to R222) -/

/-- Change every copy of a bound packet: in the remainders and in later caravans. -/
def Line.mapBound (no : Nat) (f : Packet → Packet) (l : Line) : Line :=
  let g := fun (p : Packet) => if p.no = no then f p else p
  { l with
    allocs := l.allocs.map (fun a =>
      (a.1, { a.2 with rest := a.2.rest.map (fun r => { r with packet := g r.packet }) }))
    lanes := l.lanes.map (fun x => (x.1, { x.2 with omciRest := x.2.omciRest.map g }))
    pending := l.pending.map (fun c => { c with items := c.items.map (fun i => { i with packet := g i.packet }) }) }

/-- The check at the exit point, for the last fragment (R220 to R222, R292): whether the FCS is
inverted, and what is counted. -/
def State.exitCheck (a : Nat) (p : Packet) (q : Nat) (s : State) : State × Bool :=
  if !p.checkOk then
    (((s.inc (cvCnt a 8)).raiseWin 8000 225 a (allocObj a) 0).raiseWin 8000 258 0 (objId 0 2 q) 0, true)
  else if p.bad || p.trunc then (s.inc (cvCnt a 9), true)
  else (s, false)

/-- The bonding tag of a member's fragment (Table BL-2). -/
def bondTag (g : Option Nat) (i : BurstItem) : List Byte :=
  match g, i.seq with
  | some g, some seq => beBytes 4 (b2n i.last * 2 ^ 31 + b2n (i.first = 0) * 2 ^ 30 + g * 2 ^ 24 + seq)
  | _, _ => []

/-- The key of an item on its way out: a packet latches the bank of the upstream key index at its first byte (R154,
R212, R567, R586); its other fragments keep that key (R589). -/
def State.itemKey (l : Nat) (i : BurstItem) (s : State) : State × Option (Nat × BitVec 128) :=
  if i.key = 0 then (s, none)
  else if i.first = 0 then
    let b := (s.lane l).keyUp
    let s1 := s.latchBank l b
    (s1, (s1.bank l b).key.map (fun k => (b + 1, k)))
  else (s, i.packet.key)

/-- The XGEM frame of an item (R212, R220, R246, R252): tag, the packet's bytes from its offset, at the end of the
last fragment the FCS, all encrypted under its key. -/
def State.xgemOf (s : State) (c : Caravan) (i : BurstItem) (inverted : Bool) (n : Nat)
    (key : Option (Nat × BitVec 128)) : UpXgem :=
  let omci := i.queue == omciQueue c.lane
  let whole := if omci then i.packet.bytes else i.packet.bytes ++ fcsBytes inverted i.packet.bytes
  let g := (c.index.bind s.groupAt).map (·.1)
  let data := (if omci then [] else bondTag g i) ++ (whole.drop i.first).take i.len
  { port := if omci then (s.lane c.lane).onuId else (s.cfg.portOfQueue i.queue).map (·.1)
    keyIndex := (key.map (·.1)).getD 0
    lf := i.last || (g.isSome && !omci)
    payload := match key with
      | none => data
      | some k => ctrBytes k.2 n data }

/-- What a read of a bound packet's cells finds (R285, R286): an error of two bits sets BAD. -/
def State.eccBound (i : BurstItem) (e : Ecc) (s : State) : State :=
  let s1 := s.eccRead e (s.obj 2 i.queue)
  if e = .uncorrectable then
    { s1 with line := s1.line.mapBound i.packet.no (fun p => { p with bad := true }) } else s1

/-- One item of a burst leaves: its key is latched, its cells whose bytes are all sent are freed (R217). -/
def State.sendItem (c : Caravan) (n : Nat) (i0 : BurstItem) (e : Ecc) (s : State) : State × UpXgem :=
  let l := c.lane
  let omci := i0.queue == omciQueue l
  let i := if e = .uncorrectable then { i0 with packet := { i0.packet with bad := true } } else i0
  let k := (s.eccBound i e).itemKey l i
  let a := c.index.getD 0
  let s1 := if omci || (i.first = 0 && i.last) then k.1 else k.1.inc (cvCnt a 7)
  let r := if i.last && !omci then s1.exitCheck a i.packet i.queue else (s1, false)
  let x := s.xgemOf c i r.2 (c.launch * 2 ^ 8 + n) k.2
  let after : Packet := { i.packet with out := (i.first, i.len) :: i.packet.out, key := k.2 }
  let s2 := { r.1 with line := r.1.line.mapBound i.packet.no (fun p => { p with out := after.out, key := after.key }) }
  let s3 := ((s2.freeQueued (i.packet.cells - after.cells)).threshold i.queue).poolLow
  let s4 := if i.last then s3.clipDeficit i.queue else s3
  let s5 := if x.keyIndex = 0 then s4 else s4.dispatch x.payload.length
  (if omci && i.last then (s5.emit (.omci l i.packet.bytes)).inc (lnCnt l 15) else s5, x)

/-- Send every item of a burst; `n` numbers them, `ecc` gives what the read of each finds. -/
def State.sendItems (c : Caravan) (ecc : List Ecc) : Nat → List BurstItem → State → State × List UpXgem
  | _, [], s => (s, [])
  | n, i :: t, s =>
    let r := s.sendItem c n i (ecc.getD n .none)
    let r2 := State.sendItems c ecc (n + 1) t r.1
    (r2.1, r.2 :: r2.2)

/-- The grant of a launched burst is served (R203, R227): the prediction history and the counters of its index. -/
def State.grantServed (c : Caravan) (s : State) : State :=
  match c.index with
  | none => s
  | some i =>
    let s1 := s.modAlloc i (fun x =>
      { x with grants := Tab.set [] x.grants c.lane ((c.grant :: Tab.get [] x.grants c.lane).take 8) })
    ((((s1.inc (cvCnt i 0)).count (cvCnt i 1) c.grant).count (cvCnt i 2) c.data).count (cvCnt i 3)
      c.idle).count (cvCnt i 4) c.ovh

/-- The burst as it leaves. -/
def Caravan.sent (c : Caravan) (frames : List UpXgem) : BurstOut :=
  { lane := c.lane, launch := c.launch, trim := c.trim, profile := c.profile, fec := c.fec, cont := c.cont
    dg := c.dg, dbru := c.dbru, ploam := c.ploam, frames := frames, idle := c.idle }

/-- The first and the last bit of the burst on the line when this caravan is part of it (R160, R189). -/
def LaneState.burstWith (x : LaneState) (c : Caravan) : Nat × Nat :=
  match x.burst with
  | some b => if c.cont then (b.1, c.stop) else (c.start, c.stop)
  | none => (c.start, c.stop)

/-- BEN follows the burst (R160, R194). -/
def State.benSent (c : Caravan) (s : State) : State :=
  let k := s.cfg.lane c.lane
  let b := (s.lane c.lane).burstWith c
  (s.modLane c.lane (fun x => { x with burst := some b })).emit
    (.ben c.lane ((b.1 + 8 * tideMod - 8 * k.benLead) % (8 * tideMod)) ((b.2 + 8 * k.benLag) % (8 * tideMod)))

/-- What a launched burst does beside its items: BEN, US_BURSTS, the PLOAM message, which leaves its queue, and the
dying-gasp indication (R174). -/
def State.burstSent (c : Caravan) (frames : List UpXgem) (s : State) : State :=
  let s1 := (((s.emit (.burst (c.sent frames))).benSent c).grantServed c)
  let s2 := if c.cont then s1 else s1.inc (lnCnt c.lane 18)
  let s3 := match c.ploam with
    | some m =>
      let t := (s2.emit (.ploam c.lane m)).inc (lnCnt c.lane 11)
      if c.queued then t.modLane c.lane (fun x => { x with upq := x.upq.erase m }) else t
    | none => s2
  if c.dg && !(s.lane c.lane).dgSent then
    (s3.modLane c.lane (fun x => { x with dgSent := true })).lnEvent c.lane 12 0
  else s3

/-- BURST_LAUNCH (R192, R217, R218): the lane's next caravan leaves; one that the transmitter cannot
send, or that would leave while Tide is in HOLDOVER (R34), is rewound and counted (R169). `r.ecc` tells what the read
of each item's cells finds (R285). -/
def execBurstLaunch (r : CellRead Lane (List Ecc)) (s : State) : Host.Outcome State Fault Refusal :=
  .next (
    let l := r.on
    match s.nextCaravan l.val with
    | none => s
    | some c =>
      let s0 := s.until c.launch
      if (s.lane l.val).txDis || s.tide.state = .holdover || bit s.clk.laneHold l.val then
        ((s0.cancel (fun x => x == c)).missed l.val).lnEvent l.val 11 0
      else
        let s1 := { s0 with line := { s0.line with pending := s0.line.pending.filter (fun x => x ≠ c) } }
        let s2 := s1.modLane l.val (fun x =>
          { x with spans := (c.start, c.stop) :: x.spans.filter (fun y =>
            decide (0 < s0.eighthsAhead (y.2 % (8 * tideMod)))) })
        let r := State.sendItems c r.ecc 0 c.items s2
        r.1.burstSent c r.2)

end Sys2Proof.Machine
end

