-- ==== Sys2Proof/Machine/Bonded.lean ====
section
/-!
DEFINITION. Bonded line mode: groups, lane loss and return, the control channel and downstream
resequencing; and the entry of downstream packets into the pool.
-/

namespace Sys2Proof.Machine

/-! ### Groups and their lanes -/

def State.groupCfg (s : State) (g : Nat) : GroupCfg := Tab.get {} s.cfg.line.groups g

/-- The configured groups that a lane is a member of, in bonded mode. -/
def State.groupsOf (s : State) (l : Nat) : List Nat :=
  if s.cfg.line.bonded then (s.cfg.line.groups.filter (fun x => bit x.2.members l)).map (·.1) else []

/-- Counter `i` of a group (Table BL-7). -/
def blCnt (g i : Nat) : Nat := 0x1800 + 8 * g + i

/-- The bits of a mask as a count. -/
def maskCount (m : Nat) : Nat := ((List.range 4).filter (fun l => bit m l)).length

/-- The lane that control messages leave on: the lowest-numbered member in O5.1 (R266). -/
def State.ctrlLane (s : State) (g : Nat) : Option Nat :=
  (List.range 4).find? (fun l => bit (s.groupCfg g).members l && decide ((s.lane l).act = .o5))

/-- TYPE and body of a control message (Table BL-4), most significant byte first (R11). -/
def ctrlBodyBytes : CtrlBody → Nat × List Byte
  | .groupState cfgMask opMask window nextSeq =>
    (1, beBytes 1 cfgMask ++ beBytes 1 opMask ++ beBytes 2 window ++ beBytes 4 nextSeq)
  | .laneDown lane reason => (2, beBytes 1 lane ++ beBytes 1 reason)
  | .laneUp lane => (3, beBytes 1 lane)
  | .resync seq => (4, beBytes 4 seq)
  | .ack => (5, [])

/-- A control message on the line (Table BL-3). -/
def ctrlBytes (m : CtrlMsg) : List Byte :=
  let b := ctrlBodyBytes m.body
  beBytes 1 b.1 ++ beBytes 1 m.grp.val ++ beBytes 2 b.2.length ++ beBytes 4 m.msgSeq ++ b.2

/-- The XGEM frame of a control message: no tag, the control port's own encryption setting. -/
def State.ctrlFrame (s : State) (l : Nat) (m : CtrlMsg) : UpXgem :=
  let port := s.cfg.line.ctrlPort l
  let b := (s.lane l).keyUp
  let key := if (s.cfg.xgem port).encrypted then (s.bank l b).key else none
  { port := some port, keyIndex := if key.isSome then b + 1 else 0, lf := true
    payload := match key with
      | none => ctrlBytes m
      | some k => ctrBytes k (s.fresh * 2 ^ 8) (ctrlBytes m) }

/-- Send one control message as it is. -/
def State.putCtrl (m : CtrlMsg) (s : State) : State :=
  match s.ctrlLane m.grp.val with
  | none => s
  | some l =>
    let x := s.ctrlFrame l m
    (if x.keyIndex = 0 then s else s.dispatch x.payload.length).emit (.ctrl l m x)

/-- Send a control message that is resent until its ACK arrives (R267). -/
def State.sendCtrl (g : Nat) (b : CtrlBody) (s : State) : State :=
  let n := (s.group g).msgSeq
  let m : CtrlMsg := { grp := Fin.ofNat 64 g, msgSeq := n, body := b }
  (s.modGroup g (fun x =>
    { x with msgSeq := (n + 1) % 2 ^ 32, waits := x.waits ++ [{ msg := m, resends := 0 }] })).putCtrl m

/-- Send GROUP_STATE (R269). -/
def State.sendGroupState (g : Nat) (s : State) : State :=
  s.sendCtrl g (.groupState (s.groupCfg g).members (s.group g).lanes (s.groupCfg g).window
    (s.group g).txSeq)

/-- Reasons of LANE_DOWN (Table BL-4). -/
def downLos : Nat := 1
def downSkew : Nat := 2
def downThermal : Nat := 3
def downConfig : Nat := 4
def downAdmission : Nat := 5

/-- Whether some member lane of a group is in O5.1 (R275). -/
def State.groupHasLane (s : State) (g : Nat) : Bool :=
  (List.range 4).any (fun k => bit (s.groupCfg g).members k && decide ((s.lane k).act = .o5))

/-- A lane leaves one group (R271): the group is degraded where it does not go down. -/
def State.leaveGroup (l reason g : Nat) (s : State) : State :=
  if !bit (s.group g).lanes l then s
  else
    let s1 := (s.modGroup g (fun x => { x with lanes := putBit x.lanes l false })).inc (blCnt g 7)
    let s2 := s1.sendCtrl g (.laneDown l reason)
    (if s2.groupHasLane g then s2.raise 241 (s.obj 0xE l) 0 else s2).sendGroupState g

/-- A group that has no member lane in O5.1 any more is down; its partly sent remainder is freed, its cells stay
(R275). -/
def State.groupDown (l g : Nat) (s : State) : State :=
  if !(s.group g).up || s.groupHasLane g then s
  else ((s.modGroup g (fun x => { x with up := false })).raise 242 (s.obj 0xE l) 0).dropRest (s.groupCfg g).index

/-- A member lane leaves its groups (R271 to R273, R277). -/
def State.laneLeave (l reason : Nat) (s : State) : State :=
  let gs := (s.groupsOf l).filter (fun g => bit (s.group g).lanes l)
  let s0 := (s.groupsOf l).foldl (fun t g => t.groupDown l g)
    (s.modJoinLane l (fun x => { x with upAcked := false, upSent := false, inGroup := false }))
  if gs.isEmpty then s0
  else
    let j := s.joinLane l
    let again := decide (s.bnd < j.rejoinAt + 80000)
    let s1 := (s0.cancelLane l).modJoinLane l (fun x =>
      { x with hold := if again then min 480000 (x.hold * 2) else x.hold })
    ((gs.foldl (fun t g => t.leaveGroup l reason g) s1).raise 243 (s.obj 0xE l) reason).recheck

/-- A lane that enters O5.1 announces itself to its groups (R276). -/
def State.announceLane (l : Nat) (s : State) : State :=
  let gs := s.groupsOf l
  if gs.isEmpty then s
  else
    (gs.foldl (fun t g => t.sendCtrl g (.laneUp l)) s).modJoinLane l (fun x =>
      { x with upSent := true, upAcked := false, o5Since := s.bnd })

/-- The skew in ticks that a lane may not exceed (R264). -/
def skewLimit : Nat := 248832

/-- BL_SKEW: the lane's skew has exceeded the limit in 8 consecutive frames (R264), or its superframe count differs
from the anchor lane's (R265). -/
def execBlSkew (l : Lane) (count anchorCount : Nat) (s : State) : Host.Outcome State Fault Refusal :=
  .next (
    let skewed := decide (8 ≤ (s.lane l.val).skewRun)
    if !(s.joinLane l.val).inGroup || !(skewed || count != anchorCount) then s
    else
      let s1 := s.laneLeave l.val downSkew
      if skewed then s1.raise 247 (s.obj 0xE l.val) 0 else s1)

/-- A group comes up with its first member (R248, R253, R269, R270). -/
def State.groupUp (g l : Nat) (s : State) : State :=
  ((s.modGroup g (fun x =>
    { x with up := true, txSeq := 0, exp := none, frags := [], timer := none, drop := false
             building := none })).raise 240 (s.obj 0xE l) 0).sendCtrl g (.resync 0)

/-- A lane joins one of its groups (R276). -/
def State.joinGroup (l g : Nat) (s : State) : State :=
  let first := (s.group g).lanes == 0
  let s1 := s.modGroup g (fun x => { x with lanes := putBit x.lanes l true })
  let s2 := if first then s1.groupUp g l else s1
  let s3 := if first && decide (1 < maskCount (s.groupCfg g).members) then
      s2.raise 241 (s.obj 0xE l) 0 else s2
  s3.sendGroupState g

/-- BL_LANE_JOIN (R276): the hold time has passed in O5.1 and LANE_UP is acknowledged. -/
def execBlLaneJoin (l : Lane) (s : State) : Host.Outcome State Fault Refusal :=
  .next (
    let n := l.val
    let gs := s.groupsOf n
    if gs.isEmpty || (s.lane n).act ≠ .o5 || !(s.joinLane n).upAcked || (s.joinLane n).inGroup then s
    else
      let s1 := s.modJoinLane n (fun x => { x with inGroup := true, rejoinAt := s.bnd })
      ((gs.foldl (fun t g => t.joinGroup n g) s1).raise 244 (s.obj 0xE n) 0).recheck)

/-- BONDING_HOLD_RESET (R277). -/
def execBondingHoldReset (l : Lane) (s : State) : Host.Outcome State Fault Refusal :=
  .next (
    if (s.joinLane l.val).inGroup then s.modJoinLane l.val (fun x => { x with hold := 8000 }) else s)

/-! ### The control channel (R266 to R270) -/

/-- Both directions restart at a SEQ (R270). -/
def State.resync (g seq : Nat) (s : State) : State :=
  (s.modGroup g (fun x =>
    { x with txSeq := seq % 2 ^ 24, exp := some (seq % 2 ^ 24), frags := [], timer := none, drop := false
             building := none })).raise 251 0 g

/-- Free the cells of a group's held fragments. -/
def State.freeFrags (g : Nat) (s : State) : State :=
  (s.freeQueued ((s.group g).frags.map (fun f => cellsOf f.bytes.length)).sum).poolLow

/-- A GROUP_STATE of the far end (R269, R270). A next SEQ more than 2^23 ahead, modulo 2^24, is the
one that lies away (DEDUCED, log 24). -/
def State.farState (g cfgMask window nextSeq : Nat) (s : State) : State :=
  let c := s.groupCfg g
  let s1 := s.modGroup g (fun x => { x with shared := c.members &&& cfgMask })
  let s2 := if cfgMask = c.members ∧ window = c.window then s1 else s1.raise 248 0 g
  match (s.group g).exp with
  | none => s2
  | some e => if 2 ^ 23 < (nextSeq + 2 ^ 24 - e) % 2 ^ 24 then s2.sendCtrl g (.resync 0) else s2

/-- Act once on a control message. LANE_DOWN and LANE_UP of the far end change nothing but their
acknowledgement: the rules of R271 and R276 decide membership. -/
def State.actCtrl (g : Nat) (b : CtrlBody) (s : State) : State :=
  match b with
  | .groupState cfgMask _ window nextSeq => s.farState g cfgMask window nextSeq
  | .resync seq => (s.freeFrags g).resync g seq
  | .laneDown _ _ => s
  | .laneUp _ => s
  | .ack => s

/-- What the acknowledgement of an own message does. -/
def State.ctrlAcked (g : Nat) (b : CtrlBody) (s : State) : State :=
  match b with
  | .resync seq => (s.freeFrags g).resync g seq
  | .laneUp l => s.modJoinLane l (fun x => { x with upAcked := x.upSent })
  | .groupState _ _ _ _ => s
  | .laneDown _ _ => s
  | .ack => s

/-- BONDING_CONTROL_MESSAGE (R266, R268). -/
def execBondingControlMessage (l : Lane) (msg : CtrlMsg) (s : State) :
    Host.Outcome State Fault Refusal :=
  .next (
    let g := msg.grp.val
    if !(s.groupsOf l.val).contains g then s
    else if msg.body = .ack then
      match (s.group g).waits.find? (fun w => w.msg.msgSeq == msg.msgSeq) with
      | none => s
      | some w =>
        (s.modGroup g (fun x => { x with waits := x.waits.filter (fun y => y.msg.msgSeq != msg.msgSeq)
          })).ctrlAcked g w.msg.body
    else
      let s1 := s.putCtrl { grp := msg.grp, msgSeq := msg.msgSeq, body := .ack }
      if (s.group g).acted.contains msg.msgSeq then s1
      else (s1.modGroup g (fun x => { x with acted := msg.msgSeq :: x.acted })).actCtrl g msg.body)

/-- BONDING_CONTROL_RESEND (R267). -/
def execBondingControlResend (g : Fin 64) (msgSeq : Nat) (s : State) :
    Host.Outcome State Fault Refusal :=
  .next (
    match (s.group g.val).waits.find? (fun w => w.msg.msgSeq == msgSeq) with
    | none => s
    | some w =>
      let s1 := (s.modGroup g.val (fun x => { x with
        waits := x.waits.map (fun y => if y.msg.msgSeq = msgSeq then
          { y with resends := y.resends + 1 } else y) })).putCtrl w.msg
      if w.resends + 1 = 8 then s1.raise 249 0 g.val else s1)

/-- GROUP_STATE (R269): every 8,000 frames. -/
def execGroupState (g : Fin 64) (s : State) : Host.Outcome State Fault Refusal :=
  .next (if s.cfg.line.bonded && (s.group g.val).lanes != 0 then s.sendGroupState g.val else s)

/-! ### Entry of downstream packets (Table LN-2 step 9, R260, R373, R376, R377) -/

/-- The queue at the destination node that an XGEM mapping names. -/
def XgemCfg.dest (x : XgemCfg) : Nat :=
  match x.destKind with
  | 0 => 8 * x.destIndex + x.cls
  | 1 => 1200 + x.destIndex
  | _ => 1536 + x.destIndex

/-- A whole downstream frame of XGEM port `id`: metered, its tags edited, its FCS taken off, entered
in the pool toward its destination. -/
def State.enterDown (id : Nat) (frame : List Byte) (s : State) : State :=
  let x := s.cfg.xgem id
  let m := s.police x.policer frame.length .green
  let b := frame.take (frame.length - 4)
  if !x.valid then s else
  match m.2.1 with
  | .red => m.1.raiseWin 8000 293 0 (s.obj 3 x.policer) 0
  | col =>
    if (col = .yellow && !m.2.2.yellowPass) || b.isEmpty then m.1
    else
      let b1 := if col = .yellow && m.2.2.yellowDei then setDei b else b
      let p := mkPacket (tagEdit x.tagOp x.tagVid x.tagPcp b1) false (s.cfg.ownerOf (objId 0 0xA id))
      if x.destNode = 0 then (m.1.offer x.dest p).1
      else (m.1.offer (s.ringQueue x.destNode x.ringClass) { p with dest := x.dest }).1

/-! ### Downstream resequencing (R246 to R262) -/

/-- The two counts of a broken tag (R246, R247, R259). -/
def State.tagErr (g : Nat) (s : State) : State :=
  (s.inc (blCnt g 5)).raiseWin 8000 250 0 0 g

/-- A released fragment joins the packet in assembly (R258, R259). -/
def State.assemble (g : Nat) (f : HeldFrag) (s : State) : State :=
  let x := s.group g
  if x.drop && !f.first then s
  else
    let s0 := s.modGroup g (fun x => { x with drop := false })
    let s1 := if f.first && x.building.isSome then s0.tagErr g else s0
    let base := if f.first then some [] else x.building.map (·.2)
    match base with
    | none => s1
    | some b =>
      let whole := b ++ f.bytes
      if 16384 < whole.length then (s1.modGroup g (fun x => { x with building := none })).tagErr g
      else if f.last then
        ((s1.modGroup g (fun x => { x with building := none })).inc (blCnt g 2)).enterDown f.port whole
      else s1.modGroup g (fun x => { x with building := some (f.port, whole) })

/-- Release the held fragments that directly follow EXP; `fuel` bounds their number (R254). -/
def State.releaseHeld (g : Nat) : Nat → State → State
  | 0, s => s
  | fuel + 1, s =>
    match (s.group g).exp with
    | none => s
    | some e =>
      match (s.group g).frags.find? (fun f => f.seq == e) with
      | none => s
      | some f =>
        let s1 := (s.modGroup g (fun x =>
          { x with exp := some ((e + 1) % 2 ^ 24), frags := x.frags.filter (fun y => y != f) })).freeQueued
            (cellsOf f.bytes.length)
        State.releaseHeld g fuel ((s1.poolLow).assemble g f)

/-- The timer runs from the oldest fragment held, or not at all (R255, R258). -/
def State.retime (g : Nat) (s : State) : State :=
  s.modGroup g (fun x => { x with timer := (x.frags.map (·.arrival)).min? })

/-- Release from EXP on, and set the timer for what stays. -/
def State.releaseFrom (g : Nat) (s : State) : State :=
  (s.releaseHeld g (s.group g).frags.length).retime g

/-- The distance of a SEQ ahead of EXP (R248). -/
def seqAhead (e seq : Nat) : Nat := (seq + 2 ^ 24 - e) % 2 ^ 24

/-- The fragment nearest EXP among some. -/
def nearestFrag (e : Nat) (l : List HeldFrag) : Option HeldFrag :=
  l.foldl (fun o f =>
    match o with
    | none => some f
    | some h => if seqAhead e f.seq < seqAhead e h.seq then some f else some h) none

/-- The window expires: EXP is declared lost (R258). -/
def State.windowExpire (g : Nat) (s : State) : State :=
  let x := s.group g
  match x.exp with
  | none => s
  | some e =>
    let s0 := ((s.modGroup g (fun x => { x with building := none, timer := none })).inc
      (blCnt g 3)).raiseWin 8000 245 0 0 g
    match nearestFrag e (x.frags.filter (·.first)) with
    | some h =>
      let gone := x.frags.filter (fun f => decide (seqAhead e f.seq < seqAhead e h.seq))
      let s1 := (s0.modGroup g (fun x =>
        { x with exp := some h.seq
                 frags := x.frags.filter (fun f => decide (seqAhead e h.seq ≤ seqAhead e f.seq)) })).freeQueued
          ((gone.map (fun f => cellsOf f.bytes.length)).sum)
      (s1.poolLow).releaseFrom g
    | none =>
      let far := (x.frags.map (fun f => seqAhead e f.seq)).foldl max 0
      (s0.freeFrags g).modGroup g (fun x =>
        { x with exp := some ((e + far + 1) % 2 ^ 24), frags := [], drop := true })

/-- RESEQ_WINDOW_EXPIRY (R258). -/
def execReseqWindowExpiry (g : Fin 64) (s : State) : Host.Outcome State Fault Refusal :=
  .next (if (s.group g.val).timer.isSome then s.windowExpire g.val else s)

/-- Cells that a group's held fragments occupy. -/
def GroupState.heldCells (x : GroupState) : Nat := (x.frags.map (fun f => cellsOf f.bytes.length)).sum

/-- Hold a fragment ahead of EXP, if it fits and the pool gives it cells (R255, R261). -/
def State.holdFrag (g : Nat) (f : HeldFrag) (s : State) : State :=
  let n := cellsOf f.bytes.length
  if (s.groupCfg g).reorderMax < (s.group g).heldCells + n then s
  else if s.mayTake 0 0 n ≠ .ok then s
  else
    ((s.modGroup g (fun x =>
      { x with frags := x.frags ++ [f]
               timer := match x.timer with | none => some f.arrival | some t => some t })).takeQueued
        n).poolLow

/-- A fragment against EXP (R254 to R256); a second copy of a held fragment is a duplicate. -/
def State.placeFrag (g : Nat) (f : HeldFrag) (s : State) : State :=
  match (s.group g).exp with
  | none => s
  | some e =>
    let d := seqAhead e f.seq
    if d = 0 then
      (((s.modGroup g (fun x => { x with exp := some ((e + 1) % 2 ^ 24) })).assemble g f)).releaseFrom g
    else if 2 ^ 23 ≤ d ∨ (s.group g).frags.any (fun h => h.seq == f.seq) then s.inc (blCnt g 4)
    else s.holdFrag g f

/-- A received fragment (R253 to R262). -/
def State.fragment (g : Nat) (f : HeldFrag) (s : State) : State :=
  let s0 := s.inc (blCnt g 1)
  match (s.group g).exp with
  | none =>
    if f.first then (s0.modGroup g (fun x => { x with exp := some f.seq })).placeFrag g f else s0
  | some e =>
    let d := seqAhead e f.seq
    let n := cellsOf f.bytes.length
    if d ≠ 0 ∧ d < 2 ^ 23 ∧ (s.groupCfg g).reorderMax < (s.group g).heldCells + n then
      (((s0.inc (blCnt g 6)).raise 246 0 g).windowExpire g).placeFrag g f
    else s0.placeFrag g f

/-- A frame of a bonded XGEM port (Table BL-2, R246, R247). -/
def State.bondedXgem (id : Nat) (lf : Bool) (payload : List Byte) (s : State) : State :=
  let g := (s.cfg.xgem id).grp
  let w := beNat (payload.take 4)
  if !lf || decide (payload.length < 4) || decide (w / 2 ^ 24 % 64 ≠ g) then s.tagErr g
  else
    s.fragment g
      { seq := w % 2 ^ 24, first := bit w 30, last := bit w 31, bytes := payload.drop 4
        arrival := s.now, port := id }

end Sys2Proof.Machine
end

