-- ==== Sys2Proof/Machine/Line.lean ====
section
/-!
DEFINITION. The fibre line of a lane: downstream frames, LOS and synchronisation, activation, PLOAM
messages, OMCI delivery, SD and SF, the rogue-burst guard.
-/

namespace Sys2Proof.Machine

/-! ### Activation states (R130, R135, R136) -/

/-- A lane changes its activation state (R136): TX_DIS follows, O5.1 is announced to the lane's
groups, a lane that leaves it leaves them. -/
def State.setAct (l : Nat) (a : Act) (s : State) : State :=
  let old := (s.lane l).act
  if old = a then s
  else
    let s1 := ((s.modLane l (fun x => { x with act := a, actFrame := s.tide.frame })).syncTx l).actEvent l 0 0
    if a = .o5 then
      ({ s1 with line := { s1.line with laneIdle := Tab.set 0 s1.line.laneIdle l s1.bnd } }).announceLane l
    else if old = .o5 then s1.laneLeave l downLos
    else s1

/-- The local indices that an Alloc-ID of the lane maps to. -/
def State.laneIndices (s : State) (l : Nat) : List Nat :=
  (s.cfg.allocs.filter (fun x => (Tab.get none x.2.maps l).isSome)).map (·.1)

/-- What R135 forgets: ONU-ID, EqD, Alloc-IDs, keys; with them the messages that wait for the activation that
ends. The remainders of its indices are freed (R216). The memory of R147 is kept. -/
def State.forgetLane (l : Nat) (s : State) : State :=
  let s1 := ((s.cancelLane l).dropOmci l).modLane l (fun x =>
    { x with onuId := none, eqd := {}, eqdOld := {}, eqdFrom := none, allocs := [], upq := []
             keyUp := 0, lastEnd := none })
  let s2 := ((s1.modBank l 0 (fun _ => {})).modBank l 1 (fun _ => {})).underive l
  (s.laneIndices l).foldl (fun t a => t.leaveIndex a l) s2

/-- Entry to O1 from O4, O5 or O6 (R135): O1.1, and at once O1.2 where the lane is synchronised. -/
def State.toO1 (l : Nat) (s : State) : State :=
  let s1 := (s.forgetLane l).setAct l .o11
  if (s.lane l).sync && !(s.lane l).los then s1.setAct l .o12 else s1

/-- Record the O7 state of a lane in the configuration store and the wake record (R134). -/
def State.storeO7 (l : Nat) (on : Bool) (s : State) : State :=
  { s with
    line := { s.line with o7Store := putBit s.line.o7Store l on }
    power := { s.power with wakeRec := { s.power.wakeRec with o7 := putBit s.power.wakeRec.o7 l on, valid := true } } }

/-- Entry to O7 (R134, R175): any burst in progress is cut. -/
def State.toO7 (l : Nat) (s : State) : State :=
  ((((s.storeO7 l true).cutBurst l).forgetLane l).setAct l .o7).actEvent l 4 0

/-- LOS or loss of synchronisation (R177, Table LN-11). -/
def State.lineLost (l : Nat) (s : State) : State :=
  let s1 := s.cancelLane l
  match (s.lane l).act with
  | .o5 => s1.setAct l .o6
  | .o12 => s1.setAct l .o11
  | .o23 => s1.setAct l .o11
  | .o4 => s1.toO1 l
  | _ => s1

/-- Packets in reassembly are lost with synchronisation (R129). -/
def State.dropParts (l : Nat) (s : State) : State :=
  (s.count (lnCnt l 7) ((s.lane l).parts.filter (fun x => x.2.any (fun y => !y.2))).length).modLane l
    (fun x => { x with parts := [] })

/-- Synchronisation is lost (Table LN-7, R129). -/
def State.loseSync (l : Nat) (s : State) : State :=
  if !(s.lane l).sync then s
  else (((s.modLane l (fun x => { x with sync := false })).inc (lnCnt l 23)).lnEvent l 1 0).dropParts l

/-- LN_LOS (R164, R177). A lane without signal has no synchronisation either, so R129 applies (DEDUCED, log 91). -/
def execLnLos (l : Lane) (declared : Bool) (s : State) : Host.Outcome State Fault Refusal :=
  .next (
    let n := l.val
    if (s.lane n).act = .off || (s.lane n).los == declared then s
    else
      let s1 := (s.modLane n (fun x => { x with los := declared })).lnEvent n 0 0
      if declared then ((s1.inc (lnCnt n 22)).loseSync n).lineLost n else s1)

/-- LN_LODS (R129, R177). -/
def execLnLods (l : Lane) (s : State) : Host.Outcome State Fault Refusal :=
  .next (if !(s.lane l.val).sync then s else (s.loseSync l.val).lineLost l.val)

/-! ### Downstream frames (R125 to R129, Table LN-2) -/

/-- The packet in reassembly on a port of a lane. -/
def State.partOf (s : State) (l port : Nat) : Option (List Byte × Bool) :=
  Tab.get none (s.lane l).parts port
def State.setPart (l port : Nat) (p : Option (List Byte × Bool)) (s : State) : State :=
  s.modLane l (fun x => { x with parts := Tab.set none x.parts port p })

/-- A fragment is lost: the packet that it belongs to is incomplete. -/
def State.breakPart (l : Nat) (x : XgemFrame) (s : State) : State :=
  s.setPart l x.portId (if x.lf then none else some ([], true))

/-- Whether XGEM port `id` is mapped on the lane (R128). -/
def State.portMapped (s : State) (l id : Nat) : Bool :=
  let x := s.cfg.xgem id
  x.valid && (if x.bonded && s.cfg.line.bonded then (s.groupsOf l).contains x.grp else x.lane == l)

/-- Ports that other commands carry: the OMCC and the bonding control port of the lane. -/
def State.portElse (s : State) (l id : Nat) : Bool :=
  (s.lane l).onuId == some id || (s.cfg.line.bonded && s.cfg.line.ctrlPort l == id)

/-- Steps 8 and 9: the payload in clear joins its packet, or goes to its group. -/
def State.xgemPayload (l : Nat) (x : XgemFrame) (data : List Byte) (s : State) : State :=
  if (s.cfg.xgem x.portId).bonded && s.cfg.line.bonded then s.bondedXgem x.portId x.lf data
  else
    match s.partOf l x.portId with
    | some (_, true) => if x.lf then s.setPart l x.portId none else s
    | p =>
      let whole := (p.map (·.1)).getD [] ++ data
      if !x.lf then s.setPart l x.portId (some (whole, false))
      else
        let s1 := s.setPart l x.portId none
        if 16388 < whole.length then s1 else s1.enterDown x.portId whole

/-- The bank that a key index selects (R127, R583, R585). -/
def State.keySlotOf (s : State) (l : Nat) (x : XgemFrame) : Nat :=
  let m := s.cfg.xgem x.portId
  if m.multicast then m.keySlot else l

/-- The upstream key index follows the downstream (R154): the first unicast frame under an index moves it there, as
Table CY-8 shows it without a confirming message (PRESUMED, log 19). -/
def State.followKey (l slot : Nat) (x : XgemFrame) (s : State) : State :=
  if slot = l then s.modLane l (fun y => { y with keyUp := x.keyIndex - 1 }) else s

/-- Step 7: key selection and decryption (R127, R588, R590): the payload in clear, or none where the frame is
discarded. `n` numbers the frame for the counter. -/
def State.xgemKey (l n : Nat) (x : XgemFrame) (s : State) : State × Option (List Byte) :=
  if x.keyIndex = 0 then (s, some x.payload)
  else
    let slot := s.keySlotOf l x
    let b := s.bank slot (x.keyIndex - 1)
    if x.keyIndex = 3 || !b.holds then
      let s1 := (s.inc (lnCnt l 8)).breakPart l x
      (if x.keyIndex ≠ 3 && b.erased then s1.raiseWin 8000 549 slot (slotObj slot) 0 else s1, none)
    else
      let s1 := ((s.latchBank slot (x.keyIndex - 1)).followKey l slot x).dispatch x.payload.length
      (s1, (s1.bank slot (x.keyIndex - 1)).key.map (fun k => ctrBytes k n x.payload))

/-- Steps 5 to 9 for one XGEM frame. A frame with a byte in an uncorrectable codeword is counted as such, whatever else
it is (R126); those of the OMCC and of the control port pass the key check too (R127) and are then the matter of their
own commands. -/
def State.xgemFrame (l n : Nat) (x : XgemFrame) (s : State) : State :=
  let s0 := if x.fecOk then s else s.inc (lnCnt l 7)
  if !x.hecOk then s0.inc (lnCnt l 6)
  else if x.idle then s0
  else if !x.fecOk then s0.breakPart l x
  else if !s.portElse l x.portId && !s.portMapped l x.portId then s.inc (lnCnt l 9)
  else
    let r := s.xgemKey l n x
    match r.2 with
    | none => r.1
    | some data => if s.portElse l x.portId then r.1 else r.1.xgemPayload l x data

/-- Every XGEM frame of a downstream frame in order. -/
def State.xgemFrames (l n : Nat) : List XgemFrame → State → State
  | [], s => s
  | x :: t, s => State.xgemFrames l (n + 1) t (s.xgemFrame l n x)

/-- Synchronisation is gained (Table LN-7; R35 where the lane is the anchor). -/
def State.gainSync (l : Nat) (s : State) : State :=
  if (s.lane l).sync then s
  else
    let s1 := (s.modLane l (fun x => { x with sync := true })).lnEvent l 2 0
    if s.isManager && s.tide.anchor == l then s1.lockRegained else s1

/-- A synchronised lane leaves O1.1 and O6. -/
def State.syncAct (l : Nat) (s : State) : State :=
  if (s.lane l).los then s
  else
    match (s.lane l).act with
    | .o11 => s.setAct l .o12
    | .o6 => s.setAct l .o5
    | _ => s

/-- Codewords of a downstream frame (Tables LN-2, BL-1). -/
def codewords (r25 : Bool) : Nat := if r25 then 1568 else 627

/-- Codewords come, with their corrected symbols and those that cannot be corrected (Table LN-9, R180, R181). -/
def State.fecSeen (l codewords corrected uncorrectable : Nat) (s : State) : State :=
  let s1 := s.modLane l (fun x =>
    { x with winCw := x.winCw + codewords, winCorr := x.winCorr + corrected
             winUncorr := x.winUncorr + uncorrectable })
  ((s1.count (lnCnt l 1) codewords).count (lnCnt l 2) corrected).count (lnCnt l 3) uncorrectable

/-- DOWNSTREAM_FRAME (R125 to R129, Table LN-2). -/
def execDownstreamFrame (f : DsFrame) (s : State) : Host.Outcome State Fault Refusal :=
  .next (
    let l := f.lane.val
    if (s.lane l).act = .off || !f.inSync || bit s.clk.laneHold l then s
    else if s.clk.rootHold then s.setClk (fun c => { c with holdDrops := c.holdDrops + f.xgem.length })
    else
      let s1 := (s.gainSync l).modLane l (fun x =>
        { x with lastDs := some f.count, skew := f.skew
                 skewRun := if skewLimit < f.skew.natAbs then x.skewRun + 1 else 0 })
      let s2 := ((((s1.inc (lnCnt l 0)).fecSeen l (codewords s.is25) f.corrSym f.uncorr).count
        (lnCnt l 4) f.psbdErr).count (lnCnt l 5) f.hdrErr)
      (s2.syncAct l).xgemFrames l (f.count * 2 ^ 16) f.xgem)

/-! ### PLOAM (R122, R124, R141 to R154, Table LN-4) -/

/-- Queue an upstream PLOAM message (R149). -/
def State.queuePloam (l : Nat) (m : PloamUp) (s : State) : State :=
  if 8 ≤ (s.lane l).upq.length then (s.inc (lnCnt l 13)).lnEvent l 15 0
  else s.modLane l (fun x => { x with upq := x.upq ++ [m] })

/-- The largest EqD in ticks (R142). -/
def eqdLimit : Nat := 3110400

/-- EqD as held of a number of upstream bits (R140, R236). -/
def eqdOf (r25 : Bool) (bits : Nat) : Eqd :=
  if r25 then { ticks := bits / 4, trim := bits % 4 } else { ticks := bits / 8 * 5, trim := bits % 8 }

/-- The bits of an EqD, and the largest number of bits (R142). -/
def eqdBits (r25 : Bool) (e : Eqd) : Nat :=
  if r25 then e.ticks * 4 + e.trim else e.ticks / 5 * 8 + e.trim
def eqdMaxBits (r25 : Bool) : Nat := if r25 then eqdLimit * 4 else eqdLimit / 5 * 8

/-- What executing a message gives: its response, and the device. -/
abbrev Did := Option PloamUp × State

/-- An acknowledgement of a unicast message. -/
def ackTo (h : PloamHdr) (code : Nat) (s : State) : Did :=
  (if h.unicast then some (.acknowledge h.seqno code) else none, s)

/-- Burst_Profile (R143). The profile that it replaces stays in force for the frame that carried it. With the last
of the profiles that the Recommendation asks for, a lane in O1.2 goes to O2-3 (R130). -/
def doProfile (l : Nat) (h : PloamHdr) (index preamble delimiter : Nat) (fec complete : Bool) (s : State) : Did :=
  let since := (s.lane l).lastDs
  let p : BurstProfile :=
    { index := index, preamble := preamble, delimiter := delimiter, fec := fec, since := since }
  let old := ((s.lane l).profiles.filter (fun q => q.index == index && q.since != since)).take 1
  let s1 := s.modLane l (fun x =>
    { x with profiles := p :: old ++ x.profiles.filter (fun q => q.index != index) })
  ackTo h ackOk (if complete && decide ((s.lane l).act = .o12) then s1.setAct l .o23 else s1)

/-- Assign_ONU-ID (R130): the lane's keys are derived for the activation that begins (R152; when, the Recommendation
says: PRESUMED, log 19). -/
def doOnuId (l : Nat) (serial : BitVec 64) (onuId : Nat) (s : State) : Did :=
  if (s.lane l).act ≠ .o23 ∨ serial ≠ s.serialOf l then (none, s)
  else
    let s1 := (s.modLane l (fun x => { x with onuId := some onuId })).rederive l
    (none, (s1.setAct l .o4).actEvent l 1 0)

/-- A new EqD is held (R140, R141). -/
def State.setEqd (l bits : Nat) (s : State) : State :=
  let r25 := s.is25
  s.modLane l (fun x =>
    { x with eqdOld := if x.eqdFrom = x.lastDs then x.eqdOld else x.eqd
             eqdFrom := x.lastDs, eqd := eqdOf r25 bits })

/-- Ranging_Time (R140 to R142). A relative change that would take the EqD below 0 is answered as a larger EqD is
(DESIGN CHOICE, log 96). -/
def doRanging (l : Nat) (h : PloamHdr) (absolute negative : Bool) (bits : Nat) (s : State) : Did :=
  let x := s.lane l
  if x.act ≠ .o4 ∧ x.act ≠ .o5 then (none, s)
  else
    let now := eqdBits s.is25 x.eqd
    if (!absolute && negative && decide (now < bits))
        || decide (eqdMaxBits s.is25 < if absolute then bits else if negative then now - bits else now + bits)
    then ackTo h ackParam s
    else
      let s1 := s.setEqd l (if absolute then bits else if negative then now - bits else now + bits)
      ackTo h ackOk (if x.act = .o4 then (s1.setAct l .o5).actEvent l 2 0 else s1)

/-- Deactivate_ONU-ID (R135, R176). -/
def doDeactivate (l : Nat) (s : State) : Did :=
  match (s.lane l).act with
  | .o4 => (none, (s.actEvent l 3 0).toO1 l)
  | .o5 => (none, (s.actEvent l 3 0).toO1 l)
  | .o6 => (none, (s.actEvent l 3 0).toO1 l)
  | _ => (none, s)

/-- Disable_Serial_Number (R134, R175). -/
def doDisable (l : Nat) (enable : Bool) (serial : BitVec 64) (s : State) : Did :=
  if serial ≠ s.serialOf l then (none, s)
  else if !enable && decide ((s.lane l).act ≠ .o7) then (none, s.toO7 l)
  else if enable && decide ((s.lane l).act = .o7) then
    (none, ((s.storeO7 l false).actEvent l 4 0).toO1 l)
  else (none, s)

/-- Request_Registration (R138, R139). -/
def doRegistration (l : Nat) (s : State) : Did :=
  if (s.lane l).onuId.isSome then (some (.registration (s.cfg.lane l).regId), s) else (none, s)

/-- Alloc-IDs assigned on the device. -/
def State.allocCount (s : State) : Nat := (s.line.lanes.map (fun x => x.2.allocs.length)).sum

/-- Assign_Alloc-ID (R151, R215, R216, R229). -/
def doAlloc (l : Nat) (h : PloamHdr) (allocId : Nat) (remove : Bool) (s : State) : Did :=
  let x := s.lane l
  if x.onuId.isNone then (none, s)
  else if remove then
    if !x.allocs.contains allocId then ackTo h ackOk s
    else
      let s1 := s.modLane l (fun y => { y with allocs := y.allocs.filter (· != allocId) })
      let s2 := match s1.indexOf l allocId with
        | none => s1
        | some a => (s1.cancel (fun c => c.lane == l && c.alloc == allocId)).leaveIndex a l
      ackTo h ackOk (s2.actEvent l 7 0)
  else if x.allocs.contains allocId then ackTo h ackOk s
  else if 128 ≤ s.allocCount then ackTo h ackParam s
  else
    let s1 := s.modLane l (fun y => { y with allocs := y.allocs ++ [allocId] })
    let s2 := match s1.indexOf l allocId with
      | none => s1
      | some a => s1.modAlloc a (fun y => { y with grants := Tab.set [] y.grants l [] })
    ackTo h ackOk (s2.actEvent l 7 0)

/-- The key that a bank holds or is about to hold. -/
def Bank.newest (b : Bank) : Option (BitVec 128) := b.shadow.orElse (fun _ => b.key)

/-- Key_Control (R153, R580). A message that requests no new key reports the key held (PRESUMED, log 19). -/
def doKey (l : Nat) (h : PloamHdr) (generate : Bool) (b : BankNo) (s : State) : Did :=
  if (s.lane l).onuId.isNone then (none, s)
  else if generate then
    if !s.cipher.entropyOk then
      ackTo h ackBusy (s.raise 554 (slotObj l) 0)
    else
      let k := s.genKey
      let s1 := (((k.2).writeBank l b.val k.1).inc 0x5C9).raise 546 (slotObj l) 0
      (some (.keyReport (b.val + 1) (aesEcb (s.kekOf l) k.1)), s1)
  else
    match (s.bank l b.val).newest with
    | none => ackTo h ackParam s
    | some k => (some (.keyReport (b.val + 1) (aesEcb (s.kekOf l) k)), s)

/-- A message of an unsupported type (R124). -/
def doUnknown (h : PloamHdr) (ackRequired : Bool) (s : State) : Did :=
  if ackRequired then ackTo h ackUnknown s else (none, s)

/-- Execute a message (Table LN-4). -/
def doPloam (l : Nat) (h : PloamHdr) (m : PloamMsg) (s : State) : Did :=
  match m with
  | .burstProfile i p d f c => doProfile l h i.val p d f c s
  | .assignOnuId serial id => doOnuId l serial id s
  | .rangingTime a n b => doRanging l h a n b s
  | .deactivate => doDeactivate l s
  | .disableSerial e serial => doDisable l e serial s
  | .requestRegistration => doRegistration l s
  | .assignAllocId id r => doAlloc l h id r s
  | .keyControl g b => doKey l h g b s
  | .sleepAllow => ackTo h ackOk s
  | .unknown _ a => doUnknown h a s

/-- Keep an executed unicast message with its response (R147). -/
def State.remember (l : Nat) (h : PloamHdr) (m : PloamMsg) (resp : Option PloamUp) (s : State) : State :=
  if h.unicast then
    s.modLane l (fun x => { x with memo := ({ seqno := h.seqno, msg := m, resp := resp } :: x.memo).take 16 })
  else s

/-- Queue a response, if there is one. -/
def State.respond (l : Nat) (r : Option PloamUp) (s : State) : State :=
  match r with
  | none => s
  | some m => s.queuePloam l m

/-- Execute a verified message once (R147, R148). -/
def State.ploamOnce (l : Nat) (h : PloamHdr) (m : PloamMsg) (s : State) : State :=
  match (s.lane l).memo.find? (fun x => h.unicast && x.seqno == h.seqno && x.msg == m) with
  | some x => s.respond l x.resp
  | none =>
    let d := doPloam l h m s
    (d.2.remember l h m d.1).respond l d.1

/-- A verified downstream PLOAM message on a synchronised lane: one for another ONU is no message of
the lane's; held during a warm CP restart (R874). -/
def State.ploamIn (l : Nat) (h : PloamHdr) (m : PloamMsg) (s : State) : State :=
  let x := s.lane l
  if x.act = .off || !x.sync || (h.unicast && x.onuId.isNone) then s
  else if s.start.fwState = 3 then
    if 16 ≤ x.heldPloam.length then s
    else (s.inc (lnCnt l 10)).modLane l (fun x => { x with heldPloam := x.heldPloam ++ [(h, m)] })
  else (s.inc (lnCnt l 10)).ploamOnce l h m

/-- BURST_PROFILE (R143). -/
def execBurstProfile (l : Lane) (h : PloamHdr) (index : Fin 4) (preamble delimiter : Nat) (flags : ProfileFlags)
    (s : State) : Host.Outcome State Fault Refusal :=
  .next (s.ploamIn l.val h (.burstProfile index preamble delimiter flags.fec flags.complete))

/-- ASSIGN_ONU_ID (R130). -/
def execAssignOnuId (l : Lane) (h : PloamHdr) (serial : BitVec 64) (onuId : Nat) (s : State) :
    Host.Outcome State Fault Refusal :=
  .next (s.ploamIn l.val h (.assignOnuId serial onuId))

/-- RANGING_TIME (R141, R142). -/
def execRangingTime (l : Lane) (h : PloamHdr) (absolute negative : Bool) (bits : Nat) (s : State) :
    Host.Outcome State Fault Refusal :=
  .next (s.ploamIn l.val h (.rangingTime absolute negative bits))

/-- DEACTIVATE_ONU_ID (R135). -/
def execDeactivateOnuId (l : Lane) (h : PloamHdr) (s : State) : Host.Outcome State Fault Refusal :=
  .next (s.ploamIn l.val h .deactivate)

/-- DISABLE_SERIAL_NUMBER (R134). -/
def execDisableSerialNumber (l : Lane) (h : PloamHdr) (enable : Bool) (serial : BitVec 64) (s : State) :
    Host.Outcome State Fault Refusal :=
  .next (s.ploamIn l.val h (.disableSerial enable serial))

/-- REQUEST_REGISTRATION (R139). -/
def execRequestRegistration (l : Lane) (h : PloamHdr) (s : State) : Host.Outcome State Fault Refusal :=
  .next (s.ploamIn l.val h .requestRegistration)

/-- ASSIGN_ALLOC_ID (R151). -/
def execAssignAllocId (l : Lane) (h : PloamHdr) (allocId : Nat) (remove : Bool) (s : State) :
    Host.Outcome State Fault Refusal :=
  .next (s.ploamIn l.val h (.assignAllocId allocId remove))

/-- KEY_CONTROL (R153). -/
def execKeyControl (l : Lane) (h : PloamHdr) (generate : Bool) (bank : BankNo) (s : State) :
    Host.Outcome State Fault Refusal :=
  .next (s.ploamIn l.val h (.keyControl generate bank))

/-- SLEEP_ALLOW (R122). -/
def execSleepAllow (l : Lane) (h : PloamHdr) (s : State) : Host.Outcome State Fault Refusal :=
  .next (s.ploamIn l.val h .sleepAllow)

/-- PLOAM_UNKNOWN_TYPE (R124). -/
def execPloamUnknownType (l : Lane) (h : PloamHdr) (code : Nat) (ackRequired : Bool) (s : State) :
    Host.Outcome State Fault Refusal :=
  .next (s.ploamIn l.val h (.unknown code ackRequired))

/-- PLOAM_DUPLICATE (R147): a repeated message, found in the lane's memory. -/
def execPloamDuplicate (l : Lane) (h : PloamHdr) (msg : PloamMsg) (s : State) :
    Host.Outcome State Fault Refusal :=
  .next (s.ploamIn l.val h msg)

/-- PLOAM_MIC_FAIL (R146). -/
def execPloamMicFail (l : Lane) (s : State) : Host.Outcome State Fault Refusal :=
  .next (
    if (s.lane l.val).act = .off || !(s.lane l.val).sync then s
    else (s.inc (lnCnt l.val 12)).lnFirst l.val 13)

/-- The messages held during a warm CP restart, executed in order after it (R874). -/
def State.replayPloam (l : Nat) (s : State) : State :=
  ((s.lane l).heldPloam).foldl (fun t x => t.ploamOnce l x.1 x.2)
    (s.modLane l (fun x => { x with heldPloam := [] }))

/-- TO1_EXPIRY (R131). -/
def execTo1Expiry (l : Lane) (s : State) : Host.Outcome State Fault Refusal :=
  .next (if (s.lane l.val).act = .o4 then (s.actEvent l.val 5 0).toO1 l.val else s)

/-- TO2_EXPIRY (R132). -/
def execTo2Expiry (l : Lane) (s : State) : Host.Outcome State Fault Refusal :=
  .next (if (s.lane l.val).act = .o6 then (s.actEvent l.val 6 0).toO1 l.val else s)

/-! ### OMCI delivery (R155 to R157, R746, R750, Table CB-9) -/

/-- One segment as an event message of mailbox 32. -/
def omciMsg (n lane : Nat) (data : List Byte) (more : Bool) : Msg :=
  { opc := 0xFE01, seq := n, flags := 0x80, status := 0, tag := 0
    payload := leBytes 2 0xFFFF ++ leBytes 1 lane ++ leBytes 1 (b2n more) ++ leBytes 2 data.length ++ [0, 0]
      ++ data }

/-- Deliver held messages to the operator mailbox while its reply ring has room; `fuel` bounds the
segments. -/
def State.deliverOmci : Nat → State → State
  | 0, s => s
  | fuel + 1, s =>
    match s.line.omciHeld with
    | [] => s
    | (l, b) :: t =>
      let box := s.box 32
      let rest := b.drop 1000
      let msg := omciMsg box.evtCount l (b.take 1000) (!rest.isEmpty)
      if !box.completions.isEmpty || !s.host.fits 32 msg || s.start.fwState = 3 then s
      else
        let r := (s.host.modBox 32 (fun y => { y with evtCount := nextSeq16 y.evtCount })).post 32 msg
        let left := if rest.isEmpty then t else (l, rest) :: t
        let s1 := { s with host := r.1, out := r.2 ++ s.out, line := { s.line with omciHeld := left } }
        State.deliverOmci fuel ((s1.inc (0x600 + 8 * 32 + 6)).raise 576 0 0)

/-- The segments that are held. -/
def Line.omciSegs (x : Line) : Nat := (x.omciHeld.map (fun y => ceilDiv y.2.length 1000)).sum

/-- Deliver what is held. -/
def State.flushOmci (s : State) : State := s.deliverOmci s.line.omciSegs

/-- OMCI_DOWNSTREAM (R155 to R157): the message and the integrity code that came with it. -/
def execOmciDownstream (l : Lane) (msg mic : List Byte) (s : State) :
    Host.Outcome State Fault Refusal :=
  .next (
    let n := l.val
    if (s.lane n).onuId.isNone || !(s.lane n).sync then s
    else
      let s1 := s.inc (lnCnt n 14)
      if mic != s.omciMic n false msg then s1.inc (lnCnt n 16)
      else if 32 ≤ (s.line.omciHeld.filter (fun x => x.1 == n)).length then
        (s1.inc (lnCnt n 17)).lnEvent n 14 0
      else
        ({ s1 with line := { s1.line with omciHeld := s1.line.omciHeld ++ [(n, msg)] } }).flushOmci)

/-! ### SD, SF, RSSI_TRIG and the rogue-burst guard -/

/-- Whether the window's bit error ratio before FEC is at or above 10^−SD_THR (R180): each corrected symbol counts as
one bit in error of the 248 × 8 of its codeword (the estimate is the model's: DESIGN CHOICE, log 97). -/
def LaneState.degraded (x : LaneState) (sdThr : Nat) : Bool :=
  decide (0 < x.winCw) && decide (x.winCw * 248 * 8 ≤ x.winCorr * 10 ^ sdThr)

/-- SD_SF_WINDOW (R180, R181): a window of 8,000 frames ends. The operands are the codewords of the window that no
DOWNSTREAM_FRAME brought, of frames that were not taken (DESIGN CHOICE, log 97). -/
def execSdSfWindow (l : Lane) (codewords corrected uncorrectable : Nat) (s : State) :
    Host.Outcome State Fault Refusal :=
  .next (
    let n := l.val
    let c := s.cfg.lane n
    if (s.lane n).act = .off then s
    else
      let s0 := s.fecSeen n codewords corrected uncorrectable
      let sd := (s0.lane n).degraded c.sdThr
      let sf := decide (c.sfThr ≤ (s0.lane n).winUncorr)
      let s1 := s0.modLane n (fun x => { x with sd := sd, sf := sf, winCw := 0, winCorr := 0, winUncorr := 0 })
      let s2 := if sd = (s.lane n).sd then s1 else s1.lnEvent n 3 0
      if sf = (s.lane n).sf then s2 else s2.lnEvent n 4 0)

/-- 2 µs, 1 µs and 500 ns in eighths of a tick, the first rounded up (R165). -/
def rssiLast : Nat := 99533
def rssiRise : Nat := 49766
def rssiLen : Nat := 24883

/-- Whether RSSI_TRIG is due in the lane's burst (R165): in O5.1, 8,000 frames after the last, the burst long enough. -/
def State.rssiDue (s : State) (l : Nat) : Bool :=
  let x := s.lane l
  decide (x.act = .o5) && decide (x.rssiAt + 8000 ≤ s.bnd) && !x.txDis
    && x.burst.any (fun b => decide (rssiLast ≤ b.2 - b.1))

/-- RSSI_TRIG (R165): the strobe of the lane's module, 1 µs after the first bit of the burst; the read of its
diagnostics is due. -/
def execRssiTrig (l : Lane) (s : State) : Host.Outcome State Fault Refusal :=
  .next (
    if s.rssiDue l.val then
      let rise := (((s.lane l.val).burst.getD (0, 0)).1 + rssiRise) % (8 * tideMod)
      let s1 := (s.modLane l.val (fun x => { x with rssiAt := s.bnd })).emit
        (.rssi l.val rise ((rise + rssiLen) % (8 * tideMod)))
      { s1 with craft := { s1.craft with
        ddm := Tab.modify {} s1.craft.ddm l.val (fun d => { d with due := true }) } }
    else s)

/-- LN_ROGUE (R167, R171). -/
def execLnRogue (l : Lane) (s : State) : Host.Outcome State Fault Refusal :=
  .next (
    let n := l.val
    let trips := s.bnd :: (s.lane n).rogueAt.filter (fun t => decide (s.bnd ≤ t + 480000))
    let latch := decide (3 ≤ trips.length)
    let s1 := (s.modLane n (fun x =>
      { x with rogue := true, rogueLatch := x.rogueLatch || latch, rogueAt := trips })).syncTx n
    let s2 := (s1.inc (lnCnt n 21)).lnEvent n 5 0
    if latch && !(s.lane n).rogueLatch then s2.lnEvent n 6 0 else s2)

/-- ROGUE_GUARD_RELEASE (R170): a latched guard stays latched (R171). -/
def execRogueGuardRelease (l : Lane) (s : State) : Host.Outcome State Fault Refusal :=
  .next ((s.modLane l.val (fun x => { x with rogue := false })).syncTx l.val)

end Sys2Proof.Machine
end

