-- ==== Sys2Proof/Machine/Ring.lean ====
section
/-!
DEFINITION. The Quay ring: credit links, containers, ring frames, protection and the transmitter.
-/

namespace Sys2Proof.Machine

/-! ### Sides, lanes, counters and events -/

/-- Counter `k` and event `k` of a side (Tables EV-8, QY-15). -/
def rgCnt (d k : Nat) : Nat := 0x580 + 32 * d + k
def State.rgEvent (d k detail : Nat) (s : State) : State :=
  s.raise (320 + 32 * d + k) (sideObj s.self d) detail
def State.rgFirst (d k : Nat) (s : State) : State :=
  s.raiseWin 8000 (320 + 32 * d + k) 0 (sideObj s.self d) 0

def State.modRlane (d n : Nat) (f : RingLane → RingLane) (s : State) : State :=
  { s with ring := { s.ring with lanes := Tab.modify {} s.ring.lanes (2 * d + n) f } }

/-- The other side. -/
def other (d : Nat) : Nat := 1 - d

/-- Whether the ring port of a side works: it has its clock (R106), and no root clock hold stops it (R108). -/
def State.ringOn (s : State) (d : Nat) : Bool := s.clocked (4 + d) && !s.clk.rootHold

/-! ### Positions and working sides (R423) -/

/-- Links eastward from the manager to worker `n` over the joined workers. -/
def State.eastHops (s : State) (n : Nat) : Nat :=
  1 + (s.joinedNodes.filter (fun m => decide ((s.node m).pos < (s.node n).pos))).length

/-- Links westward. -/
def State.westHops (s : State) (n : Nat) : Nat := s.joinedNodes.length + 1 - s.eastHops n

/-- Links toward worker `n` on a side. -/
def State.hops (s : State) (d n : Nat) : Nat := if d = 0 then s.eastHops n else s.westHops n

/-- The manager recomputes the working sides when a node joins or leaves. -/
def State.rework (s : State) : State :=
  if !s.isManager then s
  else
    { s with ring := { s.ring with
      working := (List.range 16).foldl (fun t n =>
        if s.joined n then Tab.set 0 t n (if s.eastHops n ≤ s.westHops n then 0 else 1) else t)
        s.ring.working } }

/-! ### Credits (R446 to R453) -/

/-- Initial credit of a class (Table QY-5). -/
def initCredit (c : Nat) : Nat :=
  match c with
  | 0 => 32
  | 1 => 32
  | 2 => 128
  | _ => 512

/-- The key of a credit link. -/
def linkKey (src dst c : Nat) : Nat := (src * 16 + dst) * 8 + c

def State.link_ (s : State) (src dst c : Nat) : CreditLink := Tab.get {} s.ring.links (linkKey src dst c)
def State.modLink (src dst c : Nat) (f : CreditLink → CreditLink) (s : State) : State :=
  { s with ring := { s.ring with links := Tab.modify {} s.ring.links (linkKey src dst c) f } }
def State.end_ (s : State) (src dst c : Nat) : CreditEnd := Tab.get {} s.ring.ends (linkKey src dst c)
def State.modEnd (src dst c : Nat) (f : CreditEnd → CreditEnd) (s : State) : State :=
  { s with ring := { s.ring with ends := Tab.modify {} s.ring.ends (linkKey src dst c) f } }

/-- Containers outstanding and credits in flight of a link: SENT − CUM modulo 2^16 (R450). -/
def CreditLink.out (l : CreditLink) : Nat := (l.sent + 65536 - l.cum % 65536) % 65536

/-- Initialise the links of every class with a node, both directions (Table QY-12, step 7). -/
def State.initCredits (n : Nat) (s : State) : State :=
  (List.range 5).foldl (fun t c =>
    (t.modLink s.self n c (fun _ => { held := initCredit c })).modEnd n s.self c (fun _ => {})) s

/-- A credit return reaches the source (R450): one of another epoch, or during a re-initialisation,
changes nothing. -/
def State.creditBack (r : CreditRec) (s : State) : State :=
  let me := s.self
  let l := s.link_ me r.origin.val r.cclass.val
  if r.epoch ≠ l.epoch ∨ l.reinit then s
  else
    s.modLink me r.origin.val r.cclass.val (fun l =>
      let after : CreditLink := { l with cum := r.cum % 65536 }
      { after with held := initCredit r.cclass.val - after.out
                   moved := if l.cum = after.cum then l.moved else s.bnd })

/-- Put a return record on the output of a side: at most one per OWNER, ORIGIN and CLASS (R449). -/
def State.putReturn (d : Nat) (r : CreditRec) (s : State) : State :=
  { s with ring := { s.ring with returns := Tab.modify [] s.ring.returns d (fun l =>
    l.filter (fun x => !(x.owner == r.owner && x.origin == r.origin && x.cclass == r.cclass)) ++ [r]) } }

/-- A destination consumes a container of a link (R447, R448). -/
def State.consume (c : Container) (s : State) : State :=
  let me := s.self
  let e := s.end_ c.src.val me c.cclass.val
  if e.epoch ≠ c.epoch then s
  else
    (s.modEnd c.src.val me c.cclass.val (fun e => { e with consumed := (e.consumed + 1) % 65536 })).putReturn
      (s.ring.sideOf c.src.val)
      { owner := c.src, origin := Fin.ofNat 16 me, cclass := c.cclass, epoch := e.epoch
        cum := (e.consumed + 1) % 65536 }

/-- Start the re-initialisation of an own link (R452 steps 1 and 2), on the path as it now is. -/
def State.reinitLink (dst c : Nat) (s : State) : State :=
  let d := s.ring.sideOf dst
  (((s.modLink s.self dst c (fun l => { l with reinit := true })).inc (rgCnt d 22)).rgEvent d 14 0).dcc dst
    (.creditReinit (Fin.ofNat 8 c) (s.link_ s.self dst c).sent)

/-- The nodes that this node has credit links to. -/
def State.linkNodes (s : State) : List Nat :=
  if s.isManager then s.joinedNodes else if s.ring.join.joined then [0] else []

/-- Re-initialise every own link whose destination `p` selects (R453). -/
def State.reinitWhere (p : Nat → Bool) (s : State) : State :=
  (s.linkNodes.filter p).foldl (fun t n => (List.range 5).foldl (fun u c => u.reinitLink n c) t) s

/-- Whether the path to `n` crosses the span whose far end is node `far`, as seen through side `d`
(R453). A worker does not hold the order of the nodes: any span that it hears of on its working side
counts (DESIGN CHOICE, log 26). -/
def State.crosses (s : State) (d far n : Nat) : Bool :=
  if s.isManager then
    (s.ring.sideOf n == d && decide (s.hops d far ≤ s.hops d n))
    || (s.ring.sideOf n == other d && decide (s.hops (other d) far < s.hops (other d) n))
  else s.ring.sideOf n == d

/-- CREDIT_REINIT at the destination (R452 step 3). -/
def State.onReinit (src : Nat) (c : Fin 8) (s : State) : State :=
  let e := s.end_ src s.self c.val
  (s.modEnd src s.self c.val (fun _ => { consumed := 0, epoch := !e.epoch })).dcc src
    (.creditReinitAck c e.consumed)

/-- CREDIT_REINIT_ACK at the source (R452 step 4). -/
def State.onReinitAck (dst c consumed : Nat) (s : State) : State :=
  let l := s.link_ s.self dst c
  if !l.reinit then s
  else
    (s.modLink s.self dst c (fun _ =>
      { held := initCredit c, epoch := !l.epoch, moved := s.bnd })).count (rgCnt (s.ring.sideOf dst) 21)
      ((l.sent + 65536 - consumed % 65536) % 65536)

/-- CREDIT_REINIT (R452). -/
def execCreditReinit (src : NodeNo) (cclass : Fin 8) (_sent : Nat) (s : State) :
    Host.Outcome State Fault Refusal :=
  .next (s.onReinit src.val cclass)

/-- CREDIT_REINIT_ACK (R452). -/
def execCreditReinitAck (dst : NodeNo) (cclass : Fin 8) (consumed : Nat) (s : State) :
    Host.Outcome State Fault Refusal :=
  .next (s.onReinitAck dst.val cclass.val consumed)

/-! ### Bypass and training (R471 to R473) -/

/-- Release BYP_OPEN_N: the bypass closes. -/
def State.releaseBypass (s : State) : State :=
  if s.ring.join.bypOpen then
    (({ s with ring := { s.ring with join := { s.ring.join with bypOpen := false } } }).emit
      (.pin "BYP_OPEN_N" true)).raise 398 (sideObj s.self 0) 0
  else s

/-- BYPASS_RELEASE (R473). -/
def execBypassRelease (s : State) : Host.Outcome State Fault Refusal := .next s.releaseBypass

/-- Whether both lanes of a side are in frame without LOS (R472). -/
def State.sideTrained (s : State) (d : Nat) : Bool :=
  (s.rlane d 0).inFrame && !(s.rlane d 0).los && (s.rlane d 1).inFrame && !(s.rlane d 1).los

/-- Follow a change of a side's training; the bypass is released when neither side is trained any
more. A side that trains again may have another neighbour: it is no longer that of a second manager (R17). -/
def State.train (d : Nat) (s : State) : State :=
  let t := s.sideTrained d
  if (s.side d).trained = t then s
  else
    let s1 := (s.modSide d (fun x => { x with trained := t, managerSeen := false })).rgEvent d 17 0
    if t || (s1.side (other d)).trained then s1 else s1.releaseBypass

/-! ### Protection (R458 to R464) -/

/-- The SF conditions of a side (Table QY-9) other than its label. -/
def State.hardSf (s : State) (d : Nat) : Bool :=
  let x := s.side d
  x.skew || x.bipSf || (List.range 2).any (fun n =>
    (s.rlane d n).los || (s.rlane d n).lof || (s.rlane d n).lop)

/-- The request that a side makes for its own span: a command, SF, SD or wait-to-restore, the highest
first (Table QY-8). -/
def RingSide.ownReq (x : RingSide) : Nat :=
  if x.cmd = 7 then 7 else if x.sf then 6 else if x.sd then 5 else if x.cmd = 3 then 3
  else if x.wtr then 1 else 0

/-- Set a side's own request after a change. -/
def State.setReq (d : Nat) (s : State) : State := s.modSide d (fun x => { x with txReq := x.ownReq })

/-- A side enters SF or SD (R458); a new defect ends a wait-to-restore (R463). -/
def State.enterDefect (d : Nat) (sd : Bool) (s : State) : State :=
  let x := s.side d
  if (if sd then x.sd else x.sf) then s
  else
    ((s.modSide d (fun x =>
      { x with sd := x.sd || sd, sf := x.sf || !sd, wtr := false, faultNeighbour := x.neighbour
               onlyLabel := !sd && x.labelSf && !s.hardSf d })).setReq d).rgEvent d (if sd then 5 else 6) 0

/-- Set a condition of a side. -/
def State.setCond (d : Nat) (c : RingDefect) (on : Bool) (s : State) : State :=
  match c with
  | .los => (s.modRlane d 0 (fun x => { x with los := on })).modRlane d 1 (fun x => { x with los := on })
  | .lof => (s.modRlane d 0 (fun x => { x with lof := on })).modRlane d 1 (fun x => { x with lof := on })
  | .lop => (s.modRlane d 0 (fun x => { x with lop := on })).modRlane d 1 (fun x => { x with lop := on })
  | .skew => s.modSide d (fun x => { x with skew := on })
  | .bip => s.modSide d (fun x => { x with bipSf := on })
  | .labelSf => s.modSide d (fun x => { x with labelSf := on })
  | .sd => s

/-- The event of a condition that is declared, if it has one of its own. -/
def condEvent (c : RingDefect) : Option Nat :=
  match c with
  | .los => some 0
  | .lof => some 1
  | .lop => some 2
  | .skew => some 10
  | .bip => none
  | .labelSf => none
  | .sd => none

/-- Declare a defect: its condition and event, then SF or SD. A hard condition ends the label's being
the only cause; the first one notes the neighbour (R463, R464). -/
def State.declare (d : Nat) (c : RingDefect) (s : State) : State :=
  let s1 := s.setCond d c true
  let s2 := match condEvent c with
    | some k => s1.rgEvent d k 0
    | none => s1
  let s3 := if c = .labelSf || c = .sd then s2 else s2.modSide d (fun x =>
    { x with onlyLabel := false, faultNeighbour := if s.hardSf d then x.faultNeighbour else x.neighbour })
  (s3.enterDefect d (c == .sd)).train d

/-- A worker that has lost ring timing on both sides holds over on its own root (R53). -/
def State.timingCheck (s : State) : State :=
  if s.isManager || !s.timingLost || s.tide.state = .unanchored || s.tide.state = .holdover then s
  else s.enterHoldover

/-- RING_DEFECT (R53, R458). -/
def execRingDefect (side : Side) (d : RingDefect) (s : State) : Host.Outcome State Fault Refusal :=
  .next (if s.ringOn side.val then (s.declare side.val d).timingCheck else s)

/-- On a worker, ring timing comes from the working side of node 0, or from the other side while that
one is wrapped (R51): whether it is WEST. -/
def State.timingIsWest (s : State) : Bool :=
  let w := s.ring.sideOf 0
  (if (s.side w).wrapped then other w else w) == 1

/-- A wrap or its end moves a worker's timing to its other side: that side's last measured offset applies
from the next frame boundary (R51). -/
def State.timingSide (s : State) : State :=
  if s.isManager then s
  else { s with tide := { s.tide with
    timingNext := if s.timingIsWest = s.tide.timingWest then none else some s.timingIsWest } }

/-- A span is unwrapped (R463, R464): its request ends, links across it are re-initialised (R453),
admission re-runs. -/
def State.unwrap (d : Nat) (s : State) : State :=
  let s1 := (s.modSide d (fun x => { x with wrapped := false, farWrap := false, wtr := false })).setReq d
  if (s.side d).wrapped then
    ((((s1.raise 385 (sideObj s.self d) 0).reinitWhere (fun n => s.ring.sideOf n == d))).timingSide).recheck
  else s1

/-- After a defect has cleared: unwrap at once when it was label SF or the neighbour has changed,
otherwise wait-to-restore (R463, R464). -/
def State.afterClear (d : Nat) (s : State) : State :=
  let x := s.side d
  if x.sf || x.sd || x.cmd ≠ 0 then s.setReq d
  else if !x.wrapped then s.setReq d
  else if x.onlyLabel || x.neighbour ≠ x.faultNeighbour then s.unwrap d
  else ((s.modSide d (fun x => { x with wtr := true })).setReq d).raise 386 (sideObj s.self d) 0

/-- RING_DEFECT_CLEAR (Table QY-9, R463, R464): a condition ends; SF ends with the last one. Where label SF alone
is left, it is what caused the SF that remains. -/
def execRingDefectClear (side : Side) (d : RingDefect) (s : State) : Host.Outcome State Fault Refusal :=
  .next (
    let n := side.val
    if !s.ringOn n then s
    else
      let s1 := s.setCond n d false
      if d = .sd then
        if (s.side n).sd then (s1.modSide n (fun x => { x with sd := false })).afterClear n else s1
      else if (s1.side n).sf && !s1.hardSf n then
        if (s1.side n).labelSf then (s1.modSide n (fun x => { x with onlyLabel := true })).train n
        else ((s1.modSide n (fun x => { x with sf := false })).afterClear n).train n
      else s1.train n)

/-- Whether any request but `d`'s manual switch is in force on the ring (R460). -/
def State.otherRequest (s : State) (d : Nat) : Bool :=
  (List.range 2).any (fun k =>
    let x := s.side k
    x.sf || x.sd || x.cmd == 7 || (k != d && x.cmd == 3) || x.wtr || x.reqRx == 7 || x.reqRx == 6
    || x.reqRx == 5 || x.reqRx == 1)

/-- The side of the span that an accepted request on side `d` concerns, when this node borders it: on
the short path the span itself, on the long path the other side (R458, R460). -/
def State.farSpan (s : State) (d : Nat) : Option Nat :=
  let x := s.side d
  if x.spanFar = s.self && decide (3 ≤ x.reqRx) then some (if x.longRx then other d else d) else none

/-- Whether a far end asks for a wrap at side `d`. -/
def State.farAsks (s : State) (d : Nat) : Bool :=
  (List.range 2).any (fun k => s.farSpan k == some d
    && ((s.side k).reqRx != 3 || !s.otherRequest d))

/-- Whether a wrap at side `d` is due (R460). -/
def State.wrapDue (s : State) (d : Nat) : Bool :=
  let x := s.side d
  x.sf || x.sd || x.cmd == 7 || (x.cmd == 3 && !s.otherRequest d) || s.farAsks d

/-- RING_WRAP (R460, R461, R453): a second wrapped span splits the ring (RING_SPLIT). -/
def execRingWrap (side : Side) (s : State) : Host.Outcome State Fault Refusal :=
  .next (
    let d := side.val
    if (s.side d).wrapped || !s.wrapDue d || !s.ringOn d then s
    else
      let x := s.side d
      let far := !(x.sf || x.sd || x.cmd != 0)
      let s1 := (s.modSide d (fun x => { x with wrapped := true, wtr := false, farWrap := far })).raise 384
        (sideObj s.self d) 0
      let s2 := if (s.side (other d)).wrapped then s1.raise 397 (sideObj s.self d) 0 else s1
      ((s2.reinitWhere (fun n => s.ring.sideOf n == d)).timingSide).recheck)

/-- WTR_EXPIRY (R463). -/
def execWtrExpiry (side : Side) (s : State) : Host.Outcome State Fault Refusal :=
  .next (if (s.side side.val).wtr && s.ringOn side.val then s.unwrap side.val else s)

/-- A request is accepted (R459): one that ends frees a wrap made for it; spans further away have their
links re-initialised when a wrap there begins or ends (R453). -/
def State.acceptReq (d : Nat) (r : Nat × Nat × Bool) (s : State) : State :=
  let old := s.side d
  let s1 := s.modSide d (fun x => { x with reqRx := r.1, spanFar := r.2.1, longRx := r.2.2 })
  let was := decide (3 ≤ old.reqRx) && old.spanFar ≠ s.self
  let now := decide (3 ≤ r.1) && r.2.1 ≠ s.self
  let s2 := if was && !(now && r.2.1 = old.spanFar) then
      s1.reinitWhere (fun n => s.crosses d old.spanFar n) else s1
  let s3 := if now && !(was && r.2.1 = old.spanFar) then
      s2.reinitWhere (fun n => s.crosses d r.2.1 n) else s2
  (List.range 2).foldl (fun t k =>
    let x := t.side k
    if x.farWrap && !t.farAsks k && decide (r.1 ≠ 1) && !(x.sf || x.sd || x.cmd ≠ 0) then t.unwrap k else t) s3

/-- Requests that Table QY-8 names; the other codes are ignored. -/
def reqKnown (r : Nat) : Bool := r == 7 || r == 6 || r == 5 || r == 3 || r == 1 || r == 0

/-- One frame's SRQ: persistence of the request and of TX_NODE (R459). Another neighbour is no longer a second
manager (R17). -/
def State.srq (d : Nat) (f : RingHead) (s : State) : State :=
  let x := s.side d
  let r := (f.req, f.spanFar.val, f.longPath)
  let n := if r = x.reqCand then min 3 (x.reqN + 1) else 1
  let m := if f.txNode.val = x.neighCand then min 3 (x.neighN + 1) else 1
  let s1 := s.modSide d (fun x =>
    { x with reqCand := r, reqN := n, neighCand := f.txNode.val, neighN := m })
  let s2 := if m = 3 && f.txNode.val ≠ x.neighbour then
      (s1.modSide d (fun x => { x with neighbour := f.txNode.val, managerSeen := false })).rgEvent d 18 0 else s1
  if n = 3 && reqKnown f.req && r ≠ (x.reqRx, x.spanFar, x.longRx) then s2.acceptReq d r else s2

/-- Labels of Table QY-3. -/
def labelKnown (l : Nat) : Bool := l == 0 || l == 1 || l == 0x0E || l == 0xFE || l == 0xFF

/-- A LABEL is accepted (R438, R439). Label 0x01 ends label SF at once. -/
def State.acceptLabel (d l : Nat) (s : State) : State :=
  let s1 := s.modSide d (fun x => { x with labelRx := l })
  if l = 1 then
    let s2 := s1.modSide d (fun x => { x with labelSf := false })
    if (s2.side d).sf && !s2.hardSf d && (s2.side d).onlyLabel then
      (s2.modSide d (fun x => { x with sf := false })).afterClear d
    else s2
  else
    let s2 := if !labelKnown l then s1.rgEvent d 3 0 else if l = 0xFF then s1.rgEvent d 4 0 else s1
    if (s.side d).labelSf then s2 else s2.declare d .labelSf

/-- One frame's LABEL. -/
def State.labelIn (d : Nat) (f : RingHead) (s : State) : State :=
  let x := s.side d
  let n := if f.label = x.labelCand then min 3 (x.labelN + 1) else 1
  let s1 := s.modSide d (fun x => { x with labelCand := f.label, labelN := n })
  if n = 3 && f.label ≠ x.labelRx then s1.acceptLabel d f.label else s1

/-! ### Containers (R440 to R445, R447, R461, R462) -/

/-- The current generation of the worker that a container names, where this node holds it (R443). -/
def State.genOk (s : State) (c : Container) : Bool :=
  if s.isManager then
    let n := if c.dst.val = 0 then c.src.val else c.dst.val
    (s.node n).gen == c.gen.val
  else if c.dst.val = s.self || c.src.val = s.self then s.ring.join.gen == c.gen.val
  else true

/-- Ring class of a credit class (Table QY-5). -/
def ringClass (c : Nat) : Nat :=
  match c with
  | 0 => 0
  | 1 => 0
  | 2 => 1
  | 3 => 2
  | _ => 3

/-- Pass a container on, or turn it at a wrap (R442, R456, R461, R462). `d` is the side it came in on. -/
def State.passOn (d : Nat) (c : Container) (s : State) : State :=
  let out := other d
  let turn := (s.side out).wrapped
  if s.pool.recount then s
  else if turn && decide (2 ≤ c.turns.val) then s.inc (rgCnt d 16)
  else
    let o := if turn then d else out
    let k := o * 8 + ringClass c.cclass.val
    let c1 := if turn then { c with turns := c.turns + 1 } else c
    let l := Tab.get [] s.ring.transit k
    if 1024 ≤ l.length then (s.inc (rgCnt o 13)).rgFirst o 12
    else { s with ring := { s.ring with transit := Tab.set [] s.ring.transit k (l ++ [c1]) } }

def State.reasmOf (s : State) (k : Nat) : Option Reasm := Tab.get none s.ring.reasm k
def State.setReasm (k : Nat) (r : Option Reasm) (s : State) : State :=
  { s with ring := { s.ring with reasm := Tab.set none s.ring.reasm k r } }

/-- Give the cells of a reassembly back. -/
def State.freeRing (n : Nat) (s : State) : State :=
  { s with pool := { s.pool with free := s.pool.free + n, ring := s.pool.ring - n } }

/-- Discard an incomplete packet. -/
def State.dropReasm (k : Nat) (s : State) : State :=
  match s.reasmOf k with
  | none => s
  | some r => ((s.setReasm k none).freeRing r.cells).poolLow

/-- A whole packet is linked to its queue, with the check value of its last container (R291): its cells move from RING
to QUEUED (R445). -/
def State.linkRing (r : Reasm) (check : W32) (s : State) : State :=
  let p : Packet := { bytes := r.bytes, check := check, trunc := r.trunc, bad := r.bad, owner := r.owner }
  let s0 := s.freeRing r.cells
  if s0.pool.recount then s0.inc 0x5C2
  else if s0.intakeStopped || !s0.egressTakes r.queue || (decide (2048 ≤ r.queue) && !s0.cfg.upEnabled r.queue)
  then s0.queueDrop r.queue 1
  else s0.link r.queue p

/-- Take a cell for a container and add it to its packet (R314, R315, R445). -/
def State.addCell (k : Nat) (c : Container) (r : Reasm) (s : State) : State :=
  let r1 := { r with bytes := r.bytes ++ c.cell, trunc := r.trunc || c.trunc, bad := r.bad || c.bad }
  let fin (r2 : Reasm) (t : State) : State :=
    if !c.last then t.setReasm k (some r2)
    else if r2.dropped then t.setReasm k none
    else (t.setReasm k none).linkRing r2 c.check
  if r.dropped then fin r s
  else
    match s.mayTake r.queue r.owner 1 with
    | .ok =>
      fin { r1 with cells := r.cells + 1 }
        { s with pool := { s.pool with free := s.pool.free - 1, ring := s.pool.ring + 1 } }
    | t =>
      fin { r with dropped := true, cells := 0 }
        (((s.freeRing r.cells).queueDrop r.queue 1).refusedCell r.queue r.owner t)

/-- A container for this node (R444, R445); `d` is the side it came in on. -/
def State.takeContainer (d : Nat) (c : Container) (s : State) : State :=
  let k := c.src.val * 8 + c.cclass.val
  let s0 := s.consume c
  if s.pool.recount then (if c.first then s0.inc 0x5C2 else s0)
  else if c.first then
    let s1 := if (s0.reasmOf k).isSome then (s0.dropReasm k).inc (rgCnt d 17) else s0
    if !s.queueUsed c.queue.val then s1
    else s1.addCell k c
      { queue := c.queue.val, owner := if c.oper then 0 else c.berth.val + 1 }
  else
    match s0.reasmOf k with
    | none => s0
    | some r => s0.addCell k c r

/-- A container arrives (R440 to R443). -/
def State.containerIn (d : Nat) (c : Container) (s : State) : State :=
  if !c.crcOk || decide (5 ≤ c.cclass.val) then (s.inc (rgCnt d 14)).rgFirst d 11
  else
    let s1 := if c.crValid && c.crNode.val = s.self then
        s.creditBack { owner := c.crNode, origin := c.src, cclass := c.crClass, epoch := c.crEpoch
                       cum := c.crCum }
      else s
    if !c.valid then s1
    else
      let s2 := s1.inc (rgCnt d (8 + c.cclass.val))
      if !s.genOk c then
        let s3 := (s2.inc (rgCnt d 15)).rgFirst d 13
        if c.dst.val = s.self then s3.consume c else s3
      else if c.dst.val = s.self then s2.takeContainer d c
      else s2.passOn d c

/-- Every container of a frame in order. -/
def State.containersIn (d : Nat) : List Container → State → State
  | [], s => s
  | c :: t, s => State.containersIn d t (s.containerIn d c)

/-! ### Ring frames (R427 to R438) -/

/-- Alignment of a lane (R430): LOF when OOF persists for 3 frames. Frames have transitions: LOS ends. -/
def RingLane.align (ok : Bool) (x : RingLane) : RingLane :=
  let g := if ok then min 2 (x.good + 1) else 0
  let b := if ok then 0 else min 4 (x.bad + 1)
  let inn := if 2 ≤ g then true else if 4 ≤ b then false else x.inFrame
  { x with good := g, bad := b, inFrame := inn, oof := if inn then 0 else min 3 (x.oof + 1)
           lof := if inn then false else x.lof, los := false }

/-- The first boundary of the next frame, when a frame of `n` data bytes has its first one at `v`: containers of 272
bytes follow each other across frames (log 90). -/
def nextValue (v n : Nat) : Nat := (v + 272 * 1430 - n) % 272

/-- What the pointer of a frame says: `value` the first boundary in it, `just` 1 for a positive, 2 for a negative
justification, `cut` that the container begun before is not to be completed. -/
structure PtrRead where
  value : Nat
  just  : Nat
  cut   : Bool
  deriving DecidableEq, Repr

/-- Data bytes of a lane in a frame. -/
def dataBytes (just : Nat) : Nat := if just = 1 then ringPayload - 1 else if just = 2 then ringPayload + 1 else ringPayload

/-- Pointer processing (R433, R434, R436): the lane after it and what the pointer says. `value` and `cand` are kept
for the frame to come. -/
def RingLane.pointer (h : RingHead) (x : RingLane) : RingLane × PtrRead :=
  let i := ones ((h.ptr ^^^ x.value) &&& iBits)
  let d := ones ((h.ptr ^^^ x.value) &&& dBits)
  let on (v just : Nat) (cut : Bool) : RingLane × PtrRead :=
    ({ x with badPtr := 0, lop := false, value := nextValue v (dataBytes just), candN := 0 }, ⟨v, just, cut⟩)
  if h.ndf = 9 ∧ h.ptr ≤ 271 then on h.ptr 0 true
  else if h.ndf = 6 ∧ 3 ≤ i ∧ d = 0 then on x.value 1 false
  else if h.ndf = 6 ∧ 3 ≤ d ∧ i = 0 then on x.value 2 false
  else if h.ndf = 6 ∧ h.ptr = x.value then on x.value 0 false
  else if h.ndf = 6 ∧ h.ptr ≤ 271 then
    let n := if x.candN ≠ 0 ∧ h.ptr = x.cand then x.candN + 1 else 1
    if 3 ≤ n then on h.ptr 0 true
    else
      ({ x with badPtr := 0, lop := false, value := nextValue x.value ringPayload
                cand := nextValue h.ptr ringPayload, candN := n }, ⟨x.value, 0, false⟩)
  else
    ({ x with badPtr := min 8 (x.badPtr + 1), value := nextValue x.value ringPayload, candN := 0 },
      ⟨x.value, 0, false⟩)

/-- A frame whose overhead is ignored: the boundaries go on as expected (R429). -/
def RingLane.pointerOn (x : RingLane) : RingLane × PtrRead :=
  ({ x with value := nextValue x.value ringPayload, cand := nextValue x.cand ringPayload }, ⟨x.value, 0, false⟩)

/-- BIP-8 windows of a lane (Table QY-9). -/
def RingLane.bip (err : Bool) (x : RingLane) : RingLane :=
  { x with bip80 := (if x.win80 = 80 then 0 else x.bip80) + b2n err
           win80 := if x.win80 = 80 then 1 else x.win80 + 1
           bip8000 := (if x.win8000 = 8000 then 0 else x.bip8000) + b2n err
           win8000 := if x.win8000 = 8000 then 1 else x.win8000 + 1 }

/-- What the BIP-8 windows declare. -/
def State.bipCheck (d n : Nat) (s : State) : State :=
  let x := s.rlane d n
  let s1 := if 40 ≤ x.bip80 && !(s.side d).bipSf then s.declare d .bip else s
  if s.cfg.ring.sdThr ≤ x.bip8000 && !(s.side d).sd then s1.declare d .sd else s1

/-- The overhead of a frame whose check is good (R427, R429, R432, R449); `rx` is what the pointer says, `was` the
lane before. -/
def State.overhead (d n : Nat) (h : RingHead) (was : RingLane) (rx : PtrRead) (s : State) : State :=
  let err := was.rxBip.any (fun b => b != h.bip)
  let s1 := s.modRlane d n (RingLane.bip err)
  let s2 := if rx.just = 1 then s1.inc (rgCnt d 18) else if rx.just = 2 then s1.inc (rgCnt d 19) else s1
  let s3 := if 8 ≤ (s2.rlane d n).badPtr && !was.lop then s2.declare d .lop else s2
  let s4 := if err then (s3.inc (rgCnt d 1)).rgFirst d 8 else s3
  let s5 := s4.bipCheck d n
  let s6 := if n = 0 || (s5.side d).lane0Bad then (s5.labelIn d h).srq d h else s5
  h.credits.foldl (fun t r => if r.owner.val = s.self then t.creditBack r else t.putReturn (other d) r) s6

/-! ### Both lanes of a side as one stream (R431) -/

/-- The number of a frame, counted on past 16 bits: the nearest one to `ref` with those bits. -/
def frameNear (ref no : Nat) : Nat := ref + 32768 - (ref + 32768 + 65536 - no) % 65536

/-- The place of container `i` of frame `no` in its lane. -/
def placeOf (no i : Nat) : Nat := no * 4096 + i

/-- The containers that a frame completes, and the one that its end cuts: `data` are its data bytes. -/
def takeData (no : Nat) (rx : PtrRead) (cut : Option (Nat × List Byte)) (data : List Byte) :
    List (Nat × Container) × Option (Nat × List Byte) :=
  let first := match cut with
    | some c => if c.2.length + rx.value = 272 && !rx.cut then [(c.1, parseContainer (c.2 ++ data.take rx.value))] else []
    | none => []
  let all := (chunksOf 272 (data.drop rx.value)).zipIdx.map (fun x => (placeOf no x.2, x.1))
  (first ++ (all.filter (fun x => x.2.length == 272)).map (fun x => (x.1, parseContainer x.2)),
    all.find? (fun x => x.2.length != 272))

/-- What two lanes bring in order, RING_LANE_0 first at the same place; `b0` and `b1` are the places below which
nothing more comes on a lane. What may still be preceded is kept. `fuel` bounds the entries. -/
def mergeLanes {α : Type} (b0 b1 : Nat) : Nat → List (Nat × α) → List (Nat × α) →
    List α × List (Nat × α) × List (Nat × α)
  | 0, l0, l1 => ([], l0, l1)
  | fuel + 1, x :: t, y :: u =>
    if x.1 ≤ y.1 then
      let r := mergeLanes b0 b1 fuel t (y :: u)
      (x.2 :: r.1, r.2)
    else
      let r := mergeLanes b0 b1 fuel (x :: t) u
      (y.2 :: r.1, r.2)
  | fuel + 1, x :: t, [] =>
    if x.1 ≤ b1 then
      let r := mergeLanes b0 b1 fuel t []
      (x.2 :: r.1, r.2)
    else ([], x :: t, [])
  | fuel + 1, [], y :: u =>
    if y.1 < b0 then
      let r := mergeLanes b0 b1 fuel [] u
      (y.2 :: r.1, r.2)
    else ([], [], y :: u)
  | _ + 1, [], [] => ([], [], [])

/-- The place below which a lane brings no more containers. -/
def RingLane.bound (x : RingLane) : Nat :=
  match x.rxCut with
  | some c => c.1
  | none => placeOf (x.rxNo + 1) 0

/-- Containers that both lanes of a side have brought, taken in order. -/
def State.mergeContainers (d : Nat) (s : State) : State × List Container :=
  let x := s.rlane d 0
  let y := s.rlane d 1
  let r := mergeLanes x.bound y.bound (x.rxDone.length + y.rxDone.length) x.rxDone y.rxDone
  ((s.modRlane d 0 (fun z => { z with rxDone := r.2.1 })).modRlane d 1 (fun z => { z with rxDone := r.2.2 }), r.1)

/-- DCC slots that both lanes of a side have brought, taken in order. -/
def State.mergeSlots (d : Nat) (s : State) : State × List (List Byte) :=
  let x := s.rlane d 0
  let y := s.rlane d 1
  let r := mergeLanes (x.rxNo + 1) (y.rxNo + 1) (x.rxSlots.length + y.rxSlots.length) x.rxSlots y.rxSlots
  ((s.modRlane d 0 (fun z => { z with rxSlots := r.2.1 })).modRlane d 1 (fun z => { z with rxSlots := r.2.2 }), r.1)

/-- One DCC slot (R465): a message that is arriving so far, and the message when it is whole. An empty slot begins
none; a message longer than Table QY-10 allows is none. -/
def slotIn (part slot : List Byte) : List Byte × Option (List Byte) :=
  let b := part ++ slot
  let n := 32 + beAt b 8 2
  if part.isEmpty && beAt slot 0 2 == 0 then ([], none)
  else if 1040 < n then ([], none)
  else if n ≤ b.length then ([], some (b.take n))
  else (b, none)

/-- Slots in order: the messages that they complete. -/
def State.slotsIn (d : Nat) : List (List Byte) → State → State × List (List Byte)
  | [], s => (s, [])
  | x :: t, s =>
    let r := slotIn (s.side d).dccRx x
    let q := State.slotsIn d t (s.modSide d (fun y => { y with dccRx := r.1 }))
    (q.1, r.2.toList ++ q.2)

/-- A lane that is out of frame brings nothing: what it has brought and not given is lost, and with it a DCC message
of the side. -/
def State.laneLost (d n : Nat) (s : State) : State :=
  (s.modRlane d n (fun x => { x with rxCut := none, rxDone := [], rxSlots := [], rxBip := none })).modSide d (fun x =>
    { x with lane0Bad := if n = 0 then true else x.lane0Bad, dccRx := [] })

/-- LOF of a lane (R430). -/
def State.laneLof (d n : Nat) (s : State) : State :=
  let x := s.side d
  (((s.modRlane d n (fun x => { x with lof := true })).rgEvent d 1 0).modSide d (fun y =>
    { y with onlyLabel := false, faultNeighbour := if s.hardSf d then x.faultNeighbour else x.neighbour })).enterDefect
    d false

/-- The bytes of a frame after its alignment pattern, descrambled, and the lane with its scrambler and parity (R426,
R427). -/
def RingLane.open_ (wire : List Byte) (x : RingLane) : RingLane × List Byte :=
  let r := descramble x.rxScr (wire.drop 8)
  ({ x with rxScr := r.2, rxBip := some (bip8 wire) }, r.1)

/-- What a lane brings in a frame whose data bytes are `data`: containers while the side carries them (R438), and its
DCC slot (R465), while the other lane is in frame as well. A slot whose overhead fails counts as zeros in a message that
is arriving (log 99). -/
def State.laneIn (d n no : Nat) (rx : PtrRead) (data : List Byte) (slot : List Byte) (s : State) : State :=
  let both := (s.rlane d (other n)).inFrame
  let carry := both && (s.side d).labelRx = 1 && !(s.side d).managerSeen && s.ring.enabled
  s.modRlane d n (fun x =>
    let seq := decide (no = x.rxNo + 1)
    let r := takeData no rx (if seq then x.rxCut else none) data
    { x with rxNo := no
             rxCut := if carry then r.2 else none
             rxDone := if carry then (if seq then x.rxDone else []) ++ r.1 else []
             rxSlots := if both then (if seq then x.rxSlots else []) ++ [(no, slot)] else [] })

/-- A frame of a lane in frame: its overhead and what it brings. -/
def State.frameIn (d n : Nat) (b : List Byte) (was : RingLane) (s : State) : State :=
  let ok := headOk b
  let h := parseHead b
  let p := if ok then (s.rlane d n).pointer h else (s.rlane d n).pointerOn
  let o := s.rlane d (other n)
  let no := if ok then frameNear (max 65536 (max (was.rxNo + 1) (if o.inFrame then o.rxNo else 0))) h.frameNo
    else was.rxNo + 1
  let s1 := (s.inc (rgCnt d 0)).modSide d (fun x => if n = 0 then { x with lane0Bad := !ok } else x)
  let s2 := s1.modRlane d n (fun _ => p.1)
  let s3 := if ok then s2.overhead d n h was p.2 else (s2.inc (rgCnt d 2)).rgFirst d 7
  let pay := b.drop 56
  let data := if p.2.just = 1 then pay.drop 1 else if p.2.just = 2 then h.stuff :: pay else pay
  s3.laneIn d n no p.2 data (if ok then h.slot else List.replicate 32 0)

/-- A ring frame of 388,800 bytes on a lane (R426 to R432, R438, R465): the state after it and the DCC messages that
it completes. -/
def State.ringFrame (d n : Nat) (wire : List Byte) (s : State) : State × List (List Byte) :=
  let was := s.rlane d n
  let a := (was.align (wire.take 8 == alignPattern)).open_ wire
  let s1 := (s.modRlane d n (fun _ => a.1)).train d
  if !a.1.inFrame then
    let s2 := s1.laneLost d n
    (if 3 ≤ a.1.oof && !was.lof then s2.laneLof d n else s2, [])
  else
    let m := (s1.frameIn d n a.2 was).mergeContainers d
    let q := (m.1.containersIn d m.2).mergeSlots d
    q.1.slotsIn d q.2

/-- RG_PTR_JUMP (R437): the container cut by the jump is discarded, its bytes up to the new boundary are zeros. -/
def execRgPtrJump (side : Side) (lane : Fin 2) (value : Nat) (s : State) :
    Host.Outcome State Fault Refusal :=
  .next (
    let d := side.val
    if !s.ringOn d then s
    else
      let s1 := s.modRlane d lane.val (fun x => { x with txCut := List.replicate (value % 272) 0, newPtr := true })
      (s1.inc (rgCnt d 20)).rgEvent d 9 0)

/-! ### The transmitter (R446, R448, R454, R455, R458) -/

/-- RING_CIR of a ring egress queue in bit/s (check 7 of Table AD-1). -/
def State.ringCir (s : State) (q : Nat) : Nat :=
  let c := (q - 1024) % 4
  let k := (q - 1024) % 60 / 4
  let n := if k < s.self then k else k + 1
  if c = 0 then 100000000
  else if c = 1 then
    let at_ := if s.isManager then n else s.self
    ((List.range 8).map (fun p =>
      let ces := s.cfg.circuit (objId at_ 8 p)
      let framed := (s.cfg.e1 (objId at_ 7 p)).framed
      if ces.enable && !s.adm.shed.contains (objId at_ 8 p) then 8000 * pktCells framed ces * 2048 / ces.pktFrames else 0)).sum
  else if c = 2 then
    if s.adm.shed.contains (s.obj 2 q) then 0 else (s.cfg.queue (s.obj 2 q)).ringCir
  else 0

/-- The credit class that a ring egress queue uses: class 2 without a RING_CIR goes in bulk (R410). -/
def State.queueCredit (s : State) (q : Nat) : Nat :=
  let c := (q - 1024) % 4
  if c = 2 && s.ringCir q = 0 then 4 else if c = 0 then 0 else c + 1

/-- The destination of a ring egress queue. -/
def State.ringDest (s : State) (q : Nat) : Nat :=
  let k := (q - 1024) % 60 / 4
  if k < s.self then k else k + 1

/-- Whether the next container of a packet is there: a packet that is still being written goes on with whole cells
(R310). -/
def Packet.cellThere (p : Packet) : Bool := p.writer == 0 || decide (p.sent + 256 < p.bytes.length)

/-- Whether a container of queue `q` may be sent now (R310, R446, R454). -/
def State.ringReady (s : State) (q : Nat) : Bool :=
  let x := s.queue q
  let n := s.ringDest q
  let cc := s.queueCredit q
  let l := s.link_ s.self n cc
  let rate := if cc = 4 then 0 else s.ringCir q
  let rival := (List.range 2).any (fun d => (List.range 4).any (fun c =>
    let r := 1024 + 60 * d + (q - 1024) % 60 / 4 * 4 + c
    r != q && (s.queue r).sending && s.queueCredit r == cc))
  x.pkts.head?.any (fun p => p.cellThere && (x.sending || s.mayStart q p)) && !l.reinit && decide (0 < l.held)
  && !(rival && !x.sending) && (x.bktA.accrue rate 16384 s.now).covers rate 256

/-- The queues that leave on side `d` in ring class `c`: those of the side, and those of the other one
while it is wrapped; with the TURNS they leave with. -/
def State.ringQueues (s : State) (d c : Nat) : List (Nat × Nat) :=
  let own := if (s.side d).wrapped then [] else [(d, 0)]
  let turned := if (s.side (other d)).wrapped then [(other d, 1)] else []
  (own ++ turned).flatMap (fun x => (List.range 60).filterMap (fun i =>
    let q := 1024 + 60 * x.1 + i
    if s.queue q ≠ {} && ringClass (s.queueCredit q) = c then some (q, x.2) else none))

/-- Round-robin by destination: the first ready queue after the last one served. -/
def State.ringPick (s : State) (d c : Nat) : Option (Nat × Nat) :=
  let l := (s.ringQueues d c).filter (fun x => s.ringReady x.1)
  let last := Tab.get 0 s.ring.rr (d * 8 + c)
  (l.find? (fun x => decide (last ≤ s.ringDest x.1))).orElse (fun _ => l.head?)

/-- The head of a transit store; in the control class requests and replies alternate (R455). -/
def State.transitPick (s : State) (d c : Nat) : Option Container :=
  let l := Tab.get [] s.ring.transit (d * 8 + c)
  if c = 0 then
    (l.find? (fun x => decide (x.cclass.val = b2n (Tab.get false s.ring.altReply d)))).orElse (fun _ => l.head?)
  else l.head?

/-- Send a transit container. -/
def State.sendTransit (d c : Nat) (x : Container) (s : State) : State :=
  ({ s with ring := { s.ring with
    transit := Tab.modify [] s.ring.transit (d * 8 + c) (fun l => l.erase x)
    altTransit := Tab.set false s.ring.altTransit (d * 8 + c) true
    altReply := if c = 0 then Tab.set false s.ring.altReply d (decide (x.cclass.val = 0)) else s.ring.altReply } }).inc
    (rgCnt d (3 + x.cclass.val))

/-- The container of the next cell of queue `q`'s head packet. -/
def State.containerOf (s : State) (q turns : Nat) (p : Packet) : Container :=
  let n := s.ringDest q
  let cc := s.queueCredit q
  let last := decide (p.bytes.length ≤ p.sent + 256)
  { dst := Fin.ofNat 16 n, src := Fin.ofNat 16 s.self, cclass := Fin.ofNat 8 cc, first := p.sent = 0
    last := last, gen := Fin.ofNat 16 (s.ring.pairGen s.self n)
    valid := true, turns := Fin.ofNat 4 turns, trunc := p.trunc, bad := p.bad
    epoch := (s.link_ s.self n cc).epoch, oper := p.owner = 0, berth := Fin.ofNat 32 (p.owner - 1)
    queue := Fin.ofNat 4096 p.dest, check := if last then p.check else 0, crValid := false, crNode := 0
    crClass := 0, crEpoch := false, crCum := 0, crcOk := true, cell := (p.bytes.drop p.sent).take 256 }

/-- Send one container of a local queue (R446): its cell is read, with `e` what the read finds (R285, R286), and
freed. -/
def State.sendLocal (d c q turns : Nat) (e : Ecc) (s : State) : State × Option Container :=
  match (s.queue q).pkts with
  | [] => (s, none)
  | p0 :: t =>
    let p := p0.ecc e
    let k := s.containerOf q turns p
    let cc := s.queueCredit q
    let n := s.ringDest q
    let rate := if cc = 4 then 0 else s.ringCir q
    let after : Packet := { p with sent := p.sent + 256, out := [(0, p.sent + 256)] }
    let s1 := (s.eccRead e (s.obj 2 q)).modLink s.self n cc (fun l =>
      { l with held := l.held - 1, sent := (l.sent + 1) % 65536, moved := if l.out = 0 then s.bnd else l.moved })
    let s2 := (s1.modQueue q (fun x =>
      { x with bktA := (x.bktA.accrue rate 16384 s.now).debit rate 256
               sending := !k.last, pkts := if k.last then t else after :: t
               flush := if k.last then x.flush.map (fun m => m - 1) else x.flush })).freeQueued
        (p.cells - (if k.last then 0 else after.cells))
    let s3 := ((s2.threshold q).poolLow).inc (rgCnt d (3 + cc))
    let s4 := { s3 with ring := { s3.ring with
      rr := Tab.set 0 s3.ring.rr (d * 8 + c) (n + 1)
      altTransit := Tab.set false s3.ring.altTransit (d * 8 + c) false } }
    (if k.last then s4.flushWaiting q else s4, some k)

/-- Send one container of ring class `c` on side `d`, transit and local insertion alternating (R455): the container and
what is left of the outcomes of cell reads. -/
def State.sendClass (d c : Nat) (ecc : List Ecc) (s : State) : Option (State × Option Container × List Ecc) :=
  let local_ (q : Nat × Nat) :=
    let r := s.sendLocal d c q.1 q.2 (ecc.headD .none)
    (r.1, r.2, ecc.drop 1)
  match s.transitPick d c, s.ringPick d c with
  | some x, none => some (s.sendTransit d c x, some x, ecc)
  | none, some q => some (local_ q)
  | some x, some q =>
    if Tab.get false s.ring.altTransit (d * 8 + c) then some (local_ q)
    else some (s.sendTransit d c x, some x, ecc)
  | none, none => none

/-- Containers of one frame on both lanes, at most `n`, the highest class first (R455). -/
def State.fillRing (d : Nat) : Nat → List Ecc → State → State × List Container
  | 0, _, s => (s, [])
  | n + 1, ecc, s =>
    match (((s.sendClass d 0 ecc).orElse (fun _ => s.sendClass d 1 ecc)).orElse (fun _ =>
        s.sendClass d 2 ecc)).orElse (fun _ => s.sendClass d 3 ecc) with
    | none => (s, [])
    | some r =>
      let r2 := State.fillRing d n r.2.2 r.1
      (r2.1, r.2.1.toList ++ r2.2)

/-- Attach return records to containers whose DST is their owner (R448). -/
def attachReturns : List Container → List CreditRec → List Container × List CreditRec
  | [], l => ([], l)
  | c :: t, l =>
    match l.find? (fun r => !c.crValid && r.owner == c.dst && r.origin == c.src) with
    | none =>
      let r2 := attachReturns t l
      (c :: r2.1, r2.2)
    | some r =>
      let r2 := attachReturns t (l.erase r)
      ({ c with crValid := true, crNode := r.owner, crClass := r.cclass, crEpoch := r.epoch
                crCum := r.cum } :: r2.1, r2.2)

/-- The LABEL that a side sends (Table QY-3). -/
def State.txLabel (s : State) (d : Nat) : Nat :=
  if (s.side d).prbs then 0x0E
  else if s.pool.recount then 0xFF
  else if !s.ring.enabled then (if s.ring.join.bypOpen then 0xFE else 0)
  else 1

/-- The request that leaves on side `d` with its SPAN_FAR and path (R458): of this side's span on the
short path, of the other side's span or of a far node on the long path; the highest first. -/
def State.txRequest (s : State) (d : Nat) : Nat × Nat × Bool :=
  let own := ((s.side d).txReq, (s.side d).neighbour, false)
  let far := ((s.side (other d)).txReq, (s.side (other d)).neighbour, true)
  let x := s.side (other d)
  let pass := if x.longRx && x.spanFar ≠ s.self then (x.reqRx, x.spanFar, true) else (0, 0, false)
  if far.1 ≤ own.1 ∧ pass.1 ≤ own.1 then own else if pass.1 ≤ far.1 then far else pass

/-- The justification of a frame (R435): at most one in four frames, none in a frame with a new pointer or in the one
after it; one that is due waits. -/
def RingSide.justify (j : Nat) (new : Bool) (x : RingSide) : Nat × RingSide :=
  let due := if j = 0 then x.due else j
  if new then (0, { x with due := due, justHold := max 1 (x.justHold - 1) })
  else if x.justHold ≠ 0 then (0, { x with due := due, justHold := x.justHold - 1 })
  else if due = 0 then (0, x)
  else (due, { x with due := 0, justHold := 3 })

/-- Containers that begin in a frame on a lane, whose data bytes go on with `cut` bytes of one begun before (Table
QY-17). -/
def slotsOf (just cut : Nat) : Nat := ceilDiv (dataBytes just - cut) 272

/-- Deal a frame's containers to its lanes in turn, RING_LANE_0 first (R431), `k0` and `k1` of them. -/
def deal (zero : Bool) (k0 k1 : Nat) : List Container → List Container × List Container
  | [] => ([], [])
  | c :: t =>
    if (zero && k0 != 0) || k1 == 0 then
      let r := deal false (k0 - 1) k1 t
      (c :: r.1, r.2)
    else
      let r := deal true k0 (k1 - 1) t
      (r.1, c :: r.2)

/-- The frame of one lane (Tables QY-1, QY-2; R425 to R428, R433, R434) and the lane after it. -/
def RingLane.send (h : RingHead) (just : Nat) (cs : List Container) (x : RingLane) : RingLane × List Byte :=
  let data := x.txCut ++ cs.flatMap containerBytes
  let n := dataBytes just
  let now := data.take n
  let pay := if just = 1 then 0 :: now else if just = 2 then now.drop 1 else now
  let v := x.txCut.length
  let head := headBytes { h with
    ndf := if x.newPtr then 9 else 6, bip := x.txBip
    ptr := if just = 1 then v ^^^ iBits else if just = 2 then v ^^^ dBits else v
    stuff := if just = 2 then now.headD 0 else 0 }
  let r := scramble x.txScr (head ++ [crc8 head] ++ pay)
  let wire := alignPattern ++ r.1
  ({ x with txScr := r.2, txBip := bip8 wire, txCut := data.drop n, newPtr := false }, wire)

/-- Send the frame of lane `n` with its containers, return records and DCC slot. -/
def State.sendLane (d n just : Nat) (cs : List Container) (cr : List CreditRec) (slot : List Byte) (s : State) :
    State :=
  let q := s.txRequest d
  let h : RingHead :=
    { frameNo := s.tide.frame % 65536, label := s.txLabel d, req := q.1, spanFar := Fin.ofNat 16 q.2.1
      txNode := Fin.ofNat 16 s.self, longPath := q.2.2, status := if (s.side d).wrapped then 2 else 0, ndf := 6
      ptr := 0, stuff := 0, credits := cr, slot := slot, bip := 0 }
  let r := (s.rlane d n).send h just cs
  (s.modRlane d n (fun _ => r.1)).emit (.ringFrame d n r.2)

/-- The DCC slot of the next lane (R465): none waits, it is empty. A message of this node counts as sent when it
begins. -/
def State.takeSlot (d : Nat) (s : State) : State × List Byte :=
  match (s.side d).dccTx with
  | [] => (s, List.replicate 32 0)
  | x :: t =>
    let s1 := s.modSide d (fun y => { y with dccTx := t })
    (if x.1 then s1.inc (rgCnt d 23) else s1, x.2)

/-- The frames of both lanes of a side. -/
def State.sendFrames (d j : Nat) (ecc : List Ecc) (s : State) : State :=
  let y := (s.side d).justify j ((s.rlane d 0).newPtr || (s.rlane d 1).newPtr)
  let s0 := s.modSide d (fun _ => { y.2 with lastTx := s.tide.frame + 1 })
  let k0 := slotsOf y.1 (s.rlane d 0).txCut.length
  let k1 := slotsOf y.1 (s.rlane d 1).txCut.length
  let sends := decide (s.txLabel d = 1) && !(s.side d).managerSeen
  let r := if sends then State.fillRing d (k0 + k1) ecc s0 else (s0, [])
  let a := attachReturns r.2 (Tab.get [] r.1.ring.returns d)
  let s1 := { r.1 with ring := { r.1.ring with returns := Tab.set [] r.1.ring.returns d (a.2.drop 4) } }
  let c := deal true k0 k1 (a.1 ++ List.replicate (k0 + k1 - a.1.length) idleContainer)
  let t0 := s1.takeSlot d
  let t1 := t0.1.takeSlot d
  (t1.1.sendLane d 0 y.1 c.1 (a.2.take 2) t0.2).sendLane d 1 y.1 c.2 ((a.2.drop 2).take 2) t1.2

/-- RING_FRAME_TRANSMIT (R425, R431, R435, R446, R448, R455, R458): the side's frames of Tide's frame, which begins
when Tide reaches its tick 0. -/
def execRingFrameTransmit (r : CellRead RingSend (List Ecc)) (s : State) :
    Host.Outcome State Fault Refusal :=
  .next (
    let side := r.on.side
    if !s.ringOn side.val then s
    else
      let due := s.tide.tick = 0 && (s.side side.val).lastTx != s.tide.frame + 1
      let s1 := if due then s else s.until ((s.tide.frame + 1) * frameTicks)
      s1.sendFrames side.val r.on.justify.val r.ecc)

end Sys2Proof.Machine
end

