-- ==== Sys2Proof/Machine/Join.lean ====
section
/-!
DEFINITION. Ring membership: joining, ring boot, leaving, HELLO and the DCC's retransmission.
-/

namespace Sys2Proof.Machine

/-- The device's serial number (R26); its bits 3 to 0 are zero (R237). -/
def State.serial (s : State) : BitVec 64 :=
  BitVec.ofNat 64 (0x564E5841 * 2 ^ 32 + (s.start.serialNum &&& 0xFFFFFFF0#32).toNat)

/-- The object that names a node in the events of membership: its EAST side (DESIGN CHOICE, log 27). -/
def nodeObj (n : Nat) : Nat := sideObj n 0

def State.setJoin (f : JoinState → JoinState) (s : State) : State :=
  { s with ring := { s.ring with join := f s.ring.join } }

/-- Send a message outside the numbered exchange on a side: JOIN_REQ, JOIN_ACCEPT, JOIN_REFUSE, and those of a device
without an image (R467, R602, R865). -/
def State.joinSend (d dst : Nat) (body : DccBody) (s : State) : State :=
  s.dccRaw d
    { dst := Fin.ofNat 16 dst, src := Fin.ofNat 16 s.self, bcast := false
      unnumbered := !s.isManager && s.ring.node == 0, ackOnly := false, ttl := 31, msgSeq := 0, ackSeq := 0
      body := body }

/-! ### The manager's side (R417 to R422, R477 to R479) -/

/-- Discard every incomplete packet from a node (R479, R482). -/
def State.dropFrom (n : Nat) (s : State) : State :=
  (List.range 5).foldl (fun t c => t.dropReasm (n * 8 + c)) s

/-- Flush the ring egress queues toward a node (R482). -/
def State.flushToward (n : Nat) (s : State) : State :=
  (List.range 2).foldl (fun t d => (List.range 4).foldl (fun u c =>
    u.flushPoint (1024 + 60 * d + 4 * (if n < s.self then n else n - 1) + c)) t) s

/-- Answer what waits for a node with FAULT; its deferred operations end ABORTED (R482, R664). -/
def State.faultNode (n : Nat) (s : State) : State :=
  (List.range 34).foldl (fun t m =>
    let t1 : State := match (t.box m).waiting with
      | some w => if w.on = Wait.relay n then t.reply w.opc w.req .fault else t
      | none => t
    ((t1.box m).deferred.filter (fun d => d.object / 2 ^ 28 == n)).foldl (fun u d =>
      u.complete m d.seq .aborted []) t1) s

/-- Clear a worker's bit in EVT_NODE_SUMMARY, or set it (R768, R770). -/
def State.setSummary (n : Nat) (on : Bool) (s : State) : State :=
  s.setEvt { s.evt with nodeSummary := putBit s.evt.nodeSummary n on } false

/-- Hold-off in seconds after one more event (R478). -/
def longer (h : Nat) : Nat := min 60 (2 * h)

/-- A worker leaves (R482, R478, R770). -/
def State.nodeLeave (n : Nat) (s : State) : State :=
  let e := s.node n
  let short := decide (s.now ≤ e.joinedAt + 60 * secTicks)
  let s1 := ((s.flushToward n).dropFrom n).faultNode n
  let s2 := s1.modNode n (fun e =>
    { e with member := 0, since := s.now, holdEnd := if short then s.now + e.holdoff * secTicks else e.holdEnd
             holdoff := if short then longer e.holdoff else e.holdoff })
  let s3 := { s2 with ring := { s2.ring with peers := Tab.set {} s2.ring.peers n {} } }
  ((((s3.rework).recheck).raise 389 (nodeObj n) 0).setSummary n false)

/-- LEAVE (R482): on the manager a worker leaves; on the worker itself, which sends LEAVE before MOORED,
JOINED ends and the bypass is released (R473). -/
def execLeave (n : NodeNo) (s : State) : Host.Outcome State Fault Refusal :=
  .next (
    if s.isManager then (if s.joined n.val then s.nodeLeave n.val else s)
    else if n.val = s.ring.node && s.ring.join.joined then
      let short := decide (s.now ≤ s.ring.join.joinedAt + 60 * secTicks)
      ((s.dcc 0 .leave).setJoin (fun j =>
        { j with joined := false, step := 0, holdEnd := if short then s.now + j.holdoff * secTicks else j.holdEnd
                 holdoff := if short then longer j.holdoff else j.holdoff })).releaseBypass
    else s)

/-- WORKER_GONE_TIMEOUT (R470). -/
def execWorkerGoneTimeout (n : NodeNo) (s : State) : Host.Outcome State Fault Refusal :=
  .next (if s.isManager && s.joined n.val then s.nodeLeave n.val else s)

/-- The entry of a serial number. -/
def Ring.entryOf (r : Ring) (serial : BitVec 64) : Option Nat :=
  (r.nodes.find? (fun x => x.2.used && x.2.serial == serial)).map (·.1)

/-- Rule 1 of R421: an absent entry with this worker's neighbours. -/
def Ring.sameNeighbours (r : Ring) (q : JoinRequest) : Option Nat :=
  (r.nodes.find? (fun x => x.2.used && x.2.member == 0 && x.2.east == q.east && x.2.west == q.west)).map (·.1)

/-- Rule 2: the lowest number that no entry holds. -/
def Ring.freeNumber (r : Ring) : Option Nat :=
  (List.range 16).find? (fun n => n != 0 && !(Tab.get {} r.nodes n : NodeEntry).used)

/-- Rule 3: the entry absent longest, if for 60 s or more. -/
def Ring.longAbsent (now : Nat) (r : Ring) : Option Nat :=
  ((r.nodes.filter (fun x => x.2.used && x.2.member == 0 && decide (x.2.since + 60 * secTicks ≤ now))).foldl
    (fun o x => match o with
      | none => some x
      | some y => if x.2.since < y.2.since then some x else some y) none).map (·.1)

/-- Accept a request under a number (R420, R421, R479). `moved` marks a number that another worker's entry
held. -/
def State.enrol (n : Nat) (moved : Bool) (q : JoinRequest) (s : State) : State :=
  let e := s.node n
  let s0 := if s.joined n then s.nodeLeave n else s
  let again := e.used && e.nonce != some q.nonce
  let s1 := s0.modNode n (fun e =>
    { e with used := true, serial := q.serial, gen := if again then (e.gen + 1) % 16 else e.gen, east := q.east
             west := q.west, nonce := some q.nonce, member := 1, since := s.now, version := q.version
             pos := q.position, holdoff := if moved then 2 else e.holdoff })
  let s2 := if again && !moved then (s1.dropFrom n).raise 390 (nodeObj n) 0 else s1
  let s3 := if moved then (s2.dropFrom n).raise 394 (nodeObj n) 0 else s2
  let s4 := { s3 with ring := { s3.ring with
    peers := Tab.set {} s3.ring.peers n {}, working := Tab.set 0 s3.ring.working n q.side.val } }
  (s4.modRanger n (fun _ => {})).joinSend q.side.val 0 (.joinAccept q.serial (Fin.ofNat 16 n)
    (Fin.ofNat 16 (s4.node n).gen) s4.cipher.bootNonce ((Tab.get none s4.cipher.vault 16).getD 0))

/-- Refuse a request (R18, R477). -/
def State.refuseJoin (reason : Nat) (q : JoinRequest) (s : State) : State :=
  (s.joinSend q.side.val 0 (.joinRefuse q.serial reason)).raise 391 (sideObj 0 q.side.val) reason

/-- The chain is full (R18, R477): a hold-off of 60 s is recorded for the serial number. -/
def State.chainFull (q : JoinRequest) (s : State) : State :=
  let s1 := { s with ring := { s.ring with
    holdoffs := (q.serial, s.now + 60 * secTicks) :: s.ring.holdoffs.filter (fun x => x.1 != q.serial) } }
  (s1.refuseJoin 1 q).raise 392 (sideObj 0 q.side.val) 0

/-- The image that the ring is served: the running one, or that of START_BANK while the running one is
unconfirmed (R963). -/
def State.served (s : State) : List Byte :=
  if s.start.unconfirmed then (if s.start.startBank then s.start.bankB else s.start.bankA).image
  else s.start.cpImage

/-- Decide one request (R420, R421, R478, R479, R868). -/
def State.decideJoin (q : JoinRequest) (s : State) : State :=
  if q.version.toNat ≠ 0 ∧ q.version.toNat < (imgCompat s.served).toNat ∧ !s.ring.refused.contains q.serial then
    ({ s with ring := { s.ring with refused := q.serial :: s.ring.refused } }).refuseJoin 3 q
  else
    let s1 := { s with ring := { s.ring with refused := s.ring.refused.filter (· != q.serial) } }
    match s.ring.entryOf q.serial with
    | some n =>
      let e := s.node n
      if e.nonce = some q.nonce ∧ s.now < e.holdEnd then s1.refuseJoin 2 q else s1.enrol n false q
    | none =>
      if s.ring.holdoffs.any (fun x => x.1 == q.serial && decide (s.now < x.2)) then s1.refuseJoin 2 q
      else
        match s.ring.sameNeighbours q with
        | some n => s1.enrol n true q
        | none =>
          match s.ring.freeNumber with
          | some n => s1.enrol n false q
          | none =>
            match s.ring.longAbsent s.now with
            | some n => s1.enrol n true q
            | none => s1.chainFull q

/-- A JOIN_REQ reaches the manager (R17, R419). -/
def State.onJoinReq (q : JoinRequest) (s : State) : State :=
  if !s.isManager then s
  else if q.isManager then
    (s.modSide q.side.val (fun x => { x with managerSeen := true })).raise 393 (sideObj 0 q.side.val) 0
  else
    match s.ring.collecting with
    | some l =>
      { s with ring := { s.ring with
        collecting := some (l.filter (fun x => x.serial != q.serial) ++ [q]) } }
    | none =>
      if s.ring.nodes.any (fun x => x.2.used) then s.decideJoin q
      else { s with ring := { s.ring with collecting := some [q] } }

/-- JOIN_REQ (R421). -/
def execJoinReq (r : JoinRequest) (s : State) : Host.Outcome State Fault Refusal := .next (s.onJoinReq r)

/-- Insert a request by its eastward position. -/
def insertPos (q : JoinRequest) : List JoinRequest → List JoinRequest
  | [] => [q]
  | x :: t => if q.position < x.position then q :: x :: t else x :: insertPos q t

/-- JOIN_COLLECTION_END (R419). -/
def execJoinCollectionEnd (s : State) : Host.Outcome State Fault Refusal :=
  .next (
    match s.ring.collecting with
    | none => s
    | some l =>
      let s1 := { s with ring := { s.ring with collecting := none } }
      (l.foldl (fun a q => insertPos q a) []).foldl (fun t q => t.decideJoin q) s1)

/-- Relay a worker's committed commands to it, and the frame at which they switch in (R15, Table QY-12,
step 9). -/
def State.sendParts (n : Nat) (s : State) : State :=
  ((Tab.get [] s.cfg.parts n).foldl (fun t x => t.dcc n (.relayCmd x.1 0 32 x.2)) s).dcc n
    (.commitPart (s.tide.frame + 2))

/-- The manager takes a worker's JOIN_COMPLETE (Table QY-12, steps 7 to 9). -/
def State.nodeJoined (n : Nat) (s : State) : State :=
  if (s.node n).member ≠ 1 then s
  else
    let s1 := (s.modNode n (fun e => { e with member := 2, joinedAt := s.now })).initCredits n
    ((((s1.rework).syncTo n).raise 388 (nodeObj n) 0).sendParts n).recheck

/-- JOIN_COMPLETE (R475): the worker sets JOINED, or the manager takes its message. -/
def execJoinComplete (n : NodeNo) (s : State) : Host.Outcome State Fault Refusal :=
  .next (
    if s.isManager then s.nodeJoined n.val
    else
      let j := s.ring.join
      if n.val ≠ s.ring.node || j.joined || decide (j.step < 5) then s
      else
        let s1 := (s.initCredits 0).setJoin (fun j =>
          { j with joined := true, joinedAt := s.now, step := 8, newNonce := false, lostMgr := false })
        (({ s1 with ring := { s1.ring with enabled := true } }).dcc 0 .joinComplete).raise 388
          (nodeObj n.val) 0)

/-- JOIN_HOLDOFF_RESET (R478). -/
def execJoinHoldoffReset (n : NodeNo) (s : State) : Host.Outcome State Fault Refusal :=
  .next (
    if s.isManager then
      (if s.joined n.val then s.modNode n.val (fun e => { e with holdoff := 2 }) else s)
    else if n.val = s.ring.node && s.ring.join.joined then s.setJoin (fun j => { j with holdoff := 2 })
    else s)

/-! ### The worker's side (R472 to R481) -/

/-- An attempt fails (R476, R478). -/
def State.joinFail (s : State) : State :=
  let j := s.ring.join
  ((s.setJoin (fun x =>
    { x with step := 0, joined := false, holdEnd := s.now + j.holdoff * secTicks
             holdoff := longer j.holdoff })).releaseBypass).raise 399 (nodeObj s.self) 0

/-- Whether a worker may send JOIN_REQ (R582). -/
def State.mayJoin (s : State) : Bool := s.cipher.entropyOk || s.start.hasFlash

/-- Begin an attempt (R472, R475, Table QY-12, steps 1 and 2). -/
def State.joinBegin (s : State) : State :=
  let j := s.ring.join
  if s.isManager || (j.joined && j.bypOpen) || decide (j.step ≠ 0 ∧ j.step ≠ 8) || !s.mayJoin then s
  else
    let q : DccBody := .joinReq s.serial j.nonce false j.version 0 0 0
    let s1 := (s.setJoin (fun j => { j with step := 2, joined := false, bypOpen := true, image := [], imgDone := false })).emit
      (.pin "BYP_OPEN_N" false)
    let s2 := { s1 with ring := { s1.ring with enabled := false } }
    ((s2.raise 398 (sideObj s.self 0) 1).joinSend 0 0 q).joinSend 1 0 q

/-- JOIN_ATTEMPT_START (R472, R489): not within a hold-off (R478). -/
def execJoinAttemptStart (s : State) : Host.Outcome State Fault Refusal :=
  .next (if s.now < s.ring.join.holdEnd then s else s.joinBegin)

/-- JOIN_HOLDOFF_EXPIRY (R478). -/
def execJoinHoldoffExpiry (s : State) : Host.Outcome State Fault Refusal :=
  .next (if s.isManager then s else (s.setJoin (fun j => { j with holdEnd := s.now })).joinBegin)

/-- JOIN_ATTEMPT_TIMEOUT (R476). -/
def execJoinAttemptTimeout (s : State) : Host.Outcome State Fault Refusal :=
  .next (
    if s.isManager || s.ring.join.joined || s.ring.join.step = 0 then s else s.joinFail)

/-- A JOIN_ACCEPT reaches the worker (R475, R480): number and generation, the manager's boot nonce, and the chain key
for vault slot 16 (R603). Its working side toward the manager is not carried by any message (free value, log 25). A
worker whose nonce is new ring-boots. -/
def State.onAccept (n gen : Nat) (nonce : BitVec 64) (chain : BitVec 128) (s : State) : State :=
  if s.isManager || s.ring.join.step ≠ 2 then s
  else
    let w := b2n ((Config.freeWord s.fresh).getLsbD 0)
    let boot := s.ring.join.newNonce
    let s1 := s.setJoin (fun j =>
      { j with gen := gen, mgrNonce := nonce, step := if boot then 4 else 5, image := [], imgDone := false })
    let s2 := { s1 with
      fresh := s1.fresh + 1
      cipher := { s1.cipher with dccChain := true, vault := Tab.set none s1.cipher.vault 16 (some chain) }
      ring := { s1.ring with node := n, working := Tab.set 0 s1.ring.working 0 w, peers := [] } }
    let s3 := { s2 with tide := { s2.tide with
      timingWest := s2.timingIsWest, timingNext := none, ranged := false
      rangers := Tab.set {} s2.tide.rangers 0 {} } }
    if boot then s3.dcc 0 .imgReq else s3

/-- JOIN_ACCEPT (R475, R602, R603). -/
def execJoinAccept (number : NodeNo) (a : JoinGrant) (s : State) : Host.Outcome State Fault Refusal :=
  .next (s.onAccept number.val a.gen.val a.nonce a.chain)

/-- A JOIN_REFUSE reaches the worker (R477): CHAIN_FULL holds off 60 s at once; after VERSION the next
attempt ring-boots. -/
def State.onRefuse (reason : Nat) (s : State) : State :=
  if s.isManager || s.ring.join.step ≠ 2 then s
  else
    let s1 := s.joinFail
    if reason = 1 then s1.setJoin (fun j => { j with holdoff := 60, holdEnd := s.now + 60 * secTicks })
    else if reason = 3 then s1.setJoin (fun j => { j with newNonce := true })
    else s1

/-- JOIN_REFUSE (R477). -/
def execJoinRefuse (reason : Nat) (s : State) : Host.Outcome State Fault Refusal :=
  .next (s.onRefuse reason)

/-- MANAGER_LOST (R483). -/
def execManagerLost (s : State) : Host.Outcome State Fault Refusal :=
  .next (
    if s.isManager || !s.ring.join.joined || s.ring.join.lostMgr then s
    else (s.setJoin (fun j => { j with lostMgr := true })).raise 396 (nodeObj s.self) 0)

/-- HELLO (R470, R481): a worker's to node 0; the manager's, with its boot nonce, to every node. -/
def execHello (s : State) : Host.Outcome State Fault Refusal :=
  .next (
    if s.isManager then s.dccBcast (.hello s.cipher.bootNonce)
    else if s.ring.join.joined then s.dcc 0 (.hello s.ring.join.nonce) else s)

/-! ### Ring boot (R480, R865 to R867) -/

/-- The blocks of the image served, 512 bytes each (Table QY-11): header and body, without the fill of its last data
unit (R607). -/
def State.imgBlocks (s : State) : List DccBody :=
  (chunksOf 512 (s.served.take (imgLength s.served + 512))).map (fun b => .imgBlock (padTo 512 b))

/-- Send the image served: to a worker in the numbered exchange; to a manager that has none (R865), which has lost that
exchange, on the side that its request came from. -/
def State.sendImage (d n : Nat) (s : State) : State :=
  s.imgBlocks.foldl (fun t b => if t.isManager then t.dcc n b else t.joinSend d n b) s

/-- IMG_REQ (R480, R865, R963): the blocks of the image served. -/
def execImgReq (n : NodeNo) (s : State) : Host.Outcome State Fault Refusal :=
  .next (s.sendImage (s.ring.sideOf n.val) n.val)

/-- Whether this node takes an image: a manager without one, a worker that ring-boots, a joined worker (R480, R865,
R867). -/
def State.wantsImage (s : State) : Bool :=
  if s.isManager then s.start.booting && s.start.fwState == 0 else s.ring.join.step == 4 || s.ring.join.joined

/-- A block is taken (R480, R865, R867), of one node's image: it is whole when the LENGTH in its header has come, and at
once where the header allows no image (its checks fail then). -/
def State.onBlock (n : Nat) (b : List Byte) (s : State) : State :=
  let j := s.ring.join
  if !s.wantsImage || j.imgDone || (!j.image.isEmpty && j.imgFrom != n) then s
  else
    let x := j.image ++ padTo 512 (b.take 512)
    let len := imgLength x + 512
    let fin := decide (bankSize < len) || decide (len ≤ x.length)
    s.setJoin (fun j => { j with image := if fin then x.take len else x, imgFrom := n, imgDone := fin })

/-! ### The DCC (R469) -/

/-- A peer is unreachable (R469, R470): on the manager that worker is gone. -/
def State.unreachable (n : Nat) (s : State) : State :=
  let s1 := s.rgEvent (s.ring.sideOf n) 16 0
  if s.isManager && s.joined n then s1.nodeLeave n
  else { s1 with ring := { s1.ring with peers := Tab.modify {} s1.ring.peers n (fun p =>
    { p with unacked := [], queue := [] }) } }

/-- DCC_RETRANSMIT (R469): the bytes of the original message (R601). -/
def execDccRetransmit (peer : NodeNo) (msgSeq : Nat) (s : State) : Host.Outcome State Fault Refusal :=
  .next (
    let n := peer.val
    let p : Peer := Tab.get {} s.ring.peers n
    match p.unacked.find? (fun u => u.msg.msgSeq == msgSeq) with
    | none => s
    | some u =>
      if 17 ≤ u.sends then s.unreachable n
      else
        let p1 : Peer := { p with unacked := p.unacked.map (fun x =>
          if x.msg.msgSeq = msgSeq then { x with sends := x.sends + 1, frame := s.tide.frame } else x) }
        let d := s.ring.sideOf n
        ({ s with ring := dccPut d true u.wire { s.ring with peers := Tab.set {} s.ring.peers n p1 } }).inc
          (rgCnt d 25))

/-- Send what waits toward a peer while fewer than eight messages are unacknowledged (R467); `fuel`
bounds the messages. -/
def State.pump (n : Nat) : Nat → State → State
  | 0, s => s
  | fuel + 1, s =>
    let p : Peer := Tab.get {} s.ring.peers n
    match p.queue with
    | [] => s
    | b :: t =>
      if 8 ≤ p.unacked.length then s
      else
        let s1 := { s with ring := { s.ring with peers := Tab.set {} s.ring.peers n { p with queue := t } } }
        State.pump n fuel (s1.dcc n b)

/-- An acknowledgement up to `ack` (R467, R468). -/
def State.dccAcked (n ack : Nat) (s : State) : State :=
  let p : Peer := Tab.get {} s.ring.peers n
  match p.unacked.findIdx? (fun u => u.msg.msgSeq == ack) with
  | none => s
  | some i =>
    let p1 : Peer := { p with unacked := p.unacked.drop (i + 1) }
    ({ s with ring := { s.ring with peers := Tab.set {} s.ring.peers n p1 } }).pump n 8

end Sys2Proof.Machine
end

