-- ==== Sys2Proof/Machine/Ledger.lean ====
section
/-!
DEFINITION. The audits of CELLS, RING_CREDITS and TOKENS at a frame boundary (R318 to R325, R329, R451).
-/

namespace Sys2Proof.Machine

/-- CELLS: the class counts add up to the cells of the pool (Table CL-5). -/
def Pool.cellsOk (p : Pool) : Bool := p.free + p.queued + p.staged + p.ring + p.test + p.cp == 262144

/-- The CELLS audit (R318, R324, R329): none during a recount. -/
def State.auditCells (s : State) : State :=
  if s.pool.recount then s
  else
    let s1 := { s with pool := { s.pool with latch := s.pool.now s.tide.frame } }
    if s.pool.cellsOk then s1 else (s1.breach 0 0 0).startRecount

/-- RING_CREDITS of one own link (R450): the equation. -/
def CreditLink.balanced (c : Nat) (l : CreditLink) : Bool := l.held + l.out == initCredit c

/-- Whether a link has containers outstanding and no return for 8 frames (R451). -/
def CreditLink.aged (bnd : Nat) (l : CreditLink) : Bool := l.out != 0 && decide (l.moved + 8 ≤ bnd)

/-- The audit of one own link (R451, R452). -/
def State.auditLink (n c : Nat) (s : State) : State :=
  let l := s.link_ s.self n c
  let d := s.ring.sideOf n
  if l.reinit || (l.balanced c && !l.aged s.bnd) then s
  else
    let s1 := s.breach 1 (sideObj s.self d) 0
    let s2 := if l.balanced c then s1.rgEvent d 15 0 else s1
    s2.reinitLink n c

/-- The audit of every own link. -/
def State.auditCredits (s : State) : State :=
  s.linkNodes.foldl (fun t n => (List.range 5).foldl (fun u c => u.auditLink n c) t) s

/-- The size of bucket B or A of a queue, none when it is disabled (R340). -/
def State.bucketSize (s : State) (q : Nat) (b : Bool) : Option Nat :=
  if q < 128 then
    let c := s.cfg.shaper (s.obj 2 q)
    if b || c.rateA = 0 then none else some c.sizeA
  else if 2048 ≤ q then
    let c := s.upShaper q
    if b then (if c.rateB = 0 then none else some c.sizeB) else (if c.rateA = 0 then none else some c.sizeA)
  else if 1024 ≤ q ∧ q < 1144 then (if b || s.ringCir q = 0 then none else some 16384)
  else none

/-- Whether a bucket holds more than its size: a TOKENS breach (Table CL-5). -/
def overSize (size : Option Nat) (b : Bucket) : Bool :=
  match size with
  | none => false
  | some n => decide (n * byteUnits < b.tok)

/-- Repair of TOKENS: the bucket is set to its size (Table CL-6). -/
def clipTo (size : Option Nat) (b : Bucket) : Bucket :=
  match size with
  | none => b
  | some n => { b with tok := min b.tok (n * byteUnits) }

/-- The TOKENS audit of a queue. -/
def State.auditQueue (s : State) (q : Nat) : State :=
  let x := s.queue q
  let a := s.bucketSize q false
  let b := s.bucketSize q true
  if overSize a x.bktA || overSize b x.bktB then
    (s.breach 2 (s.obj 2 q) 0).modQueue q (fun x => { x with bktA := clipTo a x.bktA, bktB := clipTo b x.bktB })
  else s

/-- The TOKENS audit of a policer. -/
def State.auditPolicer (s : State) (k : Nat) : State :=
  let x : PolicerState := Tab.get {} s.sched.policers k
  let c := s.cfg.policer (s.obj 3 k)
  let a := if c.enable && c.cir != 0 then some c.cbs else none
  let b := if c.enable && c.pir != 0 then some c.pbs else none
  if overSize a x.c || overSize b x.p then
    let s1 := s.breach 2 (s.obj 3 k) 0
    { s1 with sched := { s1.sched with
      policers := Tab.set {} s1.sched.policers k { c := clipTo a x.c, p := clipTo b x.p } } }
  else s

/-- The TOKENS audit. -/
def State.auditTokens (s : State) : State :=
  (s.sched.policers.map (·.1)).foldl State.auditPolicer
    ((s.pool.queues.map (·.1)).foldl State.auditQueue s)

end Sys2Proof.Machine
end

