-- ==== Sys2Proof/Machine/Operands.lean ====
section
/-!
DEFINITION. Operands of the commands: the fields of a request's payload (R10) and object IDs (R654).
-/

namespace Sys2Proof.Machine

/-- Little-endian fields of a payload at a byte offset (R10). -/
def u8 (p : List Byte) (o : Nat) : Nat := (p.getD o 0).toNat
def u16 (p : List Byte) (o : Nat) : Nat := leNat ((p.drop o).take 2)
def u32 (p : List Byte) (o : Nat) : Nat := leNat ((p.drop o).take 4)
def u64 (p : List Byte) (o : Nat) : Nat := leNat ((p.drop o).take 8)

/-- A signed byte. -/
def i8 (p : List Byte) (o : Nat) : Int := if u8 p o < 128 then u8 p o else (u8 p o : Int) - 256

/-- `n` bytes from an offset. -/
def bytesAt (p : List Byte) (o n : Nat) : List Byte := (p.drop o).take n

/-- Whether `n` bytes from an offset are zero (R9, R666). -/
def zeroAt (p : List Byte) (o n : Nat) : Bool := (bytesAt p o n).all (fun b => b == 0)

/-- The key of a field of 16 bytes, first key byte first (Table CB-2). -/
def keyAt (p : List Byte) (o : Nat) : BitVec 128 := BitVec.ofNat 128 (beNat (bytesAt p o 16))

/-- Node, class and index of an object ID (R654). -/
def objNode (o : Nat) : Nat := o / 2 ^ 28
def objCls (o : Nat) : Nat := o / 2 ^ 24 % 16
def objIdx (o : Nat) : Nat := o % 2 ^ 24

/-- Whether an index lies within Table HM-8. -/
def idxOk (cls i : Nat) : Bool :=
  match cls with
  | 0x1 => decide (i < 16)
  | 0x2 => decide (i < 4096)
  | 0x3 => decide (i < 1024)
  | 0x4 => decide (i < 4096)
  | 0x6 => decide (i < 16)
  | 0x7 => decide (i < 8)
  | 0x8 => decide (i < 8)
  | 0x9 => decide (i < 128)
  | 0xA => decide (i < 65536)
  | 0xB => decide (i < 0x120)
  | 0xC => decide (i < 256)
  | 0xD => decide (i < 32)
  | 0xE => decide (i < 4) || i == 0x10 || i == 0x11
  | 0xF => decide (i < 65536)
  | _ => false

/-- Whether a number is an object ID (R654). -/
def objOk (o : Nat) : Bool := decide (o < 2 ^ 32) && idxOk (objCls o) (objIdx o)

/-- Whether a number is an object ID of a class. -/
def objIs (cls o : Nat) : Bool := objOk o && objCls o == cls

/-- A Tide word whose tick lies within its frame (R693, R753). -/
def tideOk (w : Nat) : Bool := decide (w % 2 ^ 20 < frameTicks)

/-- The unused queue numbers and those that commands may not name (Table CL-3, R295, R689). -/
def queueNamed (node q : Nat) : Bool :=
  decide (q < 128) || (decide (1024 ≤ q) && decide (q < 1144)) || (decide (1200 ≤ q) && decide (q < 1216))
  || (decide (1536 ≤ q) && decide (q < 1792)) || (decide (2048 ≤ q) && decide (q < 4096) && node == 0)

/-- Whether a ring egress queue leads from a worker to another worker (R424). -/
def queueAstray (node q : Nat) : Bool :=
  node != 0 && decide (1024 ≤ q) && decide (q < 1144) && (q - 1024) % 60 / 4 != 0

end Sys2Proof.Machine
end

