-- ==== Sys2Proof/Machine/Flags.lean ====
section
/-!
DEFINITION. The status registers of the host map as they read: identification, global status, mirrors,
Tide, ledger, mailbox, event and snapshot registers.
-/

namespace Sys2Proof.Machine

/-! ### Identification (Tables PD-5 to PD-8) -/

def State.idPart (s : State) : Nat := fld (if s.start.part4410 then 0x4410 else 0x4416) 16 + 0x1F5E
def idStep : Nat := 0x21
def State.idCap (s : State) : Nat :=
  fld 64 24 + fld 32 16 + fld 15 8 + fld 4 4 + flag true 1 + flag (!s.start.part4410) 0

/-! ### Global status (Table HM-3) -/

def State.glbStatus (s : State) : Nat :=
  fld s.self 28 + flag s.isManager 27 + fld (if s.power.state = .idle then 1 else 0) 24
  + fld s.start.fwState 20 + flag s.start.image 19 + flag s.start.unconfirmed 18 + flag s.start.fallback 17
  + flag s.cistern.dgReady 16 + flag s.host.mbxReady 1 + flag s.host.pcieUp 0

/-! ### Status mirrors -/

/-- CLK_STATUS (Table CK-7). -/
def State.clkStatus (s : State) : Nat :=
  let c := s.clk
  fld c.xoRestarts 24 + fld c.xoThr 16 + flag c.pcieRef 8 + flag c.ethRef 7 + flag c.cpOnRef 6
  + flag c.coreSave 5 + flag c.refSrc 4 + flag c.steered 3 + flag c.rootLock 2 + flag c.xoOk 1
  + flag c.aonCal 0

/-- CS_STATUS (Table CS-5). Ball voltages are held in mV. -/
def State.csStatus (s : State) : Nat :=
  let c := s.cistern
  fld (min 0xFFF (c.storeBall * c.settings.storeDiv / 20000)) 20
  + fld (min 0xFFF (c.vinBall * c.settings.vinDiv / 10000)) 8
  + flag (c.run != 0) 5 + flag c.probe 4 + flag c.absent 3 + flag c.charging 2 + flag c.dgReady 1
  + flag c.vinOk 0

/-- CS_LSW (Table CS-6). -/
def State.csLsw (s : State) : Nat :=
  ((List.range 4).map (fun k =>
    let x := s.lsw k
    fld (fld x.state.code 5 + flag x.pg 4 + min 8 x.fails) (8 * k))).sum

/-- SP_LINK_MAP (Table SP-5); a gated port reads zero (R104). -/
def State.linkMap (s : State) : Nat :=
  ((List.range 16).map (fun p =>
    if s.clocked (8 + p) then flag (s.portCfg p).enable (16 + p) + flag (s.port p).link p else 0)).sum

/-- CY_STATUS (Table CY-4). -/
def State.cyStatus (s : State) : Nat :=
  let c := s.cipher
  fld (c.mskLoaded % 16) 12 + flag c.dccChain 9 + flag c.storeOk 8 + flag c.drbgReady 1
  + flag c.entropyOk 0

/-! ### Tide (Table TD-5) and the ledger (Table CL-8) -/

def State.tideStatus (s : State) : Nat :=
  fld (min 0xFFFFFF (if s.tide.state = .holdover then s.tide.holdAge s.now else 0)) 8
  + fld s.tide.stepCnt 4 + fld s.tide.anchor 2 + s.tide.state.code

/-- The nine ledger registers, in address order. LEDGER_FREE to LEDGER_CP read the latched values
(R329). -/
def State.ledgerReg (s : State) (k : Nat) : Nat :=
  let p := s.pool
  match k with
  | 0 => fld (p.latch.frame % 2 ^ 16) 16 + flag p.recount 4 + flag p.grantBrk 3 + flag p.tokenBrk 2
      + flag p.creditBrk 1 + flag p.cellBrk 0
  | 1 => p.latch.free
  | 2 => p.latch.queued
  | 3 => p.latch.staged
  | 4 => p.latch.ring
  | 5 => p.latch.test
  | 6 => p.latch.cp
  | 7 => fld p.recounts 16 + p.breaches
  | _ => p.retired

/-! ### Mailboxes (Table HM-4) -/

def Mbx.ptr (b : Mbx) : Nat :=
  flag b.txn.isSome 18 + flag b.session 17 + flag b.stalled 16 + fld b.rplProd 8 + b.reqCons
def Mbx.err (b : Mbx) : Nat := fld b.lastIgnOpc 16 + fld b.ignored 8 + b.dropped

/-- A register of mailbox n at an offset. -/
def Mbx.reg (b : Mbx) (off : Nat) : Nat :=
  match off with
  | 0 => b.reqProd
  | 4 => b.rplCons
  | 8 => b.ptr
  | _ => b.err

/-- MBX_RPL_PEND: mailbox n has unread replies. -/
def State.rplPend (s : State) (lo n : Nat) : Nat :=
  ((List.range n).map (fun m => flag ((s.box (lo + m)).rplProd != (s.box (lo + m)).rplCons) m)).sum

/-! ### Events and the snapshot window (Tables EV-3, EV-9) -/

/-- COUNT and OVF of a FIFO (Table EV-4). -/
def fifoStat (n : Nat) (ovf : Bool) : Nat := flag ovf 16 + n

/-- EVT_SUMMARY. -/
def Events.summary (e : Events) : Nat :=
  ((List.range 20).map (fun g => flag (e.groupPending g) g)).sum + flag (e.nodeSummary != 0) 31

/-- A register of the event block; FIFO DATA registers and what is not named read zero here. -/
def Events.reg (e : Events) (a : Nat) : Nat :=
  if a < 0x1050 then (Tab.get 0 e.status ((a - 0x1000) / 4)).toNat
  else if 0x1080 ≤ a ∧ a < 0x10D0 then (Tab.get 0 e.enable ((a - 0x1080) / 4)).toNat
  else if 0x1100 ≤ a ∧ a < 0x1150 then (Tab.get 0 e.route ((a - 0x1100) / 4)).toNat
  else if a = 0x1154 then fifoStat e.qthFifo.length e.qthOvf
  else if a = 0x115C then fifoStat e.cntFifo.length e.cntOvf
  else if a = 0x1160 then e.nodeRoute.toNat
  else if a = 0x1180 then e.summary
  else if a = 0x1184 then e.nodeSummary
  else 0

/-- A register of the snapshot window. -/
def Snapshot.reg (x : Snapshot) (a : Nat) : Nat :=
  if a = 0x2000 then x.tide % 2 ^ 32
  else if a = 0x2004 then x.tide / 2 ^ 32
  else if a = 0x2008 then x.seq.toNat
  else if a = 0x200C then x.winObj
  else if a = 0x2010 then x.winCount
  else if a < 0x2040 then 0
  else
    let v := x.vals.getD ((a - 0x2040) / 8) 0
    if a % 8 = 0 then v % 2 ^ 32 else v / 2 ^ 32

/-- A word of the MSI-X table (four words a vector; bit 0 of the fourth masks it) or the pending bit
array (R617, as PCI Express gives). -/
def HostIf.msixReg (h : HostIf) (a : Nat) : Nat :=
  if a < 0x3080 then
    (if a % 16 = 12 then b2n (bit h.msixMask ((a - 0x3000) / 16))
     else (Tab.get 0 h.msixTab ((a - 0x3000) / 4)).toNat)
  else if a = 0x3100 then h.msixPend else 0

/-- A word of a mailbox window; the craft mailbox's window reads zero (R626). -/
def HostIf.winReg (h : HostIf) (a : Nat) : Nat :=
  let w := a - 0x10000
  if 33 ≤ w / 4096 then 0
  else leNat ((List.range 4).map (fun i => Tab.get 0 h.win (w + i)))

/-- What a register of the block behind CLK_GATE bit `k` reads as: zero while the block is gated or its clock has not
started (R104, R105). -/
def State.ifClocked (s : State) (k v : Nat) : Nat := if s.clocked k then v else 0

/-- A register of the host map (Table HM-1) as it reads, without the side effects of a read; what no
table names reads zero (R625). -/
def State.reg (s : State) (a : Nat) : Nat :=
  if 0x40000 ≤ a then 0
  else if 0x10000 ≤ a then s.host.winReg a
  else if a % 4 ≠ 0 then 0
  else if a = 0 then s.idPart
  else if a = 4 then idStep
  else if a = 8 then s.idCap
  else if a = 0xC then 0x41584E56
  else if a = 0x10 then s.start.serialNum.toNat / 16 * 16
  else if a = 0x100 then s.glbStatus
  else if a = 0x104 then s.host.heartbeat.toNat
  else if a = 0x140 then s.clkStatus
  else if a = 0x144 then s.clk.gate.toNat
  else if a = 0x148 then s.csStatus
  else if a = 0x14C then s.csLsw
  else if 0x150 ≤ a ∧ a < 0x160 then s.ifClocked ((a - 0x150) / 4) (s.lane ((a - 0x150) / 4)).mirror.toNat
  else if a = 0x160 then s.ifClocked 4 (s.side 0).mirror.toNat
  else if a = 0x164 then s.ifClocked 5 (s.side 1).mirror.toNat
  else if a = 0x168 then s.craft.mirror 0
  else if a = 0x16C then s.craft.mirror 1
  else if a = 0x170 then s.linkMap
  else if a = 0x174 then s.ifClocked 28 (s.craft.mirror 2)
  else if a = 0x178 then s.pfReg
  else if 0x180 ≤ a ∧ a < 0x1A0 then s.ifClocked 6 (s.e1 ((a - 0x180) / 4)).mirror.toNat
  else if a = 0x1A0 then s.cyStatus
  else if a = 0x200 then s.tide.word % 2 ^ 32
  else if a = 0x204 then s.tide.hi.toNat
  else if a = 0x208 then s.tideStatus
  else if 0x300 ≤ a ∧ a ≤ 0x320 then s.ledgerReg ((a - 0x300) / 4)
  else if 0x400 ≤ a ∧ a < 0x620 then (s.box ((a - 0x400) / 16)).reg (a % 16)
  else if a = 0x620 then s.rplPend 0 32
  else if a = 0x624 then s.rplPend 32 1
  else if 0x1000 ≤ a ∧ a < 0x1188 then s.evt.reg a
  else if 0x2000 ≤ a ∧ a < 0x3000 then s.snap.reg a
  else if 0x3000 ≤ a ∧ a < 0x3108 then s.host.msixReg a
  else 0

end Sys2Proof.Machine
end

