-- ==== Sys2Proof/Machine/View.lean ====
section
/-!
DEFINITION. The staged view: the configuration with settings applied in SEQ order (R644, R662), owners
of objects (R23, R709) and the nodes that a command touches (R400, R663).
-/

namespace Sys2Proof.Machine

/-- The bonding group of a configuration that has local index `a`, with its number. -/
def LineCfg.groupOf (c : LineCfg) (a : Nat) : Option (Nat × GroupCfg) :=
  if c.bonded then c.groups.find? (fun x => x.2.index == a) else none

/-- ALLOC_MAP_SET (R697): a group index sets or removes the member on the lane, any other index replaces
its single mapping. -/
def Cfg.putAlloc (c : Cfg) (a lane : Nat) (id : Option Nat) (rate runahead gw gi : Nat) : Cfg :=
  let x := c.alloc a
  let maps := if (c.line.groupOf a).isSome then Tab.set none x.maps lane id else Tab.set none [] lane id
  let after : AllocCfg :=
    { maps := maps, allocRate := rate, runahead := runahead, gw := gw, gi := gi }
  { c with allocs := Tab.set {} c.allocs a after }

/-- BERTH_SET (Table CA-7). -/
def Cfg.putBerth (c : Cfg) (b op : Nat) (quota : Option Nat) (objs : List Nat) : Cfg :=
  let c1 := match quota with
    | none => c
    | some n => { c with quota := Tab.set 262144 c.quota b n }
  match op with
  | 1 => { c1 with owner := objs.foldl (fun t o => Tab.set 0 t o (b + 1)) c1.owner }
  | 2 => { c1 with owner := objs.foldl (fun t o => Tab.set 0 t o 0) c1.owner }
  | _ => c1

/-- Apply one setting. -/
def Setting.apply (x : Setting) (c : Cfg) : Cfg :=
  match x with
  | .berth b op quota objs => c.putBerth b op quota objs
  | .line l => { c with line := l }
  | .lane l v _ => { c with lanes := Tab.set none c.lanes l (some v) }
  | .ring v => { c with ring := v }
  | .port o v => { c with ports := Tab.set {} c.ports o v }
  | .queue o v => { c with queues := Tab.set {} c.queues o v }
  | .sched o v => { c with sched := Tab.set {} c.sched o v }
  | .shaper o v => { c with shapers := Tab.set {} c.shapers o v }
  | .gate o v => { c with gates := Tab.set {} c.gates o v }
  | .policer o v => { c with policers := Tab.set {} c.policers o v }
  | .classifier o v => { c with classes := Tab.set {} c.classes o v }
  | .alloc o ln i rate runahead gw gi => c.putAlloc (objIdx o) ln i rate runahead gw gi
  | .xgem o v => { c with xgems := Tab.set {} c.xgems (objIdx o) v }
  | .mcast o v => { c with mcasts := Tab.set {} c.mcasts o v }
  | .pool n v => { c with pools := Tab.set none c.pools n (some v) }
  | .e1 o v => { c with e1s := Tab.set {} c.e1s o v }
  | .ces o v => { c with ces := Tab.set {} c.ces o v }
  | .cistern n v => { c with cistern := Tab.set {} c.cistern n v }
  | .tide v => { c with tide := v }

/-- Apply staged commands in SEQ order. -/
def Cfg.applyAll (c : Cfg) (l : List StagedCmd) : Cfg := l.foldl (fun c x => x.setting.apply c) c

/-- The accepted configuration: the committed one with every accepted commit (R397, R662). -/
def State.acceptedCfg (s : State) : Cfg := s.host.accepted.foldl (fun c a => c.applyAll a.staged) s.cfg

/-- The staged view of a mailbox (R662). -/
def State.view (s : State) (m : Nat) : Cfg :=
  match (s.box m).txn with
  | none => s.acceptedCfg
  | some t => s.acceptedCfg.applyAll t.staged

/-- The nodes that a staged command concerns; a command for every node concerns the joined workers
(Table CA-12's RING_SET). -/
def StagedCmd.nodes (x : StagedCmd) (joined : List Nat) : List Nat :=
  match x.setting with
  | .berth _ _ _ objs => (objs.map objNode).dedup
  | .line _ => [0]
  | .lane _ _ _ => [0]
  | .ring _ => 0 :: joined
  | .port o _ => [objNode o]
  | .queue o _ => [objNode o]
  | .sched o _ => [objNode o]
  | .shaper o _ => [objNode o]
  | .gate o _ => [objNode o]
  | .policer o _ => [objNode o]
  | .classifier o _ => [objNode o]
  | .alloc _ _ _ _ _ _ _ => [0]
  | .xgem _ _ => [0]
  | .mcast o _ => [objNode o]
  | .pool n _ => [n]
  | .e1 o _ => [objNode o]
  | .ces o _ => [objNode o]
  | .cistern n _ => [n]
  | .tide _ => 0 :: joined

/-- The worker nodes that staged commands concern, in ascending order. -/
def workersOf (l : List StagedCmd) (joined : List Nat) : List Nat :=
  (List.range 16).filter (fun n => n != 0 && l.any (fun x => (x.nodes joined).contains n))

/-- The owner of a counter block (R709): berth m owns the counters of mailbox m, every other block goes
with its object. -/
def Cfg.counterOwner (c : Cfg) (node i : Nat) : Nat :=
  if i < 0x400 then c.ownerOf (objId node 1 (i / 64))
  else if i < 0x500 then c.ownerOf (objId node 7 ((i - 0x400) / 32))
  else if i < 0x600 then 0
  else if i < 0x700 then (i - 0x600) / 8 + 1
  else if i < 0x1000 then 0
  else if i < 0x1800 then c.ownerOf (objId node 9 ((i - 0x1000) / 16))
  else if i < 0x2000 then 0
  else if i < 0x4000 then c.ownerOf (objId node 3 ((i - 0x2000) / 8))
  else if i < 0x4100 then c.ownerOf (objId node 0xC (i - 0x4000))
  else if i < 0x8000 then 0
  else if i < 0xC000 then c.ownerOf (objId node 2 ((i - 0x8000) / 4))
  else 0

/-- The owner of an object, 0 the operator, otherwise berth plus one. -/
def Cfg.owns (c : Cfg) (o : Nat) : Nat :=
  if objCls o = 0xF then c.counterOwner (objNode o) (objIdx o) else c.ownerOf o

/-- Whether mailbox `m` may name an object (R641, R659). -/
def Cfg.inScope (c : Cfg) (m o : Nat) : Bool := decide (32 ≤ m) || c.owns o == m + 1

end Sys2Proof.Machine
end

