-- ==== Sys2Proof/Machine/Admit.lean ====
section
/-!
DEFINITION. Admission: the checks of Table AD-1, the refusal of a commit, and the re-run that sheds and
restores objects (chapter on deadlines and admission).
-/

namespace Sys2Proof.Machine

/-- A failure of a check for an object (Table AD-2). -/
structure Fail where
  check  : Nat
  reason : Nat
  unit   : Nat
  object : Nat
  limit  : Nat
  requested : Nat
  aux    : Nat
  deriving DecidableEq, Repr

/-! ### Largest accounted lengths (R403) -/

/-- MAX_LEN of a port of a node in a configuration. -/
def Cfg.maxLen (c : Cfg) (node p : Nat) : Nat := (c.port (objId node 1 p)).maxLen

/-- A length with an overhead. -/
def withOvh (n : Nat) (ovh : Int) : Nat := ((n : Int) + ovh).toNat

/-- L_max of an egress queue. -/
def Cfg.lmaxDown (c : Cfg) (node q : Nat) : Nat :=
  withOvh (c.maxLen node (q / 8)) ((c.schedOf (objId node 1 (q / 8))).ovhOr 20)

/-- The largest MAX_LEN over the ingress ports of an entry. -/
def Cfg.entryMax (c : Cfg) (o : Nat) (e : ClassCfg) : Nat :=
  ((List.range 16).map (fun p => if bit e.ports p then c.maxLen (objNode o) p else 0)).foldl max 0

/-- The valid classifier entries. -/
def Cfg.entries (c : Cfg) : List (Nat × ClassCfg) := c.classes.filter (fun x => x.2.valid)

/-- L_max of an upstream queue, none when no entry feeds it. -/
def Cfg.lmaxUp (c : Cfg) (q : Nat) : Option Nat :=
  match c.entries.filter (fun x => x.2.queue == q) with
  | [] => none
  | l => some (withOvh ((l.map (fun x => c.entryMax x.1 x.2)).foldl max 0)
      ((c.schedOf (objId 0 9 ((q - 2048) / 16))).ovhOr 8))

/-- The largest MAX_LEN among the destination ports of an XGEM mapping. -/
def Cfg.xgemMax (c : Cfg) (x : XgemCfg) : Nat :=
  match x.destKind with
  | 0 => c.maxLen x.destNode x.destIndex
  | 1 => 0
  | _ =>
    ((List.range 16).map (fun n =>
      let g := c.mcast (objId n 0xC x.destIndex)
      if n = 0 ∨ bit (c.mcast (objId 0 0xC x.destIndex)).nodeMask n then
        (g.members.map (fun m => c.maxLen n m.1)).foldl max 0 else 0)).foldl max 0

/-- L_max of a policer. -/
def Cfg.lmaxPol (c : Cfg) (o : Nat) (v : PolicerCfg) : Option Nat :=
  let e := (c.entries.filter (fun x => objId (objNode x.1) 3 x.2.policer == o)).map (fun x =>
    c.entryMax x.1 x.2)
  let g := (c.xgems.filter (fun x => x.2.valid && objId 0 3 x.2.policer == o)).map (fun x => c.xgemMax x.2)
  if e.isEmpty && g.isEmpty then none else some (withOvh ((e ++ g).foldl max 0) v.ovh)

/-! ### Checks 1 to 4 -/

/-- The open windows of class `k`: maximal cyclic runs of open entries, of a list that starts after a
closed entry. `run` is the length of the run so far. -/
def openRuns (k : Nat) : Nat → List (Nat × Nat) → List Nat
  | run, [] => if run = 0 then [] else [run]
  | run, (n, m) :: t =>
    if bit m k then openRuns k (run + n) t
    else if run = 0 then openRuns k 0 t else run :: openRuns k 0 t

/-- The entries from the first one that closes class `k` on. -/
def fromClosed (k : Nat) (l : List (Nat × Nat)) : List (Nat × Nat) :=
  let i := l.findIdx (fun x => !bit x.2 k)
  l.drop i ++ l.take i

/-- Check 1 for one class of one list. -/
def Cfg.gateFail (c : Cfg) (o k : Nat) : Option Fail :=
  let g := c.gate o
  let pc := c.port (objId (objNode o) 1 (objIdx o))
  let rate := rateBits pc.rate
  let need := guardBand ((c.queue (objId (objNode o) 2 (8 * objIdx o + k))).gateMax pc.maxLen) rate
    + ceilDiv (72 * 8 * tickHz) rate
  if !g.enable || !gateCloses (some g) k then none
  else
    match (openRuns k 0 (fromClosed k g.entries)).min? with
    | none => none
    | some w =>
      if w < need then
        some { check := 1, reason := 0x0101, unit := 1, object := o, limit := need, requested := w, aux := k }
      else none

/-- Check 1. -/
def Cfg.check1 (c : Cfg) : List Fail :=
  c.gates.flatMap (fun x => (List.range 8).filterMap (fun k => c.gateFail x.1 k))

/-- Check 2. -/
def Cfg.check2 (c : Cfg) : List Fail :=
  c.shapers.filterMap (fun x =>
    let need := c.lmaxDown (objNode x.1) (objIdx x.1) + ceilDiv (x.2.rateA * 256) (tickHz * 8)
    if decide (objIdx x.1 < 128) && x.2.rateA != 0 && decide (x.2.sizeA < need) then
      some { check := 2, reason := 0x0201, unit := 3, object := x.1, limit := need, requested := x.2.sizeA
             aux := 0 }
    else none)

/-- A bucket that is smaller than L_max (check 3). -/
def sizeFail (o lmax rate size : Nat) : Option Fail :=
  if rate != 0 && decide (size < lmax) then
    some { check := 3, reason := 0x0301, unit := 3, object := o, limit := lmax, requested := size, aux := 0 }
  else none

/-- Check 3. -/
def Cfg.check3 (c : Cfg) : List Fail :=
  c.shapers.flatMap (fun x =>
    if objIdx x.1 < 128 then (sizeFail x.1 (c.lmaxDown (objNode x.1) (objIdx x.1)) x.2.rateA x.2.sizeA).toList
    else
      match c.lmaxUp (objIdx x.1) with
      | none => []
      | some l => (sizeFail x.1 l x.2.rateA x.2.sizeA).toList ++ (sizeFail x.1 l x.2.rateB x.2.sizeB).toList)
  ++ c.policers.flatMap (fun x =>
    match c.lmaxPol x.1 x.2 with
    | none => []
    | some l => if x.2.enable then
        (sizeFail x.1 l x.2.cir x.2.cbs).toList ++ (sizeFail x.1 l x.2.pir x.2.pbs).toList else [])

/-- Check 4. -/
def State.check4 (s : State) (c : Cfg) : List Fail :=
  (List.range 4).filterMap (fun l =>
    let n := (c.allocs.map (fun x => if (Tab.get none x.2.maps l).isSome then x.2.allocRate else 0)).sum
    if s.perFrame < n then
      some { check := 4, reason := 0x0401, unit := 5, object := objId 0 0xE l, limit := s.perFrame
             requested := n, aux := l }
    else none)

/-! ### Ring routes (R403: T_ring, check 7) -/

/-- The joined nodes in ring order, eastward from the manager. -/
def State.ringOrder (s : State) : List Nat :=
  0 :: (s.joinedNodes.map (fun n => (s.eastHops n, n))).foldl (fun l x =>
    l.filter (fun y => decide (s.eastHops y < x.1)) ++ [x.2]
      ++ l.filter (fun y => decide (x.1 ≤ s.eastHops y))) []

/-- The broken span, as the eastward position of its far end, if the ring is wrapped: next to the
manager, or where an accepted request says (R460). -/
def State.broken (s : State) : Option Nat :=
  let n := s.joinedNodes.length + 1
  let far (d : Nat) : Option Nat :=
    let x := s.side d
    if 3 ≤ x.reqRx ∧ x.spanFar ≠ 0 then some (s.eastHops x.spanFar) else none
  if (s.side 0).wrapped then some 1
  else if (s.side 1).wrapped then some n
  else
    match far 0 with
    | some k => some k
    | none => (far 1).map (fun k => k + 1)

/-- The outgoing links, as position and side, from position `i` over `k` links on side `d` of a ring of
`n` nodes. -/
def linksFrom (n d : Nat) : Nat → Nat → List (Nat × Nat)
  | _, 0 => []
  | i, k + 1 => (i, d) :: linksFrom n d (if d = 0 then (i + 1) % n else (i + n - 1) % n) k

/-- The links from position `i` toward position `j` out of side `d`, over a ring of `n` nodes with the
span before eastward position `b` broken, if any: turned there, a container goes round the other way. -/
def routeLinks (n : Nat) (b : Option Nat) (d i j : Nat) : List (Nat × Nat) :=
  let dist := if d = 0 then (j + n - i) % n else (i + n - j) % n
  match b with
  | none => linksFrom n d i dist
  | some k =>
    let last := if d = 0 then (k + n - 1) % n else k % n
    let upto := if d = 0 then (last + n - i) % n else (i + n - last) % n
    if dist ≤ upto then linksFrom n d i dist
    else linksFrom n d i upto
      ++ linksFrom n (1 - d) last (if d = 0 then (last + n - j) % n else (j + n - last) % n)

/-- The position of a node on the ring. -/
def State.posOf (s : State) (node : Nat) : Nat := s.ringOrder.idxOf node

/-- The links of a ring egress queue's route: of the manager toward node `m`, or of worker `m` toward the
manager, out of side `d`. -/
def State.queueRoute (s : State) (node m d : Nat) : List (Nat × Nat) :=
  routeLinks s.ringOrder.length s.broken d (s.posOf node) (s.posOf m)

/-- The side out of which worker `n` reaches the manager (R423). -/
def State.sideBack (s : State) (n : Nat) : Nat := if s.westHops n ≤ s.eastHops n then 0 else 1

/-- T_ring of a worker in nanoseconds. -/
def State.ringDelay (s : State) (n : Nat) : Nat :=
  let k := (s.queueRoute n 0 (s.sideBack n)).length
  350 * k + 150 * (k - 1)

/-! ### Checks 5 and 9: circuits -/

/-- The circuits in service: enabled and not excluded as shed (R414). -/
def Cfg.circuits (c : Cfg) (excl : List Nat) : List (Nat × CesCfg) :=
  c.ces.filter (fun x => x.2.enable && !excl.contains x.1)

def Cfg.framedOf (c : Cfg) (o : Nat) : Bool := (c.e1 (objId (objNode o) 7 (objIdx o))).framed

/-- W_pkt of a circuit on an Alloc-ID index (R543). -/
def Cfg.packetWords (c : Cfg) (o : Nat) (v : CesCfg) : Nat :=
  ceilDiv (storedLen (c.framedOf o) v + 4) 4 + 2
  + b2n (c.line.groupOf ((v.upQueue - 2048) / 16)).isSome

/-- The words that the circuits of an Alloc-ID index need in an interval. -/
def Cfg.circuitWords (c : Cfg) (excl : List Nat) (a : Nat) : Nat :=
  (((c.circuits excl).filter (fun x => (x.2.upQueue - 2048) / 16 == a)).map (fun x =>
    ceilDiv (max 1 (c.alloc a).gi) x.2.pktFrames * c.packetWords x.1 x.2)).sum

/-- Check 5 for one circuit. For CES_NOT_STRICT the manual names no unit: the queue number in its index
against NSTRICT, with no unit (DESIGN CHOICE, log 30). -/
def State.check5one (s : State) (c : Cfg) (excl : List Nat) (o : Nat) (v : CesCfg) : Option Fail :=
  let a := (v.upQueue - 2048) / 16
  let q := (v.upQueue - 2048) % 16
  let al := c.alloc a
  let strict := (c.schedOf (objId 0 9 a)).nstrict
  let ring := if objNode o = 0 then 0 else ceilDiv (s.ringDelay (objNode o) * 62208) 10000
  let need := (al.gi + v.pktFrames) * frameTicks + ring
  let words := c.circuitWords excl a
  if al.gi = 0 then
    some { check := 5, reason := 0x0503, unit := 6, object := o, limit := 0, requested := words, aux := 0 }
  else if strict ≤ q then
    some { check := 5, reason := 0x0501, unit := 0, object := o, limit := strict, requested := q, aux := 0 }
  else if v.deadline * frameTicks < need then
    some { check := 5, reason := 0x0502, unit := 1, object := o, limit := v.deadline * frameTicks
           requested := need, aux := 0 }
  else if al.gw < words then
    some { check := 5, reason := 0x0503, unit := 6, object := o, limit := al.gw, requested := words, aux := 0 }
  else none

/-- Check 5. -/
def State.check5 (s : State) (c : Cfg) (excl : List Nat) : List Fail :=
  (c.circuits excl).filterMap (fun x => s.check5one c excl x.1 x.2)

/-- Jitter-buffer cells of a circuit (R547). -/
def Cfg.jbOf (c : Cfg) (o : Nat) (v : CesCfg) : Nat := jbCells (c.framedOf o) v

/-- Retired cells of a node: the manager does not hold a worker's (DESIGN CHOICE, log 31: none). -/
def State.retiredOf (s : State) (n : Nat) : Nat := if n = s.self then s.pool.retired else 0

/-- Nodes with a pool to check: the manager and every node that the configuration names. -/
def Cfg.poolNodes (c : Cfg) : List Nat :=
  (0 :: (c.pools.map (·.1) ++ c.ces.map (fun x => objNode x.1))).dedup

/-- Check 9 (a) and (b) for a node. -/
def State.check9node (s : State) (c : Cfg) (excl : List Nat) (n : Nat) : List Fail :=
  let p := c.pool n
  let sum := p.minDown + p.minUp + p.minRing + p.minCp
  let room := 262144 - s.retiredOf n
  let jb := (((c.circuits excl).filter (fun x => objNode x.1 == n)).map (fun x => c.jbOf x.1 x.2)).sum
  (if room < sum then
    [{ check := 9, reason := 0x0901, unit := 4, object := objId n 0 0, limit := room, requested := sum
       aux := 0 }] else [])
  ++ (if p.minDown < jb then
    [{ check := 9, reason := 0x0902, unit := 4, object := objId n 0 0, limit := p.minDown, requested := jb
       aux := 0 }] else [])

/-- Check 9. -/
def State.check9 (s : State) (c : Cfg) (excl : List Nat) : List Fail :=
  let p := c.pool 0
  let sum := if c.line.bonded then (c.line.groups.map (fun g => g.2.reorderMax)).sum else 0
  let room := 262144 - s.retiredOf 0 - p.minUp - p.minRing - p.minCp
  c.poolNodes.flatMap (fun n => s.check9node c excl n)
  ++ (c.circuits excl).filterMap (fun x =>
    let jb := c.jbOf x.1 x.2
    let o := c.ownerOf x.1
    if o != 0 && decide (c.quotaOf (o - 1) < jb) then
      some { check := 9, reason := 0x0903, unit := 4, object := x.1, limit := c.quotaOf (o - 1)
             requested := jb, aux := 0 }
    else none)
  ++ (if room < sum then
    [{ check := 9, reason := 0x0904, unit := 4, object := 0, limit := room, requested := sum, aux := 0 }]
    else [])

/-! ### Checks 6 to 8 -/

/-- The rate of the line lanes in a configuration, in bit/s. -/
def Cfg.laneRate (c : Cfg) : Nat := if c.line.bonded && c.line.rate25 then 24883200000 else 9953280000

/-- Whether an XGEM mapping uses a lane: its own, or a member of its group. -/
def Cfg.onLane (c : Cfg) (x : XgemCfg) (l : Nat) : Bool :=
  if x.bonded then bit (Tab.get {} c.line.groups x.grp).members l else x.lane == l

/-- Check 6. A mapping encrypts downstream, and upstream where it names a queue. -/
def State.check6 (s : State) (c : Cfg) : List Fail :=
  let lanes := (List.range 4).filter (fun l => decide ((s.lane l).act = .o5))
  let used (up : Bool) (l : Nat) : Bool :=
    c.xgems.any (fun x => x.2.valid && x.2.encrypted && c.onLane x.2 l && (!up || x.2.usQueue != 0))
  let d := (lanes.map (fun l => c.laneRate * (b2n (used false l) + b2n (used true l)))).sum
  let core := if s.clk.coreSave then 10 else 8
  if 24 * 128 * tickHz < d * 11 * core then
    [{ check := 6, reason := 0x0601, unit := 2, object := 0, limit := 24 * 128 * tickHz / (11 * core)
       requested := d, aux := 0 }]
  else []

/-- RING_CIR of a circuit's packets (check 7). -/
def Cfg.circuitRate (c : Cfg) (o : Nat) (v : CesCfg) : Nat :=
  8000 * pktCells (c.framedOf o) v * 2048 / v.pktFrames

/-- The demands on the ring: each with the object that gives it (0 for class 0), the rate in bit/s and the
links of its route. -/
def State.ringDemands (s : State) (c : Cfg) (excl : List Nat) : List (Nat × Nat × List (Nat × Nat)) :=
  let ws := s.joinedNodes
  let ctl := ws.flatMap (fun n =>
    [(0, 100000000, s.queueRoute 0 n (s.ring.sideOf n)), (0, 100000000, s.queueRoute n 0 (s.sideBack n))])
  let tdm := ((c.circuits excl).filter (fun x => ws.contains (objNode x.1))).flatMap (fun x =>
    let n := objNode x.1
    let down := c.xgems.any (fun y => y.2.valid && y.2.destNode == n && y.2.destKind == 1
      && y.2.destIndex == objIdx x.1)
    (x.1, c.circuitRate x.1 x.2, s.queueRoute n 0 (s.sideBack n))
      :: (if down then [(x.1, c.circuitRate x.1 x.2, s.queueRoute 0 n (s.ring.sideOf n))] else []))
  let pri := (c.queues.filter (fun x =>
      decide (1024 ≤ objIdx x.1) && decide (objIdx x.1 < 1144) && (objIdx x.1 - 1024) % 4 == 2
      && x.2.ringCir != 0 && !excl.contains x.1)).filterMap (fun x =>
    let node := objNode x.1
    let d := (objIdx x.1 - 1024) / 60
    let k := (objIdx x.1 - 1024) % 60 / 4
    let dest := if k < node then k else k + 1
    let w := if node = 0 then dest else node
    if ws.contains w && (node == 0 || dest == 0) then some (x.1, x.2.ringCir, s.queueRoute node dest d)
    else none)
  ctl ++ tdm ++ pri

/-- 46.83 Gbit/s. -/
def ringLimit : Nat := 46830000000

/-- The demand on one link. -/
def linkLoad (l : List (Nat × Nat × List (Nat × Nat))) (k : Nat × Nat) : Nat :=
  ((l.filter (fun x => x.2.2.contains k)).map (fun x => x.2.1)).sum

/-- Check 7. -/
def State.check7 (s : State) (c : Cfg) (excl : List Nat) : List Fail :=
  let dem := s.ringDemands c excl
  s.ringOrder.zipIdx.flatMap (fun x => (List.range 2).filterMap (fun d =>
    let load := linkLoad dem (x.2, d)
    if ringLimit < load then
      some { check := 7, reason := 0x0701, unit := 2, object := objId x.1 0xE (0x10 + d), limit := ringLimit
             requested := load, aux := d * 256 + x.1 }
    else none))

/-- The rates of the entry points that feed a queue, and the rate of its consumer (check 8). The
replicator and the CES engine have no rate in the list of the check: no bound (DESIGN CHOICE, log 32). -/
def State.cutRates (_s : State) (c : Cfg) (node q : Nat) : List Nat × Option Nat :=
  let ring := 24883200000
  let maps (f : XgemCfg → Bool) : List Nat :=
    (c.xgems.filter (fun x => x.2.valid && f x.2)).map (fun x => if x.2.destNode = node then c.laneRate else ring)
  let portsOf (e : Nat × ClassCfg) : List Nat :=
    (List.range 16).filterMap (fun p =>
      if bit e.2.ports p then some (rateBits (c.port (objId (objNode e.1) 1 p)).rate) else none)
  if q < 128 then
    ((c.xgems.filter (fun x => x.2.valid && ((x.2.destNode == node && x.2.destKind == 0
        && x.2.destIndex == q / 8 && x.2.cls == q % 8)
      || (x.2.destKind == 2 && (c.mcast (objId node 0xC x.2.destIndex)).members.contains (q / 8, q % 8)
          && (node == 0 || bit (c.mcast (objId 0 0xC x.2.destIndex)).nodeMask node))))).map (fun _ =>
        if node = 0 then c.laneRate else ring),
      some (rateBits (c.port (objId node 1 (q / 8))).rate))
  else if 2048 ≤ q then
    ((c.entries.filter (fun e => e.2.queue == q)).flatMap (fun e =>
        if objNode e.1 = 0 then portsOf e else [ring]),
      if ((c.alloc ((q - 2048) / 16)).maps).isEmpty then none else some c.laneRate)
  else if 1024 ≤ q ∧ q < 1144 then
    let cls := (q - 1024) % 4
    (if node = 0 then
      let k := (q - 1024) % 60 / 4
      (c.xgems.filter (fun x => x.2.valid && x.2.destNode == k + 1 && x.2.ringClass == cls)).map (fun _ => c.laneRate)
    else (c.entries.filter (fun e => objNode e.1 == node && e.2.ringClass == cls)).flatMap portsOf, some ring)
  else (maps (fun x => x.destKind == 2 && x.destNode == node && 1536 + x.destIndex == q), none)

/-- Check 8. -/
def State.check8 (s : State) (c : Cfg) : List Fail :=
  c.queues.filterMap (fun x =>
    if x.2.ctBytes = 0 then none
    else
      let r := s.cutRates c (objNode x.1) (objIdx x.1)
      match r.1.min?, r.2 with
      | some i, some o =>
        if i < o then
          some { check := 8, reason := 0x0801, unit := 2, object := x.1, limit := o, requested := i, aux := 0 }
        else none
      | _, _ => none)

/-! ### Commit (R396 to R406) -/

/-- Check 10 (R404): a staged command that enables a lane which the 110 °C step has shed. -/
def State.check10 (s : State) (staged : List StagedCmd) : List Fail :=
  (List.range 4).filterMap (fun l =>
    let on := staged.any (fun x => match x.setting with
      | .lane n v _ => n == l && v.enable
      | .line v => bit v.laneEn l && !bit s.acceptedCfg.line.laneEn l
      | _ => false)
    if (s.lane l).shedTherm && on then
      some { check := 10, reason := 0x0A01, unit := 0, object := objId 0 0xE l, limit := 0, requested := 0
             aux := l }
    else none)

/-- Checks 4 to 9 of a configuration. -/
def State.checksLate (s : State) (c : Cfg) (excl : List Nat) : List Fail :=
  s.check4 c ++ s.check5 c excl ++ s.check6 c ++ s.check7 c excl ++ s.check8 c ++ s.check9 c excl

/-- Every check of Table AD-1. -/
def State.checksAll (s : State) (c : Cfg) (excl : List Nat) (staged : List StagedCmd) : List Fail :=
  c.check1 ++ c.check2 ++ c.check3 ++ s.checksLate c excl ++ s.check10 staged

/-- The failure that is reported: the first check, and within it the lowest object (R406). The lists come
in check order. -/
def firstFail (l : List Fail) : Option Fail :=
  match l with
  | [] => none
  | f :: _ => some ((l.filter (fun x => x.check == f.check)).foldl (fun a x => if x.object < a.object then x else a) f)

/-- The objects that a staged command names on a node that has not joined (R400). -/
def State.absentOf (s : State) (x : StagedCmd) : List Nat :=
  let byNode := match x.setting with
    | .pool n _ => if n = 0 ∨ s.joined n then [] else [objId n 0 0]
    | .cistern n _ => if n = 0 ∨ s.joined n then [] else [objId n 0 0]
    | _ => []
  byNode ++ x.named.filter (fun o => objNode o != 0 && !s.joined (objNode o))

/-- The refusal of NODE_ABSENT or OWNERSHIP, none when no object fails. -/
def listFail (reason : Nat) (l : List Nat) : Option (Fail × Nat) :=
  match l.min? with
  | none => none
  | some o =>
    some ({ check := 0, reason := reason, unit := 0, object := o, limit := 0, requested := 0, aux := 0 },
      l.dedup.length)

/-- Check a commit of mailbox `m` (R396 to R406, R414, R707): the failure to report and FAILS. -/
def State.commitFail (s : State) (m : Nat) (staged : List StagedCmd) : Option (Fail × Nat) :=
  let absent := staged.flatMap s.absentOf
  let base := s.acceptedCfg
  let own := if 32 ≤ m then [] else (staged.flatMap (·.named)).filter (fun o => !base.inScope m o)
  match listFail 0x0E01 absent with
  | some r => some r
  | none =>
    match listFail 0x0E02 own with
    | some r => some r
    | none =>
      let fs := s.checksAll (base.applyAll staged) s.adm.shed staged
      (firstFail fs).map (fun f => (f, ((fs.filter (fun x => x.check == f.check)).map (·.object)).dedup.length))

/-- The payload of REFUSED (Table AD-2). -/
def refusal (f : Fail) (fails : Nat) : List Byte :=
  leBytes 2 f.reason ++ leBytes 1 f.check ++ leBytes 1 f.unit ++ leBytes 4 f.object ++ leBytes 8 f.limit
  ++ leBytes 8 f.requested ++ leBytes 2 (min 65535 fails) ++ [0, 0] ++ leBytes 4 f.aux

/-! ### Capacity lost later (R407 to R414) -/

/-- The sheddable objects that take part in a failure (R409). -/
def State.sheddable (s : State) (c : Cfg) (excl : List Nat) (f : Fail) : List Nat :=
  if f.check = 5 then
    (if f.reason = 0x0503 then
      let a := ((c.circuit f.object).upQueue - 2048) / 16
      ((c.circuits excl).filter (fun x => (x.2.upQueue - 2048) / 16 == a)).map (·.1)
    else [f.object])
  else if f.check = 7 then
    let k := (s.posOf (f.aux % 256), f.aux / 256)
    ((s.ringDemands c excl).filter (fun x => x.1 != 0 && x.2.2.contains k)).map (·.1)
  else []

/-- SHED_PRI of an object (R408). -/
def Cfg.shedPri (c : Cfg) (o : Nat) : Nat :=
  if objCls o = 8 then (c.circuit o).shedPri else (c.queue o).shedPri

/-- The object that is shed next: lowest SHED_PRI, then highest object ID (R409). -/
def Cfg.shedNext (c : Cfg) (l : List Nat) : Option Nat :=
  l.foldl (fun a o => match a with
    | none => some o
    | some x =>
      if c.shedPri o < c.shedPri x ∨ (c.shedPri o = c.shedPri x ∧ x < o) then some o else some x) none

/-- Shed until every sheddable check passes; `fuel` bounds the objects. -/
def State.shedLoop (s : State) (c : Cfg) : Nat → List Nat → List Nat
  | 0, excl => excl
  | fuel + 1, excl =>
    let cand := (s.checksLate c excl).flatMap (fun f => s.sheddable c excl f)
    match c.shedNext (cand.filter (fun o => !excl.contains o)) with
    | none => excl
    | some o => State.shedLoop s c fuel (excl ++ [o])

/-- What fails, as check and object. -/
def State.failSet (s : State) (c : Cfg) (excl : List Nat) : List (Nat × Nat) :=
  (s.checksLate c excl).map (fun f => (f.check, f.object))

/-- Restore in the reverse of the shed order while no further check fails (R413; DEDUCED, log 33). -/
def State.restoreLoop (s : State) (c : Cfg) (base : List (Nat × Nat)) : Nat → List Nat → List Nat
  | 0, excl => excl
  | fuel + 1, excl =>
    if excl.isEmpty then excl
    else
      let less := excl.dropLast
      if (s.failSet c less).all (fun x => base.contains x) then State.restoreLoop s c base fuel less else excl

/-- The objects at risk (R411). -/
def State.riskOf (s : State) (c : Cfg) (excl : List Nat) : List Nat :=
  (((s.checksLate c excl).filter (fun f => f.check == 4 || f.check == 6 || f.check == 9)).map (·.object)).dedup

/-- One event message of a berth mailbox, if it selects the source (R772). -/
def State.evtTo (m src obj : Nat) (s : State) : State :=
  if (s.box m).selects s.self src then
    let r := queueEvt m (evtPayload src s.self s.tide.word obj 0) (s.host, s.cnt, s.out, false)
    let s1 := { s with host := r.1, cnt := r.2.1, out := r.2.2.1 }
    s1.raise (if r.2.2.2 then 581 else 576) 0 0
  else s

/-- Raise an event with a list of objects (Table EV-6): OBJECT is the first listed; every other berth with
an object in the list has its own message. -/
def State.raiseList (src : Nat) (l : List Nat) (s : State) : State :=
  match l with
  | [] => s
  | o :: t =>
    let s1 := s.raise src o 0
    (List.range 32).foldl (fun u b =>
      match t.find? (fun x => s.cfg.ownerOf x == b + 1) with
      | some x => if s.cfg.ownerOf o = b + 1 then u else u.evtTo b src x
      | none => u) s1

/-- An object is shed on this device (R410): a circuit goes out of service (R556). -/
def State.shedObj (o : Nat) (s : State) : State :=
  if objCls o = 8 && objNode o == s.self then
    (s.modE1 (objIdx o) (fun x => { x with shed := true })).cesStop (objIdx o)
  else s

/-- An object is restored (R413): playout restarts (R548). -/
def State.restoreObj (o : Nat) (s : State) : State :=
  if objCls o = 8 && objNode o == s.self then
    (s.modE1 (objIdx o) (fun x => { x with shed := false })).cesRestore (objIdx o)
  else s

/-- The objects that can be shed, as a bound of the loops. -/
def Cfg.shedCount (c : Cfg) : Nat := c.ces.length + c.queues.length + 1

/-- Re-run the checks on the committed configuration: shed, list what is at risk, restore (R407 to R413,
Table AD-4). -/
def State.rerun (restore : Bool) (s : State) : State :=
  let c := s.cfg
  let old := s.adm.shed
  let full := s.shedLoop c c.shedCount old
  let fresh := full.drop old.length
  let kept := if restore then s.restoreLoop c (s.failSet c full) full.length full else full
  let back := (full.drop kept.length).reverse
  let risk := s.riskOf c kept
  let s1 := { s with adm := { s.adm with
    due := none, shed := kept, atRisk := risk, lastFrame := s.tide.frame } }
  let s2 := (fresh.filter (fun o => kept.contains o)).foldl (fun t o => t.shedObj o) s1
  let s3 := back.foldl (fun t o => if old.contains o then t.restoreObj o else t) s2
  let s4 := if fresh.isEmpty then s3
    else (s3.raiseList 303 fresh).logRec 5 (fresh.flatMap (fun o => leBytes 4 o))
  let s5 := s4.raiseList 304 risk
  let s6 := s5.raiseList 305 back
  if restore && fresh.isEmpty && back.isEmpty then s6.raise 306 0 0 else s6

/-- ADMISSION_RECHECK (R407): at the second frame boundary after the trigger. -/
def execAdmissionRecheck (s : State) : Host.Outcome State Fault Refusal :=
  .next (
    match s.adm.due with
    | some f => (s.until (f * frameTicks)).rerun true
    | none => s)

end Sys2Proof.Machine
end

