-- ==== Sys2Proof/Machine/Switch.lean ====
section
/-!
DEFINITION. The switch-over of a commit (R645): what changes in the device when the accepted
configuration comes into force.
-/

namespace Sys2Proof.Machine

/-! ### The line (R279, R681) -/

/-- Whether a lane operates (R120, R231): LINE_MODE_SET and LINE_LANE_SET both enable it (DEDUCED, log 34). -/
def Cfg.laneOn (c : Cfg) (l : Nat) : Bool :=
  bit c.line.laneEn l && (c.lane l).enable && (l == 0 || c.line.bonded)

/-- A lane that begins to operate: in O1.1, or in O7 where that is recorded (R134, R279); its module's page A0h is to be
read (R914). -/
def State.laneStart (l : Nat) (s : State) : State :=
  let s1 := s.setAct l (if bit s.line.o7Store l then .o7 else .o11)
  { s1 with craft := { s1.craft with ddm := Tab.modify {} s1.craft.ddm l (fun d => { d with dueA0 := true }) } }

/-- A lane that ceases to operate leaves its groups and is silent (R120). -/
def State.laneStop (l : Nat) (s : State) : State :=
  let s1 := ((s.laneLeave l downConfig).forgetLane l).dropParts l
  (s1.setAct l .off).modLane l (fun x =>
    { x with los := false, sync := false, sd := false, sf := false, spans := [], profiles := []
             heldPloam := [] })

/-- A lane whose rate changes returns to O1.1 and re-locks under a clock hold (R109, R279). -/
def State.laneRerate (l : Nat) (s : State) : State :=
  let s1 := (((s.laneLeave l downConfig).forgetLane l).dropParts l).modLane l (fun x =>
    { x with sync := false, profiles := [] })
  let s2 := s1.setClk (fun c => { c with laneHold := putBit c.laneHold l true })
  if (s.lane l).act = .o7 then s2 else s2.setAct l .o11

/-- What one lane does when the configuration goes from `old` to the one in force. -/
def State.laneSwitch (old : Cfg) (s : State) (l : Nat) : State :=
  let was := old.laneOn l && decide ((s.lane l).act ≠ .off)
  if was && !s.cfg.laneOn l then s.laneStop l
  else if !was && s.cfg.laneOn l && !(s.lane l).shedTherm then s.laneStart l
  else if was && old.line.rate25 != s.cfg.line.rate25 then s.laneRerate l
  else s

/-- The members of a group in a configuration, none where it is not configured. -/
def Cfg.membersOf (c : Cfg) (g : Nat) : Nat :=
  if c.line.bonded then ((Tab.get {} c.line.groups g : GroupCfg)).members else 0

/-- Members that the new configuration removes leave their groups, while the old one is still in force
(Table BL-4, reason 4). -/
def State.membersLeave (new : Cfg) (s : State) : State :=
  (s.cfg.line.groups.map (·.1)).foldl (fun t g =>
    (List.range 4).foldl (fun u l =>
      if bit (u.group g).lanes l && !bit (new.membersOf g) l then
        (u.cancelLane l).leaveGroup l downConfig g else u) t) s

/-- Groups that are gone lose their state; a lane with a group that is new to it announces itself
(R276). -/
def State.groupsSwitch (old : Cfg) (s : State) : State :=
  let s1 := (old.line.groups.map (·.1)).foldl (fun t g =>
    if s.cfg.membersOf g = 0 then (t.freeFrags g).modGroup g (fun _ => {}) else t) s
  (List.range 4).foldl (fun t l =>
    let more := (t.groupsOf l).any (fun g => !bit (old.membersOf g) l)
    let t1 := if (t.groupsOf l).isEmpty || more then
        t.modJoinLane l (fun x => { x with inGroup := false, upAcked := false, upSent := false }) else t
    if more && decide ((t.lane l).act = .o5) then t1.announceLane l else t1) s1

/-- Alloc-ID indices whose mapping of a lane is gone or changed lose what that lane's Alloc-ID held
(R216, R699). -/
def State.allocsSwitch (old : Cfg) (s : State) : State :=
  old.allocs.foldl (fun t x =>
    x.2.maps.foldl (fun u m =>
      if Tab.get none (s.cfg.alloc x.1).maps m.1 = m.2 then u
      else (u.cancel (fun c => c.lane == m.1 && c.index == some x.1)).leaveIndex x.1 m.1) t) s

/-- REARM clears the latch of R171 (R681); the trips before it still count (DESIGN CHOICE, log 93). -/
def State.rearm (l : Nat) (s : State) : State :=
  (s.modLane l (fun x => { x with rogueLatch := false })).syncTx l

/-! ### Ports, queues and buckets -/

/-- A port that the commit disables, or whose MODE, PORT_RATE or AN_EN it changes, goes down (R512). -/
def State.portSwitch (old : Cfg) (s : State) (p : Nat) : State :=
  let a := old.port (s.obj 1 p)
  let b := s.cfg.port (s.obj 1 p)
  let s1 := if a.enable && !b.enable then s.modPort p (fun x => { x with fault := 0, heldQueues := false })
    else s
  if (s.port p).link && (!b.enable || a.mode != b.mode || a.rate != b.rate || a.anEn != b.anEn) then
    s1.linkDown p else s1

/-- One bucket when its rate and size change (R341). -/
def Bucket.change (r0 n0 r1 n1 now : Nat) (b : Bucket) : Bucket :=
  if r1 = 0 then {}
  else if r0 = 0 then fullBucket n1 now
  else
    let a := b.accrue r0 n0 now
    { a with tok := min a.tok (n1 * byteUnits) }

/-- The buckets of a queue; a queue that waits for tokens is placed anew on the wheel (R341, R359). -/
def State.shaperSwitch (old : Cfg) (q : Nat) (s : State) : State :=
  let a := old.shaper (s.obj 2 q)
  let b := s.cfg.shaper (s.obj 2 q)
  if a = b then s
  else
    let s1 := s.modQueue q (fun x =>
      { x with bktA := x.bktA.change a.rateA a.sizeA b.rateA b.sizeA s.now
               bktB := x.bktB.change a.rateB a.sizeB b.rateB b.sizeB s.now
               release := none, parked := false })
    if q < 128 then s1.shape q else s1

/-- The buckets of a policer (R341). -/
def State.policerSwitch (old : Cfg) (k : Nat) (s : State) : State :=
  let a := old.policer (s.obj 3 k)
  let b := s.cfg.policer (s.obj 3 k)
  if a = b then s
  else
    { s with sched := { s.sched with policers := Tab.modify {} s.sched.policers k (fun x =>
      { c := x.c.change a.cir a.cbs b.cir b.cbs s.now, p := x.p.change a.pir a.pbs b.pir b.pbs s.now }) } }

/-- The settings of one queue: the level re-arms or not without a crossing (R299), DEFICIT is clipped to
the new DRR_BURST (Table SH-3), the bucket of RING_CIR of a class 2 ring queue changes (R341). -/
def State.queueSwitch (old : Cfg) (q : Nat) (s : State) : State :=
  let a := old.queue (s.obj 2 q)
  let b := s.cfg.queue (s.obj 2 q)
  if a = b then s
  else
    let occ := s.occupancy q
    s.modQueue q (fun x =>
      { x with above := decide (b.qthr ≠ 0) && decide (b.qthr ≤ occ)
               deficit := min x.deficit (b.burst : Int)
               bktA := if 1024 ≤ q ∧ q < 1144 then x.bktA.change a.ringCir 16384 b.ringCir 16384 s.now
                 else x.bktA })

/-- An upstream queue that the commit disables discards its packets; staged ones are rewound first, bound
ones and a remainder stay (R345). -/
def State.disableUp (old : Cfg) (q : Nat) (s : State) : State :=
  if old.upEnabled q && !s.cfg.upEnabled q then
    let s1 := s.rewindIf ((q - 2048) / 16) (fun x => x.queue == q)
    let l := (s1.queue q).pkts
    (s1.removeAll q l []).queueDrop q l.length
  else s

/-- The queues of this device whose settings or shapers either configuration names. -/
def Cfg.queuesNamed (a b : Cfg) (node : Nat) : List Nat :=
  (((a.queues.map (·.1) ++ b.queues.map (·.1) ++ a.shapers.map (·.1) ++ b.shapers.map (·.1)).filter
    (fun o => objNode o == node)).map objIdx).dedup

/-- Every queue, policer and upstream queue. -/
def State.queuesSwitch (old : Cfg) (s : State) : State :=
  let qs := old.queuesNamed s.cfg s.self
  let ks := (((old.policers.map (·.1) ++ s.cfg.policers.map (·.1)).filter
    (fun o => objNode o == s.self)).map objIdx).dedup
  let ups := ((s.pool.queues.map (·.1)).filter (fun q => 2048 ≤ q)).filter (fun q =>
    old.upEnabled q && !s.cfg.upEnabled q)
  let s1 := qs.foldl (fun t q => (t.shaperSwitch old q).queueSwitch old q) s
  let s2 := ks.foldl (fun t k => t.policerSwitch old k) s1
  ups.foldl (fun t q => t.disableUp old q) s2

/-! ### Gate lists (R363, R693) -/

/-- The swap instant of a list written at an instant (R363). -/
def GateCfg.swapAt (g : GateCfg) (t : Nat) : Nat :=
  let base := g.baseFrame * frameTicks + g.baseTick
  let cyc := gateCycle g.entries
  if t ≤ base then base else base + ceilDiv (t - base) cyc * cyc

/-- A committed GATE_LIST_SET of a port of this device. -/
def State.gateSwitch (o : Nat) (g : GateCfg) (s : State) : State :=
  if objNode o ≠ s.self then s
  else if g.entries.isEmpty then
    let had := (s.gate (objIdx o)).oper.isSome
    let s1 := s.modGate (objIdx o) (fun _ => {})
    if had then s1.raise 290 o 0 else s1
  else s.modGate (objIdx o) (fun x => { x with admin := some (g, g.swapAt (s.tide.frame * frameTicks)) })

/-! ### E1 ports and circuits -/

/-- One E1 port: a port that is enabled starts its slip buffer; a change of TX_TIMING switches the transmit
clock (R532, R535, R538). -/
def State.e1Switch (old : Cfg) (s : State) (p : Nat) : State :=
  let a := old.e1 (s.obj 7 p)
  let b := s.cfg.e1 (s.obj 7 p)
  if a = b then s
  else
    let s1 := if b.enable && (!a.enable || a.framed != b.framed) then
        (s.modE1 p (fun x => { x with crc4On := b.framed && b.crc4 != 0, defects := 0
                                      lastRead := [], txq := [], skip := false }.realign)).slipRestart p
      else if a.enable && !b.enable then s.modE1 p (fun x => { x with defects := 0, crc4On := false, txq := [] })
      else s
    let loop (c : E1Cfg) := c.enable && c.loopTx && !(s.e1 p).rclkLost
    if loop a != loop b then
      let s2 := s1.muxRequest (6 + p) (loop b)
      if a.enable && b.enable then (s2.slipRestart p).e1Slip p 6 else s2
    else s1

/-- One circuit (R548, R556, R706). -/
def State.cesSwitch (old : Cfg) (s : State) (p : Nat) : State :=
  let a := old.circuit (s.obj 8 p)
  let b := s.cfg.circuit (s.obj 8 p)
  if a.enable && !b.enable then (s.modE1 p (fun x => { x with shed := false })).cesStop p
  else if b.enable && { a with shedPri := b.shedPri, deadline := b.deadline } != b then
    (s.modE1 p (fun x => { x with gather := [] })).cesRestart p
  else s

/-! ### Tide, the Cistern, berths -/

/-- TIDE_SET: a slew goes on from the error that remains (R37); a limit already passed is raised (R73).
The state is as before the new configuration. -/
def State.tideBefore (s : State) : State :=
  if s.tide.state = .slewing then
    { s with tide := { s.tide with error := s.slewError, errAt := s.now } }
  else s

/-- A new limit of HOLDOVER is compared with the time itself, which HOLD_AGE shows saturated (R73; DEDUCED, log 89). -/
def State.tideAfter (old : Cfg) (s : State) : State :=
  if s.tide.state = .holdover && !s.tide.limitRaised && old.tide.holdLim != s.cfg.tide.holdLim
      && decide (s.cfg.tide.holdLim * 1000 * msTicks ≤ s.tide.holdTicks s.now) then
    ({ s with tide := { s.tide with limitRaised := true } }).raise 37 0 0
  else s

/-- Packets that wait in a queue whose owner changes count against the new owner from now on (R672). -/
def State.reown (old : Cfg) (s : State) : State :=
  (((old.owner.map (·.1)) ++ (s.cfg.owner.map (·.1))).filter (fun o =>
    objCls o == 2 && objNode o == s.self && old.ownerOf o != s.cfg.ownerOf o)).foldl (fun t o =>
      t.modQueue (objIdx o) (fun x =>
        { x with pkts := x.pkts.map (fun p => { p with owner := s.cfg.ownerOf o }) })) s

/-- The CLK_GATE bits of the objects that a configuration uses on this device (Table CK-4). -/
def State.gateBits (s : State) (c : Cfg) : W32 :=
  let lanes := ((List.range 4).map (fun l => if s.isManager && c.laneOn l then 2 ^ l else 0)).sum
  let ports := ((List.range 16).map (fun p => if (c.port (s.obj 1 p)).enable then 2 ^ (8 + p) else 0)).sum
  let e1 := if (List.range 8).any (fun p => (c.e1 (s.obj 7 p)).enable || (c.circuit (s.obj 8 p)).enable)
    then 64 else 0
  BitVec.ofNat 32 (lanes + ports + e1)

/-- The blocks of the configuration in force are clocked (R102, R523; DESIGN CHOICE, log 35). -/
def State.gateUsed (s : State) : State := s.gateOn (s.gateBits s.cfg &&& ~~~ s.clk.gate)

/-- The blocks of the old configuration that the one in force no longer uses are gated, once their ports and lanes
are down (R102, R106, R523; DESIGN CHOICE, log 35). -/
def State.gateUnused (old : Cfg) (s : State) : State := s.gateOff (s.gateBits old &&& ~~~ s.gateBits s.cfg)

/-! ### The switch-over -/

/-- What one staged command does at the switch-over beside the configuration it writes. -/
def State.settingAct (x : Setting) (s : State) : State :=
  match x with
  | .gate o g => s.gateSwitch o g
  | .lane l _ true => s.rearm l
  | .cistern n v => if n = s.self then { s with cistern := { s.cistern with settings := v } } else s
  | _ => s

/-- A committed command is kept for each worker that it concerns (Table QY-12, step 9). -/
def Cfg.keepParts (joined : List Nat) (c : Cfg) (x : StagedCmd) : Cfg :=
  ((x.nodes joined).filter (fun n => n != 0)).foldl (fun d n =>
    { d with parts := Tab.modify [] d.parts n (fun l => l ++ [(x.opc, x.payload)]) }) c

/-- What the configuration store holds after an accepted commit (R886): the configuration in force with every
accepted commit applied, and the workers' parts of each. -/
def State.storedCfg (s : State) : Cfg :=
  s.host.accepted.foldl (fun c a =>
    if s.isManager then a.staged.foldl (Cfg.keepParts s.joinedNodes) (c.applyAll a.staged)
    else c.applyAll a.staged) s.cfg

/-- The blocks follow a change of configuration from `old` to the one in force. -/
def State.follow (old : Cfg) (s : State) : State :=
  let s1 := (List.range 4).foldl (fun t l => t.laneSwitch old l) (((s.gateUsed).groupsSwitch old).allocsSwitch old)
  let s2 := (List.range 16).foldl (fun t p => t.portSwitch old p) s1
  let s3 := (List.range 8).foldl (fun t p => (t.e1Switch old p).cesSwitch old p) (s2.queuesSwitch old)
  ((s3.reown old).gateUnused old).tideAfter old

/-- Objects that can no longer be shed or at risk leave the lists: circuits that are disabled, ring queues
without RING_CIR. -/
def Admission.trim (c : Cfg) (a : Admission) : Admission :=
  { a with shed := a.shed.filter (fun o =>
      if objCls o = 8 then (c.circuit o).enable else (c.queue o).ringCir != 0) }

/-- Bring staged commands into force (R644, R645). -/
def State.switchIn (staged : List StagedCmd) (s : State) : State :=
  let old := s.cfg
  let c := old.applyAll staged
  let new := if s.isManager then staged.foldl (Cfg.keepParts s.joinedNodes) c else c
  let s1 := (s.tideBefore).membersLeave new
  let s2 := { s1 with cfg := new, adm := s1.adm.trim new }
  let s3 := s2.putStore s2.storedCfg
  staged.foldl (fun t x => t.settingAct x.setting) (s3.follow old)

/-- The accepted commit whose frame comes first; of two for one frame the earlier accepted. -/
def HostIf.nextCommit (h : HostIf) : Option Accepted :=
  h.accepted.foldl (fun o a => match o with
    | none => some a
    | some b => if a.frame < b.frame then some a else some b) none

end Sys2Proof.Machine
end

