-- ==== Sys2Proof/Machine/Reset.lean ====
section
/-!
DEFINITION. Cold resets (Table ST-1), the wake record (Table PW-6), and taking the device's blocks out of
service.
-/

namespace Sys2Proof.Machine

/-! ### Cold resets -/

/-- DETAIL of Table ST-1. -/
def causePor : Nat := 1
def causeResetN : Nat := 2
def causeWatchdog : Nat := 3
def causeHost : Nat := 4
def causeRing : Nat := 5
def causeWake : Nat := 6

/-- The keys that the configuration store holds: master session keys and slots 4 to 255 (R598, R612,
R613). -/
def Cipher.stored (c : Cipher) : Cipher :=
  { banks := (c.banks.filter (fun x => decide (8 ≤ x.1))).map (fun x => (x.1, { x.2 with shadow := none }))
    vault := c.vault.filter (fun x => decide (x.1 < 4)), mskLoaded := c.mskLoaded
    startCount := c.startCount }

/-- The Cistern across a reset: its AON part stays, a power-on reset takes the defaults (Table ST-1, R855);
the switches are off in reset, their enables are stored (R726, R852). -/
def Cistern.reset (por : Bool) (c : Cistern) : Cistern :=
  let sw := c.switches.map (fun x =>
    (x.1, { x.2 with state := if x.2.state = .absent then LswState.absent else if !por && x.2.state = .latched
              then LswState.latched else .off
                     fails := if por then 0 else x.2.fails, waiting := false }))
  if por then { switches := sw, vinBall := c.vinBall, storeBall := c.storeBall, vinOk := c.vinOk }
  else { c with switches := sw, lswQueue := [], run := 0, snap := none, shed := none, gasp := [], acks := [] }

/-- What start keeps: straps, the latched role, the flash's images and store, the AON counts (R12, R871,
R886, R964). -/
def Start.reset (por : Bool) (cause : Nat) (k : Start) : Start :=
  { manager := k.manager, flashPresent := k.flashPresent, roleStrap := k.roleStrap, flashStrap := k.flashStrap
    part4410 := k.part4410, serialNum := k.serialNum, startBank := k.startBank, bankA := k.bankA
    bankB := k.bankB, fallback := !por && k.fallback, wdCount := if por then 0 else k.wdCount
    header0 := k.header0, header1 := k.header1, store0 := k.store0, store1 := k.store1, flashMib := k.flashMib
    flashSfdp := k.flashSfdp, headerFdiv := k.headerFdiv, resetCause := cause, pendingEvents := k.pendingEvents
    xoThr := k.xoThr }

/-- What a reset other than power-on keeps of the lanes: the latches of the rogue-burst guard (R171). -/
def Line.latches (x : Line) : Tab LaneState :=
  (x.lanes.filter (fun y => y.2.rogueLatch)).map (fun y => (y.1, { rogueLatch := true }))

/-- The pins in reset (R945): a burst in progress is cut, TIDE_PULSE, STORE_OK and the load switches are low,
the bypass is released. -/
def State.resetPins (s : State) : State :=
  let s1 := ((List.range 4).foldl (fun t l => t.cutBurst l) s).pulseLow
  let s2 := if s.ring.join.bypOpen then s1.emit (.pin "BYP_OPEN_N" true) else s1
  let s3 := if s.cistern.dgReady then s2.emit (.pin "STORE_OK" false) else s2
  (s.cistern.switches.filter (fun x => decide (x.2.state = .on ∨ x.2.state = .softStart))).foldl
    (fun (t : State) x => t.emit (.pin ("LSW_EN_" ++ toString x.1) false)) s3

/-- A cold reset (R857): everything starts anew but what Table ST-1 keeps, the flash, and what the model
itself counts (elapsed time, boundaries, free values, emissions, the queue). -/
def State.coldReset (por : Bool) (cause : Nat) (s : State) : State :=
  { pending := s.pending, now := s.now, bnd := s.bnd, fresh := s.fresh
    out := s.resetPins.out
    start := s.start.reset por cause
    power := { en := s.power.en, pg := s.power.pg, seq := s.power.seq, fails := s.power.fails
               delay := s.power.delay
               wakeRec := if por then {} else s.power.wakeRec
               thermTimer := if por then 60 else s.power.thermTimer }
    clk := { ethRef := s.clk.ethRef, pcieRef := s.clk.pcieRef }
    cistern := s.cistern.reset por
    cipher := s.cipher.stored
    log := { region := s.log.region, unit := s.log.unit, next := s.log.next }
    line := { o7Store := s.line.o7Store, lanes := if por then [] else s.line.latches }
    ring := { nodes := if s.start.manager then
                s.ring.nodes.map (fun x => (x.1, { x.2 with member := 0, since := s.now, joinedAt := 0
                                                            holdEnd := 0, holdoff := 2 })) else [] }
    craft := { storedUart := s.craft.storedUart, storedGpio := s.craft.storedGpio } }

/-- When the rails are good the start goes on with the crystal (R957); an AON power-on starts the rails
under R816. STORE_OK is low in reset (R945). -/
def State.afterReset (s : State) : State :=
  let s1 := if s.cistern.dgReady then s.emit (.pin "STORE_OK" true) else s
  if s1.power.seq = .on then s1.setClk (fun c => { c with oscOn := true }) else s1

/-- The role is latched from the straps (R12, R13, R922). -/
def State.latchRole (s : State) : State :=
  { s with start := { s.start with manager := s.start.roleStrap, flashPresent := s.start.flashStrap } }

/-! ### The wake record -/

/-- Change the wake record, which is then valid (R807). -/
def State.setWake (f : WakeRecord → WakeRecord) (s : State) : State :=
  { s with power := { s.power with wakeRec := { f s.power.wakeRec with valid := true } } }

/-- A rail fault in the wake record (Table PW-6). -/
def State.railFault (k phase : Nat) (void : Bool) (s : State) : State :=
  s.setWake (fun w => { w with cause := 5, rail := k, phase := phase, retVoid := w.retVoid || void
                               fullTest := w.fullTest || void })

def State.setPower (f : Power → Power) (s : State) : State := { s with power := f s.power }

/-- Drop or raise one rail's enable. -/
def State.railOn (k : Nat) (s : State) : State := s.setPower (fun p => { p with en := putBit p.en k true })
def State.railOff (k : Nat) (s : State) : State := s.setPower (fun p => { p with en := putBit p.en k false })

/-- Start the rails from the lowest (R786). -/
def State.railsUp (s : State) : State :=
  (s.setPower (fun p => { p with seq := .up 0, pg := 0, en := 1 }))

/-! ### Out of service -/

/-- The root, the oscillator and every divider stop (R116, step 5 of Table PW-4). -/
def State.clocksOff (s : State) : State :=
  s.setClk (fun c =>
    { c.cpTo true with oscOn := false, xoOk := false, rootLock := false, running := false, steered := false
                       refSrc := false, rootHold := false })

/-- Every staged cell goes back and every caravan that is not launched is cancelled (R215). -/
def State.rewindEvery (s : State) : State :=
  let s1 := s.cancel (fun _ => true)
  (s1.line.allocs.map (·.1)).foldl (fun t a => t.rewindAll a) s1

/-- Step 3 of Table PW-4 (and the like steps of Table CS-1): transmitters off, ports down with their cells,
the bypass released. -/
def State.lanesDark (which : Nat → Bool) (s : State) : State :=
  (List.range 4).foldl (fun t l => if which l then t.modLane l (fun x => { x with txDis := true }) else t) s

def State.portsHold (s : State) : State := (List.range 16).foldl (fun t p => t.linkHold p) s

/-- A worker leaves before it goes (R482); the ring port closes. -/
def State.ringDark (s : State) : State :=
  let s1 := if !s.isManager && s.ring.join.joined then s.dcc 0 .leave else s
  let s2 := s1.releaseBypass
  { s2 with ring := { s2.ring with enabled := false, join := { s2.ring.join with joined := false, step := 0 } } }

/-- Steps 3 to 5 of Table PW-4: a burst in progress is cut, the subscriber SerDes send electrical idle; the device
without its root drives no pulse. -/
def State.goDark (s : State) : State :=
  let s0 := (List.range 4).foldl (fun t l => t.cutBurst l) (s.lanesDark (fun _ => true))
  let s1 := (((s0.portsHold).ringDark).rewindEvery.pulseLow)
  let s2 := (List.range 16).foldl (fun t p => t.modPort p (fun x => { x with idle := true })) s1
  ((s2.clocksOff).pcieLink false)

/-- Cells in the pool at the end of a drain (R798). -/
def Pool.left (p : Pool) : Nat := p.queued + p.staged + p.ring

/-- The record that is written at an entry (R807). -/
def State.entryWake (cause wake timer : Nat) (thermal : Bool) (s : State) : State :=
  s.setWake (fun w =>
    { w with cause := cause, thermal := thermal, mask := wake, timer := timer, wakeCause := 0, rail := 0
             phase := 0, retVoid := false, fullTest := false
             entryTide := s.tide.word })

end Sys2Proof.Machine
end

