-- ==== Sys2Proof/Machine/Cistern.lean ====
section
/-!
DEFINITION. The Cistern: monitor samples, the charger, the VIN-fail sequence and its end, a worker's shed,
and the load switches.
-/

namespace Sys2Proof.Machine

def State.setCs (f : Cistern → Cistern) (s : State) : State := { s with cistern := f s.cistern }

/-! ### The logbook's flush (R835, R884) -/

/-- Write the retained buffer to the logbook region (R835, R884). One under R835 suspends an erase in progress for good
(R920, Table CF-3). -/
def State.flushLog (vin : Bool) (s : State) : State :=
  let rs := s.log.buffer.map (fun r : LogRecord => { r with vin := vin })
  let r := s.log.write s.start.hasFlash s.cipher rs s.tide.frame
  { s with
    log := r.1, out := r.2 ++ s.out
    start := if vin then { s.start with write := s.start.write.map (fun w => { w with cutOff := w.cutOff || w.erasing }) }
      else s.start }

/-! ### Load switches (R844 to R852) -/

/-- Begin a soft start, or wait while a VIN-fail sequence runs (R851). -/
def State.lswStart (k : Nat) (s : State) : State :=
  if (s.lsw k).state = .absent || (s.lsw k).state = .latched then s
  else if s.cistern.run ≠ 0 then s.modLsw k (fun x => { x with waiting := true })
  else (s.modLsw k (fun x => { x with state := .softStart, waiting := false })).emit
    (.pin ("LSW_EN_" ++ toString k) true)

/-- Drop LSW_EN and enter a state. -/
def State.lswDrop (k : Nat) (st : LswState) (s : State) : State :=
  (s.modLsw k (fun x => { x with state := st, waiting := false })).emit
    (.pin ("LSW_EN_" ++ toString k) false)

/-- The next switch of the start-up order begins (R856): one that cannot start any more is passed over. -/
def State.lswNext (s : State) : State :=
  match s.cistern.lswQueue.dropWhile (fun k => !((s.lsw k).enable && decide ((s.lsw k).state = .off))) with
  | [] => s.setCs (fun c => { c with lswQueue := [] })
  | k :: t => (s.setCs (fun c => { c with lswQueue := t })).lswStart k

/-- Soft starts of every enabled switch in ascending order (R856). -/
def State.lswBegin (s : State) : State :=
  (s.setCs (fun c => { c with lswQueue := (List.range 4).filter (fun k =>
    let x : Lsw := Tab.get {} c.switches k
    x.enable && decide (x.state = .off)) })).lswNext

/-- LSW_ON (R844). -/
def execLswOn (k : Fin 4) (s : State) : Host.Outcome State Fault Refusal :=
  .next (
    if (s.lsw k.val).state = .softStart then
      ((s.modLsw k.val (fun x => { x with state := .on, pg := true })).raise (72 + k.val) 0 0).lswNext
    else s)

/-- LSW_FAIL (R845 to R847): DETAIL 1 to 4 of Table CS-7. -/
def execLswFail (k : Fin 4) (cause : Fin 5) (s : State) : Host.Outcome State Fault Refusal :=
  .next (
    let x := s.lsw k.val
    if cause.val = 0 || (x.state ≠ .softStart && x.state ≠ .on) then s
    else
      let n := x.fails + 1
      let s1 := (s.modLsw k.val (fun x =>
        { x with fails := n, pg := x.pg && decide (cause.val = 3) })).lswDrop k.val
          (if 8 ≤ n then .latched else .retryWait)
      let s2 := s1.raise (76 + k.val) 0 cause.val
      (if 8 ≤ n then s2.raise (80 + k.val) 0 0 else s2).lswNext)

/-- LSW_RETRY_EXPIRY (R847). -/
def execLswRetryExpiry (k : Fin 4) (s : State) : Host.Outcome State Fault Refusal :=
  .next (if (s.lsw k.val).state = .retryWait then s.lswStart k.val else s)

/-- LSW_FAIL_COUNT_CLEAR (R848). -/
def execLswFailCountClear (k : Fin 4) (s : State) : Host.Outcome State Fault Refusal :=
  .next (if (s.lsw k.val).state = .on then s.modLsw k.val (fun x => { x with fails := 0 }) else s)

/-- LSW_PRES (R849). The start-up order goes on from a switch whose soft start it ends (DESIGN CHOICE, log 106). -/
def execLswPres (k : Fin 4) (s : State) : Host.Outcome State Fault Refusal :=
  .next (
    if (s.lsw k.val).state = .absent then s
    else
      let s1 := ((s.modLsw k.val (fun x => { x with pg := false })).lswDrop k.val .absent).raise (84 + k.val) 0 0
      if (s.lsw k.val).state = .softStart then s1.lswNext else s1)

/-- LSW_REINSERTION (R850). -/
def execLswReinsertion (k : Fin 4) (s : State) : Host.Outcome State Fault Refusal :=
  .next (
    if (s.lsw k.val).state ≠ .absent then s
    else
      let s1 := (s.modLsw k.val (fun x => { x with state := .off, fails := 0, waiting := false })).raise
        (84 + k.val) 0 0
      if (s.lsw k.val).enable then s1.lswStart k.val else s1)

/-! ### The charger and the monitor (R818 to R830) -/

/-- The settings that govern now: those at its beginning while a sequence runs (R729). -/
def Cistern.inForce (c : Cistern) : CisternCfg :=
  match c.snap with
  | some x => x
  | none => c.settings

/-- CHG_EN follows (R822). -/
def State.charge (s : State) : State :=
  s.setCs (fun c => { c with
    charging := (c.settings.chgEn && c.vinOk && !c.absent && decide (c.run = 0)) || c.probe })

/-- DYING_GASP_READY changes (R824). -/
def State.dgReady (on : Bool) (s : State) : State :=
  if s.cistern.dgReady = on then s
  else
    let s1 := (s.setCs (fun c => { c with dgReady := on })).raise 68 0 (b2n on)
    if s1.power.state = .beached then s1 else s1.emit (.pin "STORE_OK" on)

/-- The store is declared absent (R827, R829). -/
def State.storeAbsent (s : State) : State :=
  ((s.setCs (fun c => { c with absent := true, probe := false, charging := false, readySince := none })).dgReady
    false).raise 66 0 0

/-- Whether a test of R826 trips at a sample: `old` and `new` are store voltages in mV, samples 4 cycles of
the AON RC apart. -/
def storeTrips (c : CisternCfg) (old new : Nat) : Bool :=
  decide (c.dvdt * 100000 < (new - old) * 8192) || decide (c.vstoreMax < new)
  || (decide (c.vstoreMin ≤ old) && decide (new < c.vstoreMin))

/-- Samples in a second (R821). -/
def samplesPerSec : Nat := 8192

/-- DYING_GASP_READY at a sample (R824). -/
def State.readiness (store : Nat) (s : State) : State :=
  let c := s.cistern.inForce
  if s.cistern.absent then s
  else if store < (c.vstoreMin + c.vstoreMax) / 2 then
    (s.setCs (fun x => { x with readySince := none })).dgReady false
  else
    let n := (s.cistern.readySince.getD 0) + 1
    let s1 := s.setCs (fun x => { x with readySince := some n })
    if samplesPerSec ≤ n then s1.dgReady true else s1

/-! ### The VIN-fail sequence (R831 to R841) -/

/-- Steps 5 and 6 (R833, R847): the switches open, every transmitter is off, the rails go down into BEACHED. -/
def State.shedLoads (s : State) : State :=
  let s1 := [3, 2, 1, 0].foldl (fun t k =>
    if (t.lsw k).state = .absent ∨ (t.lsw k).state = .latched then t else t.lswDrop k .off) s
  let s2 := (s1.setCs (fun c => { c with run := 6, lswQueue := [] })).entryWake 3 0 0 false
  let s3 := s2.goDark
  (s3.setPower (fun p => { p with state := .halting, entry := none, pwrMode := 2, seq := .down 5 })).railOff 5

/-- Step 3 for the ports: electrical idle, and gated (Table CS-1). -/
def State.portsGate (s : State) : State := (s.portsHold).gateOff 0x00FFFF00

/-- Steps 1 to 4 (R831): E_064, the gasp, the blocks dark, the broadcast, the logbook. -/
def State.vinSteps (s : State) : State :=
  let s1 := (s.setCs (fun c =>
    { c with vinOk := false, charging := false, probe := false, run := 4, snap := some c.settings, failAt := s.now
             gasp := (List.range 4).filter (fun l => decide ((s.lane l).act = .o5))
             acks := if s.isManager then (List.range 16).filter s.joined else [] })).raise 64 0 0
  let s2 := (s1.logRec 7 []).setPower (fun p => { p with entry := none, state := .run })
  let s3 := ((List.range 4).foldl (fun (t : State) l => t.modLane l (fun x => { x with dgSent := false }))
    { s2 with line := { s2.line with dg := true } }).syncTxs
  let s4 := s3.portsGate
  (if s4.isManager then s4.dccBcast .vinFail else s4).flushLog true

/-- VIN_FAIL (R819, R831, R841, Table PW-8): in MOORED, and in the steps of an entry that the AON sequencer performs,
the rails that are on go down (the latter DESIGN CHOICE, log 107: the spec gives VIN fail in steps 1 and 2 only). -/
def execVinFail (s : State) : Host.Outcome State Fault Refusal :=
  .next (
    if s.cistern.run ≠ 0 || s.power.state = .beached then s
    else if s.power.state = .moored ∨ (s.power.state = .halting ∧ s.power.seq ≠ .on) then
      (((s.setCs (fun c => { c with vinOk := false, run := 6 })).entryWake 3 0 0 false).setWake (fun w =>
        { w with retVoid := true, fullTest := true })).setPower (fun p =>
          match p.seq with
          | .mooredDown k => { p with seq := .down k }
          | .down _ => p
          | _ => { p with seq := .down 4, en := putBit p.en 4 false })
    else
      let s1 := s.vinSteps
      if s.cistern.shed.isSome then s1.shedLoads else s1)

/-- The instant at which step 5 begins (R832): every lane that was in O5.1 has sent its dying gasp or 2 ms have passed,
and every joined worker has answered or 8 ms have passed. -/
def State.shedAt (s : State) : Nat :=
  s.cistern.failAt + (if !s.cistern.acks.isEmpty then 8 * msTicks
    else if s.cistern.gasp.any (fun l => !(s.lane l).dgSent) then 2 * msTicks else 0)

/-- VIN_FAIL_SHED_LOADS (R832, R833). -/
def execVinFailShedLoads (s : State) : Host.Outcome State Fault Refusal :=
  .next (if s.cistern.run = 4 then (s.untilNow (some s.shedAt)).shedLoads else s)

/-- The switches whose soft start waited begin it (R851). -/
def State.lswResume (s : State) : State :=
  (List.range 4).foldl (fun t k => if (t.lsw k).waiting then t.lswStart k else t) s

/-- A ride-through (R838): what the sequence took out of service returns; the ports retrain once their clocks have
started. A RESET_N that waited takes effect (R958). -/
def State.rideThrough (s : State) : State :=
  let s1 := (s.setCs (fun c => { c with vinOk := true, run := 0, snap := none })).charge
  let s2 := { s1 with line := { s1.line with dg := false } }
  let s3 := ((s2.syncTxs).lswResume).gateUsed
  let s4 := (if s3.isManager then s3.dccBcast .vinReturn else s3).raise 65 0 0
  if s.start.deferred then ((s4.coldReset false causeResetN).latchRole).afterReset else s4

/-- CS_VIN_RETURN (R820, R838, R839). -/
def execCsVinReturn (s : State) : Host.Outcome State Fault Refusal :=
  .next (
    if s.cistern.run = 0 then (s.setCs (fun c => { c with vinOk := true })).charge
    else if s.cistern.run ≤ 4 then s.rideThrough
    else (s.setCs (fun c => { c with vinOk := true })).setPower (fun p => { p with wakePresent := some 2 }))

/-- CISTERN_MONITOR_SAMPLE (R821 to R829, R834): ball voltages in mV. The first sample above the return
threshold starts the rails (R816). -/
def execCisternMonitorSample (vinBall storeBall : Nat) (s : State) : Host.Outcome State Fault Refusal :=
  .next (
    let c := s.cistern.inForce
    let store := storeBall * c.storeDiv / 1000
    let vin := vinBall * c.vinDiv / 1000
    let trip := s.cistern.charging && decide (s.cistern.run = 0) && storeTrips c s.cistern.lastStore store
    let s1 := s.setCs (fun x => { x with vinBall := vinBall, storeBall := storeBall, lastStore := store })
    let s2 := if trip then s1.storeAbsent else s1.readiness store
    let s3 := if s.power.seq = .up 0 && s.power.en = 0 && s.power.vaon && decide (c.vinOk < vin) then
        (s2.setCs (fun x => { x with vinOk := true })).railsUp
      else s2
    if s.cistern.run = 4 then (if store < c.vstoreMin then s3.shedLoads else s3) else s3.charge)

/-- PROBE_CHARGE_START (R828). -/
def execProbeChargeStart (s : State) : Host.Outcome State Fault Refusal :=
  .next (
    if s.cistern.absent && !s.cistern.probe && decide (s.cistern.run = 0) then
      s.setCs (fun c => { c with probe := true, charging := true })
    else s)

/-- PROBE_CHARGE_END (R828): no test has tripped. -/
def execProbeChargeEnd (s : State) : Host.Outcome State Fault Refusal :=
  .next (
    if s.cistern.probe then
      ((s.setCs (fun c => { c with probe := false, absent := false })).charge).raise 67 0 0
    else s)

/-- CS_MGR_SHED (R840): a worker acts on the manager's broadcast. -/
def State.mgrShed (s : State) : State :=
  if s.isManager || s.cistern.run ≠ 0 || s.cistern.shed.isSome then s
  else
    let s1 := ((s.setCs (fun c => { c with shed := some s.now })).portsGate).flushLog true
    (s1.dcc 0 .mgrShed).raise 69 0 0

def execCsMgrShed (s : State) : Host.Outcome State Fault Refusal := .next s.mgrShed

/-- WORKER_SHED_RESTORE (R838, R841). -/
def State.shedRestore (s : State) : State :=
  if s.isManager || s.cistern.run ≠ 0 || s.cistern.shed.isNone then s
  else (s.setCs (fun c => { c with shed := none })).gateUsed

def execWorkerShedRestore (s : State) : Host.Outcome State Fault Refusal := .next s.shedRestore

end Sys2Proof.Machine
end

