-- ==== Sys2Proof/Machine/Power.lean ====
section
/-!
DEFINITION. Rails, the entry to MOORED and BEACHED, wakes and thermal steps.
-/

namespace Sys2Proof.Machine

/-! ### Entry to MOORED and BEACHED (R797 to R804) -/

/-- ENTRY_CAUSE of an entry (Table PW-6). -/
def Entry.cause (e : Entry) : Nat := if e.thermal then 4 else if e.beached then 2 else 1

/-- Step 2 ends: DRAIN_LEFT and the wake record are written, PWR_MODE is set (Table PW-4). -/
def State.drained (e : Entry) (s : State) : State :=
  (s.entryWake e.cause e.wake e.timer e.thermal).setPower (fun p =>
    { p with state := .halting, drainLeft := s.pool.left, wakeEn := e.wake, thermalBit := e.thermal
             pwrMode := if e.beached then 2 else 1 })

/-- Step 1 begins: intake stops (Table PW-4). -/
def State.enterNow (e : Entry) (s : State) : State :=
  let s1 := s.setPower (fun p => { p with state := .draining, entry := some e })
  if e.drainMs = 0 then s1.drained e else s1

/-- MOORED_ENTRY (R722, R797): the boundary of R722. -/
def execMooredEntry (s : State) : Host.Outcome State Fault Refusal :=
  .next (
    match s.power.entry with
    | some e =>
      if e.beached || (s.power.state ≠ .run && s.power.state ≠ .idle) then s
      else (s.until (e.at_ * frameTicks)).enterNow e
    | none => s)

/-- BEACHED_ENTRY (R722, R804): a drain of 0 ms. -/
def execBeachedEntry (s : State) : Host.Outcome State Fault Refusal :=
  .next (
    match s.power.entry with
    | some e =>
      if !e.beached || (s.power.state ≠ .run && s.power.state ≠ .idle) then s
      else (s.until (e.at_ * frameTicks)).enterNow { e with drainMs := 0 }
    | none => s)

/-- DRAIN_END (step 2 of Table PW-4): every queue is empty, or DRAIN_MS has passed. -/
def execDrainEnd (s : State) : Host.Outcome State Fault Refusal :=
  .next (
    match s.power.entry with
    | some e =>
      if s.power.state ≠ .draining then s
      else if s.pool.left = 0 then s.drained e
      else (s.until (e.at_ * frameTicks + e.drainMs * msTicks)).drained e
    | none => s)

/-- CP_WAIT_HALT (R795, R797, R804): a wait that ends at once starts nothing; otherwise steps 3 to 6. -/
def execCpWaitHalt (irqPending : Bool) (s : State) : Host.Outcome State Fault Refusal :=
  .next (
    if irqPending || s.power.state ≠ .halting || s.power.seq ≠ .on then s
    else if s.power.pwrMode = 1 then
      ((s.goDark).setPower (fun p => { p with seq := .mooredDown 5 })).railOff 5
    else if s.power.pwrMode = 2 then ((s.goDark).setPower (fun p => { p with seq := .down 5 })).railOff 5
    else s)

/-! ### Wakes (R800 to R806) -/

/-- A wake start from BEACHED (R806). -/
def State.wakeStart (cause : Nat) (s : State) : State :=
  let s1 := s.setWake (fun w => { w with wakeCause := cause })
  let s2 := s1.coldReset false causeWake
  (s2.setPower (fun p => { p with fails := 0, delay := 1 })).railsUp

/-- The exit from MOORED begins: rails 2, 3 and 5 (R789, R801); after a void retention everything starts
anew (R792). -/
def State.mooredExit (cause : Nat) (s : State) : State :=
  if s.power.wakeRec.retVoid then s.wakeStart cause
  else
    let s1 := s.setWake (fun w => { w with wakeCause := cause })
    (s1.setPower (fun p => { p with seq := .mooredUp 2, wakePresent := none })).railOn 2

/-- A wake condition in the state that the device is in. During an entry it waits for its end (R800); of
two the lowest DETAIL is recorded (Table PW-8). -/
def State.wake (cause : Nat) (s : State) : State :=
  let s0 := if cause = 2 then s.setCs (fun c => { c with vinOk := true }) else s
  match s.power.state with
  | .beached => if cause = 1 ∨ cause = 2 then s0.wakeStart cause else s
  | .moored =>
    if s.power.seq = .off && bit s.power.wakeEn (cause - 1) && decide (1 ≤ cause) then s0.mooredExit cause
    else s
  | .halting =>
    if (decide (s.power.pwrMode = 2) && decide (cause = 1 ∨ cause = 2))
        || (bit s.power.wakeEn (cause - 1) && decide (1 ≤ cause)) then
      s0.setPower (fun p => { p with wakePresent := some (min cause (p.wakePresent.getD cause)) })
    else s
  | _ => s

/-- PW_WAKE (Table PW-5). -/
def execPwWake (cause : Nat) (s : State) : Host.Outcome State Fault Refusal := .next (s.wake cause)

/-- What follows when the sequencer has brought the rails down: BEACHED, or MOORED; a wake that is present
ends it at once (R800). -/
def State.railsAreDown (st : Pwr) (s : State) : State :=
  let s0 := s.setPower (fun p => { p with state := st, seq := .off, entry := none })
  let s1 := if st = Pwr.beached && s.cistern.dgReady then s0.emit (.pin "STORE_OK" false) else s0
  match s.power.wakePresent with
  | some c => (s1.setPower (fun p => { p with wakePresent := none })).wake c
  | none => s1

/-! ### Rails (R783 to R791) -/

/-- The rails are up: the oscillator is enabled (Table CK-12); a retry that succeeded is told at the start
(Table PW-9). -/
def State.railsAreUp (s : State) : State :=
  let s1 := if s.power.fails = 0 then s
    else { s with start := { s.start with pendingEvents := s.start.pendingEvents ++ [3] } }
  (s1.setPower (fun p => { p with seq := .on, fails := 0, delay := 1 })).setClk (fun c =>
    { c with oscOn := true })

/-- The rail after one in the sequence of MOORED (R789). -/
def mooredNext (k : Nat) : Option Nat := if k = 2 then some 3 else if k = 3 then some 5 else none

/-- RAIL_POWER_GOOD (R786, R789). -/
def execRailPowerGood (k : Fin 6) (s : State) : Host.Outcome State Fault Refusal :=
  .next (
    if !bit s.power.en k.val then s
    else
      let s1 := s.setPower (fun p => { p with pg := putBit p.pg k.val true })
      match s.power.seq with
      | .up j =>
        if j ≠ k.val then s1
        else if j = 5 then s1.railsAreUp
        else (s1.setPower (fun p => { p with seq := .up (j + 1) })).railOn (j + 1)
      | .mooredUp j =>
        if j ≠ k.val then s1
        else
          match mooredNext j with
          | some n => (s1.setPower (fun p => { p with seq := .mooredUp n })).railOn n
          | none => s1.railsAreUp
      | _ => s1)

/-- Every enable drops (R787, R790, R791). -/
def State.railsDrop (s : State) : State := s.setPower (fun p => { p with en := 0, pg := 0 })

/-- RAIL_PG_WINDOW_EXPIRY (R787): power-up fails and is tried again after a delay. -/
def execRailPgWindowExpiry (k : Fin 6) (s : State) : Host.Outcome State Fault Refusal :=
  .next (
    if bit s.power.pg k.val || !bit s.power.en k.val then s
    else
      let fail (void : Bool) : State :=
        let s1 := if void then s.coldReset false causeWake else s
        ((s1.railsDrop).railFault k.val 1 void).setPower (fun p =>
          { p with seq := .retryWait, fails := s.power.fails + 1
                   delay := if s.power.fails = 0 then 1 else min 64 (s.power.delay * 2) })
      match s.power.seq with
      | .up j => if j = k.val then fail false else s
      | .mooredUp j => if j = k.val then fail true else s
      | _ => s)

/-- POWER_UP_RETRY (R787). -/
def execPowerUpRetry (s : State) : Host.Outcome State Fault Refusal :=
  .next (if s.power.seq = .retryWait then s.railsUp else s)

/-- The rail below one in the partial power-down (R789). -/
def mooredBelow (k : Nat) : Option Nat := if k = 5 then some 3 else if k = 3 then some 2 else none

/-- RAIL_POWER_DOWN_STEP (R788, R789): the rail whose turn it is has fallen, or its 10 ms have passed. -/
def execRailPowerDownStep (pgFell : Bool) (s : State) : Host.Outcome State Fault Refusal :=
  .next (
    let fell (k : Nat) : State :=
      if pgFell then s.setPower (fun p => { p with pg := putBit p.pg k false })
      else
        let s1 := s.setWake (fun w => { w with rail := k, phase := 3 })
        { s1 with start := { s1.start with pendingEvents := s1.start.pendingEvents ++ [4] } }
    match s.power.seq with
    | .down k =>
      if k = 0 then (fell k).railsAreDown .beached
      else
        let n := if k = 4 ∧ !bit s.power.en 2 then 1 else k - 1
        ((fell k).setPower (fun p => { p with seq := .down n })).railOff n
    | .mooredDown k =>
      match mooredBelow k with
      | some n => ((fell k).setPower (fun p => { p with seq := .mooredDown n })).railOff n
      | none => (fell k).railsAreDown .moored
    | _ => s)

/-- RAIL_PG_LOST (R785, R790): all rails down, retention void, a full start. Its ST_COLD_START has the
DETAIL of a wake start: Table ST-1 has none of its own (DESIGN CHOICE, log 36). -/
def execRailPgLost (k : Fin 6) (s : State) : Host.Outcome State Fault Refusal :=
  .next (
    let settled := s.power.seq = .on || (s.power.state = .moored && s.power.seq = .off)
    if !bit s.power.en k.val || !bit s.power.pg k.val || !settled then s
    else (((s.releaseBypass).coldReset false causeWake).railFault k.val 2 true).railsUp)

/-- RAIL_FAIL_IN_POWER_DOWN (R791). -/
def execRailFailInPowerDown (k : Fin 6) (s : State) : Host.Outcome State Fault Refusal :=
  .next (
    if !bit s.power.en k.val then s
    else
      let s1 := (s.railsDrop).railFault k.val 3 true
      match s.power.seq with
      | .down _ => s1.railsAreDown .beached
      | .mooredDown _ => s1.railsAreDown .moored
      | _ => s)

/-! ### Thermal steps (R809 to R814, R965) -/

/-- A temperature in units of 0.125 °C. -/
def deg (n : Nat) : Int := (n : Int) * 8

/-- Whether a reading is excluded (R814). -/
def badReading (r : Option Int) : Bool :=
  match r with
  | none => true
  | some t => decide (t < -400) || decide (1200 < t)

/-- TJ: the highest reading of the sensors that count (R809). -/
def tjOf (l : List (Option Int)) : Option Int :=
  l.foldl (fun m r => if badReading r then m else match m, r with
    | none, _ => r
    | some a, some b => some (max a b)
    | some a, none => some a) none

/-- The threshold of step `k`, 1 to 4 (Table PW-7). -/
def stepDeg (k : Nat) : Nat := if k = 1 then 105 else if k = 2 then 110 else if k = 3 then 113 else 115

/-- The source of step `k` (Table PW-9). -/
def stepEvent (k : Nat) : Nat := 627 + k

/-- The lanes that the lane shed step keeps: the two lowest-numbered in O5.1, filled up from the lowest of
the others (R274; DESIGN CHOICE, log 37). -/
def State.keepLanes (s : State) : List Nat :=
  let on := (List.range 4).filter (fun l => decide ((s.lane l).act ≠ .off))
  let up := on.filter (fun l => decide ((s.lane l).act = .o5))
  let rest := on.filter (fun l => decide ((s.lane l).act ≠ .o5))
  (up ++ rest).take 2

/-- The lane shed step (R274, R810, R965). -/
def State.thermalShed (s : State) : State :=
  if !s.isManager || !s.cfg.line.bonded then s
  else
    let keep := s.keepLanes
    (List.range 4).foldl (fun t l =>
      if (t.lane l).act = .off || keep.contains l then t
      else
        let t1 := ((t.laneLeave l downThermal).forgetLane l).dropParts l
        (t1.setAct l .off).modLane l (fun x => { x with shedTherm := true, sync := false, los := false })) s

/-- Enter step `k` (Table PW-7). -/
def State.enterStep (k : Nat) (s : State) : State :=
  let s1 := ((s.setPower (fun p => { p with step := k })).raise (stepEvent k) 0 1).logRec 8 [BitVec.ofNat 8 k]
  if k = 2 then (s1.thermalShed).recheck
  else if k = 3 then (s1.setClk (fun c => { c with coreReq := some true })).recheck
  else s1

/-- Thermal entry to MOORED (R813): WAKE_N and the AON timer. -/
def State.thermalMoor (s : State) : State :=
  let e : Entry :=
    { thermal := true, wake := 0x11, timer := s.power.thermTimer, at_ := s.tide.frame }
  (s.raise 631 0 0).enterNow e

/-- Enter every step up to `n` that is not in force, in ascending order (R811). -/
def State.stepsTo (n : Nat) (s : State) : State :=
  ((List.range 4).filter (fun k => decide (s.power.step < k) && decide (k ≤ n))).foldl
    (fun t k => t.enterStep k) s

/-- A sensor's exclusion (R814): PW_TH_SENSOR with the sensor's number. -/
def State.sensors (l : List (Option Int)) (s : State) : State :=
  (List.range 4).foldl (fun t k =>
    let bad := badReading (l.getD k none)
    let t1 := t.setPower (fun p => { p with sensorBad := putBit p.sensorBad k bad })
    if bad && !bit t.power.sensorBad k then t1.raise 632 0 k else t1) s

/-- Consecutive samples at or above each threshold (R809). -/
def State.stepCounts (tj : Option Int) (s : State) : State :=
  s.setPower (fun p => { p with above := [1, 2, 3, 4].foldl (fun t k =>
    Tab.set 0 t k (match tj with
      | none => 0
      | some x => if deg (stepDeg k) ≤ x then min 8 (Tab.get 0 t k + 1) else 0)) p.above })

/-- The highest step whose eight samples are complete, 0 none. -/
def Power.due (p : Power) : Nat :=
  [1, 2, 3, 4].foldl (fun m k => if 8 ≤ Tab.get 0 p.above k then k else m) 0

/-- The sample rules of R809, R811, R813 and R814 in operation. A VIN-fail sequence governs a thermal shutdown (Table
CS-3). -/
def State.thermal (l : List (Option Int)) (s : State) : State :=
  let s1 := (s.setPower (fun p => { p with readings := l })).sensors l
  let s2 := s1.stepCounts (tjOf l)
  let two := decide (2 ≤ maskCount s2.power.sensorBad)
  let s3 := s2.stepsTo (if two then max 3 (min 3 s2.power.due) else min 3 s2.power.due)
  if s2.power.due = 4 && s.power.state ≠ .halting && decide (s.cistern.run = 0) then s3.thermalMoor else s3

/-- Step `k` is left (R809, R812, R965). -/
def State.leaveStep (k : Nat) (s : State) : State :=
  let s1 := (s.setPower (fun p => { p with step := k - 1 })).raise (stepEvent k) 0 0
  let s2 := if k = 2 then
      ((List.range 4).foldl (fun t l =>
        if (t.lane l).shedTherm then
          let t1 := t.modLane l (fun x => { x with shedTherm := false })
          if t1.cfg.laneOn l then t1.laneStart l else t1
        else t) s1).recheck
    else if k = 3 then (s1.setClk (fun c => { c with coreReq := some false })).recheck
    else s1
  if k = 1 then s2.raise 633 0 0 else s2

/-- THERMAL_STEP_EXIT (R809, R812): TJ has stayed 5 °C below the threshold for 10 s. Steps are left in descending
order; two excluded sensors hold the lane
shed and core save steps (R814). -/
def execThermalStepExit (step : Fin 4) (s : State) : Host.Outcome State Fault Refusal :=
  .next (
    if step.val = 0 || s.power.step ≠ step.val then s
    else if (tjOf s.power.readings).any (fun t => decide (deg (stepDeg step.val - 5) ≤ t)) then s
    else if decide (2 ≤ maskCount s.power.sensorBad) && decide (2 ≤ step.val) then s
    else s.leaveStep step.val)

end Sys2Proof.Machine
end

