-- ==== Sys2Proof/Machine/Start.lean ====
section
/-!
DEFINITION. Resets, the boot ROM's choice of an image, the start of the device, warm CP restarts, partial
resets and the confirmation window.
-/

namespace Sys2Proof.Machine

def State.setStart (f : Start → Start) (s : State) : State := { s with start := f s.start }

/-! ### The start (Table ST-11) -/

/-- The wake record as bytes (Table PW-6). -/
def WakeRecord.bytes (w : WakeRecord) : List Byte :=
  let fl := w.o7 % 16 + flag w.retVoid 4 + flag w.fullTest 5 + flag w.thermal 6
  let b := leBytes 1 1 ++ leBytes 1 w.cause ++ leBytes 1 fl ++ leBytes 1 (w.rail + 64 * w.phase)
    ++ leBytes 8 w.nonce.toNat ++ leBytes 8 w.entryTide ++ leBytes 4 w.timer ++ leBytes 1 w.mask
    ++ leBytes 1 w.wakeCause ++ [0, 0]
  b ++ leBytes 4 (crc32c b).toNat

/-- The boot ROM tests the entropy source and derives slots 17 to 20 (R576, R611); the configuration store
gives slots 0 to 3 (R612), from which the lanes' keys are derived (R152, R595); the DRBG is ready. -/
def State.bootCipher (s : State) : State :=
  let s1 := { s with cipher := { s.cipher with
    entropyOk := true, drbgReady := true, storeOk := s.start.hasFlash && s.start.storeUsed.isSome } }
  [0, 1, 2, 3].foldl (fun t l => t.rederive l)
    ([17, 18, 19, 20].foldl (fun t v => t.putVault v (some (Config.deriveKey 0 (2000 + v)))) s1)

/-- A new boot nonce (R475), kept in the wake record. -/
def State.newNonce (s : State) : State :=
  let r := s.genKey
  let n : BitVec 64 := r.1.setWidth 64
  let s1 := { r.2 with cipher := { r.2.cipher with bootNonce := n } }
  (s1.setJoin (fun j => { j with nonce := n, newNonce := true })).setWake (fun w => { w with nonce := n })

/-- The manager's ring starts: a chain key, the bypass open, containers carried (R473, R488, R603). -/
def State.ringStart (s : State) : State :=
  if !s.isManager then s
  else
    let r := s.genKey
    let s1 := r.2.putVault 16 (some r.1)
    let s2 := { s1 with
      cipher := { s1.cipher with dccChain := true }
      ring := { s1.ring with enabled := true, join := { s1.ring.join with joined := true, bypOpen := true } } }
    ((s2.emit (.pin "BYP_OPEN_N" false)).raise 398 (sideObj s.self 0) 1).rework

/-- The stored configuration is checked and committed, what fails is shed (R416, R886); a worker's comes from
its manager. -/
def State.commitStored (s : State) : State :=
  if !s.isManager then s
  else
    let c : Cfg := s.start.stored.getD {}
    let s1 := if s.start.storeUsed.isNone then s.raise 107 0 0 else s
    let s2 := { s1 with cfg := c, cistern := { s1.cistern with
      settings := if (c.cistern).isEmpty then s1.cistern.settings else Tab.get {} c.cistern 0 } }
    ((c.gates.foldl (fun t x => t.gateSwitch x.1 x.2) (s2.follow {})).rerun false)

/-- A logbook record of an image action (R884, KIND 0x0004): the bank and what was done: 0 erased for a
write, 1 verified, 2 activated, 3 rolled back, 4 confirmed, 5 left for the other bank by a fallback, 6 found bad at a
start (the layout is the model's: DESIGN CHOICE, log 43). -/
def State.imageRec (b : Bool) (what : Nat) (s : State) : State :=
  s.logRec 4 [BitVec.ofNat 8 (b2n b), BitVec.ofNat 8 what]

/-- The image action of an event that a start raises, on the bank that does not run. -/
def State.imageStart (s : State) (e : Nat) : State :=
  match e with
  | 99 => s.imageRec (!s.start.image) 5
  | 100 => s.imageRec (!s.start.image) 3
  | 101 => s.imageRec (!s.start.image) 6
  | _ => s

/-- What the start raises and records (R792, R815, R884). -/
def State.startEvents (s : State) : State :=
  let w := s.power.wakeRec
  let s1 := s.raise 96 0 s.start.resetCause
  let s2 := s.start.pendingEvents.foldl (fun t e => (t.raise e 0 0).imageStart e) s1
  let s3 := s2.setStart (fun k => { k with pendingEvents := [] })
  let s4 := s3.logRec 3 [BitVec.ofNat 8 s.start.resetCause, BitVec.ofNat 8 (b2n s.start.image),
    BitVec.ofNat 8 (b2n s.start.fallback)]
  let s5 := if s.start.resetCause = causeWake && w.cause != 5 then (s4.raise 0 0 3).raise 0 0 0 else s4
  if w.valid && w.retVoid then
    ((s5.logRec 6 w.bytes).raise 2 0 w.rail).setWake (fun w =>
      { w with rail := 0, phase := 0, retVoid := false, fullTest := false, cause := 0 })
  else s5

/-- The UART and the GPIO pins take their stored settings (R927, R929, R934). -/
def State.craftStart (s : State) : State :=
  let c := s.craft
  c.storedGpio.foldl (fun t x =>
    if x.2.func = 1 then t.emit (.pin ("GPIO_" ++ toString x.1) x.2.level) else t)
    { s with craft := { c with uart := c.storedUart, gpio := c.storedGpio } }

/-- Itvekor starts (Table ST-11): XO_THR is set from the configuration store (R83), the mailboxes are served, the sensors read (R817), the configuration
committed, the switches started (R856), the lanes enabled, the ring trained. -/
def State.startCp (s : State) : State :=
  let s1 := s.setStart (fun k => { k with booting := false, fwState := 2 })
  let s2 := (s1.gateOn 0x17000030).setClk (fun c =>
    { c with xoThr := if s.start.storeUsed.isNone then 4 else min 10 s.start.xoThr })
  let s3 := { s2 with host := { s2.host with mbxReady := s.isManager } }
  let s4 := ((s3.startEvents).stepCounts none).stepsTo
    ([1, 2, 3].foldl (fun m k => match tjOf s3.power.readings with
      | none => m
      | some t => if deg (stepDeg k) ≤ t then k else m) 0)
  (((s4.lswBegin).commitStored).craftStart).ringStart

/-- A start from flash: the boot nonce is new (R475). -/
def State.startUp (s : State) : State := (s.newNonce).startCp

/-! ### The boot ROM's choice (R863 to R866, R871) -/

def Start.bank (k : Start) (b : Bool) : ImgBank := if b then k.bankB else k.bankA
def Start.putBank (b : Bool) (x : ImgBank) (k : Start) : Start :=
  if b then { k with bankB := x } else { k with bankA := x }

/-- Set a bank's state. -/
def Start.mark (b : Bool) (x : BankState) (k : Start) : Start := k.putBank b { k.bank b with state := x }

/-- The result of the checks of R860 for an image on this device. -/
def State.imageResult (s : State) (image : List Byte) : Nat := imageCheck s.start.part4410 idStep image

/-- Whether the image of a bank passes R860. -/
def State.passes (s : State) (b : Bool) : Bool := s.imageResult (s.start.bank b).image == 0

/-- Whether the other bank can be booted: VALID and passing R860. -/
def State.otherBoots (s : State) : Bool :=
  decide ((s.start.bank (!s.start.startBank)).state = .valid) && s.passes (!s.start.startBank)

/-- Marks that a cold start makes before an image is chosen: a trial ends (R863), the third watchdog reset
falls back (R871). -/
def State.bootMarks (s : State) : State :=
  let k := s.start
  let o := !k.startBank
  let s1 := if (k.bank o).state = .trial then
      s.header (fun k => { k.mark o .bad with fallback := true, pendingEvents := k.pendingEvents ++ [100] })
    else s
  if k.resetCause = causeWatchdog && decide (3 ≤ k.wdCount) && s1.otherBoots then
    s1.header (fun k => { k.mark k.startBank .bad with
      startBank := !k.startBank, fallback := true, wdCount := 0, pendingEvents := k.pendingEvents ++ [99] })
  else s1

/-- The CP runs the image of bank `b` from now on, and keeps it (R865). -/
def Start.runs (b : Bool) (k : Start) : Start :=
  { k with image := b, fwVersion := imgVersion (k.bank b).image, cpImage := (k.bank b).image }

/-- The image of bank `b` starts, read at the header's FDIV (R113, R918); the boot ROM tells it on the UART
(R934). -/
def State.bootBank (b : Bool) (s : State) : State :=
  let s1 := s.setClk (fun c => { c with fdiv := min 4095 (max 78 s.start.headerFdiv) })
  ((s1.setStart (Start.runs b)).emit (.uart (if b then "BOOT B".toList else "BOOT A".toList))).startUp

/-- No image: a manager asks the ring for one (R865); a worker joins to ring-boot (R866, R480). -/
def State.bootNone (s : State) : State :=
  let s1 := s.emit (.uart "NO IMAGE".toList)
  if s.isManager then (s1.joinSend 0 15 .imgReq).joinSend 1 15 .imgReq
  else (s1.newNonce).gateOn 0x30

/-- The boot ROM's choice by the boot header in use (R864): START_BANK, or the other bank, or none. -/
def State.bootByHeader (s : State) : State :=
  let s1 := s.bootMarks
  let b := s1.start.startBank
  if s1.passes b then s1.bootBank b
  else
    let s2 := s1.header (fun k => { k.mark b .bad with pendingEvents := k.pendingEvents ++ [101] })
    if s1.otherBoots then (s2.setStart (fun k => { k with fallback := true })).bootBank (!b)
    else s2.bootNone

/-- The boot ROM (R859, R864, R921, R924): by the boot header, bank A and then bank B where both its copies fail, no
image from a flash that is absent or not supported. -/
def State.boot (s : State) : State :=
  if !s.start.hasFlash then
    (if s.isManager || s.start.flashPresent then
      s.setStart (fun k => { k with pendingEvents := k.pendingEvents ++ [626] }) else s).bootNone
  else
    let s1 := s.setStart Start.readHeader
    if s1.start.headerUsed.isSome then s1.bootByHeader
    else if s1.passes false then s1.bootBank false
    else if s1.passes true then s1.bootBank true
    else s1.bootNone

/-- NO_VALID_BANK_RETRY (R865). -/
def execNoValidBankRetry (s : State) : Host.Outcome State Fault Refusal :=
  .next (
    if s.start.booting && s.clk.running then
      (if s.start.hasFlash && (s.passes s.start.startBank || s.otherBoots) then s.boot else s.bootNone)
    else s)

/-! ### The root locks (R74, R90, R101, R114, R801) -/

/-- The first lock: every divider starts, Tide from zero, the boot ROM gates FLASH and UART on. -/
def State.firstLock (s : State) : State :=
  let s1 := s.setClk (fun c => { c.cpTo false with rootLock := true, running := true, fdiv := 623 })
  (((s1.gateOn 0x28000000).bootCipher).boot)

/-- The first thermal reading of an exit from MOORED is due (R801). -/
def State.mooredLock (s : State) : State :=
  (s.setClk (fun c => { c.cpTo false with rootLock := true, running := true })).setPower (fun p =>
    { p with recheckFirst := true })

/-- The data path resumes (R563, R614, R801 to R803, R229, R395). -/
def State.resume (s : State) : State :=
  let left := s.power.drainLeft
  let cause := s.power.wakeRec.wakeCause
  let s0 := if s.cipher.entropyOk then s.reseed else s
  let s1 := s0.setPower (fun p =>
    { p with state := .run, entry := none, pwrMode := 0, thermalBit := false, recheckFirst := false
             drainLeft := 0 })
  let s2 := ({ s1 with tide := { s1.tide with state := .unanchored, deciding := false, stepAt := none
                                              error := 0 }.holdClear }).pulseHold
  let s3 := (List.range 4).foldl (fun t l =>
    let on := decide ((t.lane l).act ≠ .off)
    let t1 := ((t.forgetLane l).dropParts l).modLane l (fun x =>
      { x with act := .off, los := false, sync := false, sd := false, sf := false, spans := [] })
    if on then t1.laneStart l else t1) s2
  let cleared : Tab AllocState :=
    (s3.line.allocs.map (fun x => (x.1, ({ x.2 with grants := [] } : AllocState)))).filter (fun x =>
      decide (x.2 ≠ {}))
  let s4 := { s3 with line := { s3.line with allocs := cleared } }
  let s5 := (List.range 8).foldl (fun t p =>
    ((((t.flushPoint (1200 + p)).flushPoint (1208 + p)).slipRestart p).cesRestart p)) s4
  let s6 := ((s5.gatesStep).wheelStep).syncIdle
  let s7 := s.start.pendingEvents.foldl (fun t e => t.raise e 0 0) s6
  let s8 := s7.setStart (fun k => { k with pendingEvents := [] })
  let s9 := ((s8.raise 0 0 2).raise 0 0 0).raise 1 0 cause
  let s10 := if left = 0 then s9 else s9.raise 5 0 left
  if s.isManager then
    ({ s10 with ring := { s10.ring with enabled := true, join := { s10.ring.join with joined := true, bypOpen := true } }
      }).emit (.pin "BYP_OPEN_N" false)
  else s10.joinBegin

/-- ROOT_LOCK (Table CK-12): the first lock of a start, an exit from MOORED, or a lock regained. -/
def execRootLock (s : State) : Host.Outcome State Fault Refusal :=
  .next (
    if s.clk.rootLock || !(s.clk.xoOk || s.clk.refSrc || s.clk.running) then s
    else if s.power.state = .moored then (if s.clk.xoOk then s.mooredLock else s)
    else if !s.clk.running then (if s.start.booting && s.clk.xoOk then s.firstLock else s)
    else (s.setClk (fun c => { c with rootLock := true })).raise 58 0 0)

/-- THERMAL_SAMPLE (R801, R809 to R814, R817): readings in units of 0.125 °C. -/
def execThermalSample (t0 t1 t2 t3 : Option Int) (s : State) : Host.Outcome State Fault Refusal :=
  .next (
    let l := [t0, t1, t2, t3]
    if s.power.recheckFirst then
      let s1 := s.setPower (fun p => { p with readings := l })
      let hot := match tjOf l with
        | some t => decide (deg 100 ≤ t)
        | none => false
      if s.power.wakeRec.thermal && hot then
        let n := min 960 (s.power.thermTimer * 2)
        let s2 := (s1.entryWake 4 0x11 n true).setPower (fun p =>
          { p with recheckFirst := false, thermTimer := n, wakeEn := 0x11, seq := .mooredDown 5 })
        ((s2.setStart (fun k => { k with pendingEvents := k.pendingEvents ++ [6] })).clocksOff).railOff 5
      else (s1.setPower (fun p => { p with thermTimer := 60 })).resume
    else if s.start.fwState = 0 || s.power.state = .moored || s.power.state = .beached then
      s.setPower (fun p => { p with readings := l })
    else s.thermal l)

/-! ### Resets (Table ST-1) -/

/-- POWER_ON_RESET (R12, R816, R956): VAON is valid; the rails start once the bus is above the return
threshold. -/
def execPowerOnReset (s : State) : Host.Outcome State Fault Refusal :=
  .next (
    let s1 := ((s.coldReset true causePor).latchRole).setPower (fun p =>
      { p with vaon := true, en := 0, pg := 0, seq := .up 0, fails := 0, delay := 1 })
    if s.cistern.vinOk then s1.railsUp else s1)

/-- POWER_ON_RESET_ASSERT (R783, R956): VAON fails, every rail with it. -/
def execPowerOnResetAssert (s : State) : Host.Outcome State Fault Refusal :=
  .next ((s.coldReset true causePor).setPower (fun p =>
    { p with vaon := false, en := 0, pg := 0, seq := .off, fails := 0, delay := 1 }))

/-- RESET_N_ASSERT (R957 to R959): no effect in BEACHED; it waits for the end of a VIN-fail sequence; in
MOORED every rail is powered up. -/
def execResetNAssert (s : State) : Host.Outcome State Fault Refusal :=
  .next (
    if s.power.state = .beached then s
    else if s.cistern.run ≠ 0 then s.setStart (fun k => { k with deferred := true })
    else
      let moored := decide (s.power.state = .moored)
      let s1 := (s.coldReset false causeResetN).setStart (fun k => { k with resetPin := false })
      if moored && decide (s.power.seq = .off) then
        (s1.setPower (fun p => { p with seq := .mooredUp 2 })).railOn 2
      else s1)

/-- RESET_N_RELEASE (R12, R957). -/
def execResetNRelease (s : State) : Host.Outcome State Fault Refusal :=
  .next (
    if s.start.resetPin then s
    else ((s.setStart (fun k => { k with resetPin := true })).latchRole).afterReset)

/-- HOST_COMMAND_RESET (R858). -/
def execHostCommandReset (value : W32) (s : State) : Host.Outcome State Fault Refusal :=
  .next (if value = 0x52535430 && s.isManager then (s.coldReset false causeHost).afterReset else s)

/-- A ring-command reset of a worker (R481, R686). -/
def State.ringReset (s : State) : State :=
  if s.isManager then s else (((s.releaseBypass).coldReset false causeRing).afterReset)

/-! ### Warm CP restarts (R648, R653, R861, R869 to R875) -/

/-- Abort a mailbox's open transaction (R648). -/
def State.abortTxn (m : Nat) (s : State) : State :=
  if (s.box m).txn.isNone then s
  else (s.modBox m (fun b => { b with txn := none })).raise 582 0 m

/-- The object under a loopback or PRBS returns to service (R740, R741). -/
def State.endDiag (o : Nat) (s : State) : State :=
  let s1 := s.setStart (fun k => { k with diags := Tab.set none k.diags o none })
  match objCls o with
  | 7 => if s1.cesOn (objIdx o) then s1.cesRestore (objIdx o) else s1
  | 0xE => s1.modSide (objIdx o - 0x10) (fun x => { x with prbs := false })
  | _ => s1

/-- Stop what a deferred operation of mailbox `m` does at its safe point (R651, R735, R739). -/
def State.stopOp (m seq : Nat) (s : State) : State :=
  let s1 := s.setStart (fun k =>
    { k with write := match k.write with
               | some w => if w.mbx = m ∧ w.seq = seq then none else some w
               | none => none
             selftest := match k.selftest with
               | some t => if t.1 = m ∧ t.2.1 = seq then none else some t
               | none => none })
  (s.start.diags.filter (fun x => x.2.any (fun d => d.mbx == m && d.seq == seq && !d.loopback))).foldl
    (fun t x => t.endDiag x.1) s1

/-- Draw `n` free 32-bit values as bytes. -/
def State.drawWords (n : Nat) (s : State) : List Byte × State :=
  ((List.range n).flatMap (fun k => leBytes 4 (Config.freeWord (s.fresh + k)).toNat),
    { s with fresh := s.fresh + n })

/-- The payload of an ABORTED completion (Table CB-12): RESULT 5. What a stopped test had counted is not given:
free values (log 38). -/
def State.stopped (d : Deferred) (s : State) : List Byte × State :=
  if d.opc = 0x0B00 then
    (leBytes 4 5 ++ leBytes 4 0 ++ leBytes 4 (match s.start.write with
      | some w => w.bytes.length
      | none => 0), s)
  else
    let r := s.drawWords (if d.opc = 0x0C00 then 4 else 5)
    (leBytes 4 5 ++ r.1, r.2)

/-- Stop one deferred operation with its ABORTED completion (R651, R653). -/
def State.abortOp (m : Nat) (d : Deferred) (s : State) : State :=
  let r := s.stopped d
  (r.2.stopOp m d.seq).complete m d.seq .aborted r.1

/-- End every outstanding deferred operation of a mailbox (R653). -/
def State.abortOps (m : Nat) (s : State) : State :=
  (s.box m).deferred.foldl (fun t d => t.abortOp m d) s

/-- A warm CP restart begins (R872, R873): transactions end, deferred operations end, requests that wait and
a partial shell line (Table CF-3) are forgotten. -/
def State.warmRestart (s : State) : State :=
  let s0 := { s with host := { s.host with mbxReady := false }, craft := { s.craft with line := [], drop := false } }
  let s1 := (s0.setStart (fun k => { k with fwState := 3, activateAt := none })).raise 97 0 0
  let s2 := s1.logRec 3 [0, BitVec.ofNat 8 (b2n s.start.image), BitVec.ofNat 8 (b2n s.start.fallback)]
  (List.range 34).foldl (fun t m =>
    ((t.abortTxn m).abortOps m).modBox m (fun b => { b with waiting := none })) s2

/-- WARM_CP_RESTART: the second boundary after FW_ACTIVATE (R736), or any other cause. -/
def execWarmCpRestart (s : State) : Host.Outcome State Fault Refusal :=
  .next (
    if s.start.fwState = 0 || s.start.fwState = 3 then s
    else
      match s.start.activateAt with
      | some f => (s.until (f * frameTicks)).warmRestart
      | none => s.warmRestart)

/-- A worker runs the image that the ring brought into CP memory (R480, R867). -/
def State.runImage (s : State) : State :=
  let b := s.ring.join.image
  (s.setStart (fun k => { k with fwVersion := imgVersion b, cpImage := b })).setJoin (fun x =>
    { x with version := imgVersion b, image := [], imgDone := false })

/-- The image that a warm CP restart reloads: on a worker the one the manager sent, else the target bank
where it passes R860. -/
def State.reload (s : State) : State :=
  match s.start.target with
  | none => if !s.isManager && s.ring.join.imgDone then s.runImage else s
  | some b =>
    let s1 := s.setStart (fun k => { k with target := none })
    if !s.passes b then s1
    else
      let s2 := s1.setStart (Start.runs b)
      if (s.start.bank b).state = .trial then
        s2.setStart (fun k => { k with
          unconfirmed := true, confirmEnd := some (s.now + k.confirmMin * 60 * secTicks) })
      else s2

/-- WARM_RESTART_DONE (R872 to R875): FW_STATE returns, held messages are executed. -/
def execWarmRestartDone (s : State) : Host.Outcome State Fault Refusal :=
  .next (
    if s.start.fwState ≠ 3 then s
    else
      let s0 := (s.reload).setStart (fun k => { k with fwState := if k.maint then 4 else 2 })
      let s1 := { s0 with host := { s0.host with mbxReady := s.isManager } }
      ((List.range 4).foldl (fun t l => t.replayPloam l) s1).flushOmci)

/-- WATCHDOG_RESTART (R869): Itvekor restarts the watchdog. -/
def execWatchdogRestart (s : State) : Host.Outcome State Fault Refusal :=
  .next (s.setStart (fun k => { k with lastKick := s.now }))

/-- WATCHDOG_BITE (R869, R870): the watchdog's 2 s since it was restarted have elapsed. A second bite within 60 s of the restart that followed one, or during it, is
a watchdog reset. -/
def execWatchdogBite (s : State) : Host.Outcome State Fault Refusal :=
  .next (
    let s := s.untilNow (some (s.start.lastKick + 2 * secTicks))
    if s.start.fwState = 0 then s
    else
      let second := s.start.fwState = 3 || s.start.lastBite.any (fun t => decide (s.now ≤ t + 60 * secTicks))
      if second then
        (((s.releaseBypass).coldReset false causeWatchdog).setStart (fun k =>
          { k with wdCount := s.start.wdCount + 1, pendingEvents := k.pendingEvents ++ [98] })).afterReset
      else ((s.setStart (fun k => { k with lastBite := some s.now, lastKick := s.now })).raise 98 0 0).warmRestart)

/-- WATCHDOG_COUNT_CLEAR (R870). -/
def execWatchdogCountClear (s : State) : Host.Outcome State Fault Refusal :=
  .next (if s.start.fwState = 2 then s.setStart (fun k => { k with wdCount := 0 }) else s)

/-- CONFIRM_WINDOW_EXPIRY (R862). -/
def execConfirmWindowExpiry (s : State) : Host.Outcome State Fault Refusal :=
  .next (
    if !s.start.unconfirmed then s
    else
      let s1 := s.header (fun k =>
        { k.mark k.image .bad with
          unconfirmed := false, confirmEnd := none, fallback := true, target := some k.startBank })
      ((s1.raise 100 0 0).logRec 4 [BitVec.ofNat 8 (b2n s.start.image), 3]).warmRestart)

/-! ### Partial resets (R876, R877, Table ST-5) -/

/-- The domain code of Table ST-5. -/
def resetCode : ResetDomain → Nat
  | .lane n => n.val
  | .ring d => 0x10 + d.val
  | .port p => 0x20 + p.val
  | .e1 => 0x30
  | .cipher => 0x40

/-- The object that a partial reset's event names. -/
def resetObject (self : Nat) : ResetDomain → Nat
  | .lane n => objId self 0xE n.val
  | .ring d => objId self 0xE (0x10 + d.val)
  | .port p => objId self 1 p.val
  | .e1 => 0
  | .cipher => 0

/-- The containers that a ring side holds in transit are gone (R877). -/
def State.dropTransit (d : Nat) (s : State) : State :=
  { s with ring := { s.ring with transit := s.ring.transit.filter (fun x => decide (x.1 / 8 ≠ d)) } }

/-- The packets that a ring side was taking from the ring egress queues get reset-abort: their consumer has started
them, so BAD is set and they leave under R292 (R877). -/
def State.abortRing (d : Nat) (s : State) : State :=
  { s with pool := { s.pool with queues := s.pool.queues.map (fun x =>
      if decide (1024 + 60 * d ≤ x.1) && decide (x.1 < 1084 + 60 * d) then
        (x.1, { x.2 with pkts := x.2.pkts.map (fun (p : Packet) => if p.sent = 0 then p else { p with bad := true }) })
      else x) } }

/-- Time passes until the burst in progress on a lane ends. -/
def State.burstEnd (l : Nat) (s : State) : State :=
  match (s.lane l).burst with
  | some b => if decide (s.eighthsAhead (b.1 % (8 * tideMod)) ≤ 0) then s.until (ceilDiv b.2 8) else s
  | none => s

/-- What the domain does (R876, R877). A loopback or PRBS in it ends (R741). The entropy start-up test runs again after
a reset of CIPHER (Table CY-3). -/
def State.partial_ (d : ResetDomain) (s : State) : State :=
  match d with
  | .lane n => ((((s.cancelLane n.val).cutBurst n.val).dropParts n.val).modLane n.val (fun x =>
      { x with sync := false, spans := [] }))
  | .ring d =>
    let s1 := (s.dropTransit d.val).modSide d.val (fun x =>
      { x with trained := false, lane0Bad := true, managerSeen := false })
    let s2 := { s1 with ring := { s1.ring with
      lanes := Tab.set {} (Tab.set {} s1.ring.lanes (2 * d.val) {}) (2 * d.val + 1) {} } }
    ((s2.abortRing d.val).reinitWhere (fun n => Tab.get 0 s2.ring.working n == d.val)).endDiag (s.obj 0xE (0x10 + d.val))
  | .port p => if (s.port p.val).link then (s.linkDown p.val).endDiag (s.obj 1 p.val)
      else s.endDiag (s.obj 1 p.val)
  | .e1 => (List.range 8).foldl (fun t p => ((t.slipRestart p).cesRestart p).endDiag (s.obj 7 p)) s
  | .cipher =>
    let s1 := [0, 1, 2, 3].foldl (fun t l => t.burstEnd l) s
    { s1 with cipher := { s1.cipher with turn := 0, busy := [], health := {}, raw := [], entropyOk := false } }

/-- PARTIAL_RESET (R876). -/
def execPartialReset (d : ResetDomain) (s : State) : Host.Outcome State Fault Refusal :=
  .next (if s.start.fwState = 0 then s else (s.partial_ d).raise 103 (resetObject s.self d) (resetCode d))

end Sys2Proof.Machine
end

