-- ==== Sys2Proof/Machine/Audit.lean ====
section
/-!
DEFINITION. The audit of GRANT_WORDS with its repair (R318, R326), and the whole audit of a frame boundary.
-/

namespace Sys2Proof.Machine

/-- GRANT_WORDS breaches on a lane: sixteen within 8,000 frames reset the LANE domain (R326, R876). -/
def State.grantBreaches (l n : Nat) (s : State) : State :=
  let s1 := (List.range n).foldl (fun u _ => u.breach 3 (s.obj 0xE l) 0) s
  let at_ := (s.lane l).grantBrk.filter (fun b => decide (s.bnd < b + 8000)) ++ List.replicate n s.bnd
  let d : ResetDomain := .lane (Fin.ofNat 4 l)
  if 16 ≤ at_.length then
    ((s1.modLane l (fun x => { x with grantBrk := [] })).partial_ d).raise 103 (resetObject s.self d) (resetCode d)
  else s1.modLane l (fun x => { x with grantBrk := at_ })

/-- The GRANT_WORDS audit: one breach for each burst committed in the frame that does not add up. -/
def State.auditGrants (s : State) : State :=
  s.pool.grantBad.foldl (fun t x => if x.2 = 0 then t else t.grantBreaches x.1 x.2)
    { s with pool := { s.pool with grantBad := [] } }

/-- LEDGER_AUDIT (R318 to R320, R326): at a Tide frame boundary. -/
def execLedgerAudit (s : State) : Host.Outcome State Fault Refusal :=
  .next (
    if s.clk.rootHold then s
    else ((((s.until s.tide.boundaryAt).auditCells).auditCredits).auditTokens).auditGrants)

end Sys2Proof.Machine
end

