-- ==== Sys2Proof/Machine/Session.lean ====
section
/-!
DEFINITION. How a request is served: the order of checks, scope, relaying to a worker; the session commands,
the transactions, and the status and ring commands.
-/

namespace Sys2Proof.Machine

/-! ### The order of checks (section Status codes of the mailboxes) -/

/-- What the checks of a request say: an answer, or what it does. -/
inductive Verdict
  | no (st : Status)
  | go (f : State → State)

/-- Whether a berth mailbox may issue an opcode (Tables CA-1 and CB-1). An unknown opcode has no issuers. -/
def berthMay (opc : Nat) : Bool :=
  !([0x0110, 0x0300, 0x0301, 0x0401, 0x0402, 0x0403, 0x0404, 0x0502, 0x060A, 0x0901, 0x0A00, 0x0A01, 0x0A02,
     0x0B00, 0x0B01, 0x0B02, 0x0B03, 0x0B04, 0x0B10, 0x0C00, 0x0C03, 0x0D00, 0x0E01, 0x0E02, 0x0F00, 0x0F01,
     0x0F02].contains opc)

/-- Whether the device is on its way into MOORED or BEACHED or in a VIN-fail sequence (R799, R837). -/
def State.goingDown (s : State) : Bool :=
  decide (s.power.state ≠ .run) && decide (s.power.state ≠ .idle) || decide (s.cistern.run ≠ 0)

/-- Commands that are served all the same (R799, R837). -/
def servedAlways (opc : Nat) : Bool := opc == 0x0100 || opc == 0x0101 || opc == 0x0B10

/-- A request of the operator other than OMCI_SEND discards a partial OMCI message (R747). -/
def State.dropSeg (opc : Nat) (q : Req) (s : State) : State :=
  if q.mbx.val = 32 && opc != 0x0D00 then { s with host := { s.host with omciSeg := none } } else s

/-- Whether a request is outside its berth's scope before its objects are looked at (R640, R658). -/
def outOfScope (opc : Nat) (q : Req) : Bool :=
  q.berth.toNat != (if q.mbx.val < 32 then q.mbx.val else 255)
  || (decide (q.mbx.val < 32) && !berthMay opc) || (q.mbx.val == 33 && opc == 0x0D00)

/-- Serve one request: scope, arguments, state (R640 to R642, R658 to R660, R799, R837). Header flags other
than zero are a reserved field (R9; DEDUCED, log 39). -/
def State.serve (opc : Nat) (q : Req) (body : Req → State → Verdict) (s : State) : State :=
  let s1 := s.dropSeg opc q
  if outOfScope opc q then s1.reply opc q .denied
  else if q.flags ≠ 0 then s1.reply opc q .badArg
  else
    match body q s1 with
    | .no st => s1.reply opc q st
    | .go f => if s1.goingDown && !servedAlways opc then s1.reply opc q (.ignored 5) else f s1

/-- Whether the object at offset `o` of the payload lies outside the mailbox's scope (R641): an ID that is no
object names none. -/
def Cfg.foreign (c : Cfg) (q : Req) (o : Nat) : Bool :=
  decide (o + 4 ≤ q.payload.length) && objOk (u32 q.payload o) && !c.inScope q.mbx.val (u32 q.payload o)

/-- Run at a node: here, or relayed to a joined worker and answered when it answers (R664); a fifth deferred
operation of a mailbox is not relayed (R650). -/
def State.atNode (opc : Nat) (q : Req) (n : Nat) (here : State → State) (s : State) : State :=
  if n = s.self then here s
  else if s.isManager && s.joined n then
    (if (opc = 0x0C00 || opc = 0x0C02) && decide (4 ≤ (s.box q.mbx.val).deferred.length) then
      s.reply opc q .noSpace
     else (s.await opc q (.relay n)).dcc n (.relayCmd opc q.seq q.mbx q.payload))
  else s.reply opc q .fault

/-! ### Session -/

/-- MBX_HELLO (R667, Table CA-3). -/
def helloBody (q : Req) (_s : State) : Verdict :=
  if q.payload.length ≠ 4 then .no .badArg
  else .go (fun s =>
    let m := q.mbx.val
    let lost := (s.box m).evtDropped
    let s1 := (s.abortTxn m).modBox m (fun b =>
      { b with session := true, evtCount := 1, evtDropped := 0, waiting := none
               hostVer := BitVec.ofNat 32 (u32 q.payload 0) })
    (s1.answer 0x0001 q .done (leBytes 4 s.start.fwVersion.toNat ++ leBytes 1 m ++ [0, 0, 0]
      ++ leBytes 4 lost)).raise 583 0 m)

/-- OP_ABORT (R651, R652). An operation that runs on a worker is stopped there. -/
def opAbortBody (q : Req) (_s : State) : Verdict :=
  if q.payload.length ≠ 4 || !zeroAt q.payload 2 2 then .no .badArg
  else .go (fun s =>
    let m := q.mbx.val
    match (s.box m).deferred.find? (fun d => d.seq == u16 q.payload 0) with
    | none => s.reply 0x0003 q (.ignored 3)
    | some d => s.atNode 0x0003 q (objNode d.object) (fun t => (t.abortOp m d).reply 0x0003 q .done))

/-- IDENT_GET (Table CA-4). -/
def identBody (q : Req) (_s : State) : Verdict :=
  let p := q.payload
  if p.length ≠ 4 || !zeroAt p 1 3 || decide (15 < u8 p 0) then .no .badArg
  else .go (State.atNode 0x0100 q (u8 p 0) (fun s =>
    let o := s.start.bank (!s.start.image)
    let other := if o.state = .empty || !o.good then 0 else (imgVersion o.image).toNat
    s.answer 0x0100 q .done (leBytes 4 s.idPart ++ leBytes 4 idStep ++ leBytes 4 s.idCap
      ++ beBytes 8 s.serial.toNat ++ leBytes 4 s.start.fwVersion.toNat ++ leBytes 4 other
      ++ leBytes 1 (b2n s.isManager) ++ leBytes 1 (b2n s.start.image) ++ [0, 0]
      ++ leBytes 4 (s.box q.mbx.val).hostVer.toNat)))

/-- The reply of STATUS_GET SECTION 0x02 (Table CA-5). -/
def Mbx.status (b : Mbx) : List Byte :=
  leBytes 4 b.ptr ++ leBytes 4 b.err ++ leBytes 2 b.lastIgnSeq ++ leBytes 2 b.lastIgnCause
  ++ leBytes 4 (min b.retrans (2 ^ 32 - 1)) ++ leBytes 8 b.lastIgnFrame ++ List.replicate 8 0

/-- The reply of SECTION 0x00. TJ without a reading that counts is a free value (log 40). -/
def State.statusGlobal (s : State) : List Byte :=
  let tj := match tjOf s.power.readings with
    | some t => signedBits 16 t
    | none => (Config.freeWord s.fresh).toNat
  leBytes 4 s.glbStatus ++ leBytes 4 s.host.heartbeat.toNat ++ leBytes 4 s.clkStatus ++ leBytes 4 s.tideStatus
  ++ leBytes 2 tj ++ leBytes 1 s.power.step ++ [0]

/-- STATUS_GET (R669, Table CA-5). -/
def statusBody (q : Req) (_s : State) : Verdict :=
  let p := q.payload
  let sec := u8 p 1
  if p.length = 4 && decide (q.mbx.val < 32) && sec == 1 then .no .denied
  else if p.length ≠ 4 || !zeroAt p 2 2 || decide (15 < u8 p 0) || decide (2 < sec) then .no .badArg
  else if sec = 2 then
    (if u8 p 0 ≠ 0 then .no .badArg else .go (fun s => s.answer 0x0101 q .done (s.box q.mbx.val).status))
  else .go (State.atNode 0x0101 q (u8 p 0) (fun s =>
    if sec = 0 then { s with fresh := s.fresh + 1 }.answer 0x0101 q .done s.statusGlobal
    else s.answer 0x0101 q .done ((List.range 9).flatMap (fun k => leBytes 4 (s.ledgerReg k)))))

/-! ### Transactions (R643 to R649, R673 to R676) -/

/-- TXN_OPEN (R643). -/
def txnOpenBody (q : Req) (_s : State) : Verdict :=
  if q.payload ≠ [] then .no .badArg
  else .go (fun s =>
    if (s.box q.mbx.val).txn.isSome then s.reply 0x0200 q (.ignored 2)
    else (s.modBox q.mbx.val (fun b =>
      { b with txn := some { staged := [], bytes := 0, lastCmd := s.now } })).reply 0x0200 q .done)

/-- The switch-over frame: the first boundary at least two frames after now (R645). -/
def State.switchFrame (s : State) : Nat := (s.tide.frame + (if s.tide.tick = 0 then 2 else 3)) % frameWrap

/-- The workers' parts of an accepted commit are relayed (R663). -/
def State.relayParts (staged : List StagedCmd) (frame : Nat) (s : State) : State :=
  let joined := s.joinedNodes
  ((workersOf staged joined).filter (fun n => joined.contains n)).foldl (fun t n =>
    ((staged.filter (fun x => (x.nodes joined).contains n)).foldl (fun u x =>
      u.dcc n (.relayCmd x.opc 0 32 x.payload)) t).dcc n (.commitPart frame)) s

/-- An accepted commit (R645, R646, R886): in retained memory and in the configuration store before its
answer. -/
def State.accept (m : Nat) (staged : List StagedCmd) (s : State) : State :=
  let f := s.switchFrame
  let a : Accepted := { mbx := m, frame := f, staged := staged }
  let s1 := { s with host := { s.host with accepted := s.host.accepted ++ [a] } }
  let s2 := s1.putStore s1.storedCfg
  (s2.modBox m (fun b => { b with txn := none, lastSwitch := f })).relayParts staged f

/-- TXN_COMMIT (R396 to R406, R645, R674). -/
def txnCommitBody (q : Req) (_s : State) : Verdict :=
  if q.payload ≠ [] then .no .badArg
  else .go (fun s =>
    let m := q.mbx.val
    match (s.box m).txn with
    | none => s.reply 0x0201 q (.ignored 1)
    | some t =>
      match s.commitFail m t.staged with
      | some (f, n) =>
        ((s.modBox m (fun b => { b with txn := some { t with lastCmd := s.now } })).answer 0x0201 q .refused
          (refusal f n)).raise 302 f.object f.reason
      | none => (s.accept m t.staged).answer 0x0201 q .accepted (leBytes 8 s.switchFrame))

/-- TXN_ABORT (R647, R675). -/
def txnAbortBody (q : Req) (_s : State) : Verdict :=
  if q.payload ≠ [] then .no .badArg
  else .go (fun s =>
    if (s.box q.mbx.val).txn.isNone then s.reply 0x0202 q (.ignored 4)
    else (s.modBox q.mbx.val (fun b => { b with txn := none })).reply 0x0202 q .done)

/-- The reply of TXN_STATUS SECTION 0x00 (Table CA-8). -/
def State.txnState (s : State) (m : Nat) : List Byte :=
  let b := s.box m
  match b.txn with
  | some t => [1, 0] ++ leBytes 2 t.staged.length ++ leBytes 4 t.bytes ++ leBytes 8 b.lastSwitch
      ++ leBytes 4 ((s.now - t.lastCmd) / msTicks) ++ leBytes 4 0
  | none => [0, 0] ++ leBytes 2 0 ++ leBytes 4 0 ++ leBytes 8 b.lastSwitch ++ leBytes 4 0 ++ leBytes 4 0

/-- The reply of SECTION 0x01 (R676). -/
def State.shedList (s : State) (m start : Nat) : List Byte :=
  let a := s.adm.shed.filter (fun o => s.cfg.inScope m o)
  let b := s.adm.atRisk.filter (fun o => s.cfg.inScope m o)
  let ids := ((a ++ b).drop start).take 248
  leBytes 2 a.length ++ leBytes 2 b.length ++ leBytes 2 ids.length ++ [0, 0] ++ leBytes 8 s.adm.lastFrame
  ++ ids.flatMap (fun o => leBytes 4 o)

/-- TXN_STATUS (R676, Table CA-8): START belongs to SECTION 0x01 (R666). -/
def txnStatusBody (q : Req) (_s : State) : Verdict :=
  let p := q.payload
  if p.length ≠ 4 || !zeroAt p 1 1 || decide (1 < u8 p 0) || (u8 p 0 == 0 && u16 p 2 != 0) then .no .badArg
  else .go (fun s => s.answer 0x0203 q .done
    (if u8 p 0 = 0 then s.txnState q.mbx.val else s.shedList q.mbx.val (u16 p 2)))

/-! ### Status commands -/

/-- One entry of the Alloc-ID list of a lane (Table CA-11). -/
def State.allocEntry (s : State) (l id : Nat) : Nat :=
  match s.indexOf l id with
  | none => id + 0x7F * 2 ^ 16
  | some a => id + a % 128 * 2 ^ 16 + (if (s.groupAt a).isSome then 2 ^ 23 else 0)

/-- LINE_STATUS_GET (Table CA-11). -/
def lineStatusBody (q : Req) (_s : State) : Verdict :=
  let p := q.payload
  if p.length ≠ 4 || !zeroAt p 2 2 || decide (3 < u8 p 0) || decide (1 < u8 p 1) then .no .badArg
  else .go (fun s =>
    let l := u8 p 0
    let x := s.lane l
    if u8 p 1 = 0 then
      s.answer 0x0302 q .done (leBytes 4 (s.lnStatus l) ++ leBytes 4 x.eqd.ticks ++ leBytes 1 x.eqd.trim
        ++ leBytes 1 ((x.profiles.map (fun f => f.index % 8)).dedup.map (fun i => 2 ^ i)).sum
        ++ leBytes 1 x.allocs.length ++ [0] ++ leBytes 8 x.actFrame
        ++ leBytes 4 (if s.cfg.line.bonded then signedBits 32 x.skew else 0))
    else
      let ids := x.allocs.take 128
      s.answer 0x0302 q .done (leBytes 1 ids.length ++ [0, 0, 0]
        ++ ids.flatMap (fun i => leBytes 4 (s.allocEntry l i))))

/-- MEMBER of Table CA-12. -/
def State.memberCode (s : State) (n : Nat) : Nat :=
  if n = 0 then 2
  else if (s.node n).member ≠ 0 then (s.node n).member
  else if s.now < (s.node n).holdEnd then 3 else 0

/-- What the manager adds to a node's answer of RING_STATUS_GET (Table CA-12; the byte order of SERIAL: DEDUCED,
log 109). -/
def State.ringTail (s : State) (n : Nat) : List Byte :=
  let e := s.node n
  let serial := if n = 0 then s.serial.toNat else e.serial.toNat
  let r := s.ranger n
  leBytes 1 (s.memberCode n) ++ [0] ++ leBytes 8 serial
  ++ leBytes 4 (if n = 0 then 0 else if s.joined n then r.rttEast else 0)
  ++ leBytes 4 (if n = 0 then 0 else if s.joined n then r.rttWest else 0)
  ++ leBytes 4 ((e.holdEnd - s.now) / msTicks)

/-- What a node answers of itself. -/
def State.ringHead (s : State) : List Byte :=
  leBytes 4 (s.ringStatus 0) ++ leBytes 4 (s.ringStatus 1) ++ leBytes 1 s.tide.state.code
  ++ leBytes 1 (if s.isManager then 0 else s.ring.join.gen)

/-- RING_STATUS_GET (R682): of a worker that is not joined the manager answers from its node table. -/
def ringStatusBody (q : Req) (_s : State) : Verdict :=
  let p := q.payload
  if p.length ≠ 4 || !zeroAt p 1 3 || decide (15 < u8 p 0) then .no .badArg
  else .go (fun s =>
    let n := u8 p 0
    if n = s.self then s.answer 0x0400 q .done (s.ringHead ++ s.ringTail n)
    else if s.isManager && !s.joined n then
      s.answer 0x0400 q .done (leBytes 8 0 ++ [0] ++ leBytes 1 (s.node n).gen ++ s.ringTail n)
    else s.atNode 0x0400 q n (fun t => t.answer 0x0400 q .done (t.ringHead ++ t.ringTail n)))

/-- PORT_STATUS_GET (Table CA-14). -/
def portStatusBody (q : Req) (s : State) : Verdict :=
  let p := q.payload
  if s.cfg.foreign q 0 then .no .denied
  else if p.length ≠ 4 || !objIs 1 (u32 p 0) then .no .badArg
  else .go (State.atNode 0x0501 q (objNode (u32 p 0)) (fun s =>
    let x := s.port (objIdx (u32 p 0))
    let paused := ((List.range 8).map (fun c => flag (decide (s.now < Tab.get 0 x.paused c)) c)).sum
    s.answer 0x0501 q .done (leBytes 1 (b2n x.link) ++ leBytes 1 x.fault ++ leBytes 1 (x.anRate.getD 0xFF)
      ++ leBytes 1 paused ++ leBytes 4 (x.phyStatus % 65536) ++ leBytes 8 x.linkFrame)))

/-- MDIO_ACCESS (R514, R688). Whether the PHY answers and what it answers is the PHY's: free values
(log 8). With the MDIO master gated a read gives zero and a write is dropped (R104). -/
def mdioBody (q : Req) (_s : State) : Verdict :=
  let p := q.payload
  if p.length ≠ 8 || decide (15 < u8 p 0) || decide (1 < u8 p 1) || decide (31 < u8 p 2)
      || decide (31 < u8 p 3) || (u8 p 1 == 0 && u16 p 6 != 0) then .no .badArg
  else .go (State.atNode 0x0502 q (u8 p 0) (fun s =>
    if !s.clocked 26 then s.answer 0x0502 q .done (leBytes 2 (u16 p 6) ++ [0, 0]) else
    let w := (Config.freeWord s.fresh).toNat
    let s1 := { s with fresh := s.fresh + 1 }
    if bit w 16 then
      s1.answer 0x0502 q .done (leBytes 2 (if u8 p 1 = 1 then u16 p 6 else w) ++ [0, 0])
    else s1.reply 0x0502 q .fault))

/-! ### Ring commands (R683 to R686) -/

/-- A command for a span takes effect on its node (R460, R683, R684). -/
def State.protect (q : Req) (d cmd : Nat) (s : State) : State :=
  let x := s.side d
  if (cmd = 0 && x.cmd == 0) || (cmd = 3 && s.otherRequest d) then s.reply 0x0402 q (.ignored 6)
  else
    let s1 := (s.modSide d (fun y => { y with cmd := cmd })).setReq d
    let s2 := if cmd = 0 && !x.sf && !x.sd && !s.farAsks d && !x.wtr then s1.unwrap d else s1
    (s2.raise 387 (sideObj s.self d) cmd).reply 0x0402 q .done

/-- RING_PROTECT_CMD (R683). -/
def ringProtectBody (q : Req) (_s : State) : Verdict :=
  let p := q.payload
  let c := u8 p 2
  if p.length ≠ 4 || !zeroAt p 3 1 || decide (15 < u8 p 0) || decide (1 < u8 p 1)
      || (c != 0 && c != 3 && c != 7) then .no .badArg
  else .go (State.atNode 0x0402 q (u8 p 0) (fun s => s.protect q (u8 p 1) c))

/-- RING_RENUMBER (R422, R685): the joined workers are reset and leave. -/
def ringRenumberBody (q : Req) (_s : State) : Verdict :=
  if q.payload.length ≠ 4 || u32 q.payload 0 ≠ 0x524E554D then .no .badArg
  else .go (fun s =>
    let js := s.joinedNodes
    let s1 := js.foldl (fun t n => (t.dcc n .nodeReset).nodeLeave n) s
    ({ s1 with ring := { s1.ring with nodes := [] } }).reply 0x0403 q .done)

/-- NODE_RESET (R686): answered when the worker acknowledges. -/
def nodeResetBody (q : Req) (_s : State) : Verdict :=
  let p := q.payload
  if p.length ≠ 4 || !zeroAt p 1 3 || u8 p 0 = 0 || decide (15 < u8 p 0) then .no .badArg
  else .go (fun s =>
    if s.isManager && s.joined (u8 p 0) then (s.await 0x0404 q (.relay (u8 p 0))).dcc (u8 p 0) .nodeReset
    else s.reply 0x0404 q .fault)

/-! ### The rows -/

def execMbxHello (q : Req) (s : State) : Host.Outcome State Fault Refusal := .next (s.serve 0x0001 q helloBody)
def execOpAbort (q : Req) (s : State) : Host.Outcome State Fault Refusal := .next (s.serve 0x0003 q opAbortBody)
def execIdentGet (q : Req) (s : State) : Host.Outcome State Fault Refusal := .next (s.serve 0x0100 q identBody)
def execStatusGet (q : Req) (s : State) : Host.Outcome State Fault Refusal :=
  .next (s.serve 0x0101 q statusBody)
def execTxnOpen (q : Req) (s : State) : Host.Outcome State Fault Refusal := .next (s.serve 0x0200 q txnOpenBody)
def execTxnCommit (q : Req) (s : State) : Host.Outcome State Fault Refusal :=
  .next (s.serve 0x0201 q txnCommitBody)
def execTxnAbort (q : Req) (s : State) : Host.Outcome State Fault Refusal :=
  .next (s.serve 0x0202 q txnAbortBody)
def execTxnStatus (q : Req) (s : State) : Host.Outcome State Fault Refusal :=
  .next (s.serve 0x0203 q txnStatusBody)
def execLineStatusGet (q : Req) (s : State) : Host.Outcome State Fault Refusal :=
  .next (s.serve 0x0302 q lineStatusBody)
def execRingStatusGet (q : Req) (s : State) : Host.Outcome State Fault Refusal :=
  .next (s.serve 0x0400 q ringStatusBody)
def execPortStatusGet (q : Req) (s : State) : Host.Outcome State Fault Refusal :=
  .next (s.serve 0x0501 q portStatusBody)
def execMdioAccess (q : Req) (s : State) : Host.Outcome State Fault Refusal :=
  .next (s.serve 0x0502 q mdioBody)
def execRingProtectCmd (q : Req) (s : State) : Host.Outcome State Fault Refusal :=
  .next (s.serve 0x0402 q ringProtectBody)
def execRingRenumber (q : Req) (s : State) : Host.Outcome State Fault Refusal :=
  .next (s.serve 0x0403 q ringRenumberBody)
def execNodeReset (q : Req) (s : State) : Host.Outcome State Fault Refusal :=
  .next (s.serve 0x0404 q nodeResetBody)

end Sys2Proof.Machine
end

