-- ==== Sys2Proof/Machine/Prov.lean ====
section
/-!
DEFINITION. The transactional commands: each payload's form (R660, R666 and the tables of the commands), its
checks against the staged view (R662), and staging (R643, R644).
-/

namespace Sys2Proof.Machine

/-! ### Forms: LEN, reserved fields and ranges -/

/-- A number within bounds. -/
def within (lo hi n : Nat) : Bool := decide (lo ≤ n) && decide (n ≤ hi)

/-- A MAC address at an offset. -/
def macAt (p : List Byte) (o : Nat) : List Byte := bytesAt p o 6

/-- 32-bit object IDs from an offset. -/
def objsAt (p : List Byte) (o n : Nat) : List Nat := (List.range n).map (fun k => u32 p (o + 4 * k))

/-- Whether a berth may own an object (R670). -/
def assignable (o : Nat) : Bool :=
  objOk o && ([1, 2, 3, 4, 6, 7, 8, 9, 0xA, 0xC].contains (objCls o)
    || (objCls o == 0xB && within 4 255 (objIdx o)))

/-- BERTH_SET (Table CA-7, R670). -/
def berthForm (p : List Byte) : Option (Setting × List Nat) :=
  let n := u16 p 2
  let q := u32 p 4
  let l := objsAt p 8 n
  if decide (4 ≤ p.length) && decide (n ≤ 250) && p.length == 8 + 4 * n && decide (u8 p 0 < 32)
      && decide (u8 p 1 ≤ 2) && (u8 p 1 != 0 || n == 0) && (decide (q ≤ 262144) || q == 0xFFFFFFFF)
      && l.all assignable then
    some (.berth (u8 p 0) (u8 p 1) (if q = 0xFFFFFFFF then none else some q) l, l)
  else none

/-- The group entries of LINE_MODE_SET: (GRP, entry). -/
def groupsAt (p : List Byte) (n : Nat) : List (Nat × GroupCfg) :=
  (List.range n).map (fun k =>
    let o := 12 + 8 * k
    (u8 p o, { members := u8 p (o + 1), index := u8 p (o + 2), window := u16 p (o + 4)
               reorderMax := u16 p (o + 6) }))

/-- The ranges of one group entry (Table CA-9, R240, R257, R261): a group has a member. -/
def groupOk (p : List Byte) (k : Nat) (laneEn : Nat) : Bool :=
  let o := 12 + 8 * k
  decide (u8 p o < 64) && within 1 15 (u8 p (o + 1)) && (u8 p (o + 1) &&& laneEn) == u8 p (o + 1)
  && decide (u8 p (o + 2) < 128) && zeroAt p (o + 3) 1 && within 40 200 (u16 p (o + 4))
  && within 256 16384 (u16 p (o + 6))

/-- LINE_MODE_SET (Table CA-9, R677, R678). -/
def lineForm (p : List Byte) : Option (Setting × List Nat) :=
  let n := u8 p 3
  let gs := groupsAt p n
  let ctrl := (List.range 4).map (fun l => u16 p (4 + 2 * l))
  let en := u8 p 2
  let ok := decide (4 ≤ p.length) && decide (n ≤ 64) && p.length == 12 + 8 * n && decide (u8 p 0 ≤ 1)
    && decide (u8 p 1 ≤ 1) && decide (en < 16)
  let std := u8 p 1 == 0 && en == 1 && n == 0 && ctrl.all (fun c => c == 0xFFFF)
  let bonded := (List.range 4).all (fun l => !bit en l || u16 p (4 + 2 * l) != 0xFFFF)
    && (List.range n).all (fun k => groupOk p k en) && decide ((gs.map (·.1)).Nodup)
    && decide ((gs.map (·.2.index)).Nodup)
  if ok && (if u8 p 0 = 0 then std else bonded) then
    some (.line { bonded := u8 p 0 == 1, rate25 := u8 p 1 == 1, laneEn := en, ctrl0 := u16 p 4
                  ctrl1 := u16 p 6, ctrl2 := u16 p 8, ctrl3 := u16 p 10
                  groups := gs.foldl (fun t g => Tab.set {} t g.1 g.2) [] },
      (List.range 4).map (fun l => objId 0 0xE l))
  else none

/-- LINE_LANE_SET (Table CA-10, R131, R132, R160, R180, R181). -/
def laneForm (p : List Byte) : Option (Setting × List Nat) :=
  let f := u8 p 1
  if p.length == 52 && decide (u8 p 0 < 4) && decide (f < 8) && (decide (u8 p 2 ≤ 1) || u8 p 2 == 0xFF)
      && within 3 6 (u8 p 3) && decide (1 ≤ u16 p 4) && decide (u8 p 6 ≤ 32) && decide (u8 p 7 ≤ 32)
      && within 8000 480000 (u32 p 8) && within 80 8000 (u16 p 12) && zeroAt p 14 2 then
    some (.lane (u8 p 0)
      { enable := bit f 0, losPol := bit f 1, rate := u8 p 2, sdThr := u8 p 3, sfThr := u16 p 4
        benLead := u8 p 6, benLag := u8 p 7, to1 := u32 p 8, to2 := u16 p 12, regId := bytesAt p 16 36 }
      (bit f 2), [objId 0 0xE (u8 p 0)])
  else none

/-- RING_SET. -/
def ringForm (p : List Byte) : Option (Setting × List Nat) :=
  if p.length == 4 && within 1 12 (u8 p 0) && zeroAt p 1 1 && within 1 8000 (u16 p 2) then
    some (.ring { wtrMin := u8 p 0, sdThr := u16 p 2 }, [])
  else none

/-- The PORT_RATE codes of a MODE (Table SP-1). -/
def rateOfMode (mode rate : Nat) : Bool :=
  match mode with
  | 0 => decide (rate ≤ 2)
  | 1 => rate == 3
  | 2 => rate == 5
  | 3 => decide (rate ≤ 5)
  | _ => false

/-- PORT_SET (Table CA-13, R492, R496, R510, R687). -/
def portForm (p : List Byte) : Option (Setting × List Nat) :=
  let f := u8 p 6
  if p.length == 24 && objIs 1 (u32 p 0) && rateOfMode (u8 p 4) (u8 p 5) && decide (f < 32)
      && !(bit f 1 && (u8 p 4 == 1 || u8 p 4 == 2)) && !(bit f 2 && bit f 3)
      && (decide (u8 p 7 < 32) || u8 p 7 == 0xFF) && within 1518 9600 (u16 p 8) && decide (u8 p 10 ≤ 100)
      && zeroAt p 11 1 && decide (1 ≤ u16 p 12) && zeroAt p 22 2 then
    some (.port (u32 p 0)
      { mode := u8 p 4, rate := u8 p 5, enable := bit f 0, anEn := bit f 1, pauseRx := bit f 2
        pfcRx := bit f 3, pauseTx := bit f 4, phyAddr := u8 p 7, maxLen := u16 p 8, linkHold := u8 p 10
        quanta := u16 p 12, hyst := u16 p 14, pauseSa := macAt p 16 }, [u32 p 0])
  else none

/-- Which fields of QUEUE_SET apply to a queue (Table CA-16): CT_BYTES, GATE_MAX_LEN, the DRR pair, the ring
pair. -/
def queueFields (q : Nat) : Bool × Bool × Bool × Bool :=
  if q < 128 then (true, true, true, false)
  else if 2048 ≤ q then (true, false, true, false)
  else if 1024 ≤ q ∧ q < 1144 then (true, false, false, (q - 1024) % 4 == 2)
  else if 1536 ≤ q ∧ q < 1792 then (true, false, false, false)
  else (false, false, false, false)

/-- QUEUE_SET (Table CA-15, R298, R309, R350, R367, R408, R689). -/
def queueForm (p : List Byte) : Option (Setting × List Nat) :=
  let o := u32 p 0
  let f := queueFields (objIdx o)
  let ct := u16 p 8
  let gml := u16 p 10
  let quantum := u16 p 12
  let burst := u32 p 16
  let cir := u64 p 20
  if p.length == 28 && objIs 2 o && queueNamed (objNode o) (objIdx o) && decide (u32 p 4 ≤ 262143)
      && (ct == 0 || (f.1 && within 64 16384 ct))
      && (if f.2.1 then decide (64 ≤ gml) else gml == 0)
      && (if f.2.2.1 then within 64 65535 quantum && within quantum 16777215 burst
          else quantum == 0 && burst == 0)
      && (if f.2.2.2 then decide (u8 p 14 ≤ 7) && decide (cir ≤ 46830000000) && cir % 1000 == 0
          else u8 p 14 == 0 && cir == 0)
      && zeroAt p 15 1 then
    some (.queue o
      { qthr := u32 p 4, ctBytes := ct, gateMaxLen := gml
        quantum := if f.2.2.1 then quantum else 1518
        shedPri := if f.2.2.2 then u8 p 14 else 4, drrBurst := burst, ringCir := cir }, [o])
  else none

/-- Enabled DRR queues of a Q_ENABLE mask (R344). -/
def drrCount (nstrict mask : Nat) : Nat := ((List.range 16).filter (fun i => decide (nstrict ≤ i) && bit mask i)).length

/-- SCHED_SET (R336, R344, R691). -/
def schedForm (p : List Byte) : Option (Setting × List Nat) :=
  let o := u32 p 0
  let en := u16 p 6
  if p.length == 8 && ((objIs 9 o && objNode o == 0) || (objIs 1 o && en == 0)) && decide (u8 p 4 ≤ 4)
      && decide (-32 ≤ i8 p 5) && decide (i8 p 5 ≤ 63) && decide (drrCount (u8 p 4) en ≤ 12) then
    some (.sched o { nstrict := u8 p 4, ovh := some (i8 p 5), qEnable := if objCls o = 9 then en else 1 }, [o])
  else none

/-- A rate and size of a bucket (R391, R692). -/
def bucketOk (rate size : Nat) : Bool :=
  if rate = 0 then size == 0
  else decide (rate ≤ 100000000000) && rate % 1000 == 0 && within 64 16777215 size

/-- SHAPER_SET (Table CA-17, R346, R692). -/
def shaperForm (p : List Byte) : Option (Setting × List Nat) :=
  let o := u32 p 0
  let q := objIdx o
  let eg := decide (q < 128)
  let a := u64 p 8
  let b := u64 p 16
  if p.length == 32 && objIs 2 o && (eg || (decide (2048 ≤ q) && objNode o == 0)) && bucketOk a (u32 p 4)
      && bucketOk b (u32 p 24) && (!eg || (b == 0 && u32 p 24 == 0)) && !(a != 0 && b != 0 && decide (b < a))
      && zeroAt p 28 4 then
    some (.shaper o { sizeA := u32 p 4, rateA := a, rateB := b, sizeB := u32 p 24 }, [o])
  else none

/-- GATE_LIST_SET (Table CA-18, R362, R693). -/
def gateForm (p : List Byte) : Option (Setting × List Nat) :=
  let o := u32 p 0
  let n := u8 p 13
  let w := u64 p 4
  let es := (List.range n).map (fun k => (u32 p (16 + 8 * k), u8 p (20 + 8 * k)))
  let cyc := (es.map (·.1)).sum
  if decide (16 ≤ p.length) && p.length == 16 + 8 * n && objIs 6 o && decide (n ≤ 64) && decide (u8 p 12 ≤ 1)
      && zeroAt p 14 2 && tideOk w && (List.range n).all (fun k => zeroAt p (21 + 8 * k) 3)
      && (if n = 0 then u8 p 12 == 0 else es.all (fun e => e.1 != 0) && within 6221 6220800000 cyc) then
    some (.gate o { baseFrame := w / 2 ^ 20, baseTick := w % 2 ^ 20, enable := u8 p 12 == 1, entries := es }, [o])
  else none

/-- POLICER_SET (Table CA-19, R372, R694). -/
def policerForm (p : List Byte) : Option (Setting × List Nat) :=
  let o := u32 p 0
  let f := u8 p 4
  let cir := u64 p 8
  let pir := u64 p 16
  if p.length != 32 || !objIs 3 o || decide (15 < f) || !zeroAt p 6 2 then none
  else if !bit f 0 then (if zeroAt p 4 28 then some (.policer o {}, [o]) else none)
  else if within 1000 100000000000 cir && within 1000 100000000000 pir && decide (cir ≤ pir)
      && within 64 16777215 (u32 p 24) && within 64 16777215 (u32 p 28) && decide (-32 ≤ i8 p 5)
      && decide (i8 p 5 ≤ 63) then
    some (.policer o { enable := true, aware := bit f 1, yellowPass := bit f 2, yellowDei := bit f 3
                       ovh := i8 p 5, cir := cir, pir := pir, cbs := u32 p 24, pbs := u32 p 28 }, [o])
  else none

/-- TAG_VID and TAG_PCP under TAG_OP (R666, R695, R701). -/
def tagOk (op vid pcp : Nat) : Bool :=
  decide (op ≤ 4) && decide (vid < 4096) && decide (pcp < 8)
  && (op == 1 || op == 2 || op == 4 || vid == 0) && (op == 1 || op == 2 || pcp == 0)

/-- CLASSIFIER_SET (Table CA-20, R695). -/
def classForm (p : List Byte) : Option (Setting × List Nat) :=
  let o := u32 p 0
  if p.length != 36 || !objIs 4 o || decide (1 < u8 p 4) || !zeroAt p 35 1 then none
  else if u8 p 4 = 0 then (if zeroAt p 4 32 then some (.classifier o {}, [o]) else none)
  else if decide (u8 p 5 ≤ 2) && decide (u8 p 6 ≤ 2) && decide (u8 p 7 ≤ 3) && decide (u16 p 10 < 4096)
      && decide (u16 p 12 < 4096) && decide (u16 p 14 < 4096) && decide (u16 p 16 < 4096)
      && decide (u8 p 18 < 8) && decide (u8 p 19 < 8) && decide (u8 p 24 < 64) && decide (u8 p 25 < 64)
      && (decide (u16 p 26 < 1024) || u16 p 26 == 0xFFFF) && within 2048 4095 (u16 p 28)
      && (if objNode o = 0 then u8 p 30 == 0 else within 1 3 (u8 p 30))
      && tagOk (u8 p 31) (u16 p 32) (u8 p 34) then
    some (.classifier o
      { valid := true, sMode := u8 p 5, cMode := u8 p 6, precolour := u8 p 7, ports := u16 p 8
        sVid := u16 p 10, sMask := u16 p 12, cVid := u16 p 14, cMask := u16 p 16, pcp := u8 p 18
        pcpMask := u8 p 19, etype := u16 p 20, etypeMask := u16 p 22, dscp := u8 p 24, dscpMask := u8 p 25
        policer := u16 p 26, queue := u16 p 28, ringClass := u8 p 30, tagOp := u8 p 31, tagVid := u16 p 32
        tagPcp := u8 p 34 }, [o, objId 0 2 (u16 p 28)]
        ++ (if u16 p 26 = 0xFFFF then [] else [objId (objNode o) 3 (u16 p 26)]))
  else none

/-- ALLOC_MAP_SET (Table CA-21, R698). -/
def allocForm (p : List Byte) : Option (Setting × List Nat) :=
  let o := u32 p 0
  let id := u16 p 4
  if p.length == 16 && objIs 9 o && objNode o == 0 && (decide (id < 16384) || id == 0xFFFF)
      && decide (u8 p 6 < 4) && within 1 16 (u8 p 7) && decide (u8 p 8 ≤ 64) && zeroAt p 9 1
      && decide (u16 p 12 ≤ 64) && (u16 p 12 != 0 || u16 p 10 == 0) && zeroAt p 14 2 then
    some (.alloc o (u8 p 6) (if id = 0xFFFF then none else some id) (u8 p 7) (u8 p 8) (u16 p 10) (u16 p 12),
      [o])
  else none

/-- The object that an XGEM mapping delivers to. -/
def destObj (node kind index : Nat) : Nat :=
  match kind with
  | 0 => objId node 1 index
  | 1 => objId node 8 index
  | _ => objId node 0xC index

/-- XGEM_MAP_SET (Table CA-22, R701). -/
def xgemForm (p : List Byte) : Option (Setting × List Nat) :=
  let o := u32 p 0
  let f := u8 p 4
  let node := u8 p 8
  let kind := u8 p 9
  let ix := u16 p 10
  let us := u16 p 20
  if p.length != 24 || !objIs 0xA o || objNode o != 0 || decide (15 < f) || !zeroAt p 22 2 then none
  else if !bit f 0 then (if zeroAt p 4 20 then some (.xgem o {}, [o]) else none)
  else if decide (u8 p 5 < 4) && (!bit f 2 || u8 p 5 == 0) && (if bit f 2 then decide (u8 p 6 < 64) else u8 p 6 == 0)
      && (if bit f 3 then decide (4 ≤ u8 p 7) else u8 p 7 == 0) && decide (node < 16)
      && (match kind with
          | 0 => decide (ix < 16)
          | 1 => decide (ix < 8) && (node == 0 || u8 p 13 == 1)
          | 2 => decide (ix < 256) && node == 0
          | _ => false)
      && (if kind = 0 then decide (u8 p 12 < 8) else u8 p 12 == 0)
      && (if node = 0 then u8 p 13 == 0 else within 1 3 (u8 p 13))
      && (decide (u16 p 14 < 1024) || u16 p 14 == 0xFFFF) && tagOk (u8 p 16) (u16 p 18) (u8 p 17)
      && (us == 0 || within 2048 4095 us) then
    some (.xgem o
      { valid := true, encrypted := bit f 1, bonded := bit f 2, multicast := bit f 3, lane := u8 p 5
        grp := u8 p 6, keySlot := u8 p 7, destNode := node, destKind := kind, destIndex := ix
        cls := u8 p 12, ringClass := u8 p 13, policer := u16 p 14, tagOp := u8 p 16, tagPcp := u8 p 17
        tagVid := u16 p 18, usQueue := us },
      [o, destObj node kind ix] ++ (if bit f 3 then [objId 0 0xB (u8 p 7)] else [])
        ++ (if u16 p 14 = 0xFFFF then [] else [objId 0 3 (u16 p 14)])
        ++ (if us = 0 then [] else [objId 0 2 us]))
  else none

/-- MCAST_SET (R702). -/
def mcastForm (p : List Byte) : Option (Setting × List Nat) :=
  let o := u32 p 0
  let n := u8 p 4
  let ms := (List.range n).map (fun k => (u8 p (8 + 2 * k), u8 p (9 + 2 * k)))
  if decide (8 ≤ p.length) && p.length == 8 + 2 * n && objIs 0xC o && decide (n ≤ 16)
      && (objNode o != 0 || ((if u16 p 6 = 0 then u8 p 5 == 0 else within 1 3 (u8 p 5)) && !bit (u16 p 6) 0))
      && ms.all (fun m => decide (m.1 < 16) && decide (m.2 < 8)) && decide ms.Nodup then
    some (.mcast o { ringClass := u8 p 5, nodeMask := u16 p 6, members := ms },
      o :: (ms.map (fun m => objId (objNode o) 1 m.1)))
  else none

/-- POOL_RESERVE_SET (R703). -/
def poolForm (p : List Byte) : Option (Setting × List Nat) :=
  if p.length == 20 && decide (u8 p 0 < 16) && zeroAt p 1 3
      && [4, 8, 12, 16].all (fun o => decide (u32 p o ≤ 262144)) && (u8 p 0 == 0 || u32 p 8 == 0) then
    some (.pool (u8 p 0) { minDown := u32 p 4, minUp := u32 p 8, minRing := u32 p 12, minCp := u32 p 16 }, [])
  else none

/-- E1_SET (R704). -/
def e1Form (p : List Byte) : Option (Setting × List Nat) :=
  let f := u8 p 4
  if p.length == 8 && objIs 7 (u32 p 0) && decide (f < 32) && decide (u8 p 5 ≤ 2) && (bit f 1 || u8 p 5 == 0)
      && zeroAt p 6 2 then
    some (.e1 (u32 p 0) { enable := bit f 0, framed := bit f 1, rising := bit f 2, raiAuto := bit f 3
                          loopTx := bit f 4, crc4 := u8 p 5 }, [u32 p 0])
  else none

/-- CES_SET (Table CA-23, R557). -/
def cesForm (p : List Byte) : Option (Setting × List Nat) :=
  let f := u8 p 4
  if p.length == 44 && objIs 8 (u32 p 0) && decide (f < 8) && within 1 64 (u8 p 5) && decide (u8 p 6 ≤ 7)
      && zeroAt p 7 1 && !bit (u32 p 8) 0 && (bit f 1 || u16 p 24 == 0) && within 2048 4095 (u16 p 26)
      && decide (u32 p 28 < 2 ^ 20) && decide (u32 p 32 < 2 ^ 20) && within 4 256 (u16 p 36)
      && within 1 64 (u8 p 38) && within 1 64 (u8 p 39) && within 2 512 (u16 p 40) && zeroAt p 42 2 then
    some (.ces (u32 p 0)
      { enable := bit f 0, tagEn := bit f 1, fillRep := bit f 2, pktFrames := u8 p 5, shedPri := u8 p 6
        tsMask := BitVec.ofNat 32 (u32 p 8), da := macAt p 12, sa := macAt p 18, tagTci := u16 p 24
        upQueue := u16 p 26, txLabel := u32 p 28, rxLabel := u32 p 32, jbDepth := u16 p 36
        lopsSet := u8 p 38, lopsClr := u8 p 39, deadline := u16 p 40 }, [u32 p 0, objId 0 2 (u16 p 26)])
  else none

/-- CISTERN_SET (Table CB-5, R728). -/
def cisternForm (p : List Byte) : Option (Setting × List Nat) :=
  if p.length == 16 && decide (u8 p 0 < 16) && decide (u8 p 1 ≤ 1) && within 2000 20000 (u16 p 2)
      && within 7000 14000 (u16 p 4) && u16 p 4 % 50 == 0 && within (u16 p 4 + 200) 15000 (u16 p 6)
      && u16 p 6 % 50 == 0 && within 1000 60000 (u16 p 8) && within (u16 p 8 + 1) 60000 (u16 p 10)
      && within 1 50 (u8 p 12) && decide (u8 p 13 < 16) && within 1000 40000 (u16 p 14) then
    some (.cistern (u8 p 0)
      { chgEn := bit (u8 p 1) 0, vinDiv := u16 p 2, vinFail := u16 p 4, vinOk := u16 p 6
        vstoreMin := u16 p 8, vstoreMax := u16 p 10, dvdt := u8 p 12, chgIset := u8 p 13
        storeDiv := u16 p 14 }, [])
  else none

/-- TIDE_SET (R37, R73). -/
def tideForm (p : List Byte) : Option (Setting × List Nat) :=
  if p.length == 8 && within 10 100 (u8 p 0) && zeroAt p 1 3 && within 1 86400 (u32 p 4) then
    some (.tide { slewPpm := u8 p 0, holdLim := u32 p 4 }, [])
  else none

/-! ### Checks against the staged view (R662) -/

/-- R671. -/
def Cfg.berthOk (c : Cfg) (b op : Nat) (objs : List Nat) : Bool :=
  objs.all (fun o => match op with
    | 1 => c.ownerOf o == 0 || c.ownerOf o == b + 1
    | _ => c.ownerOf o == b + 1)

/-- R233, R678: no lane has another RATE of its own; control ports are no mapped XGEM ports, indices are free or
bonding members. -/
def Cfg.lineOk (c : Cfg) (l : LineCfg) : Bool :=
  (List.range 4).all (fun k => (c.lane k).rate == 0xFF || (c.lane k).rate == b2n l.rate25) &&
  (!l.bonded ||
  ((List.range 4).all (fun k => l.ctrlPort k == 0xFFFF || !(c.xgem (l.ctrlPort k)).valid)
   && l.groups.all (fun g => ((c.alloc g.2.index).maps).isEmpty || (c.line.groupOf g.2.index).isSome)))

/-- R680. -/
def Cfg.laneOk (c : Cfg) (l : Nat) (v : LaneCfg) : Bool :=
  (v.rate == 0xFF || v.rate == b2n c.line.rate25) && !(v.enable && l != 0 && !c.line.bonded)

/-- R687: MAX_LEN against GATE_MAX_LEN. -/
def Cfg.portOk (c : Cfg) (o : Nat) (v : PortCfg) : Bool :=
  (List.range 8).all (fun k =>
    decide ((c.queue (objId (objNode o) 2 (8 * objIdx o + k))).gateMaxLen ≤ v.maxLen))

/-- R689: GATE_MAX_LEN against MAX_LEN. -/
def Cfg.queueOk (c : Cfg) (o : Nat) (v : QueueCfg) : Bool :=
  decide (128 ≤ objIdx o) || decide (v.gateMaxLen ≤ (c.port (objId (objNode o) 1 (objIdx o / 8))).maxLen)

/-- Whether a policer exists (R695). -/
def Cfg.policerIs (c : Cfg) (node k : Nat) : Bool := k == 0xFFFF || (c.policer (objId node 3 k)).enable

/-- R694: a policer that is still named is not deleted. -/
def Cfg.policerOk (c : Cfg) (o : Nat) (v : PolicerCfg) : Bool :=
  v.enable ||
  (c.classes.all (fun x => !(x.2.valid && objNode x.1 == objNode o && x.2.policer == objIdx o))
   && (objNode o != 0 || c.xgems.all (fun x => !(x.2.valid && x.2.policer == objIdx o))))

/-- Whether a berth's entry names its own queue and policer (R696). -/
def Cfg.entryOwned (c : Cfg) (o : Nat) (v : ClassCfg) : Bool :=
  let b := c.ownerOf o
  !v.valid || b == 0 || (c.ownerOf (objId 0 2 v.queue) == b
    && (v.policer == 0xFFFF || c.ownerOf (objId (objNode o) 3 v.policer) == b))

/-- R695, R696. -/
def Cfg.classOk (c : Cfg) (o : Nat) (v : ClassCfg) : Bool :=
  !v.valid || (c.policerIs (objNode o) v.policer && c.entryOwned o v)

/-- R698. -/
def Cfg.allocOk (c : Cfg) (a lane : Nat) (id : Option Nat) : Bool :=
  (id.isNone || c.allocs.all (fun x => x.1 == a || Tab.get none x.2.maps lane != id))
  && (match c.line.groupOf a with
      | some g => bit g.2.members lane
      | none => true)

/-- R700, R701. -/
def Cfg.xgemOk (c : Cfg) (x : Nat) (v : XgemCfg) : Bool :=
  !v.valid ||
  (c.policerIs 0 v.policer && (!v.bonded || (c.line.bonded && c.line.groups.any (fun g => g.1 == v.grp)))
   && !(c.line.bonded && (List.range 4).any (fun l => c.line.ctrlPort l == x && x != 0xFFFF))
   && (v.usQueue == 0 || c.xgems.all (fun y => y.1 == x || !(y.2.valid && y.2.usQueue == v.usQueue))))

/-- The limit of XGEM port IDs (R701). -/
def Cfg.xgemFull (c : Cfg) (x : Nat) (v : XgemCfg) : Bool :=
  v.valid && !(c.xgem x).valid && decide (4096 ≤ (c.xgems.filter (fun y => y.2.valid)).length)

/-- R704. -/
def Cfg.e1Ok (c : Cfg) (o : Nat) (v : E1Cfg) : Bool :=
  v.framed == (c.e1 o).framed || !(c.circuit (objId (objNode o) 8 (objIdx o))).enable

/-- R557, R705. -/
def Cfg.cesOk (c : Cfg) (o : Nat) (v : CesCfg) : Bool :=
  (c.e1 (objId (objNode o) 7 (objIdx o))).framed == (v.tsMask != 0) && c.upEnabled v.upQueue

/-- The answer of the checks that is not DONE. -/
def Cfg.settingFail (c : Cfg) (x : Setting) : Option Status :=
  let arg (b : Bool) : Option Status := if b then none else some .badArg
  match x with
  | .berth b op _ objs => arg (c.berthOk b op objs)
  | .line l => arg (c.lineOk l)
  | .lane l v _ => arg (c.laneOk l v)
  | .port o v => arg (c.portOk o v)
  | .queue o v => arg (c.queueOk o v)
  | .policer o v => arg (c.policerOk o v)
  | .classifier o v => arg (c.classOk o v)
  | .alloc o ln id _ _ _ _ => arg (c.allocOk (objIdx o) ln id)
  | .xgem o v => if c.xgemFull (objIdx o) v then (if c.xgemOk (objIdx o) v then some .noSpace else some .badArg)
      else arg (c.xgemOk (objIdx o) v)
  | .e1 o v => arg (c.e1Ok o v)
  | .ces o v =>
    if c.ownerOf o != 0 && c.ownerOf (objId 0 2 v.upQueue) != c.ownerOf o then some .denied
    else arg (c.cesOk o v)
  | _ => none

/-! ### Staging (R643, R644) -/

/-- The limits of a transaction (R644). -/
def Txn.room (t : Txn) (n : Nat) : Bool := decide (t.staged.length < 4096) && decide (t.bytes + n ≤ 262144)

/-- Stage a command whose checks have passed. -/
def State.stage (opc : Nat) (q : Req) (x : Setting) (named : List Nat) (s : State) : State :=
  match (s.box q.mbx.val).txn with
  | none => s.reply opc q (.ignored 1)
  | some t =>
    if !t.room q.payload.length then
      (s.modBox q.mbx.val (fun b => { b with txn := some { t with lastCmd := s.now } })).reply opc q .noSpace
    else
      let y : StagedCmd := { setting := x, named := named, opc := opc, payload := q.payload }
      let t1 : Txn :=
        { staged := t.staged ++ [y], bytes := t.bytes + q.payload.length, lastCmd := s.now }
      (s.modBox q.mbx.val (fun b => { b with txn := some t1 })).reply opc q .done

/-- The objects at fixed places of a payload that a berth's command names beside OBJECT, as offsets of 16-bit
indices with their class; scope comes before the arguments (R641, R696, R705). -/
def sideObjs (opc : Nat) (p : List Byte) : List Nat :=
  let at16 (o cls none_ node : Nat) : List Nat :=
    if decide (o + 2 ≤ p.length) && u16 p o != none_ then [objId node cls (u16 p o)] else []
  if opc = 0x0606 then
    (if u8 p 4 = 1 then at16 28 2 0 0 ++ at16 26 3 0xFFFF (objNode (u32 p 0)) else [])
  else if opc = 0x0608 then
    (if bit (u8 p 4) 0 then at16 20 2 0 0 ++ at16 14 3 0xFFFF 0
      ++ (if u8 p 7 = 0 then [] else [objId 0 0xB (u8 p 7)])
      ++ (if u8 p 9 ≤ 2 ∧ u8 p 8 < 16 then [destObj (u8 p 8) (u8 p 9) (u16 p 10)] else []) else [])
  else if opc = 0x0609 then
    (List.range (u8 p 4)).map (fun k => objId (objNode (u32 p 0)) 1 (u8 p (8 + 2 * k)))
  else if opc = 0x0701 then at16 26 2 0 0
  else []

/-- Whether a transactional command names a foreign object (R641). -/
def Cfg.foreignT (c : Cfg) (opc : Nat) (q : Req) : Bool :=
  c.foreign q 0 || (sideObjs opc q.payload).any (fun o => objOk o && !c.inScope q.mbx.val o)

/-- The body of a transactional command that names an object at offset 0 (`hasObj`), or none. A RATE of 1 on a TRV-4410
is answered UNSUPPORTED before LEN and reserved fields are looked at; where R24 stands among the checks the manual does
not say (DESIGN CHOICE, log 105). -/
def stageBody (opc : Nat) (hasObj : Bool) (form : List Byte → Option (Setting × List Nat)) (q : Req)
    (s : State) : Verdict :=
  let c := s.view q.mbx.val
  if hasObj && decide (q.mbx.val < 32) && c.foreignT opc q then .no .denied
  else if (opc == 0x0300 || opc == 0x0301) && s.start.part4410
      && u8 q.payload (if opc = 0x0300 then 1 else 2) == 1 then .no .unsupported
  else
    match form q.payload with
    | none => .no .badArg
    | some (x, named) =>
      match c.settingFail x with
      | some st => .no st
      | none => .go (fun s => s.stage opc q x named)

/-- The form of a transactional opcode, with whether it names an object at offset 0. -/
def formOf (opc : Nat) : Option (Bool × (List Byte → Option (Setting × List Nat))) :=
  match opc with
  | 0x0110 => some (false, berthForm)
  | 0x0300 => some (false, lineForm)
  | 0x0301 => some (false, laneForm)
  | 0x0401 => some (false, ringForm)
  | 0x0500 => some (true, portForm)
  | 0x0600 => some (true, queueForm)
  | 0x0602 => some (true, schedForm)
  | 0x0603 => some (true, shaperForm)
  | 0x0604 => some (true, gateForm)
  | 0x0605 => some (true, policerForm)
  | 0x0606 => some (true, classForm)
  | 0x0607 => some (true, allocForm)
  | 0x0608 => some (true, xgemForm)
  | 0x0609 => some (true, mcastForm)
  | 0x060A => some (false, poolForm)
  | 0x0700 => some (true, e1Form)
  | 0x0701 => some (true, cesForm)
  | 0x0A02 => some (false, cisternForm)
  | 0x0F02 => some (false, tideForm)
  | _ => none

/-! ### The rows -/

def execBerthSet (q : Req) (s : State) : Host.Outcome State Fault Refusal :=
  .next (s.serve 0x0110 q (stageBody 0x0110 false berthForm))
def execLineModeSet (q : Req) (s : State) : Host.Outcome State Fault Refusal :=
  .next (s.serve 0x0300 q (stageBody 0x0300 false lineForm))
def execLineLaneSet (q : Req) (s : State) : Host.Outcome State Fault Refusal :=
  .next (s.serve 0x0301 q (stageBody 0x0301 false laneForm))
def execRingSet (q : Req) (s : State) : Host.Outcome State Fault Refusal :=
  .next (s.serve 0x0401 q (stageBody 0x0401 false ringForm))
def execPortSet (q : Req) (s : State) : Host.Outcome State Fault Refusal :=
  .next (s.serve 0x0500 q (stageBody 0x0500 true portForm))
def execQueueSet (q : Req) (s : State) : Host.Outcome State Fault Refusal :=
  .next (s.serve 0x0600 q (stageBody 0x0600 true queueForm))
def execSchedSet (q : Req) (s : State) : Host.Outcome State Fault Refusal :=
  .next (s.serve 0x0602 q (stageBody 0x0602 true schedForm))
def execShaperSet (q : Req) (s : State) : Host.Outcome State Fault Refusal :=
  .next (s.serve 0x0603 q (stageBody 0x0603 true shaperForm))
def execGateListSet (q : Req) (s : State) : Host.Outcome State Fault Refusal :=
  .next (s.serve 0x0604 q (stageBody 0x0604 true gateForm))
def execPolicerSet (q : Req) (s : State) : Host.Outcome State Fault Refusal :=
  .next (s.serve 0x0605 q (stageBody 0x0605 true policerForm))
def execClassifierSet (q : Req) (s : State) : Host.Outcome State Fault Refusal :=
  .next (s.serve 0x0606 q (stageBody 0x0606 true classForm))
def execAllocMapSet (q : Req) (s : State) : Host.Outcome State Fault Refusal :=
  .next (s.serve 0x0607 q (stageBody 0x0607 true allocForm))
def execXgemMapSet (q : Req) (s : State) : Host.Outcome State Fault Refusal :=
  .next (s.serve 0x0608 q (stageBody 0x0608 true xgemForm))
def execMcastSet (q : Req) (s : State) : Host.Outcome State Fault Refusal :=
  .next (s.serve 0x0609 q (stageBody 0x0609 true mcastForm))
def execPoolReserveSet (q : Req) (s : State) : Host.Outcome State Fault Refusal :=
  .next (s.serve 0x060A q (stageBody 0x060A false poolForm))
def execE1Set (q : Req) (s : State) : Host.Outcome State Fault Refusal :=
  .next (s.serve 0x0700 q (stageBody 0x0700 true e1Form))
def execCesSet (q : Req) (s : State) : Host.Outcome State Fault Refusal :=
  .next (s.serve 0x0701 q (stageBody 0x0701 true cesForm))
def execCisternSet (q : Req) (s : State) : Host.Outcome State Fault Refusal :=
  .next (s.serve 0x0A02 q (stageBody 0x0A02 false cisternForm))
def execTideSet (q : Req) (s : State) : Host.Outcome State Fault Refusal :=
  .next (s.serve 0x0F02 q (stageBody 0x0F02 false tideForm))

end Sys2Proof.Machine
end

