-- ==== Sys2Proof/Machine/Maint.lean ====
section
/-!
DEFINITION. The switch-over of a commit, and the commands of queues, keys, counters, power states and load
switches.
-/

namespace Sys2Proof.Machine

/-! ### The switch-over of a commit -/

/-- Whether the port or E1 port under a test is enabled. -/
def Cfg.objEnabled (c : Cfg) (o : Nat) : Bool :=
  match objCls o with
  | 1 => (c.port o).enable
  | 7 => (c.e1 o).enable
  | _ => true

/-- A PRBS test on an object that a commit disables ends with RESULT 5 (Table CB-13). What it had counted is
not given: free values (log 38). -/
def State.dropTests (old : Cfg) (s : State) : State :=
  (s.start.diags.filter (fun x => old.objEnabled x.1 && !s.cfg.objEnabled x.1)).foldl (fun t x =>
    match x.2 with
    | none => t
    | some d =>
      if d.loopback then t
      else
        let r := t.drawWords 5
        (r.2.endDiag x.1).complete d.mbx d.seq .done (leBytes 4 5 ++ r.1)) s

/-- COMMIT_SWITCH_OVER (R645, R649): the first accepted commit comes into force at its frame boundary, or
at once where that has passed. -/
def execCommitSwitchOver (s : State) : Host.Outcome State Fault Refusal :=
  .next (
    match s.host.nextCommit with
    | none => s
    | some a =>
      let s1 := s.until (a.frame * frameTicks)
      (({ s1 with host := { s1.host with accepted := s1.host.accepted.erase a } }).switchIn a.staged).dropTests
        s1.cfg)

/-! ### QUEUE_FLUSH (R304, R690) -/

/-- QUEUE_FLUSH: during a recount the answer waits for the hold's release. -/
def queueFlushBody (q : Req) (s : State) : Verdict :=
  let p := q.payload
  let o := u32 p 0
  if s.cfg.foreign q 0 then .no .denied
  else if p.length ≠ 4 || !objIs 2 o || !queueNamed (objNode o) (objIdx o) then .no .badArg
  else .go (State.atNode 0x0601 q (objNode o) (fun t =>
    if t.pool.recount then t.await 0x0601 q (.recount (objIdx o))
    else (t.flushPoint (objIdx o)).reply 0x0601 q .done))

/-! ### Keys (R710 to R716) -/

/-- Whether the key object of a request is one that commands may write: a line slot from 4, or one of the
first four vault slots, of node 0 (R584, R593). -/
def keyObjOk (o : Nat) : Bool := objIs 0xB o && objNode o == 0 && within 4 0x103 (objIdx o)

/-- KEY_LOAD (Table CB-2, R710 to R712). -/
def keyLoadBody (q : Req) (s : State) : Verdict :=
  let p := q.payload
  let o := u32 p 0
  let v := decide (256 ≤ objIdx o)
  if s.cfg.foreign q 0 then .no .denied
  else if p.length ≠ 24 || !keyObjOk o || !zeroAt p 5 3 || (if v then u8 p 4 != 0 else !within 1 2 (u8 p 4)) then
    .no .badArg
  else if v then .go (fun t => (t.loadMsk (objIdx o - 256) (some (keyAt p 8))).reply 0x0800 q .done)
  else .go (fun t =>
    ((t.writeBank (objIdx o) (u8 p 4 - 1) (keyAt p 8)).raise 547 o 0).reply 0x0800 q .done)

/-- Erase a bank that holds a key, or join its erase. -/
def State.eraseIf (slot b : Nat) (s : State) : State :=
  if (s.bank slot b).holds then s.eraseBank slot b else s

/-- Whether a bank is neither empty nor waiting for its zeroisation. -/
def Bank.busy (b : Bank) : Bool := b.holds || b.erasing

/-- KEY_ERASE (R713 to R716): of both banks when BANK is 3; a line slot's answer waits for its zeroisation. -/
def keyEraseBody (q : Req) (s : State) : Verdict :=
  let p := q.payload
  let o := u32 p 0
  let n := objIdx o
  let k := u8 p 4
  let v := decide (256 ≤ n)
  if s.cfg.foreign q 0 then .no .denied
  else if p.length ≠ 8 || !keyObjOk o || !zeroAt p 5 3 || (if v then k != 0 else !within 1 3 k) then .no .badArg
  else if v then .go (fun t => (t.loadMsk (n - 256) none).reply 0x0801 q .done)
  else .go (fun t =>
    if k = 3 then
      (if (t.bank n 0).busy || (t.bank n 1).busy then
        ((t.eraseIf n 0).eraseIf n 1).await 0x0801 q (.zeroise n 2)
      else t.reply 0x0801 q (.ignored 6))
    else if (t.bank n (k - 1)).busy then (t.eraseIf n (k - 1)).await 0x0801 q (.zeroise n (k - 1))
    else t.reply 0x0801 q (.ignored 6))

/-! ### Counters (R717 to R720, R777) -/

/-- The object that a counter of a node belongs to, where a berth can own it (R709, Table EV-8). -/
def cntOwner (node i : Nat) : Option Nat :=
  if i < 0x400 then some (objId node 1 (i / 64))
  else if i < 0x500 then some (objId node 7 ((i - 0x400) / 32))
  else if 0x600 ≤ i ∧ i < 0x700 then some (objId 0 0xD ((i - 0x600) / 8))
  else if 0x1000 ≤ i ∧ i < 0x1800 then some (objId node 9 ((i - 0x1000) / 16))
  else if 0x2000 ≤ i ∧ i < 0x4000 then some (objId node 3 ((i - 0x2000) / 8))
  else if 0x4000 ≤ i ∧ i < 0x4100 then some (objId node 0xC (i - 0x4000))
  else if 0x8000 ≤ i ∧ i < 0xC000 then some (objId node 2 ((i - 0x8000) / 4))
  else none

/-- Whether a berth may read a range of counters (R709). -/
def Cfg.mayRead (c : Cfg) (m node i n : Nat) : Bool :=
  decide (32 ≤ m) || (List.range n).all (fun k =>
    match cntOwner node (i + k) with
    | some o => c.inScope m o
    | none => false)

/-- Whether a range of counters begins at a named one of the node and ends within the index space (R777). -/
def cntRange (o n : Nat) : Bool :=
  objIs 0xF o && cntNamed (objIdx o) && decide (objIdx o + n ≤ 65536)
  && !(objNode o != 0 && within 0x600 0x707 (objIdx o))

/-- CNT_READ (Table CB-3, R709, R717). -/
def cntReadBody (q : Req) (s : State) : Verdict :=
  let p := q.payload
  let o := u32 p 0
  let n := u16 p 4
  if decide (6 ≤ p.length) && objIs 0xF o && decide (n ≤ 125)
      && !s.cfg.mayRead q.mbx.val (objNode o) (objIdx o) (max 1 n) then .no .denied
  else if p.length ≠ 8 || !zeroAt p 6 2 || !within 1 125 n || !cntRange o n then .no .badArg
  else .go (State.atNode 0x0900 q (objNode o) (fun t =>
    t.answer 0x0900 q .done (leBytes 8 t.tide.word
      ++ (t.cntVals (objNode o) (objIdx o) n).flatMap (fun v => leBytes 8 v))))

/-- CNT_SNAPSHOT (R718 to R720). A snapshot of now that finds the one before still on its way into the
window is skipped (R720); its request is answered FAULT (DESIGN CHOICE, log 41). -/
def cntSnapshotBody (q : Req) (_s : State) : Verdict :=
  let p := q.payload
  let o := u32 p 0
  let n := u16 p 4
  if p.length ≠ 8 || !zeroAt p 7 1 || decide (1 < u8 p 6) || !within 1 504 n || !cntRange o n then .no .badArg
  else .go (fun t =>
    if objNode o ≠ t.self && !t.joined (objNode o) then t.reply 0x0901 q .fault
    else
      let t1 := { t with snap := { t.snap with object := o, count := n } }
      if u8 p 6 = 0 then t1.answer 0x0901 q .done (leBytes 8 0)
      else if t.snap.filling.isSome then (t1.takeSnapshot none).reply 0x0901 q .fault
      else (t1.takeSnapshot (some q.mbx.val)).await 0x0901 q .snapshot)

/-- SNAPSHOT_FILL_DONE (R719, R779, R780): the window holds the snapshot, SNAP_SEQ even. -/
def execSnapshotFillDone (s : State) : Host.Outcome State Fault Refusal :=
  .next (
    match s.snap.filling with
    | none => s
    | some f =>
      let x := { s.snap with filling := none, seq := s.snap.seq + 1, tide := f.tide, winObj := f.object
                             winCount := f.vals.length, vals := f.vals, asker := none }
      (({ s with snap := x }).raise 482 f.object 0).answerOn .snapshot .done (leBytes 8 f.tide))

/-! ### Power states (R721 to R724) -/

/-- The STATE code of the state that a node is in (Table CB-4). -/
def Pwr.code : Pwr → Nat
  | .run => 0
  | .idle => 1
  | .beached => 3
  | _ => 2

/-- The request on its node. -/
def State.powerSet (q : Req) (s : State) : State :=
  let p := q.payload
  let st := u8 p 1
  if s.start.fwState ≠ 2 || s.start.unconfirmed || s.start.write.isSome then s.reply 0x0A00 q (.ignored 5)
  else if st = s.power.state.code then s.reply 0x0A00 q (.ignored 6)
  else if st ≤ 1 then
    (s.setPower (fun w => { w with idleReq := some (st == 1) })).await 0x0A00 q .powerMode
  else
    let e : Entry := { beached := st == 3, drainMs := u16 p 2, wake := u8 p 4, timer := u32 p 8
                       at_ := s.switchFrame }
    (s.reply 0x0A00 q .done).setPower (fun w => { w with entry := some e })

/-- PWR_STATE_SET (Table CB-4, R721 to R724). -/
def pwrStateBody (q : Req) (_s : State) : Verdict :=
  let p := q.payload
  let w := u8 p 4
  let ok := if u8 p 1 = 2 then decide (u16 p 2 ≤ 1000) && within 1 31 w
        && (if bit w 4 then within 1 86400 (u32 p 8) else u32 p 8 == 0)
      else u16 p 2 == 0 && w == 0 && u32 p 8 == 0
  if p.length ≠ 12 || decide (15 < u8 p 0) || decide (3 < u8 p 1) || !zeroAt p 5 3 || !ok then .no .badArg
  else .go (State.atNode 0x0A00 q (u8 p 0) (fun t => t.powerSet q))

/-! ### Load switches (R725 to R727) -/

/-- LSW_SET on its node: 0 ENABLE, 1 DISABLE, 2 REARM. A REARM in RETRY_WAIT acts too (Table CS-3; DEDUCED,
log 42, against the general words of R727). -/
def State.lswSet (q : Req) (k action win : Nat) (s : State) : State :=
  let x := s.lsw k
  let window (t : State) : State := if win = 0 then t else t.modLsw k (fun y => { y with window := win })
  let acts := match action with
    | 0 => !x.enable
    | 1 => x.enable
    | _ => decide (x.state = .latched) || decide (x.state = .retryWait)
  if !acts then s.reply 0x0A01 q (.ignored 6)
  else
    let s1 := window s
    let s2 := match action with
      | 0 => (s1.modLsw k (fun y => { y with enable := true })).lswStart k
      | 1 =>
        let s3 := s1.modLsw k (fun y => { y with enable := false, waiting := false })
        if x.state = LswState.absent ∨ x.state = LswState.latched then s3
        else (s3.modLsw k (fun y => { y with pg := false })).lswDrop k .off
      | _ =>
        let s3 := s1.modLsw k (fun y => { y with state := .off, fails := 0 })
        if x.enable then s3.lswStart k else s3
    s2.reply 0x0A01 q .done

/-- LSW_SET. -/
def lswBody (q : Req) (_s : State) : Verdict :=
  let p := q.payload
  if p.length ≠ 8 || decide (15 < u8 p 0) || decide (3 < u8 p 1) || decide (2 < u8 p 2) || decide (100 < u8 p 3)
      || !zeroAt p 4 4 then .no .badArg
  else .go (State.atNode 0x0A01 q (u8 p 0) (fun t => t.lswSet q (u8 p 1) (u8 p 2) (u8 p 3)))

/-- The request of one of the three rows of LSW_SET: its payload from the row's operands. -/
def lswReq (q : Req) (node : NodeNo) (switch : Fin 4) (action : Nat) (window : Byte) : Req :=
  { q with payload := leBytes 1 node.val ++ leBytes 1 switch.val ++ leBytes 1 action ++ [window]
      ++ List.replicate 4 0 }

/-! ### The rows -/

def execQueueFlush (q : Req) (s : State) : Host.Outcome State Fault Refusal :=
  .next (s.serve 0x0601 q queueFlushBody)
def execKeyLoad (q : Req) (s : State) : Host.Outcome State Fault Refusal := .next (s.serve 0x0800 q keyLoadBody)
def execKeyErase (q : Req) (s : State) : Host.Outcome State Fault Refusal :=
  .next (s.serve 0x0801 q keyEraseBody)
def execCntRead (q : Req) (s : State) : Host.Outcome State Fault Refusal := .next (s.serve 0x0900 q cntReadBody)
def execCntSnapshot (q : Req) (s : State) : Host.Outcome State Fault Refusal :=
  .next (s.serve 0x0901 q cntSnapshotBody)
def execPwrStateSet (q : Req) (s : State) : Host.Outcome State Fault Refusal :=
  .next (s.serve 0x0A00 q pwrStateBody)
def execLswEnable (q : Req) (node : NodeNo) (switch : Fin 4) (window : Byte) (s : State) :
    Host.Outcome State Fault Refusal :=
  .next (s.serve 0x0A01 (lswReq q node switch 0 window) lswBody)
def execLswDisable (q : Req) (node : NodeNo) (switch : Fin 4) (window : Byte) (s : State) :
    Host.Outcome State Fault Refusal :=
  .next (s.serve 0x0A01 (lswReq q node switch 1 window) lswBody)
def execLswRearm (q : Req) (node : NodeNo) (switch : Fin 4) (window : Byte) (s : State) :
    Host.Outcome State Fault Refusal :=
  .next (s.serve 0x0A01 (lswReq q node switch 2 window) lswBody)

end Sys2Proof.Machine
end

