-- ==== Sys2Proof/Machine/Firmware.lean ====
section
/-!
DEFINITION. Firmware: the write of an image, its verification, activation, confirmation and the update of
workers; reading the logbook.
-/

namespace Sys2Proof.Machine

/-! ### The write (R730 to R735) -/

/-- The bank that is not running (R730). -/
def Start.other (k : Start) : Bool := !k.image

/-- FW_WRITE_BEGIN (R650, R730, R731). -/
def fwBeginBody (q : Req) (_s : State) : Verdict :=
  let p := q.payload
  if p.length ≠ 12 || !within 4096 bankSize (u32 p 0) || !zeroAt p 8 4 then .no .badArg
  else .go (fun s =>
    if s.start.write.isSome || s.start.unconfirmed || s.start.fwState ≠ 2 then s.reply 0x0B00 q (.ignored 5)
    else s.defer_ 0x0B00 q (objId s.self 0 0) (fun t =>
      (t.header (fun k => { k.putBank k.other {} with
        write := some { mbx := q.mbx.val, seq := q.seq.toNat, size := u32 p 0
                        version := BitVec.ofNat 32 (u32 p 4) } })).imageRec t.start.other 0))

/-- The write that OP_SEQ names on a mailbox (R733). -/
def State.writeOf (s : State) (m seq : Nat) : Option FwWrite :=
  match s.start.write with
  | some w => if w.mbx = m ∧ w.seq = seq then some w else none
  | none => none

/-- Write a block's bytes to the bank (R606, R732): the data units that they complete; the last unit follows when the
write ends (R607). -/
def State.putBlock (w : FwWrite) (data : List Byte) (s : State) : State :=
  let all := w.bytes ++ data
  let a := w.bytes.length / 4096 * 4096
  let e := all.length / 4096 * 4096
  (s.setStart (fun k => { k with write := some { w with bytes := all } })).flashWrite
    (bankAddr s.start.other + a) 4096 ((all.drop a).take (e - a))

/-- The last data unit of an image, where one is not whole, completed with zeros (R607). -/
def State.putLast (w : FwWrite) (s : State) : State :=
  let e := w.bytes.length / 4096 * 4096
  s.flashWrite (bankAddr s.start.other + e) 4096 (w.bytes.drop e)

/-- FW_WRITE_BLOCK (R732, R733): a block that arrives during the erase waits for its end. -/
def fwBlockBody (q : Req) (_s : State) : Verdict :=
  let p := q.payload
  if p.length < 9 || decide (1008 < p.length) || !zeroAt p 2 2 then .no .badArg
  else .go (fun s =>
    let n := p.length - 8
    match s.writeOf q.mbx.val (u16 p 0) with
    | none => s.reply 0x0B01 q (.ignored 6)
    | some w =>
      if u32 p 4 ≠ w.bytes.length || decide (w.size < u32 p 4 + n) then s.reply 0x0B01 q .badArg
      else if w.erasing then s.await 0x0B01 q .erase
      else (s.putBlock w (p.drop 8)).reply 0x0B01 q .done)

/-- FW_ERASE_DONE (R732, R920): unless a flush has suspended the erase, the block that waits is written and answered. -/
def execFwEraseDone (s : State) : Host.Outcome State Fault Refusal :=
  .next (
    match s.start.write with
    | none => s
    | some w =>
      if !w.erasing || w.cutOff then s
      else
        let w1 := { w with erasing := false }
        let s1 := s.setStart (fun k => { k with write := some w1 })
        match (s.box w.mbx).waiting with
        | some x =>
          if x.on = .erase then (s1.putBlock w1 (x.req.payload.drop 8)).reply x.opc x.req .done else s1
        | none => s1)

/-- FW_WRITE_END (R734). -/
def fwEndBody (q : Req) (_s : State) : Verdict :=
  let p := q.payload
  if p.length ≠ 4 || !zeroAt p 2 2 then .no .badArg
  else .go (fun s =>
    match s.writeOf q.mbx.val (u16 p 0) with
    | none => s.reply 0x0B02 q (.ignored 6)
    | some w =>
      if w.verifying then s.reply 0x0B02 q (.ignored 6)
      else if w.bytes.length ≠ w.size then s.reply 0x0B02 q .badArg
      else ((s.putLast w).setStart (fun k => { k with write := some { w with verifying := true } })).reply 0x0B02 q .done)

/-- FW_VERIFY_DONE (R734, R755, R860, Table CB-12): RESULT is that of the image's checks, or 3 where the flash
failed. -/
def execFwVerifyDone (flashOk : Bool) (s : State) : Host.Outcome State Fault Refusal :=
  .next (
    match s.start.write with
    | none => s
    | some w =>
      if !w.verifying then s
      else
        let result := if flashOk then s.imageResult w.bytes else 3
        let ok := decide (result = 0)
        let b : ImgBank := if ok then { state := .valid, image := w.bytes, good := true } else {}
        let s1 := (s.header (fun k => { k.putBank k.other b with write := none })).imageRec s.start.other 1
        s1.complete w.mbx w.seq .done (leBytes 4 result
          ++ leBytes 4 (if ok then (imgVersion w.bytes).toNat else 0) ++ leBytes 4 w.bytes.length))

/-! ### Activation and confirmation (R736, R737, R861) -/

/-- FW_ACTIVATE: the warm CP restart follows at the second boundary. -/
def fwActivateBody (q : Req) (_s : State) : Verdict :=
  let p := q.payload
  if p.length ≠ 4 || decide (60 < u8 p 0) || !zeroAt p 1 3 then .no .badArg
  else .go (fun s =>
    let o := s.start.other
    if !(s.start.bank o).good then s.reply 0x0B03 q (.ignored 6)
    else
      let n := u8 p 0
      ((s.header (fun k => { k.mark o .trial with
        target := some o, confirmMin := if n = 0 then 10 else n
        activateAt := some (s.tide.frame + 2) })).imageRec o 2).reply 0x0B03 q .done)

/-- FW_CONFIRM. -/
def fwConfirmBody (q : Req) (_s : State) : Verdict :=
  if q.payload ≠ [] then .no .badArg
  else .go (fun s =>
    if !s.start.unconfirmed then s.reply 0x0B04 q (.ignored 6)
    else
      let s1 := s.header (fun k => { k.mark k.image .valid with
        startBank := k.image, unconfirmed := false, confirmEnd := none, fallback := false })
      ((s1.imageRec s.start.image 4).raise 102 0 0).reply 0x0B04 q .done)

/-- WORKER_IMAGE_UPDATE (R867, R963): a joined worker that runs another version gets the image served. -/
def execWorkerImageUpdate (n : NodeNo) (s : State) : Host.Outcome State Fault Refusal :=
  .next (
    let x := s.served
    if !s.isManager || !s.joined n.val || x.isEmpty || (s.node n.val).version = imgVersion x then s
    else
      ((s.sendImage 0 n.val).modNode n.val (fun e => { e with version := imgVersion x })).raise 108
        (nodeObj n.val) 0)

/-! ### LOGBOOK_READ (R738, Table ST-7) -/

/-- The records held, oldest first. -/
def Logbook.held (l : Logbook) : List LogRecord := l.region.flatten ++ l.buffer

/-- The reply (Table CB-7). Of an empty logbook OLDEST and NEWEST are zero, and a reply without a record
names START as FIRST (DESIGN CHOICE, log 44). -/
def Logbook.reply (start count : Nat) (l : Logbook) : List Byte :=
  let h := l.held
  let oldest := (h.head?.map (·.no)).getD 0
  let newest := (h.getLast?.map (·.no)).getD 0
  let from_ := if start = 0xFFFFFFFF then oldest else max start oldest
  let rs := (h.filter (fun r => decide (from_ ≤ r.no))).take count
  leBytes 4 ((rs.head?.map (·.no)).getD (if start = 0xFFFFFFFF then 0 else start)) ++ leBytes 2 rs.length ++ [0, 0]
  ++ leBytes 4 oldest ++ leBytes 4 newest ++ rs.flatMap (·.bytes)

/-- LOGBOOK_READ. -/
def logbookBody (q : Req) (_s : State) : Verdict :=
  let p := q.payload
  if p.length ≠ 8 || decide (15 < u8 p 0) || !zeroAt p 1 1 || !within 1 15 (u16 p 2) then .no .badArg
  else .go (State.atNode 0x0B10 q (u8 p 0) (fun s =>
    s.answer 0x0B10 q .done (s.log.reply (u32 p 4) (u16 p 2))))

/-! ### The rows -/

def execFwWriteBegin (q : Req) (s : State) : Host.Outcome State Fault Refusal :=
  .next (s.serve 0x0B00 q fwBeginBody)
def execFwWriteBlock (q : Req) (s : State) : Host.Outcome State Fault Refusal :=
  .next (s.serve 0x0B01 q fwBlockBody)
def execFwWriteEnd (q : Req) (s : State) : Host.Outcome State Fault Refusal := .next (s.serve 0x0B02 q fwEndBody)
def execFwActivate (q : Req) (s : State) : Host.Outcome State Fault Refusal :=
  .next (s.serve 0x0B03 q fwActivateBody)
def execFwConfirm (q : Req) (s : State) : Host.Outcome State Fault Refusal :=
  .next (s.serve 0x0B04 q fwConfirmBody)
def execLogbookRead (q : Req) (s : State) : Host.Outcome State Fault Refusal :=
  .next (s.serve 0x0B10 q logbookBody)

end Sys2Proof.Machine
end

