-- ==== Sys2Proof/Machine/Diag.lean ====
section
/-!
DEFINITION. Diagnostics and MAINTENANCE, the OMCI relay, the event commands and the Tide commands.
-/

namespace Sys2Proof.Machine

/-! ### Self-tests (R739, R878 to R882) -/

/-- DIAG_SELFTEST. A second one while one is outstanding on the node is answered IGNORED, cause 6 (DESIGN
CHOICE, log 45). -/
def selftestBody (q : Req) (_s : State) : Verdict :=
  let p := q.payload
  if p.length ≠ 4 || decide (15 < u8 p 0) || decide (1 < u8 p 1) || !zeroAt p 2 2 then .no .badArg
  else .go (State.atNode 0x0C00 q (u8 p 0) (fun s =>
    if s.start.selftest.isSome then s.reply 0x0C00 q (.ignored 6)
    else s.defer_ 0x0C00 q (objId s.self 0 0) (fun t =>
      t.setStart (fun k => { k with selftest := some (q.mbx.val, q.seq.toNat, u8 p 1) }))))

/-- Retire cells that a full test found failing (R328, R882). -/
def State.retireCells (n : Nat) (s : State) : State :=
  let k := min n s.pool.free
  (List.range k).foldl (fun t _ => t.retireOne) { s with pool := { s.pool with
    free := s.pool.free - k, test := s.pool.test + k } }

/-- SELFTEST_DONE (R882, R755, Table CB-12): a full test ends only in MAINTENANCE (R880). The cells of a
sweep are retired as it returns them (R328). -/
def execSelftestDone (tested retired failedUnits durationMs : Nat) (s : State) :
    Host.Outcome State Fault Refusal :=
  .next (
    match s.start.selftest with
    | none => s
    | some (m, seq, scope) =>
      if scope = 1 && !s.start.maint then s
      else
        let s1 := s.setStart (fun k => { k with selftest := none })
        let s2 := if scope = 1 && retired != 0 then (s1.retireCells retired).recheck else s1
        let bad := retired != 0 || failedUnits != 0
        let s3 := if bad then s2.raise 104 0 failedUnits else s2
        s3.complete m seq .done (leBytes 4 (if bad then 4 else 0) ++ leBytes 4 tested ++ leBytes 4 retired
          ++ leBytes 4 failedUnits ++ leBytes 4 durationMs))

/-! ### Loopback and PRBS (R740 to R744) -/

/-- Whether an object can be looped or tested: a port, an E1 port or a ring side (Table CB-8, R742). -/
def diagObj (o : Nat) : Bool := objIs 1 o || objIs 7 o || (objIs 0xE o && decide (0x10 ≤ objIdx o))

/-- An object goes out of service for a test (R740, R743). -/
def State.beginDiag (o : Nat) (d : Diag) (s : State) : State :=
  let s1 := s.setStart (fun k => { k with diags := Tab.set none k.diags o (some d) })
  match objCls o with
  | 1 => if (s1.port (objIdx o)).link then s1.linkDown (objIdx o) else s1
  | 7 => s1.cesStop (objIdx o)
  | _ => s1.modSide (objIdx o - 0x10) (fun x => { x with prbs := !d.loopback })

/-- The diagnostic that runs on an object. -/
def State.diagOf (s : State) (o : Nat) : Option Diag := Tab.get none s.start.diags o

/-- Whether a test of the object needs MAINTENANCE and the node is not in it (R743). -/
def State.needsMaint (s : State) (o : Nat) : Bool := objCls o == 0xE && !s.start.maint

/-- DIAG_LOOPBACK. -/
def loopbackBody (q : Req) (s : State) : Verdict :=
  let p := q.payload
  let o := u32 p 0
  let mode := u8 p 4
  if s.cfg.foreign q 0 then .no .denied
  else if p.length ≠ 8 || !diagObj o || decide (2 < mode) || !zeroAt p 5 1 || decide (3600 < u16 p 6) then
    .no .badArg
  else .go (State.atNode 0x0C01 q (objNode o) (fun t =>
    if mode = 0 then
      (if (t.diagOf o).any (·.loopback) then (t.endDiag o).reply 0x0C01 q .done
       else t.reply 0x0C01 q (.ignored 6))
    else if t.needsMaint o then t.reply 0x0C01 q (.ignored 5)
    else if (t.diagOf o).isSome then t.reply 0x0C01 q (.ignored 6)
    else
      let n := u16 p 6
      let d : Diag :=
        { loopback := true, mode := mode, mbx := q.mbx.val, seq := q.seq.toNat
          ends := if n = 0 then none else some (t.now + n * secTicks) }
      (t.beginDiag o d).reply 0x0C01 q .done))

/-- LOOPBACK_EXPIRY (R741): at DURATION_S; a loopback whose DURATION_S is 0 runs until it is cleared. -/
def execLoopbackExpiry (object : W32) (s : State) : Host.Outcome State Fault Refusal :=
  .next (
    match s.diagOf object.toNat with
    | some d => if d.loopback && d.ends.isSome then (s.untilNow d.ends).endDiag object.toNat else s
    | none => s)

/-- DIAG_PRBS: an E1 port takes PRBS15 only (R742). -/
def prbsBody (q : Req) (s : State) : Verdict :=
  let p := q.payload
  let o := u32 p 0
  if s.cfg.foreign q 0 then .no .denied
  else if p.length ≠ 12 || !diagObj o || decide (3 < u8 p 4) || (objCls o == 7 && u8 p 4 != 1)
      || !within 1 3 (u8 p 5) || !zeroAt p 6 2 || !within 1 3600000 (u32 p 8) then .no .badArg
  else .go (State.atNode 0x0C02 q (objNode o) (fun t =>
    if t.needsMaint o then t.reply 0x0C02 q (.ignored 5)
    else if (t.diagOf o).isSome then t.reply 0x0C02 q (.ignored 6)
    else t.defer_ 0x0C02 q o (fun u => u.beginDiag o
      { loopback := false, mode := u8 p 5, pattern := u8 p 4, mbx := q.mbx.val, seq := q.seq.toNat
        ends := some (u.now + u32 p 8 * msTicks) })))

/-- PRBS_DONE (R740, R755, Table CB-12): the test has run its time. -/
def execPrbsDone (object : W32) (bits errors syncLosses : Nat) (s : State) : Host.Outcome State Fault Refusal :=
  .next (
    match s.diagOf object.toNat with
    | none => s
    | some d =>
      if d.loopback then s
      else
        ((s.untilNow d.ends).endDiag object.toNat).complete d.mbx d.seq .done (leBytes 4 0 ++ leBytes 8 bits ++ leBytes 8 errors
          ++ leBytes 4 syncLosses))

/-! ### MAINTENANCE (R745, R880, R881, R883) -/

/-- The node enters MAINTENANCE: intake stops, every queue is flushed, the ports go down. -/
def State.maintEnter (s : State) : State :=
  let s1 := s.setStart (fun k => { k with maint := true, fwState := 4 })
  let s2 := (List.range 16).foldl (fun t p => if (t.port p).link then t.linkDown p else t) s1
  (s2.pool.queues.foldl (fun t x => t.flushPoint x.1) s2).raise 105 0 1

/-- The deferred operations that are intrusive tests: a full self-test, a PRBS on a ring side. -/
def State.intrusive (s : State) (m : Nat) : List Deferred :=
  (s.box m).deferred.filter (fun d =>
    (d.opc == 0x0C00 && s.start.selftest.any (fun t => t.1 == m && t.2.1 == d.seq && t.2.2 == 1))
    || (d.opc == 0x0C02 && objCls d.object == 0xE))

/-- The node leaves MAINTENANCE: intrusive tests stop, each with an ABORTED completion, ring-side loopbacks
end, and the configuration is committed with what no longer fits shed (R416, R883). -/
def State.maintLeave (s : State) : State :=
  let s1 := (List.range 34).foldl (fun t m => (t.intrusive m).foldl (fun u d => u.abortOp m d) t) s
  let s2 := (s1.start.diags.filter (fun x => objCls x.1 == 0xE)).foldl (fun t x => t.endDiag x.1) s1
  let s3 := s2.setStart (fun k => { k with maint := false, fwState := 2 })
  (if s.isManager then s3.rerun false else s3).raise 105 0 0

/-- DIAG_MAINTENANCE. -/
def maintBody (q : Req) (_s : State) : Verdict :=
  let p := q.payload
  if p.length ≠ 4 || decide (15 < u8 p 0) || decide (1 < u8 p 1) || !zeroAt p 2 2 then .no .badArg
  else .go (State.atNode 0x0C03 q (u8 p 0) (fun s =>
    if (u8 p 1 == 1) == s.start.maint then s.reply 0x0C03 q (.ignored 6)
    else (if u8 p 1 = 1 then s.maintEnter else s.maintLeave).reply 0x0C03 q .done))

/-! ### OMCI_SEND (R746 to R749) -/

/-- One segment. The queue is full when the pool refuses the message (DESIGN CHOICE, log 46: no other size is
given). -/
def State.omciSegment (q : Req) (l : Nat) (more : Bool) (data : List Byte) (s : State) : State :=
  let part := match s.host.omciSeg with
    | some x => if x.1 = l then x.2 else []
    | none => []
  let all := part ++ data
  let put (x : Option (Nat × List Byte)) (t : State) : State := { t with host := { t.host with omciSeg := x } }
  let kept := put (if part = [] then none else some (l, part)) s
  if (s.lane l).act ≠ .o5 then kept.reply 0x0D00 q (.ignored 6)
  else if 2048 < all.length then (put none s).reply 0x0D00 q .badArg
  else if more then (put (some (l, all)) s).reply 0x0D00 q .done
  else
    let e := s.offer (omciQueue l) (mkPacket (all ++ s.omciMic l true all) false 0)
    if e.2 = .queued then (put none e.1).reply 0x0D00 q .done
    else (put (if part = [] then none else some (l, part)) e.1).reply 0x0D00 q .noSpace

/-- OMCI_SEND (Table CB-9). -/
def omciBody (q : Req) (_s : State) : Verdict :=
  let p := q.payload
  let n := u16 p 2
  if p.length < 4 || p.length ≠ 4 + n || decide (3 < u8 p 0) || decide (1 < u8 p 1) || !within 1 1004 n then
    .no .badArg
  else .go (State.omciSegment q (u8 p 0) (u8 p 1 == 1) (p.drop 4))

/-! ### Events (R751, R752) -/

/-- The berth-relevant sources of a group (Table EV-6). -/
def berthSources (g : Nat) : W32 :=
  (List.range 32).foldl (fun w k =>
    let n := 32 * g + k
    if (416 ≤ n ∧ n ≤ 479) ∨ (512 ≤ n ∧ n ≤ 543) ∨ n = 263 ∨ (303 ≤ n ∧ n ≤ 305) then w ||| BitVec.twoPow 32 k
    else w) 0

/-- EVT_CONFIG on the node that it names. -/
def State.evtConfig (q : Req) (s : State) : State :=
  let p := q.payload
  let s1 := if bit (u8 p 2) 0 then
      s.setEvt (s.evt.putEnable (u8 p 1) (BitVec.ofNat 32 (u32 p 4))) true
    else s
  s1.reply 0x0E00 q .done

/-- The MSG mask of a mailbox for one group of a node. -/
def State.setMsg (q : Req) (s : State) : State :=
  let p := q.payload
  if bit (u8 p 2) 1 then
    s.modBox q.mbx.val (fun b =>
      { b with msgSel := Tab.set 0 b.msgSel (u8 p 0 * 32 + u8 p 1) (BitVec.ofNat 32 (u32 p 8)) })
  else s

/-- EVT_CONFIG (Table CB-10, R751, R772). The manager keeps a mailbox's MSG masks, and the worker named keeps
its own (R769). -/
def evtConfigBody (q : Req) (s : State) : Verdict :=
  let p := q.payload
  let berth := decide (q.mbx.val < 32)
  if berth && p.length == 16 && bit (u8 p 2) 0 then .no .denied
  else if p.length ≠ 16 || decide (15 < u8 p 0) || decide (19 < u8 p 1) || decide (3 < u8 p 2) || !zeroAt p 3 1
      || !zeroAt p 12 4 then .no .badArg
  else if berth && (BitVec.ofNat 32 (u32 p 8) &&& ~~~ berthSources (u8 p 1)) != 0 then .no .badArg
  else if u8 p 0 ≠ s.self && !(s.isManager && s.joined (u8 p 0)) then .no .fault
  else .go (fun t => (t.setMsg q).atNode 0x0E00 q (u8 p 0) (State.evtConfig q))

/-- A W1C write of EVT_STATUS (R761, R767). -/
def State.evtClear (g : Nat) (w : W32) (s : State) : State :=
  let st := Tab.modify 0 s.evt.status g (fun x => x &&& ~~~ w)
  s.setEvt { s.evt with status := st } true

/-- EVT_ACK (R752): a W1C write. -/
def evtAckBody (q : Req) (_s : State) : Verdict :=
  let p := q.payload
  if p.length ≠ 8 || decide (15 < u8 p 0) || decide (19 < u8 p 1) || !zeroAt p 2 2 then .no .badArg
  else .go (State.atNode 0x0E01 q (u8 p 0) (fun s =>
    (s.evtClear (u8 p 1) (BitVec.ofNat 32 (u32 p 4))).reply 0x0E01 q .done))

/-- EVT_FETCH. -/
def evtFetchBody (q : Req) (_s : State) : Verdict :=
  let p := q.payload
  if p.length ≠ 4 || decide (15 < u8 p 0) || !zeroAt p 1 3 then .no .badArg
  else .go (State.atNode 0x0E02 q (u8 p 0) (fun s =>
    s.answer 0x0E02 q .done (leBytes 8 s.tide.word
      ++ (List.range 20).flatMap (fun g => leBytes 4 (Tab.get 0 s.evt.status g).toNat))))

/-! ### Tide (R753, R754) -/

/-- Put a host alarm's setting; a target that is already passed fires at once, late (R57). -/
def State.setAlarm (k : Nat) (a : Alarm) (q : Req) (s : State) : State :=
  let s1 := (s.modAlarm k (fun _ => a)).reply 0x0F00 q .done
  if a.armed && decide (a.target ≤ s.tide.ticks) then s1.fireAlarm k true else s1

/-- TIDE_ALARM_SET (Table CB-11, R55, R753): host alarm n is comparator 48 + n. -/
def alarmBody (q : Req) (_s : State) : Verdict :=
  let p := q.payload
  let f := u8 p 1
  let w := u64 p 4
  if p.length ≠ 24 || decide (15 < u8 p 0) || decide (7 < f) || !zeroAt p 2 2 || !zeroAt p 20 4 || !tideOk w
      || decide (777599 < u32 p 16) || (u32 p 12 == 0 && u32 p 16 != 0) || f == 1 then .no .badArg
  else .go (State.setAlarm (48 + u8 p 0)
    { enable := bit f 0, event := bit f 1, snap := bit f 2, frame := w / 2 ^ 20, tick := w % 2 ^ 20
      perF := u32 p 12, perT := u32 p 16 } q)

/-- TIDE_PULSE_SET (R62, R753, R754): a pulse in progress keeps its fall unless the new setting holds it low. -/
def pulseBody (q : Req) (_s : State) : Verdict :=
  let p := q.payload
  let f := u8 p 0
  let w := u64 p 8
  if p.length ≠ 16 || decide (3 < f) || !zeroAt p 1 1 || !within 1 4000 (u16 p 2) || !zeroAt p 4 4 || !tideOk w
  then .no .badArg
  else .go (fun s =>
    let b := spanTicks (w / 2 ^ 20) (w % 2 ^ 20)
    ((s.setPulse (fun x => { x with enable := bit f 0, holdOff := bit f 1, width := u16 p 2, base := b
                                    next := nextPhase b pulsePeriod s.tide.ticks })).pulseHold).reply 0x0F01 q
      .done)

/-! ### The rows -/

def execDiagSelftest (q : Req) (s : State) : Host.Outcome State Fault Refusal :=
  .next (s.serve 0x0C00 q selftestBody)
def execDiagLoopback (q : Req) (s : State) : Host.Outcome State Fault Refusal :=
  .next (s.serve 0x0C01 q loopbackBody)
def execDiagPrbs (q : Req) (s : State) : Host.Outcome State Fault Refusal := .next (s.serve 0x0C02 q prbsBody)
def execDiagMaintenance (q : Req) (s : State) : Host.Outcome State Fault Refusal :=
  .next (s.serve 0x0C03 q maintBody)
def execOmciSend (q : Req) (s : State) : Host.Outcome State Fault Refusal := .next (s.serve 0x0D00 q omciBody)
def execEvtConfig (q : Req) (s : State) : Host.Outcome State Fault Refusal :=
  .next (s.serve 0x0E00 q evtConfigBody)
def execEvtAck (q : Req) (s : State) : Host.Outcome State Fault Refusal := .next (s.serve 0x0E01 q evtAckBody)
def execEvtFetch (q : Req) (s : State) : Host.Outcome State Fault Refusal :=
  .next (s.serve 0x0E02 q evtFetchBody)
def execTideAlarmSet (q : Req) (s : State) : Host.Outcome State Fault Refusal :=
  .next (s.serve 0x0F00 q alarmBody)
def execTidePulseSet (q : Req) (s : State) : Host.Outcome State Fault Refusal :=
  .next (s.serve 0x0F01 q pulseBody)

end Sys2Proof.Machine
end

