-- ==== Sys2Proof/Machine/Mailbox.lean ====
section
/-!
DEFINITION. The host's side of the mailboxes: doorbells, taking a request from a ring, what a request runs;
register and SPI accesses; the heartbeat.
-/

namespace Sys2Proof.Machine

/-! ### Running a request by its opcode (Tables CA-1 and CB-1) -/

/-- The body of an opcode that does not stage, none for an unknown one. -/
def bodyOf (opc : Nat) : Option (Req → State → Verdict) :=
  match opc with
  | 0x0001 => some helloBody
  | 0x0003 => some opAbortBody
  | 0x0100 => some identBody
  | 0x0101 => some statusBody
  | 0x0200 => some txnOpenBody
  | 0x0201 => some txnCommitBody
  | 0x0202 => some txnAbortBody
  | 0x0203 => some txnStatusBody
  | 0x0302 => some lineStatusBody
  | 0x0400 => some ringStatusBody
  | 0x0402 => some ringProtectBody
  | 0x0403 => some ringRenumberBody
  | 0x0404 => some nodeResetBody
  | 0x0501 => some portStatusBody
  | 0x0502 => some mdioBody
  | 0x0601 => some queueFlushBody
  | 0x0800 => some keyLoadBody
  | 0x0801 => some keyEraseBody
  | 0x0900 => some cntReadBody
  | 0x0901 => some cntSnapshotBody
  | 0x0A00 => some pwrStateBody
  | 0x0A01 => some lswBody
  | 0x0B00 => some fwBeginBody
  | 0x0B01 => some fwBlockBody
  | 0x0B02 => some fwEndBody
  | 0x0B03 => some fwActivateBody
  | 0x0B04 => some fwConfirmBody
  | 0x0B10 => some logbookBody
  | 0x0C00 => some selftestBody
  | 0x0C01 => some loopbackBody
  | 0x0C02 => some prbsBody
  | 0x0C03 => some maintBody
  | 0x0D00 => some omciBody
  | 0x0E00 => some evtConfigBody
  | 0x0E01 => some evtAckBody
  | 0x0E02 => some evtFetchBody
  | 0x0F00 => some alarmBody
  | 0x0F01 => some pulseBody
  | _ => none

/-- Run a request (R642: scope, then the opcode, then the arguments, then the state). -/
def State.runCommand (opc : Nat) (q : Req) (s : State) : State :=
  match formOf opc, bodyOf opc with
  | some f, _ => s.serve opc q (stageBody opc f.1 f.2)
  | none, some b => s.serve opc q b
  | none, none => (s.dropSeg opc q).reply opc q (if outOfScope opc q then .denied else .unsupported)

/-! ### Doorbells (R630, R632, R638) -/

/-- MBX_DB_REQ: REQ_PROD moves forward, at most 32 entries outstanding; the mailbox takes its place in the
order of doorbells. -/
def State.dbReq (m n : Nat) (s : State) : State :=
  let b := s.box m
  let old := (b.reqProd + 64 - b.reqCons) % 64
  let new := (n + 64 - b.reqCons) % 64
  if 33 ≤ m || !decide (old < new ∧ new ≤ 32) then s
  else
    let l := if s.host.order.contains m then s.host.order else s.host.order ++ [m]
    let s1 := s.modBox m (fun b => { b with reqProd := n })
    { s1 with host := { s1.host with order := l } }

/-- Post what waits for a mailbox, and raise MBX_REPLY if something was posted. -/
def State.deliver (m : Nat) (s : State) : State :=
  let r := s.host.flushBox m
  let s1 := { s with host := r.1, out := r.2 ++ s.out }
  let s2 := if (s1.box m).rplProd = (s.box m).rplProd then s1 else s1.raise 576 0 0
  if m = 32 then s2.flushOmci else s2

/-- MBX_DB_RPL: RPL_CONS moves forward, not past RPL_PROD; what waits is posted, and a stall ends with 16
entries free. -/
def State.dbRpl (m n : Nat) (s : State) : State :=
  let b := s.box m
  let d := (n + 64 - b.rplCons) % 64
  if 33 ≤ m || d = 0 || decide ((b.rplProd + 64 - b.rplCons) % 64 < d) then s
  else
    ((s.modBox m (fun b => { b with rplCons := n })).deliver m).modBox m (fun b =>
      { b with stalled := b.stalled && decide (b.free < 16) })

/-- MBX_DB_REQ_WRITE. -/
def execMbxDbReqWrite (m : MbxNo) (value : W32) (s : State) : Host.Outcome State Fault Refusal :=
  .next (if s.isManager then s.hostAccess (.write (0x400 + 16 * m.val) value 15) (State.dbReq m.val (value.toNat % 64))
    else s)

/-- MBX_DB_RPL_WRITE. -/
def execMbxDbRplWrite (m : MbxNo) (value : W32) (s : State) : Host.Outcome State Fault Refusal :=
  .next (if s.isManager then s.hostAccess (.write (0x404 + 16 * m.val) value 15) (State.dbRpl m.val (value.toNat % 64))
    else s)

/-! ### Taking a request (R631 to R638, R710) -/

/-- `n` bytes of a request ring from a byte offset, wrapping. -/
def ringRead (base : Nat) (w : Tab Byte) (o n : Nat) : List Byte :=
  (List.range n).map (fun i => Tab.get 0 w (base + (o + i) % 2048))

/-- Zero every byte of `n` ring entries from entry `e` (R710). -/
def ringZero (base e n : Nat) (w : Tab Byte) : Tab Byte :=
  (List.range (64 * n)).foldl (fun t i => Tab.set 0 t (base + (64 * e + i) % 2048) 0) w

/-- Ignore a request without reply (R636). -/
def State.dropReq (m : Nat) (s : State) : State :=
  ((s.modBox m (fun b => { b with dropped := min 255 (b.dropped + 1) })).inc (0x600 + 8 * m + 3)).raiseWin 8000
    577 0 0 m

/-- A retransmission is answered from the cache (R635). -/
def State.resend (m : Nat) (msg : Msg) (s : State) : State :=
  ((s.modBox m (fun b => { b with completions := b.completions ++ [msg], retrans := b.retrans + 1 })).inc
    (0x600 + 8 * m + 2)).deliver m

/-- A request with a good CRC runs, is answered from the cache or is dropped (R634 to R636). -/
def State.receive (m opc : Nat) (q : Req) (crc : W32) (s : State) : State :=
  let b := s.box m
  match b.cached with
  | some msg =>
    if b.lastReq = some (q.seq.toNat, crc) then s.resend m msg
    else if (opc = 1 ∧ q.seq = 0) ∨ (b.session ∧ q.seq.toNat = b.expSeq) then s.runCommand opc q
    else s.dropReq m
  | none =>
    if (opc = 1 ∧ q.seq = 0) ∨ (b.session ∧ q.seq.toNat = b.expSeq) then s.runCommand opc q else s.dropReq m

/-- Take the request at REQ_CONS of mailbox `m`. -/
def State.takeReq (m : Nat) (s : State) : State :=
  let b := s.box m
  let base := winBase m
  let o := b.reqCons % 32 * 64
  let h := ringRead base s.host.win o 16
  let len := u16 h 4
  let have_ := (b.reqProd + 64 - b.reqCons) % 64
  if 1008 < len || decide (have_ < entries len) then
    (s.modBox m (fun b => { b with reqCons := b.reqProd })).dropReq m
  else
    let bytes := ringRead base s.host.win o (16 + len)
    let crc := BitVec.ofNat 32 (u32 h 12)
    let q : Req := { mbx := Fin.ofNat 34 m, flags := BitVec.ofNat 8 (u8 h 7), berth := BitVec.ofNat 8 (u8 h 6)
                     seq := BitVec.ofNat 16 (u16 h 0), tag := BitVec.ofNat 32 (u32 h 8), payload := bytes.drop 16 }
    let s1 := s.modBox m (fun b => { b with reqCons := (b.reqCons + entries len) % 64 })
    let s2 := if u16 h 2 = 0x0800 then
        { s1 with host := { s1.host with win := ringZero base (b.reqCons % 32) (entries len) s1.host.win } }
      else s1
    if crc32c (h.take 12 ++ bytes.drop 16) = crc then s2.receive m (u16 h 2) q crc else s2.dropReq m

/-- Whether the request at REQ_CONS is the one that still executes (Table HM-9). -/
def State.isRunning (m : Nat) (s : State) : Bool :=
  let b := s.box m
  let h := ringRead (winBase m) s.host.win (b.reqCons % 32 * 64) 16
  b.waiting.any (fun w => w.req.seq.toNat == u16 h 0 && (reqCrc w.opc w.req).toNat == u32 h 12)

/-- A mailbox's turn ends: out of the order, or at its back when it still holds requests (R632). -/
def State.turnEnd (m : Nat) (s : State) : State :=
  let l := s.host.order.filter (fun x => x != m)
  let l2 := if (s.box m).reqProd = (s.box m).reqCons then l else l ++ [m]
  { s with host := { s.host with order := l2 } }

/-- One turn: the first mailbox of the order that can be served. One whose request still executes waits (a
retransmission of it is dropped); one without room for a reply stalls (R638). -/
def State.turn : List Nat → State → State
  | [], s => s
  | m :: t, s =>
    let b := s.box m
    if b.reqProd = b.reqCons then s.turnEnd m
    else if b.waiting.isSome then
      (if s.isRunning m then
        ((s.modBox m (fun b => { b with reqCons := (b.reqCons + entries (u16 (ringRead (winBase m) s.host.win
          (b.reqCons % 32 * 64) 16) 4)) % 64 })).dropReq m).turnEnd m
       else State.turn t s)
    else if b.free < 16 then
      State.turn t (if b.stalled then s else (s.modBox m (fun b => { b with stalled := true })).raise 580 0 m)
    else ((s.modBox m (fun b => { b with stalled := false })).takeReq m).turnEnd m

/-- Whether Itvekor serves the mailboxes (R656, R872, R793). -/
def State.serving (s : State) : Bool :=
  s.host.mbxReady && (s.start.fwState == 2 || s.start.fwState == 4)
  && s.power.state != .moored && s.power.state != .beached

/-- MAILBOX_REQUEST (R632): one request. -/
def execMailboxRequest (s : State) : Host.Outcome State Fault Refusal :=
  .next (if s.serving then s.turn s.host.order else s)

/-- TXN_IDLE_TIMEOUT (R648). -/
def execTxnIdleTimeout (m : MbxNo) (s : State) : Host.Outcome State Fault Refusal := .next (s.abortTxn m.val)

/-! ### Registers (R4, R618 to R625, R763 to R767) -/

/-- EVT_STATUS_WRITE. -/
def execEvtStatusWrite (g : Fin 20) (value : W32) (s : State) : Host.Outcome State Fault Refusal :=
  .next (if s.isManager then s.hostAccess (.write (0x1000 + 4 * g.val) value 15) (State.evtClear g.val value) else s)

/-- A write of EVT_ENABLE, EVT_ROUTE or EVT_NODE_ROUTE (Table EV-3, R767): reserved bits stay zero. -/
def State.evtRoute (a : Nat) (w : W32) (s : State) : State :=
  if a % 4 ≠ 0 then s
  else if 0x1080 ≤ a ∧ a < 0x10D0 then
    s.setEvt (s.evt.putEnable ((a - 0x1080) / 4) w) true
  else if 0x1100 ≤ a ∧ a < 0x1150 then
    s.setEvt { s.evt with route := Tab.set 0 s.evt.route ((a - 0x1100) / 4) (w &&& 7) } true
  else if a = 0x1160 then s.setEvt { s.evt with nodeRoute := w &&& 0x107 } true
  else s

/-- EVT_ENABLE_WRITE. -/
def execEvtEnableWrite (addr : Nat) (value : W32) (s : State) : Host.Outcome State Fault Refusal :=
  .next (if s.isManager then s.hostAccess (.write addr value 15) (State.evtRoute addr value) else s)

/-- An MSI-X vector is unmasked: its pending message is sent (R767). -/
def State.unmask (v : Nat) (s : State) : State :=
  let h := s.host
  let s1 := { s with host := { h with msixMask := putBit h.msixMask v false, msixPend := putBit h.msixPend v false } }
  if bit h.msixPend v && bit h.msixMask v && h.pcieUp then s1.emit (.msix v) else s1

/-- VECTOR_UNMASK. -/
def execVectorUnmask (v : Fin 8) (s : State) : Host.Outcome State Fault Refusal :=
  .next (if s.isManager then s.hostAccess (.write (0x300C + 16 * v.val) 0 15) (State.unmask v.val) else s)

/-- A write of a word of the MSI-X table: bit 0 of a vector's fourth word masks it. -/
def State.msixWrite (a : Nat) (w : W32) (s : State) : State :=
  let v := (a - 0x3000) / 16
  if a % 16 = 12 then
    (if w.getLsbD 0 then { s with host := { s.host with msixMask := putBit s.host.msixMask v true } }
     else s.unmask v)
  else { s with host := { s.host with msixTab := Tab.set 0 s.host.msixTab ((a - 0x3000) / 4) w } }

/-- A write of a 32-bit register by its access code (R4); what is read-only, reserved or not named drops
it. -/
def State.regWrite (a : Nat) (w : W32) (s : State) : State :=
  if a % 4 ≠ 0 then s
  else if a = 0x300 then
    { s with pool := { s.pool with
        cellBrk := s.pool.cellBrk && !w.getLsbD 0, creditBrk := s.pool.creditBrk && !w.getLsbD 1
        tokenBrk := s.pool.tokenBrk && !w.getLsbD 2, grantBrk := s.pool.grantBrk && !w.getLsbD 3 } }
  else if 0x400 ≤ a ∧ a < 0x610 then
    (if a % 16 = 0 then s.dbReq ((a - 0x400) / 16) (w.toNat % 64)
     else if a % 16 = 4 then s.dbRpl ((a - 0x400) / 16) (w.toNat % 64) else s)
  else if 0x1000 ≤ a ∧ a < 0x1050 then s.evtClear ((a - 0x1000) / 4) w
  else if a = 0x1154 then { s with evt := { s.evt with qthOvf := s.evt.qthOvf && !w.getLsbD 16 } }
  else if a = 0x115C then { s with evt := { s.evt with cntOvf := s.evt.cntOvf && !w.getLsbD 16 } }
  else if 0x1080 ≤ a ∧ a ≤ 0x1160 then s.evtRoute a w
  else if 0x3000 ≤ a ∧ a < 0x3080 then s.msixWrite a w
  else s

/-- A write into the mailbox windows, byte by byte under its enables; that of the craft mailbox drops it
(R618, R626). -/
def State.winWrite (a : Nat) (w : W32) (be : BitVec 4) (s : State) : State :=
  let o := a - 0x10000
  let win := (List.range 4).foldl (fun t i =>
    if be.getLsbD i && decide ((o + i) / 4096 < 33) then Tab.set 0 t (o + i) ((w >>> (8 * i)).setWidth 8) else t)
    s.host.win
  { s with host := { s.host with win := win } }

/-- One write of the host map: a register takes whole words only (R618). -/
def State.hostWrite (a : Nat) (w : W32) (be : BitVec 4) (s : State) : State :=
  if 0x10000 ≤ a then s.winWrite a w be else if be = 15 then s.regWrite a w else s

/-- REGISTER_WRITE. -/
def execRegisterWrite (addr : Nat) (value : W32) (byteEnables : BitVec 4) (s : State) :
    Host.Outcome State Fault Refusal :=
  .next (if s.isManager then s.hostAccess (.write addr value byteEnables) (State.hostWrite addr value byteEnables)
    else s)

/-- One read of the host map with what it does beside (Table SC-2). -/
def State.hostRead (a : Nat) (s : State) : State :=
  if a = 0x200 then s.readTideLo
  else if a = 0x1150 then s.readQthFifo
  else if a = 0x1158 then s.readCntFifo
  else s.emit (.read a (BitVec.ofNat 32 (s.reg a)))

/-- The address of word `i` of an SPI transfer: it wraps in its 4 KiB block (R621). -/
def spiAddr (a i : Nat) : Nat := a / 4096 * 4096 + (a + 4 * i) % 4096

/-- The words of an SPI write (R620 to R622): a last word that CS_N cuts short is dropped. -/
def State.spiWords (addr : Nat) (words : List W32) (cutShort : Bool) (s : State) : State :=
  let l := if cutShort then words.dropLast else words
  l.zipIdx.foldl (fun t x => if spiAddr addr x.2 < 0x40000 then t.hostWrite (spiAddr addr x.2) x.1 15 else t) s

/-- The words of an SPI read (R620 to R622). -/
def State.spiReads (addr words : Nat) (s : State) : State :=
  (List.range words).foldl (fun t i => t.hostRead (spiAddr addr i)) s

/-- SPI_WRITE (R111, R620 to R622). -/
def execSpiWrite (addr : Nat) (words : List W32) (cutShort : Bool) (s : State) :
    Host.Outcome State Fault Refusal :=
  .next (
    if s.isManager then s.hostAccess (.spiWrite addr words cutShort) (State.spiWords addr words cutShort) else s)

/-- SPI_READ (R111, R620 to R622). -/
def execSpiRead (addr : Nat) (words : Nat) (s : State) : Host.Outcome State Fault Refusal :=
  .next (if s.isManager then s.hostAccess (.spiRead addr words) (State.spiReads addr words) else s)

/-! ### The end of a clock hold (R110, R111) -/

/-- A host access that waited completes. -/
def State.complete_ (s : State) (a : HostAccess) : State :=
  match a with
  | .write addr value be => s.hostWrite addr value be
  | .spiWrite addr words cutShort => s.spiWords addr words cutShort
  | .spiRead addr words => s.spiReads addr words
  | .read addr => s.hostRead addr

/-- The hold of the root is released: CP returns to root/24, CLK_HOLD is raised, the host accesses that waited
complete in their order. -/
def State.rootRelease (s : State) : State :=
  let s1 := ((s.setClk (fun c => { c.cpTo false with rootHold := false, waiting := [] })).syncTxs).raise 59 0 0
  s.clk.waiting.foldl State.complete_ s1

/-- CLOCK_HOLD_RELEASE (R108, R110, R111): of the root, or of a lane's byte clock, which CLK_HOLD then names
(DESIGN CHOICE, log 56: Table CK-8 names no object). -/
def execClockHoldRelease (lane : Option Lane) (s : State) : Host.Outcome State Fault Refusal :=
  .next (
    match lane with
    | none => if s.clk.rootHold && s.clk.rootLock then s.rootRelease else s
    | some l =>
      if bit s.clk.laneHold l.val then
        (s.setClk (fun c => { c with laneHold := putBit c.laneHold l.val false })).raise 59 (s.obj 0xE l.val) 0
      else s)

/-- HEARTBEAT (R625, Table HM-3): while Itvekor runs. -/
def execHeartbeat (s : State) : Host.Outcome State Fault Refusal :=
  .next (
    if s.start.fwState = 2 || s.start.fwState = 4 then
      { s with host := { s.host with heartbeat := s.host.heartbeat + 1 } }
    else s)

end Sys2Proof.Machine
end

