-- ==== Sys2Proof/Machine/Shell.lean ====
section
/-!
DEFINITION. The craft shell's reading of a line: words, numbers, and the payload of a command from its
field=value pairs.
-/

namespace Sys2Proof.Machine

/-! ### Words and numbers (R756) -/

/-- Split at a character, without empty words. -/
def splitAt (c : Char) : List Char → List Char → List (List Char)
  | w, [] => if w.isEmpty then [] else [w.reverse]
  | w, x :: t =>
    if x = c then (if w.isEmpty then splitAt c [] t else w.reverse :: splitAt c [] t) else splitAt c (x :: w) t

/-- The value of a digit in a base up to 16, none for another character. -/
def digitOf (base : Nat) (c : Char) : Option Nat :=
  let n := c.toNat
  let v := if 48 ≤ n ∧ n ≤ 57 then n - 48
    else if 97 ≤ n ∧ n ≤ 102 then n - 87
    else if 65 ≤ n ∧ n ≤ 70 then n - 55 else 99
  if v < base then some v else none

/-- The number that digits spell. -/
def numOf (base : Nat) (l : List Char) : Option Nat :=
  if l.isEmpty then none
  else l.foldl (fun a c => match a, digitOf base c with
    | some n, some d => some (n * base + d)
    | _, _ => none) (some 0)

/-- The digits of a hexadecimal value after 0x. -/
def hexPart : List Char → Option (List Char)
  | '0' :: 'x' :: t => some t
  | _ => none

/-- A value: decimal, or 0x hexadecimal. -/
def valueOf (l : List Char) : Option Nat :=
  match hexPart l with
  | some t => numOf 16 t
  | none => numOf 10 l

/-- Bytes from pairs of hexadecimal digits. -/
def hexBytes : List Char → Option (List Byte)
  | [] => some []
  | [_] => none
  | a :: b :: t =>
    match digitOf 16 a, digitOf 16 b, hexBytes t with
    | some x, some y, some r => some (BitVec.ofNat 8 (16 * x + y) :: r)
    | _, _, _ => none

/-- A pair field=value. -/
def pairOf (w : List Char) : Option (List Char × List Char) :=
  match splitAt '=' [] w with
  | [a, b] => some (a, b)
  | _ => none

/-! ### Payload tables -/

/-- A field of a payload table: name, size in bytes, and whether its first octet comes first (keys, MAC
addresses). A reserved field has no name. -/
structure Field where
  name : String
  size : Nat
  be   : Bool := false
  deriving DecidableEq, Repr

/-- A payload table: its fixed fields, the fields that repeat, and the name of a final field of any length. -/
structure Layout where
  opc   : Nat
  fixed : List Field
  group : List Field := []
  tail  : Option String := none
  deriving DecidableEq, Repr

/-- A named field, a reserved one, one whose first octet comes first. -/
def fN (n : String) (k : Nat) : Field := { name := n, size := k }
def fR (k : Nat) : Field := { name := "", size := k }
def fB (n : String) (k : Nat) : Field := { name := n, size := k, be := true }

/-- The session, status and ring commands. -/
def layoutsA : List (String × Layout) :=
  [("mbx_hello", { opc := 0x0001, fixed := [fN "host_ver" 4] }),
   ("op_abort", { opc := 0x0003, fixed := [fN "op_seq" 2, fR 2] }),
   ("ident_get", { opc := 0x0100, fixed := [fN "node" 1, fR 3] }),
   ("status_get", { opc := 0x0101, fixed := [fN "node" 1, fN "section" 1, fR 2] }),
   ("berth_set", { opc := 0x0110, fixed := [fN "berth" 1, fN "op" 1, fN "count" 2, fN "quota" 4]
                   group := [fN "object" 4] }),
   ("txn_open", { opc := 0x0200, fixed := [] }),
   ("txn_commit", { opc := 0x0201, fixed := [] }),
   ("txn_abort", { opc := 0x0202, fixed := [] }),
   ("txn_status", { opc := 0x0203, fixed := [fN "section" 1, fR 1, fN "start" 2] }),
   ("line_mode_set", { opc := 0x0300, fixed := [fN "mode" 1, fN "rate" 1, fN "lane_en" 1, fN "ngroups" 1,
       fN "ctrl_port0" 2, fN "ctrl_port1" 2, fN "ctrl_port2" 2, fN "ctrl_port3" 2]
                       group := [fN "grp" 1, fN "members" 1, fN "index" 1, fR 1, fN "window" 2,
       fN "reorder_max" 2] }),
   ("line_lane_set", { opc := 0x0301, fixed := [fN "lane" 1, fN "flags" 1, fN "rate" 1, fN "sd_thr" 1,
       fN "sf_thr" 2, fN "ben_lead" 1, fN "ben_lag" 1, fN "to1" 4, fN "to2" 2, fR 2, fB "reg_id" 36] }),
   ("line_status_get", { opc := 0x0302, fixed := [fN "lane" 1, fN "section" 1, fR 2] }),
   ("ring_status_get", { opc := 0x0400, fixed := [fN "node" 1, fR 3] }),
   ("ring_set", { opc := 0x0401, fixed := [fN "wtr_min" 1, fR 1, fN "ring_sd_thr" 2] }),
   ("ring_protect_cmd", { opc := 0x0402, fixed := [fN "node" 1, fN "side" 1, fN "cmd" 1, fR 1] }),
   ("ring_renumber", { opc := 0x0403, fixed := [fN "confirm" 4] }),
   ("node_reset", { opc := 0x0404, fixed := [fN "node" 1, fR 3] })]

/-- The commands of ports, queues and scheduling. -/
def layoutsB : List (String × Layout) :=
  [("port_set", { opc := 0x0500, fixed := [fN "object" 4, fN "mode" 1, fN "port_rate" 1, fN "flags" 1,
       fN "phy_addr" 1, fN "max_len" 2, fN "link_down_hold" 1, fR 1, fN "pause_quanta" 2, fN "pause_hyst" 2,
       fB "pause_sa" 6, fR 2] }),
   ("port_status_get", { opc := 0x0501, fixed := [fN "object" 4] }),
   ("mdio_access", { opc := 0x0502, fixed := [fN "node" 1, fN "op" 1, fN "prtad" 1, fN "devad" 1,
       fN "regaddr" 2, fN "data" 2] }),
   ("queue_set", { opc := 0x0600, fixed := [fN "object" 4, fN "qthr" 4, fN "ct_bytes" 2, fN "gate_max_len" 2,
       fN "quantum" 2, fN "shed_pri" 1, fR 1, fN "drr_burst" 4, fN "ring_cir" 8] }),
   ("queue_flush", { opc := 0x0601, fixed := [fN "object" 4] }),
   ("sched_set", { opc := 0x0602, fixed := [fN "object" 4, fN "nstrict" 1, fN "ovh" 1, fN "q_enable" 2] }),
   ("shaper_set", { opc := 0x0603, fixed := [fN "object" 4, fN "size_a" 4, fN "rate_a" 8, fN "rate_b" 8,
       fN "size_b" 4, fR 4] }),
   ("gate_list_set", { opc := 0x0604, fixed := [fN "object" 4, fN "base_time" 8, fN "gate_en" 1, fN "count" 1,
       fR 2]
                       group := [fN "interval" 4, fN "gate_state" 1, fR 3] }),
   ("policer_set", { opc := 0x0605, fixed := [fN "object" 4, fN "flags" 1, fN "ovh" 1, fR 2, fN "cir" 8,
       fN "pir" 8, fN "cbs" 4, fN "pbs" 4] })]

/-- The classifier, line mapping, pool and E1 commands. -/
def layoutsC : List (String × Layout) :=
  [("classifier_set", { opc := 0x0606, fixed := [fN "object" 4, fN "valid" 1, fN "s_mode" 1, fN "c_mode" 1,
       fN "precolour" 1, fN "ports" 2, fN "s_vid" 2, fN "s_mask" 2, fN "c_vid" 2, fN "c_mask" 2, fN "pcp" 1,
       fN "pcp_mask" 1, fN "etype" 2, fN "etype_mask" 2, fN "dscp" 1, fN "dscp_mask" 1, fN "policer" 2,
       fN "queue" 2, fN "ring_class" 1, fN "tag_op" 1, fN "tag_vid" 2, fN "tag_pcp" 1, fR 1] }),
   ("alloc_map_set", { opc := 0x0607, fixed := [fN "object" 4, fN "alloc_id" 2, fN "lane" 1, fN "alloc_rate" 1,
       fN "runahead" 1, fR 1, fN "gw" 2, fN "gi" 2, fR 2] }),
   ("xgem_map_set", { opc := 0x0608, fixed := [fN "object" 4, fN "flags" 1, fN "lane" 1, fN "grp" 1,
       fN "key_slot" 1, fN "dest_node" 1, fN "dest_kind" 1, fN "dest_index" 2, fN "class" 1, fN "ring_class" 1,
       fN "policer" 2, fN "tag_op" 1, fN "tag_pcp" 1, fN "tag_vid" 2, fN "us_queue" 2, fR 2] }),
   ("mcast_set", { opc := 0x0609, fixed := [fN "object" 4, fN "count" 1, fN "ring_class" 1, fN "node_mask" 2]
                   group := [fN "port" 1, fN "class" 1] }),
   ("pool_reserve_set", { opc := 0x060A, fixed := [fN "node" 1, fR 3, fN "min_down" 4, fN "min_up" 4,
       fN "min_ring" 4, fN "min_cp" 4] }),
   ("e1_set", { opc := 0x0700, fixed := [fN "object" 4, fN "flags" 1, fN "crc4_mode" 1, fR 2] }),
   ("ces_set", { opc := 0x0701, fixed := [fN "object" 4, fN "flags" 1, fN "pkt_frames" 1, fN "shed_pri" 1, fR 1,
       fN "ts_mask" 4, fB "da" 6, fB "sa" 6, fN "tag_tci" 2, fN "up_queue" 2, fN "tx_label" 4, fN "rx_label" 4,
       fN "jb_depth" 2, fN "lops_set" 1, fN "lops_clr" 1, fN "ces_deadline" 2, fR 2] })]

/-- The commands of keys, counters, power and firmware. -/
def layoutsD : List (String × Layout) :=
  [("key_load", { opc := 0x0800, fixed := [fN "object" 4, fN "bank" 1, fR 3, fB "key" 16] }),
   ("key_erase", { opc := 0x0801, fixed := [fN "object" 4, fN "bank" 1, fR 3] }),
   ("cnt_read", { opc := 0x0900, fixed := [fN "object" 4, fN "count" 2, fR 2] }),
   ("cnt_snapshot", { opc := 0x0901, fixed := [fN "object" 4, fN "count" 2, fN "flags" 1, fR 1] }),
   ("pwr_state_set", { opc := 0x0A00, fixed := [fN "node" 1, fN "state" 1, fN "drain_ms" 2, fN "wake" 1, fR 3,
       fN "wake_timer_s" 4] }),
   ("lsw_set", { opc := 0x0A01, fixed := [fN "node" 1, fN "switch" 1, fN "action" 1, fN "pg_window_ms" 1,
       fR 4] }),
   ("cistern_set", { opc := 0x0A02, fixed := [fN "node" 1, fN "flags" 1, fN "vin_div" 2, fN "vin_fail_mv" 2,
       fN "vin_ok_mv" 2, fN "vstore_min_mv" 2, fN "vstore_max_mv" 2, fN "dvdt" 1, fN "chg_iset" 1,
       fN "store_div" 2] }),
   ("fw_write_begin", { opc := 0x0B00, fixed := [fN "size" 4, fN "version" 4, fR 4] }),
   ("fw_write_block", { opc := 0x0B01, fixed := [fN "op_seq" 2, fR 2, fN "offset" 4], tail := some "data" }),
   ("fw_write_end", { opc := 0x0B02, fixed := [fN "op_seq" 2, fR 2] }),
   ("fw_activate", { opc := 0x0B03, fixed := [fN "confirm_min" 1, fR 3] }),
   ("fw_confirm", { opc := 0x0B04, fixed := [] }),
   ("logbook_read", { opc := 0x0B10, fixed := [fN "node" 1, fR 1, fN "count" 2, fN "start" 4] })]

/-- The commands of diagnostics, OMCI, events and Tide. -/
def layoutsE : List (String × Layout) :=
  [("diag_selftest", { opc := 0x0C00, fixed := [fN "node" 1, fN "scope" 1, fR 2] }),
   ("diag_loopback", { opc := 0x0C01, fixed := [fN "object" 4, fN "mode" 1, fR 1, fN "duration_s" 2] }),
   ("diag_prbs", { opc := 0x0C02, fixed := [fN "object" 4, fN "pattern" 1, fN "dir" 1, fR 2,
       fN "duration_ms" 4] }),
   ("diag_maintenance", { opc := 0x0C03, fixed := [fN "node" 1, fN "action" 1, fR 2] }),
   ("omci_send", { opc := 0x0D00, fixed := [fN "lane" 1, fN "flags" 1, fN "seg_len" 2], tail := some "data" }),
   ("evt_config", { opc := 0x0E00, fixed := [fN "node" 1, fN "group" 1, fN "flags" 1, fR 1, fN "enable" 4,
       fN "msg" 4, fR 4] }),
   ("evt_ack", { opc := 0x0E01, fixed := [fN "node" 1, fN "group" 1, fR 2, fN "mask" 4] }),
   ("evt_fetch", { opc := 0x0E02, fixed := [fN "node" 1, fR 3] }),
   ("tide_alarm_set", { opc := 0x0F00, fixed := [fN "alarm" 1, fN "flags" 1, fR 2, fN "target" 8,
       fN "period_frames" 4, fN "period_ticks" 4, fR 4] }),
   ("tide_pulse_set", { opc := 0x0F01, fixed := [fN "flags" 1, fR 1, fN "width" 2, fR 4, fN "base" 8] }),
   ("tide_set", { opc := 0x0F02, fixed := [fN "slew_ppm" 1, fR 3, fN "hold_limit_s" 4] })]

/-- Every command name of the shell. -/
def layouts : List (String × Layout) := layoutsA ++ layoutsB ++ layoutsC ++ layoutsD ++ layoutsE

/-! ### From pairs to a payload -/

/-- A field's bytes from a value that fits it. -/
def Field.put (f : Field) (v : Nat) : Option (List Byte) :=
  if v < 256 ^ f.size then some (if f.be then beBytes f.size v else leBytes f.size v) else none

/-- Fill fields in order from pairs in the same order; a field that no pair names is zero. The bytes and the
pairs left. -/
def fill : List Field → List (List Char × List Char) → Option (List Byte × List (List Char × List Char))
  | [], ps => some ([], ps)
  | f :: t, ps =>
    match ps with
    | (n, v) :: r =>
      if n = f.name.toList then
        match valueOf v with
        | some x =>
          match f.put x, fill t r with
          | some b, some y => some (b ++ y.1, y.2)
          | _, _ => none
        | none => none
      else (fill t ps).map (fun y => (List.replicate f.size 0 ++ y.1, y.2))
    | [] => (fill t []).map (fun y => (List.replicate f.size 0 ++ y.1, y.2))

/-- Fill a group of fields again and again; `fuel` bounds the groups. -/
def fillGroups (g : List Field) : Nat → List (List Char × List Char) → Option (List Byte)
  | 0, ps => if ps.isEmpty then some [] else none
  | k + 1, ps =>
    if ps.isEmpty then some []
    else
      match fill g ps with
      | some (b, r) => if r.length < ps.length then (fillGroups g k r).map (fun x => b ++ x) else none
      | none => none

/-- The payload that pairs give under a table. -/
def Layout.payload (l : Layout) (ps : List (List Char × List Char)) : Option (List Byte) :=
  match fill l.fixed ps with
  | none => none
  | some (b, r) =>
    match l.tail with
    | some n =>
      (match r with
       | [] => some b
       | [(m, v)] =>
         if m = n.toList then ((hexPart v).bind hexBytes).map (fun x => b ++ x) else none
       | _ => none)
    | none => (fillGroups l.group r.length r).map (fun x => b ++ x)

/-- Every word as a pair. -/
def pairsOf : List (List Char) → Option (List (List Char × List Char))
  | [] => some []
  | w :: t =>
    match pairOf w, pairsOf t with
    | some p, some r => some (p :: r)
    | _, _ => none

/-- The opcode and payload of a line that names a command or sends one raw (R756, R757), none where the shell
cannot parse it. -/
def parseCommand (ws : List (List Char)) : Option (Nat × List Byte) :=
  match ws with
  | [] => none
  | w :: t =>
    if w = "raw".toList then
      match t with
      | [o] => (valueOf o).bind (fun n => if n < 65536 then some (n, []) else none)
      | [o, h] =>
        match valueOf o, hexBytes h with
        | some n, some b => if n < 65536 ∧ b.length ≤ 1008 then some (n, b) else none
        | _, _ => none
      | _ => none
    else
      match layouts.find? (fun l => l.1.toList == w), pairsOf t with
      | some l, some ps =>
        (l.2.payload ps).bind (fun b => if b.length ≤ 1008 then some (l.2.opc, b) else none)
      | _, _ => none

end Sys2Proof.Machine
end

