-- ==== Sys2Proof/Machine/Craft.lean ====
section
/-!
DEFINITION. The craft port and the peripherals: logbook and flash, the UART and its shell, the I2C masters, the
GPIO pins.
-/

namespace Sys2Proof.Machine

/-! ### Logbook and flash (R884, R885, R919) -/

/-- LOGBOOK_FLUSH (R884). -/
def execLogbookFlush (s : State) : Host.Outcome State Fault Refusal :=
  .next (if s.start.hasFlash then s.flushLog false else s)

/-- A worker's record enters the manager's logbook, with NODE the worker and the worker's version (R885). -/
def State.relayLog (n kind : Nat) (data : List Byte) (s : State) : State :=
  let r (k : Nat) : LogRecord :=
    { no := k, tide := s.tide.word, kind := kind, node := n, vin := false
      unanch := decide (s.tide.state = .unanchored), fw := (s.node n).version, data := data.take 40 }
  let l := s.log.add s.start.hasFlash s.cipher r s.tide.frame
  { s with log := l.1, out := l.2 ++ s.out }

/-- LOGBOOK_RELAY. -/
def execLogbookRelay (n : NodeNo) (kind : Nat) (data : List Byte) (s : State) :
    Host.Outcome State Fault Refusal :=
  .next (if s.isManager && s.joined n.val then s.relayLog n.val kind data else s)

/-- What a page that has failed twice leaves: the copy that was being written, the one in use since, does not pass its
check any more (log 29). -/
def Start.spoil (r : FlashRegion) (k : Start) : Start :=
  match r with
  | .bootHeader =>
    (match k.headerUsed with
     | some true => { k with header1 := [] }
     | some false => { k with header0 := [] }
     | none => k)
  | .store =>
    (match k.storeUsed with
     | some true => { k with store1 := { k.store1 with good := false } }
     | some false => { k with store0 := { k.store0 with good := false } }
     | none => k)
  | _ => k

/-- FLASH_PROGRAM (R919): a page that fails twice is a flash error. -/
def execFlashProgram (r : FlashRegion) (firstOk secondOk : Bool) (s : State) :
    Host.Outcome State Fault Refusal :=
  .next (
    if !s.start.hasFlash || firstOk || secondOk then s
    else (s.setStart (Start.spoil r)).raise (if r = .logbook then 106 else 626) 0 0)

/-! ### The UART (R901 to R905, R908) -/

def State.setCraft (f : Craft → Craft) (s : State) : State := { s with craft := f s.craft }

/-- Whether Itvekor runs. -/
def State.cpRuns (s : State) : Bool :=
  (s.start.fwState == 2 || s.start.fwState == 4) && s.power.state != .moored && s.power.state != .beached

/-- A received character is discarded (R903): counter `k` of the device block. -/
def State.uartDrop (k : Nat) (s : State) : State :=
  ((s.setCraft (fun c => { c with drop := true })).inc (0x5C0 + k)).raiseWin 8000 624 0 0 0

/-- Whether the UART's clock runs (R106, R108). -/
def State.uartOn (s : State) : Bool := s.clocked 27 && !s.clk.rootHold

/-- UART_CHARACTER (R903): while the UART is clocked. -/
def execUartCharacter (c : Byte) (err : CharError) (s : State) : Host.Outcome State Fault Refusal :=
  .next (
    if !s.uartOn then s
    else
      match err with
      | .framing => s.uartDrop 11
      | .parity => s.uartDrop 12
      | .none =>
        if s.craft.uart.fifo ≤ s.craft.rx.length then s.uartDrop 10
        else s.setCraft (fun x => { x with rx := x.rx ++ [c] }))

/-- The request of the shell (R758): SEQ is the one that mailbox 33 expects. -/
def shellReq (seq : Nat) (p : List Byte) : Req :=
  { mbx := 33, flags := 0, berth := 0xFF, seq := BitVec.ofNat 16 seq, tag := 0, payload := p }

/-- A request of the shell: without a session only MBX_HELLO is taken (R634). -/
def State.shellSend (opc : Nat) (p : List Byte) (s : State) : State :=
  if (s.box 33).session then s.runCommand opc (shellReq (s.box 33).expSeq p) else s.dropReq 33

/-- A BREAK sends MBX_HELLO (R758). -/
def State.shellHello (s : State) : State :=
  let s1 := s.setCraft (fun c => { c with broke := true })
  if s.cpRuns then s1.runCommand 0x0001 (shellReq 0 (leBytes 4 0)) else s1

/-- LONG_BREAK (R905): the defaults until the next cold start; a trial ends (Table CF-3). -/
def execLongBreak (s : State) : Host.Outcome State Fault Refusal :=
  .next (
    if s.uartOn then (s.setCraft (fun c => { c with uart := {}, trial := none, line := [], drop := false })).shellHello
    else s)

/-- SHORT_BREAK (R758, R905). -/
def execShortBreak (s : State) : Host.Outcome State Fault Refusal :=
  .next (if s.uartOn then s.shellHello else s)

/-- The settings of the UART or of a pin go into the configuration store (R908), where there is one. -/
def State.storeCraft (f : Craft → Craft) (s : State) : State :=
  if s.start.hasFlash then (s.setCraft f).putStore (s.start.stored.getD {}) else s

/-- The settings under trial are stored when a further line arrives without error (R908). -/
def State.trialGood (s : State) : State :=
  if s.craft.trial.isSome then
    (s.setCraft (fun c => { c with trial := none })).storeCraft (fun c => { c with storedUart := c.uart })
  else s

/-- UART_TRIAL_TIMEOUT (R908). -/
def execUartTrialTimeout (s : State) : Host.Outcome State Fault Refusal :=
  .next (
    match s.craft.trial with
    | some u => s.setCraft (fun c => { c with uart := u, trial := none })
    | none => s)

/-! ### Lines that the shell handles itself (Table CF-2, R906 to R908) -/

/-- Text on the craft port. -/
def State.say (t : List Char) (s : State) : State := s.emit (.uart t)

/-- "ERR ARG" with the field at fault. -/
def State.errArg (f : String) (s : State) : State := s.say ("ERR ARG ".toList ++ f.toList)

/-- UART_DIV of a rate, rounded (Table CF-1, R112). -/
def uartDiv (baud : Nat) : Nat := (777600000 + baud / 2) / baud

/-- The first field of a uart line at fault (Table CF-1, R907, R112). -/
def uartFault (baud bits parity stop fifo rx tx : Nat) : Option String :=
  if baud = 0 ∨ uartDiv baud < 844 ∨ 131071 < uartDiv baud then some "baud"
  else if bits < 7 ∨ 9 < bits then some "bits"
  else if 4 < parity then some "parity"
  else if 2 < stop then some "stop"
  else if !([16, 32, 64, 128].contains fifo) then some "fifo"
  else if !([1, fifo / 4, fifo / 2, fifo - 2].contains rx) then some "rxtrig"
  else if !([0, fifo / 4, fifo / 2].contains tx) then some "txtrig"
  else none

/-- A uart line: OK at the old settings, then the new ones on trial (R908). -/
def State.lineUart (baud bits parity stop fifo rx tx : Nat) (s : State) : State :=
  match uartFault baud bits parity stop fifo rx tx with
  | some f => s.errArg f
  | none =>
    let u : UartCfg := { div := uartDiv baud, bits := bits, parity := parity, stop := stop, fifo := fifo
                         rxTrig := rx, txTrig := tx }
    (s.say "OK".toList).setCraft (fun c => { c with trial := some c.uart, uart := u })

/-- A ddm line prints the cached pages of a lane. -/
def State.lineDdm (lane : Nat) (s : State) : State :=
  if 3 < lane then s.errArg "lane"
  else
    let d : Ddm := Tab.get {} s.craft.ddm lane
    s.say ((d.a0 ++ d.a2).flatMap (fun b => ' ' :: hexByte b)) |>.say "OK".toList

/-- A gpio line: stored and set at once. -/
def State.lineGpio (pin func level debounce : Nat) (s : State) : State :=
  if 15 < pin then s.errArg "pin"
  else if 2 < func then s.errArg "func"
  else if 1 < level then s.errArg "level"
  else if 255 < debounce then s.errArg "debounce_ms"
  else
    let old : Gpio := Tab.get {} s.craft.gpio pin
    let g : Gpio := { func := func, level := level == 1, debounce := debounce, input := old.input }
    let s1 := (s.setCraft (fun c => { c with gpio := Tab.set {} c.gpio pin g })).storeCraft (fun c =>
      { c with storedGpio := Tab.set {} c.storedGpio pin { g with input := false } })
    (if func = 1 then s1.emit (.pin ("GPIO_" ++ toString pin) (level == 1)) else s1).say "OK".toList

/-- The first line after a BREAK or after 600 s without one (R909). -/
def State.lineArrives (s : State) : State :=
  let c := s.craft
  let idle := match c.lastLine with
    | some t => decide (t + 600 * secTicks ≤ s.now)
    | none => true
  let s1 := s.setCraft (fun c => { c with lastLine := some s.now, broke := false })
  if c.broke || idle then s1.raise 627 0 0 else s1

/-- The value of field `f` among pairs, zero where it is omitted, none where it is no number. -/
def localField (f : String) (ps : List (List Char × List Char)) : Option Nat :=
  match ps.find? (fun p => p.1 == f.toList) with
  | some p => valueOf p.2
  | none => some 0

/-- Whether the pairs name the fields in their order, each at most once (R756). -/
def inOrder : List String → List (List Char × List Char) → Bool
  | _, [] => true
  | [], _ :: _ => false
  | f :: t, p :: r => if p.1 = f.toList then inOrder t r else inOrder t (p :: r)

/-- A line of Table CF-2, none for another. A field that is no number is the field at fault; pairs out of order are
not parsed (R759). -/
def State.lineLocal (ws : List (List Char)) (s : State) : Option State :=
  match ws with
  | [] => none
  | w :: t =>
    let vals (fs : List String) (run : List Nat → State) : State :=
      match pairsOf t with
      | none => s.say "ERR LINE".toList
      | some ps =>
        if !inOrder fs ps then s.say "ERR LINE".toList
        else
          match fs.find? (fun f => (localField f ps).isNone) with
          | some f => s.errArg f
          | none => run (fs.map (fun f => (localField f ps).getD 0))
    if w = "uart".toList then
      some (vals ["baud", "bits", "parity", "stop", "fifo", "rxtrig", "txtrig"] (fun l =>
        s.lineUart (l.getD 0 0) (l.getD 1 0) (l.getD 2 0) (l.getD 3 0) (l.getD 4 0) (l.getD 5 0) (l.getD 6 0)))
    else if w = "ddm".toList then some (vals ["lane"] (fun l => s.lineDdm (l.getD 0 0)))
    else if w = "gpio".toList then
      some (vals ["pin", "func", "level", "debounce_ms"] (fun l =>
        s.lineGpio (l.getD 0 0) (l.getD 1 0) (l.getD 2 0) (l.getD 3 0)))
    else none

/-- A whole line (R756, R757, R759, R906). -/
def State.runLine (line : List Char) (s : State) : State :=
  let ws := splitAt ' ' [] line
  let s1 := (s.lineArrives).trialGood
  match s1.lineLocal ws with
  | some t => t
  | none =>
    match parseCommand ws with
    | some c => s1.shellSend c.1 c.2
    | none => s1.say "ERR LINE".toList

/-- The characters of a line as they wait in the receive FIFO. -/
def lineBytes (line : List Char) : List Byte := line.map (fun c => BitVec.ofNat 8 c.toNat) ++ [13]

/-- SHELL_LINE: while mailbox 33 is busy the line waits (Table CF-3). -/
def execShellLine (line : List Char) (s : State) : Host.Outcome State Fault Refusal :=
  .next (
    if !s.cpRuns then s
    else if (s.box 33).waiting.isSome || (s.box 33).stalled then
      s.setCraft (fun c => { c with rx := lineBytes line ++ c.rx })
    else s.runLine line)

/-- SHELL_RAW (R757). -/
def execShellRaw (opc : BitVec 16) (payload : List Byte) (s : State) : Host.Outcome State Fault Refusal :=
  .next (
    if !s.cpRuns || (s.box 33).waiting.isSome || (s.box 33).stalled then s
    else ((s.lineArrives).trialGood).shellSend opc.toNat payload)

/-- SHELL_UART (R906 to R908). -/
def execShellUart (baud bits parity stop fifo rxtrig txtrig : Nat) (s : State) :
    Host.Outcome State Fault Refusal :=
  .next (
    if s.cpRuns then ((s.lineArrives).trialGood).lineUart baud bits parity stop fifo rxtrig txtrig else s)

/-- SHELL_DDM (R906). -/
def execShellDdm (lane : Nat) (s : State) : Host.Outcome State Fault Refusal :=
  .next (if s.cpRuns then ((s.lineArrives).trialGood).lineDdm lane else s)

/-- SHELL_GPIO (R906). -/
def execShellGpio (pin func level debounce : Nat) (s : State) : Host.Outcome State Fault Refusal :=
  .next (if s.cpRuns then ((s.lineArrives).trialGood).lineGpio pin func level debounce else s)

/-- The shell takes a character: CR or LF ends a line, BS deletes the last, others are echoed and kept up to
256; a line with a discarded character is answered ERR LINE (R903). -/
def State.shellChar (b : Byte) (s : State) : State :=
  let c := Char.ofNat b.toNat
  let x := s.craft
  if b = 13 ∨ b = 10 then
    let s1 := s.setCraft (fun c => { c with line := [], drop := false })
    let s2 := if x.drop then s1.say "ERR LINE".toList
      else if x.line.isEmpty then s1 else s1.runLine x.line
    s2.say "trv> ".toList
  else if b = 8 then (s.setCraft (fun c => { c with line := c.line.dropLast })).say [c]
  else if 256 ≤ x.line.length then s.setCraft (fun c => { c with drop := true })
  else (s.setCraft (fun y => { y with line := y.line ++ [c] })).say [c]

/-- Serve the receive FIFO while mailbox 33 is free. -/
def State.serveRx : List Byte → State → State
  | [], s => s.setCraft (fun c => { c with rx := [] })
  | b :: t, s =>
    if (s.box 33).waiting.isSome || (s.box 33).stalled then s.setCraft (fun c => { c with rx := b :: t })
    else State.serveRx t (s.shellChar b)

/-- UART_RX_SERVICE (R902). -/
def execUartRxService (s : State) : Host.Outcome State Fault Refusal :=
  .next (if s.cpRuns then s.serveRx s.craft.rx else s)

/-! ### I2C masters (R911 to R916) -/

/-- The flags of A2h bytes 112 to 117 that go from 0 to 1, one event each (R915): bytes 112 and 113 hold alarm
flags and 116 and 117 warning flags, as SFF-8472 places them. -/
def State.ddmFlags (l : Nat) (old new : List Byte) (s : State) : State :=
  [16, 17, 20, 21].foldl (fun t i =>
    (List.range 8).foldl (fun u k =>
      let a := (old.getD i 0).getLsbD k
      let b := (new.getD i 0).getLsbD k
      if b && !a then u.lnEvent l (if i < 18 then 7 else 8) ((96 + i) * 256 + 2 ^ k) else u) t) s

def State.modI2c (m : Nat) (f : I2c → I2c) (s : State) : State :=
  s.setCraft (fun c => { c with i2c := Tab.modify {} c.i2c m f })

/-- Master m turns its segment output to lane 2m + s (R910): where it has to change, after a STOP and 10 µs of idle
bus (R911). -/
def State.i2cSelect (m : Nat) (seg : Bool) (s : State) : State :=
  let x : I2c := Tab.get {} s.craft.i2c m
  if x.seg = seg then s
  else
    ((s.untilNow (x.stopAt.map (· + 62208))).modI2c m (fun y => { y with seg := seg })).emit
      (.pin ("I2C_SEG_" ++ toString m) seg)

/-- Master m ends a transaction with a STOP. -/
def State.i2cStop (m : Nat) (s : State) : State := s.modI2c m (fun y => { y with stopAt := some s.now })

/-- DDM_READ (R910, R914 to R916): through master m of lane 2m + s, while it is clocked (R104). -/
def execDdmRead (l : Lane) (pageA2 : Bool) (data : Option (List Byte)) (s : State) :
    Host.Outcome State Fault Refusal :=
  .next (
    let n := l.val
    if !s.clocked (24 + n / 2) || s.clk.rootHold then s
    else
    let s := (s.i2cSelect (n / 2) (n % 2 == 1)).i2cStop (n / 2)
    let d : Ddm := Tab.get {} s.craft.ddm n
    let put (x : Ddm) (t : State) : State := t.setCraft (fun c => { c with ddm := Tab.set {} c.ddm n x })
    match data with
    | none =>
      let s1 := put { d with fails := min 3 (d.fails + 1), silent := d.silent || decide (2 ≤ d.fails) } s
      if 2 ≤ d.fails && !d.silent then s1.lnEvent n 9 0 else s1
    | some b =>
      let s1 := put { d with fails := 0, silent := false, a0 := if pageA2 then d.a0 else b
                             a2 := if pageA2 then b else d.a2, due := d.due && !pageA2
                             dueA0 := d.silent || (d.dueA0 && pageA2) } s
      let s2 := if d.silent then s1.lnEvent n 9 1 else s1
      if pageA2 then s2.ddmFlags n d.a2 b else s2)

/-- CF_I2C_STUCK (R106, R913): up to nine clocks and a STOP. -/
def execCfI2cStuck (m : Fin 2) (stillLow : Bool) (s : State) : Host.Outcome State Fault Refusal :=
  .next (
    if !s.clocked (24 + m.val) then s
    else
      let s1 := ((s.modI2c m.val (fun x => { x with stuck := stillLow })).emit (.i2c m.val 9)).i2cStop m.val
      if stillLow then s1.raise 625 0 m.val else s1)

/-- I2C_STRETCH_TIMEOUT (R106, R912): the transaction is abandoned, nine clocks and a STOP. -/
def execI2cStretchTimeout (m : Fin 2) (s : State) : Host.Outcome State Fault Refusal :=
  .next (
    if !s.clocked (24 + m.val) then s
    else ((s.modI2c m.val (fun x => { x with timeouts := x.timeouts + 1 })).emit (.i2c m.val 9)).i2cStop m.val)

/-! ### GPIO (R926 to R929) -/

/-- GPIO_EDGE (R926): an input's new level while the GPIO block is clocked (R106); an event only once the stored configuration is committed (R929). -/
def execGpioEdge (pin : Fin 16) (level : Bool) (s : State) : Host.Outcome State Fault Refusal :=
  .next (
    let g : Gpio := Tab.get {} s.craft.gpio pin.val
    if !s.clocked 28 || g.func ≠ 0 || g.input = level then s
    else
      let s1 := s.setCraft (fun c => { c with gpio := Tab.set {} c.gpio pin.val { g with input := level } })
      if s.start.fwState = 0 then s1 else s1.raise (608 + pin.val) 0 (b2n level))

/-- Whether a STATUS_LED pin pulses (R928). -/
def State.ledOn (s : State) : Bool :=
  s.start.fwState == 2 || s.power.step != 0 || !s.cistern.dgReady

/-- STATUS_LED_BLINK (R928): every such pin goes high for its 100 ms. -/
def execStatusLedBlink (s : State) : Host.Outcome State Fault Refusal :=
  .next (
    if s.ledOn then
      (s.craft.gpio.filter (fun x => x.2.func == 2)).foldl (fun t x =>
        (t.emit (.pin ("GPIO_" ++ toString x.1) true)).emit (.pin ("GPIO_" ++ toString x.1) false)) s
    else s)

end Sys2Proof.Machine
end

