-- ==== Sys2Proof/Machine/Masked.lean ====
section
/-!
DEFINITION. The two masked engines: the jobs that wait, which engine takes which, what a job computes (R568 to R574,
R596).
-/

namespace Sys2Proof.Machine

/-- The engine that serves a kind of work (R571). -/
def maskEngineOf : MaskWork → Nat
  | .ploam => 0
  | .omci => 0
  | .derive => 0
  | .report => 0
  | .dcc => 1
  | .flash => 1
  | .stored => 1

/-- Whether a mode accepts a message of `n` bytes (Table CY-1). -/
def modeAccepts (m : MaskMode) (n : Nat) : Bool :=
  match m with
  | .ctr => decide (1 ≤ n) && decide (n ≤ 2 ^ 20)
  | .cbc => n % 16 == 0 && decide (16 ≤ n) && decide (n ≤ 65536)
  | .cfb => decide (n ≤ 65535)
  | .xts => n == 512 || n == 4096
  | .cmac => decide (n ≤ 2 ^ 20)
  | .ecb => n == 16

/-- The jobs of a message: parts of at most 4,096 bytes (R572). A message whose length the mode does not accept is one
job, which ends with LEN_ERR. -/
def jobParts (j : MaskJob) : List MaskPart :=
  if !modeAccepts j.mode j.data.length || decide (j.data.length ≤ 4096) then [{ job := j, off := 0 }]
  else (List.range (ceilDiv j.data.length 4096)).map (fun i => { job := j, off := 4096 * i })

/-- The key of a job as the vault holds it now (R596): one slot, with its second half where it has 256 bits, or the two
slots of XTS. -/
def Cipher.jobKey (c : Cipher) (j : MaskJob) : List Byte :=
  let key (v : Nat) := keyBytes ((Tab.get none c.vault v).getD 0)
  key j.slot.val
  ++ (if j.mode = .xts then key (j.slot.val + 1)
      else if j.wide then keyBytes (Config.deriveKey 0 (2100 + j.slot.val)) else [])

/-- The counter block of block `i` of a message in CTR mode: the given one, counted up. -/
def ctrFrom (iv : List Byte) (i : Nat) : List Byte := beBytes 16 (beNat iv + i)

/-- The output of a whole message under a key (Table CY-1). -/
def jobOutput (j : MaskJob) (key : List Byte) : List Byte :=
  match j.mode with
  | .ctr => aesCtr key (ctrFrom j.iv) j.data
  | .cbc => aesCbc key j.iv (chunksOf 16 j.data)
  | .cfb => aesCfb false key j.iv j.data
  | .xts => aesXts (keyOf (key.take 16)) (keyOf (key.drop 16)) (leNat j.iv) j.data
  | .cmac => aesCmac key j.data
  | .ecb => aes key j.data

/-- What a job gives: its part of the message's output, the code of CMAC with the last part. -/
def partOutput (p : MaskPart) (key : List Byte) : List Byte :=
  let whole := jobOutput p.job key
  if p.job.mode = .cmac then (if p.job.data.length ≤ p.off + 4096 then whole else [])
  else (whole.drop p.off).take 4096

/-- Blocks that a job computes: each takes 128 bits of mask randomness of its own (R568). -/
def partBlocks (p : MaskPart) : Nat := max 1 (ceilDiv (min 4096 (p.job.data.length - p.off)) 16)

/-- The job that an engine takes next, with its place among those that wait: of its own jobs the oldest for PLOAM, then
the oldest; without one, the oldest that waits for the other engine (R571). -/
def nextJob (e : Nat) (jobs : List MaskPart) : Option (MaskPart × Nat) :=
  let own := jobs.zipIdx.filter (fun x => maskEngineOf x.1.job.work == e)
  ((own.find? (fun x => x.1.job.work == .ploam)).orElse (fun _ => own.head?)).orElse (fun _ => jobs.zipIdx.head?)

/-- An engine does a job: the key is latched, fresh mask randomness is drawn; a message of a length that its mode does
not accept ends with LEN_ERR and gives no output (R568, R573, R574, R596). -/
def State.doJob (e : Nat) (p : MaskPart) (i : Nat) (jobs : List MaskPart) (s : State) : State :=
  let key := s.cipher.jobKey p.job
  let ok := modeAccepts p.job.mode p.job.data.length
  let r : MaskEngine := { key := key, lenErr := !ok, out := if ok then partOutput p key else [] }
  let s1 := { s with
    fresh := s.fresh + if ok then partBlocks p else 0
    cipher := { s.cipher with jobs := jobs.eraseIdx i, masked := Tab.set {} s.cipher.masked e r } }
  if ok then s1 else (s1.inc 0x5C4).raise 550 0 0

/-- An engine waits for mask randomness: the clocks are counted, 1 µs or more raises CY_MASK_STALL (R570, Table
CY-5). -/
def State.maskStall (clocks : Nat) (s : State) : State :=
  let s1 := s.count 0x5C5 clocks
  if msTicks ≤ clocks * (if s.clk.coreSave then 10 else 8) * 1000 then s1.raiseWin 8000 551 0 0 0 else s1

/-- MASKED_JOB (R568 to R574, R596): messages that Itvekor forms wait as jobs, and an engine starts its next job, after
waiting `stallClocks` for mask randomness. -/
def execMaskedJob (turn : MaskTurn) (stallClocks : Nat) (s : State) :
    Host.Outcome State Fault Refusal :=
  .next (
    let jobs := s.cipher.jobs ++ turn.formed.flatMap jobParts
    match nextJob turn.engine.val jobs with
    | none => s
    | some (p, i) => (s.maskStall stallClocks).doJob turn.engine.val p i jobs)

end Sys2Proof.Machine
end

