-- ==== Sys2Proof/Machine/Relay.lean ====
section
/-!
DEFINITION. What the DCC brings: TIDE_SYNC, the worker's side of relayed commands and the manager's side of
their answers, event reports, the end of a ring boot, and the receiver of DCC messages.
-/

namespace Sys2Proof.Machine

/-! ### TIDE_SYNC (R47, R48, R53, R481) -/

/-- A worker mirrors the manager's Tide state and anchor lane (R53); its root follows the state (R87). -/
def State.mirror (code anchor : Nat) (s : State) : State :=
  let s1 := { s with tide := { s.tide with anchor := anchor } }
  if code = s.tide.state.code then s1
  else
    match code with
    | 1 => s1.enterAnchored
    | 2 => s1.enterHoldover
    | 3 => (({ s1 with tide := { s1.tide with state := .slewing, error := 0, errAt := s1.now }.holdClear }).setClk
        (fun c => { c with steered := true })).raise 34 0 0
    | _ => (({ s1 with tide := { s1.tide with state := .unanchored, error := 0 }.holdClear }).setClk (fun c =>
        { c with steered := false, refSrc := false })).pulseHold

/-- A joining worker takes Tide: the manager's count plus the offset of its timing side (R48), under the
manager's boot nonce (Table QY-12, step 6). -/
def State.takeTide (nonce : BitVec 64) (frame : Nat) (s : State) : State :=
  let old := s.tide.ticks
  let off := s.tide.timingOffset
  let s1 := (s.putTide (frame + off / frameTicks) off).setJoin (fun j => { j with mgrNonce := nonce, step := 6 })
  ((((s1.alarmsStep old).gatesStep).wheelStep).pulseLoad)

/-- A TIDE_SYNC reaches a worker; one that joins takes Tide once it has been ranged (R77); another boot nonce than the one it joined under resets it (R481). -/
def State.onSync (nonce : BitVec 64) (frame code anchor : Nat) (s : State) : State :=
  let j := s.ring.join
  if s.isManager then s
  else if j.joined then (if nonce = j.mgrNonce then s.mirror code anchor else s.ringReset)
  else if j.step = 5 && s.tide.ranged then (s.takeTide nonce frame).mirror code anchor
  else s

/-- TIDE_SYNC (R47): the manager sends it to every joined worker; a worker takes it. -/
def execTideSync (nonce : BitVec 64) (frame : Nat) (state : Fin 4) (anchor : Lane) (s : State) :
    Host.Outcome State Fault Refusal :=
  .next (if s.isManager then s.syncAll else s.onSync nonce frame state.val anchor.val)

/-- A HELLO of the manager with another boot nonce resets a joined worker (R481). -/
def State.onHello (src : Nat) (nonce : BitVec 64) (s : State) : State :=
  if !s.isManager && src == 0 && s.ring.join.joined && nonce != s.ring.join.mgrNonce then s.ringReset else s

/-! ### Relayed commands on the worker (R663, R664) -/

/-- A part of a commit is kept until COMMIT tells its switch-over frame. -/
def State.keepPart (m : Nat) (x : StagedCmd) (s : State) : State :=
  s.modBox m (fun b =>
    let t : Txn := b.txn.getD { staged := [], bytes := 0, lastCmd := s.now }
    { b with txn := some { t with staged := t.staged ++ [x], bytes := t.bytes + x.payload.length } })

/-- A relayed command: a transactional one is a part of a commit, another runs and is answered. -/
def State.onRelayCmd (opc : Nat) (seq : BitVec 16) (mbx : MbxNo) (payload : List Byte) (s : State) : State :=
  if s.isManager then s
  else
    match formOf opc with
    | some f =>
      (match f.2 payload with
       | some x => s.keepPart mbx.val { setting := x.1, named := x.2, opc := opc, payload := payload }
       | none => s)
    | none =>
      let q : Req := { mbx := mbx, flags := 0, berth := if mbx.val < 32 then BitVec.ofNat 8 mbx.val else 0xFF
                       seq := seq, tag := 0, payload := payload }
      ({ s with ring := { s.ring with relayed := s.ring.relayed ++ [(opc, seq.toNat, mbx.val)] } }).runCommand opc q

/-- RELAY_CMD (R663, R664). -/
def execRelayCmd (opc : Nat) (seq : BitVec 16) (mbx : MbxNo) (payload : List Byte) (s : State) :
    Host.Outcome State Fault Refusal :=
  .next (s.onRelayCmd opc seq mbx payload)

/-- The parts kept wait for the switch-over frame of R645 (R663). -/
def State.onCommitPart (frame : Nat) (s : State) : State :=
  match (s.box 32).txn with
  | none => s
  | some t =>
    let a : Accepted := { mbx := 32, frame := frame, staged := t.staged }
    ({ s with host := { s.host with accepted := s.host.accepted ++ [a] } }).modBox 32 (fun b =>
      { b with txn := none, lastSwitch := frame })

/-! ### Answers on the manager (R664) -/

/-- What the manager adds to a worker's reply: its own fields of IDENT_GET and RING_STATUS_GET (Tables CA-4,
CA-12). -/
def State.patchReply (opc n m : Nat) (p : List Byte) (s : State) : List Byte :=
  if opc = 0x0100 then p.take 32 ++ leBytes 4 (s.box m).hostVer.toNat
  else if opc = 0x0400 then p.take 10 ++ s.ringTail n
  else p

/-- An answer to a request that waits for node `n`; DEFERRED leaves the operation outstanding. -/
def State.relayAnswer (n opc : Nat) (q : Req) (st : Status) (payload : List Byte) (s : State) : State :=
  let m := q.mbx.val
  let p := if st = .done then s.patchReply opc n m payload else payload
  let d : Deferred := { seq := q.seq.toNat, tag := q.tag, opc := opc, object := objId n 0 0 }
  let s1 := if st = .deferred then s.modBox m (fun b => { b with deferred := b.deferred ++ [d] }) else s
  s1.answer opc q st p

/-- A completion of an operation that runs on node `n`. -/
def State.relayComplete (n m seq : Nat) (st : Status) (payload : List Byte) (s : State) : State :=
  if (s.box m).deferred.any (fun d => d.seq == seq && d.object / 2 ^ 28 == n) then s.complete m seq st payload
  else s

/-- A RELAY_RSP of a joined worker. -/
def State.onRelayRsp (n opc : Nat) (seq : BitVec 16) (mbx : MbxNo) (status : Nat) (payload : List Byte) (s : State) :
    State :=
  if !s.isManager || !s.joined n then s
  else
    match (s.box mbx.val).waiting with
    | some w =>
      if w.on = .relay n ∧ w.opc = opc ∧ w.req.seq = seq then s.relayAnswer n opc w.req (statusOf status) payload
      else s.relayComplete n mbx.val seq.toNat (statusOf status) payload
    | none => s.relayComplete n mbx.val seq.toNat (statusOf status) payload

/-- RELAY_RSP (R664). -/
def execRelayRsp (n : NodeNo) (opc : Nat) (seq : BitVec 16) (mbx : MbxNo) (status : Nat) (payload : List Byte)
    (s : State) : Host.Outcome State Fault Refusal :=
  .next (s.onRelayRsp n.val opc seq mbx status payload)

/-! ### Event reports (R768, R769, R771) -/

/-- Event messages for a raise on a worker. -/
def State.raiseFar (n src tide obj detail : Nat) (s : State) : State :=
  let q := queueEvts s.cfg true n src tide obj detail s.host s.cnt
  let s1 := { s with host := q.1, cnt := q.2.1, out := q.2.2.1 ++ s.out }
  if q.2.1 = s.cnt then s1
  else
    let e := s1.evt.setBit 576
    s1.setEvt (if q.2.2.2 then e.setBit 581 else e) false

/-- A worker's report. Its CS_MGR_SHED (R840) is the answer that step 5 waits for (R832). -/
def State.onReport (n : Nat) (r : WorkerReport) (s : State) : State :=
  if !s.isManager || !s.joined n then s
  else
    match r with
    | .pending on => s.setSummary n on
    | .raised src tide obj detail => s.raiseFar n src tide.toNat obj.toNat detail.toNat
    | .mgrShed => s.setCs (fun c => { c with acks := c.acks.filter (fun x => x != n) })

/-- EVENT (R768, R769). -/
def execEvent (n : NodeNo) (r : WorkerReport) (s : State) : Host.Outcome State Fault Refusal :=
  .next (s.onReport n.val r)

/-! ### The end of a ring boot (R480, R865 to R867) -/

/-- A manager without a valid bank writes the image that a worker sent to bank A, marks it VALID and starts
from it (R865); one without a flash runs it from CP memory. -/
def State.bootFromRing (s : State) : State :=
  let img := s.ring.join.image
  let s1 := s.setJoin (fun j => { j with image := [], imgDone := false })
  if s.start.hasFlash then
    ((s1.header (fun k =>
      { k with bankA := { state := .valid, image := img, good := true }, startBank := false })).flashWrite
      (bankAddr false) 4096 img).bootBank false
  else (s1.setStart (fun k => { k with cpImage := img, fwVersion := imgVersion img })).startUp

/-- The image passes its checks: a joining worker goes on, a joined one restarts into it, a manager boots. -/
def State.imageGood (s : State) : State :=
  let j := s.ring.join
  if s.isManager then (if s.start.booting then s.bootFromRing else s)
  else if j.joined then s.warmRestart
  else if j.step = 4 then
    let s1 := (s.runImage).setJoin (fun j => { j with step := 5, newNonce := false })
    if s.start.booting then s1.startCp else s1
  else s

/-- The image fails: the attempt fails (R480); an update is dropped. -/
def State.imageBad (s : State) : State :=
  let s1 := s.setJoin (fun j => { j with imgDone := false, image := [] })
  if s.isManager || s.ring.join.joined || s.ring.join.step ≠ 4 then s1
  else (s1.raise 395 (nodeObj s.self) 0).joinFail

/-- RING_BOOT_DONE (R480): the image that has arrived from a node is checked under R860. -/
def execRingBootDone (node : NodeNo) (s : State) : Host.Outcome State Fault Refusal :=
  .next (
    if !s.ring.join.imgDone || s.ring.join.imgFrom != node.val then s
    else if s.imageResult s.ring.join.image = 0 then s.imageGood else s.imageBad)

/-! ### The receiver (R465 to R469, R604) -/

/-- Whether this node has a number. -/
def State.numbered (s : State) : Bool := s.isManager || s.ring.node != 0

/-- Whether this node takes a message. Join messages name the worker by its serial number, which their bodies carry in
clear (R602); the manager's own IMG_REQ (R865) is taken by the first worker that holds an image. -/
def State.takes (s : State) (h : DccHead) (body : List Byte) : Bool :=
  match h.type with
  | 0x02 => s.isManager
  | 0x03 => !s.isManager && beAt body 0 8 == s.serial.toNat
  | 0x04 => !s.isManager && beAt body 1 8 == s.serial.toNat
  | 0x05 => if s.isManager then h.dst.val == 0
      else h.dst.val == 15 && s.start.fwState != 0 && !s.start.cpImage.isEmpty
  | _ => s.numbered && (h.bcast || h.dst.val == s.self)

/-- Pass a message on in the same direction, turned at a wrap (R461, R466), with TTL decremented. -/
def State.forwardDcc (d ttl : Nat) (b : List Byte) (s : State) : State :=
  if ttl ≤ 1 then s
  else
    let o := if (s.side (other d)).wrapped then d else other d
    { s with ring := dccPut o false (b.take 3 ++ beBytes 1 (ttl - 1) ++ b.drop 4) s.ring }

/-- NODE_RESET is acknowledged: the command is answered DONE and the worker leaves (R482, R686). -/
def State.resetAcked (n : Nat) (s : State) : State :=
  let s1 := (List.range 34).foldl (fun t m =>
    match (t.box m).waiting with
    | some w => if w.on = .relay n ∧ w.opc = 0x0404 then t.reply w.opc w.req .done else t
    | none => t) s
  if s1.joined n then s1.nodeLeave n else s1

/-- An acknowledgement from node `n`. -/
def State.ackFrom (n ack : Nat) (s : State) : State :=
  let p : Peer := Tab.get {} s.ring.peers n
  let i := p.unacked.findIdx? (fun u => u.msg.msgSeq == ack)
  let done := match i with
    | some k => p.unacked.take (k + 1)
    | none => []
  let s1 := s.dccAcked n ack
  if done.any (fun u => u.msg.body == .nodeReset) then s1.resetAcked n else s1

/-- Acknowledge what has been delivered from node `n`: a message of its own without number. -/
def State.sendAck (n : Nat) (s : State) : State :=
  let p : Peer := Tab.get {} s.ring.peers n
  let m : DccMsg := { dst := Fin.ofNat 16 n, src := Fin.ofNat 16 s.self, bcast := false, unnumbered := false
                      ackOnly := true, ttl := 31, msgSeq := 0, ackSeq := p.lastDelivered, body := .hello 0 }
  s.dccRaw (s.ring.sideOf n) m

/-- A threshold entry of a worker (R303), as QTH_RELAY. -/
def State.onQth (n : Nat) (entry : W32) (s : State) : State :=
  if !s.isManager || !s.joined n then s
  else if s.evt.qthFifo.any (fun w => w.toNat / 2 ^ 16 == entry.toNat / 2 ^ 16) then s
  else s.qthPost entry (objId n 2 (entry.toNat / 2 ^ 16 % 4096))

/-- A rollover entry of a worker (R775). -/
def State.onCnt (n : Nat) (entry : W32) (s : State) : State :=
  if s.isManager && s.joined n then s.postHalf entry (objId n 0xF (entry.toNat % 65536)) else s

/-- Deliver a body that came from node `n` on side `d` (Table QY-11). -/
def State.deliverDcc (d n : Nat) (body : DccBody) (s : State) : State :=
  match body with
  | .hello nonce => s.onHello n nonce
  | .joinReq serial nonce mgr version east west position =>
    s.onJoinReq { serial := serial, nonce := nonce, isManager := mgr, version := version, east := east
                  west := west, position := position, side := Fin.ofNat 2 d }
  | .joinAccept _ number gen nonce chain => s.onAccept number.val gen.val nonce chain
  | .joinRefuse _ reason => s.onRefuse reason
  | .imgReq => s.sendImage d n
  | .imgBlock bytes => s.onBlock n bytes
  | .tsReq => if s.isManager then s else s.dcc 0 .tsRsp
  | .tsRsp => s
  | .tideSync nonce frame state anchor => if n = 0 then s.onSync nonce frame state anchor else s
  | .stepAnnounce at_ frame =>
    if s.isManager || !s.ring.join.joined then s
    else { s with tide := { s.tide with announced := some (frame, at_) } }
  | .creditReinit c _ => s.onReinit n c
  | .creditReinitAck c consumed => s.onReinitAck n c.val consumed
  | .joinComplete => if s.isManager then s.nodeJoined n else s
  | .leave => if s.isManager && s.joined n then s.nodeLeave n else s
  | .relayCmd opc seq mbx payload => s.onRelayCmd opc seq mbx payload
  | .relayRsp opc seq mbx status payload => s.onRelayRsp n opc seq mbx status payload
  | .commitPart frame => s.onCommitPart frame
  | .eventPending on => s.onReport n (.pending on)
  | .eventRaise source tide object detail => s.onReport n (.raised source tide object detail)
  | .vinFail => s.mgrShed
  | .vinReturn => s.shedRestore
  | .mgrShed => s.onReport n .mgrShed
  | .qthRelay entry => s.onQth n entry
  | .cntRelay entry => s.onCnt n entry
  | .logRelay kind data => if s.isManager && s.joined n then s.relayLog n kind data else s
  | .nodeReset => s.ringReset

/-- The MSG_SEQ after one (R467). -/
def nextMsg (n : Nat) : Nat := if n = 0xFFFF then 1 else n + 1

/-- A numbered message in order (R467, R468): the next one is acknowledged and delivered, one at or behind the
last is acknowledged again, one ahead is discarded. -/
def State.inOrder (d : Nat) (m : DccMsg) (s : State) : State :=
  let n := m.src.val
  let p : Peer := Tab.get {} s.ring.peers n
  let s1 := s.ackFrom n m.ackSeq
  if m.msgSeq = nextMsg p.lastDelivered then
    let q : Peer :=
      { (Tab.get {} s1.ring.peers n : Peer) with
        lastDelivered := m.msgSeq
        rxWraps := if p.lastDelivered = 0xFFFF then (p.rxWraps + 1) % 65536 else p.rxWraps }
    let s2 := { s1 with ring := { s1.ring with peers := Tab.set {} s1.ring.peers n q } }
    (s2.sendAck n).deliverDcc d n m.body
  else if (p.lastDelivered + 65536 - m.msgSeq) % 65536 < 32768 then (s1.sendAck n).inc (rgCnt d 26)
  else s1

/-- The count of MSG_SEQ wraps that a peer's message was sent under, from the last number delivered (R601). -/
def Peer.wrapsOf (seq : Nat) (p : Peer) : Nat :=
  if seq = 0 then 0
  else if seq + 32768 < p.lastDelivered then (p.rxWraps + 1) % 65536
  else if p.lastDelivered + 32768 < seq then (p.rxWraps + 65535) % 65536
  else p.rxWraps

/-- What protects a message that arrives (R601, R602): JOIN_ACCEPT carries its generation and the manager's nonce. -/
def State.dccKeysFor (s : State) (h : DccHead) (body : List Byte) : DccKeys :=
  if h.type = 0x03 then
    { chain := none, nonce := BitVec.ofNat 64 (beAt body 10 8), gen := beAt body 9 1, wraps := 0 }
  else
    { s.dccKeys with gen := if h.bcast then 0 else s.ring.pairGen s.self h.src.val
                     wraps := (Tab.get {} s.ring.peers h.src.val : Peer).wrapsOf h.msgSeq }

/-- A message whose MAC is good: a worker's manager is no longer lost (R483); an acknowledgement, a message outside
the numbered exchange, or a numbered one. -/
def State.dccOk (d : Nat) (m : DccMsg) (s : State) : State :=
  let s1 := s.inc (rgCnt d 24)
  let s2 := if !s.isManager && m.src.val == 0 && s.ring.join.lostMgr then
    s1.setJoin (fun j => { j with lostMgr := false }) else s1
  if m.ackOnly then s2.ackFrom m.src.val m.ackSeq
  else if m.unnumbered || m.bcast || m.msgSeq == 0 then s2.deliverDcc d m.src.val m.body
  else s2.inOrder d m

/-- A message that this node takes: its MAC comes first (R604). -/
def State.takeDcc (d : Nat) (h : DccHead) (b : List Byte) (s : State) : State :=
  let k := s.dccKeysFor h (dccEnc h b)
  if !dccGood k h b then (s.inc 0x5C6).raiseWin 8000 553 0 0 0
  else
    match dccOpen k h b with
    | none => s
    | some m => s.dccOk d m

/-- IMG_BLOCK (R480, R865, R867): a block of an image reaches this node. -/
def execImgBlock (side : Side) (node : NodeNo) (bytes : List Byte) (s : State) : Host.Outcome State Fault Refusal :=
  .next (s.deliverDcc side.val node.val (.imgBlock bytes))

/-- A DCC message of which the bytes have arrived on side `d` (R466, R468, R604): a BCAST message goes on as well,
until it is back at its sender. -/
def State.dccIn (d : Nat) (b : List Byte) (s : State) : State :=
  match parseDcc b with
  | none => s
  | some h =>
    if s.numbered && !h.unnumbered && h.src.val == s.self then s
    else
      let mine := s.takes h (dccEnc h b)
      let s1 := if h.bcast || !mine then s.forwardDcc d h.ttl b else s
      if mine then s1.takeDcc d h b else s1

/-- DCC_MESSAGE_RECEIVE: a message and the 16 bytes of its MAC (R465, R466, R468, R600 to R604). -/
def execDccMessageReceive (side : Side) (message mac : List Byte) (s : State) : Host.Outcome State Fault Refusal :=
  .next (s.dccIn side.val (message ++ mac))

/-- RING_FRAME_RECEIVE (R426 to R432, R438, R465): the frame, then the DCC messages that it completes. -/
def execRingFrameReceive (side : Side) (lane : Fin 2) (wire : List Byte) (s : State) :
    Host.Outcome State Fault Refusal :=
  .next (
    if !s.ringOn side.val then s
    else
      let r := s.ringFrame side.val lane.val wire
      r.2.foldl (fun t m => t.dccIn side.val m) r.1)

end Sys2Proof.Machine
end

