-- ==== Sys2Proof/Machine/Dispatch.lean ====
section
/-!
DEFINITION. One arm per command of the device: a direct call of its meaning.
-/

namespace Sys2Proof.Machine

/-- The effect of a command on everything but the queue. -/
def exec (i : Instr) (s : State) : Host.Outcome State Fault Refusal :=
  match i with
  | .powerOnReset => Sys2Proof.Machine.execPowerOnReset s
  | .resetNAssert => Sys2Proof.Machine.execResetNAssert s
  | .noValidBankRetry => Sys2Proof.Machine.execNoValidBankRetry s
  | .hostCommandReset value => Sys2Proof.Machine.execHostCommandReset value s
  | .pciePerst released => Sys2Proof.Machine.execPciePerst released s
  | .watchdogRestart => Sys2Proof.Machine.execWatchdogRestart s
  | .watchdogBite => Sys2Proof.Machine.execWatchdogBite s
  | .watchdogCountClear => Sys2Proof.Machine.execWatchdogCountClear s
  | .warmCpRestart => Sys2Proof.Machine.execWarmCpRestart s
  | .warmRestartDone => Sys2Proof.Machine.execWarmRestartDone s
  | .partialReset d => Sys2Proof.Machine.execPartialReset d s
  | .railPowerGood k => Sys2Proof.Machine.execRailPowerGood k s
  | .railPgWindowExpiry k => Sys2Proof.Machine.execRailPgWindowExpiry k s
  | .powerUpRetry => Sys2Proof.Machine.execPowerUpRetry s
  | .railPowerDownStep pgFell => Sys2Proof.Machine.execRailPowerDownStep pgFell s
  | .railPgLost k => Sys2Proof.Machine.execRailPgLost k s
  | .railFailInPowerDown k => Sys2Proof.Machine.execRailFailInPowerDown k s
  | .oscAccepted => Sys2Proof.Machine.execOscAccepted s
  | .oscStartTimeout => Sys2Proof.Machine.execOscStartTimeout s
  | .referenceFail => Sys2Proof.Machine.execReferenceFail s
  | .rootLock => Sys2Proof.Machine.execRootLock s
  | .rootUnlock => Sys2Proof.Machine.execRootUnlock s
  | .clockHoldRelease lane => Sys2Proof.Machine.execClockHoldRelease lane s
  | .aonRcCalibration => Sys2Proof.Machine.execAonRcCalibration s
  | .clkMuxSwitchRequest m toB => Sys2Proof.Machine.execClkMuxSwitchRequest m toB s
  | .clkDeadSource m newSource => Sys2Proof.Machine.execClkDeadSource m newSource s
  | .clkGateStart bit => Sys2Proof.Machine.execClkGateStart bit s
  | .clkRefclkLoss eth => Sys2Proof.Machine.execClkRefclkLoss eth s
  | .clkSteerLimit => Sys2Proof.Machine.execClkSteerLimit s
  | .coreDividerChange => Sys2Proof.Machine.execCoreDividerChange s
  | .tideAnchored count => Sys2Proof.Machine.execTideAnchored count s
  | .tideHoldover => Sys2Proof.Machine.execTideHoldover s
  | .tideReacquireDecision frame tick => Sys2Proof.Machine.execTideReacquireDecision frame tick s
  | .tideSlewDone => Sys2Proof.Machine.execTideSlewDone s
  | .tideStep count => Sys2Proof.Machine.execTideStep count s
  | .tideAbandonPending => Sys2Proof.Machine.execTideAbandonPending s
  | .tideAnchorMove => Sys2Proof.Machine.execTideAnchorMove s
  | .tideAnchorReturn => Sys2Proof.Machine.execTideAnchorReturn s
  | .tideHoldLimit => Sys2Proof.Machine.execTideHoldLimit s
  | .tideSync nonce frame state anchor => Sys2Proof.Machine.execTideSync nonce frame state anchor s
  | .tsReq node side rtt => Sys2Proof.Machine.execTsReq node side rtt s
  | .workerRemeasure node rttEast rttWest => Sys2Proof.Machine.execWorkerRemeasure node rttEast rttWest s
  | .rangingReplyTimeout node side => Sys2Proof.Machine.execRangingReplyTimeout node side s
  | .rangingRetry node => Sys2Proof.Machine.execRangingRetry node s
  | .workerStepAnnounce count => Sys2Proof.Machine.execWorkerStepAnnounce count s
  | .tideAlarm k => Sys2Proof.Machine.execTideAlarm k s
  | .tidePulseRise => Sys2Proof.Machine.execTidePulseRise s
  | .tidePulseFall => Sys2Proof.Machine.execTidePulseFall s
  | .tideLoRead => Sys2Proof.Machine.execTideLoRead s
  | .downstreamFrame f => Sys2Proof.Machine.execDownstreamFrame f s
  | .lnLos l declared => Sys2Proof.Machine.execLnLos l declared s
  | .lnLods l => Sys2Proof.Machine.execLnLods l s
  | .burstProfile l h index preamble delimiter flags => Sys2Proof.Machine.execBurstProfile l h index preamble delimiter flags s
  | .assignOnuId l h serial onuId => Sys2Proof.Machine.execAssignOnuId l h serial onuId s
  | .rangingTime l h absolute negative bits => Sys2Proof.Machine.execRangingTime l h absolute negative bits s
  | .deactivateOnuId l h => Sys2Proof.Machine.execDeactivateOnuId l h s
  | .disableSerialNumber l h enable serial => Sys2Proof.Machine.execDisableSerialNumber l h enable serial s
  | .requestRegistration l h => Sys2Proof.Machine.execRequestRegistration l h s
  | .assignAllocId l h allocId remove => Sys2Proof.Machine.execAssignAllocId l h allocId remove s
  | .keyControl l h generate bank => Sys2Proof.Machine.execKeyControl l h generate bank s
  | .sleepAllow l h => Sys2Proof.Machine.execSleepAllow l h s
  | .ploamUnknownType l h code ackRequired => Sys2Proof.Machine.execPloamUnknownType l h code ackRequired s
  | .ploamDuplicate l h msg => Sys2Proof.Machine.execPloamDuplicate l h msg s
  | .ploamMicFail l => Sys2Proof.Machine.execPloamMicFail l s
  | .to1Expiry l => Sys2Proof.Machine.execTo1Expiry l s
  | .to2Expiry l => Sys2Proof.Machine.execTo2Expiry l s
  | .omciDownstream l msg mic => Sys2Proof.Machine.execOmciDownstream l msg mic s
  | .sdSfWindow l codewords corrected uncorrectable => Sys2Proof.Machine.execSdSfWindow l codewords corrected uncorrectable s
  | .rssiTrig l => Sys2Proof.Machine.execRssiTrig l s
  | .lnRogue l => Sys2Proof.Machine.execLnRogue l s
  | .rogueGuardRelease l => Sys2Proof.Machine.execRogueGuardRelease l s
  | .allocationStructure l a => Sys2Proof.Machine.execAllocationStructure l a s
  | .runAheadStage a => Sys2Proof.Machine.execRunAheadStage a s
  | .stagedCellTimeout a => Sys2Proof.Machine.execStagedCellTimeout a s
  | .cvRunaheadSuspend a => Sys2Proof.Machine.execCvRunaheadSuspend a s
  | .runaheadResume a => Sys2Proof.Machine.execRunaheadResume a s
  | .cvNotReady l => Sys2Proof.Machine.execCvNotReady l s
  | .burstLaunch r => Sys2Proof.Machine.execBurstLaunch r s
  | .reseqWindowExpiry g => Sys2Proof.Machine.execReseqWindowExpiry g s
  | .blSkew l count anchorCount => Sys2Proof.Machine.execBlSkew l count anchorCount s
  | .blLaneJoin l => Sys2Proof.Machine.execBlLaneJoin l s
  | .bondingHoldReset l => Sys2Proof.Machine.execBondingHoldReset l s
  | .bondingControlMessage l msg => Sys2Proof.Machine.execBondingControlMessage l msg s
  | .bondingControlResend g msgSeq => Sys2Proof.Machine.execBondingControlResend g msgSeq s
  | .groupState g => Sys2Proof.Machine.execGroupState g s
  | .packetEnqueue q r => Sys2Proof.Machine.execPacketEnqueue q r s
  | .qthRelay node queue frame => Sys2Proof.Machine.execQthRelay node queue frame s
  | .qthFifoDataRead => Sys2Proof.Machine.execQthFifoDataRead s
  | .cntFifoDataRead => Sys2Proof.Machine.execCntFifoDataRead s
  | .cntHalf index => Sys2Proof.Machine.execCntHalf index s
  | .rolloverRelay node index frame => Sys2Proof.Machine.execRolloverRelay node index frame s
  | .flushAct q => Sys2Proof.Machine.execFlushAct q s
  | .descriptorEccError q position => Sys2Proof.Machine.execDescriptorEccError q position s
  | .ledgerAudit => Sys2Proof.Machine.execLedgerAudit s
  | .ledgerRecountDone => Sys2Proof.Machine.execLedgerRecountDone s
  | .sweepBorrow cells => Sys2Proof.Machine.execSweepBorrow cells s
  | .sweepReturn cells r => Sys2Proof.Machine.execSweepReturn cells r s
  | .calendarRelease q => Sys2Proof.Machine.execCalendarRelease q s
  | .calendarUnpark => Sys2Proof.Machine.execCalendarUnpark s
  | .gateSwap p => Sys2Proof.Machine.execGateSwap p s
  | .gateChange p => Sys2Proof.Machine.execGateChange p s
  | .egressStart p => Sys2Proof.Machine.execEgressStart p s
  | .mcastReplicate r => Sys2Proof.Machine.execMcastReplicate r s
  | .frameReceive p bytes last => Sys2Proof.Machine.execFrameReceive p bytes last s
  | .pauseExpiry p c => Sys2Proof.Machine.execPauseExpiry p c s
  | .pauseTx p => Sys2Proof.Machine.execPauseTx p s
  | .frameTransmit r => Sys2Proof.Machine.execFrameTransmit r s
  | .spLinkUp p learned => Sys2Proof.Machine.execSpLinkUp p learned s
  | .spLinkDown p => Sys2Proof.Machine.execSpLinkDown p s
  | .spFault p code learned => Sys2Proof.Machine.execSpFault p code learned s
  | .phyPoll p answer => Sys2Proof.Machine.execPhyPoll p answer s
  | .rclkLoss p => Sys2Proof.Machine.execRclkLoss p s
  | .rclkReturn p => Sys2Proof.Machine.execRclkReturn p s
  | .slipBufferRead p => Sys2Proof.Machine.execSlipBufferRead p s
  | .cesPacketise p => Sys2Proof.Machine.execCesPacketise p s
  | .cesPacketArrival p => Sys2Proof.Machine.execCesPacketArrival p s
  | .playoutStartInstant r => Sys2Proof.Machine.execPlayoutStartInstant r s
  | .crc4SearchTimeout p => Sys2Proof.Machine.execCrc4SearchTimeout p s
  | .e1Defect p d declared => Sys2Proof.Machine.execE1Defect p d declared s
  | .cyEntropyFail => Sys2Proof.Machine.execCyEntropyFail s
  | .entropyRetest samples => Sys2Proof.Machine.execEntropyRetest samples s
  | .cyFallbackNonce => Sys2Proof.Machine.execCyFallbackNonce s
  | .drbgReseed => Sys2Proof.Machine.execDrbgReseed s
  | .vaultRerandomise => Sys2Proof.Machine.execVaultRerandomise s
  | .keyZeroise slot bank => Sys2Proof.Machine.execKeyZeroise slot bank s
  | .maskedJob turn stallClocks => Sys2Proof.Machine.execMaskedJob turn stallClocks s
  | .ringFrameReceive side lane wire => Sys2Proof.Machine.execRingFrameReceive side lane wire s
  | .rgPtrJump side lane value => Sys2Proof.Machine.execRgPtrJump side lane value s
  | .ringFrameTransmit r => Sys2Proof.Machine.execRingFrameTransmit r s
  | .ringDefect side d => Sys2Proof.Machine.execRingDefect side d s
  | .ringWrap side => Sys2Proof.Machine.execRingWrap side s
  | .ringDefectClear side d => Sys2Proof.Machine.execRingDefectClear side d s
  | .wtrExpiry side => Sys2Proof.Machine.execWtrExpiry side s
  | .dccMessageReceive side message mac => Sys2Proof.Machine.execDccMessageReceive side message mac s
  | .dccRetransmit peer msgSeq => Sys2Proof.Machine.execDccRetransmit peer msgSeq s
  | .hello => Sys2Proof.Machine.execHello s
  | .workerGoneTimeout n => Sys2Proof.Machine.execWorkerGoneTimeout n s
  | .managerLost => Sys2Proof.Machine.execManagerLost s
  | .joinReq r => Sys2Proof.Machine.execJoinReq r s
  | .joinCollectionEnd => Sys2Proof.Machine.execJoinCollectionEnd s
  | .joinAccept number a => Sys2Proof.Machine.execJoinAccept number a s
  | .joinRefuse reason => Sys2Proof.Machine.execJoinRefuse reason s
  | .joinAttemptStart => Sys2Proof.Machine.execJoinAttemptStart s
  | .joinAttemptTimeout => Sys2Proof.Machine.execJoinAttemptTimeout s
  | .joinHoldoffExpiry => Sys2Proof.Machine.execJoinHoldoffExpiry s
  | .joinComplete n => Sys2Proof.Machine.execJoinComplete n s
  | .imgReq n => Sys2Proof.Machine.execImgReq n s
  | .imgBlock side node bytes => Sys2Proof.Machine.execImgBlock side node bytes s
  | .ringBootDone node => Sys2Proof.Machine.execRingBootDone node s
  | .creditReinit src cclass sent => Sys2Proof.Machine.execCreditReinit src cclass sent s
  | .creditReinitAck dst cclass consumed => Sys2Proof.Machine.execCreditReinitAck dst cclass consumed s
  | .leave n => Sys2Proof.Machine.execLeave n s
  | .relayCmd opc seq mbx payload => Sys2Proof.Machine.execRelayCmd opc seq mbx payload s
  | .relayRsp n opc seq mbx status payload => Sys2Proof.Machine.execRelayRsp n opc seq mbx status payload s
  | .event n r => Sys2Proof.Machine.execEvent n r s
  | .bypassRelease => Sys2Proof.Machine.execBypassRelease s
  | .mbxDbReqWrite m value => Sys2Proof.Machine.execMbxDbReqWrite m value s
  | .mbxDbRplWrite m value => Sys2Proof.Machine.execMbxDbRplWrite m value s
  | .mailboxRequest => Sys2Proof.Machine.execMailboxRequest s
  | .txnIdleTimeout m => Sys2Proof.Machine.execTxnIdleTimeout m s
  | .commitSwitchOver => Sys2Proof.Machine.execCommitSwitchOver s
  | .admissionRecheck => Sys2Proof.Machine.execAdmissionRecheck s
  | .evtStatusWrite g value => Sys2Proof.Machine.execEvtStatusWrite g value s
  | .evtEnableWrite addr value => Sys2Proof.Machine.execEvtEnableWrite addr value s
  | .vectorUnmask v => Sys2Proof.Machine.execVectorUnmask v s
  | .spiWrite addr words cutShort => Sys2Proof.Machine.execSpiWrite addr words cutShort s
  | .spiRead addr words => Sys2Proof.Machine.execSpiRead addr words s
  | .registerWrite addr value byteEnables => Sys2Proof.Machine.execRegisterWrite addr value byteEnables s
  | .mbxHello q => Sys2Proof.Machine.execMbxHello q s
  | .opAbort q => Sys2Proof.Machine.execOpAbort q s
  | .identGet q => Sys2Proof.Machine.execIdentGet q s
  | .statusGet q => Sys2Proof.Machine.execStatusGet q s
  | .berthSet q => Sys2Proof.Machine.execBerthSet q s
  | .txnOpen q => Sys2Proof.Machine.execTxnOpen q s
  | .txnCommit q => Sys2Proof.Machine.execTxnCommit q s
  | .txnAbort q => Sys2Proof.Machine.execTxnAbort q s
  | .txnStatus q => Sys2Proof.Machine.execTxnStatus q s
  | .lineModeSet q => Sys2Proof.Machine.execLineModeSet q s
  | .lineLaneSet q => Sys2Proof.Machine.execLineLaneSet q s
  | .lineStatusGet q => Sys2Proof.Machine.execLineStatusGet q s
  | .ringStatusGet q => Sys2Proof.Machine.execRingStatusGet q s
  | .ringSet q => Sys2Proof.Machine.execRingSet q s
  | .ringProtectCmd q => Sys2Proof.Machine.execRingProtectCmd q s
  | .ringRenumber q => Sys2Proof.Machine.execRingRenumber q s
  | .nodeReset q => Sys2Proof.Machine.execNodeReset q s
  | .portSet q => Sys2Proof.Machine.execPortSet q s
  | .portStatusGet q => Sys2Proof.Machine.execPortStatusGet q s
  | .mdioAccess q => Sys2Proof.Machine.execMdioAccess q s
  | .queueSet q => Sys2Proof.Machine.execQueueSet q s
  | .queueFlush q => Sys2Proof.Machine.execQueueFlush q s
  | .schedSet q => Sys2Proof.Machine.execSchedSet q s
  | .shaperSet q => Sys2Proof.Machine.execShaperSet q s
  | .gateListSet q => Sys2Proof.Machine.execGateListSet q s
  | .policerSet q => Sys2Proof.Machine.execPolicerSet q s
  | .classifierSet q => Sys2Proof.Machine.execClassifierSet q s
  | .allocMapSet q => Sys2Proof.Machine.execAllocMapSet q s
  | .xgemMapSet q => Sys2Proof.Machine.execXgemMapSet q s
  | .mcastSet q => Sys2Proof.Machine.execMcastSet q s
  | .poolReserveSet q => Sys2Proof.Machine.execPoolReserveSet q s
  | .e1Set q => Sys2Proof.Machine.execE1Set q s
  | .cesSet q => Sys2Proof.Machine.execCesSet q s
  | .keyLoad q => Sys2Proof.Machine.execKeyLoad q s
  | .keyErase q => Sys2Proof.Machine.execKeyErase q s
  | .cntRead q => Sys2Proof.Machine.execCntRead q s
  | .cntSnapshot q => Sys2Proof.Machine.execCntSnapshot q s
  | .snapshotFillDone => Sys2Proof.Machine.execSnapshotFillDone s
  | .pwrStateSet q => Sys2Proof.Machine.execPwrStateSet q s
  | .lswEnable q node switch window => Sys2Proof.Machine.execLswEnable q node switch window s
  | .lswDisable q node switch window => Sys2Proof.Machine.execLswDisable q node switch window s
  | .lswRearm q node switch window => Sys2Proof.Machine.execLswRearm q node switch window s
  | .cisternSet q => Sys2Proof.Machine.execCisternSet q s
  | .fwWriteBegin q => Sys2Proof.Machine.execFwWriteBegin q s
  | .fwWriteBlock q => Sys2Proof.Machine.execFwWriteBlock q s
  | .fwWriteEnd q => Sys2Proof.Machine.execFwWriteEnd q s
  | .fwVerifyDone flashOk => Sys2Proof.Machine.execFwVerifyDone flashOk s
  | .fwActivate q => Sys2Proof.Machine.execFwActivate q s
  | .fwConfirm q => Sys2Proof.Machine.execFwConfirm q s
  | .confirmWindowExpiry => Sys2Proof.Machine.execConfirmWindowExpiry s
  | .workerImageUpdate n => Sys2Proof.Machine.execWorkerImageUpdate n s
  | .logbookRead q => Sys2Proof.Machine.execLogbookRead q s
  | .diagSelftest q => Sys2Proof.Machine.execDiagSelftest q s
  | .selftestDone tested retired failedUnits durationMs => Sys2Proof.Machine.execSelftestDone tested retired failedUnits durationMs s
  | .diagLoopback q => Sys2Proof.Machine.execDiagLoopback q s
  | .loopbackExpiry object => Sys2Proof.Machine.execLoopbackExpiry object s
  | .diagPrbs q => Sys2Proof.Machine.execDiagPrbs q s
  | .prbsDone object bits errors syncLosses => Sys2Proof.Machine.execPrbsDone object bits errors syncLosses s
  | .diagMaintenance q => Sys2Proof.Machine.execDiagMaintenance q s
  | .omciSend q => Sys2Proof.Machine.execOmciSend q s
  | .evtConfig q => Sys2Proof.Machine.execEvtConfig q s
  | .evtAck q => Sys2Proof.Machine.execEvtAck q s
  | .evtFetch q => Sys2Proof.Machine.execEvtFetch q s
  | .tideAlarmSet q => Sys2Proof.Machine.execTideAlarmSet q s
  | .tidePulseSet q => Sys2Proof.Machine.execTidePulseSet q s
  | .tideSet q => Sys2Proof.Machine.execTideSet q s
  | .mooredEntry => Sys2Proof.Machine.execMooredEntry s
  | .drainEnd => Sys2Proof.Machine.execDrainEnd s
  | .cpWaitHalt irqPending => Sys2Proof.Machine.execCpWaitHalt irqPending s
  | .beachedEntry => Sys2Proof.Machine.execBeachedEntry s
  | .pwWake cause => Sys2Proof.Machine.execPwWake cause s
  | .thermalSample t0 t1 t2 t3 => Sys2Proof.Machine.execThermalSample t0 t1 t2 t3 s
  | .thermalStepExit step => Sys2Proof.Machine.execThermalStepExit step s
  | .cisternMonitorSample vinBall storeBall => Sys2Proof.Machine.execCisternMonitorSample vinBall storeBall s
  | .probeChargeStart => Sys2Proof.Machine.execProbeChargeStart s
  | .probeChargeEnd => Sys2Proof.Machine.execProbeChargeEnd s
  | .vinFail => Sys2Proof.Machine.execVinFail s
  | .vinFailShedLoads => Sys2Proof.Machine.execVinFailShedLoads s
  | .csVinReturn => Sys2Proof.Machine.execCsVinReturn s
  | .csMgrShed => Sys2Proof.Machine.execCsMgrShed s
  | .workerShedRestore => Sys2Proof.Machine.execWorkerShedRestore s
  | .lswOn k => Sys2Proof.Machine.execLswOn k s
  | .lswFail k cause => Sys2Proof.Machine.execLswFail k cause s
  | .lswRetryExpiry k => Sys2Proof.Machine.execLswRetryExpiry k s
  | .lswFailCountClear k => Sys2Proof.Machine.execLswFailCountClear k s
  | .lswPres k => Sys2Proof.Machine.execLswPres k s
  | .lswReinsertion k => Sys2Proof.Machine.execLswReinsertion k s
  | .logbookFlush => Sys2Proof.Machine.execLogbookFlush s
  | .logbookRelay n kind data => Sys2Proof.Machine.execLogbookRelay n kind data s
  | .flashProgram r firstOk secondOk => Sys2Proof.Machine.execFlashProgram r firstOk secondOk s
  | .uartCharacter c err => Sys2Proof.Machine.execUartCharacter c err s
  | .uartRxService => Sys2Proof.Machine.execUartRxService s
  | .longBreak => Sys2Proof.Machine.execLongBreak s
  | .shortBreak => Sys2Proof.Machine.execShortBreak s
  | .shellLine line => Sys2Proof.Machine.execShellLine line s
  | .shellRaw opc payload => Sys2Proof.Machine.execShellRaw opc payload s
  | .shellUart baud bits parity stop fifo rxtrig txtrig => Sys2Proof.Machine.execShellUart baud bits parity stop fifo rxtrig txtrig s
  | .uartTrialTimeout => Sys2Proof.Machine.execUartTrialTimeout s
  | .shellDdm lane => Sys2Proof.Machine.execShellDdm lane s
  | .shellGpio pin func level debounce => Sys2Proof.Machine.execShellGpio pin func level debounce s
  | .ddmRead l pageA2 data => Sys2Proof.Machine.execDdmRead l pageA2 data s
  | .cfI2cStuck m stillLow => Sys2Proof.Machine.execCfI2cStuck m stillLow s
  | .i2cStretchTimeout m => Sys2Proof.Machine.execI2cStretchTimeout m s
  | .gpioEdge pin level => Sys2Proof.Machine.execGpioEdge pin level s
  | .statusLedBlink => Sys2Proof.Machine.execStatusLedBlink s
  | .slipBufferWrite p frame => Sys2Proof.Machine.execSlipBufferWrite p frame s
  | .hostPcieLink up => Sys2Proof.Machine.execHostPcieLink up s
  | .refclkReturn eth => Sys2Proof.Machine.execRefclkReturn eth s
  | .heartbeat => Sys2Proof.Machine.execHeartbeat s
  | .joinHoldoffReset n => Sys2Proof.Machine.execJoinHoldoffReset n s
  | .fwEraseDone => Sys2Proof.Machine.execFwEraseDone s
  | .resetNRelease => Sys2Proof.Machine.execResetNRelease s
  | .powerOnResetAssert => Sys2Proof.Machine.execPowerOnResetAssert s

end Sys2Proof.Machine
end

