-- ==== Sys2Proof/Machine/Time.lean ====
section
/-!
DEFINITION. The passing of one CORE clock (R31): what step does on an empty queue (log 1). Everything
else that happens in time is a command of the table: the row's arrival is the instant.
-/

namespace Sys2Proof.Machine

/-- Ticks per CORE clock (R31). -/
def coreTicks (s : State) : Nat := if s.clk.coreSave then 10 else 8

/-- Advance Tide by `n` ticks, `n` at most a frame (R28, R29, R31). -/
def Tide.advance (n : Nat) (t : Tide) : Tide :=
  if t.tick + n < frameTicks then { t with tick := t.tick + n }
  else { t with tick := t.tick + n - frameTicks, frame := (t.frame + 1) % frameWrap }

/-- Whether a source of a multiplexer shows edges (Table CK-3): what the root gives while its dividers run and are
not held, the reference while it is accepted, RCLK_p while it is not lost. -/
def sourceAlive (s : State) (key : Nat) (b : Bool) : Bool :=
  let root := s.clk.running && !s.clk.rootHold
  if key = 1 then (if b then root else s.clk.xoOk)
  else if 6 ≤ key ∧ b = true then !(s.e1 (key - 6)).rclkLost
  else root

/-- One clock of a multiplexer with a pending switch: with both sources running it completes (R96); with neither its
output is low, and the switch completes at the first edge of the requested source (R99). CORE_SEL waits for its
frame boundary (R92). -/
def muxClock (s : State) (key : Nat) (m : ClkMux) : ClkMux :=
  match m.pending with
  | none => m
  | some b =>
    if key = 0 then m
    else if sourceAlive s key b && (sourceAlive s key (!b) || m.low) then muxEnd b m
    else if sourceAlive s key b || sourceAlive s key (!b) then m
    else { m with low := true }

/-- One CORE clock of every multiplexer; a multiplexer back in its reset state is not listed. -/
def muxesClock (s : State) (t : Tab ClkMux) : Tab ClkMux :=
  (t.map (fun x => (x.1, muxClock s x.1 x.2))).filter (fun x => decide (x.2 ≠ {}))

/-- One CORE clock: elapsed time and Tide advance, the multiplexers move, and a frame boundary that Tide
passes does what it does. -/
def coreClock (s : State) : State :=
  let n := coreTicks s
  let t := if tideRuns s then s.tide.advance n else s.tide
  let m := muxesClock s s.clk.muxes
  let cp := (Tab.get {} s.clk.muxes 1 : ClkMux).selB
  let s1 := { s with
    now := s.now + n, tide := t
    clk := { s.clk with muxes := m, cpOnRef := if (Tab.get {} m 1 : ClkMux).selB = cp then s.clk.cpOnRef else cp } }
  if t.frame = s.tide.frame then s1 else { s1 with bnd := s1.bnd + 1 }.boundary

end Sys2Proof.Machine
end

