-- ==== Sys2Proof/Safety.lean ====
section
/-!
DEFINITION. What counts as a safe run of the block, and the words the statements use: completing, what reporting
may change, a pending event, what a request spells.
-/

namespace Sys2Proof.Machine

/-- The Tide word is one that R28 and R29 allow: the tick lies within its frame, the frame count
within its 44 bits. -/
def Tide.wf (t : Tide) : Prop := t.tick < frameTicks ∧ t.frame < frameWrap

/-- A table of counters in canonical form whose counts lie within 40 bits (R773). -/
def cntWf (c : Tab Nat) : Prop := Tab.wf 0 c = true ∧ ∀ i, Tab.get 0 c i < 2 ^ 40

/-- A command completes: exec answers a next state. -/
def completes (i : Instr) (s : State) : Prop := ∃ t, exec i s = .next t

/-- A command completes, and the state after it is as `P` says. -/
def completesWith (i : Instr) (s : State) (P : State → Prop) : Prop := ∃ t, exec i s = .next t ∧ P t

/-- A step stops: a fault or a refusal. -/
def stops (s : State) : Prop := ∀ t, step s ≠ .next t

/-- `s` with what reporting changes taken from `t`: the event block, the host attachment (replies and event
messages), the ring's DCC, the logbook, the counters and what has been sent. A frame that reads
`t = { s.reporting t with clk := t.clk }` says that beside these only the clocks may differ. -/
def State.reporting (s t : State) : State :=
  { s with evt := t.evt, host := t.host, ring := t.ring, log := t.log, cnt := t.cnt, out := t.out }

/-- `s` with what the passage of time to an instant may change taken from `t`: what reporting changes, the elapsed
time and Tide, a mode change that waits for the boundary, and what a frame boundary refreshes or sends: lanes, E1
ports, status mirrors. -/
def State.passing (s t : State) : State :=
  { s.reporting t with now := t.now, bnd := t.bnd, power := t.power, tide := t.tide, line := t.line, e1s := t.e1s
                       craft := t.craft }

/-- Event source `src` is pending in EVT_STATUS (R761). -/
def State.pends (s : State) (src : Nat) : Prop := (Tab.get 0 s.evt.status (src / 32)).getLsbD (src % 32) = true

/-- The host interface answers at once: the device is not in MOORED or BEACHED (R794) and no root clock hold stands
(R111). -/
def State.hostOpen (s : State) : Prop :=
  s.power.state ≠ .moored ∧ s.power.state ≠ .beached ∧ s.clk.rootHold = false

/-- What a device keeps over every command (R25): the fused part and serial number. -/
def State.fuses (s : State) : Bool × W32 := (s.start.part4410, s.start.serialNum)

/-- `k` is `j` with the copies of the boot header rewritten (R859). -/
def Start.rewrote (k j : Start) : Prop := k = { j with header0 := k.header0, header1 := k.header1 }

/-- `k` is `j` with the copies of the configuration store rewritten (R886). -/
def Start.stores (k j : Start) : Prop := k = { j with store0 := k.store0, store1 := k.store1 }

/-- A cold reset (R857, Table ST-1) leaves every block as after power-on but what it keeps: the fuses, the flash's
images and store, the stored UART and GPIO settings, the keys of the store, the lanes' O7 and, but at a
power-on reset (`por`), the latches of the rogue guard. -/
def coldLeft (por : Bool) (s t : State) : Prop :=
  t.tide = {} ∧ t.cfg = {} ∧ t.pool = {} ∧ t.sched = {} ∧ t.ports = [] ∧ t.e1s = [] ∧ t.snap = {} ∧ t.adm = {}
  ∧ t.evt = {} ∧ t.cnt = [] ∧ t.host = {} ∧ t.line = { o7Store := s.line.o7Store, lanes := if por then [] else s.line.latches }
  ∧ t.start.bankA = s.start.bankA ∧ t.start.bankB = s.start.bankB ∧ t.start.startBank = s.start.startBank
  ∧ t.start.store0 = s.start.store0 ∧ t.start.store1 = s.start.store1 ∧ t.start.fwState = 0 ∧ t.start.booting = true ∧ t.cipher = s.cipher.stored
  ∧ t.craft.storedUart = s.craft.storedUart ∧ t.craft.storedGpio = s.craft.storedGpio
  ∧ t.pending = s.pending ∧ t.fuses = s.fuses

/-- Lane `l` hears PLOAM message `m` now, and for the first time: it is on and synchronised, a message to one ONU finds
it with an ONU-ID, no warm restart runs and its memory does not hold the message (R147, R874). -/
def State.hears (s : State) (l : Nat) (h : PloamHdr) (m : PloamMsg) : Prop :=
  (s.lane l).act ≠ .off ∧ (s.lane l).sync = true ∧ (h.unicast = true → (s.lane l).onuId.isSome = true)
  ∧ s.start.fwState ≠ 3
  ∧ (s.lane l).memo.find? (fun x => h.unicast && x.seqno == h.seqno && x.msg == m) = none

/-! ### Requests -/

/-- The nineteen transactional commands with their opcode, whether they name an object, and their form (R643). -/
def stagedRows (q : Req) : List (Instr × Nat × Bool × (List Byte → Option (Setting × List Nat))) :=
  [(.berthSet q, 0x0110, false, berthForm), (.lineModeSet q, 0x0300, false, lineForm),
   (.lineLaneSet q, 0x0301, false, laneForm), (.ringSet q, 0x0401, false, ringForm),
   (.portSet q, 0x0500, true, portForm), (.queueSet q, 0x0600, true, queueForm),
   (.schedSet q, 0x0602, true, schedForm), (.shaperSet q, 0x0603, true, shaperForm),
   (.gateListSet q, 0x0604, true, gateForm), (.policerSet q, 0x0605, true, policerForm),
   (.classifierSet q, 0x0606, true, classForm), (.allocMapSet q, 0x0607, true, allocForm),
   (.xgemMapSet q, 0x0608, true, xgemForm), (.mcastSet q, 0x0609, true, mcastForm),
   (.poolReserveSet q, 0x060A, false, poolForm), (.e1Set q, 0x0700, true, e1Form),
   (.cesSet q, 0x0701, true, cesForm), (.cisternSet q, 0x0A02, false, cisternForm),
   (.tideSet q, 0x0F02, false, tideForm)]

/-- A line command of a TRV-4410 that asks for the 25G rate (R24). -/
def State.unsupportedRate (s : State) (opc : Nat) (p : List Byte) : Bool :=
  (opc == 0x0300 || opc == 0x0301) && s.start.part4410 && u8 p (if opc = 0x0300 then 1 else 2) == 1

/-- The opcode and the request of a command that a mailbox or the shell sends (Tables CA-1 and CB-1). -/
def requestOf : Instr → Option (Nat × Req)
  | .mbxHello q => some (0x0001, q)
  | .opAbort q => some (0x0003, q)
  | .identGet q => some (0x0100, q)
  | .statusGet q => some (0x0101, q)
  | .berthSet q => some (0x0110, q)
  | .txnOpen q => some (0x0200, q)
  | .txnCommit q => some (0x0201, q)
  | .txnAbort q => some (0x0202, q)
  | .txnStatus q => some (0x0203, q)
  | .lineModeSet q => some (0x0300, q)
  | .lineLaneSet q => some (0x0301, q)
  | .lineStatusGet q => some (0x0302, q)
  | .ringStatusGet q => some (0x0400, q)
  | .ringSet q => some (0x0401, q)
  | .ringProtectCmd q => some (0x0402, q)
  | .ringRenumber q => some (0x0403, q)
  | .nodeReset q => some (0x0404, q)
  | .portSet q => some (0x0500, q)
  | .portStatusGet q => some (0x0501, q)
  | .mdioAccess q => some (0x0502, q)
  | .queueSet q => some (0x0600, q)
  | .queueFlush q => some (0x0601, q)
  | .schedSet q => some (0x0602, q)
  | .shaperSet q => some (0x0603, q)
  | .gateListSet q => some (0x0604, q)
  | .policerSet q => some (0x0605, q)
  | .classifierSet q => some (0x0606, q)
  | .allocMapSet q => some (0x0607, q)
  | .xgemMapSet q => some (0x0608, q)
  | .mcastSet q => some (0x0609, q)
  | .poolReserveSet q => some (0x060A, q)
  | .e1Set q => some (0x0700, q)
  | .cesSet q => some (0x0701, q)
  | .keyLoad q => some (0x0800, q)
  | .keyErase q => some (0x0801, q)
  | .cntRead q => some (0x0900, q)
  | .cntSnapshot q => some (0x0901, q)
  | .pwrStateSet q => some (0x0A00, q)
  | .lswEnable q node switch window => some (0x0A01, lswReq q node switch 0 window)
  | .lswDisable q node switch window => some (0x0A01, lswReq q node switch 1 window)
  | .lswRearm q node switch window => some (0x0A01, lswReq q node switch 2 window)
  | .cisternSet q => some (0x0A02, q)
  | .fwWriteBegin q => some (0x0B00, q)
  | .fwWriteBlock q => some (0x0B01, q)
  | .fwWriteEnd q => some (0x0B02, q)
  | .fwActivate q => some (0x0B03, q)
  | .fwConfirm q => some (0x0B04, q)
  | .logbookRead q => some (0x0B10, q)
  | .diagSelftest q => some (0x0C00, q)
  | .diagLoopback q => some (0x0C01, q)
  | .diagPrbs q => some (0x0C02, q)
  | .diagMaintenance q => some (0x0C03, q)
  | .omciSend q => some (0x0D00, q)
  | .evtConfig q => some (0x0E00, q)
  | .evtAck q => some (0x0E01, q)
  | .evtFetch q => some (0x0E02, q)
  | .tideAlarmSet q => some (0x0F00, q)
  | .tidePulseSet q => some (0x0F01, q)
  | .tideSet q => some (0x0F02, q)
  | _ => none

/-- What a request needs before its arguments are looked at: a manager, its berth's scope, no header flags, and a device
that is not on its way down (R640, R642, R658, R799, R837). -/
def State.admits (s : State) (opc : Nat) (q : Req) : Prop :=
  s.isManager = true ∧ outOfScope opc q = false ∧ q.flags = 0 ∧ (s.goingDown = false ∨ servedAlways opc = true)

/-- In `t` the request `q` of opcode `opc` has its answer: the reply with that status code and payload is cached, the
expected SEQ is the next one, and nothing of the mailbox waits (R634, R635, R661). -/
def State.answers (t : State) (opc : Nat) (q : Req) (code : Nat) (payload : List Byte) : Prop :=
  let b := t.box q.mbx.val
  b.cached = some { opc := opc % 2 ^ 15 + 2 ^ 15, seq := q.seq.toNat, flags := 0, status := code, tag := q.tag
                    payload := payload }
  ∧ b.lastReq = some (q.seq.toNat, reqCrc opc q) ∧ b.expSeq = nextSeq16 q.seq.toNat ∧ b.waiting = none

/-- In `t` the request `q` of opcode `opc` is taken and waits for `w` before it is answered. -/
def State.awaits (t : State) (opc : Nat) (q : Req) (w : Wait) : Prop :=
  (t.box q.mbx.val).waiting = some { opc := opc, req := q, on := w }

end Sys2Proof.Machine
end

