-- ==== Sys2Proof/Certificates/Slice0/Obligations.lean ====
section
/-!
DEFINITION. The statements for the provers, from the rules of the spec and the rows of its command table. A docstring names
the rules its clauses rest on; only a statement that OBLIGATIONS.json marks as stated claims to state a rule whole.
-/

open Sys2Proof Sys2Proof.Machine

/-- One step takes the command at the front of the queue and is exec of it with the queue's rest: commands are served
first in, first out. -/
def Obligations.StepTakesTheFront : Prop :=
  ∀ (c : Instr) (rest : List Instr) (s : State),
    step { s with pending := c :: rest } = exec c { s with pending := rest }

/-- On an empty queue one CORE clock passes (the model's choice, log 1): elapsed time grows by 8 ticks, 10 in core
save (R31), and Tide by as many when it runs, by Tide's own arithmetic (R28, R29); nothing waits afterwards. -/
def Obligations.IdleStepIsOneClock : Prop :=
  ∀ s : State, s.pending = [] →
    ∃ t, step s = .next t ∧ t.pending = []
      ∧ t.now = s.now + (if s.clk.coreSave then 10 else 8)
      ∧ t.tide.frame = (if tideRuns s then s.tide.advance (if s.clk.coreSave then 10 else 8) else s.tide).frame
      ∧ t.tide.tick = (if tideRuns s then s.tide.advance (if s.clk.coreSave then 10 else 8) else s.tide).tick

/-- No command stops the block: each of them answers a next state in every state. -/
def Obligations.EveryCommandCompletes : Prop :=
  ∀ (i : Instr) (s : State), completes i s

/-- The fixed part of R25 and what the fuses give: ID_PART, ID_STEP, ID_CAP, ID_SN_VENDOR and ID_SN_NUM read as Tables
PD-5 to PD-8 say, and no step (no reset, no command, no write) changes what they read as. -/
def Obligations.IdentificationNeverChanges : Prop :=
  (∀ s : State,
    s.reg 0x0 = (if s.start.part4410 then 0x4410 else 0x4416) * 2 ^ 16 + 0x1F5E
    ∧ s.reg 0x4 = 0x21
    ∧ s.reg 0x8 = 64 * 2 ^ 24 + 32 * 2 ^ 16 + 15 * 2 ^ 8 + 4 * 2 ^ 4 + 2 + (if s.start.part4410 then 0 else 1)
    ∧ s.reg 0xC = 0x41584E56
    ∧ s.reg 0x10 = s.start.serialNum.toNat / 16 * 16)
  ∧ ∀ s t : State, step s = .next t →
      t.reg 0x0 = s.reg 0x0 ∧ t.reg 0x4 = s.reg 0x4 ∧ t.reg 0x8 = s.reg 0x8 ∧ t.reg 0xC = s.reg 0xC
      ∧ t.reg 0x10 = s.reg 0x10

/-- Every step that takes a command takes exactly that one off the queue: no command adds to the queue, drops from it
or reorders it. -/
def Obligations.QueueIsFirstInFirstOut : Prop :=
  ∀ s t : State, step s = .next t → t.pending = s.pending.tail

/-- Tide stays a Tide word over every step: the tick below 777,600 and the frame count below 2^44 (R28, R29). -/
def Obligations.TideStaysInRange : Prop :=
  ∀ s t : State, s.tide.wf → step s = .next t → t.tide.wf

/-- What reset leaves where the spec says so: Tide at zero and UNANCHORED, HOLD_AGE and STEP_CNT 0, no alarm and no
pulse enabled, no gate open, no event pending or enabled, no counter counted, every mailbox closed, all 262,144 cells
free, no lane active, nothing configured, nothing staged and nothing sent. After reset Tide is a Tide word, the queue
is empty and every counter is in canonical form within 40 bits. -/
def Obligations.ResetState : Prop :=
  (
      let r := State.reset
      r.tide.frame = 0 ∧ r.tide.tick = 0 ∧ r.tide.state = .unanchored ∧ r.tide.stepCnt = 0 ∧ r.tide.holdAge r.now = 0 ∧ r.tideStatus = 0
      ∧ (∀ k, (r.alarm k).enable = false) ∧ r.tide.pulse.enable = false ∧ r.clk.gate = 0
      ∧ (∀ n, ¬ r.pends n) ∧ (∀ g, Tab.get 0 r.evt.enable g = 0) ∧ (∀ i, Tab.get 0 r.cnt i = 0)
      ∧ (∀ m, (r.box m).session = false ∧ (r.box m).txn = none ∧ (r.box m).reqProd = 0 ∧ (r.box m).rplProd = 0)
      ∧ r.pool.free = 262144 ∧ (∀ l, (r.lane l).act = .off ∧ (r.lane l).txDis = true)
      ∧ r.cfg = {} ∧ r.adm.shed = [] ∧ r.out = [])
  ∧ (State.reset.tide.wf ∧ State.reset.pending = [] ∧ cntWf State.reset.cnt)

/-- What the commands of the reference oscillator and of the root do to the clocks (R82, R84, R95, R108, R119, Table
CK-8), for every state; they change nothing but the clocks and what reporting changes (ROOT_UNLOCK also the lanes'
TX_DIS, R163). The release of a lane's clock hold (R110): the lane's hold bit clears and CLOCK_HOLD_RELEASED is
raised; nothing else changes but what reporting changes. ROOT_LOCK of a root that has lost its lock while the dividers
run, outside MOORED: the root is locked and CLK_ROOT_RELOCK is raised, and nothing else changes but what reporting
changes. -/
def Obligations.ReferenceAndRootCommands : Prop :=
  (∀ s : State,
        completesWith .oscAccepted s (fun t =>
          (s.clk.oscOn = false ∨ s.clk.xoOk = true → t = s)
          ∧ (s.clk.oscOn = true → s.clk.xoOk = false → s.clk.refSrc = false →
            t = { s with clk := { s.clk with xoOk := true, refFailed := false } })
          ∧ (s.clk.oscOn = true → s.clk.xoOk = false → s.clk.refSrc = true →
            t.clk.xoOk = true ∧ t.clk.refFailed = false ∧ t.clk.refSrc = false ∧ t.clk.rootLock = false ∧ t.pends 58)
          ∧ t = { s.reporting t with clk := t.clk, line := t.line, fresh := t.fresh })
        ∧ exec .oscStartTimeout s = .next { s with clk := if s.clk.oscOn && !s.clk.xoOk then
            { s.clk with xoRestarts := min 255 (s.clk.xoRestarts + 1) } else s.clk }
        ∧ completesWith .referenceFail s (fun t =>
          t.clk = (if !s.clk.xoOk then s.clk
            else if s.tide.state = .anchored ∨ s.tide.state = .slewing then
              { s.clk with xoOk := false, refFailed := true, refSrc := true }
            else { s.clk with xoOk := false, refFailed := true, rootLock := false })
          ∧ (s.clk.xoOk = true → t.pends 56)
          ∧ t = { s.reporting t with clk := t.clk })
        ∧ completesWith .rootUnlock s (fun t =>
          t.clk.rootLock = false ∧ (s.clk.rootLock = true → t.pends 57)
          ∧ t = { s.reporting t with clk := t.clk, line := t.line, fresh := t.fresh })
        ∧ completesWith (.clockHoldRelease none) s (fun t =>
          (s.clk.rootHold = false ∨ s.clk.rootLock = false → t = s)
          ∧ (s.clk.rootHold = true → s.clk.rootLock = true → t.clk.rootHold = false ∧ t.clk.waiting = [])
          ∧ (s.clk.rootHold = true → s.clk.rootLock = true → s.clk.waiting = [] →
            t.clk = { s.clk.cpTo false with rootHold := false } ∧ t.clk.cpOnRef = false ∧ t.pends 59
            ∧ t = { s.reporting t with clk := t.clk, line := t.line }))
        ∧ exec .aonRcCalibration s = .next { s with clk := if s.clk.rootLock then { s.clk with aonCal := true } else s.clk }
        ∧ completesWith .clkSteerLimit s (fun t => (s.clk.steered = true → t.pends 61) ∧ t = s.reporting t))
  ∧ (∀ (s : State) (l : Lane),
        completesWith (.clockHoldRelease (some l)) s (fun t =>
          t.clk = { s.clk with laneHold := if bit s.clk.laneHold l.val then putBit s.clk.laneHold l.val false
            else s.clk.laneHold }
          ∧ (bit s.clk.laneHold l.val = true → t.pends 59 ∧ bit t.clk.laneHold l.val = false)
          ∧ t = { s.reporting t with clk := t.clk }))
  ∧ (∀ s : State, s.clk.rootLock = false → s.clk.running = true → s.power.state ≠ .moored →
        completesWith .rootLock s (fun t =>
          t.clk = { s.clk with rootLock := true } ∧ t.pends 58 ∧ t = { s.reporting t with clk := t.clk }))

/-- What the commands of the clock sources, multiplexers and gates do (R93, R94, R96 to R100, R105): a switch request
becomes pending or waits behind the pending one, a dead source ends or completes the switch and raises
CLK_DEAD_SOURCE, a started clock leaves `starting`, a lost Ethernet reference takes every port's link down, a core
divider change applies the request that waits. The PCIe link as the host sees it (Table HM-10): it comes up only on a
manager with its reference clock, either change raises PCIE_LINK, and PERST takes it down and resets the MSI-X table
and masks. -/
def Obligations.ClockSourceCommands : Prop :=
  (∀ s : State,
        (∀ (m : Mux) (b : Bool), completesWith (.clkMuxSwitchRequest m b) s (fun t =>
          (let x : ClkMux := Tab.get {} s.clk.muxes (muxKey m)
           x.pending = none → x.selB ≠ b → Tab.get {} t.clk.muxes (muxKey m) = { x with pending := some b })
          ∧ (let x : ClkMux := Tab.get {} s.clk.muxes (muxKey m)
             ∀ p, x.pending = some p → p ≠ b → Tab.get {} t.clk.muxes (muxKey m) = { x with queued := some b })
          ∧ (m ≠ .core → t.clk.coreReq = s.clk.coreReq)
          ∧ (m = .core → t.clk.coreReq = (Tab.get {} t.clk.muxes (muxKey m) : ClkMux).pending)
          ∧ t = { s with clk := { s.clk with muxes := t.clk.muxes, coreReq := t.clk.coreReq } }))
        ∧ (∀ (m : Mux) (new : Bool), completesWith (.clkDeadSource m new) s (fun t =>
          (let x : ClkMux := Tab.get {} s.clk.muxes (muxKey m)
           ∀ p, x.pending = some p → t.pends 60
            ∧ t.clk = Clocks.putMux (muxKey m) (muxEnd (if new then x.selB else p) x) s.clk)
          ∧ ((Tab.get {} s.clk.muxes (muxKey m) : ClkMux).pending = none → t = s)
          ∧ t = { s.reporting t with clk := t.clk }))
        ∧ (∀ k : Fin 30, completesWith (.clkGateStart k) s (fun t =>
          t.clk.starting.getLsbD k.val = (s.clk.starting.getLsbD k.val && !s.clk.gate.getLsbD k.val)
          ∧ (∀ j, j ≠ k.val → t.clk.starting.getLsbD j = s.clk.starting.getLsbD j)
          ∧ t = { s with clk := { s.clk with starting := t.clk.starting } }))
        ∧ completesWith (.clkRefclkLoss true) s (fun t =>
          t.clk = { s.clk with ethRef := false }
          ∧ (s.clk.ethRef = true → t.pends 62 ∧ ∀ p, p < 16 → (t.port p).link = false)
          ∧ t = { s.reporting t with clk := t.clk, ports := t.ports, pool := t.pool })
        ∧ completesWith (.clkRefclkLoss false) s (fun t =>
          t.clk = { s.clk with pcieRef := false }
          ∧ (s.clk.pcieRef = true → t.pends 62 ∧ t.host.pcieUp = false)
          ∧ t = { s.reporting t with clk := t.clk })
        ∧ (∀ eth : Bool, exec (.refclkReturn eth) s = .next { s with clk := if eth then { s.clk with ethRef := true }
            else { s.clk with pcieRef := true } })
        ∧ completesWith .coreDividerChange s (fun t =>
          t.clk.coreReq = s.clk.coreReq.bind (fun b => (muxEnd b (Tab.get {} s.clk.muxes 0)).pending)
          ∧ (∀ b, s.clk.coreReq = some b → t.clk.coreSave = b ∧ (s.clk.coreSave ≠ b → t.pends 63))
          ∧ t = { s.passing t with clk := t.clk }))
  ∧ (∀ s : State,
        completesWith (.hostPcieLink true) s (fun t =>
          t.host.pcieUp = (s.host.pcieUp || (s.isManager && s.clk.pcieRef))
          ∧ (t.host.pcieUp ≠ s.host.pcieUp → t.pends 584) ∧ t = s.reporting t)
        ∧ completesWith (.hostPcieLink false) s (fun t =>
          t.host.pcieUp = false ∧ (s.host.pcieUp = true → t.pends 584) ∧ t = s.reporting t)
        ∧ completesWith (.pciePerst false) s (fun t =>
          t.host.pcieUp = false ∧ t.host.msixTab = [] ∧ t.host.msixMask = 0xFF ∧ t.host.msixPend = 0
          ∧ (s.host.pcieUp = true → t.pends 584) ∧ t = s.reporting t)
        ∧ exec (.pciePerst true) s = .next s)

/-- The rising phase of TIDE_PULSE and of a periodic alarm: the least instant after `t` that lies a whole number of
periods from the base (R56, R62). E is the difference of two Tide positions the shorter way around the wrap of R29: it
lies within half the span, and adding it to Tide gives the position modulo the span. -/
def Obligations.TidePositionArithmetic : Prop :=
  (∀ base period t : Nat, 0 < period →
        t < nextPhase base period t
        ∧ ((nextPhase base period t : Int) - base) % period = 0
        ∧ ∀ u : Nat, t < u → ((u : Int) - base) % period = 0 → nextPhase base period t ≤ u)
  ∧ (∀ pos t : Nat,
        -(tideSpan : Int) ≤ 2 * tideError pos t ∧ 2 * tideError pos t < tideSpan
        ∧ ((t : Int) + tideError pos t - pos) % tideSpan = 0)

/-- What the commands that change the state of Tide do on a manager (R32 to R41, R44, R45, R73, Tables TD-2 and TD-6),
each for the states in which the spec lets it happen. Tide events of R41 to R45 and R73 in the states in which they
have nothing to do leave the device as it was. -/
def Obligations.TideStateCommands : Prop :=
  (∀ s : State,
        (∀ count, s.isManager = true → s.tide.state = .unanchored → completesWith (.tideAnchored count) s (fun t =>
          t.tide.state = .anchored ∧ t.tide.frame = count % 2 ^ 44 ∧ t.tide.tick = 0 ∧ t.tide.stepCnt = s.tide.stepCnt
          ∧ t.clk.steered = true ∧ t.clk.refSrc = s.clk.refFailed ∧ t.pends 32
          ∧ (s.clk.refFailed = false ∨ s.clk.refSrc = true →
              t.clk = { s.clk with steered := true, refSrc := s.clk.refFailed })
          ∧ t = { s.passing t with fresh := t.fresh, clk := t.clk, pool := t.pool, sched := t.sched, snap := t.snap }))
        ∧ (s.tide.state ≠ .unanchored → s.tide.state ≠ .holdover →
            (s.isManager = true → s.eligibleLanes s.tide.anchor = []) → (s.isManager = false → s.timingLost = true) →
            completesWith .tideHoldover s (fun t =>
          t.tide.state = .holdover ∧ t.tide.holdAcc = 0 ∧ t.tide.holdRun = some s.now ∧ t.tide.deciding = false
          ∧ t.tide.stepAt = none ∧ t.tide.ticks = s.tide.ticks ∧ t.clk = { s.clk with steered := false } ∧ t.pends 33
          ∧ t = { s.reporting t with clk := t.clk, tide := t.tide }))
        ∧ (∀ frame tick, s.isManager = true → s.tide.deciding = true → s.tide.stepAt = none →
            completesWith (.tideReacquireDecision frame tick) s (fun t =>
          (let e := tideError (spanTicks frame tick) s.tide.ticks
           if e.natAbs ≤ 777600 then t.tide.state = .slewing ∧ t.tide.error = e ∧ t.tide.errAt = s.now ∧ t.pends 34
           else t.tide.state = s.tide.state ∧ ∃ n : Nat, t.tide.stepAt = some (n % 2 ^ 44, ((n * 777600 : Nat) - e).toNat)
             ∧ spanTicks frame tick + 4 * 777600 ≤ n * 777600 ∧ (s.line.lastEnd : Int) + e ≤ (n * 777600 : Nat)
             ∧ ∀ m : Nat, spanTicks frame tick + 4 * 777600 ≤ m * 777600 → (s.line.lastEnd : Int) + e ≤ (m * 777600 : Nat) →
               n ≤ m)
          ∧ t.tide.deciding = false ∧ t.tide.ticks = s.tide.ticks ∧ t.clk = { s.clk with steered := true }
          ∧ t = { s.reporting t with clk := t.clk, tide := t.tide }))
        ∧ (s.tide.state = .slewing → completesWith .tideSlewDone s (fun t =>
          t.tide.state = .anchored ∧ t.tide.error = 0 ∧ t.tide.ticks = s.tide.ticks ∧ t.pends 32
          ∧ t = { s.reporting t with fresh := t.fresh, clk := t.clk, tide := t.tide, line := t.line }))
        ∧ (∀ count at_, s.isManager = true → s.tide.stepAt = some (count, at_) → s.line.pending = [] →
            completesWith (.tideStep count) s (fun t =>
          t.tide.state = .anchored ∧ t.tide.frame = count % 2 ^ 44 ∧ t.tide.tick = 0 ∧ t.tide.stepAt = none
          ∧ t.tide.stepCnt = (s.tide.stepCnt + 1) % 16 ∧ t.pends 35
          ∧ t = { s.passing t with fresh := t.fresh, clk := t.clk, pool := t.pool, sched := t.sched, snap := t.snap }))
        ∧ (∀ count at_, s.isManager = false → s.tide.announced = some (count, at_) →
            completesWith (.workerStepAnnounce count) s (fun t =>
          t.tide.state = .anchored ∧ t.tide.frame = count % 2 ^ 44 ∧ t.tide.announced = none
          ∧ t.tide.tick = 0 ∧ t.tide.stepCnt = (s.tide.stepCnt + 1) % 16 ∧ t.pends 35
          ∧ t = { s.passing t with fresh := t.fresh, clk := t.clk, pool := t.pool, sched := t.sched, snap := t.snap }))
        ∧ (s.tide.deciding = true → s.tide.state = .holdover → completesWith .tideAbandonPending s (fun t =>
          t.tide = { s.tide with deciding := false, stepAt := none, holdRun := some s.now }
          ∧ t.clk = { s.clk with steered := false } ∧ t = { s with tide := t.tide, clk := t.clk }))
        ∧ (∀ l rest, s.tide.state ≠ .unanchored → s.eligibleLanes s.tide.anchor = l :: rest →
            completesWith .tideAnchorMove s (fun t =>
          t.tide.anchor = l ∧ t.tide.deciding = true ∧ t.tide.stepAt = none ∧ t.tide.ticks = s.tide.ticks ∧ t.pends 36
          ∧ t = { s.reporting t with clk := t.clk, tide := t.tide }))
        ∧ (s.tide.state ≠ .unanchored → s.tide.anchor ≠ 0 → s.laneUp 0 = true → completesWith .tideAnchorReturn s (fun t =>
          t.tide.anchor = 0 ∧ t.tide.deciding = true ∧ t.tide.ticks = s.tide.ticks ∧ t.pends 36
          ∧ t = { s.reporting t with clk := t.clk, tide := t.tide }))
        ∧ (s.tide.state = .holdover → s.tide.limitRaised = false → completesWith .tideHoldLimit s (fun t =>
          t.tide = { s.tide with limitRaised := true } ∧ t.pends 37 ∧ t = { s.reporting t with tide := t.tide })))
  ∧ (∀ s : State,
        (∀ count, s.tide.state ≠ .unanchored → exec (.tideAnchored count) s = .next s)
        ∧ (s.tide.state ≠ .slewing → exec .tideSlewDone s = .next s)
        ∧ (s.tide.state ≠ .holdover → exec .tideHoldLimit s = .next s)
        ∧ (∀ count, (∀ at_, s.tide.stepAt ≠ some (count, at_)) → exec (.tideStep count) s = .next s)
        ∧ (∀ count, (∀ at_, s.tide.announced ≠ some (count, at_)) → exec (.workerStepAnnounce count) s = .next s)
        ∧ (s.tide.anchor = 0 → exec .tideAnchorReturn s = .next s))

/-- The comparators and TIDE_PULSE (R54 to R56, R62, R64): an armed comparator fires, a one-shot one once and a
periodic one with its next target set, with the event of a host alarm if its action asks for it; the pulse rises for
its width where it may and always moves on to the next phase, and falls at its end. -/
def Obligations.AlarmAndPulseCommands : Prop :=
  ∀ s : State,
    (∀ k : Fin 64, (s.alarm k.val).armed = true →
        (s.alarm k.val).target ≤ (s.until (s.alarm k.val).target).tide.ticks → completesWith (.tideAlarm k) s (fun t =>
      ((s.alarm k.val).period = 0 → t.alarm k.val = { s.alarm k.val with fired := true })
      ∧ ((s.alarm k.val).period ≠ 0 → t.alarm k.val = (s.alarm k.val).following t.tide.ticks)
      ∧ (∀ j, (s.alarm j).armed = false ∨ t.tide.ticks < (s.alarm j).target → t.alarm j = s.alarm j)
      ∧ (∀ j, j < 64 → (s.alarm j).armed = true → (s.alarm j).target ≤ t.tide.ticks →
          t.alarm j = (if (s.alarm j).period = 0 then { s.alarm j with fired := true }
            else (s.alarm j).following t.tide.ticks)
          ∧ ((s.alarm j).event = true → 48 ≤ j → t.pends (40 + (j - 48))))
      ∧ t = { s.passing t with fresh := t.fresh, snap := t.snap }))
    ∧ (∀ k : Fin 64, (s.alarm k.val).armed = false → exec (.tideAlarm k) s = .next s)
    ∧ (s.tide.pulse.enable = true → completesWith .tidePulseRise s (fun t =>
      t.tide.pulse.next = nextPhase s.tide.pulse.base (8000 * 777600) t.tide.ticks
      ∧ (s.pulseMay = true → t.tide.pulse.high = true
        ∧ t.tide.pulse.fall = s.tide.pulse.next + s.tide.pulse.width * 777600)
      ∧ (s.pulseMay = false → t.tide.pulse.high = s.tide.pulse.high)
      ∧ t = s.passing t))
    ∧ (s.tide.pulse.high = true → completesWith .tidePulseFall s (fun t =>
      t.tide.pulse.high = false ∧ t.out.head? = some (.pin "TIDE_PULSE" false)
      ∧ t = s.passing t))

/-- Reading TIDE_LO while the host interface answers gives the low 32 bits of the Tide word and puts the upper 32 into
the TIDE_HI shadow; nothing else changes (R69). -/
def Obligations.TideLoReadLatchesTheUpperHalf : Prop :=
  ∀ s : State, s.hostOpen →
    exec .tideLoRead s = .next
      { s with tide := { s.tide with hi := BitVec.ofNat 32 (s.tide.word / 2 ^ 32) }
               out := .read 0x200 (BitVec.ofNat 32 s.tide.word) :: s.out }

/-- Ranging of a worker (R48, R50, R78, R79): the manager keeps the round trip of the side measured and the worker
half of it as the side's offset; a re-measurement that differs by more than 2 ticks for the third time in a row, or
one without an answer, raises TIDE_RANGE and is tried again; a retry sends a TS_REQ. TIDE_SYNC (R47, R48, R53, R481):
the manager sends it to every joined worker, or queues it behind eight unacknowledged messages; a joined worker
mirrors anchor lane and Tide state; one that joins takes the manager's frame count with its own offset; another boot
nonce resets a joined worker. -/
def Obligations.RangingAndTideSync : Prop :=
  (∀ (s : State) (n : NodeNo),
        (∀ rtt : Nat, s.isManager = true → completesWith (.tsReq n 0 rtt) s (fun t =>
          t.ranger n.val = { s.ranger n.val with rttEast := rtt, retryEast := false, nEast := (s.ranger n.val).nEast + 1 }
          ∧ t = { s with tide := { s.tide with rangers := t.tide.rangers }, ring := t.ring }))
        ∧ (∀ rtt : Nat, s.isManager = true → completesWith (.tsReq n 1 rtt) s (fun t =>
          t.ranger n.val = { s.ranger n.val with rttWest := rtt, retryWest := false, nWest := (s.ranger n.val).nWest + 1 }
          ∧ t = { s with tide := { s.tide with rangers := t.tide.rangers }, ring := t.ring }))
        ∧ (∀ rtt : Nat, s.isManager = false → n.val = s.ring.node → completesWith (.tsReq n 0 rtt) s (fun t =>
          t.tide.offEast = rtt / 2 ∧ (t.ranger 0).rttEast = rtt
          ∧ (15 ≤ (s.ranger 0).nEast → 16 ≤ (s.ranger 0).nWest → t.tide.ranged = true)
          ∧ t = { s with tide := { s.tide with
              offEast := t.tide.offEast, rangers := t.tide.rangers, ranged := t.tide.ranged } }))
        ∧ (∀ rtt : Nat, s.isManager = false → n.val = s.ring.node → completesWith (.tsReq n 1 rtt) s (fun t =>
          t.tide.offWest = rtt / 2 ∧ (t.ranger 0).rttWest = rtt
          ∧ (16 ≤ (s.ranger 0).nEast → 15 ≤ (s.ranger 0).nWest → t.tide.ranged = true)
          ∧ t = { s with tide := { s.tide with
              offWest := t.tide.offWest, rangers := t.tide.rangers, ranged := t.tide.ranged } }))
        ∧ (∀ e w : Nat, s.isManager = true → differs e (s.ranger n.val).rttEast = false →
            differs w (s.ranger n.val).rttWest = false → completesWith (.workerRemeasure n e w) s (fun t =>
          t.ranger n.val = { rttEast := e, rttWest := w, diffEast := 0, diffWest := 0, retryEast := false
                             retryWest := false, nEast := (s.ranger n.val).nEast + 1, nWest := (s.ranger n.val).nWest + 1 }
          ∧ t = { s with tide := { s.tide with rangers := t.tide.rangers } }))
        ∧ (∀ e w : Nat, s.isManager = true → differs e (s.ranger n.val).rttEast = true → 2 ≤ (s.ranger n.val).diffEast →
            completesWith (.workerRemeasure n e w) s (fun t =>
          (t.ranger n.val).retryEast = true ∧ (t.ranger n.val).rttEast = (s.ranger n.val).rttEast ∧ t.pends 38
          ∧ t = { s.reporting t with tide := { s.tide with rangers := t.tide.rangers } }))
        ∧ (∀ e w : Nat, s.isManager = false → n.val = s.ring.node → differs e (s.ranger 0).rttEast = false →
            differs w (s.ranger 0).rttWest = false → s.tide.corr = 0 → completesWith (.workerRemeasure n e w) s (fun t =>
          t.tide.offEast = e / 2 ∧ t.tide.offWest = w / 2 ∧ t.tide.corrAt = s.now
          ∧ t.tide.corr = (t.tide.timingOffset : Int) - (s.tide.timingOffset : Int)
          ∧ t.tide.frame = s.tide.frame ∧ t.tide.tick = s.tide.tick
          ∧ t = { s with tide := t.tide }))
        ∧ (∀ side : Side, s.isManager = true → completesWith (.rangingReplyTimeout n side) s (fun t =>
          (if side = 0 then (t.ranger n.val).retryEast else (t.ranger n.val).retryWest) = true ∧ t.pends 38
          ∧ t = { s.reporting t with tide := { s.tide with rangers := t.tide.rangers } }))
        ∧ (∀ side : Side, s.isManager = true → (s.ranger n.val).retryEast = decide (side = 0) →
            (s.ranger n.val).retryWest = decide (side = 1) →
            (Tab.get {} s.ring.peers n.val : Peer).unacked.length < 8 → completesWith (.rangingRetry n) s (fun t =>
          t = s.dccOn side.val n.val .tsReq
          ∧ (let u := (Tab.get {} t.ring.peers n.val : Peer).unacked
             u.length = (Tab.get {} s.ring.peers n.val : Peer).unacked.length + 1
             ∧ ∀ x, u.getLast? = some x → x.msg.dst = n ∧ x.msg.body = .tsReq))))
  ∧ (∀ (s : State) (nonce : BitVec 64) (frame : Nat) (c : Fin 4) (a : Lane),
        let j := s.ring.join
        (s.isManager = true → completesWith (.tideSync nonce frame c a) s (fun t =>
          (∀ n ∈ s.joinedNodes, ∀ p : Peer, p = Tab.get {} s.ring.peers n →
            (p.unacked.length < 8 → ∀ x, (Tab.get {} t.ring.peers n : Peer).unacked.getLast? = some x →
              x.msg.dst.val = n ∧ x.msg.body = .tideSync s.cipher.bootNonce s.tide.frame s.tide.state.code s.tide.anchor)
            ∧ (8 ≤ p.unacked.length → (Tab.get {} t.ring.peers n : Peer).queue
                = p.queue ++ [.tideSync s.cipher.bootNonce s.tide.frame s.tide.state.code s.tide.anchor]))
          ∧ t = { s with ring := t.ring }))
        ∧ (s.isManager = false → j.joined = true → nonce = j.mgrNonce → c.val = s.tide.state.code →
            exec (.tideSync nonce frame c a) s = .next { s with tide := { s.tide with anchor := a.val } })
        ∧ (s.isManager = false → j.joined = true → nonce = j.mgrNonce → c.val ≠ s.tide.state.code →
            completesWith (.tideSync nonce frame c a) s (fun t =>
          t.tide.state.code = c.val ∧ t.tide.anchor = a.val ∧ t.tide.frame = s.tide.frame ∧ t.tide.tick = s.tide.tick
          ∧ (c.val ≠ 2 → t.tide.error = 0) ∧ (c.val = 1 → t.pends 32) ∧ (c.val = 3 → t.pends 34)
          ∧ (c.val = 2 → t.pends 33 ∧ t.tide.limitRaised = false)
          ∧ t.clk.steered = decide (c.val = 1 ∨ c.val = 3)
          ∧ t = { s.reporting t with tide := t.tide, clk := t.clk, line := t.line, fresh := t.fresh }))
        ∧ (s.isManager = false → j.joined = true → nonce ≠ j.mgrNonce →
            exec (.tideSync nonce frame c a) s = .next s.ringReset)
        ∧ (s.isManager = false → j.joined = false → j.step = 5 → s.tide.ranged = true →
            completesWith (.tideSync nonce frame c a) s (fun t =>
          t.ring.join.step = 6 ∧ t.ring.join.mgrNonce = nonce ∧ t.tide.anchor = a.val ∧ t.tide.state.code = c.val
          ∧ t.tide.frame = (frame + s.tide.timingOffset / frameTicks) % frameWrap
          ∧ t.tide.tick = s.tide.timingOffset % frameTicks
          ∧ t = { s.passing t with fresh := t.fresh, clk := t.clk, pool := t.pool, sched := t.sched, snap := t.snap }))
        ∧ (s.isManager = false → j.joined = false → (j.step ≠ 5 ∨ s.tide.ranged = false) →
            exec (.tideSync nonce frame c a) s = .next s))

/-- The resets of Table ST-1 that a pin or the host asks for: where the spec lets one happen the device is left cold
with the cause recorded, the role latched from the straps at a power-on reset and at the release of RESET_N, and the
rails started under R816 once the bus is above its threshold. Where those resets have no effect: any other value of
the host's command and any value on a worker, RESET_N in BEACHED, its release when it is not asserted; in a VIN-fail
sequence RESET_N only waits (R957 to R959). A partial reset raises PARTIAL_RESET with its domain and leaves the
configuration alone (R876, R877): a lane loses its synchronisation and keeps its state, a port its link, a ring side
retrains; the cipher waits for bursts in progress and keeps its keys, its entropy start-up test is due again (Table
CY-3). -/
def Obligations.ResetCommands : Prop :=
  (∀ s : State,
        completesWith .powerOnReset s (fun t => coldLeft true s t ∧ t.start.resetCause = 1
          ∧ t.start.manager = s.start.roleStrap ∧ t.start.flashPresent = s.start.flashStrap
          ∧ t.power.vaon = true ∧ t.power.pg = 0 ∧ t.power.seq = .up 0 ∧ t.power.fails = 0 ∧ t.power.delay = 1
          ∧ t.power.en = (if s.cistern.vinOk then 1 else 0))
        ∧ completesWith .powerOnResetAssert s (fun t => coldLeft true s t ∧ t.start.resetCause = 1
          ∧ t.start.manager = s.start.manager ∧ t.power.vaon = false ∧ t.power.en = 0 ∧ t.power.pg = 0 ∧ t.power.seq = .off)
        ∧ (s.power.state ≠ .beached → s.cistern.run = 0 → completesWith .resetNAssert s (fun t =>
          coldLeft false s t ∧ t.start.resetCause = 2 ∧ t.start.resetPin = false ∧ t.start.manager = s.start.manager
          ∧ (s.power.state ≠ .moored → t.power.en = s.power.en ∧ t.power.seq = s.power.seq)))
        ∧ (s.start.resetPin = false → completesWith .resetNRelease s (fun t =>
          t.start = { s.start with resetPin := true, manager := s.start.roleStrap, flashPresent := s.start.flashStrap }
          ∧ t.clk = { s.clk with oscOn := s.clk.oscOn || decide (s.power.seq = .on) }
          ∧ t = { s with start := t.start, clk := t.clk, out := t.out }))
        ∧ (s.isManager = true → completesWith (.hostCommandReset 0x52535430#32) s (fun t =>
          coldLeft false s t ∧ t.start.resetCause = 4 ∧ t.start.manager = true
          ∧ t.clk.oscOn = decide (s.power.seq = .on))))
  ∧ (∀ s : State,
        (∀ v : W32, v ≠ 0x52535430#32 → exec (.hostCommandReset v) s = .next s)
        ∧ (∀ v : W32, s.isManager = false → exec (.hostCommandReset v) s = .next s)
        ∧ (s.power.state = .beached → exec .resetNAssert s = .next s)
        ∧ (s.power.state ≠ .beached → s.cistern.run ≠ 0 →
            exec .resetNAssert s = .next { s with start := { s.start with deferred := true } })
        ∧ (s.start.resetPin = true → exec .resetNRelease s = .next s))
  ∧ (∀ (s : State) (d : ResetDomain), s.start.fwState ≠ 0 →
        completesWith (.partialReset d) s (fun t =>
          t.pends 103 ∧ t.cfg = s.cfg
          ∧ (∀ n, d = .lane n → (t.lane n.val).sync = false ∧ (t.lane n.val).act = (s.lane n.val).act)
          ∧ (∀ p, d = .port p → (t.port p.val).link = false)
          ∧ (∀ r, d = .ring r → (t.side r.val).trained = false ∧ (t.side r.val).managerSeen = false
            ∧ t.ring.join = s.ring.join)
          ∧ (d = .e1 → t.line = s.line ∧ t.ports = s.ports)
          ∧ (d ≠ .cipher → t.tide = s.tide ∧ t.clk = s.clk ∧ t.cipher = s.cipher ∧ t.power = s.power ∧ t.now = s.now)
          ∧ (d = .cipher → t.cipher = { s.cipher with turn := 0, busy := [], health := {}, raw := [], entropyOk := false }
            ∧ t = { s.passing t with cipher := t.cipher })))

/-- Warm CP restarts, the watchdog and the confirm window (R736, R862, R869 to R875): a warm restart puts FW_STATE to
3, closes the mailboxes, ends every open transaction and every request that waits, and its end brings FW_STATE back; a
bite, 2 s after the watchdog was last restarted, is a warm restart, a second one within 60 s a cold reset that counts;
a window that expires marks the image BAD. The boot ROM's retry (R864, R865): outside a boot nothing happens; in a boot
START_BANK of the header in use is started where its image passes R860 (free values, log 100); with no image that passes
a manager asks both sides of the ring for one and says so on the craft port. The end of a ring boot (R480, R865 to
R867): a failed image is forgotten, and fails the attempt of a worker that waits for it; a good one restarts a joined
worker, lets a joining one go on under its version, and is written to bank A of a manager that boots from it. -/
def Obligations.RestartCommands : Prop :=
  (∀ s : State,
        (s.start.fwState = 2 ∨ s.start.fwState = 4 → completesWith .warmCpRestart s (fun t =>
          t.start.fwState = 3 ∧ t.start.activateAt = none ∧ t.host.mbxReady = false ∧ t.pends 97
          ∧ (∀ m, m < 34 → (t.box m).txn = none ∧ (t.box m).waiting = none) ∧ t.craft.line = [] ∧ t.cfg = s.cfg
          ∧ t = { s.passing t with fresh := t.fresh, start := t.start, pool := t.pool }))
        ∧ (s.start.fwState = 3 → completesWith .warmRestartDone s (fun t =>
          t.start.fwState = (if s.start.maint then 4 else 2) ∧ t.host.mbxReady = s.isManager ∧ t.cfg = s.cfg
          ∧ t = { s.reporting t with
              fresh := t.fresh, start := t.start, power := t.power, line := t.line, pool := t.pool, cipher := t.cipher, adm := t.adm }))
        ∧ exec .watchdogRestart s = .next { s with start := { s.start with lastKick := s.now } }
        ∧ (s.start.fwState = 2 ∨ s.start.fwState = 4 → s.start.lastBite = none → completesWith .watchdogBite s (fun t =>
          t.start.fwState = 3 ∧ t.start.lastBite = some t.now ∧ t.start.lastKick = t.now ∧ t.pends 98 ∧ t.pends 97
          ∧ t.host.mbxReady = false ∧ t.cfg = s.cfg
          ∧ t = { s.passing t with fresh := t.fresh, start := t.start, pool := t.pool }))
        ∧ (s.start.fwState = 3 → completesWith .watchdogBite s (fun t =>
          coldLeft false s t ∧ t.start.resetCause = 3 ∧ t.start.wdCount = s.start.wdCount + 1))
        ∧ exec .watchdogCountClear s = .next { s with start := { s.start with wdCount := if s.start.fwState = 2 then 0
            else s.start.wdCount } }
        ∧ (s.start.unconfirmed = true → completesWith .confirmWindowExpiry s (fun t =>
          (t.start.bank s.start.image).state = .bad ∧ t.start.unconfirmed = false ∧ t.start.fallback = true
          ∧ t.start.target = some s.start.startBank ∧ t.start.fwState = 3 ∧ t.pends 100
          ∧ t = { s.reporting t with
              fresh := t.fresh, start := t.start, pool := t.pool, e1s := t.e1s, craft := t.craft }))
        ∧ (s.start.unconfirmed = false → exec .confirmWindowExpiry s = .next s))
  ∧ (∀ s : State,
        (s.start.booting = false → exec .noValidBankRetry s = .next s)
        ∧ (s.start.booting = true → s.clk.running = true → s.isManager = true → s.start.flashPresent = false →
            completesWith .noValidBankRetry s (fun t =>
          t.start = s.start ∧ t.cfg = s.cfg ∧ .uart "NO IMAGE".toList ∈ t.out ∧ t.ring.sides ≠ s.ring.sides
          ∧ t = s.reporting t))
        ∧ (s.start.booting = true → s.clk.running = true → s.start.hasFlash = true → s.start.headerUsed.isSome = true →
            s.start.readHeader = s.start → (s.start.bank (!s.start.startBank)).state ≠ .trial → s.start.resetCause ≠ 3 →
            completesWith .noValidBankRetry s (fun t =>
          (s.passes s.start.startBank = true →
            t.start.booting = false ∧ t.start.fwState = 2 ∧ t.start.image = s.start.startBank
            ∧ t.start.cpImage = (s.start.bank s.start.startBank).image ∧ t.host.mbxReady = s.isManager
            ∧ .uart (if s.start.startBank then "BOOT B" else "BOOT A").toList ∈ t.out)
          ∧ (s.passes s.start.startBank = false → s.otherBoots = false →
            t.start = s.start ∧ .uart "NO IMAGE".toList ∈ t.out))))
  ∧ (∀ s : State,
        let j := s.ring.join
        (∀ n : NodeNo, j.imgDone = false ∨ j.imgFrom ≠ n.val → exec (.ringBootDone n) s = .next s)
        ∧ (∀ n : NodeNo, j.imgDone = true → j.imgFrom = n.val → completesWith (.ringBootDone n) s (fun t =>
          t.fuses = s.fuses
          ∧ (s.imageResult j.image ≠ 0 → s.isManager = true ∨ j.joined = true ∨ j.step ≠ 4 →
              t = { s with ring := { s.ring with join := { j with imgDone := false, image := [] } } })
          ∧ (s.imageResult j.image ≠ 0 → s.isManager = false → j.joined = false → j.step = 4 →
              t.ring.join.step = 0 ∧ t.ring.join.image = [] ∧ t.ring.join.imgDone = false
              ∧ t.ring.join.holdoff = longer j.holdoff ∧ t.pends 395 ∧ t.pends 399 ∧ t = s.reporting t)
          ∧ (s.imageResult j.image = 0 → s.isManager = false → j.joined = true →
              t.start.fwState = 3 ∧ t.pends 97 ∧ t.host.mbxReady = false ∧ t.ring.join = j ∧ t.cfg = s.cfg ∧ t.tide = s.tide
              ∧ t.line = s.line ∧ t.sched = s.sched ∧ t.clk = s.clk)
          ∧ (s.imageResult j.image = 0 → s.isManager = false → j.joined = false → j.step = 4 → s.start.booting = false →
              t = { s with start := { s.start with fwVersion := imgVersion j.image, cpImage := j.image }
                           ring := { s.ring with
                join := { j with version := imgVersion j.image, image := [], imgDone := false, step := 5
                                 newNonce := false } } })
          ∧ (s.imageResult j.image = 0 → s.isManager = false → j.joined = false → j.step = 4 → s.start.booting = true →
              t.start.fwState = 2 ∧ t.start.booting = false ∧ t.start.fwVersion = imgVersion j.image
              ∧ t.start.cpImage = j.image)
          ∧ (s.imageResult j.image = 0 → s.isManager = false → j.joined = false → j.step ≠ 4 → t = s)
          ∧ (s.imageResult j.image = 0 → s.isManager = true → s.start.booting = true → s.start.hasFlash = true →
              t.start.bankA = { state := .valid, image := j.image, good := true }
              ∧ t.start.startBank = false ∧ t.start.fwState = 2 ∧ t.start.booting = false
              ∧ t.start.fwVersion = imgVersion j.image)
          ∧ (s.imageResult j.image = 0 → s.isManager = true → s.start.booting = false → t = s))))

/-- A thermal sample while the CP is not up, or in MOORED or BEACHED, is only recorded; in service it is recorded and
the steps follow it (R801, R809, R817). Leaving a thermal step (R809, R812, R814): the step in force, and only it,
steps down by one, its event is raised, and step 3 asks for the full CORE clock back; two excluded sensors hold steps
2 and 3. -/
def Obligations.ThermalCommands : Prop :=
  (∀ (s : State) (a b c d : Option Int), s.power.recheckFirst = false →
        completesWith (.thermalSample a b c d) s (fun t =>
          t.power.readings = [a, b, c, d]
          ∧ (s.start.fwState = 0 ∨ s.power.state = .moored ∨ s.power.state = .beached →
              t = { s with power := { s.power with readings := [a, b, c, d] } })
          ∧ t.cfg = s.cfg ∧ t.tide.ticks = s.tide.ticks))
  ∧ (∀ (s : State) (k : Fin 4), k.val ≠ 0 → s.power.step = k.val →
        (∀ tj : Int, tjOf s.power.readings = some tj → tj < 8 * ((stepDeg k.val : Nat) - 5)) →
        (maskCount s.power.sensorBad < 2 → completesWith (.thermalStepExit k) s (fun t =>
          t.power.step = k.val - 1 ∧ t.pends (stepEvent k.val)
          ∧ (k.val = 3 → t.clk.coreReq = some false) ∧ (k.val ≠ 3 → t.clk = s.clk) ∧ t.cfg = s.cfg ∧ t.tide = s.tide
          ∧ t = { s.reporting t with
              power := t.power, clk := t.clk, line := t.line, pool := t.pool, adm := t.adm, craft := t.craft }))
        ∧ (2 ≤ maskCount s.power.sensorBad → 2 ≤ k.val → exec (.thermalStepExit k) s = .next s))

/-- The power-up sequence (R786, R787, R789): a rail that is good lets the next one be enabled, the last of them ends
the sequence and the oscillator is enabled; a rail without PG in its window takes every rail down for a retry whose
delay doubles from 1 s to 64 s; the retry starts from the lowest rail. The power-down sequence and rail faults (R788
to R791): each step drops the rail below, and the lowest ends in BEACHED or, in MOORED's sequence, in MOORED; a rail
that does not fall is recorded; a rail lost in operation resets the device cold and starts the rails again; a failure
in a power-down drops every rail at once. -/
def Obligations.RailCommands : Prop :=
  (∀ s : State,
        (∀ k : Fin 6, k.val ≠ 5 → bit s.power.en k.val = true → s.power.seq = .up k.val →
            completesWith (.railPowerGood k) s (fun t =>
          t = { s with power := { s.power with pg := putBit s.power.pg k.val true, seq := .up (k.val + 1)
                                               en := putBit s.power.en (k.val + 1) true } }))
        ∧ (bit s.power.en 5 = true → s.power.seq = .up 5 → completesWith (.railPowerGood 5) s (fun t =>
          t.power = { s.power with pg := putBit s.power.pg 5 true, seq := .on, fails := 0, delay := 1 }
          ∧ t.clk = { s.clk with oscOn := true } ∧ t = { s with power := t.power, clk := t.clk, start := t.start }))
        ∧ (∀ k : Fin 6, bit s.power.en k.val = true → bit s.power.pg k.val = false → s.power.seq = .up k.val →
            completesWith (.railPgWindowExpiry k) s (fun t =>
          t.power.en = 0 ∧ t.power.pg = 0 ∧ t.power.seq = .retryWait ∧ t.power.fails = s.power.fails + 1
          ∧ t.power.delay = (if s.power.fails = 0 then 1 else min 64 (s.power.delay * 2))
          ∧ t.power.wakeRec.rail = k.val ∧ t.power.wakeRec.phase = 1 ∧ t = { s with power := t.power }))
        ∧ (s.power.seq = .retryWait → exec .powerUpRetry s =
            .next { s with power := { s.power with seq := .up 0, pg := 0, en := 1 } })
        ∧ (s.power.seq ≠ .retryWait → exec .powerUpRetry s = .next s))
  ∧ (∀ s : State,
        (∀ k : Nat, k ≠ 0 → ¬ (k = 4 ∧ bit s.power.en 2 = false) → s.power.seq = .down k →
            completesWith (.railPowerDownStep true) s (fun t =>
          t = { s with power := { s.power with pg := putBit s.power.pg k false, seq := .down (k - 1)
                                               en := putBit s.power.en (k - 1) false } }))
        ∧ (s.power.seq = .down 0 → s.power.wakePresent = none → completesWith (.railPowerDownStep true) s (fun t =>
          t.power.state = .beached ∧ t.power.seq = .off ∧ t.power.entry = none ∧ t.power.pg = putBit s.power.pg 0 false
          ∧ t = { s.reporting t with power := t.power }))
        ∧ (∀ k : Nat, k ≠ 0 → ¬ (k = 4 ∧ bit s.power.en 2 = false) → s.power.seq = .down k →
            completesWith (.railPowerDownStep false) s (fun t =>
          t.power.seq = .down (k - 1) ∧ t.power.wakeRec.rail = k ∧ t.power.wakeRec.phase = 3 ∧ t.power.pg = s.power.pg
          ∧ t.start.pendingEvents = s.start.pendingEvents ++ [4]
          ∧ t = { s with power := t.power, start := { s.start with pendingEvents := t.start.pendingEvents } }))
        ∧ (∀ k n : Nat, s.power.seq = .mooredDown k → mooredBelow k = some n → completesWith (.railPowerDownStep true) s (fun t =>
          t = { s with power := { s.power with pg := putBit s.power.pg k false, seq := .mooredDown n
                                               en := putBit s.power.en n false } }))
        ∧ (∀ k : Nat, s.power.seq = .mooredDown k → mooredBelow k = none → s.power.wakePresent = none →
            completesWith (.railPowerDownStep true) s (fun t =>
          t.power.state = .moored ∧ t.power.seq = .off ∧ t.power.entry = none ∧ t.power.pg = putBit s.power.pg k false
          ∧ t = { s.reporting t with power := t.power }))
        ∧ (∀ k : Fin 6, bit s.power.en k.val = true → bit s.power.pg k.val = true → s.power.seq = .on →
            completesWith (.railPgLost k) s (fun t =>
          t.tide = {} ∧ t.cfg = {} ∧ t.start.resetCause = 6 ∧ t.power.seq = .up 0 ∧ t.power.en = 1 ∧ t.power.pg = 0
          ∧ t.power.wakeRec.cause = 5 ∧ t.power.wakeRec.rail = k.val ∧ t.power.wakeRec.phase = 2))
        ∧ (∀ (k : Fin 6) (j : Nat), bit s.power.en k.val = true → s.power.seq = .down j → s.power.wakePresent = none →
            completesWith (.railFailInPowerDown k) s (fun t =>
          t.power.en = 0 ∧ t.power.pg = 0 ∧ t.power.state = .beached ∧ t.power.seq = .off ∧ t.power.wakeRec.phase = 3
          ∧ t.power.wakeRec.rail = k.val)))

/-- The entry into MOORED and BEACHED and the exits (R722, R797 to R804, Tables PW-4 and PW-5): at the boundary of the
accepted entry the drain begins, or ends at once when it is 0 ms; its end writes the wake record and PWR_CTL and lets
the CP halt; the halt without a pending interrupt drops the core rail; a wake source that comes while the CP halts is
remembered. PWR_STATE_SET on the manager's own node (R721 to R724, Table CB-4): a change between RUN and IDLE waits
for the next frame boundary, an entry to MOORED or BEACHED is kept with its drain, wake sources and frame and answered
DONE, the state that already holds is IGNORED, and so is every request during a firmware write, with an unconfirmed
image or while Itvekor is not in RUN. -/
def Obligations.PowerStateCommands : Prop :=
  (∀ s : State,
        (∀ e : Entry, s.power.entry = some e → e.beached = false → s.power.state = .run ∨ s.power.state = .idle →
            completesWith .mooredEntry s (fun t =>
          t.power.entry = some e
          ∧ (e.drainMs ≠ 0 → t.power.state = .draining)
          ∧ (e.drainMs = 0 → t.power.state = .halting ∧ t.power.pwrMode = 1 ∧ t.power.wakeEn = e.wake)
          ∧ t = s.passing t))
        ∧ (∀ e : Entry, s.power.entry = some e → e.beached = true → s.power.state = .run ∨ s.power.state = .idle →
            completesWith .beachedEntry s (fun t =>
          t.power.state = .halting ∧ t.power.pwrMode = 2 ∧ t.power.wakeRec.valid = true ∧ t = s.passing t))
        ∧ (∀ e : Entry, s.power.entry = some e → s.power.state = .draining → completesWith .drainEnd s (fun t =>
          t.power.state = .halting ∧ t.power.drainLeft = s.pool.queued + s.pool.staged + s.pool.ring
          ∧ t.power.wakeEn = e.wake ∧ t.power.pwrMode = (if e.beached then 2 else 1)
          ∧ t.power.wakeRec.valid = true ∧ t.power.wakeRec.mask = e.wake ∧ t.power.wakeRec.timer = e.timer
          ∧ t.power.wakeRec.entryTide = t.tide.word ∧ t = s.passing t))
        ∧ (s.power.state ≠ .draining → exec .drainEnd s = .next s)
        ∧ exec (.cpWaitHalt true) s = .next s
        ∧ (s.power.state = .halting → s.power.seq = .on → s.power.pwrMode = 1 → completesWith (.cpWaitHalt false) s (fun t =>
          t.power.seq = .mooredDown 5 ∧ t.power.en = putBit s.power.en 5 false ∧ t.clk.running = false
          ∧ t.clk.rootLock = false ∧ t.clk.oscOn = false ∧ t.host.pcieUp = false ∧ t.cfg = s.cfg
          ∧ t = { s.reporting t with
              power := t.power, clk := t.clk, tide := t.tide, line := t.line, pool := t.pool, ports := t.ports }))
        ∧ (s.power.state = .halting → s.power.seq = .on → s.power.pwrMode = 2 → completesWith (.cpWaitHalt false) s (fun t =>
          t.power.seq = .down 5 ∧ t.power.en = putBit s.power.en 5 false ∧ t.clk.running = false
          ∧ t = { s.reporting t with
              power := t.power, clk := t.clk, tide := t.tide, line := t.line, pool := t.pool, ports := t.ports }))
        ∧ (s.power.state = .run → completesWith (.pwWake 1) s (fun t => t = s))
        ∧ (s.power.state = .halting → s.power.pwrMode = 2 → s.power.wakePresent = none → completesWith (.pwWake 1) s (fun t =>
          t = { s with power := { s.power with wakePresent := some 1 } }))
        ∧ (s.power.state = .moored → s.power.seq = .off → bit s.power.wakeEn 0 = true →
            s.power.wakeRec.retVoid = false → completesWith (.pwWake 1) s (fun t =>
          t.power.state = .moored ∧ t.power.wakeRec.wakeCause = 1 ∧ t.power.seq = .mooredUp 2
          ∧ t = { s with power := t.power })))
  ∧ (∀ (s : State) (q : Req) (st d w tm : Nat), s.admits 0x0A00 q → st ≤ 3 →
        (st = 2 → d ≤ 1000 ∧ 1 ≤ w ∧ w ≤ 31 ∧ (bit w 4 = true → 1 ≤ tm ∧ tm ≤ 86400) ∧ (bit w 4 = false → tm = 0)) →
        (st ≠ 2 → d = 0 ∧ w = 0 ∧ tm = 0) →
        q.payload = [0, BitVec.ofNat 8 st] ++ leBytes 2 d ++ leBytes 4 w ++ leBytes 4 tm →
        let free := s.start.fwState = 2 ∧ s.start.unconfirmed = false ∧ s.start.write = none ∧ st ≠ s.power.state.code
        completesWith (.pwrStateSet q) s (fun t =>
          (¬ free → t.answers 0x0A00 q 3 [] ∧ t.power = s.power)
          ∧ (free → st ≤ 1 → t.awaits 0x0A00 q .powerMode ∧ t.power = { s.power with idleReq := some (st == 1) })
          ∧ (free → 2 ≤ st → t.answers 0x0A00 q 0 [] ∧ t.power = { s.power with
              entry := some { beached := st == 3, drainMs := d, wake := w, timer := tm, at_ := s.switchFrame } })
          ∧ t = { s.reporting t with power := t.power }))

/-- The load switches (R844 to R850, Table CS-6): PG ends a soft start, a failure drops the switch for a retry or, the
eighth time, latches it, the retry starts it again, 10 s on clear the count, a pulled board leaves the switch ABSENT,
a board put back finds it OFF with no failures. Nothing but the Cistern changes, and what reporting changes. LSW_SET
on the manager's own node (R725 to R727, R843, R853): ENABLE starts the switch's soft start, or lets it wait for the
end of a VIN-fail sequence; DISABLE drops it; REARM starts a latched one again; an action that changes nothing is
IGNORED; a window other than zero becomes the switch's. REARM in RETRY_WAIT is the model's reading (log 42). -/
def Obligations.LoadSwitchCommands : Prop :=
  (∀ (s : State) (k : Fin 4),
        ((s.lsw k.val).state = .softStart → s.cistern.lswQueue = [] → completesWith (.lswOn k) s (fun t =>
          t.lsw k.val = { s.lsw k.val with state := .on, pg := true } ∧ t.pends (72 + k.val)
          ∧ t = { s.reporting t with cistern := t.cistern }))
        ∧ (∀ c : Fin 5, c.val ≠ 0 → (s.lsw k.val).state = .on → s.cistern.lswQueue = [] → completesWith (.lswFail k c) s (fun t =>
          t.lsw k.val = { s.lsw k.val with fails := (s.lsw k.val).fails + 1, waiting := false
                                           pg := (s.lsw k.val).pg && decide (c.val = 3)
                                           state := if 8 ≤ (s.lsw k.val).fails + 1 then .latched else .retryWait }
          ∧ t.pends (76 + k.val) ∧ (8 ≤ (s.lsw k.val).fails + 1 → t.pends (80 + k.val))
          ∧ t = { s.reporting t with cistern := t.cistern }))
        ∧ ((s.lsw k.val).state = .retryWait → s.cistern.run = 0 → completesWith (.lswRetryExpiry k) s (fun t =>
          t.lsw k.val = { s.lsw k.val with state := .softStart, waiting := false }
          ∧ t = { s.reporting t with cistern := t.cistern }))
        ∧ ((s.lsw k.val).state = .retryWait → s.cistern.run ≠ 0 → completesWith (.lswRetryExpiry k) s (fun t =>
          t.lsw k.val = { s.lsw k.val with waiting := true } ∧ t = { s with cistern := t.cistern }))
        ∧ ((s.lsw k.val).state = .on → completesWith (.lswFailCountClear k) s (fun t =>
          t.lsw k.val = { s.lsw k.val with fails := 0 } ∧ t = { s with cistern := t.cistern }))
        ∧ ((s.lsw k.val).state ≠ .absent → completesWith (.lswPres k) s (fun t =>
          t.lsw k.val = { s.lsw k.val with state := .absent, pg := false, waiting := false } ∧ t.pends (84 + k.val)
          ∧ t = { s.reporting t with cistern := t.cistern }))
        ∧ ((s.lsw k.val).state = .absent → (s.lsw k.val).enable = false → completesWith (.lswReinsertion k) s (fun t =>
          t.lsw k.val = { s.lsw k.val with state := .off, fails := 0, waiting := false } ∧ t.pends (84 + k.val)
          ∧ t = { s.reporting t with cistern := t.cistern })))
  ∧ (∀ (s : State) (q : Req) (k : Fin 4) (w : Byte), w.toNat ≤ 100 →
        let x := s.lsw k.val
        let win := if w.toNat = 0 then x.window else w.toNat
        let begun (y : Lsw) : Lsw :=
          if s.cistern.run ≠ 0 then { y with waiting := true } else { y with state := .softStart, waiting := false }
        let framed (t : State) : Prop :=
          (∀ j, j ≠ k.val → t.lsw j = s.lsw j)
          ∧ t = { s.reporting t with cistern := { s.cistern with switches := t.cistern.switches } }
        (∀ r, r = lswReq q 0 k 0 w → s.admits 0x0A01 r → completesWith (.lswEnable q 0 k w) s (fun t =>
          (if x.enable = true then t.answers 0x0A01 r 3 [] ∧ t.lsw k.val = x
           else t.answers 0x0A01 r 0 [] ∧ t.lsw k.val = (if x.state = .absent ∨ x.state = .latched then
              { x with enable := true, window := win } else begun { x with enable := true, window := win }))
          ∧ framed t))
        ∧ (∀ r, r = lswReq q 0 k 1 w → s.admits 0x0A01 r → completesWith (.lswDisable q 0 k w) s (fun t =>
          (if x.enable = false then t.answers 0x0A01 r 3 [] ∧ t.lsw k.val = x
           else t.answers 0x0A01 r 0 [] ∧ t.lsw k.val = (if x.state = .absent ∨ x.state = .latched then
              { x with enable := false, waiting := false, window := win }
              else { x with enable := false, waiting := false, window := win, pg := false, state := .off }))
          ∧ framed t))
        ∧ (∀ r, r = lswReq q 0 k 2 w → s.admits 0x0A01 r → completesWith (.lswRearm q 0 k w) s (fun t =>
          (if x.state = .latched ∨ x.state = .retryWait then
            t.answers 0x0A01 r 0 [] ∧ t.lsw k.val = (if x.enable then
              begun { x with state := .off, fails := 0, window := win }
              else { x with state := .off, fails := 0, window := win })
           else t.answers 0x0A01 r 3 [] ∧ t.lsw k.val = x)
          ∧ framed t)))

/-- The VIN-fail sequence (R819, R831 to R833, R838 to R841, Table CS-1): outside it and outside MOORED and BEACHED the
loss of VIN raises E_064, stops charging, ends an entry and a drain, orders the dying gasp, takes the ports down and
gates them and, on a manager, warns the workers; the loads are shed into a power-down to BEACHED; a return in time ends
it and the transmitters and waiting switches come back; a worker sheds on the manager's word and is restored by it. The
Cistern's monitor and probe (R816, R821 to R829): a sample stores both balls' readings and the store's voltage, a test
that trips while charging declares the store absent with DYING_GASP_READY down, and the first bus sample above the
return threshold starts the rails; a probe charge starts only on an absent store and its end declares the store
present. -/
def Obligations.CisternCommands : Prop :=
  (∀ s : State,
        (s.cistern.run = 0 → s.power.state = .run → s.cistern.shed = none → completesWith .vinFail s (fun t =>
          t.cistern.vinOk = false ∧ t.cistern.charging = false ∧ t.cistern.probe = false ∧ t.cistern.run = 4
          ∧ t.cistern.snap = some s.cistern.settings ∧ t.cistern.failAt = s.now ∧ t.cistern.switches = s.cistern.switches
          ∧ (∀ l, l ∈ t.cistern.gasp ↔ l < 4 ∧ (s.lane l).act = .o5)
          ∧ (∀ n, n ∈ t.cistern.acks ↔ s.isManager = true ∧ n < 16 ∧ s.joined n = true)
          ∧ t.line.dg = true ∧ (∀ p, p < 16 → (t.port p).link = false ∧ t.clk.gate.getLsbD (8 + p) = false)
          ∧ t.power = { s.power with entry := none, state := .run } ∧ t.pends 64
          ∧ (s.isManager = true → ∀ d, d < 2 → (t.side d).dccTx.length = (s.side d).dccTx.length
              + (dccSlots true (dccWire { s.dccKeys with gen := 0 } (bcastMsg s.self .vinFail))).length)
          ∧ t = { s.reporting t with start := t.start, power := t.power, clk := t.clk, line := t.line, pool := t.pool
                                     ports := t.ports, cistern := t.cistern }))
        ∧ (s.cistern.run ≠ 0 → exec .vinFail s = .next s)
        ∧ (s.cistern.run = 4 → completesWith .vinFailShedLoads s (fun t =>
          t.cistern.run = 6 ∧ t.power.state = .halting ∧ t.power.pwrMode = 2 ∧ t.power.seq = .down 5
          ∧ bit t.power.en 5 = false ∧ t.clk.running = false ∧ t.power.wakeRec.cause = 3
          ∧ (∀ k, k < 4 → (s.lsw k).state ≠ .absent → (s.lsw k).state ≠ .latched → (t.lsw k).state = .off)
          ∧ t = { s.passing t with clk := t.clk, pool := t.pool, ports := t.ports, cistern := t.cistern }))
        ∧ (s.cistern.run ≠ 4 → exec .vinFailShedLoads s = .next s)
        ∧ (s.cistern.run = 0 → completesWith .csVinReturn s (fun t =>
          t.cistern.vinOk = true ∧ t.cistern.charging = ((s.cistern.settings.chgEn && !s.cistern.absent) || s.cistern.probe)
          ∧ t = { s with cistern := t.cistern }))
        ∧ (s.cistern.run = 4 → s.start.deferred = false → completesWith .csVinReturn s (fun t =>
          t.cistern.run = 0 ∧ t.cistern.vinOk = true ∧ t.cistern.snap = none ∧ t.pends 65 ∧ t.line.dg = false
          ∧ (∀ p, p < 16 → (s.cfg.port (s.obj 1 p)).enable = true → t.clk.gate.getLsbD (8 + p) = true)
          ∧ (∀ p, t.port p = { s.port p with idle := (t.port p).idle })
          ∧ t = { s.reporting t with clk := t.clk, line := t.line, ports := t.ports, cistern := t.cistern }))
        ∧ (s.cistern.run = 6 → completesWith .csVinReturn s (fun t =>
          t = { s with cistern := { s.cistern with vinOk := true }, power := { s.power with wakePresent := some 2 } }))
        ∧ (s.isManager = false → s.cistern.run = 0 → s.cistern.shed = none → completesWith .csMgrShed s (fun t =>
          t.cistern = { s.cistern with shed := some s.now } ∧ t.pends 69
          ∧ (∀ p, p < 16 → (t.port p).link = false ∧ t.clk.gate.getLsbD (8 + p) = false)
          ∧ t = { s.reporting t with start := t.start, clk := t.clk, cistern := t.cistern, ports := t.ports
                                     pool := t.pool }))
        ∧ (s.isManager = false → s.cistern.run = 0 → s.cistern.shed.isSome = true →
            completesWith .workerShedRestore s (fun t =>
          t.cistern = { s.cistern with shed := none }
          ∧ (∀ p, p < 16 → (s.cfg.port (s.obj 1 p)).enable = true →
              t.clk.gate.getLsbD (8 + p) = true ∧ (t.port p).idle = false)
          ∧ t = { s.reporting t with clk := t.clk, cistern := t.cistern, ports := t.ports }))
        ∧ (s.isManager = true → exec .csMgrShed s = .next s ∧ exec .workerShedRestore s = .next s))
  ∧ (∀ s : State,
        (∀ v w : Nat, s.cistern.run = 0 → completesWith (.cisternMonitorSample v w) s (fun t =>
          t.cistern.vinBall = v ∧ t.cistern.storeBall = w ∧ t.cistern.lastStore = w * s.cistern.inForce.storeDiv / 1000
          ∧ (s.cistern.charging = true →
              storeTrips s.cistern.inForce s.cistern.lastStore (w * s.cistern.inForce.storeDiv / 1000) = true →
              t.cistern.absent = true ∧ t.cistern.dgReady = false ∧ t.cistern.charging = false ∧ t.pends 66)
          ∧ (s.power.seq = .up 0 → s.power.en = 0 → s.power.vaon = true →
              s.cistern.inForce.vinOk < v * s.cistern.inForce.vinDiv / 1000 →
              t.cistern.vinOk = true ∧ t.power.en = 1)
          ∧ t = { s.reporting t with cistern := t.cistern, power := t.power }))
        ∧ exec .probeChargeStart s = .next { s with cistern :=
            if s.cistern.absent && !s.cistern.probe && decide (s.cistern.run = 0) then
              { s.cistern with probe := true, charging := true } else s.cistern }
        ∧ (s.cistern.probe = true → completesWith .probeChargeEnd s (fun t =>
          t.cistern.probe = false ∧ t.cistern.absent = false ∧ t.pends 67 ∧ t = { s.reporting t with cistern := t.cistern }))
        ∧ (s.cistern.probe = false → exec .probeChargeEnd s = .next s))

/-- How an upstream number of bits is held as ticks and trim, and back (R140): every EqD within R142's limit comes
back as it was sent, and only whole steps of the line rate are held. -/
def Obligations.EqdRoundTrip : Prop :=
  ∀ (r25 : Bool) (bits : Nat), bits ≤ eqdMaxBits r25 →
    eqdBits r25 (eqdOf r25 bits) = bits ∧ (eqdOf r25 bits).ticks ≤ 3110400
    ∧ (eqdOf r25 bits).trim < (if r25 then 4 else 8)

/-- What a lane does with each downstream PLOAM message of Table LN-4 that it hears for the first time (R124, R130,
R134, R135, R139 to R143, R151 to R154, R175, R176); no message changes the configuration, Tide or the clocks. -/
def Obligations.PloamMessages : Prop :=
  ∀ (s : State) (l : Lane) (h : PloamHdr),
    (∀ i p d f c, s.hears l.val h (.burstProfile i p d f c) → completesWith (.burstProfile l h i p d ⟨f, c⟩) s (fun t =>
      (t.lane l.val).profiles.head? = some
        { index := i, preamble := p, delimiter := d, fec := f, since := (s.lane l.val).lastDs }
      ∧ (t.lane l.val).act = (if c = true ∧ (s.lane l.val).act = .o12 then .o23 else (s.lane l.val).act)
      ∧ t = { s.reporting t with
          fresh := t.fresh, power := t.power, line := t.line, pool := t.pool, cipher := t.cipher, adm := t.adm }))
    ∧ (∀ id, s.hears l.val h (.assignOnuId (s.serialOf l.val) id) → (s.lane l.val).act = .o23 →
        completesWith (.assignOnuId l h (s.serialOf l.val) id) s (fun t =>
      (t.lane l.val).act = .o4 ∧ (t.lane l.val).onuId = some id ∧ t.pends (192 + 8 * l.val + 1)
      ∧ t = { s.reporting t with
          fresh := t.fresh, power := t.power, line := t.line, pool := t.pool, cipher := t.cipher, adm := t.adm }))
    ∧ (∀ bits, s.hears l.val h (.rangingTime true false bits) → (s.lane l.val).act = .o4 → bits ≤ eqdMaxBits s.is25 →
        completesWith (.rangingTime l h true false bits) s (fun t =>
      (t.lane l.val).act = .o5 ∧ (t.lane l.val).eqd = eqdOf s.is25 bits
      ∧ (t.lane l.val).eqdFrom = (s.lane l.val).lastDs ∧ t.pends (192 + 8 * l.val + 2)
      ∧ t = { s.reporting t with
          fresh := t.fresh, power := t.power, line := t.line, pool := t.pool, cipher := t.cipher, adm := t.adm }))
    ∧ (∀ bits, s.hears l.val h (.rangingTime true false bits) → eqdMaxBits s.is25 < bits →
        completesWith (.rangingTime l h true false bits) s (fun t =>
      (t.lane l.val).act = (s.lane l.val).act ∧ (t.lane l.val).eqd = (s.lane l.val).eqd
      ∧ t = { s.reporting t with
          fresh := t.fresh, power := t.power, line := t.line, pool := t.pool, cipher := t.cipher, adm := t.adm }))
    ∧ (s.hears l.val h .deactivate → (s.lane l.val).act = .o5 → completesWith (.deactivateOnuId l h) s (fun t =>
      (t.lane l.val).act = (if (s.lane l.val).los then .o11 else .o12) ∧ (t.lane l.val).onuId = none
      ∧ (t.lane l.val).eqd = {} ∧ (t.lane l.val).allocs = [] ∧ (t.lane l.val).upq = []
      ∧ t.pends (192 + 8 * l.val + 3)
      ∧ t = { s.reporting t with
          fresh := t.fresh, power := t.power, line := t.line, pool := t.pool, cipher := t.cipher, adm := t.adm }))
    ∧ (s.hears l.val h (.disableSerial false (s.serialOf l.val)) → (s.lane l.val).act ≠ .o7 →
        completesWith (.disableSerialNumber l h false (s.serialOf l.val)) s (fun t =>
      (t.lane l.val).act = .o7 ∧ (t.lane l.val).onuId = none ∧ t.line.o7Store = putBit s.line.o7Store l.val true
      ∧ t = { s.reporting t with
          fresh := t.fresh, power := t.power, line := t.line, pool := t.pool, cipher := t.cipher, adm := t.adm }))
    ∧ (s.hears l.val h .requestRegistration → (s.lane l.val).onuId.isSome = true → (s.lane l.val).upq.length < 8 →
        completesWith (.requestRegistration l h) s (fun t =>
      (t.lane l.val).upq = (s.lane l.val).upq ++ [.registration (s.cfg.lane l.val).regId]
      ∧ t = { s.reporting t with
          fresh := t.fresh, power := t.power, line := t.line, pool := t.pool, cipher := t.cipher, adm := t.adm }))
    ∧ (∀ id, s.hears l.val h (.assignAllocId id false) → (s.lane l.val).onuId.isSome = true →
        (s.lane l.val).allocs.contains id = false → s.allocCount < 128 →
        completesWith (.assignAllocId l h id false) s (fun t =>
      (t.lane l.val).allocs = (s.lane l.val).allocs ++ [id] ∧ t.pends (192 + 8 * l.val + 7)
      ∧ t = { s.reporting t with
          fresh := t.fresh, power := t.power, line := t.line, pool := t.pool, cipher := t.cipher, adm := t.adm }))
    ∧ (∀ id, s.hears l.val h (.assignAllocId id true) → (s.lane l.val).onuId.isSome = true →
        (s.lane l.val).allocs.contains id = true → completesWith (.assignAllocId l h id true) s (fun t =>
      (t.lane l.val).allocs = (s.lane l.val).allocs.filter (· != id) ∧ t.pends (192 + 8 * l.val + 7)
      ∧ t = { s.reporting t with
          fresh := t.fresh, power := t.power, line := t.line, pool := t.pool, cipher := t.cipher, adm := t.adm }))
    ∧ (∀ b, s.hears l.val h (.keyControl true b) → (s.lane l.val).onuId.isSome = true → s.cipher.entropyOk = true →
        completesWith (.keyControl l h true b) s (fun t =>
      (t.bank l.val b.val).shadow.isSome = true ∧ t.pends 546
      ∧ t = { s.reporting t with
          fresh := t.fresh, power := t.power, line := t.line, pool := t.pool, cipher := t.cipher, adm := t.adm }))
    ∧ (∀ b k, s.hears l.val h (.keyControl false b) → (s.lane l.val).onuId.isSome = true →
        (s.bank l.val b.val).newest = some k → completesWith (.keyControl l h false b) s (fun t =>
      ((s.lane l.val).upq.length < 8 →
        (t.lane l.val).upq = (s.lane l.val).upq ++ [.keyReport (b.val + 1) (aesEcb (s.kekOf l.val) k)])
      ∧ t.cipher = s.cipher
      ∧ t = { s.reporting t with
          fresh := t.fresh, power := t.power, line := t.line, pool := t.pool, cipher := t.cipher, adm := t.adm }))
    ∧ (s.hears l.val h .sleepAllow → h.unicast = true → (s.lane l.val).upq.length < 8 →
        completesWith (.sleepAllow l h) s (fun t =>
      (t.lane l.val).upq = (s.lane l.val).upq ++ [.acknowledge h.seqno ackOk]
      ∧ (t.lane l.val).act = (s.lane l.val).act
      ∧ t = { s.reporting t with
          fresh := t.fresh, power := t.power, line := t.line, pool := t.pool, cipher := t.cipher, adm := t.adm }))
    ∧ (∀ code, s.hears l.val h (.unknown code true) → h.unicast = true → (s.lane l.val).upq.length < 8 →
        completesWith (.ploamUnknownType l h code true) s (fun t =>
      (t.lane l.val).upq = (s.lane l.val).upq ++ [.acknowledge h.seqno ackUnknown]
      ∧ (t.lane l.val).act = (s.lane l.val).act
      ∧ t = { s.reporting t with
          fresh := t.fresh, power := t.power, line := t.line, pool := t.pool, cipher := t.cipher, adm := t.adm }))
    ∧ (∀ m r, h.unicast = true → (s.lane l.val).act ≠ .off → (s.lane l.val).sync = true →
        (s.lane l.val).onuId.isSome = true → s.start.fwState ≠ 3 → (s.lane l.val).upq.length < 8 →
        (s.lane l.val).memo.find? (fun x => h.unicast && x.seqno == h.seqno && x.msg == m) =
          some { seqno := h.seqno, msg := m, resp := some r } →
        completesWith (.ploamDuplicate l h m) s (fun t =>
      (t.lane l.val).upq = (s.lane l.val).upq ++ [r] ∧ (t.lane l.val).act = (s.lane l.val).act
      ∧ (t.lane l.val).memo = (s.lane l.val).memo ∧ t = { s.reporting t with line := t.line }))

/-- A lane that is off or not synchronised hears no PLOAM message, and while a warm CP restart runs the messages are
held for it in order, sixteen of them at most (R874). A PLOAM message whose integrity check fails is counted and
nothing else: of the state beside what reporting changes nothing differs (R146). -/
def Obligations.PloamUnheardOrHeld : Prop :=
  (∀ (s : State) (l : Lane) (h : PloamHdr) (m : PloamMsg),
        ((s.lane l.val).act = .off ∨ (s.lane l.val).sync = false → exec (.ploamDuplicate l h m) s = .next s)
        ∧ ((s.lane l.val).act = .off ∨ (s.lane l.val).sync = false → exec (.ploamMicFail l) s = .next s)
        ∧ ((s.lane l.val).act ≠ .off → (s.lane l.val).sync = true → (s.lane l.val).onuId.isSome = true →
            s.start.fwState = 3 → (s.lane l.val).heldPloam.length < 16 → completesWith (.ploamDuplicate l h m) s (fun t =>
          (t.lane l.val).heldPloam = (s.lane l.val).heldPloam ++ [(h, m)] ∧ (t.lane l.val).act = (s.lane l.val).act
          ∧ t = { s.reporting t with line := t.line })))
  ∧ (∀ (s : State) (l : Lane), (s.lane l.val).act ≠ .off → (s.lane l.val).sync = true →
        completesWith (.ploamMicFail l) s (fun t =>
          Tab.get 0 t.cnt (lnCnt l.val 12) ≠ Tab.get 0 s.cnt (lnCnt l.val 12) ∧ t = s.reporting t))

/-- Loss and gain of the signal and of synchronisation, the two timers and a downstream frame (R131, R132, R164, R177,
Table LN-11): the activation state moves as the table says, an ONU-ID is forgotten on the way to O1. The line's
monitoring (R155 to R157, R163, R165, R166, R180, R181): SD and SF follow a window's figures, RSSI_TRIG is strobed in
O5.1 alone, a rogue burst disables the transmitter and the third within 480,000 frames latches, the guard's release
gives the transmitter back, an OMCI message with a good check is held for delivery and then delivered as far as the
operator's ring has room. -/
def Obligations.LineStateCommands : Prop :=
  (∀ (s : State) (l : Lane),
        ((s.lane l.val).act ≠ .off → (s.lane l.val).los = false → completesWith (.lnLos l true) s (fun t =>
          (t.lane l.val).los = true ∧ t.pends (128 + 16 * l.val)
          ∧ ((s.lane l.val).act = .o5 → (t.lane l.val).act = .o6)
          ∧ ((s.lane l.val).act = .o12 ∨ (s.lane l.val).act = .o23 → (t.lane l.val).act = .o11)
          ∧ ((s.lane l.val).act = .o4 → (t.lane l.val).act = .o11 ∧ (t.lane l.val).onuId = none)
          ∧ t = { s.reporting t with
              line := t.line, pool := t.pool, cipher := t.cipher, adm := t.adm }))
        ∧ ((s.lane l.val).act ≠ .off → (s.lane l.val).los = true → completesWith (.lnLos l false) s (fun t =>
          t.lane l.val = { s.lane l.val with los := false } ∧ t.pends (128 + 16 * l.val)
          ∧ t = { s.reporting t with line := t.line }))
        ∧ ((s.lane l.val).act = .off → ∀ d, exec (.lnLos l d) s = .next s)
        ∧ ((s.lane l.val).sync = true → completesWith (.lnLods l) s (fun t =>
          (t.lane l.val).sync = false ∧ (t.lane l.val).parts = [] ∧ t.pends (128 + 16 * l.val + 1)
          ∧ ((s.lane l.val).act = .o5 → (t.lane l.val).act = .o6)
          ∧ ((s.lane l.val).act = .o12 ∨ (s.lane l.val).act = .o23 → (t.lane l.val).act = .o11)
          ∧ t = { s.reporting t with
              line := t.line, pool := t.pool, cipher := t.cipher, adm := t.adm }))
        ∧ ((s.lane l.val).sync = false → exec (.lnLods l) s = .next s)
        ∧ ((s.lane l.val).act = .o4 → completesWith (.to1Expiry l) s (fun t =>
          (t.lane l.val).onuId = none ∧ t.pends (192 + 8 * l.val + 5)
          ∧ (t.lane l.val).act = (if (s.lane l.val).sync && !(s.lane l.val).los then .o12 else .o11)
          ∧ t = { s.reporting t with
              line := t.line, pool := t.pool, cipher := t.cipher, adm := t.adm }))
        ∧ ((s.lane l.val).act ≠ .o4 → exec (.to1Expiry l) s = .next s)
        ∧ ((s.lane l.val).act = .o6 → completesWith (.to2Expiry l) s (fun t =>
          (t.lane l.val).onuId = none ∧ t.pends (192 + 8 * l.val + 6)
          ∧ (t.lane l.val).act = (if (s.lane l.val).sync && !(s.lane l.val).los then .o12 else .o11)
          ∧ t = { s.reporting t with
              line := t.line, pool := t.pool, cipher := t.cipher, adm := t.adm }))
        ∧ ((s.lane l.val).act ≠ .o6 → exec (.to2Expiry l) s = .next s)
        ∧ (∀ f : DsFrame, f.lane = l → f.inSync = true → (s.lane l.val).act ≠ .off → bit s.clk.laneHold l.val = false →
            s.clk.rootHold = false → completesWith (.downstreamFrame f) s (fun t =>
          (t.lane l.val).sync = true ∧ (t.lane l.val).lastDs = some f.count
          ∧ ((s.lane l.val).sync = false → t.pends (128 + 16 * l.val + 2))
          ∧ ((s.lane l.val).act = .o6 → (s.lane l.val).los = false → (t.lane l.val).act = .o5)
          ∧ ((s.lane l.val).act = .o11 → (s.lane l.val).los = false →
              (t.lane l.val).act = .o12)
          ∧ ((s.lane l.val).act = .o5 → (t.lane l.val).act = .o5)
          ∧ t.cfg = s.cfg ∧ t.tide.ticks = s.tide.ticks
          ∧ t = { s.reporting t with
              clk := t.clk, tide := t.tide, line := t.line, pool := t.pool, sched := t.sched, cipher := t.cipher, adm := t.adm })))
  ∧ (∀ (s : State) (l : Lane),
        (∀ n corr unc : Nat, (s.lane l.val).act ≠ .off → completesWith (.sdSfWindow l n corr unc) s (fun t =>
          let cw := (s.lane l.val).winCw + n
          t.lane l.val = { s.lane l.val with
            sd := (t.lane l.val).sd, sf := decide ((s.cfg.lane l.val).sfThr ≤ (s.lane l.val).winUncorr + unc)
            winCw := 0, winCorr := 0, winUncorr := 0 }
          ∧ ((t.lane l.val).sd = true ↔ 0 < cw
              ∧ cw * 1984 ≤ ((s.lane l.val).winCorr + corr) * 10 ^ (s.cfg.lane l.val).sdThr)
          ∧ ((t.lane l.val).sd ≠ (s.lane l.val).sd → t.pends (128 + 16 * l.val + 3))
          ∧ ((t.lane l.val).sf ≠ (s.lane l.val).sf → t.pends (128 + 16 * l.val + 4))
          ∧ t = { s.reporting t with line := t.line }))
        ∧ (∀ first last : Nat, (s.lane l.val).act = .o5 → (s.lane l.val).txDis = false →
            (s.lane l.val).rssiAt + 8000 ≤ s.bnd → (s.lane l.val).burst = some (first, last) → first + 99533 ≤ last →
            completesWith (.rssiTrig l) s (fun t =>
          .rssi l.val ((first + 49766) % (8 * tideMod)) (((first + 49766) % (8 * tideMod) + 24883) % (8 * tideMod)) ∈ t.out
          ∧ t.lane l.val = { s.lane l.val with rssiAt := s.bnd }
          ∧ (Tab.get {} t.craft.ddm l.val : Ddm).due = true
          ∧ t = { s with line := t.line, craft := { s.craft with ddm := t.craft.ddm }, out := t.out }))
        ∧ ((s.lane l.val).act ≠ .o5 ∨ (s.lane l.val).burst = none → exec (.rssiTrig l) s = .next s)
        ∧ completesWith (.lnRogue l) s (fun t =>
          (t.lane l.val).rogue = true ∧ (t.lane l.val).txDis = true ∧ t.pends (128 + 16 * l.val + 5)
          ∧ (t.lane l.val).rogueLatch = ((s.lane l.val).rogueLatch
              || decide (2 ≤ ((s.lane l.val).rogueAt.filter (fun x => decide (s.bnd ≤ x + 480000))).length))
          ∧ t = { s.reporting t with line := t.line })
        ∧ completesWith (.rogueGuardRelease l) s (fun t =>
          (t.lane l.val).rogue = false
          ∧ ((s.lane l.val).act = .o5 → (s.lane l.val).rogueLatch = false → s.clk.rootHold = false →
              (t.lane l.val).txDis = false)
          ∧ t = { s with line := t.line })
        ∧ (∀ b mic : List Byte, (s.lane l.val).onuId.isSome = true → (s.lane l.val).sync = true →
            mic ≠ s.omciMic l.val false b → completesWith (.omciDownstream l b mic) s (fun t =>
          t.line = s.line ∧ Tab.get 0 t.cnt (lnCnt l.val 16) = (Tab.get 0 s.cnt (lnCnt l.val 16) + 1) % 2 ^ 40
          ∧ t = s.reporting t))
        ∧ (∀ b mic : List Byte, (s.lane l.val).onuId.isSome = true → (s.lane l.val).sync = true →
            mic = s.omciMic l.val false b → s.start.fwState = 3 →
            (s.line.omciHeld.filter (fun x => x.1 == l.val)).length < 32 →
            completesWith (.omciDownstream l b mic) s (fun t =>
          t.line = { s.line with omciHeld := s.line.omciHeld ++ [(l.val, b)] } ∧ t = { s.reporting t with line := t.line }))
        ∧ (∀ b mic : List Byte, (s.lane l.val).onuId.isSome = true → (s.lane l.val).sync = true →
            mic = s.omciMic l.val false b → (s.line.omciHeld.filter (fun x => x.1 == l.val)).length < 32 →
            exec (.omciDownstream l b mic) s = .next
              (State.flushOmci { s.inc (lnCnt l.val 14) with
                line := { s.line with omciHeld := s.line.omciHeld ++ [(l.val, b)] } })))

/-- How much of a packet a caravan with `space` words takes (R199, R200, R250): at most what is left of it and what
fits, a fragment only in the least space for one, and never so that exactly one word is left over where a fragment
could have been cut. The words of a committed caravan add up (R201, R224): an allocation structure adds at most one
caravan to those that wait for launch, for its lane and Alloc-ID, and its DATA and IDLE words fill what its grant
leaves beside the DBRu and PLOAMu words. Staging stops at the limit (R204): after a run-ahead an Alloc-ID holds no
more staged bytes than the smaller of its run-ahead limit and twice the predicted grant, unless it held more before.
-/
def Obligations.CaravanArithmetic : Prop :=
  (∀ (grp : Bool) (left space : Nat), 0 < left →
        fitBytes grp left space ≤ left
        ∧ (fitBytes grp left space ≠ 0 → xgemWords grp (fitBytes grp left space) ≤ space)
        ∧ (fitBytes grp left space ≠ 0 → fitBytes grp left space < left → minSpace grp ≤ space)
        ∧ (fitBytes grp left space ≠ 0 → minSpace grp ≤ space → xgemWords grp (fitBytes grp left space) + 1 ≠ space))
  ∧ (∀ (s t : State) (l : Lane) (a : AllocStruct), exec (.allocationStructure l a) s = .next t →
        t.line.pending = s.line.pending
        ∨ ∃ c, t.line.pending = s.line.pending ++ [c] ∧ c.lane = l.val ∧ c.alloc = a.allocId
            ∧ c.grant = grantWords s.is25 a.grantSize ∧ c.data + c.idle = c.grant - c.ovh)
  ∧ (∀ (s t : State) (a : Fin 128), exec (.runAheadStage a) s = .next t →
        (t.alloc a.val).stagedBytes ≤ max (s.alloc a.val).stagedBytes (s.stageLimit a.val))

/-- The run-ahead (R203 to R209): the packet that the scheduler picks is staged when it fits the limit, nothing is
staged while suspended, in a recount or on a worker; a time-out rewinds what was staged first; a suspension starts
when more than half was rewound and raises CV_RUNAHEAD_SUSPEND, and its end keeps the history. An allocation structure
that is accepted commits a caravan at the launch tick of R192 with the trim of its EqD; one with an uncorrectable HEC
is dropped, one for another ONU does nothing (R186 to R192). The launch (R192, R196, R217, R224): the lane's earliest
caravan leaves as one burst with its idle words and waits no more; one that is not ready is cancelled, and the
allocation counts as missed with CV_NOT_READY; a lane without one does nothing. -/
def Obligations.CaravanCommands : Prop :=
  (∀ (s : State) (a : Fin 128),
        (let s0 := (s.raWindow a.val).dropOvers a.val
         ∀ (k : UpPick) (p : Packet) (r : List Packet),
          s.isManager = true → (s.alloc a.val).suspended = none → s.pool.recount = false →
          s.clk.rootHold = false → s0.upPick a.val true = some k → (s0.queue k.queue).pkts = p :: r → p.writer = 0 →
          (s0.alloc a.val).stagedBytes + p.total ≤ s0.stageLimit a.val → completesWith (.runAheadStage a) s (fun t =>
          ∃ more, (t.alloc a.val).staged = (s.alloc a.val).staged ++ { queue := k.queue, packet := p, frame := s.bnd, tier := k.tier, ptr := k.ptr, deltas := k.deltas } :: more
          ∧ t = { s.reporting t with
              line := t.line, pool := t.pool }))
        ∧ ((s.alloc a.val).suspended.isSome = true ∨ s.pool.recount = true ∨ s.isManager = false ∨ s.clk.rootHold = true →
            exec (.runAheadStage a) s = .next s)
        ∧ (∀ x r, (s.alloc a.val).staged = x :: r → completesWith (.stagedCellTimeout a) s (fun t =>
          (t.alloc a.val).staged = (rewound (fun y => decide (y.frame ≤ x.frame)) [] (s.alloc a.val).staged).2
          ∧ (∀ y ∈ (t.alloc a.val).staged, x.frame < y.frame ∧ y.queue ≠ x.queue)
          ∧ t = { s.reporting t with
              line := t.line, pool := t.pool }))
        ∧ ((s.alloc a.val).staged = [] → exec (.stagedCellTimeout a) s = .next s)
        ∧ ((s.alloc a.val).suspended = none → (s.alloc a.val).winStaged < 2 * (s.alloc a.val).winRewound →
            completesWith (.cvRunaheadSuspend a) s (fun t =>
          t.alloc a.val = { s.alloc a.val with suspended := some s.bnd, winStart := s.bnd, winStaged := 0, winRewound := 0 }
          ∧ t.pends 226 ∧ t = { s.reporting t with line := t.line }))
        ∧ (2 * (s.alloc a.val).winRewound ≤ (s.alloc a.val).winStaged → exec (.cvRunaheadSuspend a) s = .next s)
        ∧ completesWith (.runaheadResume a) s (fun t =>
          t.alloc a.val = { s.alloc a.val with suspended := none } ∧ t = { s with line := t.line }))
  ∧ (∀ (s : State) (l : Lane) (a : AllocStruct),
        (∀ p : BurstProfile, (s.lane l.val).sync = true → a.hec ≠ .uncorrectable → (s.grantOf l.val a).mine = true →
            s.accepts l.val = true → (s.lane l.val).served < s.perFrame → (s.lane l.val).txDis = false →
            s.profileOf l.val a.profile a.frame = some p → a.startTime ≠ 0xFFFF →
            (∀ c, c ∈ s.line.pending → c.lane ≠ l.val) → (s.lane l.val).spans = [] →
            completesWith (.allocationStructure l a) s (fun t =>
          ∃ c, t.line.pending = s.line.pending ++ [c] ∧ c.lane = l.val ∧ c.alloc = a.allocId
            ∧ c.profile = a.profile
            ∧ c.launch = launchTick s.is25 a.frame ((s.lane l.val).eqdAt a.frame) a.startTime p.psbu
                (s.grantOf l.val a).delay s.slewError
            ∧ c.trim = ((s.lane l.val).eqdAt a.frame).trim
          ∧ t = { s.reporting t with
              fresh := t.fresh, line := t.line, pool := t.pool, sched := t.sched }))
        ∧ ((s.lane l.val).sync = true → a.hec = .uncorrectable → completesWith (.allocationStructure l a) s (fun t =>
          t.lane l.val = { s.lane l.val with lastEnd := none } ∧ t.line.pending = s.line.pending
          ∧ t = { s.reporting t with line := t.line }))
        ∧ ((s.lane l.val).sync = true → a.hec ≠ .uncorrectable → (s.grantOf l.val a).mine = false →
            exec (.allocationStructure l a) s = .next s)
        ∧ ((s.lane l.val).sync = false → exec (.allocationStructure l a) s = .next s))
  ∧ (∀ (s : State) (l : Lane),
        (∀ c ecc, s.nextCaravan l.val = some c → (s.lane l.val).txDis = false → s.tide.state ≠ .holdover →
            bit s.clk.laneHold l.val = false → completesWith (.burstLaunch ⟨l, ecc⟩) s (fun t =>
          t.line.pending.length = (s.line.pending.filter (fun x => x ≠ c)).length
          ∧ (∃ frames, .burst (c.sent frames) ∈ t.out)
          ∧ t = { s.passing t with pool := t.pool, cipher := t.cipher }))
        ∧ (∀ c ecc, s.nextCaravan l.val = some c → (s.lane l.val).txDis = true → completesWith (.burstLaunch ⟨l, ecc⟩) s (fun t =>
          c ∉ t.line.pending ∧ t.pends (128 + 16 * l.val + 11) ∧ t = { s.passing t with pool := t.pool }))
        ∧ (s.nextCaravan l.val = none → ∀ ecc, exec (.burstLaunch ⟨l, ecc⟩) s = .next s)
        ∧ (∀ c, s.nextCaravan l.val = some c → completesWith (.cvNotReady l) s (fun t =>
          c ∉ t.line.pending ∧ (t.lane l.val).lastEnd = none ∧ t.pends 224 ∧ t.pends (128 + 16 * l.val + 11)
          ∧ t.cfg = s.cfg
          ∧ t = { s.reporting t with
              line := t.line, pool := t.pool }))
        ∧ (s.nextCaravan l.val = none → exec (.cvNotReady l) s = .next s))

/-- The bonding engine's commands (R258, R264 to R269, R276, R277): a lane out of skew leaves its groups, a lane joins
after its hold time in O5.1, LANE_UP acknowledged, the hold resets, control messages are acted on once, acknowledged
and resent until they are, GROUP_STATE is sent, an expired window gives EXP up. A control message's number is acted on
at most once (R268): the second arrival of one that has been acted on only sends its acknowledgement again. -/
def Obligations.BondingCommands : Prop :=
  (∀ s : State,
        (∀ (l : Lane) (n a : Nat), (s.joinLane l.val).inGroup = true → 8 ≤ (s.lane l.val).skewRun →
            completesWith (.blSkew l n a) s (fun t =>
          t.pends 247 ∧ (t.joinLane l.val).upAcked = false ∧ (t.joinLane l.val).inGroup = false
          ∧ t = { s.reporting t with line := t.line, pool := t.pool, cipher := t.cipher, adm := t.adm }))
        ∧ (∀ (l : Lane) (n a : Nat), (s.joinLane l.val).inGroup = true → n ≠ a → completesWith (.blSkew l n a) s (fun t =>
          (t.joinLane l.val).upAcked = false ∧ (t.joinLane l.val).inGroup = false
          ∧ t = { s.reporting t with line := t.line, pool := t.pool, cipher := t.cipher, adm := t.adm }))
        ∧ (∀ (l : Lane) (n a : Nat), (s.joinLane l.val).inGroup = false ∨ n = a ∧ (s.lane l.val).skewRun < 8 →
            exec (.blSkew l n a) s = .next s)
        ∧ (∀ l : Lane, s.groupsOf l.val ≠ [] → (s.lane l.val).act = .o5 → (s.joinLane l.val).upAcked = true →
            (s.joinLane l.val).inGroup = false → completesWith (.blLaneJoin l) s (fun t =>
          (t.joinLane l.val).inGroup = true ∧ (t.joinLane l.val).rejoinAt = s.bnd ∧ t.pends 244
          ∧ t.adm.due = some (s.tide.frame + 2)
          ∧ t = { s.reporting t with line := t.line, adm := t.adm }))
        ∧ (∀ l : Lane, (s.joinLane l.val).upAcked = false → exec (.blLaneJoin l) s = .next s)
        ∧ (∀ l : Lane, (s.joinLane l.val).inGroup = true → completesWith (.bondingHoldReset l) s (fun t =>
          t.joinLane l.val = { s.joinLane l.val with hold := 8000 } ∧ t = { s with line := t.line }))
        ∧ (∀ l : Lane, (s.joinLane l.val).inGroup = false → exec (.bondingHoldReset l) s = .next s)
        ∧ (∀ (l : Lane) (m : CtrlMsg), (s.groupsOf l.val).contains m.grp.val = true → m.body ≠ .ack →
            (s.group m.grp.val).acted.contains m.msgSeq = false → completesWith (.bondingControlMessage l m) s (fun t =>
          (t.group m.grp.val).acted = m.msgSeq :: (s.group m.grp.val).acted
          ∧ (∀ k, s.ctrlLane m.grp.val = some k →
              ∃ x, .ctrl k { grp := m.grp, msgSeq := m.msgSeq, body := .ack } x ∈ t.out)
          ∧ t = { s.reporting t with
              line := t.line, pool := t.pool }))
        ∧ (∀ (l : Lane) (m : CtrlMsg), (s.groupsOf l.val).contains m.grp.val = true → m.body ≠ .ack →
            (s.group m.grp.val).acted.contains m.msgSeq = true →
            exec (.bondingControlMessage l m) s = .next (s.putCtrl { grp := m.grp, msgSeq := m.msgSeq, body := .ack }))
        ∧ (∀ (g : Fin 64) (n : Nat) (w : CtrlWait), (s.group g.val).waits.find? (fun x => x.msg.msgSeq == n) = some w →
            completesWith (.bondingControlResend g n) s (fun t =>
          (∀ k, s.ctrlLane w.msg.grp.val = some k → ∃ x, .ctrl k w.msg x ∈ t.out)
          ∧ (w.resends + 1 = 8 → t.pends 249)
          ∧ (t.group g.val).waits = (s.group g.val).waits.map (fun y => if y.msg.msgSeq = n then
              { y with resends := y.resends + 1 } else y)
          ∧ t = { s.reporting t with line := t.line }))
        ∧ (∀ g : Fin 64, s.cfg.line.bonded = true → (s.group g.val).lanes ≠ 0 → completesWith (.groupState g) s (fun t =>
          (t.group g.val).msgSeq = ((s.group g.val).msgSeq + 1) % 2 ^ 32
          ∧ (t.group g.val).waits.length = (s.group g.val).waits.length + 1
          ∧ t = { s with line := t.line, out := t.out }))
        ∧ (∀ (g : Fin 64) (e : Nat), (s.group g.val).timer.isSome = true → (s.group g.val).exp = some e →
            (s.group g.val).frags.filter (·.first) = [] → completesWith (.reseqWindowExpiry g) s (fun t =>
          (t.group g.val).frags = [] ∧ (t.group g.val).drop = true ∧ (t.group g.val).timer = none
          ∧ (t.group g.val).building = none
          ∧ (t.group g.val).exp = some ((e + ((s.group g.val).frags.map (fun f => seqAhead e f.seq)).foldl max 0 + 1) % 2 ^ 24)
          ∧ t = { s.reporting t with
              line := t.line, pool := t.pool, sched := t.sched }))
        ∧ (∀ g : Fin 64, (s.group g.val).timer = none → exec (.reseqWindowExpiry g) s = .next s))
  ∧ (∀ (s t : State) (l : Lane) (m : CtrlMsg), m.body ≠ .ack → (s.groupsOf l.val).contains m.grp.val = true →
        exec (.bondingControlMessage l m) s = .next t →
        ∃ u, exec (.bondingControlMessage l m) t = .next u
          ∧ u = t.putCtrl { grp := m.grp, msgSeq := m.msgSeq, body := .ack })

/-- A packet takes its cells one by one by the test of R314, with the unmet reservations of the other directions; the
whole take is allowed just when the quota holds for the last cell and the last cell lies within the minimum or leaves
the unmet reservations free. -/
def Obligations.TakeKeepsReservations : Prop :=
  ∀ (min quota unmet : Nat) (owned : Bool) (n used berth free : Nat),
    takeCells min quota unmet owned n used berth free = .ok ↔
      n = 0 ∨ (n ≤ free ∧ (owned = true → berth + n ≤ quota) ∧ (used + n ≤ min ∨ unmet + n ≤ free))

/-- A packet that enters (R289, R295, R314, R315, R321, R345, R512): linked whole to the tail of its queue with its
check value, out of FREE into QUEUED, when R314 allows all its cells; otherwise it is discarded and counted, and
neither a queue nor the ledger changes. A flush that acts (R304, R308): the packets written before its flush point
leave the queue for FREE, each of them counted in FLUSH_DROP and in no other count of the queue; while the queue's
packet is being transmitted it waits. -/
def Obligations.PacketCommands : Prop :=
  (∀ (s : State) (q : Fin 4096) (bytes : List Byte), bytes.length ≤ 16384 →
        let p := mkPacket bytes false (s.cfg.ownerOf (s.obj 2 q.val))
        let shut := (s.intakeStopped && dirOf q.val != 3) || !s.egressTakes q.val
          || (decide (2048 ≤ q.val) && !s.cfg.upEnabled q.val)
        p.check = crc32c bytes
        ∧ (∀ e, s.queueUsed q.val = true → bytes ≠ [] → s.pool.recount = true →
            exec (.packetEnqueue q ⟨bytes, e⟩) s = .next (s.inc 0x5C2))
        ∧ (∀ e, s.queueUsed q.val = true → bytes ≠ [] → s.pool.recount = false → shut = true →
            exec (.packetEnqueue q ⟨bytes, e⟩) s = .next (s.queueDrop q.val 1))
        ∧ (s.queueUsed q.val = true → bytes ≠ [] → s.pool.recount = false → shut = false →
            s.mayTake q.val p.owner p.cells = .ok → completesWith (.packetEnqueue q ⟨bytes, .none⟩) s (fun t =>
          (t.queue q.val).pkts = (s.queue q.val).pkts ++ [p] ∧ (∀ j, j ≠ q.val → t.queue j = s.queue j)
          ∧ t.pool = { s.pool with
              queues := t.pool.queues, low := t.pool.low,
              free := s.pool.free - p.cells, queued := s.pool.queued + p.cells }
          ∧ t = { s.reporting t with pool := t.pool }))
        ∧ (∀ e, s.queueUsed q.val = true → bytes ≠ [] → s.pool.recount = false → shut = false →
            s.mayTake q.val p.owner p.cells ≠ .ok → completesWith (.packetEnqueue q ⟨bytes, e⟩) s (fun t =>
          Tab.get 0 t.cnt (0x8000 + 4 * q.val + 1) = (Tab.get 0 s.cnt (0x8000 + 4 * q.val + 1) + 1) % 2 ^ 40
          ∧ t = s.reporting t))
        ∧ (∀ e, s.queueUsed q.val = false ∨ bytes = [] → exec (.packetEnqueue q ⟨bytes, e⟩) s = .next s))
  ∧ (∀ (s : State) (q : Fin 4096),
        (∀ n, (s.queue q.val).flush = some n → (s.queue q.val).sending = false → s.pool.recount = false →
            s.hasStaged q.val = false → completesWith (.flushAct q) s (fun t =>
          (t.queue q.val).flush = none
          ∧ (t.queue q.val).pkts = ((s.queue q.val).pkts.take n).filter (fun p => p.writer != 0)
              ++ (s.queue q.val).pkts.drop n
          ∧ (∀ j, j ≠ q.val → t.queue j = s.queue j)
          ∧ t.pool.free = s.pool.free + sumCells (((s.queue q.val).pkts.take n).filter (fun p => p.writer == 0))
          ∧ Tab.get 0 t.cnt (0x8000 + 4 * q.val)
              = (Tab.get 0 s.cnt (0x8000 + 4 * q.val)
                + (((s.queue q.val).pkts.take n).filter (fun p => p.writer == 0)).length) % 2 ^ 40
          ∧ Tab.get 0 t.cnt (0x8000 + 4 * q.val + 1) = Tab.get 0 s.cnt (0x8000 + 4 * q.val + 1)
          ∧ t = { s.reporting t with pool := t.pool }))
        ∧ ((s.queue q.val).sending = true ∨ (s.queue q.val).flush = none ∨ s.pool.recount = true
            ∨ s.hasStaged q.val = true → exec (.flushAct q) s = .next s))

/-- The threshold and rollover FIFOs (R299 to R303, R764, R773 to R775): a worker's entry is posted and its event
raised while there is room; a full FIFO discards it, sets the overflow flag and raises the overflow event once; a read
gives the head and removes it, an empty FIFO reads 0xFFFFFFFF and removes nothing, and a read that leaves it empty
re-arms the overflow event. -/
def Obligations.FifoCommands : Prop :=
  ∀ s : State,
    (∀ (node : NodeNo) (q : Fin 4096) (f : BitVec 16), s.isManager = true → s.joined node.val = true →
        s.evt.qthFifo.any (fun w => w.toNat / 2 ^ 16 == (qthEntry node.val q.val f.toNat).toNat / 2 ^ 16) = false →
        completesWith (.qthRelay node q f) s (fun t =>
      (if s.evt.qthFifo.length < 1024 then
        t.evt.qthFifo = s.evt.qthFifo ++ [qthEntry node.val q.val f.toNat] ∧ t.pends 288
       else t.evt.qthFifo = s.evt.qthFifo ∧ t.evt.qthOvf = true ∧ t.evt.qthHush = true
        ∧ (s.evt.qthHush = false → t.pends 289))
      ∧ t = s.reporting t))
    ∧ (∀ (node : NodeNo) (q : Fin 4096) (f : BitVec 16),
        s.isManager = false ∨ s.joined node.val = false
          ∨ s.evt.qthFifo.any (fun w => w.toNat / 2 ^ 16 == (qthEntry node.val q.val f.toNat).toNat / 2 ^ 16) = true →
        exec (.qthRelay node q f) s = .next s)
    ∧ (∀ (node : NodeNo) (i : BitVec 16) (f : BitVec 12), s.isManager = true → s.joined node.val = true →
        completesWith (.rolloverRelay node i f) s (fun t =>
      (if s.evt.cntFifo.length < 512 then
        t.evt.cntFifo = s.evt.cntFifo ++ [cntEntry node.val f.toNat i.toNat] ∧ t.pends 480
       else t.evt.cntFifo = s.evt.cntFifo ∧ t.evt.cntOvf = true ∧ t.evt.cntHush = true
        ∧ (s.evt.cntHush = false → t.pends 481))
      ∧ t = s.reporting t))
    ∧ (∀ (node : NodeNo) (i : BitVec 16) (f : BitVec 12), s.isManager = false ∨ s.joined node.val = false →
        exec (.rolloverRelay node i f) s = .next s)
    ∧ (∀ i : BitVec 16, cntNamed i.toNat = true → Tab.get 0 s.cnt i.toNat < 2 ^ 39 →
        completesWith (.cntHalf i) s (fun t =>
      (s.isManager = true → i.toNat < 0x600 ∨ 0x710 ≤ i.toNat → Tab.get 0 t.cnt i.toNat = 2 ^ 39)
      ∧ (s.isManager = true → s.evt.cntFifo.length < 512 →
          t.evt.cntFifo = s.evt.cntFifo ++ [cntEntry s.self s.tide.frame i.toNat] ∧ t.pends 480)
      ∧ (s.isManager = false → t.pends 480)
      ∧ t = s.reporting t))
    ∧ (∀ i : BitVec 16, cntNamed i.toNat = false ∨ 2 ^ 39 ≤ Tab.get 0 s.cnt i.toNat → exec (.cntHalf i) s = .next s)
    ∧ (s.hostOpen → s.evt.qthFifo = [] → exec .qthFifoDataRead s = .next
        { s with evt := { s.evt with qthHush := false }, out := .read 0x1150 0xFFFFFFFF :: s.out })
    ∧ (∀ w rest, s.hostOpen → s.evt.qthFifo = w :: rest → completesWith .qthFifoDataRead s (fun t =>
      t.evt = { s.evt with qthFifo := rest, qthHush := s.evt.qthHush && !rest.isEmpty }
      ∧ t.out = .read 0x1150 w :: s.out
      ∧ (w.toNat / 2 ^ 28 = s.self → (t.queue (w.toNat / 2 ^ 16 % 4096)).unread = false)
      ∧ (∀ j, j ≠ w.toNat / 2 ^ 16 % 4096 → t.queue j = s.queue j)
      ∧ t = { s with evt := t.evt, out := t.out, pool := { s.pool with queues := t.pool.queues } }))
    ∧ (s.hostOpen → s.evt.cntFifo = [] → exec .cntFifoDataRead s = .next
        { s with evt := { s.evt with cntHush := false }, out := .read 0x1158 0xFFFFFFFF :: s.out })
    ∧ (∀ w rest, s.hostOpen → s.evt.cntFifo = w :: rest → exec .cntFifoDataRead s = .next
        { s with evt := { s.evt with cntFifo := rest, cntHush := s.evt.cntHush && !rest.isEmpty }
                 out := .read 0x1158 w :: s.out })

/-- A breach and its repair (R287, R318 to R321, R324, R328): a descriptor error raises POOL_ECC_UNCORR, is a CELLS
breach and starts a recount, or only cuts a list when one runs; the end of a recount gives every cell that the walk
did not reach back to FREE and raises LEDGER_RECOUNT_DONE; the audit latches the class counts unless a recount runs,
starts a recount when they do not add up, and forgets the frame's bursts; returned cells go to FREE, failed ones are
retired in TEST and admission runs again. -/
def Obligations.LedgerCommands : Prop :=
  ∀ s : State,
    (∀ (q : Fin 4096) (n : Nat), completesWith (.descriptorEccError q n) s (fun t =>
      t.pends 257
      ∧ (s.pool.recount = true → t.pool = { s.pool with cuts := (q.val, n) :: s.pool.cuts })
      ∧ (s.pool.recount = false → t.pends 260 ∧ t.pool.recount = true ∧ t.pool.cuts = (q.val, n) :: s.pool.cuts)
      ∧ (s.pool.recount = false → (∀ w, w ≠ 0 → s.writing w = none) → s.ring.reasm = [] → t.pool = { s.pool with
          cuts := (q.val, n) :: s.pool.cuts, cellBrk := true, recount := true, recountAt := t.pool.recountAt,
          breaches := min 0xFFFF (s.pool.breaches + 1), recounts := min 0xFFFF (s.pool.recounts + 1) })
      ∧ t = { s.reporting t with line := t.line, pool := t.pool, ports := t.ports }))
    ∧ (s.pool.recount = true → completesWith .ledgerRecountDone s (fun t => ∃ u : State,
      t = u.releaseFlushes ∧ u.pool.recount = false ∧ u.pool.cuts = [] ∧ u.pends 261
      ∧ u.pool.free = 262144 - (u.pool.queued + u.pool.staged + u.pool.ring + u.pool.test + u.pool.cp)
      ∧ u.pool.test = s.pool.borrowed + s.pool.retired ∧ u.pool.ring = s.pool.ring ∧ u.pool.cp = s.pool.cp
      ∧ u = { s.reporting u with pool := u.pool }
      ∧ t = { s.reporting t with
          pool := t.pool }))
    ∧ (s.pool.recount = false → exec .ledgerRecountDone s = .next s)
    ∧ (s.clk.rootHold = true → exec .ledgerAudit s = .next s)
    ∧ (s.clk.rootHold = false → completesWith .ledgerAudit s (fun t =>
      t.pool.latch = (if s.pool.recount then s.pool.latch else s.pool.now t.tide.frame)
      ∧ t.pool.recount = (s.pool.recount || !s.pool.cellsOk)
      ∧ (s.pool.recount = false → s.pool.cellsOk = false → t.pool.cellBrk = true ∧ t.pends 260)
      ∧ t.pool.grantBad = []
      ∧ (s.pool.cellsOk = true → s.pool.grantBad = [] →
          t.pool.free = s.pool.free ∧ t.pool.queued = s.pool.queued ∧ t.pool.queues = s.pool.queues
          ∧ t = { s.passing t with pool := t.pool, sched := t.sched })
      ∧ t = { s.passing t with pool := t.pool, sched := t.sched, ports := t.ports, cipher := t.cipher, adm := t.adm }))
    ∧ (∀ (cells failed : Nat) (ecc : List Ecc), completesWith (.sweepReturn cells ⟨failed, ecc⟩) s (fun t =>
      (let k := min cells s.pool.borrowed
       let f := min failed k
       t.pool = { s.pool with
          borrowed := s.pool.borrowed - k, free := s.pool.free + (k - f),
          test := s.pool.test - (k - f), retired := s.pool.retired + f, low := t.pool.low }
       ∧ (0 < f → t.pends 265 ∧ t.adm.due = some (s.tide.frame + 2)) ∧ (f = 0 → t.adm = s.adm))
      ∧ t = { s.reporting t with pool := t.pool, adm := { s.adm with due := t.adm.due } }))

/-- The background sweep takes a cell from FREE into TEST only while FREE exceeds the unmet reservations by more than
4,096 cells, and holds at most 1,024 at once. -/
def Obligations.SweepBorrowsOnlySpareCells : Prop :=
  ∀ (s : State) (cells : Nat), completesWith (.sweepBorrow cells) s (fun t =>
    (∃ n, n ≤ cells ∧ t = { s with pool := { s.pool with
        free := s.pool.free - n, test := s.pool.test + n, borrowed := s.pool.borrowed + n } }
      ∧ (n ≠ 0 → s.unmet 4 + 4096 + n ≤ s.pool.free ∧ s.pool.borrowed + n ≤ 1024)
      ∧ (n < cells → 1024 ≤ s.pool.borrowed + n ∨ s.pool.free ≤ s.unmet 4 + 4096 + n)))

/-- Gates, the calendar wheel and replication (R359 to R363, R386, R389, R976, R977): a swap makes the administrative
list operational and raises GATE_SWAP, a change puts the gates of the entry in force, a slot takes an unparked queue
off the wheel, slot 0 unparks every queue within the horizon, a replicator sends its head packet to each member and
frees it. Egress service (R355 to R357, R369, R974): when heads that may never be sent are discarded, the highest
eligible strict class starts its head packet, which is then being transmitted; whichever queue starts is one of the
port's own; a port that is down, busy or in a recount starts nothing. -/
def Obligations.SchedulingCommands : Prop :=
  (∀ s : State,
        (∀ (p : PortNo) (a : GateCfg) (w : Nat), (s.gate p.val).admin = some (a, w) → s.clk.rootHold = false →
            completesWith (.gateSwap p) s (fun t =>
          (t.gate p.val).oper = (if a.entries.isEmpty then none else some a) ∧ (t.gate p.val).admin = none
          ∧ (t.gate p.val).mask = gateMask (t.gate p.val).oper t.tide.ticks ∧ t.pends 290
          ∧ (∀ j, j ≠ p.val → t.gate j = s.gate j)
          ∧ t = { s.passing t with sched := t.sched }))
        ∧ (∀ p : PortNo, (s.gate p.val).admin = none ∨ s.clk.rootHold = true → exec (.gateSwap p) s = .next s)
        ∧ (∀ p : PortNo, completesWith (.gateChange p) s (fun t =>
          t.gate p.val = { s.gate p.val with mask := gateMask (s.gate p.val).oper t.tide.ticks }
          ∧ (∀ j, j ≠ p.val → t.gate j = s.gate j)
          ∧ (gateMask (s.gate p.val).oper s.tide.ticks ≠ (s.gate p.val).mask → t = { s with sched := t.sched })
          ∧ t = { s.passing t with sched := t.sched }))
        ∧ (∀ q : Fin 128, completesWith (.calendarRelease q) s (fun t =>
          t.queue q.val = (if (s.queue q.val).parked || s.clk.rootHold then s.queue q.val
            else { s.queue q.val with release := none })
          ∧ (∀ j, j ≠ q.val → t.queue j = s.queue j)
          ∧ t = { s.passing t with pool := { s.pool with queues := t.pool.queues } }))
        ∧ completesWith .calendarUnpark s (fun t =>
          (∀ q, t.queue q = if decide (q < 128) && (s.queue q).parked
              && (s.queue q).release.any (fun r => decide (r ≤ t.now + 4194304)) && !s.clk.rootHold
            then { s.queue q with parked := false } else s.queue q)
          ∧ t = { s.passing t with pool := { s.pool with queues := t.pool.queues } })
        ∧ (∀ (g : Fin 256) (x : Packet) (r : List Packet) (p c : Nat), (s.queue (1536 + g.val)).pkts = x :: r →
            s.pool.recount = false → s.clk.rootHold = false → x.writer = 0 →
            (s.cfg.mcast (s.obj 0xC g.val)).members = [(p, c)] → p < 16 → c < 8 →
            (s.cfg.mcast (s.obj 0xC g.val)).nodeMask = 0 → s.intakeStopped = false → s.egressTakes (8 * p + c) = true →
            s.mayTake (8 * p + c) (s.cfg.ownerOf (s.obj 0xC g.val)) x.cells = .ok →
            completesWith (.mcastReplicate ⟨g, .none⟩) s (fun t =>
          (t.queue (8 * p + c)).pkts
            = (s.queue (8 * p + c)).pkts ++ [{ x with owner := s.cfg.ownerOf (s.obj 0xC g.val) }]
          ∧ (t.queue (1536 + g.val)).pkts = r
          ∧ t = { s.reporting t with pool := t.pool }))
        ∧ (∀ (g : Fin 256) (x : Packet) (r : List Packet) (e : Ecc), (s.queue (1536 + g.val)).pkts = x :: r →
            s.pool.recount = false → s.clk.rootHold = false → x.writer = 0 → completesWith (.mcastReplicate ⟨g, e⟩) s (fun t =>
          (t.queue (1536 + g.val)).pkts = r ∧ t = { s.reporting t with pool := t.pool }))
        ∧ (∀ (g : Fin 256) (e : Ecc), (s.queue (1536 + g.val)).pkts = [] ∨ s.pool.recount = true ∨ s.clk.rootHold = true →
            exec (.mcastReplicate ⟨g, e⟩) s = .next s))
  ∧ (∀ (s : State) (p : PortNo),
        let s1 := (List.range 8).foldl (fun t c =>
          (State.dropHeads (8 * p.val + c) (t.queue (8 * p.val + c)).pkts t).shape (8 * p.val + c)) s
        let strict := ((List.range (s1.cfg.schedOf (s1.obj 1 p.val)).nstrict).map (fun i => 7 - i)).find?
          (fun c => s1.eligible p.val c)
        (∀ c h r, (s.port p.val).link = true → (s.port p.val).tx = none → s.pool.recount = false → s.clk.rootHold = false →
            strict = some c → (s1.queue (8 * p.val + c)).pkts = h :: r → completesWith (.egressStart p) s (fun t =>
          (t.port p.val).tx = some { queue := 8 * p.val + c, packet := h, charged := s1.headLen (8 * p.val + c) h }
          ∧ (t.queue (8 * p.val + c)).sending = true ∧ (t.queue (8 * p.val + c)).pkts = h :: r
          ∧ t = { s.reporting t with
              pool := t.pool, sched := t.sched, ports := t.ports }))
        ∧ completesWith (.egressStart p) s (fun t =>
          (∀ x, (s.port p.val).tx = none → (t.port p.val).tx = some x →
            x.queue / 8 = p.val ∧ (t.queue x.queue).sending = true ∧ (t.queue x.queue).pkts.head? = some x.packet)
          ∧ (∀ j, j ≠ p.val → t.port j = s.port j)
          ∧ t = { s.reporting t with pool := t.pool, ports := t.ports, sched := { s.sched with drrPtr := t.sched.drrPtr } })
        ∧ ((s.port p.val).link = false ∨ (s.port p.val).tx.isSome = true ∨ s.pool.recount = true ∨ s.clk.rootHold = true →
            exec (.egressStart p) s = .next s))

/-- A policer never grants more than its buckets hold (R338, R371 to R374, RFC 2698): after a metered frame both
buckets lie within their sizes, a green frame's length has left both, a yellow one's the peak bucket, a red one's
neither. -/
def Obligations.MeterKeepsItsBuckets : Prop :=
  ∀ (c : PolicerCfg) (len now : Nat) (i : Colour) (b : PolicerState),
    let r := meter c len now i b
    let cb := b.c.accrue c.cir c.cbs now
    let pb := b.p.accrue c.pir c.pbs now
    r.2.c.tok ≤ c.cbs * byteUnits ∧ r.2.p.tok ≤ c.pbs * byteUnits
    ∧ (r.1 = .green → r.2.c.tok + len * byteUnits = cb.tok ∧ r.2.p.tok + len * byteUnits = pb.tok)
    ∧ (r.1 = .yellow → r.2.c = cb ∧ r.2.p.tok + len * byteUnits = pb.tok)
    ∧ (r.1 = .red → r.2 = { c := cb, p := pb }) ∧ (i = .red → r.1 = .red) ∧ (i = .yellow → r.1 ≠ .green)

/-- Link state (R491 to R493, R512, R515, R516, Table SP-6): a port that may serve comes up, with auto-negotiation
only at its own rate; link down stops its transmission and empties its egress queues; the FAULT code follows its cause
and a change raises SP_FAULT; a PHY that does not answer gives PHY_SILENT. Frames of a port (R292, R494 to R500, R503
to R506, R509, R522): a received frame is discarded by the first row of the receive table that matches, or enters the
queue of the lowest classifier entry that matches, tag edited, where its packet begins as soon as 64 bytes of a frame
that goes on have come; the frame in transmission leaves, never with a valid FCS when its packet is marked, fails its
check or is not complete; a pause ends; PAUSE is sent again while a berth that brought it about holds its quota less the
hysteresis, and once with quanta 0 when none does. -/
def Obligations.PortCommands : Prop :=
  (∀ (s : State) (p : PortNo),
        (∀ r : Option (Fin 6), (s.port p.val).link = false → s.portServes p.val = true → (s.portCfg p.val).anEn = false →
            ((s.portCfg p.val).phyAddr = 0xFF ∨ (s.port p.val).phyLink = true) → completesWith (.spLinkUp p r) s (fun t =>
          t.port p.val = { s.port p.val with fault := 0, link := true, linkFrame := s.tide.frame, heldQueues := false }
          ∧ t.pends (416 + 4 * p.val) ∧ (∀ j, j ≠ p.val → t.port j = s.port j) ∧ t = { s.reporting t with ports := t.ports }))
        ∧ (∀ r : Fin 6, (s.port p.val).link = false → s.portServes p.val = true → (s.portCfg p.val).anEn = true →
            completesWith (.spLinkUp p (some r)) s (fun t =>
          t.port p.val = (if r.val = (s.portCfg p.val).rate then
              { s.port p.val with
                fault := if (s.port p.val).fault = 4 then 4 else 0, link := true, linkFrame := s.tide.frame,
                anRate := some r.val, heldQueues := false }
            else { s.port p.val with anRate := some r.val, fault := 3 })
          ∧ (r.val = (s.portCfg p.val).rate → t.pends (416 + 4 * p.val))
          ∧ ((s.port p.val).fault ≠ (t.port p.val).fault → t.pends (416 + 4 * p.val + 1))
          ∧ (∀ j, j ≠ p.val → t.port j = s.port j) ∧ t = { s.reporting t with ports := t.ports }))
        ∧ (∀ r : Option (Fin 6), (s.port p.val).link = true ∨ s.portServes p.val = false →
            exec (.spLinkUp p r) s = .next s)
        ∧ ((s.port p.val).link = true → completesWith (.spLinkDown p) s (fun t =>
          (t.port p.val).link = false ∧ (t.port p.val).linkFrame = s.tide.frame ∧ (t.port p.val).tx = none
          ∧ (t.port p.val).rx = none ∧ t.pends (416 + 4 * p.val)
          ∧ ((s.port p.val).tx = none → (s.port p.val).rx = none → (∀ j, j ≠ p.val → t.port j = s.port j)
            ∧ (s.pool.recount = false → ∀ c, c < 8 → (s.queue (8 * p.val + c)).sending = false →
              s.hasStaged (8 * p.val + c) = false → (s.queue (8 * p.val + c)).pkts.any (fun k => k.writer != 0) = false →
              (t.queue (8 * p.val + c)).pkts = [])
            ∧ t = { s.reporting t with ports := t.ports, pool := t.pool })
          ∧ t = { s.reporting t with ports := t.ports, pool := t.pool, line := t.line }))
        ∧ ((s.port p.val).link = false → exec (.spLinkDown p) s = .next s)
        ∧ (∀ (c : Fin 6) (r : Option (Fin 6)), (s.portCfg p.val).enable = true → completesWith (.spFault p c r) s (fun t =>
          (t.port p.val).fault = c.val ∧ (c.val = 3 → (t.port p.val).anRate = r.map (·.val))
          ∧ (t.port p.val).link = ((s.port p.val).link && !(c.val == 3 || c.val == 5
              || ((c.val == 1 || c.val == 2) && (s.portCfg p.val).linkHold == 0)))
          ∧ ((s.port p.val).fault ≠ c.val → t.pends (416 + 4 * p.val + 1))
          ∧ ((s.port p.val).tx = none → (s.port p.val).rx = none → (∀ j, j ≠ p.val → t.port j = s.port j))
          ∧ t = { s.reporting t with ports := t.ports, pool := t.pool, line := t.line }))
        ∧ (∀ (c : Fin 6) (r : Option (Fin 6)), (s.portCfg p.val).enable = false → exec (.spFault p c r) s = .next s)
        ∧ (∀ a : Option (BitVec 16), (s.portCfg p.val).phyAddr ≠ 0xFF → s.mdioIdle = false → s.clk.rootHold = false →
            completesWith (.phyPoll p a) s (fun t =>
          (∀ w, a = some w → t.port p.val = { s.port p.val with
              phyStatus := w.toNat, phyLink := w.getLsbD 2,
              fault := if (s.port p.val).fault = 4 then 0 else (s.port p.val).fault })
          ∧ (a = none → t.port p.val = { s.port p.val with fault := 4 })
          ∧ ((s.port p.val).fault ≠ (t.port p.val).fault → t.pends (416 + 4 * p.val + 1))
          ∧ (∀ j, j ≠ p.val → t.port j = s.port j) ∧ t = { s.reporting t with ports := t.ports }))
        ∧ (∀ a : Option (BitVec 16), (s.portCfg p.val).phyAddr = 0xFF ∨ s.mdioIdle = true →
            exec (.phyPoll p a) s = .next s))
  ∧ (∀ (s : State) (p : PortNo),
        (∀ (b : List Byte) (f : Bool), (s.port p.val).link = false → exec (.frameReceive p b f) s = .next s)
        ∧ (∀ b : List Byte, (s.port p.val).link = true → (s.port p.val).rx = none → s.writing (p.val + 1) = none →
            s.clk.rootHold = true → completesWith (.frameReceive p b true) s (fun t =>
          t.clk = { s.clk with holdDrops := s.clk.holdDrops + 1 } ∧ (∀ j, t.port j = s.port j)
          ∧ t = { s with clk := t.clk, ports := t.ports }))
        ∧ (∀ b : List Byte, (s.port p.val).link = true → (s.port p.val).rx = none → s.writing (p.val + 1) = none →
            s.clk.rootHold = false →
            s.pool.recount = true ∨ s.intakeStopped = true ∨ b.length < 64
              ∨ (fcsGood b = false ∧ b.length ≤ (s.portCfg p.val).maxLen) →
            completesWith (.frameReceive p b true) s (fun t =>
          (∀ j, t.port j = s.port j) ∧ t = { s.reporting t with ports := t.ports }))
        ∧ (∀ (b : List Byte) (o : Nat) (e : ClassCfg), s.isManager = true → (s.port p.val).link = true →
            (s.port p.val).rx = none →
            s.clk.rootHold = false → s.pool.recount = false → s.intakeStopped = false → 64 ≤ b.length →
            b.length ≤ (s.portCfg p.val).maxLen → fcsGood b = true → be16At b 12 ≠ 0x8808 →
            s.classify p.val (b.take (b.length - 4)) = some (o, e) → e.policer = 0xFFFF →
            s.egressTakes e.queue = true → (2048 ≤ e.queue → s.cfg.upEnabled e.queue = true) →
            (let x := mkPacket (tagEdit e.tagOp e.tagVid e.tagPcp (b.take (b.length - 4))) false (s.cfg.ownerOf o)
             s.mayTake e.queue x.owner x.cells = .ok) →
            completesWith (.frameReceive p b true) s (fun t =>
          (t.queue e.queue).pkts = (s.queue e.queue).pkts
            ++ [mkPacket (tagEdit e.tagOp e.tagVid e.tagPcp (b.take (b.length - 4))) false (s.cfg.ownerOf o)]
          ∧ Tab.get 0 t.cnt (64 * p.val) = (Tab.get 0 s.cnt (64 * p.val) + b.length) % 2 ^ 40
          ∧ (∀ j, t.port j = s.port j) ∧ t = { s.reporting t with pool := t.pool, ports := t.ports }))
        ∧ (∀ (b : List Byte) (o : Nat) (e : ClassCfg), s.isManager = true → (s.port p.val).link = true →
            (s.port p.val).rx = none →
            s.clk.rootHold = false → s.pool.recount = false → s.intakeStopped = false → 64 ≤ b.length →
            be16At b 12 ≠ 0x8808 → s.classify p.val b = some (o, e) →
            s.egressTakes e.queue = true → (2048 ≤ e.queue → s.cfg.upEnabled e.queue = true) →
            (let x := rxPacket s.cfg o e (rxStored (s.portCfg p.val).maxLen b) false
             s.mayTake e.queue x.owner x.cells = .ok) →
            completesWith (.frameReceive p b false) s (fun t =>
          (t.queue e.queue).pkts = (s.queue e.queue).pkts
            ++ [{ rxPacket s.cfg o e (rxStored (s.portCfg p.val).maxLen b) false with writer := p.val + 1 }]
          ∧ (t.port p.val).rx = some { bytes := b, write := .open_, cls := some (o, e) }
          ∧ (∀ j, j ≠ p.val → t.port j = s.port j) ∧ t = { s.reporting t with pool := t.pool, ports := t.ports }))
        ∧ (∀ (x : TxFrame) (ecc : Ecc), (s.port p.val).tx = some x → s.clk.rootHold = false → x.packet.writer = 0 →
            completesWith (.frameTransmit ⟨p, ecc⟩) s (fun t =>
          let k := x.packet.ecc ecc
          .frame p.val (withFcs (!k.checkOk || k.bad || k.trunc
              || decide ((s.portCfg p.val).maxLen < k.bytes.length + 4))
            (txBytes (s.portCfg p.val).maxLen k.bytes)) ∈ t.out
          ∧ t.port p.val = { s.port p.val with tx := none } ∧ (∀ j, j ≠ p.val → t.port j = s.port j)
          ∧ (t.queue x.queue).sending = false
          ∧ ((s.queue x.queue).flush = none → (t.queue x.queue).pkts = (s.queue x.queue).pkts.drop 1
            ∧ t.pool.free = s.pool.free + x.packet.cells)
          ∧ t = { s.reporting t with ports := t.ports, pool := t.pool }))
        ∧ (∀ (x : TxFrame) (ecc : Ecc), (s.port p.val).tx = some x → s.clk.rootHold = false → x.packet.writer ≠ 0 →
            completesWith (.frameTransmit ⟨p, ecc⟩) s (fun t =>
          .frame p.val (withFcs true x.packet.bytes) ∈ t.out ∧ (t.port p.val).tx = none
          ∧ Tab.get 0 t.cnt (64 * p.val + 49) = (Tab.get 0 s.cnt (64 * p.val + 49) + 1) % 2 ^ 40
          ∧ t = { s.reporting t with ports := t.ports, pool := t.pool }))
        ∧ (∀ ecc : Ecc, (s.port p.val).tx = none ∨ s.clk.rootHold = true → exec (.frameTransmit ⟨p, ecc⟩) s = .next s)
        ∧ (∀ c : Fin 8, completesWith (.pauseExpiry p c) s (fun t =>
          Tab.get 0 (t.port p.val).paused c.val = 0
          ∧ (∀ k, k ≠ c.val → Tab.get 0 (t.port p.val).paused k = Tab.get 0 (s.port p.val).paused k)
          ∧ t.port p.val = { s.port p.val with paused := (t.port p.val).paused }
          ∧ (∀ j, j ≠ p.val → t.port j = s.port j) ∧ t = { s with ports := t.ports }))
        ∧ ((s.port p.val).pauseBerths ≠ [] → s.clk.rootHold = false → completesWith (.pauseTx p) s (fun t =>
          (let high := (s.port p.val).pauseBerths.filter (fun o =>
              decide (s.cfg.quotaOf (o - 1) - (s.portCfg p.val).hyst ≤ s.ownerCells o))
           .frame p.val (pauseFrame (s.portCfg p.val).pauseSa (if high = [] then 0 else (s.portCfg p.val).quanta)) ∈ t.out
           ∧ t.port p.val = { s.port p.val with pauseBerths := high })
          ∧ (∀ j, j ≠ p.val → t.port j = s.port j) ∧ t = { s.reporting t with ports := t.ports }))
        ∧ ((s.port p.val).pauseBerths = [] ∨ s.clk.rootHold = true → exec (.pauseTx p) s = .next s))

/-- The E1 side of a port (R529, R533 to R538, R555): a completed frame enters the slip buffer and drops the oldest of
two, a read takes the oldest or repeats the last and counts a slip, a defect's bit follows its declaration and each
change raises E1_DEFECT, a LOOP port falls back at RCLK loss and returns, the CRC-4 search ends without it; a port that
does not run does nothing. A circuit (R541, R542, R545, R548, R549, R553): F frames make one packet with the next SEQ,
which enters its upstream queue; a packet that is not the circuit's is discarded, the first that is begins playout with
its SEQ; at a start instant the packet whose turn it is plays, or the fill when it is missing, and the next one's turn
comes. -/
def Obligations.E1Commands : Prop :=
  (∀ (s : State) (p : E1No),
        (∀ f : List Byte, s.e1Runs p.val = true → completesWith (.slipBufferWrite p f) s (fun t =>
          t.e1 p.val = { (s.framer p.val f).e1 p.val with
            slip := (s.e1 p.val).slip.drop ((s.e1 p.val).slip.length - 1) ++ [f] }
          ∧ (2 ≤ (s.e1 p.val).slip.length → t.pends (512 + 4 * p.val + 1))
          ∧ (∀ j, j ≠ p.val → t.e1 j = s.e1 j) ∧ t = { s.reporting t with e1s := t.e1s }))
        ∧ (s.e1Runs p.val = true → completesWith (.slipBufferRead p) s (fun t =>
          let s0 := s.until s.tide.boundaryAt
          (∀ f r, (s0.e1 p.val).slip = f :: r → t.e1 p.val = { s0.e1 p.val with
              slip := r, lastRead := f, gather := (s0.e1 p.val).gather ++ (if s0.cesOn p.val then [f] else []) })
          ∧ ((s0.e1 p.val).slip = [] → t.pends (512 + 4 * p.val + 1)
            ∧ t.e1 p.val = { s0.e1 p.val with
              gather := (s0.e1 p.val).gather ++ (if s0.cesOn p.val then [(s0.e1 p.val).lastRead] else []) })
          ∧ (∀ j, j ≠ p.val → t.e1 j = s0.e1 j) ∧ t = s.passing t))
        ∧ (∀ f : List Byte, s.e1Runs p.val = false → exec (.slipBufferWrite p f) s = .next s
          ∧ exec (.slipBufferRead p) s = .next s)
        ∧ (∀ (d : E1Defect) (on : Bool), s.e1Runs p.val = true → (s.e1Cfg p.val).framed = true →
            (s.e1Cfg p.val).crc4 ≠ 0 → (s.e1 p.val).defects.getLsbD (defectPos d) ≠ on →
            completesWith (.e1Defect p d on) s (fun t =>
          (t.e1 p.val).defects.getLsbD (defectPos d) = on
          ∧ (∀ k, k ≠ defectPos d → (t.e1 p.val).defects.getLsbD k = (s.e1 p.val).defects.getLsbD k)
          ∧ t.pends (512 + 4 * p.val) ∧ (∀ j, j ≠ p.val → t.e1 j = s.e1 j)
          ∧ t = { s.reporting t with e1s := t.e1s, fresh := t.fresh }))
        ∧ (∀ (d : E1Defect) (on : Bool), s.e1Runs p.val = false
            ∨ (s.e1 p.val).defects.getLsbD (defectPos d) = on → exec (.e1Defect p d on) s = .next s)
        ∧ (s.e1Runs p.val = true → (s.e1 p.val).rclkLost = false → completesWith (.rclkLoss p) s (fun t =>
          (t.e1 p.val).rclkLost = true ∧ (t.e1 p.val).defects.getLsbD 1 = true
          ∧ ((s.e1 p.val).defects.getLsbD 1 = false ∨ (s.e1Cfg p.val).loopTx = true → t.pends (512 + 4 * p.val))
          ∧ ((s.e1Cfg p.val).loopTx = true → t.pends (512 + 4 * p.val + 1)
            ∧ t.clk.muxes = (s.muxRequest (6 + p.val) false).clk.muxes)
          ∧ t = { s.reporting t with e1s := t.e1s, fresh := t.fresh, clk := { s.clk with muxes := t.clk.muxes } }))
        ∧ (s.e1Runs p.val = false ∨ (s.e1 p.val).rclkLost = true → exec (.rclkLoss p) s = .next s)
        ∧ (s.e1Runs p.val = true → (s.e1Cfg p.val).loopTx = true →
            (Tab.get {} s.clk.muxes (6 + p.val) : ClkMux).selB = false → completesWith (.rclkReturn p) s (fun t =>
          (t.e1 p.val).rclkLost = false ∧ (t.e1 p.val).defects.getLsbD 1 = false
          ∧ t.clk.muxes = (s.muxRequest (6 + p.val) true).clk.muxes
          ∧ t.pends (512 + 4 * p.val) ∧ t.pends (512 + 4 * p.val + 1)
          ∧ t = { s.passing t with fresh := t.fresh, clk := { s.clk with muxes := t.clk.muxes } }))
        ∧ (s.e1Runs p.val = false ∨ (s.e1Cfg p.val).loopTx = false → exec (.rclkReturn p) s = .next s)
        ∧ (s.e1Runs p.val = true → (s.e1Cfg p.val).framed = true → (s.e1Cfg p.val).crc4 = 2 →
            completesWith (.crc4SearchTimeout p) s (fun t =>
          (t.e1 p.val).crc4On = false ∧ (t.e1 p.val).defects.getLsbD 5 = false
          ∧ t.e1 p.val = { s.e1 p.val with crc4On := false, defects := (t.e1 p.val).defects }
          ∧ (∀ k, k ≠ 5 → (t.e1 p.val).defects.getLsbD k = (s.e1 p.val).defects.getLsbD k) ∧ t.pends (512 + 4 * p.val)
          ∧ (∀ j, j ≠ p.val → t.e1 j = s.e1 j) ∧ t = { s.reporting t with e1s := t.e1s }))
        ∧ (s.e1Runs p.val = false ∨ (s.e1Cfg p.val).crc4 ≠ 2 → exec (.crc4SearchTimeout p) s = .next s))
  ∧ (∀ (s : State) (p : E1No),
        let c := s.cesCfg p.val
        let x := s.e1 p.val
        let framed := (s.e1Cfg p.val).framed
        (s.e1Runs p.val = true → s.cesOn p.val = true → c.pktFrames ≤ x.gather.length →
            completesWith (.cesPacketise p) s (fun t =>
          t.e1 p.val = { x with gather := x.gather.drop c.pktFrames, txSeq := (x.txSeq + 1) % 65536 }
          ∧ (∀ j, j ≠ p.val → t.e1 j = s.e1 j)
          ∧ (let l := defectL x.defects
             let pay := if l then List.replicate (payloadLen framed c) 0xFF#8
               else if framed then (x.gather.take c.pktFrames).flatMap (selectSlots c.tsMask) else (x.gather.take c.pktFrames).flatten
             let k := mkPacket (cesPacket framed c x.txSeq l x.lops pay) false (s.cfg.ownerOf (s.obj 8 p.val))
             s.isManager = true → s.pool.recount = false → s.intakeStopped = false → s.egressTakes c.upQueue = true →
             (2048 ≤ c.upQueue → s.cfg.upEnabled c.upQueue = true) → s.mayTake c.upQueue k.owner k.cells = .ok →
             (t.queue c.upQueue).pkts = (s.queue c.upQueue).pkts ++ [k])
          ∧ t = { s.reporting t with e1s := t.e1s, pool := t.pool }))
        ∧ (s.e1Runs p.val = false ∨ s.cesOn p.val = false ∨ x.gather.length < c.pktFrames →
            exec (.cesPacketise p) s = .next s)
        ∧ (∀ k r, s.clocked 6 = true → s.clk.rootHold = false → (s.queue (1200 + p.val)).pkts = k :: r →
            completesWith (.cesPacketArrival p) s (fun t =>
          (t.queue (1200 + p.val)).pkts = r ∧ (∀ j, j ≠ p.val → t.e1 j = s.e1 j)
          ∧ (s.cesOn p.val = false ∨ cesAccepts framed c k.bytes = false → t.e1 p.val = x
            ∧ (t.queue (1208 + p.val)).pkts = (s.queue (1208 + p.val)).pkts)
          ∧ (s.cesOn p.val = true → cesAccepts framed c k.bytes = true → x.playing = false →
            (t.e1 p.val).playing = true ∧ (t.e1 p.val).nextSeq = pktSeq c k.bytes ∧ (t.e1 p.val).rRx = pktR c k.bytes
            ∧ (t.e1 p.val).lRx = pktL c k.bytes
            ∧ (t.queue (1208 + p.val)).pkts = insertSeq c (pktSeq c k.bytes) k (s.queue (1208 + p.val)).pkts)
          ∧ t = { s.reporting t with e1s := t.e1s, pool := t.pool }))
        ∧ (s.clocked 6 = false ∨ (s.queue (1200 + p.val)).pkts = [] → exec (.cesPacketArrival p) s = .next s)
        ∧ (∀ ecc : Ecc, s.e1Runs p.val = true → s.cesOn p.val = true → x.playing = true →
            completesWith (.playoutStartInstant ⟨p, ecc⟩) s (fun t =>
          let s0 := s.until (s.playAt p.val)
          let y := s0.e1 p.val
          (t.e1 p.val).nextSeq = (y.nextSeq + 1) % 65536 ∧ (t.e1 p.val).start = y.start + c.pktFrames
          ∧ ((s0.queue (1208 + p.val)).pkts = [] → (t.e1 p.val).lostRun = y.lostRun + 1 ∧ (t.e1 p.val).playRun = 0
            ∧ (y.skip = false → y.txq = [] → (cesFill framed c y.lastPlayed).headD [] ≠ [] →
              .e1 p.val ((cesFill framed c y.lastPlayed).headD []) ∈ t.out
              ∧ (t.e1 p.val).txq = (cesFill framed c y.lastPlayed).tail))
          ∧ (∀ k r, (s0.queue (1208 + p.val)).pkts = k :: r → pktSeq c k.bytes = y.nextSeq → k.checkOk = true →
              k.bad = false → k.trunc = false → ecc ≠ .uncorrectable →
            (t.queue (1208 + p.val)).pkts = r ∧ (t.e1 p.val).playRun = y.playRun + 1 ∧ (t.e1 p.val).lostRun = 0
            ∧ (y.skip = false → y.txq = [] → (cesFrames framed c k.bytes).headD [] ≠ [] →
              .e1 p.val ((cesFrames framed c k.bytes).headD []) ∈ t.out
              ∧ (t.e1 p.val).txq = (cesFrames framed c k.bytes).tail))
          ∧ t = { s.passing t with pool := t.pool }))
        ∧ (∀ ecc : Ecc, s.e1Runs p.val = false ∨ s.cesOn p.val = false ∨ x.playing = false →
            exec (.playoutStartInstant ⟨p, ecc⟩) s = .next s))

/-- The commands of the cipher block (R570 to R579, R581, R582, R592, R594): raw samples on which a health test fails
take the entropy source out, 4,096 that pass bring it back, the fallback nonce comes from the next start count (and on
a manager the chain key with it), a reseed readies the DRBG, the vault takes a fresh mask, a bank that no committed
burst uses is zeroised, an engine takes its next job, latches its key and gives its output, or LEN_ERR and none. -/
def Obligations.CipherCommands : Prop :=
  ∀ s : State,
    completesWith .cyEntropyFail s (fun t =>
      let r := s.cipher.sample s.nextRaw
      t.cipher = { r.1 with entropyOk := s.cipher.entropyOk && !r.2 }
      ∧ (r.2 = true → s.cipher.entropyOk = true → t.pends 544)
      ∧ t = { s.reporting t with cipher := t.cipher, fresh := s.fresh + 1 })
    ∧ (∀ l : List Bool, s.cipher.entropyOk = false → completesWith (.entropyRetest l) s (fun t =>
      let r := { s.cipher with health := {} }.sample l
      t.cipher = { r.1 with entropyOk := !r.2 && decide (4096 ≤ l.length) }
      ∧ (t.cipher.entropyOk = true → t.pends 545) ∧ t = { s.reporting t with cipher := t.cipher }))
    ∧ (∀ l : List Bool, s.cipher.entropyOk = true → exec (.entropyRetest l) s = .next s)
    ∧ (s.cipher.entropyOk = false → (s.isManager || s.start.hasFlash) = true → completesWith .cyFallbackNonce s (fun t =>
      let n := s.cipher.startCount + 1
      t.cipher = { s.cipher with
        startCount := n, bootNonce := (Config.deriveKey 0 (labelNonce n)).setWidth 64, vault := t.cipher.vault }
      ∧ Tab.get none t.cipher.vault 16 = (if s.isManager then some (Config.deriveKey 0 (labelChain n))
        else Tab.get none s.cipher.vault 16)
      ∧ (∀ v, v ≠ 16 → Tab.get none t.cipher.vault v = Tab.get none s.cipher.vault v)
      ∧ t.ring.join = { s.ring.join with nonce := t.cipher.bootNonce } ∧ t.pends 555
      ∧ t = { s.reporting t with cipher := t.cipher }))
    ∧ (s.cipher.entropyOk = true ∨ (s.isManager || s.start.hasFlash) = false →
        exec .cyFallbackNonce s = .next s)
    ∧ (s.cipher.entropyOk = true → completesWith .drbgReseed s (fun t =>
      t.cipher = { s.cipher with drbgReady := true, seed := [] }
      ∧ Tab.get 0 t.cnt 0x5C7 = (Tab.get 0 s.cnt 0x5C7 + 1) % 2 ^ 40
      ∧ t = { s.reporting t with cipher := t.cipher }))
    ∧ (s.cipher.entropyOk = false → exec .drbgReseed s = .next s)
    ∧ exec .vaultRerandomise s = .next
        { s with fresh := s.fresh + 1, cipher := { s.cipher with shares := s.fresh } }
    ∧ (∀ (k : Fin 256) (b : BankNo), (s.bank k.val b.val).erasing = true → s.bankBusy k.val b.val = false →
        completesWith (.keyZeroise k b) s (fun t =>
      t.bank k.val b.val = { s.bank k.val b.val with erasing := false } ∧ t.pends 548
      ∧ (∀ j, j ≠ k.val * 2 + b.val → Tab.get {} t.cipher.banks j = Tab.get {} s.cipher.banks j)
      ∧ t = { s.reporting t with cipher := { s.cipher with banks := t.cipher.banks } }))
    ∧ (∀ (k : Fin 256) (b : BankNo), (s.bank k.val b.val).erasing = false ∨ s.bankBusy k.val b.val = true →
        exec (.keyZeroise k b) s = .next s)
    ∧ (∀ (e : Fin 2) (f : List MaskJob) (n : Nat) (p : MaskPart) (i : Nat),
        nextJob e.val (s.cipher.jobs ++ f.flatMap jobParts) = some (p, i) →
        completesWith (.maskedJob ⟨e, f⟩ n) s (fun t =>
      let key := s.cipher.jobKey p.job
      let ok := modeAccepts p.job.mode p.job.data.length
      t.cipher = { s.cipher with
        jobs := (s.cipher.jobs ++ f.flatMap jobParts).eraseIdx i,
        masked := Tab.set {} s.cipher.masked e.val
          { key := key, lenErr := !ok, out := if ok then partOutput p key else [] } }
      ∧ Tab.get 0 t.cnt 0x5C5 = (Tab.get 0 s.cnt 0x5C5 + n) % 2 ^ 40
      ∧ Tab.get 0 t.cnt 0x5C4 = (if ok then Tab.get 0 s.cnt 0x5C4 else (Tab.get 0 s.cnt 0x5C4 + 1) % 2 ^ 40)
      ∧ (ok = false → t.pends 550)
      ∧ (6220800 ≤ n * (if s.clk.coreSave then 10 else 8) * 1000 → Tab.get 0 s.evt.windows (windowKey 551 0) ≤ s.bnd →
        t.pends 551)
      ∧ t = { s.reporting t with cipher := t.cipher, fresh := t.fresh }))
    ∧ (∀ (e : Fin 2) (f : List MaskJob) (n : Nat), s.cipher.jobs ++ f.flatMap jobParts = [] →
        exec (.maskedJob ⟨e, f⟩ n) s = .next s)

/-- The pointer of a ring lane (R433, R434, R436): the expected VALUE never leaves 0 to 271, three or more inverted I
bits are a positive and three or more inverted D bits a negative justification of a byte, a new pointer is taken at
once, and a changed one in the third frame alike. What VALUE the next frame is expected to carry, and that a changed one
counts as alike when it goes on as containers do, are the model's reading (log 90). A credit return of the current epoch (R450) makes the link's HELD count the initial credit less
what is out, so that the link's equation holds; a return of another epoch, or during a re-initialisation, changes
nothing, and no return changes another link. A container for this node that carries a whole packet (R442 to R445,
R447): it is counted as consumed for its source and class, and its packet enters the queue it names, with the check
value it carries, when R314 allows the cell. -/
def Obligations.RingArithmetic : Prop :=
  (∀ (h : RingHead) (x : RingLane),
        let i := ones ((h.ptr ^^^ x.value) &&& iBits)
        let d := ones ((h.ptr ^^^ x.value) &&& dBits)
        let r := (x.pointer h).2
        (x.value < 272 → (x.pointer h).1.value < 272)
        ∧ (h.ndf = 6 → 3 ≤ i → d = 0 → r = ⟨x.value, 1, false⟩
            ∧ (x.pointer h).1.value = nextValue x.value (ringPayload - 1))
        ∧ (h.ndf = 6 → 3 ≤ d → i = 0 → r = ⟨x.value, 2, false⟩
            ∧ (x.pointer h).1.value = nextValue x.value (ringPayload + 1))
        ∧ (h.ndf = 9 → h.ptr ≤ 271 → r = ⟨h.ptr, 0, true⟩ ∧ (x.pointer h).1.value = nextValue h.ptr ringPayload)
        ∧ (h.ndf = 6 → h.ptr = x.value → r = ⟨x.value, 0, false⟩
            ∧ (x.pointer h).1.value = nextValue x.value ringPayload))
  ∧ (∀ (x : RingLane) (h : Fin 3 → RingHead),
        let nx (k a : Nat) : Nat := if k = 0 then a else if k = 1 then nextValue a ringPayload
          else nextValue (nextValue a ringPayload) ringPayload
        let v (k : Nat) := nx k x.value
        let c (k : Nat) := nx k (h 0).ptr
        x.candN = 0 → x.value < 272 → (h 0).ptr < 272 → (h 0).ptr ≠ x.value →
        (∀ k : Fin 3, (h k).ndf = 6 ∧ (h k).ptr = c k.val
          ∧ ones (((h k).ptr ^^^ v k.val) &&& iBits) < 3 ∧ ones (((h k).ptr ^^^ v k.val) &&& dBits) < 3) →
        let y := x.pointer (h 0)
        let z := y.1.pointer (h 1)
        y.2 = ⟨v 0, 0, false⟩ ∧ z.2 = ⟨v 1, 0, false⟩ ∧ (z.1.pointer (h 2)).2 = ⟨c 2, 0, true⟩)
  ∧ (∀ (s : State) (r : CreditRec),
        let l := s.link_ s.self r.origin.val r.cclass.val
        let l' := (s.creditBack r).link_ s.self r.origin.val r.cclass.val
        (r.epoch = l.epoch → l.reinit = false →
          l'.sent = l.sent ∧ l'.cum = r.cum % 65536 ∧ l'.epoch = l.epoch
          ∧ (l'.out ≤ initCredit r.cclass.val → l'.balanced r.cclass.val = true))
        ∧ (r.epoch ≠ l.epoch ∨ l.reinit = true → s.creditBack r = s)
        ∧ (∀ k, k ≠ linkKey s.self r.origin.val r.cclass.val →
            Tab.get {} (s.creditBack r).ring.links k = Tab.get {} s.ring.links k))
  ∧ (∀ (s : State) (d : Nat) (c : Container),
        let r : Reasm := { queue := c.queue.val, owner := if c.oper then 0 else c.berth.val + 1 }
        let k := c.src.val * 8 + c.cclass.val
        c.crcOk = true → c.cclass.val < 5 → c.crValid = false → c.valid = true → c.dst.val = s.self → s.isManager = true →
        s.genOk c = true → c.first = true → c.last = true → s.reasmOf k = none → s.pool.recount = false →
        s.queueUsed c.queue.val = true → s.intakeStopped = false → s.egressTakes c.queue.val = true →
        (2048 ≤ c.queue.val → s.cfg.upEnabled c.queue.val = true) → s.mayTake r.queue r.owner 1 = .ok →
        c.cell ≠ [] → c.cell.length ≤ 256 → c.epoch = (s.end_ c.src.val s.self c.cclass.val).epoch →
        let t := s.containerIn d c
        (t.queue c.queue.val).pkts = (s.queue c.queue.val).pkts
            ++ [{ bytes := c.cell, check := c.check, trunc := c.trunc, bad := c.bad, owner := r.owner }]
        ∧ (t.end_ c.src.val s.self c.cclass.val).consumed = ((s.end_ c.src.val s.self c.cclass.val).consumed + 1) % 65536
        ∧ t.pool.queued = s.pool.queued + 1 ∧ t.pool.ring = s.pool.ring)

/-- The DCC keeps at most eight messages unacknowledged (R467): a message toward a peer is sent with the next number
while fewer than eight are, its slots at the end of what its side sends, and waits otherwise; no other peer's state
changes; the number after 0xFFFF is 1. -/
def Obligations.DccKeepsEightUnacknowledged : Prop :=
  ∀ (k : DccKeys) (self dst frame : Nat) (body : DccBody) (r : Ring),
    let p : Peer := Tab.get {} r.peers dst
    let r' := dccPush k self dst frame body r
    let q : Peer := Tab.get {} r'.peers dst
    let side (x : Ring) (d : Nat) : RingSide := Tab.get {} x.sides d
    (p.unacked.length ≤ 8 → q.unacked.length ≤ 8)
    ∧ (p.unacked.length < 8 → q.nextSeq = (if p.nextSeq = 0xFFFF then 1 else p.nextSeq + 1) ∧ q.queue = p.queue
        ∧ ∃ u : Unacked, u.msg.msgSeq = p.nextSeq ∧ u.msg.body = body ∧ u.sends = 1 ∧ u.frame = frame
          ∧ q.unacked = p.unacked ++ [u]
          ∧ (side r' (r.sideOf dst)).dccTx = (side r (r.sideOf dst)).dccTx ++ dccSlots true u.wire)
    ∧ (8 ≤ p.unacked.length → q = { p with queue := p.queue ++ [body] } ∧ r'.sides = r.sides)
    ∧ ∀ n, n ≠ dst → Tab.get {} r'.peers n = Tab.get {} r.peers n

/-- The span commands of a side (R51, R53, R453, R458, R460, R461, R463, R464, R473): a declared defect puts the side
in SD or SF with its request and event, a worker that has lost both sides' timing with it goes to HOLDOVER, a wrap that
is due is made and announced, a second one splits the ring, wait-to-restore ends with the wrap, a cleared SD leaves the
wrap to wait-to-restore, the bypass is released. A side whose port has no clock or is held does nothing. -/
def Obligations.RingSpanCommands : Prop :=
  ∀ (s : State) (d : Side),
    (∀ c : RingDefect, s.ringOn d.val = true → completesWith (.ringDefect d c) s (fun t =>
      (c = .sd → (t.side d.val).sd = true ∧ ((s.side d.val).sd = false → t.pends (320 + 32 * d.val + 5)))
      ∧ (c ≠ .sd → (t.side d.val).sf = true ∧ ((s.side d.val).sf = false → t.pends (320 + 32 * d.val + 6)))
      ∧ (c = .los → t.pends (320 + 32 * d.val) ∧ (t.rlane d.val 0).los = true ∧ (t.rlane d.val 1).los = true)
      ∧ (∀ j, j ≠ d.val → t.side j = { s.side j with dccTx := (t.side j).dccTx }) ∧ t.ring.nodes = s.ring.nodes ∧ t.ring.links = s.ring.links
      ∧ (s.isManager = false → c ≠ .sd → (s.side (1 - d.val)).sf = true → s.tide.state ≠ .unanchored →
          t.tide.state = .holdover)
      ∧ (s.isManager = true → t = s.reporting t)
      ∧ t = { s.reporting t with tide := t.tide, clk := t.clk }))
    ∧ (∀ c : RingDefect, s.ringOn d.val = true → completesWith (.ringDefectClear d c) s (fun t =>
      (c = .sd → (t.side d.val).sd = false)
      ∧ (c = .sd → (s.side d.val).sd = true → (s.side d.val).sf = false → (s.side d.val).cmd = 0 →
          (s.side d.val).wrapped = true → (s.side d.val).onlyLabel = false →
          (s.side d.val).neighbour = (s.side d.val).faultNeighbour → (t.side d.val).wtr = true
          ∧ (t.side d.val).wrapped = true ∧ t.pends 386)
      ∧ (c ≠ .sd → (s.setCond d.val c false).hardSf d.val = false →
          ((s.setCond d.val c false).side d.val).labelSf = false → (t.side d.val).sf = false)
      ∧ t = { s.reporting t with
          tide := { s.tide with timingNext := t.tide.timingNext }, adm := { s.adm with due := t.adm.due } }))
    ∧ ((s.side d.val).wrapped = false → s.wrapDue d.val = true → s.ringOn d.val = true →
        completesWith (.ringWrap d) s (fun t =>
      t.side d.val = { s.side d.val with
        wrapped := true, wtr := false, dccTx := (t.side d.val).dccTx,
        farWrap := !((s.side d.val).sf || (s.side d.val).sd || (s.side d.val).cmd != 0) }
      ∧ t.pends 384 ∧ ((s.side (other d.val)).wrapped = true → t.pends 397)
      ∧ t.adm.due = some (s.tide.frame + 2)
      ∧ t = { s.reporting t with
          tide := { s.tide with timingNext := t.tide.timingNext }, adm := { s.adm with due := t.adm.due } }))
    ∧ ((s.side d.val).wrapped = true ∨ s.wrapDue d.val = false → exec (.ringWrap d) s = .next s)
    ∧ ((s.side d.val).wtr = true → s.ringOn d.val = true → completesWith (.wtrExpiry d) s (fun t =>
      (t.side d.val).wtr = false ∧ (t.side d.val).wrapped = false
      ∧ ((s.side d.val).wrapped = true → t.pends 385 ∧ t.adm.due = some (s.tide.frame + 2))
      ∧ t = { s.reporting t with
          tide := { s.tide with timingNext := t.tide.timingNext }, adm := { s.adm with due := t.adm.due } }))
    ∧ ((s.side d.val).wtr = false → exec (.wtrExpiry d) s = .next s)
    ∧ (∀ c : RingDefect, s.ringOn d.val = false → exec (.ringDefect d c) s = .next s
        ∧ exec (.ringDefectClear d c) s = .next s ∧ exec (.ringWrap d) s = .next s ∧ exec (.wtrExpiry d) s = .next s)
    ∧ (s.ring.join.bypOpen = true → completesWith .bypassRelease s (fun t =>
      t.ring.join = { s.ring.join with bypOpen := false } ∧ .pin "BYP_OPEN_N" true ∈ t.out ∧ t.pends 398
      ∧ t = s.reporting t))
    ∧ (s.ring.join.bypOpen = false → exec .bypassRelease s = .next s)

/-- Ring frames and credits (R425, R428 to R431, R436 to R438, R446, R452): a received frame follows the lane's
alignment, its descrambler and, where its overhead is good, its pointer; a transmitted pair of frames has its 388,800
bytes on each lane, carries containers only under label 0x01, and no new pointer waits any more; a pointer jump sends a
new pointer and raises RG_PTR_JUMP; the two ends of a re-initialisation toggle the epoch, the source with its full
initial credit. A side whose port has no clock or is held neither receives nor sends. -/
def Obligations.RingTrafficCommands : Prop :=
  ∀ (s : State) (d : Side),
    (∀ (n : Fin 2) (w : List Byte), s.ringOn d.val = true →
      let x := ((s.rlane d.val n.val).align (w.take 8 == alignPattern)).open_ w
      let o := s.rlane d.val (other n.val)
      (x.1.inFrame = false → completesWith (.ringFrameReceive d n w) s (fun t =>
        t.rlane d.val n.val = { x.1 with
          lof := x.1.lof || decide (3 ≤ x.1.oof), rxCut := none, rxDone := [], rxSlots := [], rxBip := none }
        ∧ t = s.reporting t))
      ∧ (x.1.inFrame = true → o.inFrame = false → o.rxDone = [] → o.rxSlots = [] → headOk x.2 = false →
          completesWith (.ringFrameReceive d n w) s (fun t =>
        (t.rlane d.val n.val).value = nextValue x.1.value ringPayload ∧ (t.rlane d.val n.val).badPtr = x.1.badPtr
        ∧ Tab.get 0 t.cnt (rgCnt d.val 0) = (Tab.get 0 s.cnt (rgCnt d.val 0) + 1) % 2 ^ 40
        ∧ Tab.get 0 t.cnt (rgCnt d.val 2) = (Tab.get 0 s.cnt (rgCnt d.val 2) + 1) % 2 ^ 40 ∧ t = s.reporting t))
      ∧ (x.1.inFrame = true → o.inFrame = false → o.rxDone = [] → o.rxSlots = [] → headOk x.2 = true →
          completesWith (.ringFrameReceive d n w) s (fun t =>
        (t.rlane d.val n.val).value = (x.1.pointer (parseHead x.2)).1.value
        ∧ (t.rlane d.val n.val).badPtr = (x.1.pointer (parseHead x.2)).1.badPtr
        ∧ Tab.get 0 t.cnt (rgCnt d.val 0) = (Tab.get 0 s.cnt (rgCnt d.val 0) + 1) % 2 ^ 40
        ∧ t = { s.reporting t with
            tide := { s.tide with timingNext := t.tide.timingNext }, adm := { s.adm with due := t.adm.due } })))
    ∧ (∀ (j : Fin 3) (ecc : List Ecc), s.ringOn d.val = true → completesWith (.ringFrameTransmit ⟨⟨d, j⟩, ecc⟩) s (fun t =>
      (∃ w0 w1 r, t.out = .ringFrame d.val 1 w1 :: .ringFrame d.val 0 w0 :: r
        ∧ w0.length = ringFrameBytes ∧ w1.length = ringFrameBytes)
      ∧ (t.rlane d.val 0).newPtr = false ∧ (t.rlane d.val 1).newPtr = false
      ∧ (s.txLabel d.val ≠ 1 ∨ (s.side d.val).managerSeen = true → t.pool = s.pool)
      ∧ t = { s.passing t with pool := t.pool }))
    ∧ (∀ (n : Fin 2) (v : Nat), s.ringOn d.val = true → completesWith (.rgPtrJump d n v) s (fun t =>
      t.rlane d.val n.val = { s.rlane d.val n.val with txCut := List.replicate (v % 272) 0, newPtr := true }
      ∧ (∀ j, j ≠ 2 * d.val + n.val → Tab.get {} t.ring.lanes j = Tab.get {} s.ring.lanes j)
      ∧ t.pends (320 + 32 * d.val + 9) ∧ t = s.reporting t))
    ∧ (∀ (n : Fin 2) (w : List Byte) (v : Nat) (j : Fin 3) (ecc : List Ecc), s.ringOn d.val = false →
        exec (.ringFrameReceive d n w) s = .next s ∧ exec (.ringFrameTransmit ⟨⟨d, j⟩, ecc⟩) s = .next s
        ∧ exec (.rgPtrJump d n v) s = .next s)
    ∧ (∀ (src : NodeNo) (c : Fin 8) (n : Nat), completesWith (.creditReinit src c n) s (fun t =>
      t.end_ src.val s.self c.val = { consumed := 0, epoch := !(s.end_ src.val s.self c.val).epoch }
      ∧ (∀ j, j ≠ linkKey src.val s.self c.val → Tab.get {} t.ring.ends j = Tab.get {} s.ring.ends j)
      ∧ t.ring.links = s.ring.links ∧ t = s.reporting t))
    ∧ (∀ (dst : NodeNo) (c : Fin 8) (n : Nat), (s.link_ s.self dst.val c.val).reinit = true →
        completesWith (.creditReinitAck dst c n) s (fun t =>
      t.link_ s.self dst.val c.val =
        { held := initCredit c.val, epoch := !(s.link_ s.self dst.val c.val).epoch, moved := s.bnd }
      ∧ (∀ j, j ≠ linkKey s.self dst.val c.val → Tab.get {} t.ring.links j = Tab.get {} s.ring.links j)
      ∧ t = s.reporting t))
    ∧ (∀ (dst : NodeNo) (c : Fin 8) (n : Nat), (s.link_ s.self dst.val c.val).reinit = false →
        exec (.creditReinitAck dst c n) s = .next s)

/-- The receiver of DCC messages (R461, R466 to R468, R604): bytes that are no message change nothing; a message of its
own that comes back is removed, one for another node goes on with one hop less and ends at its last; a bad MAC is
counted and nothing of the message is used; a numbered message in order is acknowledged and delivered, one at or behind
the last delivered is acknowledged again and counted, one ahead is discarded; an unnumbered one is delivered at once.
Retransmission on the DCC (R469), on either kind of node: an unacknowledged message is sent again byte for byte and
counted as one more send; after the seventeenth send the peer is unreachable, and a worker forgets what waited. -/
def Obligations.DccReceiver : Prop :=
  (∀ (s : State) (d : Side) (x mac : List Byte), parseDcc (x ++ mac) = none →
        exec (.dccMessageReceive d x mac) s = .next s)
  ∧ (∀ (s : State) (d : Side) (x mac : List Byte) (h : DccHead), parseDcc (x ++ mac) = some h →
        let b := x ++ mac
        let n := h.src.val
        let v := s.inc (rgCnt d.val 24)
        let p : Peer := Tab.get {} v.ring.peers n
        let k := s.dccKeysFor h (dccEnc h b)
        let own := s.numbered = true ∧ h.unnumbered = false ∧ n = s.self
        let mine := ¬ own ∧ s.takes h (dccEnc h b) = true
        let good (m : DccMsg) := dccGood k h b = true ∧ dccOpen k h b = some m
        let fresh := h.bcast = false ∧ h.ackOnly = false ∧ h.unnumbered = false ∧ h.msgSeq ≠ 0 ∧ p.unacked = []
        (own → exec (.dccMessageReceive d x mac) s = .next s)
        ∧ (¬ own → s.takes h (dccEnc h b) = false → exec (.dccMessageReceive d x mac) s = .next (if h.ttl ≤ 1 then s else
            { s with
              ring := dccPut (if (s.side (other d.val)).wrapped then d.val else other d.val) false
                (b.take 3 ++ beBytes 1 (h.ttl - 1) ++ b.drop 4) s.ring }))
        ∧ (mine → h.bcast = false → dccGood k h b = false → completesWith (.dccMessageReceive d x mac) s (fun t =>
          Tab.get 0 t.cnt 0x5C6 = (Tab.get 0 s.cnt 0x5C6 + 1) % 2 ^ 40 ∧ t.ring.join = s.ring.join
          ∧ t = s.reporting t))
        ∧ (∀ m, mine → good m → fresh → m.msgSeq = nextMsg p.lastDelivered → ∃ u : State,
            exec (.dccMessageReceive d x mac) s = .next (State.deliverDcc d.val n m.body u)
            ∧ (Tab.get {} u.ring.peers n : Peer).lastDelivered = m.msgSeq
            ∧ (∃ w, (u.side (v.ring.sideOf n)).dccTx = (v.side (v.ring.sideOf n)).dccTx ++ dccSlots true w)
            ∧ u = s.reporting u)
        ∧ (∀ m, mine → good m → fresh → m.msgSeq ≠ nextMsg p.lastDelivered →
            (p.lastDelivered + 65536 - m.msgSeq) % 65536 < 32768 → completesWith (.dccMessageReceive d x mac) s (fun t =>
          (Tab.get {} t.ring.peers n : Peer).lastDelivered = p.lastDelivered
          ∧ (∃ (u : State) (w : List Byte), t = u.inc (rgCnt d.val 26)
            ∧ (u.side (v.ring.sideOf n)).dccTx = (v.side (v.ring.sideOf n)).dccTx ++ dccSlots true w)
          ∧ Tab.get 0 t.cnt (rgCnt d.val 26) = (Tab.get 0 s.cnt (rgCnt d.val 26) + 1) % 2 ^ 40
          ∧ t = s.reporting t))
        ∧ (∀ m, mine → good m → fresh → m.msgSeq ≠ nextMsg p.lastDelivered →
            32768 ≤ (p.lastDelivered + 65536 - m.msgSeq) % 65536 → completesWith (.dccMessageReceive d x mac) s (fun t =>
          (Tab.get {} t.ring.peers n : Peer).lastDelivered = p.lastDelivered ∧ t.ring.sides = v.ring.sides
          ∧ t = s.reporting t))
        ∧ (∀ m, mine → good m → m.ackOnly = false → m.unnumbered = true ∨ m.bcast = true ∨ m.msgSeq = 0 → ∃ u : State,
            exec (.dccMessageReceive d x mac) s = .next (State.deliverDcc d.val n m.body u)
            ∧ (∀ j, (Tab.get {} u.ring.peers j : Peer).lastDelivered = (Tab.get {} s.ring.peers j : Peer).lastDelivered)
            ∧ u = s.reporting u))
  ∧ (∀ (s : State) (n : NodeNo) (k : Nat) (u : Unacked),
        let p : Peer := Tab.get {} s.ring.peers n.val
        let d := s.ring.sideOf n.val
        (p.unacked.find? (fun u => u.msg.msgSeq == k) = some u → u.sends < 17 → completesWith (.dccRetransmit n k) s (fun t =>
          (∃ v : State, t = v.inc (rgCnt d 25) ∧ (v.side d).dccTx = (s.side d).dccTx ++ dccSlots true u.wire
            ∧ (Tab.get {} v.ring.peers n.val : Peer) = { p with unacked := p.unacked.map (fun x =>
                if x.msg.msgSeq = k then { x with sends := x.sends + 1, frame := s.tide.frame } else x) }
            ∧ (∀ j, j ≠ n.val → (Tab.get {} v.ring.peers j : Peer) = Tab.get {} s.ring.peers j)
            ∧ v = { s with ring := v.ring })
          ∧ Tab.get 0 t.cnt (rgCnt d 25) = (Tab.get 0 s.cnt (rgCnt d 25) + 1) % 2 ^ 40
          ∧ t = s.reporting t))
        ∧ (p.unacked.find? (fun u => u.msg.msgSeq == k) = some u → 17 ≤ u.sends → s.isManager = false →
            completesWith (.dccRetransmit n k) s (fun t =>
          (Tab.get {} t.ring.peers n.val : Peer).unacked = [] ∧ (Tab.get {} t.ring.peers n.val : Peer).queue = []
          ∧ t.pends (320 + 32 * s.ring.sideOf n.val + 16) ∧ t = s.reporting t))
        ∧ (p.unacked.find? (fun u => u.msg.msgSeq == k) = some u → 17 ≤ u.sends → s.isManager = true →
            s.joined n.val = true → completesWith (.dccRetransmit n k) s (fun t =>
          (t.node n.val).member = 0 ∧ t.pends 389 ∧ t.pends (320 + 32 * s.ring.sideOf n.val + 16)
          ∧ t = { s.reporting t with
              pool := t.pool, adm := t.adm }))
        ∧ (p.unacked.find? (fun u => u.msg.msgSeq == k) = none → exec (.dccRetransmit n k) s = .next s))

/-- The manager's side of membership (R17, R419, R421, R470, R475, R477 to R482): a second manager is seen, first
requests are collected for a decision, a known worker is taken back with a new generation when its nonce is new or
refused within its hold-off, a join that completes gives it full credit on every class, a worker that leaves or is
gone is absent, HELLO goes out on both sides, a ring boot is served block by block from the image held. -/
def Obligations.ManagerJoinCommands : Prop :=
  ∀ s : State, s.isManager = true →
    (∀ q : JoinRequest, q.isManager = true → completesWith (.joinReq q) s (fun t =>
      t.side q.side.val = { s.side q.side.val with managerSeen := true } ∧ t.pends 393 ∧ t = s.reporting t))
    ∧ (∀ (q : JoinRequest) (l : List JoinRequest), q.isManager = false → s.ring.collecting = some l →
        exec (.joinReq q) s = .next { s with ring := { s.ring with
          collecting := some (l.filter (fun x => x.serial != q.serial) ++ [q]) } })
    ∧ (∀ q : JoinRequest, q.isManager = false → s.ring.collecting = none → s.ring.nodes.any (fun x => x.2.used) = false →
        exec (.joinReq q) s = .next { s with ring := { s.ring with collecting := some [q] } })
    ∧ (∀ (q : JoinRequest) (n : Nat), q.isManager = false → s.ring.collecting = none →
        s.ring.nodes.any (fun x => x.2.used) = true → (imgCompat s.served).toNat ≤ q.version.toNat →
        s.ring.entryOf q.serial = some n → (s.node n).nonce = some q.nonce → s.now < (s.node n).holdEnd →
        completesWith (.joinReq q) s (fun t =>
      t.pends 391 ∧ t.ring.nodes = s.ring.nodes ∧ t = s.reporting t))
    ∧ (∀ (q : JoinRequest) (n : Nat), q.isManager = false → s.ring.collecting = none →
        s.ring.nodes.any (fun x => x.2.used) = true → (imgCompat s.served).toNat ≤ q.version.toNat →
        s.ring.entryOf q.serial = some n → (s.node n).used = true → (s.node n).nonce ≠ some q.nonce →
        s.joined n = false → completesWith (.joinReq q) s (fun t =>
      t.node n = { s.node n with
        serial := q.serial, gen := ((s.node n).gen + 1) % 16, east := q.east, west := q.west, nonce := some q.nonce,
        member := 1, since := s.now, version := q.version, pos := q.position }
      ∧ (∀ j, j ≠ n → t.node j = s.node j) ∧ Tab.get 0 t.ring.working n = q.side.val ∧ t.pends 390
      ∧ t = { s.reporting t with pool := t.pool, tide := { s.tide with rangers := t.tide.rangers } }))
    ∧ (s.ring.collecting = none → exec .joinCollectionEnd s = .next s)
    ∧ (∀ q, s.ring.collecting = some [q] → exec .joinCollectionEnd s = .next
        (State.decideJoin q { s with ring := { s.ring with collecting := none } }))
    ∧ (∀ n : NodeNo, (s.node n.val).member = 1 → completesWith (.joinComplete n) s (fun t =>
      t.node n.val = { s.node n.val with member := 2, joinedAt := s.now } ∧ (∀ j, j ≠ n.val → t.node j = s.node j)
      ∧ (∀ c, c < 5 → t.link_ 0 n.val c = { held := initCredit c } ∧ t.end_ n.val 0 c = {})
      ∧ t.pends 388 ∧ t.adm.due = some (s.tide.frame + 2)
      ∧ t = { s.reporting t with adm := { s.adm with due := t.adm.due } }))
    ∧ (∀ n : NodeNo, (s.node n.val).member ≠ 1 → exec (.joinComplete n) s = .next s)
    ∧ (∀ n : NodeNo, s.joined n.val = true →
      (∀ i, i = .leave n ∨ i = .workerGoneTimeout n → completesWith i s (fun t =>
        (t.node n.val).member = 0 ∧ (t.node n.val).since = s.now ∧ (t.node n.val).serial = (s.node n.val).serial
        ∧ (t.node n.val).gen = (s.node n.val).gen ∧ (∀ j, j ≠ n.val → t.node j = s.node j)
        ∧ t.pends 389 ∧ t.adm.due = some (s.tide.frame + 2)
        ∧ t = { s.reporting t with pool := t.pool, adm := { s.adm with due := t.adm.due } })))
    ∧ (∀ n : NodeNo, s.joined n.val = false → exec (.leave n) s = .next s ∧ exec (.workerGoneTimeout n) s = .next s)
    ∧ (∀ n : NodeNo, completesWith (.joinHoldoffReset n) s (fun t =>
      t.node n.val = { s.node n.val with holdoff := if s.joined n.val then 2 else (s.node n.val).holdoff }
      ∧ (∀ j, j ≠ n.val → t.node j = s.node j) ∧ t = { s with ring := { s.ring with nodes := t.ring.nodes } }))
    ∧ completesWith .hello s (fun t =>
      (∃ k, ∀ d : Side, t.side d.val = { s.side d.val with
        dccTx := (s.side d.val).dccTx ++ dccSlots true (dccWire k (bcastMsg s.self (.hello s.cipher.bootNonce))) })
      ∧ t = { s with ring := { s.ring with sides := t.ring.sides } })
    ∧ (∀ n : NodeNo,
        let p : Peer := Tab.get {} s.ring.peers n.val
        (p.unacked.length < 8 → p.queue = []) → completesWith (.imgReq n) s (fun t =>
      let q : Peer := Tab.get {} t.ring.peers n.val
      q.unacked.map (fun u => u.msg.body) ++ q.queue
        = p.unacked.map (fun u => u.msg.body) ++ p.queue ++ s.imgBlocks
      ∧ t = { s with ring := { s.ring with peers := t.ring.peers, sides := t.ring.sides } }))

/-- The worker's side of membership (R472, R473, R475 to R478, R480, R483): an attempt opens the bypass and asks to
join, an acceptance gives number and generation, a refusal or a time-out ends it with a longer hold-off, a complete
one joins with full credit, image blocks are taken in order, a leave or a lost manager is noted. -/
def Obligations.WorkerJoinCommands : Prop :=
  ∀ s : State, s.isManager = false →
    let j := s.ring.join
    (s.mayJoin = true → (j.joined = false ∨ j.bypOpen = false) → (j.step = 0 ∨ j.step = 8) →
      (j.holdEnd ≤ s.now → completesWith .joinAttemptStart s (fun t =>
        t.ring.join = { j with step := 2, joined := false, bypOpen := true, image := [], imgDone := false }
        ∧ t.ring.enabled = false ∧ t.pends 398
        ∧ .pin "BYP_OPEN_N" false ∈ t.out ∧ t = s.reporting t))
      ∧ completesWith .joinHoldoffExpiry s (fun t =>
        t.ring.join = { j with
          step := 2, joined := false, bypOpen := true, image := [], imgDone := false, holdEnd := s.now } ∧ t.pends 398
        ∧ .pin "BYP_OPEN_N" false ∈ t.out ∧ t = s.reporting t))
    ∧ (s.now < j.holdEnd → exec .joinAttemptStart s = .next s)
    ∧ (j.joined = false → j.step ≠ 0 → completesWith .joinAttemptTimeout s (fun t =>
      t.ring.join = { j with
        step := 0, joined := false, bypOpen := false, holdEnd := s.now + j.holdoff * secTicks, holdoff := longer j.holdoff }
      ∧ t.pends 399 ∧ t = s.reporting t))
    ∧ (j.joined = true ∨ j.step = 0 → exec .joinAttemptTimeout s = .next s)
    ∧ (∀ (n : NodeNo) (g : Fin 16) (x : BitVec 64) (c : BitVec 128), j.step = 2 →
        completesWith (.joinAccept n ⟨g, x, c⟩) s (fun t =>
      t.ring.join = { j with
        gen := g.val, mgrNonce := x, step := if j.newNonce then 4 else 5, image := [], imgDone := false }
      ∧ t.ring.node = n.val ∧ Tab.get none t.cipher.vault 16 = some c
      ∧ (∀ v, v ≠ 16 → Tab.get none t.cipher.vault v = Tab.get none s.cipher.vault v)
      ∧ t.cipher = { s.cipher with dccChain := true, vault := t.cipher.vault }
      ∧ t = { s.reporting t with
          fresh := t.fresh, cipher := t.cipher, tide := { s.tide with
            timingWest := t.tide.timingWest, timingNext := none, ranged := false, rangers := t.tide.rangers } }))
    ∧ (∀ (n : NodeNo) (g : Fin 16) (x : BitVec 64) (c : BitVec 128), j.step ≠ 2 →
        exec (.joinAccept n ⟨g, x, c⟩) s = .next s)
    ∧ (∀ r : Nat, j.step = 2 → completesWith (.joinRefuse r) s (fun t =>
      t.ring.join = (let f := { j with
          step := 0, joined := false, bypOpen := false, holdEnd := s.now + j.holdoff * secTicks,
          holdoff := longer j.holdoff }
        if r = 1 then { f with holdoff := 60, holdEnd := s.now + 60 * secTicks }
        else if r = 3 then { f with newNonce := true } else f)
      ∧ t.pends 399 ∧ t = s.reporting t))
    ∧ (∀ r : Nat, j.step ≠ 2 → exec (.joinRefuse r) s = .next s)
    ∧ (∀ n : NodeNo, n.val = s.ring.node → j.joined = false → 5 ≤ j.step → completesWith (.joinComplete n) s (fun t =>
      t.ring.join = { j with joined := true, joinedAt := s.now, step := 8, newNonce := false, lostMgr := false }
      ∧ t.ring.enabled = true ∧ t.pends 388
      ∧ (∀ c, c < 5 → t.link_ s.self 0 c = { held := initCredit c } ∧ t.end_ 0 s.self c = {})
      ∧ t = s.reporting t))
    ∧ (∀ n : NodeNo, n.val ≠ s.ring.node ∨ j.joined = true ∨ j.step < 5 → exec (.joinComplete n) s = .next s)
    ∧ (∀ (d : Side) (m : NodeNo) (b : List Byte), s.wantsImage = true → j.imgDone = false →
        (j.image = [] ∨ j.imgFrom = m.val) → completesWith (.imgBlock d m b) s (fun t =>
      (let x := j.image ++ padTo 512 (b.take 512)
       let n := imgLength x + 512
       t.ring.join = (if n ≤ x.length then { j with image := x.take n, imgFrom := m.val, imgDone := true }
         else if bankSize < n then { j with image := x, imgFrom := m.val, imgDone := true }
         else { j with image := x, imgFrom := m.val, imgDone := false }))
      ∧ t = { s with ring := { s.ring with join := t.ring.join } }))
    ∧ (∀ (d : Side) (m : NodeNo) (b : List Byte),
        s.wantsImage = false ∨ j.imgDone = true ∨ j.image ≠ [] ∧ j.imgFrom ≠ m.val →
        exec (.imgBlock d m b) s = .next s)
    ∧ (j.joined = true → j.lostMgr = false → completesWith .managerLost s (fun t =>
      t.ring.join = { j with lostMgr := true } ∧ t.pends 396 ∧ t = s.reporting t))
    ∧ (j.joined = false ∨ j.lostMgr = true → exec .managerLost s = .next s)
    ∧ (∀ n : NodeNo, n.val = s.ring.node → j.joined = true →
      completesWith (.leave n) s (fun t =>
        t.ring.join.joined = false ∧ t.ring.join.step = 0 ∧ t.ring.join.bypOpen = false ∧ t = s.reporting t)
      ∧ completesWith (.joinHoldoffReset n) s (fun t =>
        t = { s with ring := { s.ring with join := { j with holdoff := 2 } } }))
    ∧ (j.joined = true → exec .hello s = .next (s.dcc 0 (.hello j.nonce)))
    ∧ (j.joined = false → exec .hello s = .next s)

/-- A REQ_PROD write that equals the current value, that moves backwards, or that would make more than 32 entries
outstanding is ignored silently, and so is an RPL_CONS write that equals the current value or passes RPL_PROD; any
other write of a host mailbox's doorbell moves the index, and the mailbox takes its place in the order of service. -/
def Obligations.DoorbellWrites : Prop :=
  ∀ (s : State) (m : MbxNo) (v : W32), s.isManager = true → s.hostOpen → m.val < 33 →
    let n := v.toNat % 64
    let b := s.box m.val
    ((n + 64 - b.reqCons) % 64 ≤ (b.reqProd + 64 - b.reqCons) % 64 ∨ 32 < (n + 64 - b.reqCons) % 64 →
        exec (.mbxDbReqWrite m v) s = .next s)
    ∧ ((b.reqProd + 64 - b.reqCons) % 64 < (n + 64 - b.reqCons) % 64 → (n + 64 - b.reqCons) % 64 ≤ 32 →
        completesWith (.mbxDbReqWrite m v) s (fun t =>
      t.box m.val = { b with reqProd := n } ∧ m.val ∈ t.host.order ∧ (∀ j, j ≠ m.val → t.box j = s.box j)
      ∧ t = { s with host := { s.host with mbx := t.host.mbx, order := t.host.order } }))
    ∧ ((n + 64 - b.rplCons) % 64 = 0 ∨ (b.rplProd + 64 - b.rplCons) % 64 < (n + 64 - b.rplCons) % 64 →
        exec (.mbxDbRplWrite m v) s = .next s)
    ∧ ((n + 64 - b.rplCons) % 64 ≠ 0 → (n + 64 - b.rplCons) % 64 ≤ (b.rplProd + 64 - b.rplCons) % 64 →
        completesWith (.mbxDbRplWrite m v) s (fun t =>
      (t.box m.val).rplCons = n ∧ t = { s.reporting t with line := t.line }))

/-- An answer (R634, R635, R637, R642): its reply is cached for a retransmission, the expected SEQ is the next one (1
after 0xFFFF), nothing waits any more, an IGNORED is recorded with its opcode, SEQ and cause, and an answer changes
nothing but what reporting changes. A request runs once (R634 to R636): a retransmission of the last answered one is
answered from the cache and counted, without running again; one that carries the expected SEQ of a session, or an
MBX_HELLO with SEQ 0, runs; any other is dropped and counted without a reply. -/
def Obligations.RequestsRunOnce : Prop :=
  (∀ (s : State) (opc : Nat) (q : Req) (st : Status) (p : List Byte), s.isManager = true →
        (s.answer opc q st p).answers opc q st.code p ∧ s.answer opc q st p = s.reporting (s.answer opc q st p)
        ∧ ∀ c, st = .ignored c →
            ((s.answer opc q st p).box q.mbx.val).ignored = min 255 ((s.box q.mbx.val).ignored + 1)
            ∧ ((s.answer opc q st p).box q.mbx.val).lastIgnOpc = opc
            ∧ ((s.answer opc q st p).box q.mbx.val).lastIgnSeq = q.seq.toNat
            ∧ ((s.answer opc q st p).box q.mbx.val).lastIgnCause = c ∧ (s.answer opc q st p).pends 578)
  ∧ (∀ (s : State) (m opc : Nat) (q : Req) (crc : W32),
        let b := s.box m
        let t := s.receive m opc q crc
        (b.cached.isSome = true → b.lastReq = some (q.seq.toNat, crc) →
          (t.box m).expSeq = b.expSeq ∧ (t.box m).cached = b.cached ∧ (t.box m).lastReq = b.lastReq
          ∧ (t.box m).retrans = b.retrans + 1 ∧ (t.box m).txn = b.txn ∧ (t.box m).deferred = b.deferred
          ∧ t = { s.reporting t with line := t.line })
        ∧ (b.cached = none ∨ b.lastReq ≠ some (q.seq.toNat, crc) →
            (opc = 1 ∧ q.seq = 0) ∨ (b.session = true ∧ q.seq.toNat = b.expSeq) → t = s.runCommand opc q)
        ∧ (b.cached = none ∨ b.lastReq ≠ some (q.seq.toNat, crc) → ¬ (opc = 1 ∧ q.seq = 0) →
            ¬ (b.session = true ∧ q.seq.toNat = b.expSeq) →
          (t.box m).dropped = min 255 (b.dropped + 1) ∧ (t.box m).expSeq = b.expSeq ∧ (t.box m).cached = b.cached
          ∧ (t.box m).lastReq = b.lastReq ∧ (t.box m).txn = b.txn ∧ (t.box m).deferred = b.deferred ∧ t = s.reporting t))

/-- A turn (R631, R632, R638, R648, R656): without a mailbox to serve nothing happens, a mailbox without requests
leaves the order, one whose reply ring has fewer than 16 free entries stalls and says so, the next request of another
is taken and its turn ends; an idle transaction is lost with its event. Register accesses of the host (R4, R618, R620
to R622, R625, R761, R763, R767, Table EV-3): a W1C write clears just the written ones of its group, EVT_ENABLE and
the routes take the bits they have, unmasking sends what pends, a write into a window changes the enabled bytes alone,
a partial or misaligned write and one of the read-only registers below 0x300 change nothing, an SPI write of one word
is that write, a read of a plain register only answers, the heartbeat counts while Itvekor runs. -/
def Obligations.HostRegisterCommands : Prop :=
  (∀ (s : State) (m : MbxNo),
        (s.serving = false ∨ s.host.order = [] → exec .mailboxRequest s = .next s)
        ∧ (s.serving = true → s.host.order = [m.val] → (s.box m.val).reqProd = (s.box m.val).reqCons →
            exec .mailboxRequest s = .next { s with host := { s.host with order := [] } })
        ∧ (s.serving = true → s.host.order = [m.val] → (s.box m.val).reqProd ≠ (s.box m.val).reqCons →
            (s.box m.val).waiting = none → (s.box m.val).free < 16 → completesWith .mailboxRequest s (fun t =>
          (t.box m.val).stalled = true ∧ (t.box m.val).reqCons = (s.box m.val).reqCons
          ∧ ((s.box m.val).stalled = false → t.pends 580) ∧ t = s.reporting t))
        ∧ (s.serving = true → s.host.order = [m.val] → (s.box m.val).reqProd ≠ (s.box m.val).reqCons →
            (s.box m.val).waiting = none → 16 ≤ (s.box m.val).free → exec .mailboxRequest s = .next
              (State.turnEnd m.val (State.takeReq m.val (s.modBox m.val (fun b => { b with stalled := false })))))
        ∧ completesWith (.txnIdleTimeout m) s (fun t =>
          (t.box m.val).txn = none ∧ ((s.box m.val).txn.isSome = true → t.pends 582)
          ∧ ((s.box m.val).txn = none → t = s) ∧ t = s.reporting t))
  ∧ (∀ s : State,
        (∀ (g : Fin 20) (v : W32), s.isManager = true → s.hostOpen → completesWith (.evtStatusWrite g v) s (fun t =>
          Tab.get 0 t.evt.status g.val = Tab.get 0 s.evt.status g.val &&& ~~~ v
          ∧ (∀ j, j ≠ g.val → Tab.get 0 t.evt.status j = Tab.get 0 s.evt.status j)
          ∧ t.evt = { s.evt with status := t.evt.status } ∧ t = s.reporting t))
        ∧ (∀ (k : Nat) (v : W32), s.isManager = true → s.hostOpen → k < 20 →
            completesWith (.evtEnableWrite (0x1080 + 4 * k) v) s (fun t =>
          Tab.get 0 t.evt.enable k = v &&& assignedMask k ∧ (∀ j, j ≠ k → Tab.get 0 t.evt.enable j = Tab.get 0 s.evt.enable j)
          ∧ t.evt = { s.evt with enable := t.evt.enable } ∧ t = s.reporting t))
        ∧ (∀ (k : Nat) (v : W32), s.isManager = true → s.hostOpen → k < 20 →
            completesWith (.evtEnableWrite (0x1100 + 4 * k) v) s (fun t =>
          Tab.get 0 t.evt.route k = v &&& 7 ∧ t.evt = { s.evt with route := t.evt.route } ∧ t = s.reporting t))
        ∧ (∀ v : W32, s.isManager = true → s.hostOpen → completesWith (.evtEnableWrite 0x1160 v) s (fun t =>
          t.evt = { s.evt with nodeRoute := v &&& 0x107 } ∧ t = s.reporting t))
        ∧ (∀ v : Fin 8, s.isManager = true → s.hostOpen → completesWith (.vectorUnmask v) s (fun t =>
          t = { s with
            host := { s.host with
              msixMask := putBit s.host.msixMask v.val false, msixPend := putBit s.host.msixPend v.val false },
            out := if bit s.host.msixPend v.val && bit s.host.msixMask v.val && s.host.pcieUp
              then .msix v.val :: s.out else s.out }))
        ∧ (∀ (a : Nat) (w : W32) (be : BitVec 4), s.isManager = true → s.hostOpen → 0x10000 ≤ a →
            completesWith (.registerWrite a w be) s (fun t =>
          (∀ i, i < 4 → be.getLsbD i = true → (a - 0x10000 + i) / 4096 < 33 →
            Tab.get 0 t.host.win (a - 0x10000 + i) = (w >>> (8 * i)).setWidth 8)
          ∧ (∀ o, (∀ i, i < 4 → o = a - 0x10000 + i → be.getLsbD i = false) →
            Tab.get 0 t.host.win o = Tab.get 0 s.host.win o)
          ∧ t = { s with host := { s.host with win := t.host.win } }))
        ∧ (∀ (a : Nat) (w : W32) (be : BitVec 4), s.hostOpen → a < 0x10000 → be ≠ 15 ∨ a % 4 ≠ 0 ∨ a < 0x300 →
            exec (.registerWrite a w be) s = .next s)
        ∧ (∀ w : W32, s.isManager = true → s.hostOpen → exec (.registerWrite 0x300 w 15) s = .next { s with pool := { s.pool with
            cellBrk := s.pool.cellBrk && !w.getLsbD 0, creditBrk := s.pool.creditBrk && !w.getLsbD 1,
            tokenBrk := s.pool.tokenBrk && !w.getLsbD 2, grantBrk := s.pool.grantBrk && !w.getLsbD 3 } })
        ∧ (∀ (a : Nat) (w : W32), s.hostOpen → a < 0x40000 → completesWith (.spiWrite a [w] false) s (fun t =>
          exec (.registerWrite a w 15) s = .next t
          ∧ t = { s.reporting t with
              line := t.line, pool := t.pool })
            ∧ exec (.spiWrite a [w] true) s = .next s)
        ∧ (∀ a : Nat, s.isManager = true → s.hostOpen → a ≠ 0x200 → a ≠ 0x1150 → a ≠ 0x1158 →
            exec (.spiRead a 1) s = .next
            { s with out := .read a (BitVec.ofNat 32 (s.reg a)) :: s.out })
        ∧ exec .heartbeat s = .next (if s.start.fwState = 2 ∨ s.start.fwState = 4 then
            { s with host := { s.host with heartbeat := s.host.heartbeat + 1 } } else s)
        ∧ (s.isManager = true → s.power.state ≠ .moored → s.power.state ≠ .beached → s.clk.rootHold = true →
            ∀ (g : Fin 20) (a n : Nat) (v : W32) (be : BitVec 4) (k : Fin 8) (m : MbxNo) (l : List W32) (b : Bool),
            ∀ x ∈ ([(.evtStatusWrite g v, .write (0x1000 + 4 * g.val) v 15), (.evtEnableWrite a v, .write a v 15),
              (.vectorUnmask k, .write (0x300C + 16 * k.val) 0 15), (.registerWrite a v be, .write a v be),
              (.spiWrite a l b, .spiWrite a l b), (.spiRead a n, .spiRead a n),
              (.mbxDbReqWrite m v, .write (0x400 + 16 * m.val) v 15),
              (.mbxDbRplWrite m v, .write (0x404 + 16 * m.val) v 15), (.tideLoRead, .read 0x200),
              (.qthFifoDataRead, .read 0x1150), (.cntFifoDataRead, .read 0x1158)] : List (Instr × HostAccess)),
            exec x.1 s = .next { s with clk := { s.clk with waiting := s.clk.waiting ++ [x.2] } })
        ∧ (s.power.state = .moored ∨ s.power.state = .beached →
            ∀ (g : Fin 20) (a n : Nat) (v : W32) (be : BitVec 4) (k : Fin 8) (m : MbxNo) (l : List W32) (b : Bool),
            ∀ i ∈ [Instr.evtStatusWrite g v, .evtEnableWrite a v, .vectorUnmask k, .registerWrite a v be, .spiWrite a l b,
              .spiRead a n, .mbxDbReqWrite m v, .mbxDbRplWrite m v, .tideLoRead, .qthFifoDataRead, .cntFifoDataRead],
            exec i s = .next s)
        ∧ (s.isManager = false → ∀ (g : Fin 20) (a n : Nat) (v : W32) (be : BitVec 4) (k : Fin 8) (m : MbxNo)
            (l : List W32) (b : Bool), ∀ i ∈ [Instr.evtStatusWrite g v, .evtEnableWrite a v, .vectorUnmask k,
              .registerWrite a v be, .spiWrite a l b, .spiRead a n, .mbxDbReqWrite m v, .mbxDbRplWrite m v],
            exec i s = .next s))

/-- A request whose BERTH is not its mailbox's, or whose opcode its mailbox may not issue, is answered DENIED by every
command of the mailboxes, and changes nothing but what the answer reports (R640, R641, R658); within its scope, one
with header flags set is answered BAD_ARG (the model's choice, log 39), and one whose arguments would stand is
answered IGNORED while the device goes down, unless it is one of the commands served all the same (R799, R837). A
request that names another node (R650, R664): the manager relays it to a joined worker over the DCC and its mailbox
waits for the worker's answer; it is answered FAULT when the worker is not joined, and a fifth outstanding self-test
or PRBS is answered NO_SPACE. -/
def Obligations.RequestScope : Prop :=
  (∀ (s : State) (i : Instr) (opc : Nat) (q : Req), requestOf i = some (opc, q) → s.isManager = true →
        (outOfScope opc q = true → completesWith i s (fun t => t.answers opc q 7 [] ∧ t = s.reporting t))
        ∧ (outOfScope opc q = false → q.flags ≠ 0 → completesWith i s (fun t => t.answers opc q 4 [] ∧ t = s.reporting t))
        ∧ (outOfScope opc q = false → q.flags = 0 → s.goingDown = true → servedAlways opc = false →
            completesWith i s (fun t => (∃ c, t.answers opc q c []) ∧ t = s.reporting t)))
  ∧ (∀ (s : State) (opc : Nat) (q : Req) (n : Nat) (here : State → State), s.isManager = true → n ≠ 0 →
        (s.joined n = false → (s.atNode opc q n here).answers opc q 10 []
          ∧ s.atNode opc q n here = s.reporting (s.atNode opc q n here))
        ∧ (s.joined n = true → opc ≠ 0x0C00 ∧ opc ≠ 0x0C02 ∨ (s.box q.mbx.val).deferred.length < 4 →
            (s.atNode opc q n here).awaits opc q (.relay n)
            ∧ ∃ u, s.atNode opc q n here = State.dcc n (.relayCmd opc q.seq q.mbx q.payload) u)
        ∧ (s.joined n = true → opc = 0x0C00 ∨ opc = 0x0C02 → 4 ≤ (s.box q.mbx.val).deferred.length →
            (s.atNode opc q n here).answers opc q 5 []))

/-- The nineteen transactional commands (BERTH_SET, LINE_MODE_SET, LINE_LANE_SET, RING_SET, PORT_SET, QUEUE_SET,
SCHED_SET, SHAPER_SET, GATE_LIST_SET, POLICER_SET, CLASSIFIER_SET, ALLOC_MAP_SET, XGEM_MAP_SET, MCAST_SET,
POOL_RESERVE_SET, E1_SET, CES_SET, CISTERN_SET, TIDE_SET) by R643, R644, R660 and R662: one whose form and checks
stand is staged behind the earlier ones and answered DONE while the transaction has room, NO_SPACE when it has none,
and IGNORED cause 1 without a transaction; a payload that is not of its form is answered BAD_ARG; none of them touches
the configuration in force. A berth's transactional command that names an object outside its scope is answered DENIED
and stages nothing (R641), and on a TRV-4410 a 25G line command is answered UNSUPPORTED. -/
def Obligations.StagingCommands : Prop :=
  (∀ (s : State) (q : Req), ∀ r ∈ stagedRows q,
        s.admits r.2.1 q →
        (r.2.2.1 && decide (q.mbx.val < 32) && (s.view q.mbx.val).foreignT r.2.1 q) = false →
        s.unsupportedRate r.2.1 q.payload = false →
        (r.2.2.2 q.payload = none → completesWith r.1 s (fun t => t.answers r.2.1 q 4 [] ∧ t = s.reporting t))
        ∧ ∀ x named, r.2.2.2 q.payload = some (x, named) → (s.view q.mbx.val).settingFail x = none →
          ((s.box q.mbx.val).txn = none → completesWith r.1 s (fun t => t.answers r.2.1 q 3 [] ∧ t = s.reporting t))
          ∧ (∀ u, (s.box q.mbx.val).txn = some u → u.room q.payload.length = true → completesWith r.1 s (fun t =>
            t.answers r.2.1 q 0 []
            ∧ (t.box q.mbx.val).txn = some
              { staged := u.staged ++ [{ setting := x, named := named, opc := r.2.1, payload := q.payload }],
                bytes := u.bytes + q.payload.length, lastCmd := s.now }
            ∧ t = s.reporting t))
          ∧ (∀ u, (s.box q.mbx.val).txn = some u → u.room q.payload.length = false → completesWith r.1 s (fun t =>
            t.answers r.2.1 q 5 [] ∧ (t.box q.mbx.val).txn = some { u with lastCmd := s.now } ∧ t = s.reporting t)))
  ∧ (∀ (s : State) (q : Req), ∀ r ∈ stagedRows q, s.admits r.2.1 q →
        (r.2.2.1 = true → q.mbx.val < 32 → (s.view q.mbx.val).foreignT r.2.1 q = true → completesWith r.1 s (fun t =>
          t.answers r.2.1 q 7 [] ∧ (t.box q.mbx.val).txn = (s.box q.mbx.val).txn ∧ t = s.reporting t))
        ∧ (s.unsupportedRate r.2.1 q.payload = true → (r.2.2.1 = false ∨ 32 ≤ q.mbx.val ∨ (s.view q.mbx.val).foreignT r.2.1 q = false) →
            completesWith r.1 s (fun t => t.answers r.2.1 q 9 [] ∧ t = s.reporting t)))

/-- Transactions (R643, R645 to R647, R674, R675): one is open at most, a commit that admission refuses is answered
with its refusal and keeps the transaction, one that fits is answered ACCEPTED with the switch-over frame, kept for it
and stored, an abort discards what is staged. The switch-over of a commit (R644, R645, R663, R886): the accepted
commit whose frame comes first leaves the list of those that wait, its commands are in force in their order, on the
manager the workers' parts are kept, and the configuration store holds a configuration; without one the command does
nothing. -/
def Obligations.TransactionCommands : Prop :=
  (∀ (s : State) (q : Req), q.payload = [] →
        (s.admits 0x0200 q → completesWith (.txnOpen q) s (fun t =>
          (if (s.box q.mbx.val).txn.isSome then t.answers 0x0200 q 3 [] ∧ (t.box q.mbx.val).txn = (s.box q.mbx.val).txn
           else t.answers 0x0200 q 0 [] ∧ (t.box q.mbx.val).txn = some { staged := [], bytes := 0, lastCmd := s.now })
          ∧ t = s.reporting t))
        ∧ (s.admits 0x0201 q → (s.box q.mbx.val).txn = none → completesWith (.txnCommit q) s (fun t =>
          t.answers 0x0201 q 3 [] ∧ t = s.reporting t))
        ∧ (∀ u f n, s.admits 0x0201 q → (s.box q.mbx.val).txn = some u → s.commitFail q.mbx.val u.staged = some (f, n) →
            completesWith (.txnCommit q) s (fun t =>
          t.answers 0x0201 q 2 (refusal f n) ∧ (t.box q.mbx.val).txn = some { u with lastCmd := s.now } ∧ t.pends 302
          ∧ t.host.accepted = s.host.accepted ∧ t = s.reporting t))
        ∧ (∀ u, s.admits 0x0201 q → (s.box q.mbx.val).txn = some u → s.commitFail q.mbx.val u.staged = none →
            completesWith (.txnCommit q) s (fun t =>
          t.answers 0x0201 q 1 (leBytes 8 s.switchFrame) ∧ (t.box q.mbx.val).txn = none
          ∧ (t.box q.mbx.val).lastSwitch = s.switchFrame
          ∧ t.host.accepted = s.host.accepted ++ [{ mbx := q.mbx.val, frame := s.switchFrame, staged := u.staged }]
          ∧ (s.start.hasFlash = true → t.start.stored.isSome = true) ∧ t.start.stores s.start
          ∧ t = { s.reporting t with fresh := t.fresh, start := t.start }))
        ∧ (s.admits 0x0202 q → completesWith (.txnAbort q) s (fun t =>
          (if (s.box q.mbx.val).txn.isSome then t.answers 0x0202 q 0 [] else t.answers 0x0202 q 3 [])
          ∧ (t.box q.mbx.val).txn = none ∧ t = s.reporting t)))
  ∧ (∀ s : State,
        (s.host.nextCommit = none → exec .commitSwitchOver s = .next s)
        ∧ (∀ a, s.host.nextCommit = some a → completesWith .commitSwitchOver s (fun t =>
          a ∈ s.host.accepted ∧ (∀ b ∈ s.host.accepted, a.frame ≤ b.frame)
          ∧ t.host.accepted = s.host.accepted.erase a
          ∧ t.cfg = (if s.isManager then a.staged.foldl (Cfg.keepParts s.joinedNodes) (s.cfg.applyAll a.staged)
              else s.cfg.applyAll a.staged)
          ∧ t.snap = s.snap ∧ t.pending = s.pending
          ∧ t.fuses = s.fuses ∧ t.start.bankA = s.start.bankA ∧ t.start.bankB = s.start.bankB)))

/-- Session and status requests on the manager's own node (R651, R652, R667, R669, R676, Tables CA-3 to CA-14): HELLO
opens the session, OP_ABORT ends the operation it names, the others answer DONE with what they report and change
nothing else; MDIO_ACCESS answers DONE or FAULT as the PHY does. Ring requests on the manager (R422, R460, R664, R682
to R686): the status of its own node, a protection command that changes nothing is IGNORED and another one takes
effect with its event, RING_RENUMBER empties the node table, NODE_RESET waits for the worker it names and is FAULT
when that one is not joined. -/
def Obligations.SessionAndRingRequests : Prop :=
  (∀ (s : State) (q : Req),
        (s.admits 0x0001 q → q.payload.length = 4 → completesWith (.mbxHello q) s (fun t =>
          t.answers 0x0001 q 0 (leBytes 4 s.start.fwVersion.toNat ++ leBytes 1 q.mbx.val ++ [0, 0, 0]
            ++ leBytes 4 (s.box q.mbx.val).evtDropped)
          ∧ (t.box q.mbx.val).session = true ∧ (t.box q.mbx.val).txn = none ∧ t.pends 583
          ∧ ((s.box q.mbx.val).txn.isSome = true → t.pends 582) ∧ t = s.reporting t))
        ∧ (s.admits 0x0003 q → q.payload.length = 4 → zeroAt q.payload 2 2 = true →
            (s.box q.mbx.val).deferred.find? (fun d => d.seq == u16 q.payload 0) = none →
            completesWith (.opAbort q) s (fun t => t.answers 0x0003 q 3 [] ∧ t = s.reporting t))
        ∧ (∀ d, s.admits 0x0003 q → q.payload.length = 4 → zeroAt q.payload 2 2 = true →
            (s.box q.mbx.val).deferred.find? (fun d => d.seq == u16 q.payload 0) = some d → objNode d.object = 0 →
            completesWith (.opAbort q) s (fun t =>
          t.answers 0x0003 q 0 [] ∧ (∀ e ∈ (t.box q.mbx.val).deferred, e.seq ≠ d.seq) ∧ t.cfg = s.cfg
          ∧ t = { s.reporting t with
              fresh := t.fresh, start := t.start, pool := t.pool, e1s := t.e1s }))
        ∧ (s.admits 0x0100 q → q.payload = [0, 0, 0, 0] → completesWith (.identGet q) s (fun t =>
          (∃ p, t.answers 0x0100 q 0 p ∧ p.take 12 = leBytes 4 s.idPart ++ leBytes 4 idStep ++ leBytes 4 s.idCap
            ∧ (p.drop 12).take 8 = beBytes 8 s.serial.toNat)
          ∧ t = s.reporting t))
        ∧ (s.admits 0x0101 q → q.payload = [0, 2, 0, 0] → completesWith (.statusGet q) s (fun t =>
          t.answers 0x0101 q 0 (s.box q.mbx.val).status ∧ t = s.reporting t))
        ∧ (s.admits 0x0101 q → q.payload = [0, 0, 0, 0] → completesWith (.statusGet q) s (fun t =>
          t.answers 0x0101 q 0 s.statusGlobal ∧ t = { s.reporting t with fresh := s.fresh + 1 }))
        ∧ (s.admits 0x0101 q → q.payload = [0, 1, 0, 0] → completesWith (.statusGet q) s (fun t =>
          (if q.mbx.val < 32 then t.answers 0x0101 q 7 []
           else t.answers 0x0101 q 0 ((List.range 9).flatMap (fun k => leBytes 4 (s.ledgerReg k))))
          ∧ t = s.reporting t))
        ∧ (s.admits 0x0203 q → q.payload = [0, 0, 0, 0] → completesWith (.txnStatus q) s (fun t =>
          t.answers 0x0203 q 0 (s.txnState q.mbx.val) ∧ t = s.reporting t))
        ∧ (∀ k, s.admits 0x0203 q → q.payload = [1, 0] ++ leBytes 2 k → k < 65536 → completesWith (.txnStatus q) s (fun t =>
          t.answers 0x0203 q 0 (s.shedList q.mbx.val k) ∧ t = s.reporting t))
        ∧ (∀ l : Lane, s.admits 0x0302 q → q.payload = [BitVec.ofNat 8 l.val, 0, 0, 0] →
            completesWith (.lineStatusGet q) s (fun t =>
          (∃ p, t.answers 0x0302 q 0 p ∧ p.take 4 = leBytes 4 (s.lnStatus l.val)) ∧ t = s.reporting t))
        ∧ (∀ p : PortNo, s.admits 0x0501 q → q.payload = leBytes 4 (objId 0 1 p.val) → s.cfg.foreign q 0 = false →
            completesWith (.portStatusGet q) s (fun t =>
          (∃ r, t.answers 0x0501 q 0 r
            ∧ r.take 2 = leBytes 1 (b2n (s.port p.val).link) ++ leBytes 1 (s.port p.val).fault)
          ∧ t = s.reporting t))
        ∧ (s.admits 0x0502 q → q.payload.length = 8 → u8 q.payload 0 = 0 → u8 q.payload 1 ≤ 1 → u8 q.payload 2 ≤ 31 →
            u8 q.payload 3 ≤ 31 → (u8 q.payload 1 = 0 → u16 q.payload 6 = 0) → completesWith (.mdioAccess q) s (fun t =>
          (s.clocked 26 = false → t.answers 0x0502 q 0 (leBytes 2 (u16 q.payload 6) ++ [0, 0]) ∧ t = s.reporting t)
          ∧ (s.clocked 26 = true → (Config.freeWord s.fresh).getLsbD 16 = true →
              t.answers 0x0502 q 0 (leBytes 2 (if u8 q.payload 1 = 1 then u16 q.payload 6
                else (Config.freeWord s.fresh).toNat) ++ [0, 0]))
          ∧ (s.clocked 26 = true → (Config.freeWord s.fresh).getLsbD 16 = false → t.answers 0x0502 q 10 [])
          ∧ (s.clocked 26 = true → t = { s.reporting t with fresh := s.fresh + 1 }))))
  ∧ (∀ (s : State) (q : Req),
        (s.admits 0x0400 q → q.payload = [0, 0, 0, 0] → completesWith (.ringStatusGet q) s (fun t =>
          t.answers 0x0400 q 0 (s.ringHead ++ s.ringTail 0) ∧ t = s.reporting t))
        ∧ (∀ (d : Side) (c : Nat), s.admits 0x0402 q → q.payload = [0, BitVec.ofNat 8 d.val, BitVec.ofNat 8 c, 0] →
            c = 0 ∨ c = 3 ∨ c = 7 → completesWith (.ringProtectCmd q) s (fun t =>
          (if (c = 0 ∧ (s.side d.val).cmd = 0) ∨ (c = 3 ∧ s.otherRequest d.val = true) then
            t.answers 0x0402 q 3 [] ∧ t = s.reporting t ∧ (t.side d.val).cmd = (s.side d.val).cmd
           else t.answers 0x0402 q 0 [] ∧ (t.side d.val).cmd = c ∧ t.pends 387)
          ∧ t = { s.reporting t with adm := { s.adm with due := t.adm.due } }))
        ∧ (s.admits 0x0403 q → q.payload = leBytes 4 0x524E554D → completesWith (.ringRenumber q) s (fun t =>
          t.answers 0x0403 q 0 [] ∧ t.ring.nodes = []
          ∧ t = { s.reporting t with pool := t.pool, adm := { s.adm with due := t.adm.due } }))
        ∧ (∀ n : NodeNo, s.admits 0x0404 q → n.val ≠ 0 → q.payload = [BitVec.ofNat 8 n.val, 0, 0, 0] →
            completesWith (.nodeReset q) s (fun t =>
          (if s.joined n.val then t.awaits 0x0404 q (.relay n.val) else t.answers 0x0404 q 10 []) ∧ t = s.reporting t)))

/-- QUEUE_FLUSH, KEY_LOAD and KEY_ERASE on the manager's own objects (R304, R588, R690, R710 to R716): a flush frees
the queue's packets at once, marks its point while one is being sent or staged, and waits for a recount's end; a key
loaded stands in the shadow of its bank until the next packet starts; an erase empties the bank and waits for the
zeroisation, and of an empty bank it is IGNORED; a master session key is put in the vault or taken from it. Counters
and snapshots on the manager's own node (R709, R717 to R720, R779, R780): CNT_READ answers with the Tide of the read
and the values; CNT_SNAPSHOT selects, and with NOW it latches the values at once and waits for the window; when the
window is filled SNAP_SEQ has advanced twice, the window holds selection, Tide and values, and EV_SNAPSHOT_READY is
raised. -/
def Obligations.QueueKeyAndCounterRequests : Prop :=
  (∀ (s : State) (q : Req), s.cfg.foreign q 0 = false →
        (∀ k : Fin 4096, s.admits 0x0601 q → queueNamed 0 k.val = true → q.payload = leBytes 4 (objId 0 2 k.val) →
            completesWith (.queueFlush q) s (fun t =>
          (s.pool.recount = true → t.awaits 0x0601 q (.recount k.val) ∧ t.pool = s.pool)
          ∧ (s.pool.recount = false → t.answers 0x0601 q 0 []
            ∧ ((s.queue k.val).sending = false → s.hasStaged k.val = false → (t.queue k.val).pkts = []
              ∧ t.pool.free = s.pool.free + sumCells (s.queue k.val).pkts)
            ∧ ((s.queue k.val).sending = true ∨ s.hasStaged k.val = true →
              t.queue k.val = { s.queue k.val with flush := some (s.queue k.val).pkts.length }))
          ∧ (∀ j, j ≠ k.val → t.queue j = s.queue j) ∧ t = { s.reporting t with pool := t.pool }))
        ∧ (∀ (n : Fin 256) (b : Fin 2) (kb : List Byte), s.admits 0x0800 q → 4 ≤ n.val → kb.length = 16 →
            q.payload = leBytes 4 (objId 0 0xB n.val) ++ leBytes 4 (b.val + 1) ++ kb → completesWith (.keyLoad q) s (fun t =>
          t.answers 0x0800 q 0 [] ∧ t.bank n.val b.val = { s.bank n.val b.val with shadow := some (keyAt q.payload 8), erased := false }
          ∧ (∀ i, i ≠ n.val * 2 + b.val → Tab.get {} t.cipher.banks i = Tab.get {} s.cipher.banks i)
          ∧ t.pends 547 ∧ t = { s.reporting t with cipher := { s.cipher with banks := t.cipher.banks } }))
        ∧ (∀ (l : Lane) (kb : List Byte), s.admits 0x0800 q → kb.length = 16 →
            q.payload = leBytes 4 (objId 0 0xB (256 + l.val)) ++ leBytes 4 0 ++ kb → completesWith (.keyLoad q) s (fun t =>
          t.answers 0x0800 q 0 [] ∧ Tab.get none t.cipher.vault l.val = some (keyAt q.payload 8)
          ∧ Tab.get none t.cipher.session l.val = some (Config.deriveKey (keyAt q.payload 8) 0)
          ∧ Tab.get none t.cipher.vault (4 + l.val) = some (Config.deriveKey (Config.deriveKey (keyAt q.payload 8) 0) 1)
          ∧ Tab.get none t.cipher.vault (8 + l.val) = some (Config.deriveKey (Config.deriveKey (keyAt q.payload 8) 0) 2)
          ∧ Tab.get none t.cipher.vault (12 + l.val) = some (Config.deriveKey (Config.deriveKey (keyAt q.payload 8) 0) 3)
          ∧ t.cipher.mskLoaded = putBit s.cipher.mskLoaded l.val true ∧ t.start.stores s.start
          ∧ t = { s.reporting t with
              fresh := t.fresh, start := t.start
              cipher := { s.cipher with
                vault := t.cipher.vault, session := t.cipher.session, mskLoaded := t.cipher.mskLoaded } }))
        ∧ (∀ (n : Fin 256) (b : Fin 2), s.admits 0x0801 q → 4 ≤ n.val →
            q.payload = leBytes 4 (objId 0 0xB n.val) ++ leBytes 4 (b.val + 1) → completesWith (.keyErase q) s (fun t =>
          (if (s.bank n.val b.val).busy = true then t.awaits 0x0801 q (.zeroise n.val b.val)
            ∧ t.bank n.val b.val = (if (s.bank n.val b.val).holds then
                { key := none, shadow := none, erasing := true, erased := true } else s.bank n.val b.val)
           else t.answers 0x0801 q 3 [] ∧ t.cipher = s.cipher)
          ∧ (∀ i, i ≠ n.val * 2 + b.val → Tab.get {} t.cipher.banks i = Tab.get {} s.cipher.banks i)
          ∧ t = { s.reporting t with cipher := { s.cipher with banks := t.cipher.banks } }))
        ∧ (∀ l : Lane, s.admits 0x0801 q → q.payload = leBytes 4 (objId 0 0xB (256 + l.val)) ++ leBytes 4 0 →
            completesWith (.keyErase q) s (fun t =>
          t.answers 0x0801 q 0 [] ∧ Tab.get none t.cipher.vault l.val = none
          ∧ Tab.get none t.cipher.session l.val = some (Config.deriveKey (Config.defaultKey l.val) 0)
          ∧ Tab.get none t.cipher.vault (4 + l.val) = some (Config.deriveKey (Config.deriveKey (Config.defaultKey l.val) 0) 1)
          ∧ Tab.get none t.cipher.vault (8 + l.val) = some (Config.deriveKey (Config.deriveKey (Config.defaultKey l.val) 0) 2)
          ∧ Tab.get none t.cipher.vault (12 + l.val) = some (Config.deriveKey (Config.deriveKey (Config.defaultKey l.val) 0) 3)
          ∧ t.cipher.mskLoaded = putBit s.cipher.mskLoaded l.val false ∧ t.start.stores s.start
          ∧ t = { s.reporting t with
              fresh := t.fresh, start := t.start
              cipher := { s.cipher with
                vault := t.cipher.vault, session := t.cipher.session, mskLoaded := t.cipher.mskLoaded } })))
  ∧ (∀ s : State,
        (∀ (q : Req) (i : BitVec 16) (n : Nat), s.admits 0x0900 q → 1 ≤ n → n ≤ 125 →
            cntRange (objId 0 0xF i.toNat) n = true → s.cfg.mayRead q.mbx.val 0 i.toNat n = true →
            q.payload = leBytes 4 (objId 0 0xF i.toNat) ++ leBytes 4 n → completesWith (.cntRead q) s (fun t =>
          t.answers 0x0900 q 0 (leBytes 8 s.tide.word
            ++ ((List.range n).map (fun k => s.cntVal (i.toNat + k))).flatMap (fun v => leBytes 8 v))
          ∧ t = s.reporting t))
        ∧ (∀ (q : Req) (i : BitVec 16) (n : Nat), s.admits 0x0901 q → 1 ≤ n → n ≤ 504 →
            cntRange (objId 0 0xF i.toNat) n = true →
            q.payload = leBytes 4 (objId 0 0xF i.toNat) ++ leBytes 2 n ++ [0, 0] → completesWith (.cntSnapshot q) s (fun t =>
          t.answers 0x0901 q 0 (leBytes 8 0)
          ∧ t = { s.reporting t with snap := { s.snap with object := objId 0 0xF i.toNat, count := n } }))
        ∧ (∀ (q : Req) (i : BitVec 16) (n : Nat), s.admits 0x0901 q → 1 ≤ n → n ≤ 504 →
            cntRange (objId 0 0xF i.toNat) n = true → s.snap.filling = none →
            q.payload = leBytes 4 (objId 0 0xF i.toNat) ++ leBytes 2 n ++ [1, 0] → completesWith (.cntSnapshot q) s (fun t =>
          t.awaits 0x0901 q .snapshot
          ∧ t = { s.reporting t with
              fresh := t.fresh
              snap := { s.snap with
                object := objId 0 0xF i.toNat, count := n, seq := s.snap.seq + 1, asker := some q.mbx.val,
                filling := some { object := objId 0 0xF i.toNat, tide := s.tide.word,
                                  vals := (List.range n).map (fun k => s.cntVal (i.toNat + k)) } } }))
        ∧ (∀ f, s.snap.filling = some f → completesWith .snapshotFillDone s (fun t =>
          t.snap = { s.snap with
            filling := none, seq := s.snap.seq + 1, tide := f.tide, winObj := f.object, winCount := f.vals.length,
            vals := f.vals, asker := none }
          ∧ t.pends 482 ∧ t = { s.reporting t with snap := t.snap }))
        ∧ (s.snap.filling = none → exec .snapshotFillDone s = .next s))

/-- What a re-run sheds and restores (R409, R413): next to be shed is the candidate of the lowest SHED_PRI, and of
those the one of the highest object ID; shedding only adds at the end and never the same object twice; restoring only
takes from the end. ADMISSION_RECHECK (R407 to R413, Table AD-4): when one is due, the lists of shed objects and of
objects at risk are those of the committed configuration, what is newly shed, at risk or restored is told, a re-run
that sheds and restores nothing says so, and only circuits, their queues and the admission state change. That no
further check may fail when an object is restored is the model's reading (log 33). -/
def Obligations.AdmissionReruns : Prop :=
  (∀ (s : State) (c : Cfg),
        (∀ (l : List Nat) (o : Nat), c.shedNext l = some o →
          o ∈ l ∧ ∀ x ∈ l, c.shedPri o < c.shedPri x ∨ (c.shedPri o = c.shedPri x ∧ x ≤ o))
        ∧ (∀ l : List Nat, c.shedNext l = none ↔ l = [])
        ∧ (∀ (fuel : Nat) (excl : List Nat), excl <+: s.shedLoop c fuel excl
            ∧ (excl.Nodup → (s.shedLoop c fuel excl).Nodup))
        ∧ (∀ (base : List (Nat × Nat)) (fuel : Nat) (excl : List Nat), s.restoreLoop c base fuel excl <+: excl
            ∧ ((∀ x ∈ s.failSet c excl, x ∈ base) → ∀ x ∈ s.failSet c (s.restoreLoop c base fuel excl), x ∈ base)))
  ∧ (∀ s : State,
        (s.adm.due = none → exec .admissionRecheck s = .next s)
        ∧ (∀ f, s.adm.due = some f → completesWith .admissionRecheck s (fun t =>
          let u := s.until (f * 777600)
          let old := s.adm.shed
          let full := u.shedLoop s.cfg s.cfg.shedCount old
          let kept := u.restoreLoop s.cfg (u.failSet s.cfg full) full.length full
          t.adm = { s.adm with due := none, shed := kept, atRisk := u.riskOf s.cfg kept, lastFrame := u.tide.frame }
          ∧ (old.length < full.length → t.pends 303) ∧ (u.riskOf s.cfg kept ≠ [] → t.pends 304)
          ∧ (kept.length < full.length → t.pends 305)
          ∧ (full.length ≤ old.length → full.length ≤ kept.length → t.pends 306)
          ∧ t = { s.passing t with adm := t.adm, pool := t.pool })))

/-- A firmware write (R650, R730 to R735, R860, Table CB-12): it begins with an empty bank and a deferred operation
unless one runs, the running image is unconfirmed or Itvekor is not in RUN; blocks are taken in order and counted, one
that arrives during the erase waits for its end; its end needs the whole size and starts the verification; that ends
it, with a VALID bank when it passes and an EMPTY one otherwise, and completes the operation. Activation, confirmation and workers' images (R736 to
R738, R861, R867, R963, Table ST-7): FW_ACTIVATE marks the other bank TRIAL and sets the restart for the second
boundary, when that bank holds a good image; FW_CONFIRM makes the running image the one to start from; a joined worker
that runs another version gets the image; LOGBOOK_READ gives the records asked for. -/
def Obligations.FirmwareCommands : Prop :=
  (∀ s : State,
        (∀ (q : Req) (size ver : Nat), s.admits 0x0B00 q → 4096 ≤ size → size ≤ bankSize → ver < 2 ^ 32 →
            q.payload = leBytes 4 size ++ leBytes 4 ver ++ leBytes 4 0 → completesWith (.fwWriteBegin q) s (fun t =>
          (if s.start.write.isSome = true ∨ s.start.unconfirmed = true ∨ s.start.fwState ≠ 2 then
            t.answers 0x0B00 q 3 [] ∧ t.start = s.start
           else if 4 ≤ (s.box q.mbx.val).deferred.length then t.answers 0x0B00 q 5 [] ∧ t.start = s.start
           else t.answers 0x0B00 q 6 []
            ∧ (t.box q.mbx.val).deferred = (s.box q.mbx.val).deferred
                ++ [{ seq := q.seq.toNat, tag := q.tag, opc := 0x0B00, object := 0 }]
            ∧ t.start.rewrote { s.start.putBank s.start.other {} with
                write := some { mbx := q.mbx.val, seq := q.seq.toNat, size := size, version := BitVec.ofNat 32 ver } })
          ∧ t = { s.reporting t with start := t.start }))
        ∧ (∀ (q : Req) (seq off : Nat) (data : List Byte), s.admits 0x0B01 q → seq < 65536 → off < 2 ^ 32 →
            1 ≤ data.length → data.length ≤ 1000 → q.payload = leBytes 2 seq ++ [0, 0] ++ leBytes 4 off ++ data →
            completesWith (.fwWriteBlock q) s (fun t =>
          (s.writeOf q.mbx.val seq = none → t.answers 0x0B01 q 3 [] ∧ t.start = s.start)
          ∧ (∀ w, s.writeOf q.mbx.val seq = some w → off ≠ w.bytes.length ∨ w.size < off + data.length →
              t.answers 0x0B01 q 4 [] ∧ t.start = s.start)
          ∧ (∀ w, s.writeOf q.mbx.val seq = some w → off = w.bytes.length → off + data.length ≤ w.size → w.erasing = true →
              t.awaits 0x0B01 q .erase ∧ t.start = s.start)
          ∧ (∀ w, s.writeOf q.mbx.val seq = some w → off = w.bytes.length → off + data.length ≤ w.size → w.erasing = false →
              t.answers 0x0B01 q 0 [] ∧ t.start = { s.start with write := some { w with bytes := w.bytes ++ data } })
          ∧ t = { s.reporting t with start := t.start }))
        ∧ (∀ w, s.start.write = some w → w.erasing = true → w.cutOff = false → (s.box w.mbx).waiting = none →
            exec .fwEraseDone s = .next { s with start := { s.start with write := some { w with erasing := false } } })
        ∧ (∀ w x, s.start.write = some w → w.erasing = true → w.cutOff = false → (s.box w.mbx).waiting = some x →
            x.on = .erase → s.isManager = true → completesWith .fwEraseDone s (fun t =>
          t.answers x.opc x.req 0 []
          ∧ t.start = { s.start with write := some { w with
              erasing := false, bytes := w.bytes ++ x.req.payload.drop 8 } }
          ∧ t = { s.reporting t with start := t.start }))
        ∧ (s.start.write.all (fun w => !w.erasing || w.cutOff) = true → exec .fwEraseDone s = .next s)
        ∧ (∀ (q : Req) (seq : Nat), s.admits 0x0B02 q → seq < 65536 → q.payload = leBytes 2 seq ++ [0, 0] →
            completesWith (.fwWriteEnd q) s (fun t =>
          (s.writeOf q.mbx.val seq = none → t.answers 0x0B02 q 3 [] ∧ t.start = s.start)
          ∧ (∀ w, s.writeOf q.mbx.val seq = some w →
             if w.verifying = true then t.answers 0x0B02 q 3 [] ∧ t.start = s.start
             else if w.bytes.length ≠ w.size then t.answers 0x0B02 q 4 [] ∧ t.start = s.start
             else t.answers 0x0B02 q 0 [] ∧ t.start = { s.start with write := some { w with verifying := true } })
          ∧ t = { s.reporting t with start := t.start }))
        ∧ (∀ (w : FwWrite) (ok : Bool), s.start.write = some w → w.verifying = true →
            completesWith (.fwVerifyDone ok) s (fun t =>
          t.start.rewrote { s.start.putBank s.start.other (if ok = true ∧ s.imageResult w.bytes = 0 then
              { state := .valid, image := w.bytes, good := true } else {}) with write := none }
          ∧ (∀ d ∈ (t.box w.mbx).deferred, d.seq ≠ w.seq) ∧ t = { s.reporting t with start := t.start }))
        ∧ (∀ ok : Bool, s.start.write.all (fun w => !w.verifying) = true → exec (.fwVerifyDone ok) s = .next s))
  ∧ (∀ s : State,
        (∀ (q : Req) (n : Nat), s.admits 0x0B03 q → n ≤ 60 → q.payload = leBytes 4 n → completesWith (.fwActivate q) s (fun t =>
          (if (s.start.bank s.start.other).good = true then t.answers 0x0B03 q 0 []
            ∧ t.start.rewrote { s.start.mark s.start.other .trial with
                target := some s.start.other, confirmMin := if n = 0 then 10 else n,
                activateAt := some (s.tide.frame + 2) }
           else t.answers 0x0B03 q 3 [] ∧ t.start = s.start)
          ∧ t = { s.reporting t with start := t.start }))
        ∧ (∀ q : Req, s.admits 0x0B04 q → q.payload = [] → completesWith (.fwConfirm q) s (fun t =>
          (if s.start.unconfirmed = true then t.answers 0x0B04 q 0 [] ∧ t.pends 102
            ∧ t.start.rewrote { s.start.mark s.start.image .valid with
                startBank := s.start.image, unconfirmed := false, confirmEnd := none, fallback := false }
           else t.answers 0x0B04 q 3 [] ∧ t.start = s.start)
          ∧ t = { s.reporting t with start := t.start }))
        ∧ (∀ n : NodeNo, s.isManager = true → s.joined n.val = true → s.served ≠ [] →
            (s.node n.val).version ≠ imgVersion s.served → completesWith (.workerImageUpdate n) s (fun t =>
          t.node n.val = { s.node n.val with version := imgVersion s.served } ∧ (∀ j, j ≠ n.val → t.node j = s.node j)
          ∧ t.pends 108 ∧ t = s.reporting t))
        ∧ (∀ n : NodeNo, s.isManager = false ∨ s.joined n.val = false ∨ s.served = []
            ∨ (s.node n.val).version = imgVersion s.served → exec (.workerImageUpdate n) s = .next s)
        ∧ (∀ (q : Req) (c st : Nat), s.admits 0x0B10 q → 1 ≤ c → c ≤ 15 → st < 2 ^ 32 →
            q.payload = [0, 0] ++ leBytes 2 c ++ leBytes 4 st → completesWith (.logbookRead q) s (fun t =>
          t.answers 0x0B10 q 0 (s.log.reply st c) ∧ t = s.reporting t)))

/-- Self-tests, loopbacks and PRBS tests on the manager's own objects (R650, R739 to R744, R878 to R882, Table CB-12):
one self-test runs at once (a second is IGNORED by the model's choice, log 45), a full one ends only in MAINTENANCE
and retires the cells that failed; a loopback and a test take their object out of service, a ring side's need
MAINTENANCE, an object under test takes no other, MODE 0, the time and the end of a test give it back. MAINTENANCE on
the manager's own node (R745, R880, R881, R883): entering it takes every port down and empties the queues that nothing
holds; leaving it returns to RUN and runs admission again; asking for the state that holds is IGNORED. -/
def Obligations.DiagnosticCommands : Prop :=
  (∀ s : State,
        (∀ (q : Req) (sc : Nat), s.admits 0x0C00 q → sc ≤ 1 → q.payload = [0, BitVec.ofNat 8 sc, 0, 0] →
            completesWith (.diagSelftest q) s (fun t =>
          (if s.start.selftest.isSome = true then t.answers 0x0C00 q 3 [] ∧ t.start = s.start
           else if 4 ≤ (s.box q.mbx.val).deferred.length then t.answers 0x0C00 q 5 [] ∧ t.start = s.start
           else t.answers 0x0C00 q 6 [] ∧ t.start = { s.start with selftest := some (q.mbx.val, q.seq.toNat, sc) })
          ∧ t = { s.reporting t with start := t.start }))
        ∧ (∀ (m seq sc tested retired units ms : Nat), s.start.selftest = some (m, seq, sc) → sc ≠ 1 ∨ s.start.maint = true →
            completesWith (.selftestDone tested retired units ms) s (fun t =>
          (let k := if sc = 1 then min retired s.pool.free else 0
           t.pool = { s.pool with
             free := s.pool.free - k, test := s.pool.test + k, retired := s.pool.retired + k })
          ∧ (retired ≠ 0 ∨ units ≠ 0 → t.pends 104)
          ∧ t.adm = (if sc = 1 ∧ retired ≠ 0 then { s.adm with due := some (s.tide.frame + 2) } else s.adm)
          ∧ (∀ d ∈ (t.box m).deferred, d.seq ≠ seq)
          ∧ t = { s.reporting t with start := { s.start with selftest := none }, pool := t.pool, adm := t.adm }))
        ∧ (∀ tested retired units ms : Nat, s.start.selftest = none
            ∨ (∃ m seq, s.start.selftest = some (m, seq, 1) ∧ s.start.maint = false) →
            exec (.selftestDone tested retired units ms) s = .next s)
        ∧ (∀ (q : Req) (cls i mode dur : Nat), s.admits 0x0C01 q → s.cfg.foreign q 0 = false →
            diagObj (objId 0 cls i) = true → cls < 16 → i < 2 ^ 24 → mode ≤ 2 → dur ≤ 3600 →
            q.payload = leBytes 4 (objId 0 cls i) ++ [BitVec.ofNat 8 mode, 0] ++ leBytes 2 dur →
            completesWith (.diagLoopback q) s (fun t =>
          let o := objId 0 cls i
          (if mode = 0 then
            (if (s.diagOf o).any (·.loopback) = true then t.answers 0x0C01 q 0 [] ∧ t.diagOf o = none
             else t.answers 0x0C01 q 3 [] ∧ t.diagOf o = s.diagOf o)
           else if s.needsMaint o = true ∨ (s.diagOf o).isSome = true then
            t.answers 0x0C01 q 3 [] ∧ t.diagOf o = s.diagOf o
           else t.answers 0x0C01 q 0 []
            ∧ t.diagOf o = some { loopback := true, mode := mode, mbx := q.mbx.val, seq := q.seq.toNat
                                  ends := if dur = 0 then none else some (s.now + dur * secTicks) }
            ∧ (cls = 1 → (t.port i).link = false) ∧ (cls = 0xE → (t.side (i - 0x10)).prbs = false))
          ∧ (∀ j, j ≠ o → t.diagOf j = s.diagOf j)
          ∧ t = { s.reporting t with
              start := { s.start with diags := t.start.diags }, pool := t.pool, ports := t.ports, e1s := t.e1s }))
        ∧ (∀ o : W32, (s.diagOf o.toNat).any (fun d => d.loopback && d.ends.isSome) = true →
            completesWith (.loopbackExpiry o) s (fun t =>
          t.diagOf o.toNat = none ∧ (∀ j, j ≠ o.toNat → t.diagOf j = s.diagOf j)
          ∧ t = { s.passing t with start := { s.start with diags := t.start.diags }, pool := t.pool }))
        ∧ (∀ o : W32, (s.diagOf o.toNat).any (fun d => d.loopback && d.ends.isSome) = false →
            exec (.loopbackExpiry o) s = .next s)
        ∧ (∀ (q : Req) (cls i pat dir dur : Nat), s.admits 0x0C02 q → s.cfg.foreign q 0 = false →
            diagObj (objId 0 cls i) = true → cls < 16 → i < 2 ^ 24 → pat ≤ 3 → (cls = 7 → pat = 1) → 1 ≤ dir → dir ≤ 3 →
            1 ≤ dur → dur ≤ 3600000 →
            q.payload = leBytes 4 (objId 0 cls i) ++ [BitVec.ofNat 8 pat, BitVec.ofNat 8 dir, 0, 0] ++ leBytes 4 dur →
            completesWith (.diagPrbs q) s (fun t =>
          let o := objId 0 cls i
          (if s.needsMaint o = true ∨ (s.diagOf o).isSome = true then
            t.answers 0x0C02 q 3 [] ∧ t.diagOf o = s.diagOf o
           else if 4 ≤ (s.box q.mbx.val).deferred.length then t.answers 0x0C02 q 5 [] ∧ t.diagOf o = s.diagOf o
           else t.answers 0x0C02 q 6 []
            ∧ t.diagOf o = some { loopback := false, mode := dir, pattern := pat, mbx := q.mbx.val, seq := q.seq.toNat
                                  ends := some (s.now + dur * msTicks) }
            ∧ (cls = 1 → (t.port i).link = false) ∧ (cls = 0xE → (t.side (i - 0x10)).prbs = true))
          ∧ (∀ j, j ≠ o → t.diagOf j = s.diagOf j)
          ∧ t = { s.reporting t with
              start := { s.start with diags := t.start.diags }, pool := t.pool, ports := t.ports, e1s := t.e1s }))
        ∧ (∀ (o : W32) (d : Diag) (bits errors losses : Nat), s.diagOf o.toNat = some d → d.loopback = false →
            completesWith (.prbsDone o bits errors losses) s (fun t =>
          t.diagOf o.toNat = none ∧ (∀ j, j ≠ o.toNat → t.diagOf j = s.diagOf j)
          ∧ (∀ x ∈ (t.box d.mbx).deferred, x.seq ≠ d.seq)
          ∧ t = { s.passing t with start := { s.start with diags := t.start.diags }, pool := t.pool }))
        ∧ (∀ (o : W32) (bits errors losses : Nat), (s.diagOf o.toNat).all (·.loopback) = true →
            exec (.prbsDone o bits errors losses) s = .next s))
  ∧ (∀ (s : State) (q : Req) (a : Nat), s.admits 0x0C03 q → a ≤ 1 → q.payload = [0, BitVec.ofNat 8 a, 0, 0] →
        completesWith (.diagMaintenance q) s (fun t =>
          (if (a == 1) = s.start.maint then t.answers 0x0C03 q 3 [] ∧ t = s.reporting t
           else if a = 1 then t.answers 0x0C03 q 0 [] ∧ t.pends 105 ∧ (∀ p : PortNo, (t.port p.val).link = false)
            ∧ (∀ k : Nat, s.pool.recount = false → (s.queue k).sending = false → s.hasStaged k = false →
                (t.queue k).pkts = [])
            ∧ t = { s.reporting t with
                start := { s.start with maint := true, fwState := 4 }, pool := t.pool, ports := t.ports }
           else t.answers 0x0C03 q 0 [] ∧ t.pends 105 ∧ t.start.maint = false ∧ t.start.fwState = 2
            ∧ t.adm.lastFrame = s.tide.frame ∧ t.adm.due = none ∧ t.cfg = s.cfg ∧ t.line = s.line ∧ t.tide = s.tide
            ∧ t.clk = s.clk ∧ t.power = s.power ∧ t.sched = s.sched)))

/-- OMCI_SEND (R746 to R749, Table CB-9): only a lane in O5 takes a segment; MORE keeps it for the next one; the last
one puts the whole message with its integrity code into the lane's OMCI queue, or is answered NO_SPACE when the pool
has no room (the model's choice, log 46); a message above 2,048 bytes is BAD_ARG. Event and Tide requests on the
manager's own node (R55 to R57, R62, R65, R66, R751 to R754, R761, R772, Tables CB-10 and CB-11): EVT_CONFIG sets what
its SET flags name, EVT_ACK clears just the named bits, EVT_FETCH reports every group with the Tide, TIDE_ALARM_SET
puts the alarm, one whose target has passed firing late at once, TIDE_PULSE_SET puts the pulse and its next edge. -/
def Obligations.OmciEventAndTideRequests : Prop :=
  (∀ (s : State) (q : Req) (l : Lane) (data part : List Byte), s.admits 0x0D00 q → 1 ≤ data.length → data.length ≤ 1004 →
        part = (s.host.omciSeg.elim [] (fun x => if x.1 = l.val then x.2 else [])) →
        ((s.lane l.val).act ≠ .o5 → ∀ f : Nat, f ≤ 1 →
            q.payload = [BitVec.ofNat 8 l.val, BitVec.ofNat 8 f] ++ leBytes 2 data.length ++ data →
            completesWith (.omciSend q) s (fun t => t.answers 0x0D00 q 3 [] ∧ t = s.reporting t))
        ∧ ((s.lane l.val).act = .o5 → 2048 < (part ++ data).length → ∀ f : Nat, f ≤ 1 →
            q.payload = [BitVec.ofNat 8 l.val, BitVec.ofNat 8 f] ++ leBytes 2 data.length ++ data →
            completesWith (.omciSend q) s (fun t =>
          t.answers 0x0D00 q 4 [] ∧ t.host.omciSeg = none ∧ t = s.reporting t))
        ∧ ((s.lane l.val).act = .o5 → (part ++ data).length ≤ 2048 →
            q.payload = [BitVec.ofNat 8 l.val, 1] ++ leBytes 2 data.length ++ data → completesWith (.omciSend q) s (fun t =>
          t.answers 0x0D00 q 0 [] ∧ t.host.omciSeg = some (l.val, part ++ data) ∧ t = s.reporting t))
        ∧ ((s.lane l.val).act = .o5 → (part ++ data).length ≤ 2048 →
            q.payload = [BitVec.ofNat 8 l.val, 0] ++ leBytes 2 data.length ++ data → completesWith (.omciSend q) s (fun t =>
          ((t.answers 0x0D00 q 0 [] ∧ t.host.omciSeg = none
              ∧ (t.queue (omciQueue l.val)).pkts = (s.queue (omciQueue l.val)).pkts
                ++ [mkPacket ((part ++ data) ++ s.omciMic l.val true (part ++ data)) false 0])
            ∨ (t.answers 0x0D00 q 5 [] ∧ (t.queue (omciQueue l.val)).pkts = (s.queue (omciQueue l.val)).pkts))
          ∧ (∀ j, j ≠ omciQueue l.val → t.queue j = s.queue j)
          ∧ t = { s.reporting t with pool := t.pool })))
  ∧ (∀ s : State,
        (∀ (q : Req) (g f en msg : Nat), s.admits 0x0E00 q → g ≤ 19 → f ≤ 3 → en < 2 ^ 32 → msg < 2 ^ 32 →
            (q.mbx.val < 32 → f % 2 = 0 ∧ BitVec.ofNat 32 msg &&& ~~~ berthSources g = 0) →
            q.payload = [0, BitVec.ofNat 8 g, BitVec.ofNat 8 f, 0] ++ leBytes 4 en ++ leBytes 4 msg ++ leBytes 4 0 →
            completesWith (.evtConfig q) s (fun t =>
          t.answers 0x0E00 q 0 []
          ∧ Tab.get 0 t.evt.enable g = (if f % 2 = 1 then BitVec.ofNat 32 en &&& assignedMask g else Tab.get 0 s.evt.enable g)
          ∧ (∀ j, j ≠ g → Tab.get 0 t.evt.enable j = Tab.get 0 s.evt.enable j)
          ∧ Tab.get 0 (t.box q.mbx.val).msgSel g
              = (if 2 ≤ f then BitVec.ofNat 32 msg else Tab.get 0 (s.box q.mbx.val).msgSel g)
          ∧ (∀ j, j ≠ g → Tab.get 0 (t.box q.mbx.val).msgSel j = Tab.get 0 (s.box q.mbx.val).msgSel j)
          ∧ t = s.reporting t))
        ∧ (∀ (q : Req) (g mask : Nat), s.admits 0x0E01 q → g ≤ 19 → mask < 2 ^ 32 →
            q.payload = [0, BitVec.ofNat 8 g, 0, 0] ++ leBytes 4 mask → completesWith (.evtAck q) s (fun t =>
          t.answers 0x0E01 q 0 []
          ∧ (g ≠ 15 → g ≠ 18 → Tab.get 0 t.evt.status g = Tab.get 0 s.evt.status g &&& ~~~ BitVec.ofNat 32 mask)
          ∧ (∀ j, j ≠ g → j ≠ 15 → j ≠ 18 → Tab.get 0 t.evt.status j = Tab.get 0 s.evt.status j)
          ∧ t = s.reporting t))
        ∧ (∀ q : Req, s.admits 0x0E02 q → q.payload = [0, 0, 0, 0] → completesWith (.evtFetch q) s (fun t =>
          t.answers 0x0E02 q 0 (leBytes 8 s.tide.word
            ++ (List.range 20).flatMap (fun g => leBytes 4 (Tab.get 0 s.evt.status g).toNat))
          ∧ t = s.reporting t))
        ∧ (∀ (q : Req) (n : Fin 16) (f frame tick perF perT : Nat), s.admits 0x0F00 q → f ≤ 7 → f ≠ 1 →
            frame < frameWrap → tick < frameTicks → perF < 2 ^ 32 → perT ≤ 777599 → (perF = 0 → perT = 0) →
            q.payload = [BitVec.ofNat 8 n.val, BitVec.ofNat 8 f, 0, 0] ++ leBytes 8 (frame * 2 ^ 20 + tick)
              ++ leBytes 4 perF ++ leBytes 4 perT ++ leBytes 4 0 → completesWith (.tideAlarmSet q) s (fun t =>
          let a : Alarm := { enable := bit f 0, event := bit f 1, snap := bit f 2, frame := frame, tick := tick
                             perF := perF, perT := perT }
          t.answers 0x0F00 q 0 []
          ∧ ((a.armed = false ∨ s.tide.ticks < a.target) → t.alarm (48 + n.val) = a ∧ t.snap = s.snap ∧ t.fresh = s.fresh)
          ∧ (a.armed = true → a.target ≤ s.tide.ticks → t.pends 39 ∧ (bit f 1 = true → t.pends (40 + n.val))
            ∧ t.alarm (48 + n.val) = (if a.period = 0 then { a with fired := true } else a.following s.tide.ticks))
          ∧ (∀ j, j ≠ 48 + n.val → t.alarm j = s.alarm j)
          ∧ t = { s.reporting t with
              tide := { s.tide with alarms := t.tide.alarms }, snap := t.snap, fresh := t.fresh }))
        ∧ (∀ (q : Req) (f w frame tick : Nat), s.admits 0x0F01 q → f ≤ 3 → 1 ≤ w → w ≤ 4000 → frame < frameWrap →
            tick < frameTicks →
            q.payload = [BitVec.ofNat 8 f, 0] ++ leBytes 2 w ++ leBytes 4 0 ++ leBytes 8 (frame * 2 ^ 20 + tick) →
            completesWith (.tidePulseSet q) s (fun t =>
          t.answers 0x0F01 q 0 []
          ∧ t.tide.pulse = { s.tide.pulse with
              enable := bit f 0, holdOff := bit f 1, width := w, base := spanTicks frame tick,
              next := nextPhase (spanTicks frame tick) pulsePeriod s.tide.ticks,
              high := s.tide.pulse.high && bit f 0 && decide (s.tide.state ≠ .unanchored)
                && !(bit f 1 && decide (s.tide.state = .holdover)) }
          ∧ t = { s.reporting t with tide := { s.tide with pulse := t.tide.pulse } })))

/-- The logbook, the flash and the pins (R884, R885, R911 to R919, R926 to R929): a flush moves the retained records
to the region, a joined worker's record is added under its number, a page that fails twice is a flash error; module
reads keep the page and count silence, the third one unanswered and the first one answered again are told; a stuck
bus, a stretched clock and an input's stable change are noted; the status pins pulse. -/
def Obligations.PeripheralCommands : Prop :=
  ∀ s : State,
    (s.start.hasFlash = true → completesWith .logbookFlush s (fun t =>
      t.log.buffer = [] ∧ t.log.next = s.log.next ∧ t = { s with log := t.log, out := t.out }))
    ∧ (s.start.hasFlash = false → exec .logbookFlush s = .next s)
    ∧ (∀ (n : NodeNo) (kind : Nat) (data : List Byte), s.isManager = true → s.joined n.val = true →
        completesWith (.logbookRelay n kind data) s (fun t =>
      let r : LogRecord :=
        { no := s.log.next, tide := s.tide.word, kind := kind, node := n.val, vin := false
          unanch := decide (s.tide.state = .unanchored), fw := (s.node n.val).version, data := data.take 40 }
      t.log.next = s.log.next + 1
      ∧ (s.log.buffer.length < 63 → t.log.buffer = s.log.buffer ++ [r])
      ∧ (s.log.buffer.length = 63 → s.start.hasFlash = true → t.log.buffer = [])
      ∧ t = { s with log := t.log, out := t.out }))
    ∧ (∀ (n : NodeNo) (kind : Nat) (data : List Byte), s.isManager = false ∨ s.joined n.val = false →
        exec (.logbookRelay n kind data) s = .next s)
    ∧ (∀ (r : FlashRegion) (a b : Bool), completesWith (.flashProgram r a b) s (fun t =>
      (if s.start.hasFlash = false ∨ a = true ∨ b = true then t = s
       else t.pends (if r = .logbook then 106 else 626)
         ∧ t = { s.reporting t with start := Start.spoil r s.start })))
    ∧ (∀ (l : Lane) (p : Bool) (b : List Byte), s.clocked (24 + l.val / 2) = true → s.clk.rootHold = false →
        completesWith (.ddmRead l p (some b)) s (fun t =>
      let d : Ddm := Tab.get {} s.craft.ddm l.val
      Tab.get {} t.craft.ddm l.val
        = { d with fails := 0, silent := false, a0 := if p then d.a0 else b, a2 := if p then b else d.a2
                   due := d.due && !p, dueA0 := d.silent || (d.dueA0 && p) }
      ∧ (d.silent = true → t.pends (128 + 16 * l.val + 9))
      ∧ (p = true → ∀ k, k < 8 → (b.getD 16 0).getLsbD k = true → (d.a2.getD 16 0).getLsbD k = false →
          t.pends (128 + 16 * l.val + 7))
      ∧ (∀ j, j ≠ l.val → Tab.get {} t.craft.ddm j = Tab.get {} s.craft.ddm j)
      ∧ (Tab.get {} t.craft.i2c (l.val / 2) : I2c).seg = (l.val % 2 == 1)
      ∧ (Tab.get {} t.craft.i2c (l.val / 2) : I2c).stopAt = some t.now
      ∧ ((Tab.get {} s.craft.i2c (l.val / 2) : I2c).seg ≠ (l.val % 2 == 1) →
          .pin ("I2C_SEG_" ++ toString (l.val / 2)) (l.val % 2 == 1) ∈ t.out)
      ∧ t.craft = { s.craft with ddm := t.craft.ddm, i2c := t.craft.i2c, mirrors := t.craft.mirrors }
      ∧ t = s.passing t))
    ∧ (∀ (l : Lane) (p : Bool), s.clocked (24 + l.val / 2) = true → s.clk.rootHold = false → completesWith (.ddmRead l p none) s (fun t =>
      let d : Ddm := Tab.get {} s.craft.ddm l.val
      Tab.get {} t.craft.ddm l.val = { d with fails := min 3 (d.fails + 1), silent := d.silent || decide (2 ≤ d.fails) }
      ∧ (2 ≤ d.fails → d.silent = false → t.pends (128 + 16 * l.val + 9))
      ∧ (∀ j, j ≠ l.val → Tab.get {} t.craft.ddm j = Tab.get {} s.craft.ddm j)
      ∧ (Tab.get {} t.craft.i2c (l.val / 2) : I2c).seg = (l.val % 2 == 1)
      ∧ (Tab.get {} t.craft.i2c (l.val / 2) : I2c).stopAt = some t.now
      ∧ ((Tab.get {} s.craft.i2c (l.val / 2) : I2c).seg ≠ (l.val % 2 == 1) →
          .pin ("I2C_SEG_" ++ toString (l.val / 2)) (l.val % 2 == 1) ∈ t.out)
      ∧ t.craft = { s.craft with ddm := t.craft.ddm, i2c := t.craft.i2c, mirrors := t.craft.mirrors }
      ∧ t = s.passing t))
    ∧ (∀ (l : Lane) (p : Bool) (b : Option (List Byte)), s.clocked (24 + l.val / 2) = false ∨ s.clk.rootHold = true →
        exec (.ddmRead l p b) s = .next s)
    ∧ (∀ (m : Fin 2) (low : Bool), s.clocked (24 + m.val) = true → completesWith (.cfI2cStuck m low) s (fun t =>
      Tab.get {} t.craft.i2c m.val = { (Tab.get {} s.craft.i2c m.val : I2c) with stuck := low, stopAt := some s.now }
      ∧ .i2c m.val 9 ∈ t.out ∧ (low = true → t.pends 625)
      ∧ (∀ j, j ≠ m.val → Tab.get {} t.craft.i2c j = Tab.get {} s.craft.i2c j)
      ∧ t = { s.reporting t with craft := { s.craft with i2c := t.craft.i2c } }))
    ∧ (∀ m : Fin 2, s.clocked (24 + m.val) = true → completesWith (.i2cStretchTimeout m) s (fun t =>
      (let x : I2c := Tab.get {} s.craft.i2c m.val
       Tab.get {} t.craft.i2c m.val = { x with timeouts := x.timeouts + 1, stopAt := some s.now })
      ∧ (∀ j, j ≠ m.val → Tab.get {} t.craft.i2c j = Tab.get {} s.craft.i2c j)
      ∧ t = { s with craft := { s.craft with i2c := t.craft.i2c }, out := .i2c m.val 9 :: s.out }))
    ∧ (∀ (m : Fin 2) (low : Bool), s.clocked (24 + m.val) = false →
        exec (.cfI2cStuck m low) s = .next s ∧ exec (.i2cStretchTimeout m) s = .next s)
    ∧ (∀ (p : Fin 16) (b : Bool), completesWith (.gpioEdge p b) s (fun t =>
      let g : Gpio := Tab.get {} s.craft.gpio p.val
      (if s.clocked 28 = false ∨ g.func ≠ 0 ∨ g.input = b then t = s
       else Tab.get {} t.craft.gpio p.val = { g with input := b } ∧ (s.start.fwState ≠ 0 → t.pends (608 + p.val)))
      ∧ (∀ j, j ≠ p.val → Tab.get {} t.craft.gpio j = Tab.get {} s.craft.gpio j)
      ∧ t = { s.reporting t with craft := { s.craft with gpio := t.craft.gpio } }))
    ∧ completesWith .statusLedBlink s (fun t =>
      (s.ledOn = true → ∀ k g, (k, g) ∈ s.craft.gpio → g.func = 2 → .pin ("GPIO_" ++ toString k) true ∈ t.out)
      ∧ (s.ledOn = false → t = s) ∧ t = { s with out := t.out })

/-- The UART (R634, R758, R901 to R905, R908): a clocked receiver takes a character into its FIFO, or discards and
counts one that finds it full or comes with an error; the shell echoes and keeps a character, and waits while its
mailbox is busy; a BREAK opens the session of mailbox 33 and a long one restores the default settings; a trial that
times out returns to the settings before. The shell's lines (R634, R756, R757, R759, R903, R906 to R909, Tables CF-1
and CF-2): nothing while Itvekor does not run; a line waits while mailbox 33 is busy; a line that names a command is
that command with the SEQ that the mailbox expects, as a raw line is, and one that the shell cannot parse is answered
ERR LINE; uart, ddm and gpio lines act on the craft port and the pins, name the first field at fault, and every line
ends a trial and is told after a BREAK. -/
def Obligations.CraftPortCommands : Prop :=
  (∀ s : State,
        (∀ (c : Byte) (e : CharError), s.uartOn = false → exec (.uartCharacter c e) s = .next s)
        ∧ (∀ c : Byte, s.uartOn = true → s.craft.rx.length < s.craft.uart.fifo →
            exec (.uartCharacter c .none) s = .next { s with craft := { s.craft with rx := s.craft.rx ++ [c] } })
        ∧ (∀ (c : Byte) (e : CharError) (k : Nat), s.uartOn = true →
            (e = .none ∧ s.craft.uart.fifo ≤ s.craft.rx.length ∧ k = 10) ∨ (e = .framing ∧ k = 11) ∨ (e = .parity ∧ k = 12) →
            completesWith (.uartCharacter c e) s (fun t =>
          Tab.get 0 t.cnt (0x5C0 + k) = (Tab.get 0 s.cnt (0x5C0 + k) + 1) % 2 ^ 40
          ∧ t = { s.reporting t with craft := { s.craft with drop := true } }))
        ∧ (s.cpRuns = false ∨ s.craft.rx = [] ∨ (s.box 33).waiting.isSome = true ∨ (s.box 33).stalled = true →
            exec .uartRxService s = .next s)
        ∧ (∀ b : Byte, s.cpRuns = true → s.craft.rx = [b] → (s.box 33).waiting = none → (s.box 33).stalled = false → b ≠ 13 → b ≠ 10 → b ≠ 8 →
            s.craft.line.length < 256 → exec .uartRxService s = .next { s with
              craft := { s.craft with rx := [], line := s.craft.line ++ [Char.ofNat b.toNat] }
              out := .uart [Char.ofNat b.toNat] :: s.out })
        ∧ (s.cpRuns = true → s.craft.rx = [8] → (s.box 33).waiting = none → (s.box 33).stalled = false →
            exec .uartRxService s = .next { s with
              craft := { s.craft with rx := [], line := s.craft.line.dropLast }, out := .uart [Char.ofNat 8] :: s.out })
        ∧ (s.uartOn = false → exec .shortBreak s = .next s ∧ exec .longBreak s = .next s)
        ∧ (s.uartOn = true → s.cpRuns = false → exec .shortBreak s = .next { s with craft := { s.craft with broke := true } })
        ∧ (s.uartOn = true → s.cpRuns = false → exec .longBreak s = .next { s with craft := { s.craft with
              uart := {}, trial := none, line := [], drop := false, broke := true } })
        ∧ (s.uartOn = true → s.cpRuns = true → s.isManager = true → s.goingDown = false → completesWith .shortBreak s (fun t =>
          (t.box 33).session = true ∧ (t.box 33).expSeq = 1 ∧ (t.box 33).txn = none ∧ t.pends 583
          ∧ t = { s.reporting t with craft := { s.craft with broke := true } }))
        ∧ (s.uartOn = true → s.cpRuns = true → s.isManager = true → s.goingDown = false → completesWith .longBreak s (fun t =>
          (t.box 33).session = true ∧ (t.box 33).expSeq = 1
          ∧ t = { s.reporting t with craft := { s.craft with
              uart := {}, trial := none, line := [], drop := false, broke := true } }))
        ∧ (∀ u, s.craft.trial = some u → exec .uartTrialTimeout s = .next
            { s with craft := { s.craft with uart := u, trial := none } })
        ∧ (s.craft.trial = none → exec .uartTrialTimeout s = .next s))
  ∧ (∀ s : State,
        (s.cpRuns = false → ∀ (l : List Char) (o : BitVec 16) (p : List Byte) (a b c d e f g : Nat),
            ∀ i ∈ [Instr.shellLine l, .shellRaw o p, .shellUart a b c d e f g, .shellDdm a, .shellGpio a b c d],
            exec i s = .next s)
        ∧ (∀ l : List Char, s.cpRuns = true → ((s.box 33).waiting.isSome = true ∨ (s.box 33).stalled = true) →
            exec (.shellLine l) s = .next
            { s with craft := { s.craft with rx := lineBytes l ++ s.craft.rx } })
        ∧ (∀ (l : List Char) (o : BitVec 16) (p : List Byte), (s.box 33).waiting = none → (s.box 33).stalled = false →
            (∀ u, State.lineLocal (splitAt ' ' [] l) u = none) → parseCommand (splitAt ' ' [] l) = some (o.toNat, p) →
            exec (.shellLine l) s = exec (.shellRaw o p) s)
        ∧ (∀ l : List Char, s.cpRuns = true → (s.box 33).waiting = none → (s.box 33).stalled = false →
            (∀ u, State.lineLocal (splitAt ' ' [] l) u = none) → parseCommand (splitAt ' ' [] l) = none →
            completesWith (.shellLine l) s (fun t =>
          t.out.head? = some (.uart "ERR LINE".toList) ∧ (s.craft.broke = true → t.pends 627)
          ∧ t.craft.lastLine = some s.now ∧ t.craft.broke = false ∧ t.start.stores s.start
          ∧ t = { s.reporting t with fresh := t.fresh, start := t.start, craft := t.craft }))
        ∧ (∀ (o : BitVec 16) (p : List Byte), s.cpRuns = true → (s.box 33).waiting = none → (s.box 33).stalled = false → (s.box 33).session = false →
            completesWith (.shellRaw o p) s (fun t =>
          (t.box 33).dropped = min 255 ((s.box 33).dropped + 1) ∧ (t.box 33).expSeq = (s.box 33).expSeq
          ∧ (t.box 33).cached = (s.box 33).cached ∧ t.start.stores s.start
          ∧ t = { s.reporting t with fresh := t.fresh, start := t.start, craft := t.craft }))
        ∧ (∀ (o : BitVec 16) (p : List Byte), s.cpRuns = true → (s.box 33).waiting = none → (s.box 33).stalled = false → (s.box 33).session = true →
            exec (.shellRaw o p) s = .next
              (State.runCommand o.toNat (shellReq (s.box 33).expSeq p) s.lineArrives.trialGood))
        ∧ (∀ baud bits par stop fifo rx tx : Nat, s.cpRuns = true → completesWith (.shellUart baud bits par stop fifo rx tx) s
            (fun t =>
          (∀ f, uartFault baud bits par stop fifo rx tx = some f →
            t.out.head? = some (.uart ("ERR ARG ".toList ++ f.toList)) ∧ t.craft.uart = s.craft.uart
              ∧ t.craft.trial = none)
          ∧ (uartFault baud bits par stop fifo rx tx = none →
            t.out.head? = some (.uart "OK".toList) ∧ t.craft.trial = some s.craft.uart
              ∧ t.craft.uart = { div := uartDiv baud, bits := bits, parity := par, stop := stop, fifo := fifo
                                 rxTrig := rx, txTrig := tx })
          ∧ t.craft.storedUart = (if s.craft.trial.isSome && s.start.hasFlash then s.craft.uart else s.craft.storedUart)
          ∧ t.start.stores s.start
          ∧ t = { s.reporting t with fresh := t.fresh, start := t.start, craft := t.craft }))
        ∧ (∀ lane : Nat, s.cpRuns = true → completesWith (.shellDdm lane) s (fun t =>
          (if 3 < lane then t.out.head? = some (.uart "ERR ARG lane".toList)
           else ∃ r, t.out = .uart "OK".toList :: .uart (((Tab.get {} s.craft.ddm lane : Ddm).a0
              ++ (Tab.get {} s.craft.ddm lane : Ddm).a2).flatMap (fun b => ' ' :: hexByte b)) :: r)
          ∧ t.craft.ddm = s.craft.ddm ∧ t.start.stores s.start
          ∧ t = { s.reporting t with fresh := t.fresh, start := t.start, craft := t.craft }))
        ∧ (∀ pin func level ms : Nat, s.cpRuns = true → completesWith (.shellGpio pin func level ms) s (fun t =>
          (if pin ≤ 15 ∧ func ≤ 2 ∧ level ≤ 1 ∧ ms ≤ 255 then
            t.out.head? = some (.uart "OK".toList)
            ∧ Tab.get {} t.craft.gpio pin = { (Tab.get {} s.craft.gpio pin : Gpio) with
                func := func, level := level == 1, debounce := ms }
            ∧ (s.start.hasFlash = true →
                Tab.get {} t.craft.storedGpio pin = { func := func, level := level == 1, debounce := ms, input := false })
            ∧ (∀ j, j ≠ pin → Tab.get {} t.craft.gpio j = Tab.get {} s.craft.gpio j)
           else (∃ r, t.out.head? = some (.uart ("ERR ARG ".toList ++ r))) ∧ t.craft.gpio = s.craft.gpio
            ∧ t.craft.storedGpio = s.craft.storedGpio)
          ∧ t.start.stores s.start
          ∧ t = { s.reporting t with fresh := t.fresh, start := t.start, craft := t.craft })))

/-- Relayed commands and their answers (R663, R664): a worker keeps a transactional one as a part of a commit and runs
another one, its answer going back over the DCC; the manager answers the request that waits for that worker and opcode
with the worker's status and payload, and ends the operation that a completion names; it takes nothing from a node
that is not joined. The layout of the status is the model's (log 28). Workers' event reports (R768 to R772, R840): the
summary bit follows the report, a raise is told to the mailboxes that select it, CS_MGR_SHED changes nothing on the
manager; none of a node that is not joined counts. -/
def Obligations.RelayCommands : Prop :=
  (∀ (s : State) (opc : Nat) (seq : BitVec 16) (m : MbxNo) (payload : List Byte),
        (s.isManager = true → exec (.relayCmd opc seq m payload) s = .next s)
        ∧ (∀ f x, s.isManager = false → formOf opc = some f → f.2 payload = some x →
            completesWith (.relayCmd opc seq m payload) s (fun t =>
          (∀ u, (s.box m.val).txn = some u → (t.box m.val).txn = some { u with
            staged := u.staged ++ [{ setting := x.1, named := x.2, opc := opc, payload := payload }],
            bytes := u.bytes + payload.length })
          ∧ ((s.box m.val).txn = none → (t.box m.val).txn = some {
            staged := [{ setting := x.1, named := x.2, opc := opc, payload := payload }], bytes := payload.length,
            lastCmd := s.now })
          ∧ t = { s with host := { s.host with mbx := t.host.mbx } }))
        ∧ (∀ f, s.isManager = false → formOf opc = some f → f.2 payload = none →
            exec (.relayCmd opc seq m payload) s = .next s)
        ∧ (∀ q : Req, s.isManager = false → formOf opc = none →
            q = { mbx := m, flags := 0, berth := if m.val < 32 then BitVec.ofNat 8 m.val else 0xFF, seq := seq, tag := 0
                  payload := payload } →
            exec (.relayCmd opc seq m payload) s = .next (State.runCommand opc q { s with ring := { s.ring with
              relayed := s.ring.relayed ++ [(opc, seq.toNat, m.val)] } }))
        ∧ (∀ (q : Req) (st : Status), s.isManager = false → s.isRelayed opc q.seq.toNat q.mbx.val = true →
            (Tab.get {} s.ring.peers 0 : Peer).unacked.length < 8 →
            (∃ u ∈ (Tab.get {} (s.answer opc q st payload).ring.peers 0 : Peer).unacked, u.msg.dst = 0
              ∧ u.msg.body = .relayRsp opc q.seq q.mbx st.wire payload)
            ∧ s.answer opc q st payload = s.reporting (s.answer opc q st payload))
        ∧ (∀ (n : NodeNo) (st : Nat), s.isManager = false ∨ s.joined n.val = false →
            exec (.relayRsp n opc seq m st payload) s = .next s)
        ∧ (∀ (n : NodeNo) (w : Waiting), s.isManager = true → s.joined n.val = true → (s.box m.val).waiting = some w →
            w.on = .relay n.val → w.opc = opc → w.req.seq = seq → w.req.mbx = m → ∀ st, st < 11 → st ≠ 3 → st ≠ 0 ∨ (opc ≠ 0x0100 ∧ opc ≠ 0x0400) →
            completesWith (.relayRsp n opc seq m st payload) s (fun t =>
          t.answers opc w.req st payload
          ∧ (st = 6 → (t.box m.val).deferred = (s.box m.val).deferred
              ++ [{ seq := seq.toNat, tag := w.req.tag, opc := opc, object := objId n.val 0 0 }])
          ∧ t = s.reporting t))
        ∧ (∀ (n : NodeNo) (st : Nat), s.isManager = true → s.joined n.val = true → (s.box m.val).waiting = none →
            completesWith (.relayRsp n opc seq m st payload) s (fun t =>
          ((s.box m.val).deferred.any (fun d => d.seq == seq.toNat && d.object / 2 ^ 28 == n.val) = true →
            ∀ d ∈ (t.box m.val).deferred, d.seq ≠ seq.toNat)
          ∧ ((s.box m.val).deferred.any (fun d => d.seq == seq.toNat && d.object / 2 ^ 28 == n.val) = false → t = s)
          ∧ t = s.reporting t)))
  ∧ (∀ (s : State) (n : NodeNo),
        (∀ r, s.isManager = false ∨ s.joined n.val = false → exec (.event n r) s = .next s)
        ∧ (s.isManager = true → s.joined n.val = true → exec (.event n .mgrShed) s = .next s)
        ∧ (∀ on : Bool, s.isManager = true → s.joined n.val = true → completesWith (.event n (.pending on)) s (fun t =>
          t.evt.nodeSummary = putBit s.evt.nodeSummary n.val on ∧ t.evt.status = s.evt.status ∧ t = s.reporting t))
        ∧ (∀ (src : Nat) (w : BitVec 64) (o x : W32), s.isManager = true → s.joined n.val = true →
            completesWith (.event n (.raised src w o x)) s (fun t =>
          ((∀ k, k < 34 → (s.box k).selects n.val src = false) → t = s)
          ∧ ((s.box 32).selects n.val src = true → (s.box 32).held.length < 64 →
            (t.box 32).evtCount = (if (s.box 32).evtCount = 0xFFFF then 1 else (s.box 32).evtCount + 1) ∧ t.pends 576)
          ∧ (∀ k, k < 34 → (s.box k).selects n.val src = true → berthRelevant s.cfg k src o.toNat = true →
              64 ≤ (s.box k).held.length → (t.box k).evtDropped = (s.box k).evtDropped + 1 ∧ t.pends 581)
          ∧ t = s.reporting t)))
end

