-- ==== Sys2Proof/Laws/Aes.lean ====
section
/-!
SUPPORT. The lengths of what the cipher and the DCC's protection give: AES gives blocks of 16 bytes, a MAC has 16.
-/

namespace Sys2Proof.Machine

@[simp] theorem leBytes_length (k n : Nat) : (leBytes k n).length = k := by
  induction k generalizing n with
  | zero => rfl
  | succ k ih => simp [leBytes, ih]

@[simp] theorem beBytes_length (k n : Nat) : (beBytes k n).length = k := by simp [beBytes]

@[simp] theorem keyBytes_length (k : BitVec 128) : (keyBytes k).length = 16 := by simp [keyBytes]

@[simp] theorem xorBytes_length (a b : List Byte) : (xorBytes a b).length = min a.length b.length := by simp [xorBytes]

theorem aesExpand_length (nk n i : Nat) (rc : Byte) (w : List (List Byte)) :
    (aesExpand nk n i rc w).length = n + w.length := by
  induction n generalizing i rc w with
  | zero => simp [aesExpand]
  | succ n ih =>
    simp only [aesExpand]
    split
    · rw [ih]; simp; omega
    · split <;> (rw [ih]; simp; omega)

/-- Every word of the key schedule has four bytes. -/
theorem aesExpand_words (nk n i : Nat) (rc : Byte) (w : List (List Byte)) (h0 : 0 < nk) (hn : nk ≤ w.length)
    (h : ∀ x ∈ w, x.length = 4) : ∀ x ∈ aesExpand nk n i rc w, x.length = 4 := by
  induction n generalizing i rc w with
  | zero => exact h
  | succ n ih =>
    have hold : (w.getD (nk - 1) []).length = 4 := by
      rw [List.getD_eq_getElem _ _ (by omega)]; exact h _ (List.getElem_mem _)
    have hprev : (w.headD []).length = 4 := by
      cases w with
      | nil => simp at hn; omega
      | cons a t => exact h a (by simp)
    have next (v : List Byte) (hv : v.length = 4) : ∀ x ∈ v :: w, x.length = 4 := by
      intro x hx; rcases List.mem_cons.mp hx with rfl | hx
      · exact hv
      · exact h x hx
    simp only [aesExpand]
    split
    · refine ih _ _ _ (by simp; omega) (next _ ?_)
      simp only [xorBytes_length, List.length_map, List.length_append, List.length_drop, List.length_take, hold, hprev]; rfl
    · split
      · refine ih _ _ _ (by simp; omega) (next _ ?_)
        simp only [xorBytes_length, List.length_map, hold, hprev]; rfl
      · refine ih _ _ _ (by simp; omega) (next _ ?_)
        simp only [xorBytes_length, hold, hprev]; rfl

/-- The pieces of four of words of four bytes have sixteen, where nothing is left over. -/
theorem chunks_words (f m : Nat) (w : List (List Byte)) (hw : w.length = 4 * m) (h : ∀ x ∈ w, x.length = 4) :
    ∀ c ∈ chunks 4 f w, c.flatten.length = 16 := by
  induction f generalizing m w with
  | zero => simp [chunks]
  | succ f ih =>
    match w, hw, h with
    | [], _, _ => simp [chunks]
    | [_], hw, _ => simp at hw; omega
    | [_, _], hw, _ => simp at hw; omega
    | [_, _, _], hw, _ => simp at hw; omega
    | p :: q :: r :: s :: t, hw, h =>
      intro c hc
      simp only [chunks, List.take_succ_cons, List.take_zero, List.drop_succ_cons, List.drop_zero, List.mem_cons] at hc
      rcases hc with rfl | hc
      · simp [h p (by simp), h q (by simp), h r (by simp), h s (by simp)]
      · exact ih (m - 1) t (by simp at hw; omega) (fun x hx => h x (by simp [hx])) c hc

/-- The round keys of a 16-byte key: eleven or so, of 16 bytes each. -/
theorem aesKeys_16 (key : List Byte) (h : key.length = 16) : ∀ k ∈ aesKeys key, k.length = 16 := by
  intro k hk
  obtain ⟨c, hc, rfl⟩ := List.mem_map.mp hk
  have h4 : (chunksOf 4 key).reverse.length = 4 ∧ ∀ x ∈ (chunksOf 4 key).reverse, x.length = 4 := by
    match key, h with
    | [a0, a1, a2, a3, a4, a5, a6, a7, a8, a9, a10, a11, a12, a13, a14, a15], _ => simp [chunksOf, chunks]
  refine chunks_words _ 11 _ ?_ ?_ c hc
  · simp [aesExpand_length, h, h4.1]
  · intro x hx
    simp only [h] at hx
    exact aesExpand_words _ _ _ _ _ (by decide) (by simp [h4.1]) h4.2 x (List.mem_reverse.mp hx)

theorem aesRounds_length (ks : List (List Byte)) (s : List Byte) (hk : ∀ k ∈ ks, k.length = 16) (hs : s.length = 16) :
    (aesRounds ks s).length = 16 := by
  induction ks generalizing s with
  | nil => exact hs
  | cons k t ih =>
    have hk1 := hk k (by simp)
    match t, ih with
    | [], _ => simp [aesRounds, aesShift, hk1]
    | a :: u, ih =>
      simp only [aesRounds]
      refine ih _ (fun x hx => hk x (by simp [hx])) ?_
      simp [aesShift, chunksOf, chunks, aesMix, hk1, List.range_succ]

/-- AES under a 16-byte key gives 16 bytes for 16. -/
theorem aes_length (key b : List Byte) (hk : key.length = 16) (hb : b.length = 16) : (aes key b).length = 16 := by
  have h := aesKeys_16 key hk
  unfold aes
  split
  · exact hb
  · rename_i k t e
    rw [e] at h
    exact aesRounds_length _ _ (fun x hx => h x (by simp [hx])) (by simp [hb, h k (by simp)])

/-- A CMAC of one whole block has 16 bytes. -/
theorem aesCmac_length (key m : List Byte) (hk : key.length = 16) (hm : m.length = 16) : (aesCmac key m).length = 16 := by
  have hc : chunksOf 16 m = [m] := by
    match m, hm with
    | [a0, a1, a2, a3, a4, a5, a6, a7, a8, a9, a10, a11, a12, a13, a14, a15], _ => simp [chunksOf, chunks]
  unfold aesCmac
  simp [hc, hm, cmacChain, aes_length, hk]

@[simp] theorem DccHead.bytes_length (h : DccHead) : h.bytes.length = 16 := by simp [DccHead.bytes]

/-- The MAC of a DCC message without a body is the one that its receiver makes. -/
theorem dccGood_empty (k : DccKeys) (h : DccHead) (h0 : h.len = 0) :
    dccGood k h (h.bytes ++ dccMac k h []) = true ∧ (h.bytes ++ dccMac k h []).length = 32 := by
  have hm : (dccMac k h []).length = 16 := by
    unfold dccMac
    exact aesCmac_length _ _ (by simp [dccKey]) (by simp)
  refine ⟨?_, by simp [hm]⟩
  simp [dccGood, dccEnc, h0, hm, List.take_of_length_le]

end Sys2Proof.Machine
end

