-- ==== Sys2Proof/Laws/State.lean ====
section
/-!
SUPPORT. One lemma per field of State and per named update: the fields that the update leaves alone read as
before, and a single component that it replaces reads as replaced.
-/

namespace Sys2Proof.Machine

variable (s : State)

@[simp] theorem State.modLane_pending (l : Nat) (f : LaneState → LaneState) : (s.modLane l f).pending = s.pending := rfl
@[simp] theorem State.modLane_now (l : Nat) (f : LaneState → LaneState) : (s.modLane l f).now = s.now := rfl
@[simp] theorem State.modLane_bnd (l : Nat) (f : LaneState → LaneState) : (s.modLane l f).bnd = s.bnd := rfl
@[simp] theorem State.modLane_fresh (l : Nat) (f : LaneState → LaneState) : (s.modLane l f).fresh = s.fresh := rfl
@[simp] theorem State.modLane_out (l : Nat) (f : LaneState → LaneState) : (s.modLane l f).out = s.out := rfl
@[simp] theorem State.modLane_start (l : Nat) (f : LaneState → LaneState) : (s.modLane l f).start = s.start := rfl
@[simp] theorem State.modLane_power (l : Nat) (f : LaneState → LaneState) : (s.modLane l f).power = s.power := rfl
@[simp] theorem State.modLane_clk (l : Nat) (f : LaneState → LaneState) : (s.modLane l f).clk = s.clk := rfl
@[simp] theorem State.modLane_tide (l : Nat) (f : LaneState → LaneState) : (s.modLane l f).tide = s.tide := rfl
@[simp] theorem State.modLane_pool (l : Nat) (f : LaneState → LaneState) : (s.modLane l f).pool = s.pool := rfl
@[simp] theorem State.modLane_sched (l : Nat) (f : LaneState → LaneState) : (s.modLane l f).sched = s.sched := rfl
@[simp] theorem State.modLane_ports (l : Nat) (f : LaneState → LaneState) : (s.modLane l f).ports = s.ports := rfl
@[simp] theorem State.modLane_e1s (l : Nat) (f : LaneState → LaneState) : (s.modLane l f).e1s = s.e1s := rfl
@[simp] theorem State.modLane_cipher (l : Nat) (f : LaneState → LaneState) : (s.modLane l f).cipher = s.cipher := rfl
@[simp] theorem State.modLane_ring (l : Nat) (f : LaneState → LaneState) : (s.modLane l f).ring = s.ring := rfl
@[simp] theorem State.modLane_host (l : Nat) (f : LaneState → LaneState) : (s.modLane l f).host = s.host := rfl
@[simp] theorem State.modLane_evt (l : Nat) (f : LaneState → LaneState) : (s.modLane l f).evt = s.evt := rfl
@[simp] theorem State.modLane_cnt (l : Nat) (f : LaneState → LaneState) : (s.modLane l f).cnt = s.cnt := rfl
@[simp] theorem State.modLane_snap (l : Nat) (f : LaneState → LaneState) : (s.modLane l f).snap = s.snap := rfl
@[simp] theorem State.modLane_cfg (l : Nat) (f : LaneState → LaneState) : (s.modLane l f).cfg = s.cfg := rfl
@[simp] theorem State.modLane_adm (l : Nat) (f : LaneState → LaneState) : (s.modLane l f).adm = s.adm := rfl
@[simp] theorem State.modLane_cistern (l : Nat) (f : LaneState → LaneState) : (s.modLane l f).cistern = s.cistern := rfl
@[simp] theorem State.modLane_log (l : Nat) (f : LaneState → LaneState) : (s.modLane l f).log = s.log := rfl
@[simp] theorem State.modLane_craft (l : Nat) (f : LaneState → LaneState) : (s.modLane l f).craft = s.craft := rfl

@[simp] theorem State.modAlloc_pending (a : Nat) (f : AllocState → AllocState) : (s.modAlloc a f).pending = s.pending := rfl
@[simp] theorem State.modAlloc_now (a : Nat) (f : AllocState → AllocState) : (s.modAlloc a f).now = s.now := rfl
@[simp] theorem State.modAlloc_bnd (a : Nat) (f : AllocState → AllocState) : (s.modAlloc a f).bnd = s.bnd := rfl
@[simp] theorem State.modAlloc_fresh (a : Nat) (f : AllocState → AllocState) : (s.modAlloc a f).fresh = s.fresh := rfl
@[simp] theorem State.modAlloc_out (a : Nat) (f : AllocState → AllocState) : (s.modAlloc a f).out = s.out := rfl
@[simp] theorem State.modAlloc_start (a : Nat) (f : AllocState → AllocState) : (s.modAlloc a f).start = s.start := rfl
@[simp] theorem State.modAlloc_power (a : Nat) (f : AllocState → AllocState) : (s.modAlloc a f).power = s.power := rfl
@[simp] theorem State.modAlloc_clk (a : Nat) (f : AllocState → AllocState) : (s.modAlloc a f).clk = s.clk := rfl
@[simp] theorem State.modAlloc_tide (a : Nat) (f : AllocState → AllocState) : (s.modAlloc a f).tide = s.tide := rfl
@[simp] theorem State.modAlloc_pool (a : Nat) (f : AllocState → AllocState) : (s.modAlloc a f).pool = s.pool := rfl
@[simp] theorem State.modAlloc_sched (a : Nat) (f : AllocState → AllocState) : (s.modAlloc a f).sched = s.sched := rfl
@[simp] theorem State.modAlloc_ports (a : Nat) (f : AllocState → AllocState) : (s.modAlloc a f).ports = s.ports := rfl
@[simp] theorem State.modAlloc_e1s (a : Nat) (f : AllocState → AllocState) : (s.modAlloc a f).e1s = s.e1s := rfl
@[simp] theorem State.modAlloc_cipher (a : Nat) (f : AllocState → AllocState) : (s.modAlloc a f).cipher = s.cipher := rfl
@[simp] theorem State.modAlloc_ring (a : Nat) (f : AllocState → AllocState) : (s.modAlloc a f).ring = s.ring := rfl
@[simp] theorem State.modAlloc_host (a : Nat) (f : AllocState → AllocState) : (s.modAlloc a f).host = s.host := rfl
@[simp] theorem State.modAlloc_evt (a : Nat) (f : AllocState → AllocState) : (s.modAlloc a f).evt = s.evt := rfl
@[simp] theorem State.modAlloc_cnt (a : Nat) (f : AllocState → AllocState) : (s.modAlloc a f).cnt = s.cnt := rfl
@[simp] theorem State.modAlloc_snap (a : Nat) (f : AllocState → AllocState) : (s.modAlloc a f).snap = s.snap := rfl
@[simp] theorem State.modAlloc_cfg (a : Nat) (f : AllocState → AllocState) : (s.modAlloc a f).cfg = s.cfg := rfl
@[simp] theorem State.modAlloc_adm (a : Nat) (f : AllocState → AllocState) : (s.modAlloc a f).adm = s.adm := rfl
@[simp] theorem State.modAlloc_cistern (a : Nat) (f : AllocState → AllocState) : (s.modAlloc a f).cistern = s.cistern := rfl
@[simp] theorem State.modAlloc_log (a : Nat) (f : AllocState → AllocState) : (s.modAlloc a f).log = s.log := rfl
@[simp] theorem State.modAlloc_craft (a : Nat) (f : AllocState → AllocState) : (s.modAlloc a f).craft = s.craft := rfl

@[simp] theorem State.modGroup_pending (g : Nat) (f : GroupState → GroupState) : (s.modGroup g f).pending = s.pending := rfl
@[simp] theorem State.modGroup_now (g : Nat) (f : GroupState → GroupState) : (s.modGroup g f).now = s.now := rfl
@[simp] theorem State.modGroup_bnd (g : Nat) (f : GroupState → GroupState) : (s.modGroup g f).bnd = s.bnd := rfl
@[simp] theorem State.modGroup_fresh (g : Nat) (f : GroupState → GroupState) : (s.modGroup g f).fresh = s.fresh := rfl
@[simp] theorem State.modGroup_out (g : Nat) (f : GroupState → GroupState) : (s.modGroup g f).out = s.out := rfl
@[simp] theorem State.modGroup_start (g : Nat) (f : GroupState → GroupState) : (s.modGroup g f).start = s.start := rfl
@[simp] theorem State.modGroup_power (g : Nat) (f : GroupState → GroupState) : (s.modGroup g f).power = s.power := rfl
@[simp] theorem State.modGroup_clk (g : Nat) (f : GroupState → GroupState) : (s.modGroup g f).clk = s.clk := rfl
@[simp] theorem State.modGroup_tide (g : Nat) (f : GroupState → GroupState) : (s.modGroup g f).tide = s.tide := rfl
@[simp] theorem State.modGroup_pool (g : Nat) (f : GroupState → GroupState) : (s.modGroup g f).pool = s.pool := rfl
@[simp] theorem State.modGroup_sched (g : Nat) (f : GroupState → GroupState) : (s.modGroup g f).sched = s.sched := rfl
@[simp] theorem State.modGroup_ports (g : Nat) (f : GroupState → GroupState) : (s.modGroup g f).ports = s.ports := rfl
@[simp] theorem State.modGroup_e1s (g : Nat) (f : GroupState → GroupState) : (s.modGroup g f).e1s = s.e1s := rfl
@[simp] theorem State.modGroup_cipher (g : Nat) (f : GroupState → GroupState) : (s.modGroup g f).cipher = s.cipher := rfl
@[simp] theorem State.modGroup_ring (g : Nat) (f : GroupState → GroupState) : (s.modGroup g f).ring = s.ring := rfl
@[simp] theorem State.modGroup_host (g : Nat) (f : GroupState → GroupState) : (s.modGroup g f).host = s.host := rfl
@[simp] theorem State.modGroup_evt (g : Nat) (f : GroupState → GroupState) : (s.modGroup g f).evt = s.evt := rfl
@[simp] theorem State.modGroup_cnt (g : Nat) (f : GroupState → GroupState) : (s.modGroup g f).cnt = s.cnt := rfl
@[simp] theorem State.modGroup_snap (g : Nat) (f : GroupState → GroupState) : (s.modGroup g f).snap = s.snap := rfl
@[simp] theorem State.modGroup_cfg (g : Nat) (f : GroupState → GroupState) : (s.modGroup g f).cfg = s.cfg := rfl
@[simp] theorem State.modGroup_adm (g : Nat) (f : GroupState → GroupState) : (s.modGroup g f).adm = s.adm := rfl
@[simp] theorem State.modGroup_cistern (g : Nat) (f : GroupState → GroupState) : (s.modGroup g f).cistern = s.cistern := rfl
@[simp] theorem State.modGroup_log (g : Nat) (f : GroupState → GroupState) : (s.modGroup g f).log = s.log := rfl
@[simp] theorem State.modGroup_craft (g : Nat) (f : GroupState → GroupState) : (s.modGroup g f).craft = s.craft := rfl

@[simp] theorem State.modJoinLane_pending (l : Nat) (f : JoinLane → JoinLane) : (s.modJoinLane l f).pending = s.pending := rfl
@[simp] theorem State.modJoinLane_now (l : Nat) (f : JoinLane → JoinLane) : (s.modJoinLane l f).now = s.now := rfl
@[simp] theorem State.modJoinLane_bnd (l : Nat) (f : JoinLane → JoinLane) : (s.modJoinLane l f).bnd = s.bnd := rfl
@[simp] theorem State.modJoinLane_fresh (l : Nat) (f : JoinLane → JoinLane) : (s.modJoinLane l f).fresh = s.fresh := rfl
@[simp] theorem State.modJoinLane_out (l : Nat) (f : JoinLane → JoinLane) : (s.modJoinLane l f).out = s.out := rfl
@[simp] theorem State.modJoinLane_start (l : Nat) (f : JoinLane → JoinLane) : (s.modJoinLane l f).start = s.start := rfl
@[simp] theorem State.modJoinLane_power (l : Nat) (f : JoinLane → JoinLane) : (s.modJoinLane l f).power = s.power := rfl
@[simp] theorem State.modJoinLane_clk (l : Nat) (f : JoinLane → JoinLane) : (s.modJoinLane l f).clk = s.clk := rfl
@[simp] theorem State.modJoinLane_tide (l : Nat) (f : JoinLane → JoinLane) : (s.modJoinLane l f).tide = s.tide := rfl
@[simp] theorem State.modJoinLane_pool (l : Nat) (f : JoinLane → JoinLane) : (s.modJoinLane l f).pool = s.pool := rfl
@[simp] theorem State.modJoinLane_sched (l : Nat) (f : JoinLane → JoinLane) : (s.modJoinLane l f).sched = s.sched := rfl
@[simp] theorem State.modJoinLane_ports (l : Nat) (f : JoinLane → JoinLane) : (s.modJoinLane l f).ports = s.ports := rfl
@[simp] theorem State.modJoinLane_e1s (l : Nat) (f : JoinLane → JoinLane) : (s.modJoinLane l f).e1s = s.e1s := rfl
@[simp] theorem State.modJoinLane_cipher (l : Nat) (f : JoinLane → JoinLane) : (s.modJoinLane l f).cipher = s.cipher := rfl
@[simp] theorem State.modJoinLane_ring (l : Nat) (f : JoinLane → JoinLane) : (s.modJoinLane l f).ring = s.ring := rfl
@[simp] theorem State.modJoinLane_host (l : Nat) (f : JoinLane → JoinLane) : (s.modJoinLane l f).host = s.host := rfl
@[simp] theorem State.modJoinLane_evt (l : Nat) (f : JoinLane → JoinLane) : (s.modJoinLane l f).evt = s.evt := rfl
@[simp] theorem State.modJoinLane_cnt (l : Nat) (f : JoinLane → JoinLane) : (s.modJoinLane l f).cnt = s.cnt := rfl
@[simp] theorem State.modJoinLane_snap (l : Nat) (f : JoinLane → JoinLane) : (s.modJoinLane l f).snap = s.snap := rfl
@[simp] theorem State.modJoinLane_cfg (l : Nat) (f : JoinLane → JoinLane) : (s.modJoinLane l f).cfg = s.cfg := rfl
@[simp] theorem State.modJoinLane_adm (l : Nat) (f : JoinLane → JoinLane) : (s.modJoinLane l f).adm = s.adm := rfl
@[simp] theorem State.modJoinLane_cistern (l : Nat) (f : JoinLane → JoinLane) : (s.modJoinLane l f).cistern = s.cistern := rfl
@[simp] theorem State.modJoinLane_log (l : Nat) (f : JoinLane → JoinLane) : (s.modJoinLane l f).log = s.log := rfl
@[simp] theorem State.modJoinLane_craft (l : Nat) (f : JoinLane → JoinLane) : (s.modJoinLane l f).craft = s.craft := rfl

@[simp] theorem State.modQueue_pending (q : Nat) (f : Queue → Queue) : (s.modQueue q f).pending = s.pending := rfl
@[simp] theorem State.modQueue_now (q : Nat) (f : Queue → Queue) : (s.modQueue q f).now = s.now := rfl
@[simp] theorem State.modQueue_bnd (q : Nat) (f : Queue → Queue) : (s.modQueue q f).bnd = s.bnd := rfl
@[simp] theorem State.modQueue_fresh (q : Nat) (f : Queue → Queue) : (s.modQueue q f).fresh = s.fresh := rfl
@[simp] theorem State.modQueue_out (q : Nat) (f : Queue → Queue) : (s.modQueue q f).out = s.out := rfl
@[simp] theorem State.modQueue_start (q : Nat) (f : Queue → Queue) : (s.modQueue q f).start = s.start := rfl
@[simp] theorem State.modQueue_power (q : Nat) (f : Queue → Queue) : (s.modQueue q f).power = s.power := rfl
@[simp] theorem State.modQueue_clk (q : Nat) (f : Queue → Queue) : (s.modQueue q f).clk = s.clk := rfl
@[simp] theorem State.modQueue_tide (q : Nat) (f : Queue → Queue) : (s.modQueue q f).tide = s.tide := rfl
@[simp] theorem State.modQueue_line (q : Nat) (f : Queue → Queue) : (s.modQueue q f).line = s.line := rfl
@[simp] theorem State.modQueue_sched (q : Nat) (f : Queue → Queue) : (s.modQueue q f).sched = s.sched := rfl
@[simp] theorem State.modQueue_ports (q : Nat) (f : Queue → Queue) : (s.modQueue q f).ports = s.ports := rfl
@[simp] theorem State.modQueue_e1s (q : Nat) (f : Queue → Queue) : (s.modQueue q f).e1s = s.e1s := rfl
@[simp] theorem State.modQueue_cipher (q : Nat) (f : Queue → Queue) : (s.modQueue q f).cipher = s.cipher := rfl
@[simp] theorem State.modQueue_ring (q : Nat) (f : Queue → Queue) : (s.modQueue q f).ring = s.ring := rfl
@[simp] theorem State.modQueue_host (q : Nat) (f : Queue → Queue) : (s.modQueue q f).host = s.host := rfl
@[simp] theorem State.modQueue_evt (q : Nat) (f : Queue → Queue) : (s.modQueue q f).evt = s.evt := rfl
@[simp] theorem State.modQueue_cnt (q : Nat) (f : Queue → Queue) : (s.modQueue q f).cnt = s.cnt := rfl
@[simp] theorem State.modQueue_snap (q : Nat) (f : Queue → Queue) : (s.modQueue q f).snap = s.snap := rfl
@[simp] theorem State.modQueue_cfg (q : Nat) (f : Queue → Queue) : (s.modQueue q f).cfg = s.cfg := rfl
@[simp] theorem State.modQueue_adm (q : Nat) (f : Queue → Queue) : (s.modQueue q f).adm = s.adm := rfl
@[simp] theorem State.modQueue_cistern (q : Nat) (f : Queue → Queue) : (s.modQueue q f).cistern = s.cistern := rfl
@[simp] theorem State.modQueue_log (q : Nat) (f : Queue → Queue) : (s.modQueue q f).log = s.log := rfl
@[simp] theorem State.modQueue_craft (q : Nat) (f : Queue → Queue) : (s.modQueue q f).craft = s.craft := rfl

@[simp] theorem State.modPort_pending (p : Nat) (f : Port → Port) : (s.modPort p f).pending = s.pending := rfl
@[simp] theorem State.modPort_now (p : Nat) (f : Port → Port) : (s.modPort p f).now = s.now := rfl
@[simp] theorem State.modPort_bnd (p : Nat) (f : Port → Port) : (s.modPort p f).bnd = s.bnd := rfl
@[simp] theorem State.modPort_fresh (p : Nat) (f : Port → Port) : (s.modPort p f).fresh = s.fresh := rfl
@[simp] theorem State.modPort_out (p : Nat) (f : Port → Port) : (s.modPort p f).out = s.out := rfl
@[simp] theorem State.modPort_start (p : Nat) (f : Port → Port) : (s.modPort p f).start = s.start := rfl
@[simp] theorem State.modPort_power (p : Nat) (f : Port → Port) : (s.modPort p f).power = s.power := rfl
@[simp] theorem State.modPort_clk (p : Nat) (f : Port → Port) : (s.modPort p f).clk = s.clk := rfl
@[simp] theorem State.modPort_tide (p : Nat) (f : Port → Port) : (s.modPort p f).tide = s.tide := rfl
@[simp] theorem State.modPort_line (p : Nat) (f : Port → Port) : (s.modPort p f).line = s.line := rfl
@[simp] theorem State.modPort_pool (p : Nat) (f : Port → Port) : (s.modPort p f).pool = s.pool := rfl
@[simp] theorem State.modPort_sched (p : Nat) (f : Port → Port) : (s.modPort p f).sched = s.sched := rfl
@[simp] theorem State.modPort_e1s (p : Nat) (f : Port → Port) : (s.modPort p f).e1s = s.e1s := rfl
@[simp] theorem State.modPort_cipher (p : Nat) (f : Port → Port) : (s.modPort p f).cipher = s.cipher := rfl
@[simp] theorem State.modPort_ring (p : Nat) (f : Port → Port) : (s.modPort p f).ring = s.ring := rfl
@[simp] theorem State.modPort_host (p : Nat) (f : Port → Port) : (s.modPort p f).host = s.host := rfl
@[simp] theorem State.modPort_evt (p : Nat) (f : Port → Port) : (s.modPort p f).evt = s.evt := rfl
@[simp] theorem State.modPort_cnt (p : Nat) (f : Port → Port) : (s.modPort p f).cnt = s.cnt := rfl
@[simp] theorem State.modPort_snap (p : Nat) (f : Port → Port) : (s.modPort p f).snap = s.snap := rfl
@[simp] theorem State.modPort_cfg (p : Nat) (f : Port → Port) : (s.modPort p f).cfg = s.cfg := rfl
@[simp] theorem State.modPort_adm (p : Nat) (f : Port → Port) : (s.modPort p f).adm = s.adm := rfl
@[simp] theorem State.modPort_cistern (p : Nat) (f : Port → Port) : (s.modPort p f).cistern = s.cistern := rfl
@[simp] theorem State.modPort_log (p : Nat) (f : Port → Port) : (s.modPort p f).log = s.log := rfl
@[simp] theorem State.modPort_craft (p : Nat) (f : Port → Port) : (s.modPort p f).craft = s.craft := rfl

@[simp] theorem State.modE1_pending (p : Nat) (f : E1 → E1) : (s.modE1 p f).pending = s.pending := rfl
@[simp] theorem State.modE1_now (p : Nat) (f : E1 → E1) : (s.modE1 p f).now = s.now := rfl
@[simp] theorem State.modE1_bnd (p : Nat) (f : E1 → E1) : (s.modE1 p f).bnd = s.bnd := rfl
@[simp] theorem State.modE1_fresh (p : Nat) (f : E1 → E1) : (s.modE1 p f).fresh = s.fresh := rfl
@[simp] theorem State.modE1_out (p : Nat) (f : E1 → E1) : (s.modE1 p f).out = s.out := rfl
@[simp] theorem State.modE1_start (p : Nat) (f : E1 → E1) : (s.modE1 p f).start = s.start := rfl
@[simp] theorem State.modE1_power (p : Nat) (f : E1 → E1) : (s.modE1 p f).power = s.power := rfl
@[simp] theorem State.modE1_clk (p : Nat) (f : E1 → E1) : (s.modE1 p f).clk = s.clk := rfl
@[simp] theorem State.modE1_tide (p : Nat) (f : E1 → E1) : (s.modE1 p f).tide = s.tide := rfl
@[simp] theorem State.modE1_line (p : Nat) (f : E1 → E1) : (s.modE1 p f).line = s.line := rfl
@[simp] theorem State.modE1_pool (p : Nat) (f : E1 → E1) : (s.modE1 p f).pool = s.pool := rfl
@[simp] theorem State.modE1_sched (p : Nat) (f : E1 → E1) : (s.modE1 p f).sched = s.sched := rfl
@[simp] theorem State.modE1_ports (p : Nat) (f : E1 → E1) : (s.modE1 p f).ports = s.ports := rfl
@[simp] theorem State.modE1_cipher (p : Nat) (f : E1 → E1) : (s.modE1 p f).cipher = s.cipher := rfl
@[simp] theorem State.modE1_ring (p : Nat) (f : E1 → E1) : (s.modE1 p f).ring = s.ring := rfl
@[simp] theorem State.modE1_host (p : Nat) (f : E1 → E1) : (s.modE1 p f).host = s.host := rfl
@[simp] theorem State.modE1_evt (p : Nat) (f : E1 → E1) : (s.modE1 p f).evt = s.evt := rfl
@[simp] theorem State.modE1_cnt (p : Nat) (f : E1 → E1) : (s.modE1 p f).cnt = s.cnt := rfl
@[simp] theorem State.modE1_snap (p : Nat) (f : E1 → E1) : (s.modE1 p f).snap = s.snap := rfl
@[simp] theorem State.modE1_cfg (p : Nat) (f : E1 → E1) : (s.modE1 p f).cfg = s.cfg := rfl
@[simp] theorem State.modE1_adm (p : Nat) (f : E1 → E1) : (s.modE1 p f).adm = s.adm := rfl
@[simp] theorem State.modE1_cistern (p : Nat) (f : E1 → E1) : (s.modE1 p f).cistern = s.cistern := rfl
@[simp] theorem State.modE1_log (p : Nat) (f : E1 → E1) : (s.modE1 p f).log = s.log := rfl
@[simp] theorem State.modE1_craft (p : Nat) (f : E1 → E1) : (s.modE1 p f).craft = s.craft := rfl

@[simp] theorem State.modSide_pending (d : Nat) (f : RingSide → RingSide) : (s.modSide d f).pending = s.pending := rfl
@[simp] theorem State.modSide_now (d : Nat) (f : RingSide → RingSide) : (s.modSide d f).now = s.now := rfl
@[simp] theorem State.modSide_bnd (d : Nat) (f : RingSide → RingSide) : (s.modSide d f).bnd = s.bnd := rfl
@[simp] theorem State.modSide_fresh (d : Nat) (f : RingSide → RingSide) : (s.modSide d f).fresh = s.fresh := rfl
@[simp] theorem State.modSide_out (d : Nat) (f : RingSide → RingSide) : (s.modSide d f).out = s.out := rfl
@[simp] theorem State.modSide_start (d : Nat) (f : RingSide → RingSide) : (s.modSide d f).start = s.start := rfl
@[simp] theorem State.modSide_power (d : Nat) (f : RingSide → RingSide) : (s.modSide d f).power = s.power := rfl
@[simp] theorem State.modSide_clk (d : Nat) (f : RingSide → RingSide) : (s.modSide d f).clk = s.clk := rfl
@[simp] theorem State.modSide_tide (d : Nat) (f : RingSide → RingSide) : (s.modSide d f).tide = s.tide := rfl
@[simp] theorem State.modSide_line (d : Nat) (f : RingSide → RingSide) : (s.modSide d f).line = s.line := rfl
@[simp] theorem State.modSide_pool (d : Nat) (f : RingSide → RingSide) : (s.modSide d f).pool = s.pool := rfl
@[simp] theorem State.modSide_sched (d : Nat) (f : RingSide → RingSide) : (s.modSide d f).sched = s.sched := rfl
@[simp] theorem State.modSide_ports (d : Nat) (f : RingSide → RingSide) : (s.modSide d f).ports = s.ports := rfl
@[simp] theorem State.modSide_e1s (d : Nat) (f : RingSide → RingSide) : (s.modSide d f).e1s = s.e1s := rfl
@[simp] theorem State.modSide_cipher (d : Nat) (f : RingSide → RingSide) : (s.modSide d f).cipher = s.cipher := rfl
@[simp] theorem State.modSide_host (d : Nat) (f : RingSide → RingSide) : (s.modSide d f).host = s.host := rfl
@[simp] theorem State.modSide_evt (d : Nat) (f : RingSide → RingSide) : (s.modSide d f).evt = s.evt := rfl
@[simp] theorem State.modSide_cnt (d : Nat) (f : RingSide → RingSide) : (s.modSide d f).cnt = s.cnt := rfl
@[simp] theorem State.modSide_snap (d : Nat) (f : RingSide → RingSide) : (s.modSide d f).snap = s.snap := rfl
@[simp] theorem State.modSide_cfg (d : Nat) (f : RingSide → RingSide) : (s.modSide d f).cfg = s.cfg := rfl
@[simp] theorem State.modSide_adm (d : Nat) (f : RingSide → RingSide) : (s.modSide d f).adm = s.adm := rfl
@[simp] theorem State.modSide_cistern (d : Nat) (f : RingSide → RingSide) : (s.modSide d f).cistern = s.cistern := rfl
@[simp] theorem State.modSide_log (d : Nat) (f : RingSide → RingSide) : (s.modSide d f).log = s.log := rfl
@[simp] theorem State.modSide_craft (d : Nat) (f : RingSide → RingSide) : (s.modSide d f).craft = s.craft := rfl

@[simp] theorem State.modNode_pending (n : Nat) (f : NodeEntry → NodeEntry) : (s.modNode n f).pending = s.pending := rfl
@[simp] theorem State.modNode_now (n : Nat) (f : NodeEntry → NodeEntry) : (s.modNode n f).now = s.now := rfl
@[simp] theorem State.modNode_bnd (n : Nat) (f : NodeEntry → NodeEntry) : (s.modNode n f).bnd = s.bnd := rfl
@[simp] theorem State.modNode_fresh (n : Nat) (f : NodeEntry → NodeEntry) : (s.modNode n f).fresh = s.fresh := rfl
@[simp] theorem State.modNode_out (n : Nat) (f : NodeEntry → NodeEntry) : (s.modNode n f).out = s.out := rfl
@[simp] theorem State.modNode_start (n : Nat) (f : NodeEntry → NodeEntry) : (s.modNode n f).start = s.start := rfl
@[simp] theorem State.modNode_power (n : Nat) (f : NodeEntry → NodeEntry) : (s.modNode n f).power = s.power := rfl
@[simp] theorem State.modNode_clk (n : Nat) (f : NodeEntry → NodeEntry) : (s.modNode n f).clk = s.clk := rfl
@[simp] theorem State.modNode_tide (n : Nat) (f : NodeEntry → NodeEntry) : (s.modNode n f).tide = s.tide := rfl
@[simp] theorem State.modNode_line (n : Nat) (f : NodeEntry → NodeEntry) : (s.modNode n f).line = s.line := rfl
@[simp] theorem State.modNode_pool (n : Nat) (f : NodeEntry → NodeEntry) : (s.modNode n f).pool = s.pool := rfl
@[simp] theorem State.modNode_sched (n : Nat) (f : NodeEntry → NodeEntry) : (s.modNode n f).sched = s.sched := rfl
@[simp] theorem State.modNode_ports (n : Nat) (f : NodeEntry → NodeEntry) : (s.modNode n f).ports = s.ports := rfl
@[simp] theorem State.modNode_e1s (n : Nat) (f : NodeEntry → NodeEntry) : (s.modNode n f).e1s = s.e1s := rfl
@[simp] theorem State.modNode_cipher (n : Nat) (f : NodeEntry → NodeEntry) : (s.modNode n f).cipher = s.cipher := rfl
@[simp] theorem State.modNode_host (n : Nat) (f : NodeEntry → NodeEntry) : (s.modNode n f).host = s.host := rfl
@[simp] theorem State.modNode_evt (n : Nat) (f : NodeEntry → NodeEntry) : (s.modNode n f).evt = s.evt := rfl
@[simp] theorem State.modNode_cnt (n : Nat) (f : NodeEntry → NodeEntry) : (s.modNode n f).cnt = s.cnt := rfl
@[simp] theorem State.modNode_snap (n : Nat) (f : NodeEntry → NodeEntry) : (s.modNode n f).snap = s.snap := rfl
@[simp] theorem State.modNode_cfg (n : Nat) (f : NodeEntry → NodeEntry) : (s.modNode n f).cfg = s.cfg := rfl
@[simp] theorem State.modNode_adm (n : Nat) (f : NodeEntry → NodeEntry) : (s.modNode n f).adm = s.adm := rfl
@[simp] theorem State.modNode_cistern (n : Nat) (f : NodeEntry → NodeEntry) : (s.modNode n f).cistern = s.cistern := rfl
@[simp] theorem State.modNode_log (n : Nat) (f : NodeEntry → NodeEntry) : (s.modNode n f).log = s.log := rfl
@[simp] theorem State.modNode_craft (n : Nat) (f : NodeEntry → NodeEntry) : (s.modNode n f).craft = s.craft := rfl

@[simp] theorem State.modBox_pending (m : Nat) (f : Mbx → Mbx) : (s.modBox m f).pending = s.pending := rfl
@[simp] theorem State.modBox_now (m : Nat) (f : Mbx → Mbx) : (s.modBox m f).now = s.now := rfl
@[simp] theorem State.modBox_bnd (m : Nat) (f : Mbx → Mbx) : (s.modBox m f).bnd = s.bnd := rfl
@[simp] theorem State.modBox_fresh (m : Nat) (f : Mbx → Mbx) : (s.modBox m f).fresh = s.fresh := rfl
@[simp] theorem State.modBox_out (m : Nat) (f : Mbx → Mbx) : (s.modBox m f).out = s.out := rfl
@[simp] theorem State.modBox_start (m : Nat) (f : Mbx → Mbx) : (s.modBox m f).start = s.start := rfl
@[simp] theorem State.modBox_power (m : Nat) (f : Mbx → Mbx) : (s.modBox m f).power = s.power := rfl
@[simp] theorem State.modBox_clk (m : Nat) (f : Mbx → Mbx) : (s.modBox m f).clk = s.clk := rfl
@[simp] theorem State.modBox_tide (m : Nat) (f : Mbx → Mbx) : (s.modBox m f).tide = s.tide := rfl
@[simp] theorem State.modBox_line (m : Nat) (f : Mbx → Mbx) : (s.modBox m f).line = s.line := rfl
@[simp] theorem State.modBox_pool (m : Nat) (f : Mbx → Mbx) : (s.modBox m f).pool = s.pool := rfl
@[simp] theorem State.modBox_sched (m : Nat) (f : Mbx → Mbx) : (s.modBox m f).sched = s.sched := rfl
@[simp] theorem State.modBox_ports (m : Nat) (f : Mbx → Mbx) : (s.modBox m f).ports = s.ports := rfl
@[simp] theorem State.modBox_e1s (m : Nat) (f : Mbx → Mbx) : (s.modBox m f).e1s = s.e1s := rfl
@[simp] theorem State.modBox_cipher (m : Nat) (f : Mbx → Mbx) : (s.modBox m f).cipher = s.cipher := rfl
@[simp] theorem State.modBox_ring (m : Nat) (f : Mbx → Mbx) : (s.modBox m f).ring = s.ring := rfl
@[simp] theorem State.modBox_evt (m : Nat) (f : Mbx → Mbx) : (s.modBox m f).evt = s.evt := rfl
@[simp] theorem State.modBox_cnt (m : Nat) (f : Mbx → Mbx) : (s.modBox m f).cnt = s.cnt := rfl
@[simp] theorem State.modBox_snap (m : Nat) (f : Mbx → Mbx) : (s.modBox m f).snap = s.snap := rfl
@[simp] theorem State.modBox_cfg (m : Nat) (f : Mbx → Mbx) : (s.modBox m f).cfg = s.cfg := rfl
@[simp] theorem State.modBox_adm (m : Nat) (f : Mbx → Mbx) : (s.modBox m f).adm = s.adm := rfl
@[simp] theorem State.modBox_cistern (m : Nat) (f : Mbx → Mbx) : (s.modBox m f).cistern = s.cistern := rfl
@[simp] theorem State.modBox_log (m : Nat) (f : Mbx → Mbx) : (s.modBox m f).log = s.log := rfl
@[simp] theorem State.modBox_craft (m : Nat) (f : Mbx → Mbx) : (s.modBox m f).craft = s.craft := rfl

@[simp] theorem State.modBank_pending (k b : Nat) (f : Bank → Bank) : (s.modBank k b f).pending = s.pending := rfl
@[simp] theorem State.modBank_now (k b : Nat) (f : Bank → Bank) : (s.modBank k b f).now = s.now := rfl
@[simp] theorem State.modBank_bnd (k b : Nat) (f : Bank → Bank) : (s.modBank k b f).bnd = s.bnd := rfl
@[simp] theorem State.modBank_fresh (k b : Nat) (f : Bank → Bank) : (s.modBank k b f).fresh = s.fresh := rfl
@[simp] theorem State.modBank_out (k b : Nat) (f : Bank → Bank) : (s.modBank k b f).out = s.out := rfl
@[simp] theorem State.modBank_start (k b : Nat) (f : Bank → Bank) : (s.modBank k b f).start = s.start := rfl
@[simp] theorem State.modBank_power (k b : Nat) (f : Bank → Bank) : (s.modBank k b f).power = s.power := rfl
@[simp] theorem State.modBank_clk (k b : Nat) (f : Bank → Bank) : (s.modBank k b f).clk = s.clk := rfl
@[simp] theorem State.modBank_tide (k b : Nat) (f : Bank → Bank) : (s.modBank k b f).tide = s.tide := rfl
@[simp] theorem State.modBank_line (k b : Nat) (f : Bank → Bank) : (s.modBank k b f).line = s.line := rfl
@[simp] theorem State.modBank_pool (k b : Nat) (f : Bank → Bank) : (s.modBank k b f).pool = s.pool := rfl
@[simp] theorem State.modBank_sched (k b : Nat) (f : Bank → Bank) : (s.modBank k b f).sched = s.sched := rfl
@[simp] theorem State.modBank_ports (k b : Nat) (f : Bank → Bank) : (s.modBank k b f).ports = s.ports := rfl
@[simp] theorem State.modBank_e1s (k b : Nat) (f : Bank → Bank) : (s.modBank k b f).e1s = s.e1s := rfl
@[simp] theorem State.modBank_ring (k b : Nat) (f : Bank → Bank) : (s.modBank k b f).ring = s.ring := rfl
@[simp] theorem State.modBank_host (k b : Nat) (f : Bank → Bank) : (s.modBank k b f).host = s.host := rfl
@[simp] theorem State.modBank_evt (k b : Nat) (f : Bank → Bank) : (s.modBank k b f).evt = s.evt := rfl
@[simp] theorem State.modBank_cnt (k b : Nat) (f : Bank → Bank) : (s.modBank k b f).cnt = s.cnt := rfl
@[simp] theorem State.modBank_snap (k b : Nat) (f : Bank → Bank) : (s.modBank k b f).snap = s.snap := rfl
@[simp] theorem State.modBank_cfg (k b : Nat) (f : Bank → Bank) : (s.modBank k b f).cfg = s.cfg := rfl
@[simp] theorem State.modBank_adm (k b : Nat) (f : Bank → Bank) : (s.modBank k b f).adm = s.adm := rfl
@[simp] theorem State.modBank_cistern (k b : Nat) (f : Bank → Bank) : (s.modBank k b f).cistern = s.cistern := rfl
@[simp] theorem State.modBank_log (k b : Nat) (f : Bank → Bank) : (s.modBank k b f).log = s.log := rfl
@[simp] theorem State.modBank_craft (k b : Nat) (f : Bank → Bank) : (s.modBank k b f).craft = s.craft := rfl

@[simp] theorem State.modLsw_pending (k : Nat) (f : Lsw → Lsw) : (s.modLsw k f).pending = s.pending := rfl
@[simp] theorem State.modLsw_now (k : Nat) (f : Lsw → Lsw) : (s.modLsw k f).now = s.now := rfl
@[simp] theorem State.modLsw_bnd (k : Nat) (f : Lsw → Lsw) : (s.modLsw k f).bnd = s.bnd := rfl
@[simp] theorem State.modLsw_fresh (k : Nat) (f : Lsw → Lsw) : (s.modLsw k f).fresh = s.fresh := rfl
@[simp] theorem State.modLsw_out (k : Nat) (f : Lsw → Lsw) : (s.modLsw k f).out = s.out := rfl
@[simp] theorem State.modLsw_start (k : Nat) (f : Lsw → Lsw) : (s.modLsw k f).start = s.start := rfl
@[simp] theorem State.modLsw_power (k : Nat) (f : Lsw → Lsw) : (s.modLsw k f).power = s.power := rfl
@[simp] theorem State.modLsw_clk (k : Nat) (f : Lsw → Lsw) : (s.modLsw k f).clk = s.clk := rfl
@[simp] theorem State.modLsw_tide (k : Nat) (f : Lsw → Lsw) : (s.modLsw k f).tide = s.tide := rfl
@[simp] theorem State.modLsw_line (k : Nat) (f : Lsw → Lsw) : (s.modLsw k f).line = s.line := rfl
@[simp] theorem State.modLsw_pool (k : Nat) (f : Lsw → Lsw) : (s.modLsw k f).pool = s.pool := rfl
@[simp] theorem State.modLsw_sched (k : Nat) (f : Lsw → Lsw) : (s.modLsw k f).sched = s.sched := rfl
@[simp] theorem State.modLsw_ports (k : Nat) (f : Lsw → Lsw) : (s.modLsw k f).ports = s.ports := rfl
@[simp] theorem State.modLsw_e1s (k : Nat) (f : Lsw → Lsw) : (s.modLsw k f).e1s = s.e1s := rfl
@[simp] theorem State.modLsw_cipher (k : Nat) (f : Lsw → Lsw) : (s.modLsw k f).cipher = s.cipher := rfl
@[simp] theorem State.modLsw_ring (k : Nat) (f : Lsw → Lsw) : (s.modLsw k f).ring = s.ring := rfl
@[simp] theorem State.modLsw_host (k : Nat) (f : Lsw → Lsw) : (s.modLsw k f).host = s.host := rfl
@[simp] theorem State.modLsw_evt (k : Nat) (f : Lsw → Lsw) : (s.modLsw k f).evt = s.evt := rfl
@[simp] theorem State.modLsw_cnt (k : Nat) (f : Lsw → Lsw) : (s.modLsw k f).cnt = s.cnt := rfl
@[simp] theorem State.modLsw_snap (k : Nat) (f : Lsw → Lsw) : (s.modLsw k f).snap = s.snap := rfl
@[simp] theorem State.modLsw_cfg (k : Nat) (f : Lsw → Lsw) : (s.modLsw k f).cfg = s.cfg := rfl
@[simp] theorem State.modLsw_adm (k : Nat) (f : Lsw → Lsw) : (s.modLsw k f).adm = s.adm := rfl
@[simp] theorem State.modLsw_log (k : Nat) (f : Lsw → Lsw) : (s.modLsw k f).log = s.log := rfl
@[simp] theorem State.modLsw_craft (k : Nat) (f : Lsw → Lsw) : (s.modLsw k f).craft = s.craft := rfl

@[simp] theorem State.emit_pending (e : Emission) : (s.emit e).pending = s.pending := rfl
@[simp] theorem State.emit_now (e : Emission) : (s.emit e).now = s.now := rfl
@[simp] theorem State.emit_bnd (e : Emission) : (s.emit e).bnd = s.bnd := rfl
@[simp] theorem State.emit_fresh (e : Emission) : (s.emit e).fresh = s.fresh := rfl
@[simp] theorem State.emit_start (e : Emission) : (s.emit e).start = s.start := rfl
@[simp] theorem State.emit_power (e : Emission) : (s.emit e).power = s.power := rfl
@[simp] theorem State.emit_clk (e : Emission) : (s.emit e).clk = s.clk := rfl
@[simp] theorem State.emit_tide (e : Emission) : (s.emit e).tide = s.tide := rfl
@[simp] theorem State.emit_line (e : Emission) : (s.emit e).line = s.line := rfl
@[simp] theorem State.emit_pool (e : Emission) : (s.emit e).pool = s.pool := rfl
@[simp] theorem State.emit_sched (e : Emission) : (s.emit e).sched = s.sched := rfl
@[simp] theorem State.emit_ports (e : Emission) : (s.emit e).ports = s.ports := rfl
@[simp] theorem State.emit_e1s (e : Emission) : (s.emit e).e1s = s.e1s := rfl
@[simp] theorem State.emit_cipher (e : Emission) : (s.emit e).cipher = s.cipher := rfl
@[simp] theorem State.emit_ring (e : Emission) : (s.emit e).ring = s.ring := rfl
@[simp] theorem State.emit_host (e : Emission) : (s.emit e).host = s.host := rfl
@[simp] theorem State.emit_evt (e : Emission) : (s.emit e).evt = s.evt := rfl
@[simp] theorem State.emit_cnt (e : Emission) : (s.emit e).cnt = s.cnt := rfl
@[simp] theorem State.emit_snap (e : Emission) : (s.emit e).snap = s.snap := rfl
@[simp] theorem State.emit_cfg (e : Emission) : (s.emit e).cfg = s.cfg := rfl
@[simp] theorem State.emit_adm (e : Emission) : (s.emit e).adm = s.adm := rfl
@[simp] theorem State.emit_cistern (e : Emission) : (s.emit e).cistern = s.cistern := rfl
@[simp] theorem State.emit_log (e : Emission) : (s.emit e).log = s.log := rfl
@[simp] theorem State.emit_craft (e : Emission) : (s.emit e).craft = s.craft := rfl

@[simp] theorem State.recheck_pending : s.recheck.pending = s.pending := rfl
@[simp] theorem State.recheck_now : s.recheck.now = s.now := rfl
@[simp] theorem State.recheck_bnd : s.recheck.bnd = s.bnd := rfl
@[simp] theorem State.recheck_fresh : s.recheck.fresh = s.fresh := rfl
@[simp] theorem State.recheck_out : s.recheck.out = s.out := rfl
@[simp] theorem State.recheck_start : s.recheck.start = s.start := rfl
@[simp] theorem State.recheck_power : s.recheck.power = s.power := rfl
@[simp] theorem State.recheck_clk : s.recheck.clk = s.clk := rfl
@[simp] theorem State.recheck_tide : s.recheck.tide = s.tide := rfl
@[simp] theorem State.recheck_line : s.recheck.line = s.line := rfl
@[simp] theorem State.recheck_pool : s.recheck.pool = s.pool := rfl
@[simp] theorem State.recheck_sched : s.recheck.sched = s.sched := rfl
@[simp] theorem State.recheck_ports : s.recheck.ports = s.ports := rfl
@[simp] theorem State.recheck_e1s : s.recheck.e1s = s.e1s := rfl
@[simp] theorem State.recheck_cipher : s.recheck.cipher = s.cipher := rfl
@[simp] theorem State.recheck_ring : s.recheck.ring = s.ring := rfl
@[simp] theorem State.recheck_host : s.recheck.host = s.host := rfl
@[simp] theorem State.recheck_evt : s.recheck.evt = s.evt := rfl
@[simp] theorem State.recheck_cnt : s.recheck.cnt = s.cnt := rfl
@[simp] theorem State.recheck_snap : s.recheck.snap = s.snap := rfl
@[simp] theorem State.recheck_cfg : s.recheck.cfg = s.cfg := rfl
@[simp] theorem State.recheck_cistern : s.recheck.cistern = s.cistern := rfl
@[simp] theorem State.recheck_log : s.recheck.log = s.log := rfl
@[simp] theorem State.recheck_craft : s.recheck.craft = s.craft := rfl

@[simp] theorem State.setEvt_pending (e : Events) (b : Bool) : (s.setEvt e b).pending = s.pending := rfl
@[simp] theorem State.setEvt_now (e : Events) (b : Bool) : (s.setEvt e b).now = s.now := rfl
@[simp] theorem State.setEvt_bnd (e : Events) (b : Bool) : (s.setEvt e b).bnd = s.bnd := rfl
@[simp] theorem State.setEvt_fresh (e : Events) (b : Bool) : (s.setEvt e b).fresh = s.fresh := rfl
@[simp] theorem State.setEvt_start (e : Events) (b : Bool) : (s.setEvt e b).start = s.start := rfl
@[simp] theorem State.setEvt_power (e : Events) (b : Bool) : (s.setEvt e b).power = s.power := rfl
@[simp] theorem State.setEvt_clk (e : Events) (b : Bool) : (s.setEvt e b).clk = s.clk := rfl
@[simp] theorem State.setEvt_tide (e : Events) (b : Bool) : (s.setEvt e b).tide = s.tide := rfl
@[simp] theorem State.setEvt_line (e : Events) (b : Bool) : (s.setEvt e b).line = s.line := rfl
@[simp] theorem State.setEvt_pool (e : Events) (b : Bool) : (s.setEvt e b).pool = s.pool := rfl
@[simp] theorem State.setEvt_sched (e : Events) (b : Bool) : (s.setEvt e b).sched = s.sched := rfl
@[simp] theorem State.setEvt_ports (e : Events) (b : Bool) : (s.setEvt e b).ports = s.ports := rfl
@[simp] theorem State.setEvt_e1s (e : Events) (b : Bool) : (s.setEvt e b).e1s = s.e1s := rfl
@[simp] theorem State.setEvt_cipher (e : Events) (b : Bool) : (s.setEvt e b).cipher = s.cipher := rfl
@[simp] theorem State.setEvt_cnt (e : Events) (b : Bool) : (s.setEvt e b).cnt = s.cnt := rfl
@[simp] theorem State.setEvt_snap (e : Events) (b : Bool) : (s.setEvt e b).snap = s.snap := rfl
@[simp] theorem State.setEvt_cfg (e : Events) (b : Bool) : (s.setEvt e b).cfg = s.cfg := rfl
@[simp] theorem State.setEvt_adm (e : Events) (b : Bool) : (s.setEvt e b).adm = s.adm := rfl
@[simp] theorem State.setEvt_cistern (e : Events) (b : Bool) : (s.setEvt e b).cistern = s.cistern := rfl
@[simp] theorem State.setEvt_log (e : Events) (b : Bool) : (s.setEvt e b).log = s.log := rfl
@[simp] theorem State.setEvt_craft (e : Events) (b : Bool) : (s.setEvt e b).craft = s.craft := rfl

@[simp] theorem State.raise_pending (src obj detail : Nat) : (s.raise src obj detail).pending = s.pending := rfl
@[simp] theorem State.raise_now (src obj detail : Nat) : (s.raise src obj detail).now = s.now := rfl
@[simp] theorem State.raise_bnd (src obj detail : Nat) : (s.raise src obj detail).bnd = s.bnd := rfl
@[simp] theorem State.raise_fresh (src obj detail : Nat) : (s.raise src obj detail).fresh = s.fresh := rfl
@[simp] theorem State.raise_start (src obj detail : Nat) : (s.raise src obj detail).start = s.start := rfl
@[simp] theorem State.raise_power (src obj detail : Nat) : (s.raise src obj detail).power = s.power := rfl
@[simp] theorem State.raise_clk (src obj detail : Nat) : (s.raise src obj detail).clk = s.clk := rfl
@[simp] theorem State.raise_tide (src obj detail : Nat) : (s.raise src obj detail).tide = s.tide := rfl
@[simp] theorem State.raise_line (src obj detail : Nat) : (s.raise src obj detail).line = s.line := rfl
@[simp] theorem State.raise_pool (src obj detail : Nat) : (s.raise src obj detail).pool = s.pool := rfl
@[simp] theorem State.raise_sched (src obj detail : Nat) : (s.raise src obj detail).sched = s.sched := rfl
@[simp] theorem State.raise_ports (src obj detail : Nat) : (s.raise src obj detail).ports = s.ports := rfl
@[simp] theorem State.raise_e1s (src obj detail : Nat) : (s.raise src obj detail).e1s = s.e1s := rfl
@[simp] theorem State.raise_cipher (src obj detail : Nat) : (s.raise src obj detail).cipher = s.cipher := rfl
@[simp] theorem State.raise_snap (src obj detail : Nat) : (s.raise src obj detail).snap = s.snap := rfl
@[simp] theorem State.raise_cfg (src obj detail : Nat) : (s.raise src obj detail).cfg = s.cfg := rfl
@[simp] theorem State.raise_adm (src obj detail : Nat) : (s.raise src obj detail).adm = s.adm := rfl
@[simp] theorem State.raise_cistern (src obj detail : Nat) : (s.raise src obj detail).cistern = s.cistern := rfl
@[simp] theorem State.raise_craft (src obj detail : Nat) : (s.raise src obj detail).craft = s.craft := rfl

@[simp] theorem State.dcc_pending (n : Nat) (b : DccBody) : (s.dcc n b).pending = s.pending := rfl
@[simp] theorem State.dcc_now (n : Nat) (b : DccBody) : (s.dcc n b).now = s.now := rfl
@[simp] theorem State.dcc_bnd (n : Nat) (b : DccBody) : (s.dcc n b).bnd = s.bnd := rfl
@[simp] theorem State.dcc_fresh (n : Nat) (b : DccBody) : (s.dcc n b).fresh = s.fresh := rfl
@[simp] theorem State.dcc_start (n : Nat) (b : DccBody) : (s.dcc n b).start = s.start := rfl
@[simp] theorem State.dcc_power (n : Nat) (b : DccBody) : (s.dcc n b).power = s.power := rfl
@[simp] theorem State.dcc_clk (n : Nat) (b : DccBody) : (s.dcc n b).clk = s.clk := rfl
@[simp] theorem State.dcc_tide (n : Nat) (b : DccBody) : (s.dcc n b).tide = s.tide := rfl
@[simp] theorem State.dcc_line (n : Nat) (b : DccBody) : (s.dcc n b).line = s.line := rfl
@[simp] theorem State.dcc_pool (n : Nat) (b : DccBody) : (s.dcc n b).pool = s.pool := rfl
@[simp] theorem State.dcc_sched (n : Nat) (b : DccBody) : (s.dcc n b).sched = s.sched := rfl
@[simp] theorem State.dcc_ports (n : Nat) (b : DccBody) : (s.dcc n b).ports = s.ports := rfl
@[simp] theorem State.dcc_e1s (n : Nat) (b : DccBody) : (s.dcc n b).e1s = s.e1s := rfl
@[simp] theorem State.dcc_cipher (n : Nat) (b : DccBody) : (s.dcc n b).cipher = s.cipher := rfl
@[simp] theorem State.dcc_host (n : Nat) (b : DccBody) : (s.dcc n b).host = s.host := rfl
@[simp] theorem State.dcc_evt (n : Nat) (b : DccBody) : (s.dcc n b).evt = s.evt := rfl
@[simp] theorem State.dcc_snap (n : Nat) (b : DccBody) : (s.dcc n b).snap = s.snap := rfl
@[simp] theorem State.dcc_cfg (n : Nat) (b : DccBody) : (s.dcc n b).cfg = s.cfg := rfl
@[simp] theorem State.dcc_adm (n : Nat) (b : DccBody) : (s.dcc n b).adm = s.adm := rfl
@[simp] theorem State.dcc_cistern (n : Nat) (b : DccBody) : (s.dcc n b).cistern = s.cistern := rfl
@[simp] theorem State.dcc_log (n : Nat) (b : DccBody) : (s.dcc n b).log = s.log := rfl
@[simp] theorem State.dcc_craft (n : Nat) (b : DccBody) : (s.dcc n b).craft = s.craft := rfl

@[simp] theorem State.logRec_pending (k : Nat) (d : List Byte) : (s.logRec k d).pending = s.pending := rfl
@[simp] theorem State.logRec_now (k : Nat) (d : List Byte) : (s.logRec k d).now = s.now := rfl
@[simp] theorem State.logRec_bnd (k : Nat) (d : List Byte) : (s.logRec k d).bnd = s.bnd := rfl
@[simp] theorem State.logRec_fresh (k : Nat) (d : List Byte) : (s.logRec k d).fresh = s.fresh := rfl
@[simp] theorem State.logRec_start (k : Nat) (d : List Byte) : (s.logRec k d).start = s.start := rfl
@[simp] theorem State.logRec_power (k : Nat) (d : List Byte) : (s.logRec k d).power = s.power := rfl
@[simp] theorem State.logRec_clk (k : Nat) (d : List Byte) : (s.logRec k d).clk = s.clk := rfl
@[simp] theorem State.logRec_tide (k : Nat) (d : List Byte) : (s.logRec k d).tide = s.tide := rfl
@[simp] theorem State.logRec_line (k : Nat) (d : List Byte) : (s.logRec k d).line = s.line := rfl
@[simp] theorem State.logRec_pool (k : Nat) (d : List Byte) : (s.logRec k d).pool = s.pool := rfl
@[simp] theorem State.logRec_sched (k : Nat) (d : List Byte) : (s.logRec k d).sched = s.sched := rfl
@[simp] theorem State.logRec_ports (k : Nat) (d : List Byte) : (s.logRec k d).ports = s.ports := rfl
@[simp] theorem State.logRec_e1s (k : Nat) (d : List Byte) : (s.logRec k d).e1s = s.e1s := rfl
@[simp] theorem State.logRec_cipher (k : Nat) (d : List Byte) : (s.logRec k d).cipher = s.cipher := rfl
@[simp] theorem State.logRec_host (k : Nat) (d : List Byte) : (s.logRec k d).host = s.host := rfl
@[simp] theorem State.logRec_evt (k : Nat) (d : List Byte) : (s.logRec k d).evt = s.evt := rfl
@[simp] theorem State.logRec_cnt (k : Nat) (d : List Byte) : (s.logRec k d).cnt = s.cnt := rfl
@[simp] theorem State.logRec_snap (k : Nat) (d : List Byte) : (s.logRec k d).snap = s.snap := rfl
@[simp] theorem State.logRec_cfg (k : Nat) (d : List Byte) : (s.logRec k d).cfg = s.cfg := rfl
@[simp] theorem State.logRec_adm (k : Nat) (d : List Byte) : (s.logRec k d).adm = s.adm := rfl
@[simp] theorem State.logRec_cistern (k : Nat) (d : List Byte) : (s.logRec k d).cistern = s.cistern := rfl
@[simp] theorem State.logRec_craft (k : Nat) (d : List Byte) : (s.logRec k d).craft = s.craft := rfl

@[simp] theorem State.setClk_pending (f : Clocks → Clocks) : (s.setClk f).pending = s.pending := rfl
@[simp] theorem State.setClk_now (f : Clocks → Clocks) : (s.setClk f).now = s.now := rfl
@[simp] theorem State.setClk_bnd (f : Clocks → Clocks) : (s.setClk f).bnd = s.bnd := rfl
@[simp] theorem State.setClk_fresh (f : Clocks → Clocks) : (s.setClk f).fresh = s.fresh := rfl
@[simp] theorem State.setClk_out (f : Clocks → Clocks) : (s.setClk f).out = s.out := rfl
@[simp] theorem State.setClk_start (f : Clocks → Clocks) : (s.setClk f).start = s.start := rfl
@[simp] theorem State.setClk_power (f : Clocks → Clocks) : (s.setClk f).power = s.power := rfl
@[simp] theorem State.setClk_tide (f : Clocks → Clocks) : (s.setClk f).tide = s.tide := rfl
@[simp] theorem State.setClk_line (f : Clocks → Clocks) : (s.setClk f).line = s.line := rfl
@[simp] theorem State.setClk_pool (f : Clocks → Clocks) : (s.setClk f).pool = s.pool := rfl
@[simp] theorem State.setClk_sched (f : Clocks → Clocks) : (s.setClk f).sched = s.sched := rfl
@[simp] theorem State.setClk_ports (f : Clocks → Clocks) : (s.setClk f).ports = s.ports := rfl
@[simp] theorem State.setClk_e1s (f : Clocks → Clocks) : (s.setClk f).e1s = s.e1s := rfl
@[simp] theorem State.setClk_cipher (f : Clocks → Clocks) : (s.setClk f).cipher = s.cipher := rfl
@[simp] theorem State.setClk_ring (f : Clocks → Clocks) : (s.setClk f).ring = s.ring := rfl
@[simp] theorem State.setClk_host (f : Clocks → Clocks) : (s.setClk f).host = s.host := rfl
@[simp] theorem State.setClk_evt (f : Clocks → Clocks) : (s.setClk f).evt = s.evt := rfl
@[simp] theorem State.setClk_cnt (f : Clocks → Clocks) : (s.setClk f).cnt = s.cnt := rfl
@[simp] theorem State.setClk_snap (f : Clocks → Clocks) : (s.setClk f).snap = s.snap := rfl
@[simp] theorem State.setClk_cfg (f : Clocks → Clocks) : (s.setClk f).cfg = s.cfg := rfl
@[simp] theorem State.setClk_adm (f : Clocks → Clocks) : (s.setClk f).adm = s.adm := rfl
@[simp] theorem State.setClk_cistern (f : Clocks → Clocks) : (s.setClk f).cistern = s.cistern := rfl
@[simp] theorem State.setClk_log (f : Clocks → Clocks) : (s.setClk f).log = s.log := rfl
@[simp] theorem State.setClk_craft (f : Clocks → Clocks) : (s.setClk f).craft = s.craft := rfl

@[simp] theorem State.modAlarm_pending (k : Nat) (f : Alarm → Alarm) : (s.modAlarm k f).pending = s.pending := rfl
@[simp] theorem State.modAlarm_now (k : Nat) (f : Alarm → Alarm) : (s.modAlarm k f).now = s.now := rfl
@[simp] theorem State.modAlarm_bnd (k : Nat) (f : Alarm → Alarm) : (s.modAlarm k f).bnd = s.bnd := rfl
@[simp] theorem State.modAlarm_fresh (k : Nat) (f : Alarm → Alarm) : (s.modAlarm k f).fresh = s.fresh := rfl
@[simp] theorem State.modAlarm_out (k : Nat) (f : Alarm → Alarm) : (s.modAlarm k f).out = s.out := rfl
@[simp] theorem State.modAlarm_start (k : Nat) (f : Alarm → Alarm) : (s.modAlarm k f).start = s.start := rfl
@[simp] theorem State.modAlarm_power (k : Nat) (f : Alarm → Alarm) : (s.modAlarm k f).power = s.power := rfl
@[simp] theorem State.modAlarm_clk (k : Nat) (f : Alarm → Alarm) : (s.modAlarm k f).clk = s.clk := rfl
@[simp] theorem State.modAlarm_line (k : Nat) (f : Alarm → Alarm) : (s.modAlarm k f).line = s.line := rfl
@[simp] theorem State.modAlarm_pool (k : Nat) (f : Alarm → Alarm) : (s.modAlarm k f).pool = s.pool := rfl
@[simp] theorem State.modAlarm_sched (k : Nat) (f : Alarm → Alarm) : (s.modAlarm k f).sched = s.sched := rfl
@[simp] theorem State.modAlarm_ports (k : Nat) (f : Alarm → Alarm) : (s.modAlarm k f).ports = s.ports := rfl
@[simp] theorem State.modAlarm_e1s (k : Nat) (f : Alarm → Alarm) : (s.modAlarm k f).e1s = s.e1s := rfl
@[simp] theorem State.modAlarm_cipher (k : Nat) (f : Alarm → Alarm) : (s.modAlarm k f).cipher = s.cipher := rfl
@[simp] theorem State.modAlarm_ring (k : Nat) (f : Alarm → Alarm) : (s.modAlarm k f).ring = s.ring := rfl
@[simp] theorem State.modAlarm_host (k : Nat) (f : Alarm → Alarm) : (s.modAlarm k f).host = s.host := rfl
@[simp] theorem State.modAlarm_evt (k : Nat) (f : Alarm → Alarm) : (s.modAlarm k f).evt = s.evt := rfl
@[simp] theorem State.modAlarm_cnt (k : Nat) (f : Alarm → Alarm) : (s.modAlarm k f).cnt = s.cnt := rfl
@[simp] theorem State.modAlarm_snap (k : Nat) (f : Alarm → Alarm) : (s.modAlarm k f).snap = s.snap := rfl
@[simp] theorem State.modAlarm_cfg (k : Nat) (f : Alarm → Alarm) : (s.modAlarm k f).cfg = s.cfg := rfl
@[simp] theorem State.modAlarm_adm (k : Nat) (f : Alarm → Alarm) : (s.modAlarm k f).adm = s.adm := rfl
@[simp] theorem State.modAlarm_cistern (k : Nat) (f : Alarm → Alarm) : (s.modAlarm k f).cistern = s.cistern := rfl
@[simp] theorem State.modAlarm_log (k : Nat) (f : Alarm → Alarm) : (s.modAlarm k f).log = s.log := rfl
@[simp] theorem State.modAlarm_craft (k : Nat) (f : Alarm → Alarm) : (s.modAlarm k f).craft = s.craft := rfl

@[simp] theorem State.setPulse_pending (f : Pulse → Pulse) : (s.setPulse f).pending = s.pending := rfl
@[simp] theorem State.setPulse_now (f : Pulse → Pulse) : (s.setPulse f).now = s.now := rfl
@[simp] theorem State.setPulse_bnd (f : Pulse → Pulse) : (s.setPulse f).bnd = s.bnd := rfl
@[simp] theorem State.setPulse_fresh (f : Pulse → Pulse) : (s.setPulse f).fresh = s.fresh := rfl
@[simp] theorem State.setPulse_out (f : Pulse → Pulse) : (s.setPulse f).out = s.out := rfl
@[simp] theorem State.setPulse_start (f : Pulse → Pulse) : (s.setPulse f).start = s.start := rfl
@[simp] theorem State.setPulse_power (f : Pulse → Pulse) : (s.setPulse f).power = s.power := rfl
@[simp] theorem State.setPulse_clk (f : Pulse → Pulse) : (s.setPulse f).clk = s.clk := rfl
@[simp] theorem State.setPulse_line (f : Pulse → Pulse) : (s.setPulse f).line = s.line := rfl
@[simp] theorem State.setPulse_pool (f : Pulse → Pulse) : (s.setPulse f).pool = s.pool := rfl
@[simp] theorem State.setPulse_sched (f : Pulse → Pulse) : (s.setPulse f).sched = s.sched := rfl
@[simp] theorem State.setPulse_ports (f : Pulse → Pulse) : (s.setPulse f).ports = s.ports := rfl
@[simp] theorem State.setPulse_e1s (f : Pulse → Pulse) : (s.setPulse f).e1s = s.e1s := rfl
@[simp] theorem State.setPulse_cipher (f : Pulse → Pulse) : (s.setPulse f).cipher = s.cipher := rfl
@[simp] theorem State.setPulse_ring (f : Pulse → Pulse) : (s.setPulse f).ring = s.ring := rfl
@[simp] theorem State.setPulse_host (f : Pulse → Pulse) : (s.setPulse f).host = s.host := rfl
@[simp] theorem State.setPulse_evt (f : Pulse → Pulse) : (s.setPulse f).evt = s.evt := rfl
@[simp] theorem State.setPulse_cnt (f : Pulse → Pulse) : (s.setPulse f).cnt = s.cnt := rfl
@[simp] theorem State.setPulse_snap (f : Pulse → Pulse) : (s.setPulse f).snap = s.snap := rfl
@[simp] theorem State.setPulse_cfg (f : Pulse → Pulse) : (s.setPulse f).cfg = s.cfg := rfl
@[simp] theorem State.setPulse_adm (f : Pulse → Pulse) : (s.setPulse f).adm = s.adm := rfl
@[simp] theorem State.setPulse_cistern (f : Pulse → Pulse) : (s.setPulse f).cistern = s.cistern := rfl
@[simp] theorem State.setPulse_log (f : Pulse → Pulse) : (s.setPulse f).log = s.log := rfl
@[simp] theorem State.setPulse_craft (f : Pulse → Pulse) : (s.setPulse f).craft = s.craft := rfl

@[simp] theorem State.modRanger_pending (n : Nat) (f : Ranger → Ranger) : (s.modRanger n f).pending = s.pending := rfl
@[simp] theorem State.modRanger_now (n : Nat) (f : Ranger → Ranger) : (s.modRanger n f).now = s.now := rfl
@[simp] theorem State.modRanger_bnd (n : Nat) (f : Ranger → Ranger) : (s.modRanger n f).bnd = s.bnd := rfl
@[simp] theorem State.modRanger_fresh (n : Nat) (f : Ranger → Ranger) : (s.modRanger n f).fresh = s.fresh := rfl
@[simp] theorem State.modRanger_out (n : Nat) (f : Ranger → Ranger) : (s.modRanger n f).out = s.out := rfl
@[simp] theorem State.modRanger_start (n : Nat) (f : Ranger → Ranger) : (s.modRanger n f).start = s.start := rfl
@[simp] theorem State.modRanger_power (n : Nat) (f : Ranger → Ranger) : (s.modRanger n f).power = s.power := rfl
@[simp] theorem State.modRanger_clk (n : Nat) (f : Ranger → Ranger) : (s.modRanger n f).clk = s.clk := rfl
@[simp] theorem State.modRanger_line (n : Nat) (f : Ranger → Ranger) : (s.modRanger n f).line = s.line := rfl
@[simp] theorem State.modRanger_pool (n : Nat) (f : Ranger → Ranger) : (s.modRanger n f).pool = s.pool := rfl
@[simp] theorem State.modRanger_sched (n : Nat) (f : Ranger → Ranger) : (s.modRanger n f).sched = s.sched := rfl
@[simp] theorem State.modRanger_ports (n : Nat) (f : Ranger → Ranger) : (s.modRanger n f).ports = s.ports := rfl
@[simp] theorem State.modRanger_e1s (n : Nat) (f : Ranger → Ranger) : (s.modRanger n f).e1s = s.e1s := rfl
@[simp] theorem State.modRanger_cipher (n : Nat) (f : Ranger → Ranger) : (s.modRanger n f).cipher = s.cipher := rfl
@[simp] theorem State.modRanger_ring (n : Nat) (f : Ranger → Ranger) : (s.modRanger n f).ring = s.ring := rfl
@[simp] theorem State.modRanger_host (n : Nat) (f : Ranger → Ranger) : (s.modRanger n f).host = s.host := rfl
@[simp] theorem State.modRanger_evt (n : Nat) (f : Ranger → Ranger) : (s.modRanger n f).evt = s.evt := rfl
@[simp] theorem State.modRanger_cnt (n : Nat) (f : Ranger → Ranger) : (s.modRanger n f).cnt = s.cnt := rfl
@[simp] theorem State.modRanger_snap (n : Nat) (f : Ranger → Ranger) : (s.modRanger n f).snap = s.snap := rfl
@[simp] theorem State.modRanger_cfg (n : Nat) (f : Ranger → Ranger) : (s.modRanger n f).cfg = s.cfg := rfl
@[simp] theorem State.modRanger_adm (n : Nat) (f : Ranger → Ranger) : (s.modRanger n f).adm = s.adm := rfl
@[simp] theorem State.modRanger_cistern (n : Nat) (f : Ranger → Ranger) : (s.modRanger n f).cistern = s.cistern := rfl
@[simp] theorem State.modRanger_log (n : Nat) (f : Ranger → Ranger) : (s.modRanger n f).log = s.log := rfl
@[simp] theorem State.modRanger_craft (n : Nat) (f : Ranger → Ranger) : (s.modRanger n f).craft = s.craft := rfl

@[simp] theorem State.loadTide_pending (f k : Nat) : (s.loadTide f k).pending = s.pending := rfl
@[simp] theorem State.loadTide_now (f k : Nat) : (s.loadTide f k).now = s.now := rfl
@[simp] theorem State.loadTide_fresh (f k : Nat) : (s.loadTide f k).fresh = s.fresh := rfl
@[simp] theorem State.loadTide_out (f k : Nat) : (s.loadTide f k).out = s.out := rfl
@[simp] theorem State.loadTide_start (f k : Nat) : (s.loadTide f k).start = s.start := rfl
@[simp] theorem State.loadTide_power (f k : Nat) : (s.loadTide f k).power = s.power := rfl
@[simp] theorem State.loadTide_clk (f k : Nat) : (s.loadTide f k).clk = s.clk := rfl
@[simp] theorem State.loadTide_line (f k : Nat) : (s.loadTide f k).line = s.line := rfl
@[simp] theorem State.loadTide_pool (f k : Nat) : (s.loadTide f k).pool = s.pool := rfl
@[simp] theorem State.loadTide_sched (f k : Nat) : (s.loadTide f k).sched = s.sched := rfl
@[simp] theorem State.loadTide_ports (f k : Nat) : (s.loadTide f k).ports = s.ports := rfl
@[simp] theorem State.loadTide_e1s (f k : Nat) : (s.loadTide f k).e1s = s.e1s := rfl
@[simp] theorem State.loadTide_cipher (f k : Nat) : (s.loadTide f k).cipher = s.cipher := rfl
@[simp] theorem State.loadTide_ring (f k : Nat) : (s.loadTide f k).ring = s.ring := rfl
@[simp] theorem State.loadTide_host (f k : Nat) : (s.loadTide f k).host = s.host := rfl
@[simp] theorem State.loadTide_evt (f k : Nat) : (s.loadTide f k).evt = s.evt := rfl
@[simp] theorem State.loadTide_cnt (f k : Nat) : (s.loadTide f k).cnt = s.cnt := rfl
@[simp] theorem State.loadTide_snap (f k : Nat) : (s.loadTide f k).snap = s.snap := rfl
@[simp] theorem State.loadTide_cfg (f k : Nat) : (s.loadTide f k).cfg = s.cfg := rfl
@[simp] theorem State.loadTide_adm (f k : Nat) : (s.loadTide f k).adm = s.adm := rfl
@[simp] theorem State.loadTide_cistern (f k : Nat) : (s.loadTide f k).cistern = s.cistern := rfl
@[simp] theorem State.loadTide_log (f k : Nat) : (s.loadTide f k).log = s.log := rfl
@[simp] theorem State.loadTide_craft (f k : Nat) : (s.loadTide f k).craft = s.craft := rfl

@[simp] theorem State.modGate_pending (p : Nat) (f : Gate → Gate) : (s.modGate p f).pending = s.pending := rfl
@[simp] theorem State.modGate_now (p : Nat) (f : Gate → Gate) : (s.modGate p f).now = s.now := rfl
@[simp] theorem State.modGate_bnd (p : Nat) (f : Gate → Gate) : (s.modGate p f).bnd = s.bnd := rfl
@[simp] theorem State.modGate_fresh (p : Nat) (f : Gate → Gate) : (s.modGate p f).fresh = s.fresh := rfl
@[simp] theorem State.modGate_out (p : Nat) (f : Gate → Gate) : (s.modGate p f).out = s.out := rfl
@[simp] theorem State.modGate_start (p : Nat) (f : Gate → Gate) : (s.modGate p f).start = s.start := rfl
@[simp] theorem State.modGate_power (p : Nat) (f : Gate → Gate) : (s.modGate p f).power = s.power := rfl
@[simp] theorem State.modGate_clk (p : Nat) (f : Gate → Gate) : (s.modGate p f).clk = s.clk := rfl
@[simp] theorem State.modGate_tide (p : Nat) (f : Gate → Gate) : (s.modGate p f).tide = s.tide := rfl
@[simp] theorem State.modGate_line (p : Nat) (f : Gate → Gate) : (s.modGate p f).line = s.line := rfl
@[simp] theorem State.modGate_pool (p : Nat) (f : Gate → Gate) : (s.modGate p f).pool = s.pool := rfl
@[simp] theorem State.modGate_ports (p : Nat) (f : Gate → Gate) : (s.modGate p f).ports = s.ports := rfl
@[simp] theorem State.modGate_e1s (p : Nat) (f : Gate → Gate) : (s.modGate p f).e1s = s.e1s := rfl
@[simp] theorem State.modGate_cipher (p : Nat) (f : Gate → Gate) : (s.modGate p f).cipher = s.cipher := rfl
@[simp] theorem State.modGate_ring (p : Nat) (f : Gate → Gate) : (s.modGate p f).ring = s.ring := rfl
@[simp] theorem State.modGate_host (p : Nat) (f : Gate → Gate) : (s.modGate p f).host = s.host := rfl
@[simp] theorem State.modGate_evt (p : Nat) (f : Gate → Gate) : (s.modGate p f).evt = s.evt := rfl
@[simp] theorem State.modGate_cnt (p : Nat) (f : Gate → Gate) : (s.modGate p f).cnt = s.cnt := rfl
@[simp] theorem State.modGate_snap (p : Nat) (f : Gate → Gate) : (s.modGate p f).snap = s.snap := rfl
@[simp] theorem State.modGate_cfg (p : Nat) (f : Gate → Gate) : (s.modGate p f).cfg = s.cfg := rfl
@[simp] theorem State.modGate_adm (p : Nat) (f : Gate → Gate) : (s.modGate p f).adm = s.adm := rfl
@[simp] theorem State.modGate_cistern (p : Nat) (f : Gate → Gate) : (s.modGate p f).cistern = s.cistern := rfl
@[simp] theorem State.modGate_log (p : Nat) (f : Gate → Gate) : (s.modGate p f).log = s.log := rfl
@[simp] theorem State.modGate_craft (p : Nat) (f : Gate → Gate) : (s.modGate p f).craft = s.craft := rfl

@[simp] theorem State.putVault_pending (v : Nat) (k : Option (BitVec 128)) : (s.putVault v k).pending = s.pending := rfl
@[simp] theorem State.putVault_now (v : Nat) (k : Option (BitVec 128)) : (s.putVault v k).now = s.now := rfl
@[simp] theorem State.putVault_bnd (v : Nat) (k : Option (BitVec 128)) : (s.putVault v k).bnd = s.bnd := rfl
@[simp] theorem State.putVault_fresh (v : Nat) (k : Option (BitVec 128)) : (s.putVault v k).fresh = s.fresh := rfl
@[simp] theorem State.putVault_out (v : Nat) (k : Option (BitVec 128)) : (s.putVault v k).out = s.out := rfl
@[simp] theorem State.putVault_start (v : Nat) (k : Option (BitVec 128)) : (s.putVault v k).start = s.start := rfl
@[simp] theorem State.putVault_power (v : Nat) (k : Option (BitVec 128)) : (s.putVault v k).power = s.power := rfl
@[simp] theorem State.putVault_clk (v : Nat) (k : Option (BitVec 128)) : (s.putVault v k).clk = s.clk := rfl
@[simp] theorem State.putVault_tide (v : Nat) (k : Option (BitVec 128)) : (s.putVault v k).tide = s.tide := rfl
@[simp] theorem State.putVault_line (v : Nat) (k : Option (BitVec 128)) : (s.putVault v k).line = s.line := rfl
@[simp] theorem State.putVault_pool (v : Nat) (k : Option (BitVec 128)) : (s.putVault v k).pool = s.pool := rfl
@[simp] theorem State.putVault_sched (v : Nat) (k : Option (BitVec 128)) : (s.putVault v k).sched = s.sched := rfl
@[simp] theorem State.putVault_ports (v : Nat) (k : Option (BitVec 128)) : (s.putVault v k).ports = s.ports := rfl
@[simp] theorem State.putVault_e1s (v : Nat) (k : Option (BitVec 128)) : (s.putVault v k).e1s = s.e1s := rfl
@[simp] theorem State.putVault_ring (v : Nat) (k : Option (BitVec 128)) : (s.putVault v k).ring = s.ring := rfl
@[simp] theorem State.putVault_host (v : Nat) (k : Option (BitVec 128)) : (s.putVault v k).host = s.host := rfl
@[simp] theorem State.putVault_evt (v : Nat) (k : Option (BitVec 128)) : (s.putVault v k).evt = s.evt := rfl
@[simp] theorem State.putVault_cnt (v : Nat) (k : Option (BitVec 128)) : (s.putVault v k).cnt = s.cnt := rfl
@[simp] theorem State.putVault_snap (v : Nat) (k : Option (BitVec 128)) : (s.putVault v k).snap = s.snap := rfl
@[simp] theorem State.putVault_cfg (v : Nat) (k : Option (BitVec 128)) : (s.putVault v k).cfg = s.cfg := rfl
@[simp] theorem State.putVault_adm (v : Nat) (k : Option (BitVec 128)) : (s.putVault v k).adm = s.adm := rfl
@[simp] theorem State.putVault_cistern (v : Nat) (k : Option (BitVec 128)) : (s.putVault v k).cistern = s.cistern := rfl
@[simp] theorem State.putVault_log (v : Nat) (k : Option (BitVec 128)) : (s.putVault v k).log = s.log := rfl
@[simp] theorem State.putVault_craft (v : Nat) (k : Option (BitVec 128)) : (s.putVault v k).craft = s.craft := rfl

@[simp] theorem State.modRlane_pending (d n : Nat) (f : RingLane → RingLane) : (s.modRlane d n f).pending = s.pending := rfl
@[simp] theorem State.modRlane_now (d n : Nat) (f : RingLane → RingLane) : (s.modRlane d n f).now = s.now := rfl
@[simp] theorem State.modRlane_bnd (d n : Nat) (f : RingLane → RingLane) : (s.modRlane d n f).bnd = s.bnd := rfl
@[simp] theorem State.modRlane_fresh (d n : Nat) (f : RingLane → RingLane) : (s.modRlane d n f).fresh = s.fresh := rfl
@[simp] theorem State.modRlane_out (d n : Nat) (f : RingLane → RingLane) : (s.modRlane d n f).out = s.out := rfl
@[simp] theorem State.modRlane_start (d n : Nat) (f : RingLane → RingLane) : (s.modRlane d n f).start = s.start := rfl
@[simp] theorem State.modRlane_power (d n : Nat) (f : RingLane → RingLane) : (s.modRlane d n f).power = s.power := rfl
@[simp] theorem State.modRlane_clk (d n : Nat) (f : RingLane → RingLane) : (s.modRlane d n f).clk = s.clk := rfl
@[simp] theorem State.modRlane_tide (d n : Nat) (f : RingLane → RingLane) : (s.modRlane d n f).tide = s.tide := rfl
@[simp] theorem State.modRlane_line (d n : Nat) (f : RingLane → RingLane) : (s.modRlane d n f).line = s.line := rfl
@[simp] theorem State.modRlane_pool (d n : Nat) (f : RingLane → RingLane) : (s.modRlane d n f).pool = s.pool := rfl
@[simp] theorem State.modRlane_sched (d n : Nat) (f : RingLane → RingLane) : (s.modRlane d n f).sched = s.sched := rfl
@[simp] theorem State.modRlane_ports (d n : Nat) (f : RingLane → RingLane) : (s.modRlane d n f).ports = s.ports := rfl
@[simp] theorem State.modRlane_e1s (d n : Nat) (f : RingLane → RingLane) : (s.modRlane d n f).e1s = s.e1s := rfl
@[simp] theorem State.modRlane_cipher (d n : Nat) (f : RingLane → RingLane) : (s.modRlane d n f).cipher = s.cipher := rfl
@[simp] theorem State.modRlane_host (d n : Nat) (f : RingLane → RingLane) : (s.modRlane d n f).host = s.host := rfl
@[simp] theorem State.modRlane_evt (d n : Nat) (f : RingLane → RingLane) : (s.modRlane d n f).evt = s.evt := rfl
@[simp] theorem State.modRlane_cnt (d n : Nat) (f : RingLane → RingLane) : (s.modRlane d n f).cnt = s.cnt := rfl
@[simp] theorem State.modRlane_snap (d n : Nat) (f : RingLane → RingLane) : (s.modRlane d n f).snap = s.snap := rfl
@[simp] theorem State.modRlane_cfg (d n : Nat) (f : RingLane → RingLane) : (s.modRlane d n f).cfg = s.cfg := rfl
@[simp] theorem State.modRlane_adm (d n : Nat) (f : RingLane → RingLane) : (s.modRlane d n f).adm = s.adm := rfl
@[simp] theorem State.modRlane_cistern (d n : Nat) (f : RingLane → RingLane) : (s.modRlane d n f).cistern = s.cistern := rfl
@[simp] theorem State.modRlane_log (d n : Nat) (f : RingLane → RingLane) : (s.modRlane d n f).log = s.log := rfl
@[simp] theorem State.modRlane_craft (d n : Nat) (f : RingLane → RingLane) : (s.modRlane d n f).craft = s.craft := rfl

@[simp] theorem State.modLink_pending (a b c : Nat) (f : CreditLink → CreditLink) : (s.modLink a b c f).pending = s.pending := rfl
@[simp] theorem State.modLink_now (a b c : Nat) (f : CreditLink → CreditLink) : (s.modLink a b c f).now = s.now := rfl
@[simp] theorem State.modLink_bnd (a b c : Nat) (f : CreditLink → CreditLink) : (s.modLink a b c f).bnd = s.bnd := rfl
@[simp] theorem State.modLink_fresh (a b c : Nat) (f : CreditLink → CreditLink) : (s.modLink a b c f).fresh = s.fresh := rfl
@[simp] theorem State.modLink_out (a b c : Nat) (f : CreditLink → CreditLink) : (s.modLink a b c f).out = s.out := rfl
@[simp] theorem State.modLink_start (a b c : Nat) (f : CreditLink → CreditLink) : (s.modLink a b c f).start = s.start := rfl
@[simp] theorem State.modLink_power (a b c : Nat) (f : CreditLink → CreditLink) : (s.modLink a b c f).power = s.power := rfl
@[simp] theorem State.modLink_clk (a b c : Nat) (f : CreditLink → CreditLink) : (s.modLink a b c f).clk = s.clk := rfl
@[simp] theorem State.modLink_tide (a b c : Nat) (f : CreditLink → CreditLink) : (s.modLink a b c f).tide = s.tide := rfl
@[simp] theorem State.modLink_line (a b c : Nat) (f : CreditLink → CreditLink) : (s.modLink a b c f).line = s.line := rfl
@[simp] theorem State.modLink_pool (a b c : Nat) (f : CreditLink → CreditLink) : (s.modLink a b c f).pool = s.pool := rfl
@[simp] theorem State.modLink_sched (a b c : Nat) (f : CreditLink → CreditLink) : (s.modLink a b c f).sched = s.sched := rfl
@[simp] theorem State.modLink_ports (a b c : Nat) (f : CreditLink → CreditLink) : (s.modLink a b c f).ports = s.ports := rfl
@[simp] theorem State.modLink_e1s (a b c : Nat) (f : CreditLink → CreditLink) : (s.modLink a b c f).e1s = s.e1s := rfl
@[simp] theorem State.modLink_cipher (a b c : Nat) (f : CreditLink → CreditLink) : (s.modLink a b c f).cipher = s.cipher := rfl
@[simp] theorem State.modLink_host (a b c : Nat) (f : CreditLink → CreditLink) : (s.modLink a b c f).host = s.host := rfl
@[simp] theorem State.modLink_evt (a b c : Nat) (f : CreditLink → CreditLink) : (s.modLink a b c f).evt = s.evt := rfl
@[simp] theorem State.modLink_cnt (a b c : Nat) (f : CreditLink → CreditLink) : (s.modLink a b c f).cnt = s.cnt := rfl
@[simp] theorem State.modLink_snap (a b c : Nat) (f : CreditLink → CreditLink) : (s.modLink a b c f).snap = s.snap := rfl
@[simp] theorem State.modLink_cfg (a b c : Nat) (f : CreditLink → CreditLink) : (s.modLink a b c f).cfg = s.cfg := rfl
@[simp] theorem State.modLink_adm (a b c : Nat) (f : CreditLink → CreditLink) : (s.modLink a b c f).adm = s.adm := rfl
@[simp] theorem State.modLink_cistern (a b c : Nat) (f : CreditLink → CreditLink) : (s.modLink a b c f).cistern = s.cistern := rfl
@[simp] theorem State.modLink_log (a b c : Nat) (f : CreditLink → CreditLink) : (s.modLink a b c f).log = s.log := rfl
@[simp] theorem State.modLink_craft (a b c : Nat) (f : CreditLink → CreditLink) : (s.modLink a b c f).craft = s.craft := rfl

@[simp] theorem State.modEnd_pending (a b c : Nat) (f : CreditEnd → CreditEnd) : (s.modEnd a b c f).pending = s.pending := rfl
@[simp] theorem State.modEnd_now (a b c : Nat) (f : CreditEnd → CreditEnd) : (s.modEnd a b c f).now = s.now := rfl
@[simp] theorem State.modEnd_bnd (a b c : Nat) (f : CreditEnd → CreditEnd) : (s.modEnd a b c f).bnd = s.bnd := rfl
@[simp] theorem State.modEnd_fresh (a b c : Nat) (f : CreditEnd → CreditEnd) : (s.modEnd a b c f).fresh = s.fresh := rfl
@[simp] theorem State.modEnd_out (a b c : Nat) (f : CreditEnd → CreditEnd) : (s.modEnd a b c f).out = s.out := rfl
@[simp] theorem State.modEnd_start (a b c : Nat) (f : CreditEnd → CreditEnd) : (s.modEnd a b c f).start = s.start := rfl
@[simp] theorem State.modEnd_power (a b c : Nat) (f : CreditEnd → CreditEnd) : (s.modEnd a b c f).power = s.power := rfl
@[simp] theorem State.modEnd_clk (a b c : Nat) (f : CreditEnd → CreditEnd) : (s.modEnd a b c f).clk = s.clk := rfl
@[simp] theorem State.modEnd_tide (a b c : Nat) (f : CreditEnd → CreditEnd) : (s.modEnd a b c f).tide = s.tide := rfl
@[simp] theorem State.modEnd_line (a b c : Nat) (f : CreditEnd → CreditEnd) : (s.modEnd a b c f).line = s.line := rfl
@[simp] theorem State.modEnd_pool (a b c : Nat) (f : CreditEnd → CreditEnd) : (s.modEnd a b c f).pool = s.pool := rfl
@[simp] theorem State.modEnd_sched (a b c : Nat) (f : CreditEnd → CreditEnd) : (s.modEnd a b c f).sched = s.sched := rfl
@[simp] theorem State.modEnd_ports (a b c : Nat) (f : CreditEnd → CreditEnd) : (s.modEnd a b c f).ports = s.ports := rfl
@[simp] theorem State.modEnd_e1s (a b c : Nat) (f : CreditEnd → CreditEnd) : (s.modEnd a b c f).e1s = s.e1s := rfl
@[simp] theorem State.modEnd_cipher (a b c : Nat) (f : CreditEnd → CreditEnd) : (s.modEnd a b c f).cipher = s.cipher := rfl
@[simp] theorem State.modEnd_host (a b c : Nat) (f : CreditEnd → CreditEnd) : (s.modEnd a b c f).host = s.host := rfl
@[simp] theorem State.modEnd_evt (a b c : Nat) (f : CreditEnd → CreditEnd) : (s.modEnd a b c f).evt = s.evt := rfl
@[simp] theorem State.modEnd_cnt (a b c : Nat) (f : CreditEnd → CreditEnd) : (s.modEnd a b c f).cnt = s.cnt := rfl
@[simp] theorem State.modEnd_snap (a b c : Nat) (f : CreditEnd → CreditEnd) : (s.modEnd a b c f).snap = s.snap := rfl
@[simp] theorem State.modEnd_cfg (a b c : Nat) (f : CreditEnd → CreditEnd) : (s.modEnd a b c f).cfg = s.cfg := rfl
@[simp] theorem State.modEnd_adm (a b c : Nat) (f : CreditEnd → CreditEnd) : (s.modEnd a b c f).adm = s.adm := rfl
@[simp] theorem State.modEnd_cistern (a b c : Nat) (f : CreditEnd → CreditEnd) : (s.modEnd a b c f).cistern = s.cistern := rfl
@[simp] theorem State.modEnd_log (a b c : Nat) (f : CreditEnd → CreditEnd) : (s.modEnd a b c f).log = s.log := rfl
@[simp] theorem State.modEnd_craft (a b c : Nat) (f : CreditEnd → CreditEnd) : (s.modEnd a b c f).craft = s.craft := rfl

@[simp] theorem State.setJoin_pending (f : JoinState → JoinState) : (s.setJoin f).pending = s.pending := rfl
@[simp] theorem State.setJoin_now (f : JoinState → JoinState) : (s.setJoin f).now = s.now := rfl
@[simp] theorem State.setJoin_bnd (f : JoinState → JoinState) : (s.setJoin f).bnd = s.bnd := rfl
@[simp] theorem State.setJoin_fresh (f : JoinState → JoinState) : (s.setJoin f).fresh = s.fresh := rfl
@[simp] theorem State.setJoin_out (f : JoinState → JoinState) : (s.setJoin f).out = s.out := rfl
@[simp] theorem State.setJoin_start (f : JoinState → JoinState) : (s.setJoin f).start = s.start := rfl
@[simp] theorem State.setJoin_power (f : JoinState → JoinState) : (s.setJoin f).power = s.power := rfl
@[simp] theorem State.setJoin_clk (f : JoinState → JoinState) : (s.setJoin f).clk = s.clk := rfl
@[simp] theorem State.setJoin_tide (f : JoinState → JoinState) : (s.setJoin f).tide = s.tide := rfl
@[simp] theorem State.setJoin_line (f : JoinState → JoinState) : (s.setJoin f).line = s.line := rfl
@[simp] theorem State.setJoin_pool (f : JoinState → JoinState) : (s.setJoin f).pool = s.pool := rfl
@[simp] theorem State.setJoin_sched (f : JoinState → JoinState) : (s.setJoin f).sched = s.sched := rfl
@[simp] theorem State.setJoin_ports (f : JoinState → JoinState) : (s.setJoin f).ports = s.ports := rfl
@[simp] theorem State.setJoin_e1s (f : JoinState → JoinState) : (s.setJoin f).e1s = s.e1s := rfl
@[simp] theorem State.setJoin_cipher (f : JoinState → JoinState) : (s.setJoin f).cipher = s.cipher := rfl
@[simp] theorem State.setJoin_host (f : JoinState → JoinState) : (s.setJoin f).host = s.host := rfl
@[simp] theorem State.setJoin_evt (f : JoinState → JoinState) : (s.setJoin f).evt = s.evt := rfl
@[simp] theorem State.setJoin_cnt (f : JoinState → JoinState) : (s.setJoin f).cnt = s.cnt := rfl
@[simp] theorem State.setJoin_snap (f : JoinState → JoinState) : (s.setJoin f).snap = s.snap := rfl
@[simp] theorem State.setJoin_cfg (f : JoinState → JoinState) : (s.setJoin f).cfg = s.cfg := rfl
@[simp] theorem State.setJoin_adm (f : JoinState → JoinState) : (s.setJoin f).adm = s.adm := rfl
@[simp] theorem State.setJoin_cistern (f : JoinState → JoinState) : (s.setJoin f).cistern = s.cistern := rfl
@[simp] theorem State.setJoin_log (f : JoinState → JoinState) : (s.setJoin f).log = s.log := rfl
@[simp] theorem State.setJoin_craft (f : JoinState → JoinState) : (s.setJoin f).craft = s.craft := rfl

@[simp] theorem State.setWake_pending (f : WakeRecord → WakeRecord) : (s.setWake f).pending = s.pending := rfl
@[simp] theorem State.setWake_now (f : WakeRecord → WakeRecord) : (s.setWake f).now = s.now := rfl
@[simp] theorem State.setWake_bnd (f : WakeRecord → WakeRecord) : (s.setWake f).bnd = s.bnd := rfl
@[simp] theorem State.setWake_fresh (f : WakeRecord → WakeRecord) : (s.setWake f).fresh = s.fresh := rfl
@[simp] theorem State.setWake_out (f : WakeRecord → WakeRecord) : (s.setWake f).out = s.out := rfl
@[simp] theorem State.setWake_start (f : WakeRecord → WakeRecord) : (s.setWake f).start = s.start := rfl
@[simp] theorem State.setWake_clk (f : WakeRecord → WakeRecord) : (s.setWake f).clk = s.clk := rfl
@[simp] theorem State.setWake_tide (f : WakeRecord → WakeRecord) : (s.setWake f).tide = s.tide := rfl
@[simp] theorem State.setWake_line (f : WakeRecord → WakeRecord) : (s.setWake f).line = s.line := rfl
@[simp] theorem State.setWake_pool (f : WakeRecord → WakeRecord) : (s.setWake f).pool = s.pool := rfl
@[simp] theorem State.setWake_sched (f : WakeRecord → WakeRecord) : (s.setWake f).sched = s.sched := rfl
@[simp] theorem State.setWake_ports (f : WakeRecord → WakeRecord) : (s.setWake f).ports = s.ports := rfl
@[simp] theorem State.setWake_e1s (f : WakeRecord → WakeRecord) : (s.setWake f).e1s = s.e1s := rfl
@[simp] theorem State.setWake_cipher (f : WakeRecord → WakeRecord) : (s.setWake f).cipher = s.cipher := rfl
@[simp] theorem State.setWake_ring (f : WakeRecord → WakeRecord) : (s.setWake f).ring = s.ring := rfl
@[simp] theorem State.setWake_host (f : WakeRecord → WakeRecord) : (s.setWake f).host = s.host := rfl
@[simp] theorem State.setWake_evt (f : WakeRecord → WakeRecord) : (s.setWake f).evt = s.evt := rfl
@[simp] theorem State.setWake_cnt (f : WakeRecord → WakeRecord) : (s.setWake f).cnt = s.cnt := rfl
@[simp] theorem State.setWake_snap (f : WakeRecord → WakeRecord) : (s.setWake f).snap = s.snap := rfl
@[simp] theorem State.setWake_cfg (f : WakeRecord → WakeRecord) : (s.setWake f).cfg = s.cfg := rfl
@[simp] theorem State.setWake_adm (f : WakeRecord → WakeRecord) : (s.setWake f).adm = s.adm := rfl
@[simp] theorem State.setWake_cistern (f : WakeRecord → WakeRecord) : (s.setWake f).cistern = s.cistern := rfl
@[simp] theorem State.setWake_log (f : WakeRecord → WakeRecord) : (s.setWake f).log = s.log := rfl
@[simp] theorem State.setWake_craft (f : WakeRecord → WakeRecord) : (s.setWake f).craft = s.craft := rfl

@[simp] theorem State.setPower_pending (f : Power → Power) : (s.setPower f).pending = s.pending := rfl
@[simp] theorem State.setPower_now (f : Power → Power) : (s.setPower f).now = s.now := rfl
@[simp] theorem State.setPower_bnd (f : Power → Power) : (s.setPower f).bnd = s.bnd := rfl
@[simp] theorem State.setPower_fresh (f : Power → Power) : (s.setPower f).fresh = s.fresh := rfl
@[simp] theorem State.setPower_out (f : Power → Power) : (s.setPower f).out = s.out := rfl
@[simp] theorem State.setPower_start (f : Power → Power) : (s.setPower f).start = s.start := rfl
@[simp] theorem State.setPower_clk (f : Power → Power) : (s.setPower f).clk = s.clk := rfl
@[simp] theorem State.setPower_tide (f : Power → Power) : (s.setPower f).tide = s.tide := rfl
@[simp] theorem State.setPower_line (f : Power → Power) : (s.setPower f).line = s.line := rfl
@[simp] theorem State.setPower_pool (f : Power → Power) : (s.setPower f).pool = s.pool := rfl
@[simp] theorem State.setPower_sched (f : Power → Power) : (s.setPower f).sched = s.sched := rfl
@[simp] theorem State.setPower_ports (f : Power → Power) : (s.setPower f).ports = s.ports := rfl
@[simp] theorem State.setPower_e1s (f : Power → Power) : (s.setPower f).e1s = s.e1s := rfl
@[simp] theorem State.setPower_cipher (f : Power → Power) : (s.setPower f).cipher = s.cipher := rfl
@[simp] theorem State.setPower_ring (f : Power → Power) : (s.setPower f).ring = s.ring := rfl
@[simp] theorem State.setPower_host (f : Power → Power) : (s.setPower f).host = s.host := rfl
@[simp] theorem State.setPower_evt (f : Power → Power) : (s.setPower f).evt = s.evt := rfl
@[simp] theorem State.setPower_cnt (f : Power → Power) : (s.setPower f).cnt = s.cnt := rfl
@[simp] theorem State.setPower_snap (f : Power → Power) : (s.setPower f).snap = s.snap := rfl
@[simp] theorem State.setPower_cfg (f : Power → Power) : (s.setPower f).cfg = s.cfg := rfl
@[simp] theorem State.setPower_adm (f : Power → Power) : (s.setPower f).adm = s.adm := rfl
@[simp] theorem State.setPower_cistern (f : Power → Power) : (s.setPower f).cistern = s.cistern := rfl
@[simp] theorem State.setPower_log (f : Power → Power) : (s.setPower f).log = s.log := rfl
@[simp] theorem State.setPower_craft (f : Power → Power) : (s.setPower f).craft = s.craft := rfl

@[simp] theorem State.setCs_pending (f : Cistern → Cistern) : (s.setCs f).pending = s.pending := rfl
@[simp] theorem State.setCs_now (f : Cistern → Cistern) : (s.setCs f).now = s.now := rfl
@[simp] theorem State.setCs_bnd (f : Cistern → Cistern) : (s.setCs f).bnd = s.bnd := rfl
@[simp] theorem State.setCs_fresh (f : Cistern → Cistern) : (s.setCs f).fresh = s.fresh := rfl
@[simp] theorem State.setCs_out (f : Cistern → Cistern) : (s.setCs f).out = s.out := rfl
@[simp] theorem State.setCs_start (f : Cistern → Cistern) : (s.setCs f).start = s.start := rfl
@[simp] theorem State.setCs_power (f : Cistern → Cistern) : (s.setCs f).power = s.power := rfl
@[simp] theorem State.setCs_clk (f : Cistern → Cistern) : (s.setCs f).clk = s.clk := rfl
@[simp] theorem State.setCs_tide (f : Cistern → Cistern) : (s.setCs f).tide = s.tide := rfl
@[simp] theorem State.setCs_line (f : Cistern → Cistern) : (s.setCs f).line = s.line := rfl
@[simp] theorem State.setCs_pool (f : Cistern → Cistern) : (s.setCs f).pool = s.pool := rfl
@[simp] theorem State.setCs_sched (f : Cistern → Cistern) : (s.setCs f).sched = s.sched := rfl
@[simp] theorem State.setCs_ports (f : Cistern → Cistern) : (s.setCs f).ports = s.ports := rfl
@[simp] theorem State.setCs_e1s (f : Cistern → Cistern) : (s.setCs f).e1s = s.e1s := rfl
@[simp] theorem State.setCs_cipher (f : Cistern → Cistern) : (s.setCs f).cipher = s.cipher := rfl
@[simp] theorem State.setCs_ring (f : Cistern → Cistern) : (s.setCs f).ring = s.ring := rfl
@[simp] theorem State.setCs_host (f : Cistern → Cistern) : (s.setCs f).host = s.host := rfl
@[simp] theorem State.setCs_evt (f : Cistern → Cistern) : (s.setCs f).evt = s.evt := rfl
@[simp] theorem State.setCs_cnt (f : Cistern → Cistern) : (s.setCs f).cnt = s.cnt := rfl
@[simp] theorem State.setCs_snap (f : Cistern → Cistern) : (s.setCs f).snap = s.snap := rfl
@[simp] theorem State.setCs_cfg (f : Cistern → Cistern) : (s.setCs f).cfg = s.cfg := rfl
@[simp] theorem State.setCs_adm (f : Cistern → Cistern) : (s.setCs f).adm = s.adm := rfl
@[simp] theorem State.setCs_log (f : Cistern → Cistern) : (s.setCs f).log = s.log := rfl
@[simp] theorem State.setCs_craft (f : Cistern → Cistern) : (s.setCs f).craft = s.craft := rfl

@[simp] theorem State.setStart_pending (f : Start → Start) : (s.setStart f).pending = s.pending := rfl
@[simp] theorem State.setStart_now (f : Start → Start) : (s.setStart f).now = s.now := rfl
@[simp] theorem State.setStart_bnd (f : Start → Start) : (s.setStart f).bnd = s.bnd := rfl
@[simp] theorem State.setStart_fresh (f : Start → Start) : (s.setStart f).fresh = s.fresh := rfl
@[simp] theorem State.setStart_out (f : Start → Start) : (s.setStart f).out = s.out := rfl
@[simp] theorem State.setStart_power (f : Start → Start) : (s.setStart f).power = s.power := rfl
@[simp] theorem State.setStart_clk (f : Start → Start) : (s.setStart f).clk = s.clk := rfl
@[simp] theorem State.setStart_tide (f : Start → Start) : (s.setStart f).tide = s.tide := rfl
@[simp] theorem State.setStart_line (f : Start → Start) : (s.setStart f).line = s.line := rfl
@[simp] theorem State.setStart_pool (f : Start → Start) : (s.setStart f).pool = s.pool := rfl
@[simp] theorem State.setStart_sched (f : Start → Start) : (s.setStart f).sched = s.sched := rfl
@[simp] theorem State.setStart_ports (f : Start → Start) : (s.setStart f).ports = s.ports := rfl
@[simp] theorem State.setStart_e1s (f : Start → Start) : (s.setStart f).e1s = s.e1s := rfl
@[simp] theorem State.setStart_cipher (f : Start → Start) : (s.setStart f).cipher = s.cipher := rfl
@[simp] theorem State.setStart_ring (f : Start → Start) : (s.setStart f).ring = s.ring := rfl
@[simp] theorem State.setStart_host (f : Start → Start) : (s.setStart f).host = s.host := rfl
@[simp] theorem State.setStart_evt (f : Start → Start) : (s.setStart f).evt = s.evt := rfl
@[simp] theorem State.setStart_cnt (f : Start → Start) : (s.setStart f).cnt = s.cnt := rfl
@[simp] theorem State.setStart_snap (f : Start → Start) : (s.setStart f).snap = s.snap := rfl
@[simp] theorem State.setStart_cfg (f : Start → Start) : (s.setStart f).cfg = s.cfg := rfl
@[simp] theorem State.setStart_adm (f : Start → Start) : (s.setStart f).adm = s.adm := rfl
@[simp] theorem State.setStart_cistern (f : Start → Start) : (s.setStart f).cistern = s.cistern := rfl
@[simp] theorem State.setStart_log (f : Start → Start) : (s.setStart f).log = s.log := rfl
@[simp] theorem State.setStart_craft (f : Start → Start) : (s.setStart f).craft = s.craft := rfl

@[simp] theorem State.setCraft_pending (f : Craft → Craft) : (s.setCraft f).pending = s.pending := rfl
@[simp] theorem State.setCraft_now (f : Craft → Craft) : (s.setCraft f).now = s.now := rfl
@[simp] theorem State.setCraft_bnd (f : Craft → Craft) : (s.setCraft f).bnd = s.bnd := rfl
@[simp] theorem State.setCraft_fresh (f : Craft → Craft) : (s.setCraft f).fresh = s.fresh := rfl
@[simp] theorem State.setCraft_out (f : Craft → Craft) : (s.setCraft f).out = s.out := rfl
@[simp] theorem State.setCraft_start (f : Craft → Craft) : (s.setCraft f).start = s.start := rfl
@[simp] theorem State.setCraft_power (f : Craft → Craft) : (s.setCraft f).power = s.power := rfl
@[simp] theorem State.setCraft_clk (f : Craft → Craft) : (s.setCraft f).clk = s.clk := rfl
@[simp] theorem State.setCraft_tide (f : Craft → Craft) : (s.setCraft f).tide = s.tide := rfl
@[simp] theorem State.setCraft_line (f : Craft → Craft) : (s.setCraft f).line = s.line := rfl
@[simp] theorem State.setCraft_pool (f : Craft → Craft) : (s.setCraft f).pool = s.pool := rfl
@[simp] theorem State.setCraft_sched (f : Craft → Craft) : (s.setCraft f).sched = s.sched := rfl
@[simp] theorem State.setCraft_ports (f : Craft → Craft) : (s.setCraft f).ports = s.ports := rfl
@[simp] theorem State.setCraft_e1s (f : Craft → Craft) : (s.setCraft f).e1s = s.e1s := rfl
@[simp] theorem State.setCraft_cipher (f : Craft → Craft) : (s.setCraft f).cipher = s.cipher := rfl
@[simp] theorem State.setCraft_ring (f : Craft → Craft) : (s.setCraft f).ring = s.ring := rfl
@[simp] theorem State.setCraft_host (f : Craft → Craft) : (s.setCraft f).host = s.host := rfl
@[simp] theorem State.setCraft_evt (f : Craft → Craft) : (s.setCraft f).evt = s.evt := rfl
@[simp] theorem State.setCraft_cnt (f : Craft → Craft) : (s.setCraft f).cnt = s.cnt := rfl
@[simp] theorem State.setCraft_snap (f : Craft → Craft) : (s.setCraft f).snap = s.snap := rfl
@[simp] theorem State.setCraft_cfg (f : Craft → Craft) : (s.setCraft f).cfg = s.cfg := rfl
@[simp] theorem State.setCraft_adm (f : Craft → Craft) : (s.setCraft f).adm = s.adm := rfl
@[simp] theorem State.setCraft_cistern (f : Craft → Craft) : (s.setCraft f).cistern = s.cistern := rfl
@[simp] theorem State.setCraft_log (f : Craft → Craft) : (s.setCraft f).log = s.log := rfl

/-! What the updates of one component put there. -/

@[simp] theorem State.setClk_clk (f : Clocks → Clocks) : (s.setClk f).clk = f s.clk := rfl
@[simp] theorem State.setPower_power (f : Power → Power) : (s.setPower f).power = f s.power := rfl
@[simp] theorem State.setCs_cistern (f : Cistern → Cistern) : (s.setCs f).cistern = f s.cistern := rfl
@[simp] theorem State.setStart_start (f : Start → Start) : (s.setStart f).start = f s.start := rfl
@[simp] theorem State.setCraft_craft (f : Craft → Craft) : (s.setCraft f).craft = f s.craft := rfl
@[simp] theorem State.emit_out (e : Emission) : (s.emit e).out = e :: s.out := rfl
@[simp] theorem State.setJoin_join (f : JoinState → JoinState) : (s.setJoin f).ring.join = f s.ring.join := rfl
@[simp] theorem State.setPulse_pulse (f : Pulse → Pulse) : (s.setPulse f).tide.pulse = f s.tide.pulse := rfl

end Sys2Proof.Machine
end

