-- ==== Sys2Proof/Laws/Ops.lean ====
section
/-!
SUPPORT. What the operations that report can do, said once: they change the event block, the host attachment, the
ring, the logbook, the counters and what has been sent, and nothing else.
-/

namespace Sys2Proof.Machine

/-- `t` differs from `s` at most in what reporting changes. -/
def Reports (s t : State) : Prop :=
  ∃ e h r l c o, t = { s with evt := e, host := h, ring := r, log := l, cnt := c, out := o }

theorem Reports.refl (s : State) : Reports s s := ⟨_, _, _, _, _, _, rfl⟩

theorem Reports.trans {s t u : State} (h : Reports s t) (k : Reports t u) : Reports s u := by
  obtain ⟨_, _, _, _, _, _, rfl⟩ := h
  obtain ⟨_, _, _, _, _, _, rfl⟩ := k
  exact ⟨_, _, _, _, _, _, rfl⟩

/-- A fold whose every step reports reports. -/
theorem Reports.foldl {α : Type} (f : State → α → State) (h : ∀ t x, Reports t (f t x)) (l : List α) (s : State) :
    Reports s (l.foldl f s) := by
  induction l generalizing s with
  | nil => exact .refl s
  | cons x l ih => exact (h s x).trans (ih (f s x))

variable (s : State)

theorem State.raise_reports (src obj detail : Nat) : Reports s (s.raise src obj detail) :=
  ⟨_, _, _, _, _, _, rfl⟩

theorem State.setEvt_reports (e : Events) (b : Bool) : Reports s (s.setEvt e b) := ⟨_, _, _, _, _, _, rfl⟩

theorem State.dcc_reports (n : Nat) (b : DccBody) : Reports s (s.dcc n b) := ⟨_, _, _, _, _, _, rfl⟩

theorem State.logRec_reports (k : Nat) (d : List Byte) : Reports s (s.logRec k d) := ⟨_, _, _, _, _, _, rfl⟩

theorem State.modBox_reports (m : Nat) (f : Mbx → Mbx) : Reports s (s.modBox m f) := ⟨_, _, _, _, _, _, rfl⟩

theorem State.raiseWin_reports (n src sub obj detail : Nat) : Reports s (s.raiseWin n src sub obj detail) := by
  simp only [State.raiseWin]
  split
  · exact .refl s
  · exact ⟨_, _, _, _, _, _, rfl⟩

theorem State.postHalf_reports (w : W32) (o : Nat) : Reports s (s.postHalf w o) := by
  simp only [State.postHalf]
  split
  · split
    · exact ⟨_, _, _, _, _, _, rfl⟩
    · exact ⟨_, _, _, _, _, _, rfl⟩
  · exact ⟨_, _, _, _, _, _, rfl⟩

theorem State.count_reports (i n : Nat) : Reports s (s.count i n) := by
  simp only [State.count]
  have h : Reports s { s with cnt := cntAdd s.cnt i n } := ⟨_, _, _, _, _, _, rfl⟩
  split
  · exact h.trans (State.postHalf_reports _ _ _)
  · exact h

theorem State.inc_reports (i : Nat) : Reports s (s.inc i) := State.count_reports s i 1

theorem State.answerEvents_reports (m : Nat) (st : Status) : Reports s (s.answerEvents m st) := by
  simp only [State.answerEvents]
  have h : ∀ u : State, Reports u (if m = 33 then u else u.raise 576 0 0) := by
    intro u
    split
    · exact .refl u
    · exact State.raise_reports _ _ _ _
  refine Reports.trans ?_ (h _)
  split
  · exact (State.raise_reports _ _ _ _).trans (State.inc_reports _ _)
  · exact (State.raiseWin_reports _ _ _ _ _ _).trans (State.inc_reports _ _)
  · exact .refl s

theorem State.relayBack_reports (o : Nat) (q : BitVec 16) (m : MbxNo) (st : Status) (p : List Byte) :
    Reports s (s.relayBack o q m st p) := ⟨_, _, _, _, _, _, rfl⟩

theorem State.answer_reports (o : Nat) (q : Req) (st : Status) (p : List Byte) : Reports s (s.answer o q st p) := by
  simp only [State.answer]
  split
  · exact (State.modBox_reports _ _ _).trans (State.relayBack_reports _ _ _ _ _ _)
  · refine Reports.trans ?_ (State.answerEvents_reports _ _ _)
    exact (Reports.trans ⟨_, _, _, _, _, _, rfl⟩ (State.inc_reports _ _)).trans (State.inc_reports _ _)

theorem State.reply_reports (o : Nat) (q : Req) (st : Status) : Reports s (s.reply o q st) :=
  State.answer_reports s o q st []

theorem State.complete_reports (m k : Nat) (st : Status) (p : List Byte) : Reports s (s.complete m k st p) := by
  simp only [State.complete]
  split
  · exact .refl s
  · split
    · exact (State.modBox_reports _ _ _).trans (State.relayBack_reports _ _ _ _ _ _)
    · have h : ∀ u : State, Reports u (if m = 33 then u else u.raise 576 0 0) := by
        intro u
        split
        · exact .refl u
        · exact State.raise_reports _ _ _ _
      exact Reports.trans ⟨_, _, _, _, _, _, rfl⟩ (h _)

theorem State.await_reports (o : Nat) (q : Req) (w : Wait) : Reports s (s.await o q w) :=
  State.modBox_reports _ _ _

theorem State.answerOn_reports (w : Wait) (st : Status) (p : List Byte) : Reports s (s.answerOn w st p) := by
  refine Reports.foldl _ (fun t m => ?_) _ s
  split
  · split
    · exact State.answer_reports _ _ _ _ _
    · exact .refl t
  · exact .refl t

/-! Each field that reporting leaves alone. -/

theorem Reports.pending {s t : State} (h : Reports s t) : t.pending = s.pending := by
  obtain ⟨e, h, r, l, c, o, rfl⟩ := h; rfl
theorem Reports.now {s t : State} (h : Reports s t) : t.now = s.now := by
  obtain ⟨e, h, r, l, c, o, rfl⟩ := h; rfl
theorem Reports.bnd {s t : State} (h : Reports s t) : t.bnd = s.bnd := by
  obtain ⟨e, h, r, l, c, o, rfl⟩ := h; rfl
theorem Reports.fresh {s t : State} (h : Reports s t) : t.fresh = s.fresh := by
  obtain ⟨e, h, r, l, c, o, rfl⟩ := h; rfl
theorem Reports.start {s t : State} (h : Reports s t) : t.start = s.start := by
  obtain ⟨e, h, r, l, c, o, rfl⟩ := h; rfl
theorem Reports.power {s t : State} (h : Reports s t) : t.power = s.power := by
  obtain ⟨e, h, r, l, c, o, rfl⟩ := h; rfl
theorem Reports.clk {s t : State} (h : Reports s t) : t.clk = s.clk := by
  obtain ⟨e, h, r, l, c, o, rfl⟩ := h; rfl
theorem Reports.tide {s t : State} (h : Reports s t) : t.tide = s.tide := by
  obtain ⟨e, h, r, l, c, o, rfl⟩ := h; rfl
theorem Reports.line {s t : State} (h : Reports s t) : t.line = s.line := by
  obtain ⟨e, h, r, l, c, o, rfl⟩ := h; rfl
theorem Reports.pool {s t : State} (h : Reports s t) : t.pool = s.pool := by
  obtain ⟨e, h, r, l, c, o, rfl⟩ := h; rfl
theorem Reports.sched {s t : State} (h : Reports s t) : t.sched = s.sched := by
  obtain ⟨e, h, r, l, c, o, rfl⟩ := h; rfl
theorem Reports.ports {s t : State} (h : Reports s t) : t.ports = s.ports := by
  obtain ⟨e, h, r, l, c, o, rfl⟩ := h; rfl
theorem Reports.e1s {s t : State} (h : Reports s t) : t.e1s = s.e1s := by
  obtain ⟨e, h, r, l, c, o, rfl⟩ := h; rfl
theorem Reports.cipher {s t : State} (h : Reports s t) : t.cipher = s.cipher := by
  obtain ⟨e, h, r, l, c, o, rfl⟩ := h; rfl
theorem Reports.snap {s t : State} (h : Reports s t) : t.snap = s.snap := by
  obtain ⟨e, h, r, l, c, o, rfl⟩ := h; rfl
theorem Reports.cfg {s t : State} (h : Reports s t) : t.cfg = s.cfg := by
  obtain ⟨e, h, r, l, c, o, rfl⟩ := h; rfl
theorem Reports.adm {s t : State} (h : Reports s t) : t.adm = s.adm := by
  obtain ⟨e, h, r, l, c, o, rfl⟩ := h; rfl
theorem Reports.cistern {s t : State} (h : Reports s t) : t.cistern = s.cistern := by
  obtain ⟨e, h, r, l, c, o, rfl⟩ := h; rfl
theorem Reports.craft {s t : State} (h : Reports s t) : t.craft = s.craft := by
  obtain ⟨e, h, r, l, c, o, rfl⟩ := h; rfl

@[simp] theorem State.raiseWin_pending (n src sub obj detail : Nat) : (s.raiseWin n src sub obj detail).pending = s.pending :=
  (State.raiseWin_reports s n src sub obj detail).pending
@[simp] theorem State.raiseWin_now (n src sub obj detail : Nat) : (s.raiseWin n src sub obj detail).now = s.now :=
  (State.raiseWin_reports s n src sub obj detail).now
@[simp] theorem State.raiseWin_bnd (n src sub obj detail : Nat) : (s.raiseWin n src sub obj detail).bnd = s.bnd :=
  (State.raiseWin_reports s n src sub obj detail).bnd
@[simp] theorem State.raiseWin_fresh (n src sub obj detail : Nat) : (s.raiseWin n src sub obj detail).fresh = s.fresh :=
  (State.raiseWin_reports s n src sub obj detail).fresh
@[simp] theorem State.raiseWin_start (n src sub obj detail : Nat) : (s.raiseWin n src sub obj detail).start = s.start :=
  (State.raiseWin_reports s n src sub obj detail).start
@[simp] theorem State.raiseWin_power (n src sub obj detail : Nat) : (s.raiseWin n src sub obj detail).power = s.power :=
  (State.raiseWin_reports s n src sub obj detail).power
@[simp] theorem State.raiseWin_clk (n src sub obj detail : Nat) : (s.raiseWin n src sub obj detail).clk = s.clk :=
  (State.raiseWin_reports s n src sub obj detail).clk
@[simp] theorem State.raiseWin_tide (n src sub obj detail : Nat) : (s.raiseWin n src sub obj detail).tide = s.tide :=
  (State.raiseWin_reports s n src sub obj detail).tide
@[simp] theorem State.raiseWin_line (n src sub obj detail : Nat) : (s.raiseWin n src sub obj detail).line = s.line :=
  (State.raiseWin_reports s n src sub obj detail).line
@[simp] theorem State.raiseWin_pool (n src sub obj detail : Nat) : (s.raiseWin n src sub obj detail).pool = s.pool :=
  (State.raiseWin_reports s n src sub obj detail).pool
@[simp] theorem State.raiseWin_sched (n src sub obj detail : Nat) : (s.raiseWin n src sub obj detail).sched = s.sched :=
  (State.raiseWin_reports s n src sub obj detail).sched
@[simp] theorem State.raiseWin_ports (n src sub obj detail : Nat) : (s.raiseWin n src sub obj detail).ports = s.ports :=
  (State.raiseWin_reports s n src sub obj detail).ports
@[simp] theorem State.raiseWin_e1s (n src sub obj detail : Nat) : (s.raiseWin n src sub obj detail).e1s = s.e1s :=
  (State.raiseWin_reports s n src sub obj detail).e1s
@[simp] theorem State.raiseWin_cipher (n src sub obj detail : Nat) : (s.raiseWin n src sub obj detail).cipher = s.cipher :=
  (State.raiseWin_reports s n src sub obj detail).cipher
@[simp] theorem State.raiseWin_snap (n src sub obj detail : Nat) : (s.raiseWin n src sub obj detail).snap = s.snap :=
  (State.raiseWin_reports s n src sub obj detail).snap
@[simp] theorem State.raiseWin_cfg (n src sub obj detail : Nat) : (s.raiseWin n src sub obj detail).cfg = s.cfg :=
  (State.raiseWin_reports s n src sub obj detail).cfg
@[simp] theorem State.raiseWin_adm (n src sub obj detail : Nat) : (s.raiseWin n src sub obj detail).adm = s.adm :=
  (State.raiseWin_reports s n src sub obj detail).adm
@[simp] theorem State.raiseWin_cistern (n src sub obj detail : Nat) : (s.raiseWin n src sub obj detail).cistern = s.cistern :=
  (State.raiseWin_reports s n src sub obj detail).cistern
@[simp] theorem State.raiseWin_craft (n src sub obj detail : Nat) : (s.raiseWin n src sub obj detail).craft = s.craft :=
  (State.raiseWin_reports s n src sub obj detail).craft

@[simp] theorem State.count_pending (i n : Nat) : (s.count i n).pending = s.pending :=
  (State.count_reports s i n).pending
@[simp] theorem State.count_now (i n : Nat) : (s.count i n).now = s.now :=
  (State.count_reports s i n).now
@[simp] theorem State.count_bnd (i n : Nat) : (s.count i n).bnd = s.bnd :=
  (State.count_reports s i n).bnd
@[simp] theorem State.count_fresh (i n : Nat) : (s.count i n).fresh = s.fresh :=
  (State.count_reports s i n).fresh
@[simp] theorem State.count_start (i n : Nat) : (s.count i n).start = s.start :=
  (State.count_reports s i n).start
@[simp] theorem State.count_power (i n : Nat) : (s.count i n).power = s.power :=
  (State.count_reports s i n).power
@[simp] theorem State.count_clk (i n : Nat) : (s.count i n).clk = s.clk :=
  (State.count_reports s i n).clk
@[simp] theorem State.count_tide (i n : Nat) : (s.count i n).tide = s.tide :=
  (State.count_reports s i n).tide
@[simp] theorem State.count_line (i n : Nat) : (s.count i n).line = s.line :=
  (State.count_reports s i n).line
@[simp] theorem State.count_pool (i n : Nat) : (s.count i n).pool = s.pool :=
  (State.count_reports s i n).pool
@[simp] theorem State.count_sched (i n : Nat) : (s.count i n).sched = s.sched :=
  (State.count_reports s i n).sched
@[simp] theorem State.count_ports (i n : Nat) : (s.count i n).ports = s.ports :=
  (State.count_reports s i n).ports
@[simp] theorem State.count_e1s (i n : Nat) : (s.count i n).e1s = s.e1s :=
  (State.count_reports s i n).e1s
@[simp] theorem State.count_cipher (i n : Nat) : (s.count i n).cipher = s.cipher :=
  (State.count_reports s i n).cipher
@[simp] theorem State.count_snap (i n : Nat) : (s.count i n).snap = s.snap :=
  (State.count_reports s i n).snap
@[simp] theorem State.count_cfg (i n : Nat) : (s.count i n).cfg = s.cfg :=
  (State.count_reports s i n).cfg
@[simp] theorem State.count_adm (i n : Nat) : (s.count i n).adm = s.adm :=
  (State.count_reports s i n).adm
@[simp] theorem State.count_cistern (i n : Nat) : (s.count i n).cistern = s.cistern :=
  (State.count_reports s i n).cistern
@[simp] theorem State.count_craft (i n : Nat) : (s.count i n).craft = s.craft :=
  (State.count_reports s i n).craft

@[simp] theorem State.inc_pending (i : Nat) : (s.inc i).pending = s.pending :=
  (State.inc_reports s i).pending
@[simp] theorem State.inc_now (i : Nat) : (s.inc i).now = s.now :=
  (State.inc_reports s i).now
@[simp] theorem State.inc_bnd (i : Nat) : (s.inc i).bnd = s.bnd :=
  (State.inc_reports s i).bnd
@[simp] theorem State.inc_fresh (i : Nat) : (s.inc i).fresh = s.fresh :=
  (State.inc_reports s i).fresh
@[simp] theorem State.inc_start (i : Nat) : (s.inc i).start = s.start :=
  (State.inc_reports s i).start
@[simp] theorem State.inc_power (i : Nat) : (s.inc i).power = s.power :=
  (State.inc_reports s i).power
@[simp] theorem State.inc_clk (i : Nat) : (s.inc i).clk = s.clk :=
  (State.inc_reports s i).clk
@[simp] theorem State.inc_tide (i : Nat) : (s.inc i).tide = s.tide :=
  (State.inc_reports s i).tide
@[simp] theorem State.inc_line (i : Nat) : (s.inc i).line = s.line :=
  (State.inc_reports s i).line
@[simp] theorem State.inc_pool (i : Nat) : (s.inc i).pool = s.pool :=
  (State.inc_reports s i).pool
@[simp] theorem State.inc_sched (i : Nat) : (s.inc i).sched = s.sched :=
  (State.inc_reports s i).sched
@[simp] theorem State.inc_ports (i : Nat) : (s.inc i).ports = s.ports :=
  (State.inc_reports s i).ports
@[simp] theorem State.inc_e1s (i : Nat) : (s.inc i).e1s = s.e1s :=
  (State.inc_reports s i).e1s
@[simp] theorem State.inc_cipher (i : Nat) : (s.inc i).cipher = s.cipher :=
  (State.inc_reports s i).cipher
@[simp] theorem State.inc_snap (i : Nat) : (s.inc i).snap = s.snap :=
  (State.inc_reports s i).snap
@[simp] theorem State.inc_cfg (i : Nat) : (s.inc i).cfg = s.cfg :=
  (State.inc_reports s i).cfg
@[simp] theorem State.inc_adm (i : Nat) : (s.inc i).adm = s.adm :=
  (State.inc_reports s i).adm
@[simp] theorem State.inc_cistern (i : Nat) : (s.inc i).cistern = s.cistern :=
  (State.inc_reports s i).cistern
@[simp] theorem State.inc_craft (i : Nat) : (s.inc i).craft = s.craft :=
  (State.inc_reports s i).craft

@[simp] theorem State.relayBack_pending (o : Nat) (q : BitVec 16) (m : MbxNo) (st : Status) (p : List Byte) : (s.relayBack o q m st p).pending = s.pending :=
  (State.relayBack_reports s o q m st p).pending
@[simp] theorem State.relayBack_now (o : Nat) (q : BitVec 16) (m : MbxNo) (st : Status) (p : List Byte) : (s.relayBack o q m st p).now = s.now :=
  (State.relayBack_reports s o q m st p).now
@[simp] theorem State.relayBack_bnd (o : Nat) (q : BitVec 16) (m : MbxNo) (st : Status) (p : List Byte) : (s.relayBack o q m st p).bnd = s.bnd :=
  (State.relayBack_reports s o q m st p).bnd
@[simp] theorem State.relayBack_fresh (o : Nat) (q : BitVec 16) (m : MbxNo) (st : Status) (p : List Byte) : (s.relayBack o q m st p).fresh = s.fresh :=
  (State.relayBack_reports s o q m st p).fresh
@[simp] theorem State.relayBack_start (o : Nat) (q : BitVec 16) (m : MbxNo) (st : Status) (p : List Byte) : (s.relayBack o q m st p).start = s.start :=
  (State.relayBack_reports s o q m st p).start
@[simp] theorem State.relayBack_power (o : Nat) (q : BitVec 16) (m : MbxNo) (st : Status) (p : List Byte) : (s.relayBack o q m st p).power = s.power :=
  (State.relayBack_reports s o q m st p).power
@[simp] theorem State.relayBack_clk (o : Nat) (q : BitVec 16) (m : MbxNo) (st : Status) (p : List Byte) : (s.relayBack o q m st p).clk = s.clk :=
  (State.relayBack_reports s o q m st p).clk
@[simp] theorem State.relayBack_tide (o : Nat) (q : BitVec 16) (m : MbxNo) (st : Status) (p : List Byte) : (s.relayBack o q m st p).tide = s.tide :=
  (State.relayBack_reports s o q m st p).tide
@[simp] theorem State.relayBack_line (o : Nat) (q : BitVec 16) (m : MbxNo) (st : Status) (p : List Byte) : (s.relayBack o q m st p).line = s.line :=
  (State.relayBack_reports s o q m st p).line
@[simp] theorem State.relayBack_pool (o : Nat) (q : BitVec 16) (m : MbxNo) (st : Status) (p : List Byte) : (s.relayBack o q m st p).pool = s.pool :=
  (State.relayBack_reports s o q m st p).pool
@[simp] theorem State.relayBack_sched (o : Nat) (q : BitVec 16) (m : MbxNo) (st : Status) (p : List Byte) : (s.relayBack o q m st p).sched = s.sched :=
  (State.relayBack_reports s o q m st p).sched
@[simp] theorem State.relayBack_ports (o : Nat) (q : BitVec 16) (m : MbxNo) (st : Status) (p : List Byte) : (s.relayBack o q m st p).ports = s.ports :=
  (State.relayBack_reports s o q m st p).ports
@[simp] theorem State.relayBack_e1s (o : Nat) (q : BitVec 16) (m : MbxNo) (st : Status) (p : List Byte) : (s.relayBack o q m st p).e1s = s.e1s :=
  (State.relayBack_reports s o q m st p).e1s
@[simp] theorem State.relayBack_cipher (o : Nat) (q : BitVec 16) (m : MbxNo) (st : Status) (p : List Byte) : (s.relayBack o q m st p).cipher = s.cipher :=
  (State.relayBack_reports s o q m st p).cipher
@[simp] theorem State.relayBack_snap (o : Nat) (q : BitVec 16) (m : MbxNo) (st : Status) (p : List Byte) : (s.relayBack o q m st p).snap = s.snap :=
  (State.relayBack_reports s o q m st p).snap
@[simp] theorem State.relayBack_cfg (o : Nat) (q : BitVec 16) (m : MbxNo) (st : Status) (p : List Byte) : (s.relayBack o q m st p).cfg = s.cfg :=
  (State.relayBack_reports s o q m st p).cfg
@[simp] theorem State.relayBack_adm (o : Nat) (q : BitVec 16) (m : MbxNo) (st : Status) (p : List Byte) : (s.relayBack o q m st p).adm = s.adm :=
  (State.relayBack_reports s o q m st p).adm
@[simp] theorem State.relayBack_cistern (o : Nat) (q : BitVec 16) (m : MbxNo) (st : Status) (p : List Byte) : (s.relayBack o q m st p).cistern = s.cistern :=
  (State.relayBack_reports s o q m st p).cistern
@[simp] theorem State.relayBack_craft (o : Nat) (q : BitVec 16) (m : MbxNo) (st : Status) (p : List Byte) : (s.relayBack o q m st p).craft = s.craft :=
  (State.relayBack_reports s o q m st p).craft

@[simp] theorem State.answer_pending (o : Nat) (q : Req) (st : Status) (p : List Byte) : (s.answer o q st p).pending = s.pending :=
  (State.answer_reports s o q st p).pending
@[simp] theorem State.answer_now (o : Nat) (q : Req) (st : Status) (p : List Byte) : (s.answer o q st p).now = s.now :=
  (State.answer_reports s o q st p).now
@[simp] theorem State.answer_bnd (o : Nat) (q : Req) (st : Status) (p : List Byte) : (s.answer o q st p).bnd = s.bnd :=
  (State.answer_reports s o q st p).bnd
@[simp] theorem State.answer_fresh (o : Nat) (q : Req) (st : Status) (p : List Byte) : (s.answer o q st p).fresh = s.fresh :=
  (State.answer_reports s o q st p).fresh
@[simp] theorem State.answer_start (o : Nat) (q : Req) (st : Status) (p : List Byte) : (s.answer o q st p).start = s.start :=
  (State.answer_reports s o q st p).start
@[simp] theorem State.answer_power (o : Nat) (q : Req) (st : Status) (p : List Byte) : (s.answer o q st p).power = s.power :=
  (State.answer_reports s o q st p).power
@[simp] theorem State.answer_clk (o : Nat) (q : Req) (st : Status) (p : List Byte) : (s.answer o q st p).clk = s.clk :=
  (State.answer_reports s o q st p).clk
@[simp] theorem State.answer_tide (o : Nat) (q : Req) (st : Status) (p : List Byte) : (s.answer o q st p).tide = s.tide :=
  (State.answer_reports s o q st p).tide
@[simp] theorem State.answer_line (o : Nat) (q : Req) (st : Status) (p : List Byte) : (s.answer o q st p).line = s.line :=
  (State.answer_reports s o q st p).line
@[simp] theorem State.answer_pool (o : Nat) (q : Req) (st : Status) (p : List Byte) : (s.answer o q st p).pool = s.pool :=
  (State.answer_reports s o q st p).pool
@[simp] theorem State.answer_sched (o : Nat) (q : Req) (st : Status) (p : List Byte) : (s.answer o q st p).sched = s.sched :=
  (State.answer_reports s o q st p).sched
@[simp] theorem State.answer_ports (o : Nat) (q : Req) (st : Status) (p : List Byte) : (s.answer o q st p).ports = s.ports :=
  (State.answer_reports s o q st p).ports
@[simp] theorem State.answer_e1s (o : Nat) (q : Req) (st : Status) (p : List Byte) : (s.answer o q st p).e1s = s.e1s :=
  (State.answer_reports s o q st p).e1s
@[simp] theorem State.answer_cipher (o : Nat) (q : Req) (st : Status) (p : List Byte) : (s.answer o q st p).cipher = s.cipher :=
  (State.answer_reports s o q st p).cipher
@[simp] theorem State.answer_snap (o : Nat) (q : Req) (st : Status) (p : List Byte) : (s.answer o q st p).snap = s.snap :=
  (State.answer_reports s o q st p).snap
@[simp] theorem State.answer_cfg (o : Nat) (q : Req) (st : Status) (p : List Byte) : (s.answer o q st p).cfg = s.cfg :=
  (State.answer_reports s o q st p).cfg
@[simp] theorem State.answer_adm (o : Nat) (q : Req) (st : Status) (p : List Byte) : (s.answer o q st p).adm = s.adm :=
  (State.answer_reports s o q st p).adm
@[simp] theorem State.answer_cistern (o : Nat) (q : Req) (st : Status) (p : List Byte) : (s.answer o q st p).cistern = s.cistern :=
  (State.answer_reports s o q st p).cistern
@[simp] theorem State.answer_craft (o : Nat) (q : Req) (st : Status) (p : List Byte) : (s.answer o q st p).craft = s.craft :=
  (State.answer_reports s o q st p).craft

@[simp] theorem State.reply_pending (o : Nat) (q : Req) (st : Status) : (s.reply o q st).pending = s.pending :=
  (State.reply_reports s o q st).pending
@[simp] theorem State.reply_now (o : Nat) (q : Req) (st : Status) : (s.reply o q st).now = s.now :=
  (State.reply_reports s o q st).now
@[simp] theorem State.reply_bnd (o : Nat) (q : Req) (st : Status) : (s.reply o q st).bnd = s.bnd :=
  (State.reply_reports s o q st).bnd
@[simp] theorem State.reply_fresh (o : Nat) (q : Req) (st : Status) : (s.reply o q st).fresh = s.fresh :=
  (State.reply_reports s o q st).fresh
@[simp] theorem State.reply_start (o : Nat) (q : Req) (st : Status) : (s.reply o q st).start = s.start :=
  (State.reply_reports s o q st).start
@[simp] theorem State.reply_power (o : Nat) (q : Req) (st : Status) : (s.reply o q st).power = s.power :=
  (State.reply_reports s o q st).power
@[simp] theorem State.reply_clk (o : Nat) (q : Req) (st : Status) : (s.reply o q st).clk = s.clk :=
  (State.reply_reports s o q st).clk
@[simp] theorem State.reply_tide (o : Nat) (q : Req) (st : Status) : (s.reply o q st).tide = s.tide :=
  (State.reply_reports s o q st).tide
@[simp] theorem State.reply_line (o : Nat) (q : Req) (st : Status) : (s.reply o q st).line = s.line :=
  (State.reply_reports s o q st).line
@[simp] theorem State.reply_pool (o : Nat) (q : Req) (st : Status) : (s.reply o q st).pool = s.pool :=
  (State.reply_reports s o q st).pool
@[simp] theorem State.reply_sched (o : Nat) (q : Req) (st : Status) : (s.reply o q st).sched = s.sched :=
  (State.reply_reports s o q st).sched
@[simp] theorem State.reply_ports (o : Nat) (q : Req) (st : Status) : (s.reply o q st).ports = s.ports :=
  (State.reply_reports s o q st).ports
@[simp] theorem State.reply_e1s (o : Nat) (q : Req) (st : Status) : (s.reply o q st).e1s = s.e1s :=
  (State.reply_reports s o q st).e1s
@[simp] theorem State.reply_cipher (o : Nat) (q : Req) (st : Status) : (s.reply o q st).cipher = s.cipher :=
  (State.reply_reports s o q st).cipher
@[simp] theorem State.reply_snap (o : Nat) (q : Req) (st : Status) : (s.reply o q st).snap = s.snap :=
  (State.reply_reports s o q st).snap
@[simp] theorem State.reply_cfg (o : Nat) (q : Req) (st : Status) : (s.reply o q st).cfg = s.cfg :=
  (State.reply_reports s o q st).cfg
@[simp] theorem State.reply_adm (o : Nat) (q : Req) (st : Status) : (s.reply o q st).adm = s.adm :=
  (State.reply_reports s o q st).adm
@[simp] theorem State.reply_cistern (o : Nat) (q : Req) (st : Status) : (s.reply o q st).cistern = s.cistern :=
  (State.reply_reports s o q st).cistern
@[simp] theorem State.reply_craft (o : Nat) (q : Req) (st : Status) : (s.reply o q st).craft = s.craft :=
  (State.reply_reports s o q st).craft

@[simp] theorem State.complete_pending (m k : Nat) (st : Status) (p : List Byte) : (s.complete m k st p).pending = s.pending :=
  (State.complete_reports s m k st p).pending
@[simp] theorem State.complete_now (m k : Nat) (st : Status) (p : List Byte) : (s.complete m k st p).now = s.now :=
  (State.complete_reports s m k st p).now
@[simp] theorem State.complete_bnd (m k : Nat) (st : Status) (p : List Byte) : (s.complete m k st p).bnd = s.bnd :=
  (State.complete_reports s m k st p).bnd
@[simp] theorem State.complete_fresh (m k : Nat) (st : Status) (p : List Byte) : (s.complete m k st p).fresh = s.fresh :=
  (State.complete_reports s m k st p).fresh
@[simp] theorem State.complete_start (m k : Nat) (st : Status) (p : List Byte) : (s.complete m k st p).start = s.start :=
  (State.complete_reports s m k st p).start
@[simp] theorem State.complete_power (m k : Nat) (st : Status) (p : List Byte) : (s.complete m k st p).power = s.power :=
  (State.complete_reports s m k st p).power
@[simp] theorem State.complete_clk (m k : Nat) (st : Status) (p : List Byte) : (s.complete m k st p).clk = s.clk :=
  (State.complete_reports s m k st p).clk
@[simp] theorem State.complete_tide (m k : Nat) (st : Status) (p : List Byte) : (s.complete m k st p).tide = s.tide :=
  (State.complete_reports s m k st p).tide
@[simp] theorem State.complete_line (m k : Nat) (st : Status) (p : List Byte) : (s.complete m k st p).line = s.line :=
  (State.complete_reports s m k st p).line
@[simp] theorem State.complete_pool (m k : Nat) (st : Status) (p : List Byte) : (s.complete m k st p).pool = s.pool :=
  (State.complete_reports s m k st p).pool
@[simp] theorem State.complete_sched (m k : Nat) (st : Status) (p : List Byte) : (s.complete m k st p).sched = s.sched :=
  (State.complete_reports s m k st p).sched
@[simp] theorem State.complete_ports (m k : Nat) (st : Status) (p : List Byte) : (s.complete m k st p).ports = s.ports :=
  (State.complete_reports s m k st p).ports
@[simp] theorem State.complete_e1s (m k : Nat) (st : Status) (p : List Byte) : (s.complete m k st p).e1s = s.e1s :=
  (State.complete_reports s m k st p).e1s
@[simp] theorem State.complete_cipher (m k : Nat) (st : Status) (p : List Byte) : (s.complete m k st p).cipher = s.cipher :=
  (State.complete_reports s m k st p).cipher
@[simp] theorem State.complete_snap (m k : Nat) (st : Status) (p : List Byte) : (s.complete m k st p).snap = s.snap :=
  (State.complete_reports s m k st p).snap
@[simp] theorem State.complete_cfg (m k : Nat) (st : Status) (p : List Byte) : (s.complete m k st p).cfg = s.cfg :=
  (State.complete_reports s m k st p).cfg
@[simp] theorem State.complete_adm (m k : Nat) (st : Status) (p : List Byte) : (s.complete m k st p).adm = s.adm :=
  (State.complete_reports s m k st p).adm
@[simp] theorem State.complete_cistern (m k : Nat) (st : Status) (p : List Byte) : (s.complete m k st p).cistern = s.cistern :=
  (State.complete_reports s m k st p).cistern
@[simp] theorem State.complete_craft (m k : Nat) (st : Status) (p : List Byte) : (s.complete m k st p).craft = s.craft :=
  (State.complete_reports s m k st p).craft

@[simp] theorem State.await_pending (o : Nat) (q : Req) (w : Wait) : (s.await o q w).pending = s.pending :=
  (State.await_reports s o q w).pending
@[simp] theorem State.await_now (o : Nat) (q : Req) (w : Wait) : (s.await o q w).now = s.now :=
  (State.await_reports s o q w).now
@[simp] theorem State.await_bnd (o : Nat) (q : Req) (w : Wait) : (s.await o q w).bnd = s.bnd :=
  (State.await_reports s o q w).bnd
@[simp] theorem State.await_fresh (o : Nat) (q : Req) (w : Wait) : (s.await o q w).fresh = s.fresh :=
  (State.await_reports s o q w).fresh
@[simp] theorem State.await_start (o : Nat) (q : Req) (w : Wait) : (s.await o q w).start = s.start :=
  (State.await_reports s o q w).start
@[simp] theorem State.await_power (o : Nat) (q : Req) (w : Wait) : (s.await o q w).power = s.power :=
  (State.await_reports s o q w).power
@[simp] theorem State.await_clk (o : Nat) (q : Req) (w : Wait) : (s.await o q w).clk = s.clk :=
  (State.await_reports s o q w).clk
@[simp] theorem State.await_tide (o : Nat) (q : Req) (w : Wait) : (s.await o q w).tide = s.tide :=
  (State.await_reports s o q w).tide
@[simp] theorem State.await_line (o : Nat) (q : Req) (w : Wait) : (s.await o q w).line = s.line :=
  (State.await_reports s o q w).line
@[simp] theorem State.await_pool (o : Nat) (q : Req) (w : Wait) : (s.await o q w).pool = s.pool :=
  (State.await_reports s o q w).pool
@[simp] theorem State.await_sched (o : Nat) (q : Req) (w : Wait) : (s.await o q w).sched = s.sched :=
  (State.await_reports s o q w).sched
@[simp] theorem State.await_ports (o : Nat) (q : Req) (w : Wait) : (s.await o q w).ports = s.ports :=
  (State.await_reports s o q w).ports
@[simp] theorem State.await_e1s (o : Nat) (q : Req) (w : Wait) : (s.await o q w).e1s = s.e1s :=
  (State.await_reports s o q w).e1s
@[simp] theorem State.await_cipher (o : Nat) (q : Req) (w : Wait) : (s.await o q w).cipher = s.cipher :=
  (State.await_reports s o q w).cipher
@[simp] theorem State.await_snap (o : Nat) (q : Req) (w : Wait) : (s.await o q w).snap = s.snap :=
  (State.await_reports s o q w).snap
@[simp] theorem State.await_cfg (o : Nat) (q : Req) (w : Wait) : (s.await o q w).cfg = s.cfg :=
  (State.await_reports s o q w).cfg
@[simp] theorem State.await_adm (o : Nat) (q : Req) (w : Wait) : (s.await o q w).adm = s.adm :=
  (State.await_reports s o q w).adm
@[simp] theorem State.await_cistern (o : Nat) (q : Req) (w : Wait) : (s.await o q w).cistern = s.cistern :=
  (State.await_reports s o q w).cistern
@[simp] theorem State.await_craft (o : Nat) (q : Req) (w : Wait) : (s.await o q w).craft = s.craft :=
  (State.await_reports s o q w).craft

@[simp] theorem State.answerOn_pending (w : Wait) (st : Status) (p : List Byte) : (s.answerOn w st p).pending = s.pending :=
  (State.answerOn_reports s w st p).pending
@[simp] theorem State.answerOn_now (w : Wait) (st : Status) (p : List Byte) : (s.answerOn w st p).now = s.now :=
  (State.answerOn_reports s w st p).now
@[simp] theorem State.answerOn_bnd (w : Wait) (st : Status) (p : List Byte) : (s.answerOn w st p).bnd = s.bnd :=
  (State.answerOn_reports s w st p).bnd
@[simp] theorem State.answerOn_fresh (w : Wait) (st : Status) (p : List Byte) : (s.answerOn w st p).fresh = s.fresh :=
  (State.answerOn_reports s w st p).fresh
@[simp] theorem State.answerOn_start (w : Wait) (st : Status) (p : List Byte) : (s.answerOn w st p).start = s.start :=
  (State.answerOn_reports s w st p).start
@[simp] theorem State.answerOn_power (w : Wait) (st : Status) (p : List Byte) : (s.answerOn w st p).power = s.power :=
  (State.answerOn_reports s w st p).power
@[simp] theorem State.answerOn_clk (w : Wait) (st : Status) (p : List Byte) : (s.answerOn w st p).clk = s.clk :=
  (State.answerOn_reports s w st p).clk
@[simp] theorem State.answerOn_tide (w : Wait) (st : Status) (p : List Byte) : (s.answerOn w st p).tide = s.tide :=
  (State.answerOn_reports s w st p).tide
@[simp] theorem State.answerOn_line (w : Wait) (st : Status) (p : List Byte) : (s.answerOn w st p).line = s.line :=
  (State.answerOn_reports s w st p).line
@[simp] theorem State.answerOn_pool (w : Wait) (st : Status) (p : List Byte) : (s.answerOn w st p).pool = s.pool :=
  (State.answerOn_reports s w st p).pool
@[simp] theorem State.answerOn_sched (w : Wait) (st : Status) (p : List Byte) : (s.answerOn w st p).sched = s.sched :=
  (State.answerOn_reports s w st p).sched
@[simp] theorem State.answerOn_ports (w : Wait) (st : Status) (p : List Byte) : (s.answerOn w st p).ports = s.ports :=
  (State.answerOn_reports s w st p).ports
@[simp] theorem State.answerOn_e1s (w : Wait) (st : Status) (p : List Byte) : (s.answerOn w st p).e1s = s.e1s :=
  (State.answerOn_reports s w st p).e1s
@[simp] theorem State.answerOn_cipher (w : Wait) (st : Status) (p : List Byte) : (s.answerOn w st p).cipher = s.cipher :=
  (State.answerOn_reports s w st p).cipher
@[simp] theorem State.answerOn_snap (w : Wait) (st : Status) (p : List Byte) : (s.answerOn w st p).snap = s.snap :=
  (State.answerOn_reports s w st p).snap
@[simp] theorem State.answerOn_cfg (w : Wait) (st : Status) (p : List Byte) : (s.answerOn w st p).cfg = s.cfg :=
  (State.answerOn_reports s w st p).cfg
@[simp] theorem State.answerOn_adm (w : Wait) (st : Status) (p : List Byte) : (s.answerOn w st p).adm = s.adm :=
  (State.answerOn_reports s w st p).adm
@[simp] theorem State.answerOn_cistern (w : Wait) (st : Status) (p : List Byte) : (s.answerOn w st p).cistern = s.cistern :=
  (State.answerOn_reports s w st p).cistern
@[simp] theorem State.answerOn_craft (w : Wait) (st : Status) (p : List Byte) : (s.answerOn w st p).craft = s.craft :=
  (State.answerOn_reports s w st p).craft

end Sys2Proof.Machine
end

