-- ==== Sys2Proof/Laws/Tab.lean ====
section
/-!
SUPPORT. The laws of the finite table: a read after a write, and that every operation keeps the canonical form.
-/

namespace Sys2Proof.Tab

variable {α : Type} (d : α)

@[simp] theorem get_nil (i : Nat) : get d [] i = d := rfl

theorem get_erase (t : Tab α) (i j : Nat) : get d (erase t i) j = if j = i then d else get d t j := by
  induction t with
  | nil => simp [erase]
  | cons y t ih =>
    obtain ⟨k, v⟩ := y
    simp only [erase] at ih ⊢
    by_cases hk : k = i
    · subst hk
      by_cases hj : j = k
      · subst hj
        simpa using ih
      · simpa [get, hj] using ih
    · by_cases hjk : j = k
      · subst hjk
        simp [get, hk]
      · simp [get, hk, hjk, ih]

variable [DecidableEq α]

/-- A read after a write, whatever the form of the table. -/
theorem get_set (t : Tab α) (i j : Nat) (x : α) : get d (set d t i x) j = if j = i then x else get d t j := by
  induction t with
  | nil => by_cases hx : x = d <;> by_cases hj : j = i <;> simp [set, get, hx, hj]
  | cons y t ih =>
    obtain ⟨k, v⟩ := y
    unfold set
    by_cases hik : i < k
    · by_cases hx : x = d
      · by_cases hj : j = i
        · have : j ≠ k := by omega
          simp [hik, hx, get, hj, get_erase, Nat.ne_of_lt hik]
        · simp [hik, hx, get, hj, get_erase]
      · by_cases hj : j = i <;> simp [hik, hx, get, hj]
    · by_cases he : i = k
      · subst he
        by_cases hx : x = d <;> by_cases hj : j = i <;> simp [hx, get, hj, get_erase]
      · by_cases hjk : j = k
        · subst hjk
          have : j ≠ i := fun e => he e.symm
          simp [hik, he, get, this]
        · simp [hik, he, get, hjk, ih]

@[simp] theorem get_set_same (t : Tab α) (i : Nat) (x : α) : get d (set d t i x) i = x := by simp [get_set]

theorem get_set_other (t : Tab α) {i j : Nat} (x : α) (hj : j ≠ i) : get d (set d t i x) j = get d t j := by
  simp [get_set, hj]

@[simp] theorem get_modify_same (t : Tab α) (i : Nat) (f : α → α) : get d (modify d t i f) i = f (get d t i) := by
  simp [modify]

theorem get_modify_other (t : Tab α) {i j : Nat} (f : α → α) (hj : j ≠ i) :
    get d (modify d t i f) j = get d t j := by simp [modify, get_set, hj]

theorem wfFrom_mono {t : Tab α} {a b : Nat} (h : wfFrom d b t = true) (hab : a ≤ b) : wfFrom d a t = true := by
  cases t with
  | nil => rfl
  | cons x t =>
    simp only [wfFrom, Bool.and_eq_true, decide_eq_true_eq] at h ⊢
    exact ⟨⟨by omega, h.1.2⟩, h.2⟩

theorem erase_of_wfFrom {t : Tab α} {b i : Nat} (h : wfFrom d b t = true) (hi : i < b) : erase t i = t := by
  induction t generalizing b with
  | nil => rfl
  | cons x t ih =>
    obtain ⟨k, v⟩ := x
    simp only [wfFrom, Bool.and_eq_true, decide_eq_true_eq] at h
    have hk : k ≠ i := by omega
    have := ih h.2 (by omega)
    simp only [erase] at this ⊢
    simp [hk, this]

/-- A write keeps the canonical form. -/
theorem wfFrom_set {t : Tab α} {b : Nat} (i : Nat) (x : α) (h : wfFrom d b t = true) (hi : b ≤ i) :
    wfFrom d b (set d t i x) = true := by
  induction t generalizing b with
  | nil =>
    by_cases hx : x = d
    · simp [set, hx, wfFrom]
    · simp [set, hx, wfFrom, hi]
  | cons y t ih =>
    obtain ⟨k, v⟩ := y
    have h' := h
    simp only [wfFrom, Bool.and_eq_true, decide_eq_true_eq] at h
    unfold set
    by_cases hik : i < k
    · have he : erase t i = t := erase_of_wfFrom d h.2 (by omega)
      by_cases hx : x = d
      · simpa [hik, hx, he] using h'
      · have := h.2
        simp only [hik, hx, if_true, if_false, wfFrom, Bool.and_eq_true, decide_eq_true_eq]
        exact ⟨⟨hi, hx⟩, ⟨by omega, h.1.2⟩, this⟩
    · by_cases he : i = k
      · have hr : erase t i = t := erase_of_wfFrom d h.2 (by omega)
        by_cases hx : x = d
        · subst he
          simp only [hx, hr, Nat.lt_irrefl, if_true, if_false]
          exact wfFrom_mono d h.2 (by omega)
        · subst he
          simp only [hx, Nat.lt_irrefl, if_true, if_false, wfFrom, Bool.and_eq_true, decide_eq_true_eq]
          exact ⟨⟨hi, hx⟩, h.2⟩
      · simp only [hik, he, if_false, wfFrom, Bool.and_eq_true, decide_eq_true_eq]
        exact ⟨h.1, ih h.2 (by omega)⟩

/-- A table in canonical form stays in it. -/
theorem wf_set {t : Tab α} (i : Nat) (x : α) (h : wf d t = true) : wf d (set d t i x) = true :=
  wfFrom_set d i x h (Nat.zero_le i)

theorem wf_modify {t : Tab α} (i : Nat) (f : α → α) (h : wf d t = true) : wf d (modify d t i f) = true :=
  wf_set d i _ h

theorem wf_nil : wf d [] = true := rfl

end Sys2Proof.Tab
end

