-- ==== Sys2Proof/Laws/Events.lean ====
section
/-!
SUPPORT. A raised source is pending, and nothing that reports takes a pending bit back.
-/

namespace Sys2Proof.Machine

theorem Events.setBit_self (e : Events) (n : Nat) :
    (Tab.get 0 (e.setBit n).status (n / 32)).getLsbD (n % 32) = true := by
  have h : n % 32 < 32 := Nat.mod_lt _ (by decide)
  simp only [Events.setBit, Tab.modify]
  rw [Tab.get_set_same]
  simp [h]

theorem Events.setBit_mono (e : Events) (n g b : Nat) (h : (Tab.get 0 e.status g).getLsbD b = true) :
    (Tab.get 0 (e.setBit n).status g).getLsbD b = true := by
  simp only [Events.setBit, Tab.modify]
  by_cases hg : g = n / 32
  · subst hg
    rw [Tab.get_set_same]
    rw [BitVec.getLsbD_or, h]
    rfl
  · rw [Tab.get_set_other _ _ _ hg]
    exact h

theorem setEvtParts_status (e : Events) (b : Bool) (h : HostIf) (r : Ring) (s : State) :
    (setEvtParts e b h r s).1.status = e.status := by
  simp only [setEvtParts]
  split <;> rfl

/-- A raised source is pending. -/
@[simp] theorem State.raise_pends (s : State) (src obj detail : Nat) : (s.raise src obj detail).pends src := by
  simp only [State.pends, State.raise, raiseParts, setEvtParts_status]
  split
  · exact Events.setBit_self _ _
  · split
    · exact Events.setBit_mono _ _ _ _ (Events.setBit_mono _ _ _ _ (Events.setBit_self _ _))
    · exact Events.setBit_mono _ _ _ _ (Events.setBit_self _ _)

/-- Another raise keeps it pending. -/
theorem State.raise_pends_of (s : State) (src obj detail n : Nat) (h : s.pends n) :
    (s.raise src obj detail).pends n := by
  simp only [State.pends, State.raise, raiseParts, setEvtParts_status] at h ⊢
  split
  · exact Events.setBit_mono _ _ _ _ h
  · split
    · exact Events.setBit_mono _ _ _ _ (Events.setBit_mono _ _ _ _ (Events.setBit_mono _ _ _ _ h))
    · exact Events.setBit_mono _ _ _ _ (Events.setBit_mono _ _ _ _ h)

/-- What reports and keeps pending bits: a state's frame in the statements' words. -/
theorem Reports.reporting {s t : State} (h : Reports s t) : t = s.reporting t := by
  obtain ⟨_, _, _, _, _, _, rfl⟩ := h
  rfl

end Sys2Proof.Machine
end

