-- ==== Sys2Proof/WellFormed.lean ====
section
/-!
DEFINITION. Well-formed commands: the ranges that the spec gives the fields of what arrives from
outside, where the operand's type does not hold them already. `exec` gives every command a meaning
whatever its fields; a well-formed one is one that the outside can send.
-/

namespace Sys2Proof

/-- A request's payload is at most 1,008 bytes (R627). -/
def Req.wf (q : Req) : Bool := decide (q.payload.length ≤ 1008)

/-- The fields of an allocation structure (R29, R189). -/
def AllocStruct.wf (a : AllocStruct) : Bool :=
  decide (a.frame < 2 ^ 44) && decide (a.allocId < 16384) && decide (a.startTime < 65536)
  && decide (a.grantSize < 65536) && decide (a.profile < 4)

/-- The fields of a downstream frame (R29, R127). -/
def DsFrame.wf (f : DsFrame) : Bool :=
  decide (f.count < 2 ^ 44) && f.xgem.all (fun x => decide (x.portId < 65536)
    && decide (x.keyIndex < 4))

/-- The well-formedness of a command. -/
def Instr.wf : Instr → Bool
  | .mbxHello q | .opAbort q | .identGet q | .statusGet q | .berthSet q | .txnOpen q | .txnCommit q
  | .txnAbort q | .txnStatus q | .lineModeSet q | .lineLaneSet q | .lineStatusGet q
  | .ringStatusGet q | .ringSet q | .ringProtectCmd q | .ringRenumber q | .nodeReset q | .portSet q
  | .portStatusGet q | .mdioAccess q | .queueSet q | .queueFlush q | .schedSet q | .shaperSet q
  | .gateListSet q | .policerSet q | .classifierSet q | .allocMapSet q | .xgemMapSet q | .mcastSet q
  | .poolReserveSet q | .e1Set q | .cesSet q | .keyLoad q | .keyErase q | .cntRead q
  | .cntSnapshot q | .pwrStateSet q | .cisternSet q | .fwWriteBegin q | .fwWriteBlock q
  | .fwWriteEnd q | .fwActivate q | .fwConfirm q | .logbookRead q | .diagSelftest q
  | .diagLoopback q | .diagPrbs q | .diagMaintenance q | .omciSend q | .evtConfig q | .evtAck q
  | .evtFetch q | .tideAlarmSet q | .tidePulseSet q | .tideSet q => q.wf
  | .lswEnable q node _ _ | .lswDisable q node _ _ | .lswRearm q node _ _ =>
    q.wf && decide (node.val < 16)
  | .ringFrameReceive _ _ wire => decide (wire.length = 388800)
  | .imgBlock _ _ bytes => decide (bytes.length = 512)
  | .dccMessageReceive _ message mac =>
    decide (16 ≤ message.length) && decide (message.length ≤ 1024) && decide (mac.length = 16)
  | .allocationStructure _ a => a.wf
  | .downstreamFrame f => f.wf
  | .tideAnchored count => decide (count < 2 ^ 44)
  | .tideReacquireDecision frame tick => decide (frame < 2 ^ 44) && decide (tick < 777600)
  | .tideSync _ frame _ _ => decide (frame < 2 ^ 44)
  | .slipBufferWrite _ frame => decide (frame.length = 32)
  | .packetEnqueue _ r => decide (1 ≤ r.on.length) && decide (r.on.length ≤ 16384)
  | .relayCmd _ _ _ payload | .relayRsp _ _ _ _ _ payload => decide (payload.length ≤ 1008)
  | .spiWrite addr _ _ => decide (addr < 2 ^ 24)
  | .spiRead addr _ => decide (addr < 2 ^ 24)
  | .registerWrite addr _ _ => decide (addr < 0x40000) && decide (addr % 4 = 0)
  | _ => true

end Sys2Proof
end

