-- ==== Sys2Proof/Tests/Slice0.lean ====
section
/-!
SUPPORT. Tests: the well-formedness checks refuse what they should, small states that meet the
hypotheses of the statements, and single steps with results from the spec's worked examples and tables.
-/

namespace Sys2Proof.Tests

open Sys2Proof Sys2Proof.Machine

/-! ### Well-formed commands -/

/-- A request of a mailbox. -/
def req (m : MbxNo) (seq : BitVec 16) (p : List Byte) : Req :=
  { mbx := m, flags := 0, berth := if m.val < 32 then BitVec.ofNat 8 m.val else 0xFF, seq := seq, tag := 0x7A31, payload := p }

/-- A DCC message. -/
def dmsg (src dst : NodeNo) (seq : Nat) (b : DccBody) : DccMsg :=
  { dst := dst, src := src, bcast := false, unnumbered := false, ackOnly := false, ttl := 31, msgSeq := seq
    ackSeq := 0, body := b }

/-- An allocation structure: StartTime 1,200 words, GrantSize 1,600 words (chapter 05, worked example). -/
def astr : AllocStruct :=
  { frame := 0x00E4D400, allocId := 1040, startTime := 1200, grantSize := 1600, dbru := true, ploamu := false
    profile := 0, hec := .good, snGrant := false }

/-- A downstream frame without XGEM frames. -/
def dsf : DsFrame :=
  { lane := 0, count := 0x00E4C1F0, skew := 0, inSync := true, corrSym := 0, uncorr := 0, psbdErr := 0, hdrErr := 0, xgem := [] }

/-- An XGEM frame. -/
def xg : XgemFrame :=
  { portId := 0x0800, keyIndex := 0, lf := true, payload := [1, 2, 3], fecOk := true, hecOk := true, idle := false }

theorem test_wf_accepts :
    Instr.wf (.txnOpen (req 32 1 [])) = true ∧ Instr.wf (.cntRead (req 32 1 (List.replicate 8 0))) = true
    ∧ Instr.wf (.dccMessageReceive 0 (List.replicate 16 0) (List.replicate 16 0)) = true
    ∧ Instr.wf (.allocationStructure 0 astr) = true ∧ Instr.wf (.downstreamFrame { dsf with xgem := [xg] }) = true
    ∧ Instr.wf (.tideAnchored (2 ^ 44 - 1)) = true ∧ Instr.wf (.tideReacquireDecision 0 777599) = true
    ∧ Instr.wf (.packetEnqueue 0 ⟨[1], .none⟩) = true ∧ Instr.wf (.spiWrite 0xFFFFFF [1] false) = true
    ∧ Instr.wf (.slipBufferWrite 0 (List.replicate 32 0)) = true
    ∧ Instr.wf (.spiRead 0xFFFFFF 1) = true ∧ Instr.wf (.registerWrite 0x3FFFC 0 15) = true
    ∧ Instr.wf (.lswEnable (req 32 1 []) 0 0 0) = true ∧ Instr.wf (.egressStart 0) = true := by decide

theorem test_wf_ring_frame :
    Instr.wf (.ringFrameReceive 0 0 (List.replicate 388800 0)) = true
    ∧ Instr.wf (.ringFrameReceive 0 0 (List.replicate 388799 0)) = false := by
  simp only [Instr.wf, List.length_replicate]; decide

theorem test_wf_refuses_long_request : Instr.wf (.cntRead (req 32 1 (List.replicate 1009 0))) = false := by
  simp only [Instr.wf, Req.wf, req, List.length_replicate]; decide
theorem test_wf_refuses_long_relay : Instr.wf (.relayCmd 0x900 1 32 (List.replicate 1009 0)) = false := by
  simp only [Instr.wf, List.length_replicate]; decide

theorem test_wf_refuses_dcc :
    Instr.wf (.dccMessageReceive 0 (List.replicate 15 0) (List.replicate 16 0)) = false
    ∧ Instr.wf (.dccMessageReceive 0 (List.replicate 16 0) (List.replicate 15 0)) = false
    ∧ Instr.wf (.dccMessageReceive 0 (List.replicate 1025 0) (List.replicate 16 0)) = false
    ∧ Instr.wf (.imgBlock 0 0 (List.replicate 511 0)) = false := by
  simp only [Instr.wf, List.length_replicate]; decide

theorem test_wf_refuses_allocations :
    AllocStruct.wf { astr with frame := 2 ^ 44 } = false ∧ AllocStruct.wf { astr with allocId := 16384 } = false
    ∧ AllocStruct.wf { astr with startTime := 65536 } = false ∧ AllocStruct.wf { astr with grantSize := 65536 } = false
    ∧ AllocStruct.wf { astr with profile := 4 } = false := by decide

theorem test_wf_refuses_downstream :
    DsFrame.wf { dsf with count := 2 ^ 44 } = false ∧ DsFrame.wf { dsf with xgem := [{ xg with portId := 65536 }] } = false
    ∧ DsFrame.wf { dsf with xgem := [{ xg with keyIndex := 4 }] } = false := by decide

theorem test_wf_refuses_counts :
    Instr.wf (.tideAnchored (2 ^ 44)) = false ∧ Instr.wf (.tideReacquireDecision (2 ^ 44) 0) = false
    ∧ Instr.wf (.tideReacquireDecision 0 777600) = false ∧ Instr.wf (.tideSync 0 (2 ^ 44) 0 0) = false
    ∧ Instr.wf (.lswEnable (req 32 1 (List.replicate 1009 0)) 0 0 0) = false
    ∧ Instr.wf (.slipBufferWrite 0 (List.replicate 31 0)) = false := by
  simp only [Instr.wf, Req.wf, req, List.length_replicate]; decide

theorem test_wf_refuses_addresses :
    Instr.wf (.packetEnqueue 0 ⟨[], .none⟩) = false ∧ Instr.wf (.packetEnqueue 0 ⟨List.replicate 16385 0, .none⟩) = false
    ∧ Instr.wf (.spiWrite (2 ^ 24) [] false) = false
    ∧ Instr.wf (.spiRead (2 ^ 24) 1) = false ∧ Instr.wf (.registerWrite 0x40000 0 15) = false
    ∧ Instr.wf (.registerWrite 2 0 15) = false := by
  simp only [Instr.wf, List.length_replicate]; decide

/-! ### Small states -/

/-- A manager that runs: rails on, clocks running, no session yet. -/
def mgr : State :=
  { start := { fwState := 2, booting := false, image := false, fwVersion := 0x02060010 }
    host := { mbxReady := true }
    power := { seq := .on, en := 0x3F, pg := 0x3F }
    clk := { oscOn := true, xoOk := true, rootLock := true, running := true, ethRef := true, pcieRef := true
             gate := 0x3FFFFFFF }
    cistern := { vinOk := true } }

/-- A worker that runs and is joined as node 3. -/
def wkr : State :=
  { mgr with
    start := { mgr.start with manager := false }
    host := {}
    ring := { node := 3, enabled := true, join := { joined := true, step := 8, newNonce := false } } }

/-- A worker that is not joined, at a step of its join attempt. -/
def joining (k : Nat) : State :=
  { wkr with ring := { node := 3, join := { step := k } } }

/-- A manager with worker 2 joined. -/
def mgr2 : State :=
  { mgr with
    ring := { nodes := [(2, { used := true, serial := 0x11, member := 2, nonce := some 7, version := 0x02060010 })]
              enabled := true } }

/-- A manager with lane 0 in O5.1 and synchronised. -/
def mgrO5 : State :=
  { mgr with
    line := { lanes := [(0, { act := .o5, sync := true, onuId := some 42, txDis := false, allocs := [42, 1040] })] }
    tide := { state := .anchored, frame := 0x00E4D400 } }

/-- A manager with lane 0 in an activation state. -/
def laneIn (a : Act) (id : Option Nat) : State :=
  { mgr with line := { lanes := [(0, { act := a, sync := true, onuId := id, txDis := false })] } }

/-- A manager with a session on the operator mailbox that expects SEQ 15. -/
def session : State :=
  { mgr with host := { mgr.host with mbx := [(32, { session := true, expSeq := 15 })] } }

/-- The same with an open transaction. -/
def opened : State :=
  { mgr with
    host := { mgr.host with
      mbx := [(32, { session := true, expSeq := 15, txn := some { staged := [], bytes := 0, lastCmd := 0 } })] } }

/-- A manager with a packet of bytes 1, 2, 3 in a queue. -/
def withPkt (q : Nat) : State :=
  { mgr with
    pool := { queues := [(q, { pkts := [{ bytes := [1, 2, 3] }] })], free := 262143, queued := 1 } }

/-- A manager whose port 3 is enabled, with its link up. -/
def portUp : State :=
  { withPkt 25 with
    ports := [(3, { link := true, idle := false })]
    cfg := { ports := [(objId 0 1 3, { enable := true })] } }

/-- A manager whose E1 port 2 is enabled and framed. -/
def e1Up : State :=
  { mgr with
    cfg := { e1s := [(objId 0 7 2, { enable := true, framed := true })] } }

/-- The same with its circuit on, one frame a packet. -/
def cesUp : State :=
  { e1Up with
    cfg := { e1s := [(objId 0 7 2, { enable := true })], ces := [(objId 0 8 2, { enable := true })] } }

/-! ### States that meet the hypotheses of the statements: the block, clocks and Tide -/

theorem witness_IdleStepIsOneClock : mgr.pending = [] ∧ tideRuns mgr = true := by decide

theorem witness_IdentificationNeverChanges : ∃ t, step { mgr with pending := [.oscStartTimeout] } = .next t := ⟨_, rfl⟩

theorem witness_QueueIsFirstInFirstOut : ∃ t, step { mgr with pending := [.oscStartTimeout, .hello] } = .next t := ⟨_, rfl⟩

theorem witness_TideStaysInRange :
    Tide.wf { frame := 2 ^ 44 - 1, tick := 777599 } ∧ ∃ t, step { mgr with
      tide := { frame := 2 ^ 44 - 1, tick := 777599 }, pending := [.tidePulseFall] } = .next t := by
  refine ⟨by unfold Tide.wf; decide, _, rfl⟩

/-- The oscillator on and not yet accepted, with a source as the root's reference. -/
def starting (src : Bool) : State := { mgr with clk := { mgr.clk with xoOk := false, refSrc := src } }

/-- A root clock hold. -/
def holds : State := { mgr with clk := { mgr.clk with rootHold := true } }

theorem witness_ReferenceAndRootCommands :
    mgr.clk.xoOk = true
    ∧ (let s := starting false; s.clk.oscOn = true ∧ s.clk.xoOk = false ∧ s.clk.refSrc = false)
    ∧ (let s := starting true; s.clk.oscOn = true ∧ s.clk.xoOk = false ∧ s.clk.refSrc = true)
    ∧ mgr.clk.rootLock = true ∧ mgr.clk.rootHold = false
    ∧ (holds.clk.rootHold = true ∧ holds.clk.rootLock = true ∧ holds.clk.waiting = [])
    ∧ ({ mgr with clk := { mgr.clk with steered := true } } : State).clk.steered = true
    ∧ bit ({ mgr with clk := { mgr.clk with laneHold := 8 } } : State).clk.laneHold (3 : Lane).val = true
    ∧ (let s : State := { mgr with clk := { mgr.clk with rootLock := false } }
       s.clk.rootLock = false ∧ s.clk.running = true ∧ s.power.state ≠ .moored) := by decide

/-- A multiplexer with a pending switch. -/
def muxWaits : State := { mgr with clk := { mgr.clk with muxes := [(9, { pending := some false, selB := true })] } }

theorem witness_ClockSourceCommands :
    (let x : ClkMux := Tab.get {} mgr.clk.muxes (muxKey (.e1 3)); x.pending = none ∧ x.selB ≠ true)
    ∧ (let x : ClkMux := Tab.get {} muxWaits.clk.muxes (muxKey (.e1 3)); x.pending = some false ∧ false ≠ true)
    ∧ (Mux.e1 3 ≠ .core) ∧ mgr.clk.ethRef = true ∧ mgr.clk.pcieRef = true
    ∧ (let s : State := { mgr with clk := { mgr.clk with coreReq := some true } }; s.clk.coreReq = some true ∧ s.clk.coreSave ≠ true)
    ∧ ({ mgr with host := { mgr.host with pcieUp := true } } : State).host.pcieUp = true := by decide

theorem witness_TidePositionArithmetic :
    0 < 8000 * 777600 ∧ (5 : Nat) < 6 ∧ ((6 : Int) - 3) % 3 = 0 := by decide

/-- Manager states for Tide: anchored on lane 0; in HOLDOVER; HOLDOVER with the decision pending; a step due. -/
def anch : State := { mgr with tide := { state := .anchored, frame := 5, tick := 7 } }
def held : State := { mgr with tide := { state := .holdover, frame := 5, tick := 7, holdRun := some 0 } }
def deciding : State := { held with tide := { held.tide with deciding := true } }
def stepDue : State := { held with tide := { held.tide with stepAt := some (5, 3888007) } }
def slewing : State := { mgr with tide := { state := .slewing, frame := 5, error := 100 } }
/-- Two lanes up, lane 1 the anchor. -/
def twoLanes : State :=
  { mgr with
    line := { lanes := [(0, { act := .o5, sync := true, onuId := some 1 }), (1, { act := .o5, sync := true, onuId := some 2 })] }
    cfg := { line := { bonded := true, laneEn := 3 }, lanes := [(1, some { enable := true })] }
    tide := { state := .anchored, anchor := 1 } }
/-- A worker in ANCHORED that has lost its timing, and one that has not. -/
def untimed : State :=
  { wkr with tide := { state := .anchored }, ring := { wkr.ring with sides := [(0, { sf := true }), (1, { sf := true })] } }

theorem witness_TideStateCommands :
    (mgr.isManager = true ∧ mgr.tide.state = .unanchored ∧ mgr.clk.refFailed = false)
    ∧ (anch.tide.state ≠ .unanchored ∧ anch.tide.state ≠ .holdover ∧ anch.eligibleLanes anch.tide.anchor = [])
    ∧ (untimed.tide.state ≠ .unanchored ∧ untimed.tide.state ≠ .holdover ∧ untimed.isManager = false ∧ untimed.timingLost = true)
    ∧ (deciding.isManager = true ∧ deciding.tide.deciding = true ∧ deciding.tide.stepAt = none)
    ∧ (let e := tideError (spanTicks 6 7) deciding.tide.ticks; e.natAbs ≤ 777600)
    ∧ ¬ (let e := tideError (spanTicks 6 8) deciding.tide.ticks; e.natAbs ≤ 777600)
    ∧ slewing.tide.state = .slewing
    ∧ (stepDue.isManager = true ∧ stepDue.tide.stepAt = some (5, 3888007) ∧ stepDue.line.pending = [])
    ∧ (let w := { wkr with tide := { announced := some (5, 3888000) } }; w.isManager = false ∧ w.tide.announced = some (5, 3888000))
    ∧ (deciding.tide.deciding = true ∧ deciding.tide.state = .holdover)
    ∧ (twoLanes.tide.state ≠ .unanchored ∧ twoLanes.eligibleLanes twoLanes.tide.anchor = [0])
    ∧ (twoLanes.tide.anchor ≠ 0 ∧ twoLanes.laneUp 0 = true)
    ∧ (held.tide.state = .holdover ∧ held.tide.limitRaised = false)
    ∧ anch.tide.state ≠ .slewing ∧ anch.tide.state ≠ .holdover ∧ anch.tide.stepAt = none ∧ anch.tide.announced = none
    ∧ anch.tide.anchor = 0 := by
  and_intros <;> decide

/-- A host alarm armed one-shot (63), one periodic (48), and TIDE_PULSE enabled and high. -/
def alarms : State :=
  { mgr with
    tide := { state := .anchored, frame := 10
              alarms := [(48, { enable := true, frame := 9, perF := 2, event := true }),
                         (62, { enable := true, frame := 11 }), (63, { enable := true, frame := 9, event := true })]
              pulse := { enable := true, next := 10 * 777600, high := true, fall := 810 * 777600 } } }

theorem witness_AlarmAndPulseCommands :
    ((alarms.alarm 63).armed = true ∧ (alarms.alarm 63).target ≤ (alarms.until (alarms.alarm 63).target).tide.ticks
      ∧ (alarms.alarm 63).period = 0 ∧ (alarms.alarm 63).event = true ∧ 48 ≤ 63 ∧ 63 < 64)
    ∧ ((alarms.alarm 48).armed = true ∧ (alarms.alarm 48).period ≠ 0)
    ∧ (alarms.alarm 0).armed = false ∧ alarms.tide.ticks < (alarms.alarm 62).target
    ∧ alarms.tide.pulse.enable = true ∧ alarms.pulseMay = true ∧ alarms.tide.pulse.high = true
    ∧ State.pulseMay { alarms with tide := { alarms.tide with state := .unanchored } } = false := by decide

theorem witness_TideLoReadLatchesTheUpperHalf : mgr.hostOpen := by unfold State.hostOpen; decide

/-- A manager's ranging of worker 2: two differences in a row, a side that waits for its retry. -/
def ranges : State :=
  { mgr2 with tide := { rangers := [(2, { rttEast := 1000, rttWest := 1000, diffEast := 2, retryEast := true })] } }
/-- A worker that is not joined, at step 5, ranged. -/
def ranged : State := { joining 5 with tide := { ranged := true } }
/-- A ring whose peer 2 has `n` unacknowledged messages. -/
def unacked (n : Nat) : Ring :=
  { nodes := mgr2.ring.nodes, enabled := true
    peers := [(2, { unacked := (List.range n).map (fun k => { msg := dmsg 0 2 k .tsReq, wire := [], sends := 1, frame := 0 }) })] }

theorem witness_RangingAndTideSync :
    mgr.isManager = true ∧ wkr.isManager = false ∧ (3 : NodeNo).val = wkr.ring.node
    ∧ (let s : State := { wkr with tide := { rangers := [(0, { nEast := 16, nWest := 16 })] } }
       15 ≤ (s.ranger 0).nEast ∧ 16 ≤ (s.ranger 0).nWest ∧ 16 ≤ (s.ranger 0).nEast ∧ 15 ≤ (s.ranger 0).nWest)
    ∧ (differs 1002 (ranges.ranger 2).rttEast = false ∧ differs 998 (ranges.ranger 2).rttWest = false
       ∧ differs 1003 (ranges.ranger 2).rttEast = true ∧ 2 ≤ (ranges.ranger 2).diffEast)
    ∧ (differs 2 (wkr.ranger 0).rttEast = false ∧ differs 0 (wkr.ranger 0).rttWest = false ∧ wkr.tide.corr = 0)
    ∧ ((ranges.ranger 2).retryEast = decide ((0 : Side) = 0) ∧ (ranges.ranger 2).retryWest = decide ((0 : Side) = 1)
       ∧ (Tab.get {} ranges.ring.peers 2 : Peer).unacked.length < 8)
    ∧ (2 ∈ mgr2.joinedNodes ∧ (Tab.get {} mgr2.ring.peers 2 : Peer).unacked.length < 8)
    ∧ (let s : State := { mgr2 with ring := unacked 8 }; 2 ∈ s.joinedNodes ∧ 8 ≤ (Tab.get {} s.ring.peers 2 : Peer).unacked.length)
    ∧ (wkr.ring.join.joined = true ∧ (0 : BitVec 64) = wkr.ring.join.mgrNonce ∧ (1 : BitVec 64) ≠ wkr.ring.join.mgrNonce
       ∧ (0 : Fin 4).val = wkr.tide.state.code ∧ (3 : Fin 4).val ≠ wkr.tide.state.code)
    ∧ (ranged.isManager = false ∧ ranged.ring.join.joined = false ∧ ranged.ring.join.step = 5 ∧ ranged.tide.ranged = true)
    ∧ (joining 4).ring.join.step ≠ 5 ∧ (joining 5).tide.ranged = false := by decide

/-! ### Resets, rails, power, the Cistern -/

/-- RESET_N low; a device in BEACHED; one whose VIN-fail sequence runs. -/
def pinLow : State := { mgr with start := { mgr.start with resetPin := false } }
def beached : State := { mgr with power := { state := .beached, seq := .off } }
def failing (k : Nat) : State := { mgr with cistern := { mgr.cistern with run := k, vinOk := false } }

theorem witness_ResetCommands :
    (mgr.power.state ≠ .beached ∧ mgr.cistern.run = 0 ∧ mgr.power.state ≠ .moored)
    ∧ pinLow.start.resetPin = false ∧ mgr.isManager = true
    ∧ (0x52535431#32 ≠ 0x52535430#32) ∧ wkr.isManager = false ∧ beached.power.state = .beached
    ∧ ((failing 4).power.state ≠ .beached ∧ (failing 4).cistern.run ≠ 0) ∧ mgr.start.resetPin = true
    ∧ mgr.start.fwState ≠ 0 := by decide

/-- A warm CP restart in progress; an unconfirmed image; MAINTENANCE. -/
def warm : State := { mgr with start := { mgr.start with fwState := 3 } }
def trialImage : State := { mgr with start := { mgr.start with unconfirmed := true, image := true } }
def maint : State := { mgr with start := { mgr.start with fwState := 4, maint := true } }
/-- A boot from the second copy of the boot header, which names bank B; a ring boot whose image has come. -/
def boots : State :=
  { mgr with start := { mgr.start with
      fwState := 0, booting := true, startBank := true, bankB := { state := .valid, image := [1] }
      header1 := Start.headerBytes 7 { mgr.start with startBank := true, bankB := { state := .valid } } } }
def ringBoots (s : State) : State := { s with ring := { s.ring with join := { s.ring.join with imgDone := true, image := [1] } } }

set_option maxRecDepth 100000 in
theorem witness_RestartCommands :
    (mgr.start.fwState = 2 ∧ mgr.start.lastBite = none ∧ maint.start.fwState = 4) ∧ warm.start.fwState = 3
    ∧ trialImage.start.unconfirmed = true ∧ mgr.start.unconfirmed = false ∧ mgr.start.booting = false
    ∧ (let s : State := { boots with start := { boots.start with flashPresent := false } }
       s.start.booting = true ∧ s.clk.running = true ∧ s.isManager = true ∧ s.start.flashPresent = false)
    ∧ (boots.start.booting = true ∧ boots.clk.running = true ∧ boots.start.hasFlash = true
       ∧ boots.start.headerUsed = some true ∧ boots.start.readHeader = boots.start
       ∧ (boots.start.bank (!boots.start.startBank)).state ≠ .trial ∧ boots.start.resetCause ≠ 3)
    ∧ mgr.ring.join.imgDone = false
    ∧ (let s := ringBoots (joining 4); s.ring.join.imgDone = true ∧ s.isManager = false ∧ s.ring.join.joined = false
       ∧ s.ring.join.step = 4 ∧ s.start.booting = false)
    ∧ (let s := ringBoots wkr; s.ring.join.imgDone = true ∧ s.isManager = false ∧ s.ring.join.joined = true)
    ∧ (let s := ringBoots boots; s.ring.join.imgDone = true ∧ s.isManager = true ∧ s.start.booting = true ∧ s.start.hasFlash = true) := by
  decide

/-- Thermal step `k` in force, with `m` the mask of excluded sensors. -/
def hot (k m : Nat) : State := { mgr with power := { mgr.power with step := k, sensorBad := m } }

theorem witness_ThermalCommands :
    mgr.power.recheckFirst = false ∧ State.reset.start.fwState = 0
    ∧ ({ mgr with power := { mgr.power with state := .moored } } : State).power.state = .moored
    ∧ ((3 : Fin 4).val ≠ 0 ∧ (hot 3 1).power.step = (3 : Fin 4).val ∧ maskCount (hot 3 1).power.sensorBad < 2
       ∧ tjOf (hot 3 1).power.readings = none)
    ∧ (hot 1 0).power.step = (1 : Fin 4).val ∧ 2 ≤ maskCount (hot 2 3).power.sensorBad
    ∧ (hot 2 3).power.step = (2 : Fin 4).val := by decide

/-- The rail sequencer in a place of its sequence, with some enables and power-goods. -/
def rails (q : Seq) (en pg : Nat) : State :=
  { State.reset with power := { seq := q, en := en, pg := pg }, cistern := { vinOk := true } }

theorem witness_RailCommands :
    ((4 : Fin 6).val ≠ 5 ∧ bit (rails (.up 4) 0x1F 0x0F).power.en 4 = true ∧ (rails (.up 4) 0x1F 0x0F).power.seq = .up 4)
    ∧ (bit (rails (.up 5) 0x3F 0x1F).power.en 5 = true ∧ (rails (.up 5) 0x3F 0x1F).power.seq = .up 5)
    ∧ (bit (rails (.up 0) 1 0).power.en 0 = true ∧ bit (rails (.up 0) 1 0).power.pg 0 = false
       ∧ (rails (.up 0) 1 0).power.seq = .up 0)
    ∧ (rails .retryWait 0 0).power.seq = .retryWait ∧ mgr.power.seq ≠ .retryWait
    ∧ ((5 : Nat) ≠ 0 ∧ ¬ ((5 : Nat) = 4 ∧ bit (rails (.down 5) 0x1F 0x3F).power.en 2 = false)
      ∧ (rails (.down 5) 0x1F 0x3F).power.seq = .down 5)
    ∧ ((rails (.down 0) 0 1).power.seq = .down 0 ∧ (rails (.down 0) 0 1).power.wakePresent = none)
    ∧ ((rails (.mooredDown 5) 0x1F 0x3F).power.seq = .mooredDown 5 ∧ mooredBelow 5 = some 3)
    ∧ ((rails (.mooredDown 2) 0x13 0x17).power.seq = .mooredDown 2 ∧ mooredBelow 2 = none
       ∧ (rails (.mooredDown 2) 0x13 0x17).power.wakePresent = none)
    ∧ (bit mgr.power.en 5 = true ∧ bit mgr.power.pg 5 = true ∧ mgr.power.seq = .on)
    ∧ (bit (rails (.down 2) 0x03 0x07).power.en 1 = true ∧ (rails (.down 2) 0x03 0x07).power.seq = .down 2
       ∧ (rails (.down 2) 0x03 0x07).power.wakePresent = none) := by decide

/-- A power-state entry at its boundary; its drain; the halt at its end. -/
def entering (e : Entry) (p : Pwr) (mode : Nat) : State :=
  { mgr with power := { mgr.power with entry := some e, state := p, pwrMode := mode } }

/-- MOORED, with the rails that stay on, PWR_WAKE_N among the wake causes. -/
def moored : State := { mgr with power := { state := .moored, seq := .off, en := 0x13, pg := 0x13, wakeEn := 1 } }

theorem witness_PowerStateCommands :
    (let e : Entry := { drainMs := 10, wake := 17, timer := 600 }
     (entering e .run 0).power.entry = some e ∧ e.beached = false ∧ (entering e .run 0).power.state = .run
     ∧ e.drainMs ≠ 0 ∧ (entering e .draining 0).power.state = .draining)
    ∧ (let e : Entry := {}; e.drainMs = 0 ∧ (entering e .idle 0).power.state = .idle)
    ∧ (let e : Entry := { beached := true }; (entering e .idle 0).power.entry = some e ∧ e.beached = true)
    ∧ mgr.power.state ≠ .draining
    ∧ ((entering {} .halting 1).power.state = .halting ∧ (entering {} .halting 1).power.seq = .on
       ∧ (entering {} .halting 1).power.pwrMode = 1)
    ∧ ((entering {} .halting 2).power.pwrMode = 2 ∧ (entering {} .halting 2).power.wakePresent = none)
    ∧ mgr.power.state = .run
    ∧ (moored.power.state = .moored ∧ moored.power.seq = .off ∧ bit moored.power.wakeEn 0 = true
       ∧ moored.power.wakeRec.retVoid = false)
    ∧ (let q := req 32 15 ([0, BitVec.ofNat 8 2] ++ leBytes 2 1000 ++ leBytes 4 31 ++ leBytes 4 86400)
       session.admits 0x0A00 q ∧ 2 ≤ 3 ∧ (1000 ≤ 1000 ∧ 1 ≤ 31 ∧ 31 ≤ 31 ∧ bit 31 4 = true ∧ 86400 ≤ 86400)
       ∧ session.start.fwState = 2 ∧ session.start.unconfirmed = false ∧ session.start.write = none
       ∧ 2 ≠ session.power.state.code ∧ 0 = session.power.state.code) := by
  unfold State.admits
  decide

/-- Load switch `k` in a state, with an enable and a count of failures. -/
def lswIn (k : Nat) (x : Lsw) (run : Nat) : State :=
  { mgr with cistern := { mgr.cistern with switches := [(k, x)], run := run } }

theorem witness_LoadSwitchCommands :
    (((lswIn 3 { state := .softStart } 0).lsw 3).state = .softStart ∧ (lswIn 3 { state := .softStart } 0).cistern.lswQueue = [])
    ∧ ((1 : Fin 5).val ≠ 0 ∧ ((lswIn 0 { state := .on, fails := 7 } 0).lsw 0).state = .on
       ∧ 8 ≤ ((lswIn 0 { state := .on, fails := 7 } 0).lsw 0).fails + 1)
    ∧ (((lswIn 1 { state := .retryWait } 0).lsw 1).state = .retryWait ∧ (lswIn 1 { state := .retryWait } 0).cistern.run = 0)
    ∧ (((lswIn 1 { state := .retryWait } 4).lsw 1).state = .retryWait ∧ (lswIn 1 { state := .retryWait } 4).cistern.run ≠ 0)
    ∧ ((lswIn 2 {} 0).lsw 2).state ≠ .absent
    ∧ (((lswIn 2 { state := .absent } 0).lsw 2).state = .absent ∧ ((lswIn 2 { state := .absent } 0).lsw 2).enable = false)
    ∧ ((100 : Byte).toNat ≤ 100 ∧ session.admits 0x0A01 (lswReq (req 32 15 []) 0 3 0 100)
       ∧ session.admits 0x0A01 (lswReq (req 32 15 []) 0 3 1 100) ∧ session.admits 0x0A01 (lswReq (req 32 15 []) 0 3 2 0)
       ∧ ((lswIn 3 { state := .latched, enable := true } 0).lsw 3).state = .latched) := by
  unfold State.admits
  decide

theorem witness_CisternCommands :
    (mgr.cistern.run = 0 ∧ mgr.power.state = .run ∧ mgr.cistern.shed = none ∧ mgr.isManager = true)
    ∧ (failing 4).cistern.run = 4 ∧ (failing 4).cistern.run ≠ 0 ∧ mgr.cistern.run ≠ 4
    ∧ (failing 4).start.deferred = false ∧ (failing 6).cistern.run = 6
    ∧ (wkr.isManager = false ∧ wkr.cistern.run = 0 ∧ wkr.cistern.shed = none)
    ∧ (let s : State := { wkr with cistern := { wkr.cistern with shed := some 0 } }
       s.isManager = false ∧ s.cistern.run = 0 ∧ s.cistern.shed.isSome = true)
    ∧ (let s : State := { mgr with cistern := { mgr.cistern with charging := true, lastStore := 1000 } }
     s.cistern.run = 0 ∧ s.cistern.charging = true
     ∧ storeTrips s.cistern.inForce s.cistern.lastStore (1600 * s.cistern.inForce.storeDiv / 1000) = true)
    ∧ (let s : State := rails (.up 0) 0 0
       s.power.seq = .up 0 ∧ s.power.en = 0 ∧ s.power.vaon = true
       ∧ s.cistern.inForce.vinOk < 1001 * s.cistern.inForce.vinDiv / 1000)
    ∧ ({ mgr with cistern := { probe := true } } : State).cistern.probe = true ∧ mgr.cistern.probe = false := by decide

/-! ### The fibre line, caravans, bonding -/

theorem witness_EqdRoundTrip : (1187435 : Nat) ≤ eqdMaxBits false ∧ eqdMaxBits true ≤ eqdMaxBits true := by decide

def uni : PloamHdr := { seqno := 5, unicast := true }
def bro : PloamHdr := { seqno := 0, unicast := false }

/-- Lane 0 in O5.1 with a key of its own in bank 1, a remembered message, and entropy. -/
def remembered : State :=
  { mgrO5 with
    line := { lanes := [(0, { (laneIn .o5 (some 42)).lane 0 with
      memo := [{ seqno := 5, msg := .deactivate, resp := some .rogueNotice }] })] }
    cipher := { entropyOk := true, banks := [(0, { key := some 1 })] } }

theorem witness_PloamMessages :
    (mgrO5.hears 0 uni (.burstProfile 3 24 8 false true)
      ∧ (laneIn .o12 none).hears 0 bro (.burstProfile 3 24 8 false true) ∧ ((laneIn .o12 none).lane 0).act = .o12)
    ∧ ((laneIn .o23 none).hears 0 bro (.assignOnuId (mgr.serialOf 0) 42) ∧ ((laneIn .o23 none).lane 0).act = .o23)
    ∧ ((laneIn .o4 (some 42)).hears 0 uni (.rangingTime true false 1187435) ∧ ((laneIn .o4 (some 42)).lane 0).act = .o4
       ∧ 1187435 ≤ eqdMaxBits mgr.is25
       ∧ mgrO5.hears 0 uni (.rangingTime true false (eqdMaxBits mgr.is25 + 1)) ∧ eqdMaxBits mgr.is25 < eqdMaxBits mgr.is25 + 1)
    ∧ (mgrO5.hears 0 uni .deactivate ∧ (mgrO5.lane 0).act = .o5)
    ∧ (mgrO5.hears 0 bro (.disableSerial false (mgrO5.serialOf 0)) ∧ (mgrO5.lane 0).act ≠ .o7)
    ∧ (mgrO5.hears 0 uni .requestRegistration ∧ (mgrO5.lane 0).onuId.isSome = true ∧ (mgrO5.lane 0).upq.length < 8)
    ∧ (mgrO5.hears 0 uni (.assignAllocId 1041 false) ∧ (mgrO5.lane 0).allocs.contains 1041 = false ∧ mgrO5.allocCount < 128)
    ∧ (mgrO5.hears 0 uni (.assignAllocId 1040 true) ∧ (mgrO5.lane 0).allocs.contains 1040 = true)
    ∧ (remembered.hears 0 uni (.keyControl true 1) ∧ remembered.cipher.entropyOk = true)
    ∧ (remembered.hears 0 uni (.keyControl false 0) ∧ (remembered.lane 0).onuId.isSome = true
       ∧ (remembered.bank 0 0).newest.isSome = true)
    ∧ (mgrO5.hears 0 uni .sleepAllow ∧ mgrO5.hears 0 uni (.unknown 99 true) ∧ uni.unicast = true)
    ∧ (uni.unicast = true ∧ (remembered.lane 0).act ≠ .off ∧ (remembered.lane 0).sync = true
       ∧ (remembered.lane 0).onuId.isSome = true ∧ remembered.start.fwState ≠ 3 ∧ (remembered.lane 0).upq.length < 8
       ∧ (remembered.lane 0).memo.find? (fun x => uni.unicast && x.seqno == uni.seqno && x.msg == .deactivate)
          = some { seqno := 5, msg := .deactivate, resp := some .rogueNotice }) := by
  unfold State.hears
  and_intros <;> decide

theorem witness_PloamUnheardOrHeld :
    (mgr.lane 0).act = .off
    ∧ (let s : State := { mgrO5 with start := warm.start }
       (s.lane 0).act ≠ .off ∧ (s.lane 0).sync = true ∧ (s.lane 0).onuId.isSome = true ∧ s.start.fwState = 3
       ∧ (s.lane 0).heldPloam.length < 16) := by decide

/-- Lane 0 with LOS, lane 0 with a burst of more than 2 us just sent. -/
def dark (a : Act) : State := { mgr with line := { lanes := [(0, { act := a, los := true })] } }
def bursts : State :=
  { mgrO5 with line := { lanes := [(0, { mgrO5.lane 0 with burst := some (1000, 100533), rssiAt := 0 })] }, bnd := 8000 }

theorem witness_LineStateCommands :
    ((mgrO5.lane 0).act ≠ .off ∧ (mgrO5.lane 0).los = false ∧ (mgrO5.lane 0).act = .o5)
    ∧ ((laneIn .o12 none).lane 0).act = .o12 ∧ ((laneIn .o4 (some 1)).lane 0).act = .o4
    ∧ (((dark .o6).lane 0).act ≠ .off ∧ ((dark .o6).lane 0).los = true ∧ ((dark .o6).lane 0).act = .o6)
    ∧ (mgr.lane 0).act = .off ∧ (mgrO5.lane 0).sync = true ∧ (mgr.lane 0).sync = false
    ∧ (dsf.lane = 0 ∧ dsf.inSync = true ∧ bit mgrO5.clk.laneHold 0 = false ∧ mgrO5.clk.rootHold = false)
    ∧ ((laneIn .o11 none).lane 0).act = .o11 ∧ ((laneIn .o11 none).lane 0).los = false
    ∧ ((laneIn .o6 (some 1)).lane 0).act = .o6
    ∧ ((bursts.lane 0).act = .o5 ∧ (bursts.lane 0).txDis = false ∧ (bursts.lane 0).rssiAt + 8000 ≤ bursts.bnd
       ∧ (bursts.lane 0).burst = some (1000, 100533) ∧ 1000 + 99533 ≤ 100533 ∧ (mgrO5.lane 0).burst = none)
    ∧ ((mgrO5.lane 0).rogueLatch = false ∧ mgrO5.clk.rootHold = false)
    ∧ ((mgrO5.lane 0).onuId.isSome = true ∧ (mgrO5.lane 0).sync = true
       ∧ (mgrO5.line.omciHeld.filter (fun x => x.1 == 0)).length < 32)
    ∧ ({ mgrO5 with start := warm.start } : State).start.fwState = 3 := by decide

/-- A check that is not an OMCI message's own exists for every message. -/
theorem witness_omci_mic (s : State) (l : Nat) (b : List Byte) :
    (0 : Byte) :: s.omciMic l false b ≠ s.omciMic l false b := List.cons_ne_self 0 (s.omciMic l false b)

theorem witness_CaravanArithmetic :
    (0 < (1500 : Nat) ∧ fitBytes false 1500 91 ≠ 0 ∧ fitBytes false 1500 91 < 1500 ∧ minSpace false ≤ 91)
    ∧ (∃ t, exec (.allocationStructure 0 astr) mgrO5 = .next t) ∧ ∃ t, exec (.runAheadStage 0) mgrO5 = .next t :=
  ⟨by decide, ⟨_, rfl⟩, ⟨_, rfl⟩⟩

/-- Alloc-ID index 0 with eight grants behind it and one packet in its queue 2048. -/
def canStage : State :=
  { withPkt 2048 with
    line := { mgrO5.line with allocs := [(0, { grants := [(0, List.replicate 8 3000)] })] }
    cfg := { allocs := [(0, { maps := [(0, some 1040)] })] }
    tide := mgrO5.tide }

/-- The same with the packet staged and half of what was staged rewound. -/
def hasStagedPkt : State :=
  { canStage with
    pool := { free := 262143, staged := 1 }
    line := { mgrO5.line with
      allocs := [(0, { staged := [{ queue := 2048, packet := { bytes := [1, 2, 3] }, frame := 0, tier := 1, ptr := 0, deltas := [] }]
                       winStaged := 7, winRewound := 4 })] } }

/-- Lane 0 in O5.1 with burst profile 0 stored and EqD 742,145 ticks plus 3 bits (chapter 05, worked example). -/
def canSend : State :=
  { mgrO5 with
    line := { lanes := [(0, { mgrO5.lane 0 with
      eqd := { ticks := 742145, trim := 3 }, profiles := [{ index := 0, preamble := 24, delimiter := 8, fec := false, since := none }] })] } }

/-- A caravan on lane 0. -/
def cv : Caravan :=
  { lane := 0, alloc := 1040, index := none, launch := 1000, trim := 3, start := 8000, stop := 9000, grant := 10, data := 0
    idle := 10, ovh := 0, dbru := none, ploam := none, queued := false, items := [], profile := 0, fec := false, cont := false
    dg := false }

def waiting : State := { canSend with line := { canSend.line with pending := [cv] } }
def darkened : State :=
  { waiting with line := { waiting.line with lanes := [(0, { waiting.lane 0 with txDis := true })] } }

set_option maxRecDepth 20000 in
theorem witness_CaravanCommands :
    (let s := canStage
     let s0 := (s.raWindow 0).dropOvers 0
     s.isManager = true ∧ (s.alloc 0).suspended = none ∧ s.pool.recount = false ∧ s.clk.rootHold = false
     ∧ s0.upPick 0 true = some { queue := 2048, tier := 2, ptr := 2049, deltas := [(2048, 1503)] }
     ∧ (s0.queue 2048).pkts = [{ bytes := [1, 2, 3] }] ∧ ({ bytes := [1, 2, 3] } : Packet).writer = 0
     ∧ (s0.alloc 0).stagedBytes + ({ bytes := [1, 2, 3] } : Packet).total ≤ s0.stageLimit 0)
    ∧ wkr.isManager = false
    ∧ (hasStagedPkt.alloc 0).staged = [{ queue := 2048, packet := { bytes := [1, 2, 3] }, frame := 0, tier := 1, ptr := 0, deltas := [] }]
    ∧ (canStage.alloc 0).staged = []
    ∧ ((hasStagedPkt.alloc 0).suspended = none ∧ (hasStagedPkt.alloc 0).winStaged < 2 * (hasStagedPkt.alloc 0).winRewound)
    ∧ 2 * (canStage.alloc 0).winRewound ≤ (canStage.alloc 0).winStaged
    ∧ ((canSend.lane 0).sync = true ∧ astr.hec ≠ .uncorrectable ∧ (canSend.grantOf 0 astr).mine = true
      ∧ canSend.accepts 0 = true ∧ (canSend.lane 0).served < canSend.perFrame ∧ (canSend.lane 0).txDis = false
      ∧ canSend.profileOf 0 astr.profile astr.frame = some { index := 0, preamble := 24, delimiter := 8, fec := false, since := none }
      ∧ astr.startTime ≠ 0xFFFF ∧ canSend.line.pending = [] ∧ (canSend.lane 0).spans = [])
    ∧ ({ astr with hec := .uncorrectable } : AllocStruct).hec = .uncorrectable
    ∧ (canSend.grantOf 0 { astr with allocId := 7 }).mine = false ∧ (mgr.lane 0).sync = false
    ∧ (waiting.nextCaravan 0 = some cv ∧ (waiting.lane 0).txDis = false ∧ waiting.tide.state ≠ .holdover
      ∧ bit waiting.clk.laneHold 0 = false ∧ canSend.nextCaravan 0 = none)
    ∧ (darkened.nextCaravan 0 = some cv ∧ (darkened.lane 0).txDis = true) := by decide

/-- Bonded on lanes 0 and 1 with group 5; lane 1 waits to join. -/
def bonded : State :=
  { mgr with
    cfg := { line := { bonded := true, laneEn := 3, groups := [(5, { members := 3 })] } }
    line := { lanes := [(0, { act := .o5, sync := true, onuId := some 1, skewRun := 8 }), (1, { act := .o5, sync := true, onuId := some 2 })]
              joins := [(0, { inGroup := true }), (1, { upAcked := true })]
              groups := [(5, { lanes := 1, exp := some 0x410, timer := some 64
                               frags := [{ seq := 0x411, first := false, last := true, bytes := [1], arrival := 0, port := 9 }]
                               waits := [{ msg := { grp := 5, msgSeq := 7, body := .laneUp 1 }, resends := 7 }], acted := [3] })] } }

def cm (n : Nat) (b : CtrlBody) : CtrlMsg := { grp := 5, msgSeq := n, body := b }

theorem witness_BondingCommands :
    ((bonded.joinLane 0).inGroup = true ∧ 8 ≤ (bonded.lane 0).skewRun) ∧ (bonded.joinLane 1).inGroup = false
    ∧ (bonded.groupsOf 1 ≠ [] ∧ (bonded.lane 1).act = .o5 ∧ (bonded.joinLane 1).upAcked = true)
    ∧ (bonded.joinLane 0).upAcked = false
    ∧ ((bonded.groupsOf 0).contains (cm 4 (.resync 9)).grp.val = true ∧ (cm 4 (.resync 9)).body ≠ .ack
       ∧ (bonded.group 5).acted.contains 4 = false ∧ (bonded.group 5).acted.contains 3 = true)
    ∧ bonded.ctrlLane 5 = some 0
    ∧ (bonded.group 5).waits.find? (fun x => x.msg.msgSeq == 7) = some { msg := cm 7 (.laneUp 1), resends := 7 }
    ∧ (bonded.cfg.line.bonded = true ∧ (bonded.group 5).lanes ≠ 0)
    ∧ ((bonded.group 5).timer.isSome = true ∧ (bonded.group 5).exp = some 0x410
       ∧ (bonded.group 5).frags.filter (·.first) = [])
    ∧ (bonded.group 6).timer = none := by decide

theorem witness_control_message_completes : ∃ t, exec (.bondingControlMessage 0 (cm 4 (.resync 9))) bonded = .next t := ⟨_, rfl⟩

/-! ### The pool, queues, schedulers, ports and E1 -/

theorem witness_TakeKeepsReservations :
    takeCells 0 1000 0 true 1 0 999 1 = .ok ∧ takeCells 0 1000 0 true 1 0 1000 1 ≠ .ok ∧ takeCells 0 1000 1 true 1 0 999 1 ≠ .ok := by
  decide

/-- Queue 25 waits for its flush; a recount. -/
def flushes : State :=
  { mgr with
    pool := { queues := [(25, { pkts := [{ bytes := [1] }, { bytes := [2] }], flush := some 1 })], free := 262142, queued := 2 } }
def recounts : State := { mgr with pool := { recount := true } }
def noCells : State := { portUp with pool := { free := 0, queued := 262144 } }

set_option maxRecDepth 20000 in
theorem witness_PacketCommands :
    (recounts.queueUsed 25 = true ∧ ([1] : List Byte) ≠ [] ∧ recounts.pool.recount = true)
    ∧ (mgr.queueUsed 25 = true ∧ mgr.pool.recount = false ∧ mgr.egressTakes 25 = false)
    ∧ (portUp.egressTakes 25 = true ∧ portUp.intakeStopped = false ∧ ¬ (2048 ≤ 25)
       ∧ portUp.mayTake 25 (mkPacket [1] false (portUp.cfg.ownerOf (portUp.obj 2 25))).owner
          (mkPacket [1] false (portUp.cfg.ownerOf (portUp.obj 2 25))).cells = .ok)
    ∧ noCells.mayTake 25 0 1 ≠ .ok ∧ wkr.queueUsed 2048 = false
    ∧ ((flushes.queue 25).flush = some 1 ∧ (flushes.queue 25).sending = false ∧ flushes.pool.recount = false
      ∧ flushes.hasStaged 25 = false) ∧ (mgr.queue 25).flush = none := by decide

set_option maxRecDepth 20000 in
theorem witness_FifoCommands :
    (mgr2.isManager = true ∧ mgr2.joined 2 = true
      ∧ mgr2.evt.qthFifo.any (fun w => w.toNat / 2 ^ 16 == (qthEntry 2 40 9).toNat / 2 ^ 16) = false)
    ∧ mgr2.joined 3 = false
    ∧ (cntNamed 0x502 = true ∧ Tab.get 0 ({ mgr with cnt := [(0x502, 2 ^ 39 - 1)] } : State).cnt 0x502 < 2 ^ 39
       ∧ mgr.evt.cntFifo.length < 512)
    ∧ cntNamed 0x5FF = false ∧ mgr.evt.qthFifo = [] ∧ mgr.evt.cntFifo = []
    ∧ (let s : State := { mgr with evt := { qthFifo := [5], cntFifo := [6] } }
       s.power.state = .run ∧ s.clk.rootHold = false ∧ s.evt.qthFifo = [5] ∧ s.evt.cntFifo = [6]) := by decide

theorem witness_LedgerCommands :
    recounts.pool.recount = true ∧ mgr.pool.recount = false ∧ mgr.clk.rootHold = false ∧ mgr.ring.reasm = []
    ∧ (∀ w, w < 40 → mgr.writing w = none) ∧ (mgr.pool.cellsOk = true ∧ mgr.pool.grantBad = [])
    ∧ ({ mgr with pool := { free := 262143 } } : State).pool.cellsOk = false := by decide

/-- No writer writes where no queue holds a packet. -/
theorem witness_writing (w : Nat) : mgr.writing w = none := rfl

/-- A gate list waits on port 3; a packet waits for group 4 whose one member is port 3, class 1. -/
def gated : State :=
  { portUp with
    sched := { gates := [(3, { admin := some ({ enable := true, entries := [(124416, 0x80), (1430784, 0x7F)] }, 0) })] }
    cfg := { ports := [(objId 0 1 3, { enable := true })], mcasts := [(objId 0 0xC 4, { members := [(3, 1)] })] }
    pool := { queues := [(1540, { pkts := [{ bytes := [9] }] })], free := 262143, queued := 1 } }

/-- Port 3 with its class 7 strict and a packet there. -/
def strict7 : State :=
  { withPkt 31 with
    ports := [(3, { link := true })]
    cfg := { ports := [(objId 0 1 3, { enable := true })], sched := [(objId 0 1 3, { nstrict := 1 })] } }

set_option maxRecDepth 20000 in
theorem witness_SchedulingCommands :
    ((gated.gate 3).admin = some ({ enable := true, entries := [(124416, 0x80), (1430784, 0x7F)] }, 0) ∧ gated.clk.rootHold = false)
    ∧ (mgr.gate 3).admin = none
    ∧ (gateMask (gated.gate 5).oper gated.tide.ticks = 0xFF
       ∧ (let s : State := { gated with sched := { gates := [(5, { mask := 1 })] } }
          gateMask (s.gate 5).oper s.tide.ticks ≠ (s.gate 5).mask))
    ∧ ((gated.queue (1536 + 4)).pkts = [{ bytes := [9] }] ∧ gated.pool.recount = false ∧ ({ bytes := [9] } : Packet).writer = 0
       ∧ (gated.cfg.mcast (gated.obj 0xC 4)).members = [(3, 1)] ∧ (gated.cfg.mcast (gated.obj 0xC 4)).nodeMask = 0
       ∧ gated.intakeStopped = false ∧ gated.egressTakes 25 = true
       ∧ gated.mayTake 25 (gated.cfg.ownerOf (gated.obj 0xC 4)) 1 = .ok ∧ ({ bytes := [9] } : Packet).cells = 1)
    ∧ (mgr.queue 1540).pkts = []
    ∧ (let s := strict7
       let s1 := (List.range 8).foldl (fun t c =>
         (State.dropHeads (8 * 3 + c) (t.queue (8 * 3 + c)).pkts t).shape (8 * 3 + c)) s
       let strict := ((List.range (s1.cfg.schedOf (s1.obj 1 3)).nstrict).map (fun i => 7 - i)).find? (fun c => s1.eligible 3 c)
       (s.port 3).link = true ∧ (s.port 3).tx = none ∧ s.pool.recount = false ∧ s.clk.rootHold = false ∧ strict = some 7
       ∧ (s1.queue (8 * 3 + 7)).pkts = [{ bytes := [1, 2, 3] }] ∧ (mgr.port 3).link = false) := by decide

/-- A policer of 1,000 bytes each, with the buckets at a level. -/
def pol : PolicerCfg := { enable := true, aware := true, cir := 8000, pir := 16000, cbs := 1000, pbs := 1000 }
def lev (c p : Nat) : PolicerState := { c := { tok := c * byteUnits }, p := { tok := p * byteUnits } }

theorem witness_MeterKeepsItsBuckets :
    (meter pol 100 0 .green (lev 1000 1000)).1 = .green ∧ (meter pol 100 0 .green (lev 99 1000)).1 = .yellow
    ∧ (meter pol 100 0 .green (lev 1000 99)).1 = .red := by decide

/-- Port 3 enabled with its link down; with auto-negotiation; with a PHY. -/
def portDown (c : PortCfg) : State :=
  { mgr with cfg := { ports := [(objId 0 1 3, { c with enable := true })] }, ports := [(3, { phyLink := true })] }

/-- A frame of 64 bytes with its FCS, for queue 25 by the classifier entry. -/
def frame64 : List Byte := withFcs false (List.replicate 12 0 ++ [0x08, 0x00] ++ List.replicate 46 0)
def classified : State :=
  { portUp with
    cfg := { portUp.cfg with classes := [(objId 0 4 0, { valid := true, ports := 8, queue := 25, policer := 0xFFFF })] } }
def entry0 : Nat × ClassCfg := (objId 0 4 0, { valid := true, ports := 8, queue := 25, policer := 0xFFFF })
/-- A frame in transmission, whole or with its packet still being written by port 5. -/
def sendsFrame (w : Nat) : State :=
  { portUp with ports := [(3, { link := true, tx := some { queue := 25, packet := { bytes := [1, 2, 3], writer := w }, charged := 3 }
                                pauseBerths := [1] })]
                pool := { portUp.pool with queues := [(25, { pkts := [{ bytes := [1, 2, 3], writer := w }], sending := true })] } }

set_option maxRecDepth 100000 in
theorem witness_PortCommands :
    (((portDown {}).port 3).link = false ∧ (portDown {}).portServes 3 = true ∧ ((portDown {}).portCfg 3).anEn = false
      ∧ ((portDown {}).portCfg 3).phyAddr = 0xFF)
    ∧ (((portDown { phyAddr := 4 }).port 3).phyLink = true ∧ ((portDown { phyAddr := 4 }).portCfg 3).phyAddr ≠ 0xFF
       ∧ (portDown { phyAddr := 4 }).mdioIdle = false ∧ (portDown { phyAddr := 4 }).clk.rootHold = false)
    ∧ ((portDown { anEn := true }).portServes 3 = true ∧ ((portDown { anEn := true }).portCfg 3).anEn = true)
    ∧ mgr.portServes 3 = false ∧ (portUp.port 3).link = true
    ∧ ((portUp.port 3).tx = none ∧ (portUp.port 3).rx = none ∧ portUp.pool.recount = false ∧ (portUp.queue 25).sending = false
       ∧ portUp.hasStaged 25 = false ∧ (portUp.queue 25).pkts.any (fun k => k.writer != 0) = false)
    ∧ (portUp.portCfg 3).enable = true ∧ (mgr.portCfg 3).enable = false ∧ (mgr.portCfg 3).phyAddr = 0xFF
    ∧ (mgr.port 3).link = false
    ∧ (let s : State := { portUp with clk := { mgr.clk with rootHold := true } }
       (s.port 3).link = true ∧ (s.port 3).rx = none ∧ s.writing (3 + 1) = none ∧ s.clk.rootHold = true)
    ∧ (classified.isManager = true ∧ (classified.port 3).link = true ∧ (classified.port 3).rx = none
       ∧ classified.writing (3 + 1) = none ∧ classified.clk.rootHold = false
       ∧ classified.pool.recount = false ∧ classified.intakeStopped = false ∧ 64 ≤ frame64.length
       ∧ frame64.length ≤ (classified.portCfg 3).maxLen ∧ fcsGood frame64 = true ∧ be16At frame64 12 ≠ 0x8808
       ∧ classified.classify 3 (frame64.take (frame64.length - 4)) = some entry0 ∧ classified.classify 3 frame64 = some entry0
       ∧ classified.egressTakes 25 = true
       ∧ (let x := mkPacket (tagEdit 0 0 0 (frame64.take (frame64.length - 4))) false (classified.cfg.ownerOf (objId 0 4 0))
          classified.mayTake 25 x.owner x.cells = .ok)
       ∧ (let x := rxPacket classified.cfg entry0.1 entry0.2 (rxStored (classified.portCfg 3).maxLen frame64) false
          classified.mayTake 25 x.owner x.cells = .ok))
    ∧ fcsGood (List.replicate 64 (0 : Byte)) = false
    ∧ (((sendsFrame 0).port 3).tx = some { queue := 25, packet := { bytes := [1, 2, 3] }, charged := 3 }
       ∧ ((sendsFrame 0).queue 25).flush = none ∧ (sendsFrame 0).clk.rootHold = false)
    ∧ ((sendsFrame 6).port 3).tx = some { queue := 25, packet := { bytes := [1, 2, 3], writer := 6 }, charged := 3 }
    ∧ (portUp.port 3).tx = none ∧ ((sendsFrame 0).port 3).pauseBerths = [1] ∧ (portUp.port 3).pauseBerths = [] := by decide

/-- E1 port 2 with CRC-4 or loop timing, on RCLK or not. -/
def e1With (c : E1Cfg) (x : E1) : State :=
  { mgr with cfg := { e1s := [(objId 0 7 2, { c with enable := true })] }, e1s := [(2, x)] }

/-- The circuit of E1 port 2 plays, with a packet in its jitter buffer and one in its delivery queue. -/
def plays (fill : Bool) (b : List Byte) : State :=
  { cesUp with
    e1s := [(2, { playing := true, gather := [List.replicate 32 7] })]
    pool := { queues := [(1202, { pkts := [{ bytes := b, check := crc32c b }] })]
                ++ (if fill then [(1210, { pkts := [{ bytes := b, check := crc32c b }] })] else [])
              free := 262142, queued := 2 } }

/-- A circuit emulation packet of SEQ 0 and 32 payload bytes. -/
def cesBytes : List Byte := cesPacket false { enable := true } 0 false false (List.replicate 32 5)

set_option maxRecDepth 100000 in
theorem witness_E1Commands :
    e1Up.e1Runs 2 = true ∧ 2 ≤ ((e1With {} { slip := [[1], [2]] }).e1 2).slip.length
    ∧ ((e1Up.e1Cfg 2).framed = true ∧ (e1Up.e1Cfg 2).crc4 ≠ 0 ∧ (e1Up.e1 2).defects.getLsbD (defectPos .lomf) ≠ true)
    ∧ mgr.e1Runs 2 = false ∧ (e1Up.e1 2).rclkLost = false
    ∧ (let s := e1With { loopTx := true } { rclkLost := true }
       s.e1Runs 2 = true ∧ (s.e1Cfg 2).loopTx = true ∧ (s.e1 2).rclkLost = true
       ∧ (Tab.get {} s.clk.muxes (6 + 2) : ClkMux).selB = false)
    ∧ (e1Up.e1Cfg 2).crc4 = 2 ∧ ((e1With { crc4 := 1 } {}).e1Cfg 2).crc4 ≠ 2
    ∧ (let s := plays true cesBytes
       let c := s.cesCfg 2
       s.e1Runs 2 = true ∧ s.cesOn 2 = true ∧ c.pktFrames ≤ (s.e1 2).gather.length ∧ s.isManager = true
       ∧ s.pool.recount = false ∧ s.intakeStopped = false ∧ s.clocked 6 = true ∧ s.clk.rootHold = false
       ∧ (s.queue (1200 + 2)).pkts = [{ bytes := cesBytes, check := crc32c cesBytes }]
       ∧ (s.queue (1208 + 2)).pkts = [{ bytes := cesBytes, check := crc32c cesBytes }]
       ∧ cesAccepts false c cesBytes = true ∧ cesAccepts false c [1] = false
       ∧ (cesUp.e1 2).playing = false ∧ (s.e1 2).playing = true ∧ (s.e1 2).skip = false ∧ (s.e1 2).txq = []
       ∧ pktSeq c cesBytes = (s.e1 2).nextSeq
       ∧ (cesFrames false c cesBytes).headD [] ≠ [] ∧ (cesFill false c []).headD [] ≠ [])
    ∧ mgr.cesOn 2 = false ∧ (((plays false cesBytes).queue (1208 + 2)).pkts = []) ∧ (cesUp.queue 1202).pkts = [] := by decide

/-! ### The cipher, the ring and its membership -/

/-- Slot 5, bank 2: erased and not yet zeroised. -/
def erasing : State :=
  { mgr with cipher := { entropyOk := true, banks := [(11, { erasing := true, erased := true })] } }

/-- A job of the PLOAM integrity check, of two blocks. -/
def job : MaskJob := { work := .ploam, mode := .cmac, wide := false, slot := 3, iv := [], data := List.replicate 32 1 }

set_option maxRecDepth 20000 in
theorem witness_CipherCommands :
    erasing.cipher.entropyOk = true ∧ mgr.cipher.entropyOk = false ∧ (mgr.isManager || mgr.start.hasFlash) = true
    ∧ (let s : State := { wkr with start := { wkr.start with flashPresent := false } }; (s.isManager || s.start.hasFlash) = false)
    ∧ ((mgr.cipher.sample (List.replicate 32 true)).2 = true)
    ∧ ((erasing.bank 5 1).erasing = true ∧ erasing.bankBusy 5 1 = false) ∧ (mgr.bank 5 1).erasing = false
    ∧ (jobParts job).head?.isSome = true ∧ (nextJob 0 (jobParts job)).isSome = true ∧ mgr.cipher.jobs = []
    ∧ 6220800 ≤ 778 * (if mgr.clk.coreSave then 10 else 8) * 1000
    ∧ Tab.get 0 mgr.evt.windows (windowKey 551 0) ≤ mgr.bnd := by decide

/-- The overhead of a frame of lane 0 with a pointer. -/
def head (ndf ptr : Nat) : RingHead :=
  { frameNo := 0, label := 0, req := 0, spanFar := 0, txNode := 0, longPath := false, status := 0, ndf := ndf, ptr := ptr
    stuff := 0, credits := [], slot := [], bip := 0 }

/-- A container to this manager of node 2's data, one whole packet. -/
def box0 : Container :=
  { dst := 0, src := 2, cclass := 1, first := true, last := true, gen := 0, valid := true, turns := 0, trunc := false
    bad := false, epoch := false, oper := false, berth := 0, queue := 25, check := crc32c [9], crValid := false, crNode := 0
    crClass := 0, crEpoch := false, crCum := 0, crcOk := true, cell := [9] }

set_option maxRecDepth 100000 in
theorem witness_RingArithmetic :
    (let x : RingLane := { value := 271 }
     x.value < 272 ∧ 3 ≤ ones (((head 6 (271 ^^^ 0x2A0)).ptr ^^^ x.value) &&& iBits)
     ∧ ones (((head 6 (271 ^^^ 0x2A0)).ptr ^^^ x.value) &&& dBits) = 0
     ∧ 3 ≤ ones (((head 6 (271 ^^^ 0x150)).ptr ^^^ x.value) &&& dBits)
     ∧ ones (((head 6 (271 ^^^ 0x150)).ptr ^^^ x.value) &&& iBits) = 0 ∧ (head 9 271).ptr ≤ 271 ∧ (head 6 271).ptr = x.value)
    ∧ (let x : RingLane := { value := 1 }
       let a := 0
       let h (k : Fin 3) := head 6 (if k = 0 then a else if k = 1 then nextValue a ringPayload
         else nextValue (nextValue a ringPayload) ringPayload)
       let v (k : Fin 3) := if k = 0 then x.value else if k = 1 then nextValue x.value ringPayload
         else nextValue (nextValue x.value ringPayload) ringPayload
       x.candN = 0 ∧ x.value < 272 ∧ (h 0).ptr < 272 ∧ (h 0).ptr ≠ x.value
       ∧ ∀ k : Fin 3, (h k).ndf = 6 ∧ ones (((h k).ptr ^^^ v k) &&& iBits) < 3 ∧ ones (((h k).ptr ^^^ v k) &&& dBits) < 3)
    ∧ (let r : CreditRec := { owner := 0, origin := 2, cclass := 1, epoch := false, cum := 3 }
       let l := mgr.link_ mgr.self r.origin.val r.cclass.val
       let s : State := { mgr with ring := { links := [(linkKey 0 2 1, { sent := 5, held := initCredit 1 - 5, epoch := false })] } }
       r.epoch = l.epoch ∧ l.reinit = false
       ∧ ((s.creditBack r).link_ s.self r.origin.val r.cclass.val).out ≤ initCredit 1
       ∧ ({ r with epoch := true } : CreditRec).epoch ≠ l.epoch ∧ linkKey 0 2 2 ≠ linkKey mgr.self r.origin.val r.cclass.val)
    ∧ (let s := { portUp with ring := mgr2.ring }
       let c := box0
       let r : Reasm := { queue := c.queue.val, owner := if c.oper then 0 else c.berth.val + 1 }
       let k := c.src.val * 8 + c.cclass.val
       c.crcOk = true ∧ c.cclass.val < 5 ∧ c.crValid = false ∧ c.valid = true ∧ c.dst.val = s.self ∧ s.isManager = true
       ∧ s.genOk c = true ∧ c.first = true ∧ c.last = true ∧ s.reasmOf k = none ∧ s.pool.recount = false
       ∧ s.queueUsed c.queue.val = true ∧ s.intakeStopped = false ∧ s.egressTakes c.queue.val = true
       ∧ s.mayTake r.queue r.owner 1 = .ok ∧ c.cell ≠ [] ∧ c.cell.length ≤ 256
       ∧ c.epoch = (s.end_ c.src.val s.self c.cclass.val).epoch ∧ ¬ (2048 ≤ c.queue.val)) := by decide

theorem witness_DccKeepsEightUnacknowledged :
    (Tab.get {} (unacked 7).peers 2 : Peer).unacked.length < 8 ∧ 8 ≤ (Tab.get {} (unacked 8).peers 2 : Peer).unacked.length
    ∧ (Tab.get {} (unacked 8).peers 2 : Peer).unacked.length ≤ 8 ∧ (3 : Nat) ≠ 2 := by decide

/-- The EAST side with a state; a worker with both sides held by a failure. -/
def sideIs (x : RingSide) : State := { mgr with ring := { sides := [(0, x)] } }
def sdWraps : State := sideIs { sd := true, wrapped := true, neighbour := 1, faultNeighbour := 1 }
def bypassed : State := { wkr with ring := { wkr.ring with join := { wkr.ring.join with bypOpen := true } } }

theorem witness_RingSpanCommands :
    (sdWraps.ringOn 0 = true ∧ (sdWraps.side 0).sd = true ∧ (sdWraps.side 0).sf = false ∧ (sdWraps.side 0).cmd = 0
       ∧ (sdWraps.side 0).wrapped = true ∧ (sdWraps.side 0).onlyLabel = false
       ∧ (sdWraps.side 0).neighbour = (sdWraps.side 0).faultNeighbour)
    ∧ (untimed.ringOn 0 = true ∧ untimed.isManager = false ∧ (untimed.side (1 - 0)).sf = true ∧ untimed.tide.state ≠ .unanchored)
    ∧ (((sideIs {}).setCond 0 .los false).hardSf 0 = false ∧ (((sideIs {}).setCond 0 .los false).side 0).labelSf = false)
    ∧ (((sideIs { sf := true }).side 0).wrapped = false ∧ (sideIs { sf := true }).wrapDue 0 = true
       ∧ (sideIs { sf := true }).ringOn 0 = true)
    ∧ ((sideIs { wrapped := true }).side 0).wrapped = true ∧ (sideIs {}).wrapDue 0 = false
    ∧ (let s := sideIs { wtr := true, wrapped := true }; (s.side 0).wtr = true ∧ s.ringOn 0 = true)
    ∧ ((sideIs {}).side 0).wtr = false ∧ State.reset.ringOn 0 = false
    ∧ bypassed.ring.join.bypOpen = true ∧ wkr.ring.join.bypOpen = false := by decide

/-- EAST lane 0 in frame with its descrambler at zero. -/
def inFrame : State := { mgr with ring := { lanes := [(0, { inFrame := true, los := false })] } }
/-- A side with a neighbour that is a second manager; a link that re-initialises. -/
def reinits : State := { mgr with ring := { links := [(linkKey 0 2 1, { reinit := true })] } }

set_option maxRecDepth 100000 in
theorem witness_RingTrafficCommands :
    (mgr.ringOn 0 = true ∧ (((mgr.rlane 0 0).align (([] : List Byte).take 8 == alignPattern)).open_ []).1.inFrame = false)
    ∧ (let x := ((inFrame.rlane 0 0).align true).open_ alignPattern
       inFrame.ringOn 0 = true ∧ x.1.inFrame = true ∧ alignPattern.take 8 = alignPattern
       ∧ (inFrame.rlane 0 (other 0)).inFrame = false ∧ (inFrame.rlane 0 (other 0)).rxDone = []
       ∧ (inFrame.rlane 0 (other 0)).rxSlots = [])
    ∧ (mgr.txLabel 0 ≠ 1 ∧ ((sideIs { managerSeen := true }).side 0).managerSeen = true) ∧ State.reset.ringOn 0 = false
    ∧ (reinits.link_ reinits.self 2 1).reinit = true ∧ (mgr.link_ mgr.self 2 1).reinit = false := by decide

/-- An IMG_REQ of node 2 to this manager, its bytes with their MAC, and the manager when node 2's last number was `n`. -/
def imgMsg (n : Nat) : DccMsg := { dmsg 2 0 n .imgReq with unnumbered := n = 0 }
def imgWire (s : State) (n : Nat) : List Byte :=
  let h := DccMsg.head (imgMsg n)
  h.bytes ++ dccMac (s.dccKeysFor h []) h []
def lastWas (n : Nat) : State := { mgr2 with ring := { mgr2.ring with peers := [(2, { lastDelivered := n })] } }

theorem img_parses (r : List Byte) (n : Nat) (hn : n = 0 ∨ n = 1 ∨ n = 2) (hr : r.length = 16) :
    parseDcc ((DccMsg.head (imgMsg n)).bytes ++ r) = some (DccMsg.head (imgMsg n)) := by
  rcases hn with rfl | rfl | rfl <;>
  · have e : ∀ b : List Byte, b.length = 16 → ∀ i k, i + k ≤ 16 → beAt (b ++ r) i k = beAt b i k := by
      intro b hb i k hi
      simp [beAt, List.drop_append, List.take_append, hb, show k - (16 - i) = 0 by omega, show i - 16 = 0 by omega]
    simp only [parseDcc, e _ (DccHead.bytes_length _) _ _ (by decide : 0 + 1 ≤ 16),
      e _ (DccHead.bytes_length _) _ _ (by decide : 1 + 1 ≤ 16), e _ (DccHead.bytes_length _) _ _ (by decide : 2 + 1 ≤ 16),
      e _ (DccHead.bytes_length _) _ _ (by decide : 3 + 1 ≤ 16), e _ (DccHead.bytes_length _) _ _ (by decide : 4 + 2 ≤ 16),
      e _ (DccHead.bytes_length _) _ _ (by decide : 6 + 2 ≤ 16), e _ (DccHead.bytes_length _) _ _ (by decide : 8 + 2 ≤ 16),
      List.length_append, DccHead.bytes_length, hr]
    decide

/-- The bytes are a message that the manager takes, with a good MAC, and they spell it. -/
theorem img_heard (s : State) (n : Nat) (hn : n = 0 ∨ n = 1 ∨ n = 2) (hs : s.start.manager = true) :
    let h := DccMsg.head (imgMsg n)
    let b := imgWire s n
    let k := s.dccKeysFor h (dccEnc h b)
    parseDcc b = some h ∧ s.takes h (dccEnc h b) = true ∧ dccGood k h b = true ∧ dccOpen k h b = some (imgMsg n) := by
  have g := dccGood_empty (s.dccKeysFor (DccMsg.head (imgMsg n)) []) (DccMsg.head (imgMsg n)) rfl
  have hr : (dccMac (s.dccKeysFor (DccMsg.head (imgMsg n)) []) (DccMsg.head (imgMsg n)) []).length = 16 := by
    have := g.2; simp at this; omega
  have e : dccEnc (DccMsg.head (imgMsg n)) (imgWire s n) = [] := List.take_zero
  refine ⟨img_parses _ n hn hr, ?_, ?_, ?_⟩
  · show (if s.isManager then decide ((0 : NodeNo).val = 0) else _) = true
    rw [show s.isManager = true from hs]; rfl
  · simp only [e]; unfold imgWire; exact g.1
  · simp only [e]; rfl

theorem witness_DccReceiver :
    let p (s : State) : Peer := Tab.get {} (s.inc (rgCnt 0 24)).ring.peers 2
    parseDcc [] = none
    ∧ ((imgMsg 1).bcast = false ∧ (imgMsg 1).ackOnly = false ∧ (imgMsg 1).unnumbered = false ∧ (imgMsg 1).msgSeq ≠ 0
       ∧ (p mgr2).unacked = [] ∧ (imgMsg 1).msgSeq = nextMsg (p mgr2).lastDelivered)
    ∧ ((imgMsg 1).msgSeq ≠ nextMsg (p (lastWas 1)).lastDelivered
       ∧ ((p (lastWas 1)).lastDelivered + 65536 - (imgMsg 1).msgSeq) % 65536 < 32768)
    ∧ ((imgMsg 2).msgSeq ≠ nextMsg (p mgr2).lastDelivered
       ∧ 32768 ≤ ((p mgr2).lastDelivered + 65536 - (imgMsg 2).msgSeq) % 65536)
    ∧ ((imgMsg 0).ackOnly = false ∧ (imgMsg 0).unnumbered = true)
    ∧ (mgr2.start.manager = true ∧ (lastWas 1).start.manager = true)
    ∧ (let h := DccMsg.head (dmsg 0 2 1 .tsReq); mgr2.numbered = true ∧ h.unnumbered = false ∧ h.src.val = mgr2.self)
    ∧ (let h := DccMsg.head (dmsg 2 3 1 .tsReq)
       ¬ (mgr2.numbered = true ∧ h.unnumbered = false ∧ h.src.val = mgr2.self) ∧ mgr2.takes h [] = false) := by decide

/-- A message with a body of its own whose MAC is missing is none that is good. -/
theorem witness_bad_mac (k : DccKeys) (h : DccHead) (h0 : h.len = 0) : dccGood k h h.bytes = false := by
  have hm := (dccGood_empty k h h0).2
  simp only [List.length_append, DccHead.bytes_length] at hm
  simp only [dccGood, dccEnc, h0, Nat.add_zero, List.drop_of_length_le (Nat.le_of_eq (DccHead.bytes_length h)),
    List.take_nil]
  cases e : dccMac k h [] with
  | nil => simp [e] at hm
  | cons a t => rfl

/-- A message to peer 2 sent `k` times. -/
def sentTimes (k : Nat) : Unacked := { msg := dmsg 0 2 7 .tsReq, wire := [1, 2, 3], sends := k, frame := 0 }
def resends (k : Nat) (s : State) : State :=
  { s with ring := { s.ring with peers := [(2, { unacked := [sentTimes k], nextSeq := 8 })] } }

theorem witness_dcc_retransmission :
    ((Tab.get {} (resends 16 mgr2).ring.peers 2 : Peer).unacked.find? (fun u => u.msg.msgSeq == 7) = some (sentTimes 16)
      ∧ (sentTimes 16).sends < 17)
    ∧ ((Tab.get {} (resends 17 mgr2).ring.peers 2 : Peer).unacked.find? (fun u => u.msg.msgSeq == 7) = some (sentTimes 17)
      ∧ 17 ≤ (sentTimes 17).sends ∧ (resends 17 mgr2).isManager = true ∧ (resends 17 mgr2).joined 2 = true)
    ∧ (resends 17 wkr).isManager = false
    ∧ (Tab.get {} mgr2.ring.peers 2 : Peer).unacked.find? (fun u => u.msg.msgSeq == 7) = none := by decide

/-- A worker's join request. -/
def jreq : JoinRequest :=
  { serial := 0x22, nonce := 9, isManager := false, version := 0, east := 0x33, west := 0x44, position := 3, side := 0 }
/-- The manager with that worker's entry, as it stood before. -/
def entryWas (x : NodeEntry) : State :=
  { mgr with ring := { nodes := [(4, { x with used := true, serial := 0x22 })], enabled := true } }

theorem witness_ManagerJoinCommands :
    mgr.isManager = true ∧ ({ jreq with isManager := true } : JoinRequest).isManager = true ∧ jreq.isManager = false
    ∧ ({ mgr with ring := { collecting := some [jreq] } } : State).ring.collecting = some [jreq]
    ∧ (mgr.ring.collecting = none ∧ mgr.ring.nodes.any (fun x => x.2.used) = false)
    ∧ (let s := entryWas { nonce := some 9, holdEnd := 5 }
       s.ring.collecting = none ∧ s.ring.nodes.any (fun x => x.2.used) = true
       ∧ (imgCompat s.served).toNat ≤ jreq.version.toNat
       ∧ s.ring.entryOf jreq.serial = some 4 ∧ (s.node 4).nonce = some jreq.nonce ∧ s.now < (s.node 4).holdEnd)
    ∧ (let s := entryWas { nonce := some 8 }
       (s.node 4).used = true ∧ (s.node 4).nonce ≠ some jreq.nonce ∧ s.joined 4 = false
       ∧ s.ring.entryOf jreq.serial = some 4)
    ∧ ((entryWas { member := 1 }).node 4).member = 1 ∧ (mgr.node 4).member ≠ 1
    ∧ mgr2.joined 2 = true ∧ mgr2.joined 3 = false
    ∧ (Tab.get {} mgr2.ring.peers 2 : Peer).queue = [] := by decide

/-- A worker at step 4 that has taken `l` bytes of its image. -/
def takesImage (l : List Byte) : State :=
  { wkr with ring := { node := 3, join := { step := 4, image := l } } }

set_option maxRecDepth 20000 in
theorem witness_WorkerJoinCommands :
    wkr.isManager = false
    ∧ ((joining 0).mayJoin = true ∧ (joining 0).ring.join.joined = false ∧ (joining 0).ring.join.step = 0
       ∧ (joining 0).ring.join.holdEnd ≤ (joining 0).now)
    ∧ (let s : State := { joining 8 with ring := { join := { step := 8, holdEnd := 1 } } }; s.now < s.ring.join.holdEnd)
    ∧ ((joining 3).ring.join.joined = false ∧ (joining 3).ring.join.step ≠ 0) ∧ wkr.ring.join.joined = true
    ∧ (joining 2).ring.join.step = 2 ∧ (joining 3).ring.join.step ≠ 2
    ∧ ((3 : NodeNo).val = (joining 5).ring.node ∧ (joining 5).ring.join.joined = false ∧ 5 ≤ (joining 5).ring.join.step)
    ∧ ((takesImage []).wantsImage = true ∧ (takesImage []).ring.join.imgDone = false ∧ (takesImage []).ring.join.image = [])
    ∧ (joining 2).wantsImage = false ∧ (joining 2).ring.join.bypOpen = false
    ∧ ((4 : NodeNo).val ≠ wkr.ring.node ∧ (3 : NodeNo).val = wkr.ring.node ∧ wkr.ring.join.lostMgr = false) := by decide

/-! ### Mailboxes and requests -/

/-- Mailbox 32 with some indices, in its turn. -/
def rings (b : Mbx) : State := { mgr with host := { mgr.host with mbx := [(32, b)], order := [32] } }

theorem witness_DoorbellWrites :
    mgr.isManager = true ∧ mgr.hostOpen ∧ (32 : MbxNo).val < 33
    ∧ (let b := (rings { reqCons := 62, reqProd := 63 }).box 32
       (b.reqProd + 64 - b.reqCons) % 64 < (30 + 64 - b.reqCons) % 64 ∧ (30 + 64 - b.reqCons) % 64 ≤ 32
       ∧ 32 < (31 + 64 - b.reqCons) % 64 ∧ (63 + 64 - b.reqCons) % 64 ≤ (b.reqProd + 64 - b.reqCons) % 64)
    ∧ (let b := (rings { rplCons := 9, rplProd := 10 }).box 32
       (10 + 64 - b.rplCons) % 64 ≠ 0 ∧ (10 + 64 - b.rplCons) % 64 ≤ (b.rplProd + 64 - b.rplCons) % 64
       ∧ (9 + 64 - b.rplCons) % 64 = 0 ∧ (b.rplProd + 64 - b.rplCons) % 64 < (11 + 64 - b.rplCons) % 64) := by
  unfold State.hostOpen
  decide

/-- The reply that SEQ 14 has, cached. -/
def cachedReply : Msg := { opc := 0x8201, seq := 14, flags := 0, status := 1, tag := 0x7A31, payload := leBytes 8 0x00E4D5A3 }
def answered : State :=
  rings { session := true, expSeq := 15, lastReq := some (14, 0xABCD), cached := some cachedReply }

theorem witness_RequestsRunOnce :
    let b := answered.box 32
    mgr.isManager = true ∧ (b.cached.isSome = true ∧ b.lastReq = some ((req 32 14 []).seq.toNat, 0xABCD))
    ∧ (b.lastReq ≠ some ((req 32 15 []).seq.toNat, 1) ∧ b.session = true ∧ (req 32 15 []).seq.toNat = b.expSeq)
    ∧ ((1 : Nat) = 1 ∧ (req 32 0 []).seq = 0 ∧ (mgr.box 32).cached = none)
    ∧ (b.lastReq ≠ some ((req 32 16 []).seq.toNat, 1) ∧ ¬ ((0x200 : Nat) = 1 ∧ (req 32 16 []).seq = 0)
       ∧ ¬ (b.session = true ∧ (req 32 16 []).seq.toNat = b.expSeq)) := by decide

theorem witness_HostRegisterCommands :
    mgr.host.order = [] ∧ State.reset.serving = false
    ∧ ((rings {}).serving = true ∧ (rings {}).host.order = [(32 : MbxNo).val] ∧ ((rings {}).box 32).reqProd = ((rings {}).box 32).reqCons)
    ∧ (let s := rings { reqProd := 1, rplProd := 17 }
       (s.box 32).reqProd ≠ (s.box 32).reqCons ∧ (s.box 32).waiting = none ∧ (s.box 32).free < 16 ∧ (s.box 32).stalled = false)
    ∧ 16 ≤ ((rings { reqProd := 1, rplProd := 16 }).box 32).free
    ∧ ((opened.box 32).txn.isSome = true ∧ (mgr.box 32).txn = none)
    ∧ (mgr.isManager = true ∧ mgr.hostOpen ∧ 0x10000 ≤ 0x30FFC ∧ ((4 : BitVec 4) ≠ 15) ∧ (0x1A0 : Nat) < 0x300 ∧ (19 : Nat) < 20
       ∧ (0x30FFC : Nat) < 0x40000 ∧ (0x100 : Nat) ≠ 0x200 ∧ (0x30FFC - 0x10000 + 3) / 4096 < 33
       ∧ (15 : BitVec 4).getLsbD 3 = true)
    ∧ (holds.isManager = true ∧ holds.power.state ≠ .moored ∧ holds.power.state ≠ .beached ∧ holds.clk.rootHold = true)
    ∧ (moored.power.state = .moored ∧ wkr.isManager = false) := by
  unfold State.hostOpen
  decide

theorem witness_admits :
    session.admits 0x0200 (req 32 15 []) ∧ session.admits 0x0603 (req 7 15 [])
    ∧ (failing 4).admits 0x0100 (req 32 15 []) := by
  unfold State.admits
  decide

theorem witness_RequestScope :
    requestOf (.ringRenumber (req 7 15 [])) = some (0x0403, req 7 15 []) ∧ outOfScope 0x0403 (req 7 15 []) = true
    ∧ (outOfScope 0x0200 { req 32 15 [] with flags := 1 } = false ∧ ({ req 32 15 [] with flags := 1 } : Req).flags ≠ 0)
    ∧ (outOfScope 0x0200 (req 32 15 []) = false ∧ (failing 4).goingDown = true ∧ servedAlways 0x0200 = false)
    ∧ (mgr2.isManager = true ∧ (2 : Nat) ≠ 0 ∧ mgr2.joined 2 = true ∧ mgr2.joined 3 = false
      ∧ (mgr2.box 32).deferred.length < 4)
    ∧ 4 ≤ ((rings { deferred := List.replicate 4 { seq := 1, tag := 0, opc := 0x0C00, object := 0 } }).box 32).deferred.length := by
  decide

/-- SHAPER_SET of queue 40 at 250 Mbit/s with 4,000 bytes (Table CA-26). -/
def shaperReq (m : MbxNo) : Req :=
  req m 15 (leBytes 4 0x02000028 ++ leBytes 4 4000 ++ leBytes 8 250000000 ++ leBytes 8 0 ++ leBytes 4 0 ++ leBytes 4 0)
def part10 : State := { mgr with start := { mgr.start with part4410 := true } }

theorem witness_StagingCommands :
    (opened.admits 0x0603 (shaperReq 32) ∧ (decide ((shaperReq 32).mbx.val < 32)) = false
      ∧ opened.unsupportedRate 0x0603 (shaperReq 32).payload = false ∧ shaperForm [] = none
      ∧ (∃ x named, shaperForm (shaperReq 32).payload = some (x, named) ∧ (opened.view 32).settingFail x = none)
      ∧ (session.box 32).txn = none ∧ (opened.box 32).txn = some { staged := [], bytes := 0, lastCmd := 0 }
      ∧ Txn.room { staged := [], bytes := 262112, lastCmd := 0 } (shaperReq 32).payload.length = true
      ∧ Txn.room { staged := [], bytes := 262113, lastCmd := 0 } (shaperReq 32).payload.length = false)
    ∧ (mgr.admits 0x0603 (shaperReq 7) ∧ (shaperReq 7).mbx.val < 32 ∧ (mgr.view 7).foreignT 0x0603 (shaperReq 7) = true)
    ∧ (part10.admits 0x0300 (req 32 15 [1, 1]) ∧ part10.unsupportedRate 0x0300 (req 32 15 [1, 1]).payload = true
       ∧ 32 ≤ (req 32 15 [1, 1]).mbx.val) := by
  unfold State.admits
  refine ⟨⟨by decide, by decide, by decide, by decide, ⟨_, _, rfl, by decide⟩, by decide, by decide, by decide, by decide⟩,
    by decide, by decide⟩

/-- A staged command that admission refuses: it names an absent worker's port. -/
def badStage : StagedCmd :=
  { setting := .sched (objId 5 1 0) {}, named := [objId 5 1 0], opc := 0x0602, payload := [] }
def openedWith (l : List StagedCmd) : State :=
  { mgr with
    host := { mgr.host with mbx := [(32, { session := true, expSeq := 15, txn := some { staged := l, bytes := 0, lastCmd := 0 } })] } }
/-- Two commits wait for their switch-over. -/
def commits : State :=
  { mgr with host := { mgr.host with accepted := [{ mbx := 32, frame := 9, staged := [] }, { mbx := 33, frame := 8, staged := [] }] } }

theorem witness_TransactionCommands :
    (req 32 15 []).payload = [] ∧ session.admits 0x0200 (req 32 15 []) ∧ session.admits 0x0202 (req 32 15 [])
    ∧ (session.admits 0x0201 (req 32 15 []) ∧ (session.box 32).txn = none)
    ∧ ((opened.box 32).txn = some { staged := [], bytes := 0, lastCmd := 0 } ∧ opened.commitFail 32 [] = none)
    ∧ (((openedWith [badStage]).box 32).txn = some { staged := [badStage], bytes := 0, lastCmd := 0 }
       ∧ ((openedWith [badStage]).commitFail 32 [badStage]).isSome = true)
    ∧ mgr.host.nextCommit = none ∧ commits.host.nextCommit = some { mbx := 33, frame := 8, staged := [] } := by
  unfold State.admits
  decide

/-- An operation of SEQ 9 that is deferred. -/
def defers : State :=
  rings { session := true, expSeq := 15, deferred := [{ seq := 9, tag := 0, opc := 0x0C00, object := objId 0 0 0 }] }

theorem witness_SessionAndRingRequests :
    (session.admits 0x0001 (req 32 15 [1, 0, 0, 0]) ∧ (req 32 15 [1, 0, 0, 0]).payload.length = 4)
    ∧ (session.admits 0x0003 (req 32 15 [9, 0, 0, 0]) ∧ zeroAt (req 32 15 [9, 0, 0, 0]).payload 2 2 = true
       ∧ (session.box 32).deferred.find? (fun d => d.seq == u16 (req 32 15 [9, 0, 0, 0]).payload 0) = none)
    ∧ ((defers.box 32).deferred.find? (fun d => d.seq == u16 (req 32 15 [9, 0, 0, 0]).payload 0)
        = some { seq := 9, tag := 0, opc := 0x0C00, object := objId 0 0 0 } ∧ objNode (objId 0 0 0) = 0)
    ∧ session.admits 0x0100 (req 32 15 [0, 0, 0, 0])
    ∧ session.admits 0x0101 (req 32 15 [0, 2, 0, 0]) ∧ session.admits 0x0203 (req 32 15 ([1, 0] ++ leBytes 2 65535))
    ∧ session.admits 0x0302 (req 32 15 [3, 0, 0, 0])
    ∧ (session.admits 0x0501 (req 32 15 (leBytes 4 (objId 0 1 15)))
       ∧ session.cfg.foreign (req 32 15 (leBytes 4 (objId 0 1 15))) 0 = false)
    ∧ (let p : List Byte := [0, 1, 31, 31, 0, 0, 0, 0]
       session.admits 0x0502 (req 32 15 p) ∧ p.length = 8 ∧ u8 p 0 = 0 ∧ u8 p 1 ≤ 1 ∧ u8 p 2 ≤ 31 ∧ u8 p 3 ≤ 31 ∧ u8 p 1 ≠ 0
       ∧ session.clocked 26 = true ∧ State.reset.clocked 26 = false)
    ∧ session.admits 0x0400 (req 32 15 [0, 0, 0, 0])
    ∧ (session.admits 0x0402 (req 32 15 [0, 1, 7, 0]) ∧ (req 32 15 [0, 1, 7, 0]).payload = [0, BitVec.ofNat 8 (1 : Side).val, BitVec.ofNat 8 7, 0]
       ∧ (session.side 1).cmd = 0)
    ∧ session.admits 0x0403 (req 32 15 (leBytes 4 0x524E554D))
    ∧ (session.admits 0x0404 (req 32 15 [2, 0, 0, 0]) ∧ (2 : NodeNo).val ≠ 0 ∧ mgr2.joined 2 = true) := by
  unfold State.admits
  refine ⟨?_, ?_, ?_, ?_, ?_, ?_, ?_, ?_, ?_, ?_⟩ <;> decide

/-- Slot 5, bank 1 holds a key. -/
def keyed : State := { mgr with cipher := { banks := [(10, { key := some 1 })] } }

set_option maxRecDepth 20000 in
theorem witness_QueueKeyAndCounterRequests :
    (let q := req 32 15 (leBytes 4 (objId 0 2 25))
     session.cfg.foreign q 0 = false ∧ session.admits 0x0601 q ∧ queueNamed 0 25 = true ∧ recounts.pool.recount = true
     ∧ (portUp.queue 25).sending = false ∧ portUp.hasStaged 25 = false ∧ ((sendsFrame 0).queue 25).sending = true)
    ∧ (let q := req 32 15 (leBytes 4 (objId 0 0xB 4) ++ leBytes 4 (1 + 1) ++ List.replicate 16 7)
       session.admits 0x0800 q ∧ session.cfg.foreign q 0 = false ∧ (List.replicate 16 (7 : Byte)).length = 16)
    ∧ (let q := req 32 15 (leBytes 4 (objId 0 0xB 259) ++ leBytes 4 0 ++ List.replicate 16 7)
       session.admits 0x0800 q ∧ session.cfg.foreign q 0 = false)
    ∧ (let q := req 32 15 (leBytes 4 (objId 0 0xB 259) ++ leBytes 4 0); session.admits 0x0801 q ∧ session.cfg.foreign q 0 = false)
    ∧ (let q := req 32 15 (leBytes 4 (objId 0 0xB 255) ++ leBytes 4 (1 + 1)); session.admits 0x0801 q ∧ session.cfg.foreign q 0 = false)
    ∧ (keyed.bank 5 0).busy = true ∧ (mgr.bank 5 0).busy = false
    ∧ (let q := req 32 15 (leBytes 4 (objId 0 0xF 0x502) ++ leBytes 4 125)
       session.admits 0x0900 q ∧ cntRange (objId 0 0xF 0x502) 125 = true ∧ session.cfg.mayRead q.mbx.val 0 0x502 125 = true)
    ∧ (let q := req 32 15 (leBytes 4 (objId 0 0xF 0x502) ++ leBytes 2 504 ++ [1, 0])
       session.admits 0x0901 q ∧ cntRange (objId 0 0xF 0x502) 504 = true ∧ session.snap.filling = none)
    ∧ ({ mgr with snap := { filling := some { object := 0, tide := 0, vals := [] } } } : State).snap.filling
        = some { object := 0, tide := 0, vals := [] } := by
  unfold State.admits
  decide

theorem witness_AdmissionReruns :
    mgr.cfg.shedNext [5, 9] = some 9 ∧ mgr.cfg.shedNext [] = none ∧ [5, 9].Nodup
    ∧ (∀ x ∈ mgr.failSet mgr.cfg [], x ∈ ([] : List (Nat × Nat)))
    ∧ mgr.adm.due = none ∧ mgr.recheck.adm.due.isSome = true := by decide

/-! ### Firmware, diagnostics, events, the craft port, relays -/

/-- A firmware write by SEQ 200 of mailbox 32, of 4,096 bytes. -/
def fw (erasing verifying : Bool) (b : List Byte) : FwWrite :=
  { mbx := 32, seq := 200, size := 4096, version := 0x02060011, bytes := b, erasing := erasing, verifying := verifying }
def writes (w : FwWrite) : State := { session with start := { mgr.start with write := some w } }
def blockReq : Req := req 32 15 (leBytes 2 200 ++ [0, 0] ++ leBytes 4 0 ++ [1, 2, 3])
/-- A good image in bank B; an image that the CP holds, of a version. -/
def goodB : State := { session with start := { mgr.start with bankB := { state := .valid, good := true, image := [1] } } }
def holdsImage : State := { mgr2 with start := { mgr.start with image := false, cpImage := List.replicate 28 1 } }

set_option maxRecDepth 20000 in
theorem witness_FirmwareCommands :
    (session.admits 0x0B00 (req 32 15 (leBytes 4 bankSize ++ leBytes 4 0x02060011 ++ leBytes 4 0)) ∧ 4096 ≤ bankSize)
    ∧ ((writes (fw true false [])).start.write.isSome = true ∧ session.start.write.isSome = false)
    ∧ (session.admits 0x0B01 blockReq ∧ (writes (fw true false [])).writeOf 32 200 = some (fw true false [])
       ∧ (writes (fw true false [])).writeOf 32 201 = none ∧ 0 = (fw true false []).bytes.length ∧ 4096 < 4094 + 3
       ∧ (writes (fw false false [])).writeOf 32 200 = some (fw false false []) ∧ (fw false false []).erasing = false)
    ∧ (let s : State := { writes (fw true false []) with host := { mgr.host with
          mbx := [(32, { waiting := some { opc := 0x0B01, req := blockReq, on := .erase } })] } }
       s.start.write = some (fw true false []) ∧ (fw true false []).erasing = true ∧ (fw true false []).cutOff = false
       ∧ (s.box 32).waiting = some { opc := 0x0B01, req := blockReq, on := .erase } ∧ s.isManager = true)
    ∧ ((writes (fw true false [])).box 32).waiting = none
    ∧ mgr.start.write.all (fun w => !w.erasing || w.cutOff) = true
    ∧ session.admits 0x0B02 (req 32 15 (leBytes 2 200 ++ [0, 0]))
    ∧ ((writes (fw false true [])).start.write = some (fw false true []) ∧ (fw false true []).verifying = true)
    ∧ mgr.start.write.all (fun w => !w.verifying) = true
    ∧ (session.admits 0x0B03 (req 32 15 (leBytes 4 60)) ∧ (goodB.start.bank goodB.start.other).good = true
      ∧ (session.start.bank session.start.other).good = false)
    ∧ (session.admits 0x0B04 (req 32 15 []) ∧ trialImage.start.unconfirmed = true)
    ∧ (holdsImage.isManager = true ∧ holdsImage.joined 2 = true ∧ holdsImage.served ≠ []
       ∧ (holdsImage.node 2).version ≠ imgVersion holdsImage.served)
    ∧ mgr2.joined 3 = false ∧ mgr2.served = []
    ∧ session.admits 0x0B10 (req 32 15 ([0, 0] ++ leBytes 2 15 ++ leBytes 4 (2 ^ 32 - 1))) := by
  unfold State.admits
  refine ⟨?_, ?_, ?_, ?_, ?_, ?_, ?_, ?_, ?_, ?_, ?_, ?_, ?_, ?_, ?_⟩ <;> decide

/-- MAINTENANCE with a self-test of scope 1; a loopback with an end on port 3; a PRBS test of the EAST side. -/
def tests : State :=
  { maint with
    start := { maint.start with
      selftest := some (32, 9, 1)
      diags := [(objId 0 1 3, some { loopback := true, mode := 1, mbx := 32, seq := 9, ends := some 1 }),
                (objId 0 0xE 16, some { loopback := false, mode := 1, mbx := 32, seq := 9, ends := some 1 })] } }

theorem witness_DiagnosticCommands :
    session.admits 0x0C00 (req 32 15 [0, 1, 0, 0]) ∧ session.start.selftest.isSome = false
    ∧ (tests.start.selftest = some (32, 9, 1) ∧ tests.start.maint = true) ∧ mgr.start.selftest = none
    ∧ ({ tests with start := { tests.start with maint := false } } : State).start.maint = false
    ∧ (let q := req 32 15 (leBytes 4 (objId 0 1 15) ++ [BitVec.ofNat 8 2, 0] ++ leBytes 2 3600)
       session.admits 0x0C01 q ∧ session.cfg.foreign q 0 = false ∧ diagObj (objId 0 1 15) = true)
    ∧ ((tests.diagOf (0x01000003#32).toNat).any (fun d => d.loopback && d.ends.isSome) = true
       ∧ (tests.diagOf (0x01000004#32).toNat).any (fun d => d.loopback && d.ends.isSome) = false)
    ∧ (session.needsMaint (objId 0 0xE 16) = true ∧ tests.needsMaint (objId 0 0xE 17) = false)
    ∧ (let q := req 32 15 (leBytes 4 (objId 0 7 7) ++ [BitVec.ofNat 8 1, BitVec.ofNat 8 3, 0, 0] ++ leBytes 4 3600000)
       session.admits 0x0C02 q ∧ session.cfg.foreign q 0 = false ∧ diagObj (objId 0 7 7) = true)
    ∧ tests.diagOf (0x0E000010#32).toNat = some { loopback := false, mode := 1, mbx := 32, seq := 9, ends := some 1 }
    ∧ (tests.diagOf (0x01000003#32).toNat).all (·.loopback) = true
    ∧ (session.admits 0x0C03 (req 32 15 [0, BitVec.ofNat 8 1, 0, 0]) ∧ maint.admits 0x0C03 (req 32 15 [0, BitVec.ofNat 8 0, 0, 0])
      ∧ mgr.pool.recount = false ∧ (mgr.queue 25).sending = false ∧ mgr.hasStaged 25 = false) := by
  unfold State.admits
  refine ⟨?_, ?_, ?_, ?_, ?_, ?_, ?_, ?_, ?_, ?_, ?_, ?_⟩ <;> decide

set_option maxRecDepth 100000 in
theorem witness_OmciEventAndTideRequests :
    (let d : List Byte := List.replicate 1004 1
     mgrO5.admits 0x0D00 (req 32 15 ([BitVec.ofNat 8 0, BitVec.ofNat 8 1] ++ leBytes 2 d.length ++ d)) ∧ d.length ≤ 1004)
    ∧ (mgr.lane 0).act ≠ .o5 ∧ (mgrO5.lane 0).act = .o5
    ∧ (({ mgrO5 with host := { mgr.host with omciSeg := some (0, [9]) } } : State).host.omciSeg.elim []
        (fun x => if x.1 = 0 then x.2 else []) = ([9] : List Byte))
    ∧ 2048 < (List.replicate 1045 (0 : Byte) ++ List.replicate 1004 1).length
    ∧ (List.replicate 1044 (0 : Byte) ++ List.replicate 1004 1).length ≤ 2048
    ∧ (let q := req 7 15 ([0, BitVec.ofNat 8 13, BitVec.ofNat 8 2, 0] ++ leBytes 4 0 ++ leBytes 4 0x00100000 ++ leBytes 4 0)
       session.admits 0x0E00 q ∧ 2 % 2 = 0 ∧ BitVec.ofNat 32 0x00100000 &&& ~~~ berthSources 13 = 0)
    ∧ session.admits 0x0E01 (req 32 15 ([0, BitVec.ofNat 8 19, 0, 0] ++ leBytes 4 (2 ^ 32 - 1)))
    ∧ session.admits 0x0E02 (req 32 15 [0, 0, 0, 0])
    ∧ (let a : Alarm := { enable := bit 7 0, event := bit 7 1, snap := bit 7 2, frame := frameWrap - 1, tick := frameTicks - 1,
                          perF := 0, perT := 0 }
       session.admits 0x0F00 (req 32 15 ([BitVec.ofNat 8 15, BitVec.ofNat 8 7, 0, 0]
          ++ leBytes 8 ((frameWrap - 1) * 2 ^ 20 + (frameTicks - 1)) ++ leBytes 4 0 ++ leBytes 4 0 ++ leBytes 4 0))
       ∧ session.tide.ticks < a.target)
    ∧ (({ enable := true } : Alarm).armed = true ∧ ({ enable := true } : Alarm).target ≤ session.tide.ticks)
    ∧ session.admits 0x0F01 (req 32 15 ([BitVec.ofNat 8 3, 0] ++ leBytes 2 4000 ++ leBytes 4 0 ++ leBytes 8 0)) := by
  unfold State.admits
  refine ⟨?_, ?_, ?_, ?_, ?_, ?_, ?_, ?_, ?_, ?_, ?_, ?_⟩ <;> decide

theorem witness_PeripheralCommands :
    mgr.start.hasFlash = true ∧ ({ mgr with start := { mgr.start with flashMib := 16 } } : State).start.hasFlash = false
    ∧ (mgr2.isManager = true ∧ mgr2.joined 2 = true ∧ mgr2.joined 3 = false ∧ mgr.log.buffer.length < 63)
    ∧ (mgr.clocked (24 + 3 / 2) = true ∧ mgr.clk.rootHold = false ∧ State.reset.clocked (24 + 3 / 2) = false)
    ∧ (let d : Ddm := { fails := 2 }; 2 ≤ d.fails ∧ d.silent = false)
    ∧ ((List.replicate 16 (0 : Byte) ++ [0x80]).getD 16 0).getLsbD 7 = true
    ∧ (Tab.get {} mgr.craft.i2c (3 / 2) : I2c).seg ≠ (3 % 2 == 1)
    ∧ mgr.clocked (24 + 1) = true ∧ mgr.start.fwState ≠ 0 ∧ mgr.ledOn = true
    ∧ ({ State.reset with cistern := { dgReady := true } } : State).ledOn = false := by decide

/-- The last record but one of the logbook's buffer. -/
theorem witness_log_full (r : LogRecord) : ({ mgr with log := { buffer := List.replicate 63 r } } : State).log.buffer.length = 63 := by
  simp

/-- Mailbox 33 with some state, on a manager. -/
def shell (b : Mbx) : State := { mgr with host := { mgr.host with mbx := [(33, b)] } }

set_option maxRecDepth 20000 in
theorem witness_CraftPortCommands :
    State.reset.uartOn = false ∧ (mgr.uartOn = true ∧ mgr.craft.rx.length < mgr.craft.uart.fifo)
    ∧ ({ mgr with craft := { rx := List.replicate 64 0 } } : State).craft.uart.fifo ≤ (List.replicate 64 (0 : Byte)).length
    ∧ (State.reset.cpRuns = false ∧ mgr.cpRuns = true ∧ mgr.craft.rx = [] ∧ (mgr.box 33).waiting = none ∧ (mgr.box 33).stalled = false)
    ∧ (({ mgr with craft := { rx := [65] } } : State).craft.rx = [65] ∧ ((65 : Byte) ≠ 13) ∧ ((65 : Byte) ≠ 10) ∧ ((65 : Byte) ≠ 8)
       ∧ mgr.craft.line.length < 256)
    ∧ (let s : State := { mgr with start := { mgr.start with fwState := 3 } }; s.uartOn = true ∧ s.cpRuns = false)
    ∧ (mgr.isManager = true ∧ mgr.goingDown = false)
    ∧ ({ mgr with craft := { trial := some {} } } : State).craft.trial = some {} ∧ mgr.craft.trial = none
    ∧ ((shell { waiting := some { opc := 1, req := req 33 1 [], on := .recount 0 } }).box 33).waiting.isSome = true
    ∧ ((shell { stalled := true }).cpRuns = true ∧ ((shell { stalled := true }).box 33).stalled = true)
    ∧ ((mgr.box 33).session = false ∧ ((shell { session := true }).box 33).session = true)
    ∧ (∀ u, State.lineLocal (splitAt ' ' [] "raw 0x101 00020000".toList) u = none)
    ∧ parseCommand (splitAt ' ' [] "raw 0x101 00020000".toList) = some ((0x101#16).toNat, [0, 2, 0, 0])
    ∧ (∀ u, State.lineLocal (splitAt ' ' [] "hello there".toList) u = none)
    ∧ parseCommand (splitAt ' ' [] "hello there".toList) = none := by
  refine ⟨by decide, by decide, by decide, by decide, by decide, by decide, by decide, by decide, by decide, by decide, by decide,
    by decide, fun _ => rfl, by decide, fun _ => rfl, by decide⟩

/-- A request of mailbox 32 that waits for node 2; a completion that is due from it. -/
def relays : State :=
  { mgr2 with
    host := { mgr.host with
      mbx := [(32, { session := true, waiting := some { opc := 0x0900, req := req 32 15 [], on := .relay 2 }
                     deferred := [{ seq := 9, tag := 0, opc := 0x0C00, object := objId 2 0 0 }] })] } }

set_option maxRecDepth 20000 in
theorem witness_RelayCommands :
    mgr2.isManager = true
    ∧ (wkr.isManager = false ∧ ∃ f x, formOf 0x0603 = some f ∧ f.2 (shaperReq 32).payload = some x ∧ f.2 [] = none)
    ∧ ((wkr.box 32).txn = none ∧ (({ wkr with host := opened.host } : State).box 32).txn
        = some { staged := [], bytes := 0, lastCmd := 0 })
    ∧ formOf 0x0900 = none
    ∧ (let s : State := { wkr with ring := { wkr.ring with relayed := [(0x0900, 15, 33)] } }
       s.isRelayed 0x0900 15 33 = true ∧ (Tab.get {} s.ring.peers 0 : Peer).unacked.length < 8)
    ∧ (relays.isManager = true ∧ relays.joined 2 = true
       ∧ (relays.box 32).waiting = some { opc := 0x0900, req := req 32 15 [], on := .relay 2 })
    ∧ (let s : State := { relays with host := { mgr.host with mbx := [(32, { deferred := (relays.box 32).deferred })] } }
       (s.box 32).waiting = none ∧ (s.box 32).deferred.any (fun d => d.seq == 9 && d.object / 2 ^ 28 == 2) = true
       ∧ (s.box 32).deferred.any (fun d => d.seq == 8 && d.object / 2 ^ 28 == 2) = false)
    ∧ (mgr2.joined 2 = true ∧ mgr2.joined 3 = false ∧ (∀ k, k < 34 → (mgr2.box k).selects 2 436 = false))
    ∧ (let s : State := { mgr2 with host := { mgr.host with mbx := [(32, { msgSel := [(2 * 32 + 13, 0x00100000)] })] } }
       (s.box 32).selects 2 436 = true ∧ (s.box 32).held.length < 64 ∧ berthRelevant s.cfg 32 436 0 = true)
    ∧ 64 ≤ ((rings { held := List.replicate 64 cachedReply }).box 32).held.length := by
  refine ⟨by decide, ⟨by decide, _, _, rfl, rfl, by decide⟩, by decide, by decide, by decide, by decide, by decide, by decide,
    by decide, by decide⟩
/-! ### Single steps, with results of the spec's worked examples and tables -/

/-- One field of the state after a command. -/
def after {α : Type} (i : Instr) (s : State) (f : State → α) : Option α :=
  match exec i s with
  | .next t => some (f t)
  | _ => none

/-- Whether a source is pending after a command. -/
def raised (i : Instr) (s : State) (src : Nat) : Option Bool :=
  after i s (fun t => (Tab.get 0 t.evt.status (src / 32)).getLsbD (src % 32))

/-- Status code of the reply cached in a mailbox. -/
def status (m : Nat) (s : State) : Option Nat := (s.box m).cached.map (·.status)

set_option maxRecDepth 100000 in
/-- The check value of "123456789" under CRC-32C. -/
theorem test_crc32c : crc32c [0x31, 0x32, 0x33, 0x34, 0x35, 0x36, 0x37, 0x38, 0x39] = 0xE3069283#32 := by decide

/-- Chapter 02, worked example: TIDE_HI 0x0000_0E4D and TIDE_LO 0x3855_D30C. -/
theorem test_tide_lo_latches :
    after .tideLoRead { mgr with tide := { frame := 0x00E4D385, tick := 0x5D30C } } (fun t => (t.tide.hi, t.out))
      = some (0xE4D#32, [.read 0x200 0x3855D30C#32]) := by decide

/-- Table TD-8: after the edge at the base the next is 8,000 frames on, the fall 800 frames on. -/
theorem test_pulse_rises :
    after .tidePulseRise { mgr with tide := { state := .anchored, frame := 0x00E4D385, tick := 0x5D30C
                                              pulse := { enable := true, base := 0x00E4D385 * 777600 + 0x5D30C
                                                         next := 0x00E4D385 * 777600 + 0x5D30C } } }
      (fun t => (t.tide.pulse.next, t.tide.pulse.fall))
      = some ((0x00E4D385 + 8000) * 777600 + 0x5D30C, (0x00E4D385 + 800) * 777600 + 0x5D30C) := by decide

set_option maxRecDepth 100000 in
/-- R32: the frame count of the anchor lane is loaded with tick 0. -/
theorem test_anchor_loads :
    after (.tideAnchored 0x00E4C1F0) mgr (fun t => (t.tide.frame, t.tide.tick, t.tide.state)) = some (0x00E4C1F0, 0, .anchored) := by
  decide

/-- R35: one frame is still slewed. R39: one tick more is stepped at the first boundary of a downstream frame four frames
on: frame 11 of the lane, when Tide stands at frame 9, tick 777,599. -/
theorem test_decision_at_one_frame :
    after (.tideReacquireDecision 6 7) deciding (fun t => t.tide.state) = some .slewing
    ∧ after (.tideReacquireDecision 6 8) deciding (fun t => t.tide.stepAt)
      = some (some (11, 9 * 777600 + 777599)) := by decide

/-- Chapter 03, worked example: the dead-source rule ends the switch of E1 port 3 and raises CLK_DEAD_SOURCE. -/
theorem test_dead_source :
    after (.clkDeadSource (.e1 3) false) muxWaits (fun t => (Tab.get {} t.clk.muxes 9 : ClkMux).selB) = some false
    ∧ raised (.clkDeadSource (.e1 3) false) muxWaits 60 = some true := by decide

/-- Chapter 04, worked example: 1,187,435 bits are 742,145 ticks and a trim of 3; O4 becomes O5.1. -/
theorem test_ranging_time :
    after (.rangingTime 0 uni true false 1187435) (laneIn .o4 (some 42)) (fun t => ((t.lane 0).eqd, (t.lane 0).act))
      = some ({ ticks := 742145, trim := 3 }, .o5) := by decide

/-- Table LN-12: Assign_ONU-ID 42 in O2-3 leads to O4. -/
theorem test_assign_onu_id :
    after (.assignOnuId 0 bro (mgr.serialOf 0) 42) (laneIn .o23 none) (fun t => ((t.lane 0).act, (t.lane 0).onuId))
      = some (.o4, some 42) := by decide

/-- R147: a repeated message queues its response again and acts once. -/
theorem test_ploam_repeat :
    after (.ploamDuplicate 0 uni .deactivate) remembered (fun t => ((t.lane 0).act, (t.lane 0).upq))
      = some (.o5, [.rogueNotice]) := by decide

/-- LOS in O5.1 leads to O6, in O4 to O1.1 without an ONU-ID (Table LN-3). -/
theorem test_los :
    after (.lnLos 0 true) mgrO5 (fun t => (t.lane 0).act) = some .o6
    ∧ after (.lnLos 0 true) (laneIn .o4 (some 42)) (fun t => ((t.lane 0).act, (t.lane 0).onuId)) = some (.o11, none) := by decide

/-- Chapter 05, worked example: the launch tick is frame 0x00E4_D401, tick 206,113, with 3 bits of trim. -/
theorem test_launch_tick :
    after (.allocationStructure 0 astr) canSend (fun t => t.line.pending.map (fun c => (c.launch, c.trim, c.grant)))
      = some [(0x00E4D401 * 777600 + 206113, 3, 1600)] := by decide

/-- Table CV-7: a frame of 1,500 payload bytes takes 377 words; of P5, 356 bytes fit 91 words. -/
theorem test_words : xgemWords false 1500 = 377 ∧ fitBytes false 1500 91 = 356 := by decide

/-- Table BL-10: 3,180 bytes in 798 words of a member's caravan, 1,832 bytes in 461. -/
theorem test_member_words : fitBytes true 9000 798 = 3180 ∧ xgemWords true 1832 = 461 := by decide

/-- R207: the staged packet goes back to the head of its queue. -/
theorem test_staged_times_out :
    after (.stagedCellTimeout 0) hasStagedPkt (fun t => ((t.alloc 0).staged, (t.queue 2048).pkts, t.pool.staged, t.pool.queued))
      = some ([], [{ bytes := [1, 2, 3] }], 0, 1) := by decide

/-- R267: the eighth resend raises BL_CTRL_TIMEOUT. -/
theorem test_control_gives_up : raised (.bondingControlResend 5 7) bonded 249 = some true := by decide

/-- R258: the window's end discards the held fragments; EXP follows the highest SEQ held. -/
theorem test_window_expires :
    after (.reseqWindowExpiry 5) bonded (fun t => ((t.group 5).frags, (t.group 5).exp)) = some ([], some 0x412) := by decide

set_option maxRecDepth 20000 in
/-- Chapter 07, worked example: a sum of 262,143 is a CELLS breach; the recount finds the cell. -/
theorem test_ledger_breach :
    let s : State := { mgr with
      pool := { free := 188901, queued := 70122, staged := 1200, ring := 640, test := 1024, cp := 256, borrowed := 1024 } }
    after .ledgerAudit s (fun t => (t.pool.cellBrk, t.pool.recount, t.pool.latch.free)) = some (true, true, 188901)
    ∧ raised .ledgerAudit s 260 = some true := by decide

set_option maxRecDepth 20000 in
theorem test_packet_enters :
    after (.packetEnqueue 25 ⟨[1, 2, 3], .none⟩) { portUp with pool := {} } (fun t => ((t.queue 25).pkts.length, t.pool.free, t.pool.queued))
      = some (1, 262143, 1) := by decide

theorem test_flush :
    after (.flushAct 25) flushes (fun t => ((t.queue 25).pkts, t.pool.free, Tab.get 0 t.cnt (0x8000 + 100)))
      = some ([{ bytes := [2] }], 262143, 1) := by decide

/-- R773: the crossing of half range posts an entry: node 0, frame 0xA3C, index 0x502 is 0x0A3C_0502. -/
theorem test_half_range :
    after (.cntHalf 0x502) { mgr with tide := { frame := 0xFFA3C } } (fun t => t.evt.cntFifo) = some [0x0A3C0502#32] := by
  decide

/-- Chapter 08, worked example: guard bands of 1,314 and 10,232 ticks at 10 Gbit/s. -/
theorem test_guard_bands : guardBand 256 10000000000 = 1314 ∧ guardBand 2048 10000000000 = 10232 := by decide

/-- Table SH-10: at the swap entry 0 opens class 7 alone. -/
theorem test_gate_swap : after (.gateSwap 3) gated (fun t => (t.gate 3).mask) = some 0x80 := by decide

theorem test_egress_strict :
    after (.egressStart 3) strict7 (fun t => (t.port 3).tx.map (·.queue)) = some (some 31) := by decide

set_option maxRecDepth 20000 in
theorem test_replication :
    after (.mcastReplicate ⟨4, .none⟩) gated (fun t => (t.queue 25).pkts.map (·.bytes)) = some [[9]] := by decide

/-- Chapter 17, worked example: the link of port 5 is source E_436, group 13, bit 20. -/
theorem test_link_down_event :
    after (.spLinkDown 5) { mgr with ports := [(5, { link := true })] } (fun t => Tab.get 0 t.evt.status 13) = some 0x00100000#32 := by
  decide

set_option maxRecDepth 20000 in
/-- A frame under 64 bytes is dropped. -/
theorem test_runt : after (.frameReceive 3 (List.replicate 63 0) true) portUp (fun t => t.pool) = some portUp.pool := by decide

/-- Table TF-10: SEQ 100 arrives at 0.31 ms with a depth of 18 frames and starts at 2.625 ms, boundary 21. -/
theorem test_playout_start :
    let b := cesPacket false { enable := true } 100 false false (List.replicate 32 5)
    let s : State := { plays false b with
      cfg := { cesUp.cfg with ces := [(objId 0 8 2, { enable := true, jbDepth := 18 })] }
      e1s := [(2, {})], tide := { frame := 2, tick := 373248 }, bnd := 2 }
    after (.cesPacketArrival 2) s (fun t => ((t.e1 2).start, (t.e1 2).nextSeq, (t.e1 2).playing)) = some (21, 100, true) := by
  decide

/-- R549: a packet that is not there at its instant is lost: all ones are played. -/
theorem test_packet_lost :
    after (.playoutStartInstant ⟨2, .none⟩) { plays false [] with e1s := [(2, { playing := true, nextSeq := 103 })] }
      (fun t => ((t.e1 2).nextSeq, (t.e1 2).lostRun, t.out)) = some (104, 1, [.e1 2 (List.replicate 32 0xFF)]) := by decide

/-- R550: a copy of a packet played counts as PKT_DUP, one that was lost and comes late as PKT_LATE. -/
theorem test_packet_dup :
    let b := cesPacket false { enable := true } 100 false false (List.replicate 32 5)
    let s (l : List Nat) : State := { plays false b with e1s := [(2, { playing := true, nextSeq := 103, played := l })] }
    after (.cesPacketArrival 2) (s [102, 100]) (fun t => (Tab.get 0 t.cnt (e1Cnt 2 11), Tab.get 0 t.cnt (e1Cnt 2 12))) = some (0, 1)
    ∧ after (.cesPacketArrival 2) (s [102]) (fun t => (Tab.get 0 t.cnt (e1Cnt 2 11), Tab.get 0 t.cnt (e1Cnt 2 12))) = some (1, 0) := by
  decide

/-- R530: FAS and NFAS in turn; the A bit tells of a receive defect, Sa4 to Sa8 are 1. -/
theorem test_timeslot0 :
    let s : State := e1With { framed := true, crc4 := 0, raiAuto := true } { defects := 1 }
    ({ s with bnd := 16 }.e1Ts0 2, { s with bnd := 17 }.e1Ts0 2,
      { e1With { framed := true, crc4 := 1 } {} with bnd := 3 }.e1Ts0 2) = (0x9B#8, 0xFF#8, 0x5F#8) := by decide

/-- R537: a slip buffer holds two frames; a third written drops the oldest. -/
theorem test_slip_overflow :
    after (.slipBufferWrite 2 [3]) (e1With {} { slip := [[1], [2]] }) (fun t => (t.e1 2).slip) = some [[2], [3]] := by decide

set_option maxRecDepth 100000 in
/-- R592: zeroisation ends an erasure and raises CY_KEY_ERASED. -/
theorem test_zeroise :
    after (.keyZeroise 5 1) erasing (fun t => (t.bank 5 1).erasing) = some false
    ∧ raised (.keyZeroise 5 1) erasing 548 = some true := by decide

/-- R433 and log 90: 388,736 bytes are 1,429 containers and 48 bytes, so a boundary at 0 is followed by one at 224. -/
theorem test_pointer_goes_on : (RingLane.pointer (head 6 0) { value := 0 }).1.value = 224 := by decide

/-- R464 and Table QY-9: SF asks for a wrap. -/
theorem test_wrap : after (.ringWrap 0) (sideIs { sf := true }) (fun t => (t.side 0).wrapped) = some true := by decide

/-- R467: acknowledgement and delivery of the next message of a peer. -/
theorem test_dcc_delivers :
    let t := mgr2.inOrder 0 (dmsg 2 0 1 (.eventPending true))
    ((Tab.get {} t.ring.peers 2 : Peer).lastDelivered, t.evt.nodeSummary) = (1, 4) := by decide

/-- Table QY-19: a pulled worker that comes back has the next generation, and NODE_REJOIN_NEW_GEN is raised. -/
theorem test_rejoin :
    after (.joinReq jreq) (entryWas { nonce := some 8, gen := 3 }) (fun t => ((t.node 4).gen, (t.node 4).member)) = some (4, 1)
    ∧ raised (.joinReq jreq) (entryWas { nonce := some 8, gen := 3 }) 390 = some true := by decide

/-- Table HM-13: a doorbell of 0x0F after 0x0E leaves one request. -/
theorem test_doorbell :
    after (.mbxDbReqWrite 32 0x0F) (rings { reqProd := 14, reqCons := 14 }) (fun t => (t.box 32).reqProd) = some 15 := by decide

set_option maxRecDepth 100000 in
/-- Table HM-13: a commit at frame 0x00E4_D5A0, tick 300,000 switches at 0x00E4_D5A3. -/
theorem test_commit :
    after (.txnCommit (req 32 15 [])) { opened with tide := { state := .anchored, frame := 0x00E4D5A0, tick := 300000 } }
      (fun t => (status 32 t, t.host.accepted.map (·.frame), (t.box 32).expSeq)) = some (some 1, [0x00E4D5A3], 16) := by decide

set_option maxRecDepth 100000 in
/-- R635: a retransmission gets the cached reply again; nothing runs. -/
theorem test_retransmission :
    let s := answered.receive 32 0x0201 (req 32 14 []) 0xABCD
    (s.box 32).rplProd = 1 ∧ (s.box 32).expSeq = 15 := by decide

set_option maxRecDepth 100000 in
/-- Table CA-25: RATE_A 250,000,500 bit/s is BAD_ARG; 250,000,000 bit/s is staged. -/
theorem test_shaper :
    after (.shaperSet (req 32 15 (leBytes 4 0x02000028 ++ leBytes 4 4000 ++ leBytes 8 250000500 ++ leBytes 8 0 ++ leBytes 8 0)))
      opened (status 32) = some (some 4)
    ∧ after (.shaperSet (shaperReq 32)) opened (fun t => (status 32 t, (t.box 32).txn.map (·.staged.length))) = some (some 0, some 1) := by
  decide

set_option maxRecDepth 100000 in
/-- Table CB-14: FW_WRITE_BEGIN is DEFERRED; FW_ACTIVATE restarts at the second frame boundary. -/
theorem test_firmware :
    after (.fwWriteBegin (req 32 15 (leBytes 4 1572864 ++ leBytes 4 0x02060011 ++ leBytes 4 0))) session (status 32) = some (some 6)
    ∧ after (.fwActivate (req 32 15 (leBytes 4 0))) goodB (fun t => (status 32 t, t.start.activateAt, t.start.confirmMin))
      = some (some 0, some 2, 10) := by decide

/-- Chapter 18, worked example: an entry asked for at tick 400,000 of frame F begins at frame F + 3. -/
theorem test_moored_request :
    after (.pwrStateSet (req 32 15 ([0, 2] ++ leBytes 2 10 ++ leBytes 4 17 ++ leBytes 4 600)))
      { session with tide := { frame := 100, tick := 400000 } } (fun t => t.power.entry.map (·.at_)) = some (some 103) := by decide

/-- R72x, Table PW-13: a timer wake of a MOORED device begins with PSEQ_EN_2. -/
theorem test_wake : after (.pwWake 1) moored (fun t => t.power.seq) = some (.mooredUp 2) := by decide

/-- Table CS-3: the eighth failure latches the switch. -/
theorem test_switch_latches :
    after (.lswFail 0 1) (lswIn 0 { state := .on, fails := 7 } 0) (fun t => (t.lsw 0).state) = some .latched := by decide

theorem test_vin_fail :
    after .vinFail mgr (fun t => (t.cistern.run, t.cistern.vinOk)) = some (4, false) ∧ raised .vinFail mgr 64 = some true := by decide

/-- R870: a bite during a warm restart that a bite began is a watchdog reset. -/
theorem test_second_bite :
    after .watchdogBite warm (fun t => (t.start.resetCause, t.start.wdCount, t.start.fwState)) = some (3, 1, 0) := by decide

set_option maxRecDepth 100000 in
/-- R640: a berth's mailbox may not renumber the ring. -/
theorem test_denied :
    after (.ringRenumber (req 7 15 (leBytes 4 0x524E554D))) mgr (status 7) = some (some 7) := by decide

/-- R908: the shell answers OK and tries the new settings; a trial that ends takes the old ones back. -/
theorem test_uart_trial :
    after (.shellUart 9600 8 0 0 64 32 0) mgr (fun t => (t.craft.uart.div, t.craft.trial)) = some (81000, some {})
    ∧ after .uartTrialTimeout { mgr with craft := { uart := { div := 81000 }, trial := some {} } } (fun t => t.craft.uart)
      = some {} := by decide

theorem test_gpio_edge :
    raised (.gpioEdge 4 true) mgr 612 = some true := by decide

/-- An idle step is one CORE clock of 8 ticks. -/
theorem test_idle : (match step mgr with | .next t => t.now | _ => 0) = 8 := by decide

theorem test_front_of_queue :
    (match step { mgr with pending := [.oscStartTimeout, .hello] } with | .next t => t.pending | _ => []) = [.hello] := by decide


end Sys2Proof.Tests
end

section
/-!
What every command keeps (R25): the queue of the commands that wait, and the fuses. There is one rule for each operation
of the model that gives a state, in the order of the model's files, so that the proof of a rule cites the rules of the
operations that its function calls: it unfolds the function, splits what it branches on and leaves each branch to those
rules. The rules of the rows meet in exec_kept, from which the identification registers are settled.
-/

namespace Sys2Proof.Machine

/-! ### What every command keeps -/

/-- What no command touches: the queue of the commands that wait, and the fuses (R25). -/
def State.kept (s : State) : List Instr × Bool × W32 := (s.pending, s.fuses)

/-- An update of any components that leaves the queue, and of the start block the fuses. It is stated of the record's
constructor, which is what an update `{ s with … }` of a computed state reads as. -/
@[simp] theorem State.kept_mk {s : State} {k : Start} (hp : k.part4410 = s.start.part4410)
    (hn : k.serialNum = s.start.serialNum) (now bnd fresh : Nat) (out : List Emission) (power : Power) (clk : Clocks)
    (tide : Tide) (line : Line) (pool : Pool) (sched : Sched) (ports : Tab Port) (e1s : Tab E1) (cipher : Cipher)
    (ring : Ring) (host : HostIf) (evt : Events) (cnt : Tab Nat) (snap : Snapshot) (cfg : Cfg) (adm : Admission)
    (cistern : Cistern) (log : Logbook) (craft : Craft) :
    State.kept ⟨s.pending, now, bnd, fresh, out, k, power, clk, tide, line, pool, sched, ports, e1s, cipher, ring, host,
      evt, cnt, snap, cfg, adm, cistern, log, craft⟩ = s.kept := by simp only [State.kept, State.fuses, hp, hn]

@[simp] theorem State.kept_ite (c : Prop) [Decidable c] (s t : State) :
    (if c then s else t).kept = if c then s.kept else t.kept := apply_ite _ _ _ _

theorem State.kept_of_ite {c : Prop} [Decidable c] {s t u : State} (hs : s.kept = u.kept) (ht : t.kept = u.kept) :
    (if c then s else t).kept = u.kept := by rw [State.kept_ite, hs, ht, ite_self]

@[simp] theorem State.kept_fst_ite {α : Type} (c : Prop) [Decidable c] (p q : State × α) :
    (if c then p else q).1.kept = if c then p.1.kept else q.1.kept := by split <;> rfl

@[simp] theorem State.kept_snd_ite {α : Type} (c : Prop) [Decidable c] (p q : α × State) :
    (if c then p else q).2.kept = if c then p.2.kept else q.2.kept := by split <;> rfl

@[simp] theorem Fill.st_ite (c : Prop) [Decidable c] (f g : Fill) :
    (if c then f else g).st = if c then f.st else g.st := apply_ite _ _ _ _

/-- A fold whose every step keeps them. -/
@[simp] theorem State.kept_foldl {α : Type} {f : State → α → State} (h : ∀ t x, (f t x).kept = t.kept) (l : List α)
    (s : State) : (l.foldl f s).kept = s.kept := by
  induction l generalizing s with
  | nil => rfl
  | cons x l ih => rw [List.foldl_cons, ih, h]

@[simp] theorem State.kept_foldr {α : Type} {f : α → State → State} (h : ∀ x t, (f x t).kept = t.kept) (l : List α)
    (s : State) : (l.foldr f s).kept = s.kept := by
  induction l with
  | nil => rfl
  | cons x l ih => rw [List.foldr_cons, h, ih]

theorem Reports.kept {s t : State} (h : Reports s t) : t.kept = s.kept := by
  obtain ⟨_, _, _, _, _, _, rfl⟩ := h
  simp

/-- If the outcome is a next state, that state keeps what `s` keeps. -/
def NextKeeps (s : State) (o : Host.Outcome State Fault Refusal) : Prop := ∀ t, o = .next t → t.kept = s.kept

@[simp] theorem nextKeeps_next (s t : State) : NextKeeps s (.next t) ↔ t.kept = s.kept := by
  simp [NextKeeps]

/-- What a request does, if it does anything, keeps them. -/
def Verdict.keeps : Verdict → Prop
  | .no _ => True
  | .go f => ∀ s, (f s).kept = s.kept

@[simp] theorem Verdict.keeps_no (st : Status) : (Verdict.no st).keeps := trivial

@[simp] theorem Verdict.keeps_go (f : State → State) : (Verdict.go f).keeps ↔ ∀ s, (f s).kept = s.kept := Iff.rfl

@[simp] theorem Verdict.keeps_ite (c : Prop) [Decidable c] (v w : Verdict) :
    (if c then v else w).keeps ↔ if c then v.keeps else w.keeps := by split <;> rfl

theorem Verdict.keeps_of_ite {c : Prop} [Decidable c] {v w : Verdict} (hv : v.keeps) (hw : w.keeps) :
    (if c then v else w).keeps := by
  split
  · exact hv
  · exact hw

/-! ### The start block keeps the fuses -/

@[simp] theorem Start.part4410_ite (c : Prop) [Decidable c] (j k : Start) :
    (if c then j else k).part4410 = if c then j.part4410 else k.part4410 := apply_ite _ _ _ _

@[simp] theorem Start.serialNum_ite (c : Prop) [Decidable c] (j k : Start) :
    (if c then j else k).serialNum = if c then j.serialNum else k.serialNum := apply_ite _ _ _ _

@[simp] theorem Start.rewrite_fuses (k : Start) :
    k.rewrite.1.part4410 = k.part4410 ∧ k.rewrite.1.serialNum = k.serialNum := by simp [Start.rewrite]

@[simp] theorem Start.putStore_fuses (c : Cfg) (k : Start) :
    (k.putStore c).1.part4410 = k.part4410 ∧ (k.putStore c).1.serialNum = k.serialNum := by simp [Start.putStore]

@[simp] theorem Start.reset_fuses (por : Bool) (cause : Nat) (k : Start) :
    (k.reset por cause).part4410 = k.part4410 ∧ (k.reset por cause).serialNum = k.serialNum := ⟨rfl, rfl⟩

@[simp] theorem Start.putBank_fuses (b : Bool) (x : ImgBank) (k : Start) :
    (k.putBank b x).part4410 = k.part4410 ∧ (k.putBank b x).serialNum = k.serialNum := by simp [Start.putBank]

@[simp] theorem Start.mark_fuses (b : Bool) (x : BankState) (k : Start) :
    (k.mark b x).part4410 = k.part4410 ∧ (k.mark b x).serialNum = k.serialNum := by simp [Start.mark]

@[simp] theorem Start.runs_fuses (b : Bool) (k : Start) :
    (k.runs b).part4410 = k.part4410 ∧ (k.runs b).serialNum = k.serialNum := ⟨rfl, rfl⟩

@[simp] theorem Start.readHeader_fuses (k : Start) :
    k.readHeader.part4410 = k.part4410 ∧ k.readHeader.serialNum = k.serialNum := by
  unfold Start.readHeader
  split <;> exact ⟨rfl, rfl⟩

@[simp] theorem Start.spoil_fuses (r : FlashRegion) (k : Start) :
    (k.spoil r).part4410 = k.part4410 ∧ (k.spoil r).serialNum = k.serialNum := by
  unfold Start.spoil
  split
  · split <;> exact ⟨rfl, rfl⟩
  · split <;> exact ⟨rfl, rfl⟩
  · exact ⟨rfl, rfl⟩

/-! ### The operations of Sys2Proof/Machine/Flash -/

@[simp] theorem State.flashWrite_kept (addr size : Nat) (b : List Byte) (s : State) :
    (s.flashWrite addr size b).kept = s.kept := by simp [State.flashWrite]

@[simp] theorem State.header_kept {f : Start → Start} (hp : ∀ k, (f k).part4410 = k.part4410)
    (hn : ∀ k, (f k).serialNum = k.serialNum) (s : State) : (s.header f).kept = s.kept := by simp [State.header, hp, hn]

/-! ### The operations of Sys2Proof/Machine/Ops -/

@[simp] theorem State.putStore_kept (c : Cfg) (s : State) : (s.putStore c).kept = s.kept := by
  simp [State.putStore]

@[simp] theorem State.modLane_kept (l : Nat) (f : LaneState → LaneState) (s : State) :
    (s.modLane l f).kept = s.kept := by simp [State.modLane]

@[simp] theorem State.modAlloc_kept (a : Nat) (f : AllocState → AllocState) (s : State) :
    (s.modAlloc a f).kept = s.kept := by simp [State.modAlloc]

@[simp] theorem State.modGroup_kept (g : Nat) (f : GroupState → GroupState) (s : State) :
    (s.modGroup g f).kept = s.kept := by simp [State.modGroup]

@[simp] theorem State.modJoinLane_kept (l : Nat) (f : JoinLane → JoinLane) (s : State) :
    (s.modJoinLane l f).kept = s.kept := by simp [State.modJoinLane]

@[simp] theorem State.modQueue_kept (q : Nat) (f : Queue → Queue) (s : State) : (s.modQueue q f).kept = s.kept := by
  simp [State.modQueue]

@[simp] theorem State.modPort_kept (p : Nat) (f : Port → Port) (s : State) : (s.modPort p f).kept = s.kept := by
  simp [State.modPort]

@[simp] theorem State.modE1_kept (p : Nat) (f : E1 → E1) (s : State) : (s.modE1 p f).kept = s.kept := by
  simp [State.modE1]

@[simp] theorem State.modSide_kept (d : Nat) (f : RingSide → RingSide) (s : State) : (s.modSide d f).kept = s.kept := by
  simp [State.modSide]

@[simp] theorem State.modNode_kept (n : Nat) (f : NodeEntry → NodeEntry) (s : State) :
    (s.modNode n f).kept = s.kept := by simp [State.modNode]

@[simp] theorem State.modBox_kept (m : Nat) (f : Mbx → Mbx) (s : State) : (s.modBox m f).kept = s.kept :=
  (State.modBox_reports s m f).kept

@[simp] theorem State.modBank_kept (slot b : Nat) (f : Bank → Bank) (s : State) :
    (s.modBank slot b f).kept = s.kept := by simp [State.modBank]

@[simp] theorem State.modLsw_kept (k : Nat) (f : Lsw → Lsw) (s : State) : (s.modLsw k f).kept = s.kept := by
  simp [State.modLsw]

@[simp] theorem State.emit_kept (e : Emission) (s : State) : (s.emit e).kept = s.kept := by simp [State.emit]

@[simp] theorem State.setClk_kept (f : Clocks → Clocks) (s : State) : (s.setClk f).kept = s.kept := by
  simp [State.setClk]

@[simp] theorem State.syncTx_kept (l : Nat) (s : State) : (s.syncTx l).kept = s.kept := by simp [State.syncTx]
@[simp] theorem State.syncTxs_kept (s : State) : s.syncTxs.kept = s.kept := by simp [State.syncTxs]

@[simp] theorem State.cutBurst_kept (l : Nat) (s : State) : (s.cutBurst l).kept = s.kept := by
  unfold State.cutBurst
  split <;> simp

@[simp] theorem State.relock_kept (s : State) : s.relock.kept = s.kept := by simp [State.relock]
@[simp] theorem State.syncIdle_kept (s : State) : s.syncIdle.kept = s.kept := by simp [State.syncIdle]
@[simp] theorem State.gateOn_kept (mask : W32) (s : State) : (s.gateOn mask).kept = s.kept := by simp [State.gateOn]
@[simp] theorem State.gateOff_kept (mask : W32) (s : State) : (s.gateOff mask).kept = s.kept := by simp [State.gateOff]

@[simp] theorem State.hostAccess_kept {f : State → State} (h : ∀ s, (f s).kept = s.kept) (a : HostAccess) (s : State) :
    (s.hostAccess a f).kept = s.kept := by simp [State.hostAccess, h]

@[simp] theorem State.dcc_kept (n : Nat) (b : DccBody) (s : State) : (s.dcc n b).kept = s.kept :=
  (State.dcc_reports s n b).kept

@[simp] theorem State.dccOn_kept (d dst : Nat) (body : DccBody) (s : State) : (s.dccOn d dst body).kept = s.kept := by
  simp [State.dccOn]

@[simp] theorem State.dccRaw_kept (d : Nat) (m : DccMsg) (s : State) : (s.dccRaw d m).kept = s.kept := by
  simp [State.dccRaw]

@[simp] theorem State.dccBcast_kept (body : DccBody) (s : State) : (s.dccBcast body).kept = s.kept := by
  simp [State.dccBcast]

@[simp] theorem State.logRec_kept (k : Nat) (d : List Byte) (s : State) : (s.logRec k d).kept = s.kept :=
  (State.logRec_reports s k d).kept

@[simp] theorem State.setEvt_kept (e : Events) (b : Bool) (s : State) : (s.setEvt e b).kept = s.kept :=
  (State.setEvt_reports s e b).kept

@[simp] theorem State.raise_kept (src obj detail : Nat) (s : State) : (s.raise src obj detail).kept = s.kept :=
  (State.raise_reports s src obj detail).kept

@[simp] theorem State.raiseWin_kept (n src sub obj detail : Nat) (s : State) :
    (s.raiseWin n src sub obj detail).kept = s.kept :=
  (State.raiseWin_reports s n src sub obj detail).kept

@[simp] theorem State.postHalf_kept (w : W32) (o : Nat) (s : State) : (s.postHalf w o).kept = s.kept :=
  (State.postHalf_reports s w o).kept

@[simp] theorem State.count_kept (i n : Nat) (s : State) : (s.count i n).kept = s.kept :=
  (State.count_reports s i n).kept

@[simp] theorem State.inc_kept (i : Nat) (s : State) : (s.inc i).kept = s.kept :=
  (State.inc_reports s i).kept

@[simp] theorem State.answer_kept (o : Nat) (q : Req) (st : Status) (p : List Byte) (s : State) :
    (s.answer o q st p).kept = s.kept :=
  (State.answer_reports s o q st p).kept

@[simp] theorem State.reply_kept (o : Nat) (q : Req) (st : Status) (s : State) : (s.reply o q st).kept = s.kept :=
  (State.reply_reports s o q st).kept

@[simp] theorem State.complete_kept (m k : Nat) (st : Status) (p : List Byte) (s : State) :
    (s.complete m k st p).kept = s.kept :=
  (State.complete_reports s m k st p).kept

@[simp] theorem State.await_kept (o : Nat) (q : Req) (w : Wait) (s : State) : (s.await o q w).kept = s.kept :=
  (State.await_reports s o q w).kept

@[simp] theorem State.answerOn_kept (w : Wait) (st : Status) (p : List Byte) (s : State) :
    (s.answerOn w st p).kept = s.kept :=
  (State.answerOn_reports s w st p).kept

@[simp] theorem State.deferOp_kept {run : State → State} (h : ∀ s, (run s).kept = s.kept) (opc : Nat) (q : Req)
    (object : Nat) (s : State) : (s.defer_ opc q object run).kept = s.kept := by simp [State.defer_, h]

/-! ### The operations of Sys2Proof/Machine/Frame -/

@[simp] theorem State.idleChange_kept (s : State) : s.idleChange.kept = s.kept := by
  unfold State.idleChange
  split <;> simp

@[simp] theorem State.laneIdleCheck_kept (s : State) (l : Nat) : (s.laneIdleCheck l).kept = s.kept := by
  simp [State.laneIdleCheck]

@[simp] theorem State.sendTs0_kept (s : State) (p : Nat) : (s.sendTs0 p).kept = s.kept := by simp [State.sendTs0]

@[simp] theorem State.e1Send_kept (p : Nat) (frame : List Byte) (s : State) : (s.e1Send p frame).kept = s.kept := by
  simp [State.e1Send]

@[simp] theorem State.e1Boundary_kept (s : State) (p : Nat) : (s.e1Boundary p).kept = s.kept := by
  simp only [State.e1Boundary]
  split
  · simp
  · split <;> simp

@[simp] theorem State.reoffset_kept (f : Tide → Tide) (s : State) : (s.reoffset f).kept = s.kept := by
  simp [State.reoffset]

@[simp] theorem State.timingTake_kept (s : State) : s.timingTake.kept = s.kept := by
  unfold State.timingTake
  split <;> simp

@[simp] theorem State.refresh_kept (s : State) : s.refresh.kept = s.kept := by simp [State.refresh]
@[simp] theorem State.boundary_kept (s : State) : s.boundary.kept = s.kept := by simp [State.boundary]
@[simp] theorem State.until_kept (t : Nat) (s : State) : (s.until t).kept = s.kept := by simp [State.until]

@[simp] theorem State.untilNow_kept (e : Option Nat) (s : State) : (s.untilNow e).kept = s.kept := by
  unfold State.untilNow
  split <;> simp

@[simp] theorem State.muxRequest_kept (key : Nat) (toB : Bool) (s : State) : (s.muxRequest key toB).kept = s.kept := by
  simp [State.muxRequest]

@[simp] theorem State.recheck_kept (s : State) : s.recheck.kept = s.kept := by simp [State.recheck]

/-! ### The operations of Sys2Proof/Machine/Packets -/

@[simp] theorem State.qthPost_kept (entry : W32) (obj : Nat) (s : State) : (s.qthPost entry obj).kept = s.kept := by
  simp [State.qthPost]

@[simp] theorem State.threshold_kept (q : Nat) (s : State) : (s.threshold q).kept = s.kept := by simp [State.threshold]
@[simp] theorem State.poolLow_kept (s : State) : s.poolLow.kept = s.kept := by simp [State.poolLow]

@[simp] theorem State.eccRead_kept (e : Ecc) (obj : Nat) (s : State) : (s.eccRead e obj).kept = s.kept := by
  unfold State.eccRead
  split <;> simp

@[simp] theorem State.takeQueued_kept (n : Nat) (s : State) : (s.takeQueued n).kept = s.kept := by
  simp [State.takeQueued]

@[simp] theorem State.freeQueued_kept (n : Nat) (s : State) : (s.freeQueued n).kept = s.kept := by
  simp [State.freeQueued]

@[simp] theorem State.queueDrop_kept (q n : Nat) (s : State) : (s.queueDrop q n).kept = s.kept := by
  simp [State.queueDrop]

@[simp] theorem State.link_kept (q : Nat) (p : Packet) (s : State) : (s.link q p).kept = s.kept := by simp [State.link]

@[simp] theorem State.refusedCell_kept (q owner : Nat) (t : Take) (s : State) :
    (s.refusedCell q owner t).kept = s.kept := by simp [State.refusedCell]

@[simp] theorem State.offer_kept (q : Nat) (p : Packet) (s : State) : (s.offer q p).1.kept = s.kept := by
  simp only [State.offer]
  split
  · simp
  · split
    · simp
    · split
      · simp
      · split
        · simp
        · split <;> simp

@[simp] theorem State.offerUp_kept (q cls : Nat) (p : Packet) (s : State) : (s.offerUp q cls p).1.kept = s.kept := by
  unfold State.offerUp
  split <;> simp

@[simp] theorem State.freePacket_kept (q : Nat) (p : Packet) (s : State) : (s.freePacket q p).kept = s.kept := by
  simp [State.freePacket]

@[simp] theorem State.removeAll_kept (q : Nat) (gone keep : List Packet) (s : State) :
    (s.removeAll q gone keep).kept = s.kept := by simp [State.removeAll]

@[simp] theorem State.mapWriter_kept (w : Nat) (f : Packet → Packet) (s : State) : (s.mapWriter w f).kept = s.kept := by
  simp [State.mapWriter]

@[simp] theorem State.endWrite_kept (w : Nat) (bad trunc : Bool) (s : State) :
    (s.endWrite w bad trunc).kept = s.kept := by
  unfold State.endWrite
  split <;> simp

@[simp] theorem State.dropWrite_kept (w q : Nat) (p : Packet) (s : State) : (s.dropWrite w q p).kept = s.kept := by
  simp [State.dropWrite]

@[simp] theorem State.spoilWrite_kept (w : Nat) (s : State) : (s.spoilWrite w).kept = s.kept := by
  unfold State.spoilWrite
  split <;> simp

@[simp] theorem State.moreWrite_kept (w : Nat) (b : List Byte) (s : State) : (s.moreWrite w b).1.kept = s.kept := by
  simp only [State.moreWrite]
  split
  · simp
  · split <;> simp

@[simp] theorem State.setRx_kept (p : Nat) (fin : Bool) (x : RxFrame) (s : State) :
    (s.setRx p fin x).kept = s.kept := by simp [State.setRx]

@[simp] theorem State.loseRx_kept (p : Nat) (fin : Bool) (s : State) : (s.loseRx p fin).kept = s.kept := by
  simp [State.loseRx]

@[simp] theorem State.flushNow_kept (q n : Nat) (s : State) : (s.flushNow q n).kept = s.kept := by simp [State.flushNow]

@[simp] theorem State.flushPoint_kept (q : Nat) (s : State) : (s.flushPoint q).kept = s.kept := by
  simp [State.flushPoint]

@[simp] theorem State.flushWaiting_kept (q : Nat) (s : State) : (s.flushWaiting q).kept = s.kept := by
  unfold State.flushWaiting
  split <;> simp

/-! ### The operations of Sys2Proof/Machine/E1 -/

@[simp] theorem State.e1Event_kept (p k detail : Nat) (s : State) : (s.e1Event p k detail).kept = s.kept := by
  simp [State.e1Event]

@[simp] theorem State.slipRestart_kept (p : Nat) (s : State) : (s.slipRestart p).kept = s.kept := by
  simp [State.slipRestart]

@[simp] theorem State.e1Slip_kept (p i : Nat) (s : State) : (s.e1Slip p i).kept = s.kept := by simp [State.e1Slip]

@[simp] theorem State.cesRestart_kept (p : Nat) (s : State) : (s.cesRestart p).kept = s.kept := by
  simp [State.cesRestart]

@[simp] theorem State.cesStop_kept (p : Nat) (s : State) : (s.cesStop p).kept = s.kept := by simp [State.cesStop]

@[simp] theorem State.cesRestore_kept (p : Nat) (s : State) : (s.cesRestore p).kept = s.kept := by
  simp [State.cesRestore]

@[simp] theorem State.framer_kept (p : Nat) (frame : List Byte) (s : State) : (s.framer p frame).kept = s.kept := by
  simp [State.framer]

theorem execSlipBufferWrite_kept (p : E1No) (frame : List Byte) (s : State) :
    NextKeeps s (execSlipBufferWrite p frame s) := by simp [execSlipBufferWrite]

theorem execSlipBufferRead_kept (p : E1No) (s : State) : NextKeeps s (execSlipBufferRead p s) := by
  simp only [execSlipBufferRead]
  split
  · simp
  · split <;> simp

theorem execCesPacketise_kept (p : E1No) (s : State) : NextKeeps s (execCesPacketise p s) := by simp [execCesPacketise]

@[simp] theorem State.jbMargin_kept (p depth : Nat) (m : Int) (s : State) : (s.jbMargin p depth m).kept = s.kept := by
  simp [State.jbMargin]

@[simp] theorem State.cesDiscard_kept (p : Nat) (pkt : Packet) (i : Nat) (s : State) :
    (s.cesDiscard p pkt i).kept = s.kept := by simp [State.cesDiscard]

@[simp] theorem State.cesHold_kept (p base : Nat) (pkt : Packet) (s : State) :
    (s.cesHold p base pkt).kept = s.kept := by simp [State.cesHold]

@[simp] theorem State.cesPlace_kept (p : Nat) (pkt : Packet) (s : State) : (s.cesPlace p pkt).kept = s.kept := by
  simp [State.cesPlace]

theorem execCesPacketArrival_kept (p : E1No) (s : State) : NextKeeps s (execCesPacketArrival p s) := by
  unfold execCesPacketArrival
  split <;> simp

@[simp] theorem State.cesLops_kept (p : Nat) (s : State) : (s.cesLops p).kept = s.kept := by simp [State.cesLops]

@[simp] theorem State.playFrames_kept (p : Nat) (fs : List (List Byte)) (s : State) :
    (s.playFrames p fs).kept = s.kept := by simp [State.playFrames]

@[simp] theorem State.cesLost_kept (p : Nat) (s : State) : (s.cesLost p).kept = s.kept := by simp [State.cesLost]

@[simp] theorem State.cesPlay_kept (p : Nat) (b : List Byte) (s : State) : (s.cesPlay p b).kept = s.kept := by
  simp [State.cesPlay]

theorem execPlayoutStartInstant_kept (r : CellRead E1No Ecc) (s : State) :
    NextKeeps s (execPlayoutStartInstant r s) := by
  simp only [execPlayoutStartInstant]
  split
  · simp
  · split <;> simp

@[simp] theorem State.e1Mark_kept (p : Nat) (d : E1Defect) (on : Bool) (s : State) :
    (s.e1Mark p d on).kept = s.kept := by simp [State.e1Mark]

@[simp] theorem State.e1Timing_kept (p : Nat) (toRclk : Bool) (s : State) : (s.e1Timing p toRclk).kept = s.kept := by
  simp [State.e1Timing]

theorem execRclkLoss_kept (p : E1No) (s : State) : NextKeeps s (execRclkLoss p s) := by simp [execRclkLoss]
theorem execRclkReturn_kept (p : E1No) (s : State) : NextKeeps s (execRclkReturn p s) := by simp [execRclkReturn]

theorem execCrc4SearchTimeout_kept (p : E1No) (s : State) : NextKeeps s (execCrc4SearchTimeout p s) := by
  simp [execCrc4SearchTimeout]

theorem execE1Defect_kept (p : E1No) (d : E1Defect) (declared : Bool) (s : State) :
    NextKeeps s (execE1Defect p d declared s) := by
  simp only [execE1Defect]
  split
  · simp
  · split <;> simp

@[simp] theorem State.e1Step_kept (s : State) : s.e1Step.kept = s.kept := by simp [State.e1Step]

/-! ### The operations of Sys2Proof/Machine/Sched -/

@[simp] theorem State.modGate_kept (p : Nat) (f : Gate → Gate) (s : State) : (s.modGate p f).kept = s.kept := by
  simp [State.modGate]

@[simp] theorem State.endTurn_kept (q : Nat) (s : State) : (s.endTurn q).kept = s.kept := by simp [State.endTurn]

@[simp] theorem State.putGate_kept (p : Nat) (g : Gate) (s : State) : (s.putGate p g).kept = s.kept := by
  simp [State.putGate]

theorem execGateSwap_kept (p : PortNo) (s : State) : NextKeeps s (execGateSwap p s) := by
  unfold execGateSwap
  split <;> simp

theorem execGateChange_kept (p : PortNo) (s : State) : NextKeeps s (execGateChange p s) := by simp [execGateChange]

@[simp] theorem State.gatesStep_kept (s : State) : s.gatesStep.kept = s.kept := by
  refine State.kept_foldl (fun t p => ?_) _ s
  simp only
  split <;> simp

@[simp] theorem State.shape_kept (q : Nat) (s : State) : (s.shape q).kept = s.kept := by
  unfold State.shape
  split <;> simp

theorem execCalendarRelease_kept (q : Fin 128) (s : State) : NextKeeps s (execCalendarRelease q s) := by
  unfold execCalendarRelease
  split <;> simp

theorem execCalendarUnpark_kept (s : State) : NextKeeps s (execCalendarUnpark s) := by
  rw [execCalendarUnpark, nextKeeps_next]
  split
  · rfl
  · rw [State.kept_foldl, State.until_kept]
    intro t q
    split <;> simp

@[simp] theorem State.wheelStep_kept (s : State) : s.wheelStep.kept = s.kept := by
  refine State.kept_foldl (fun t q => ?_) _ s
  split <;> simp

@[simp] theorem State.dropHead_kept (q : Nat) (p : Packet) (oversize : Bool) (s : State) :
    (s.dropHead q p oversize).kept = s.kept := by simp [State.dropHead]

@[simp] theorem State.dropHeads_kept (q : Nat) (l : List Packet) (s : State) : (s.dropHeads q l).kept = s.kept := by
  induction l generalizing s with
  | nil => rfl
  | cons p t ih => simp only [State.dropHeads]; split <;> simp [ih]

@[simp] theorem State.putDeficits_kept (l : List DrrQ) (s : State) : (s.putDeficits l).kept = s.kept := by
  simp [State.putDeficits]

@[simp] theorem State.startFrame_kept (p q : Nat) (s : State) : (s.startFrame p q).kept = s.kept := by
  unfold State.startFrame
  split <;> simp

theorem execEgressStart_kept (p : PortNo) (s : State) : NextKeeps s (execEgressStart p s) := by
  simp only [execEgressStart]
  split
  · simp
  · split
    · simp
    · split <;> simp

@[simp] theorem State.clipDeficit_kept (q : Nat) (s : State) : (s.clipDeficit q).kept = s.kept := by
  simp [State.clipDeficit]

@[simp] theorem State.police_kept (k len : Nat) (input : Colour) (s : State) :
    (s.police k len input).1.kept = s.kept := by simp [State.police]

@[simp] theorem State.copyTo_kept (g q : Nat) (p : Packet) (s : State) : (s.copyTo g q p).kept = s.kept := by
  simp only [State.copyTo]
  split <;> simp

theorem execMcastReplicate_kept (r : CellRead (Fin 256) Ecc) (s : State) : NextKeeps s (execMcastReplicate r s) := by
  simp only [execMcastReplicate]
  split <;> simp

/-! ### The operations of Sys2Proof/Machine/Ports -/

@[simp] theorem State.spEvent_kept (p k detail : Nat) (s : State) : (s.spEvent p k detail).kept = s.kept := by
  simp [State.spEvent]

@[simp] theorem State.spFirst_kept (p k : Nat) (s : State) : (s.spFirst p k).kept = s.kept := by simp [State.spFirst]

@[simp] theorem State.countFrame_kept (p base : Nat) (b : List Byte) (len : Nat) (ok : Bool) (s : State) :
    (s.countFrame p base b len ok).kept = s.kept := by simp [State.countFrame]

@[simp] theorem State.pauseClass_kept (p c quanta : Nat) (s : State) : (s.pauseClass p c quanta).kept = s.kept := by
  simp [State.pauseClass]

@[simp] theorem State.macControl_kept (p : Nat) (b : List Byte) (s : State) : (s.macControl p b).kept = s.kept := by
  simp [State.macControl]

@[simp] theorem State.sendPause_kept (p quanta : Nat) (s : State) : (s.sendPause p quanta).kept = s.kept := by
  simp [State.sendPause]

theorem execPauseExpiry_kept (p : PortNo) (c : Fin 8) (s : State) : NextKeeps s (execPauseExpiry p c s) := by
  simp [execPauseExpiry]

theorem execPauseTx_kept (p : PortNo) (s : State) : NextKeeps s (execPauseTx p s) := by simp [execPauseTx]

@[simp] theorem State.rxRefused_kept (p owner : Nat) (e : Entered) (s : State) :
    (s.rxRefused p owner e).kept = s.kept := by simp [State.rxRefused]

@[simp] theorem State.rxOpen_kept (p : Nat) (x : RxFrame) (s : State) : (s.rxOpen p x).kept = s.kept := by
  simp only [State.rxOpen]
  split
  · simp
  · split <;> simp

@[simp] theorem State.rxPart_kept (p : Nat) (old x : RxFrame) (s : State) : (s.rxPart p old x).kept = s.kept := by
  unfold State.rxPart
  split <;> simp

@[simp] theorem State.rxStore_kept (p : Nat) (w : RxWrite) (o : Nat) (e : ClassCfg) (b : List Byte) (n : Nat)
    (dei trunc : Bool) (s : State) : (s.rxStore p w o e b n dei trunc).kept = s.kept := by
  simp only [State.rxStore]
  split
  · simp
  · split
    · simp
    · rw [State.endWrite_kept]
      split
      · split <;> simp
      · simp
  · rfl

@[simp] theorem State.enterFrame_kept (p len : Nat) (x : RxFrame) (b : List Byte) (n : Nat) (trunc : Bool) (s : State) :
    (s.enterFrame p len x b n trunc).kept = s.kept := by
  simp only [State.enterFrame]
  split
  · simp
  · split
    · simp
    · split <;> simp

@[simp] theorem State.rxEnd_kept (p n : Nat) (x : RxFrame) (s : State) : (s.rxEnd p n x).kept = s.kept := by
  simp [State.rxEnd]

theorem execFrameReceive_kept (p : PortNo) (bytes : List Byte) (last : Bool) (s : State) :
    NextKeeps s (execFrameReceive p bytes last s) := by simp [execFrameReceive]

@[simp] theorem State.txDone_kept (p : Nat) (t : TxFrame) (s : State) : (s.txDone p t).kept = s.kept := by
  simp [State.txDone]

@[simp] theorem State.endedEarly_kept (w : Nat) (s : State) : (s.endedEarly w).kept = s.kept := by
  simp [State.endedEarly]

@[simp] theorem State.txRest_kept (t : TxFrame) (s : State) : (s.txRest t).kept = s.kept := by simp [State.txRest]

theorem execFrameTransmit_kept (r : CellRead PortNo Ecc) (s : State) : NextKeeps s (execFrameTransmit r s) := by
  simp only [execFrameTransmit]
  split <;> simp

@[simp] theorem State.setFault_kept (p code : Nat) (s : State) : (s.setFault p code).kept = s.kept := by
  simp [State.setFault]

@[simp] theorem State.cutTx_kept (p : Nat) (own : Bool) (s : State) : (s.cutTx p own).kept = s.kept := by
  unfold State.cutTx
  split <;> simp

@[simp] theorem State.cutRx_kept (p : Nat) (s : State) : (s.cutRx p).kept = s.kept := by
  simp only [State.cutRx]
  split
  · simp
  · split <;> simp

@[simp] theorem State.linkDown_kept (p : Nat) (s : State) : (s.linkDown p).kept = s.kept := by simp [State.linkDown]
@[simp] theorem State.linkHold_kept (p : Nat) (s : State) : (s.linkHold p).kept = s.kept := by simp [State.linkHold]

theorem execSpLinkUp_kept (p : PortNo) (learned : Option (Fin 6)) (s : State) :
    NextKeeps s (execSpLinkUp p learned s) := by
  unfold execSpLinkUp
  split <;> simp

theorem execSpLinkDown_kept (p : PortNo) (s : State) : NextKeeps s (execSpLinkDown p s) := by simp [execSpLinkDown]

theorem execSpFault_kept (p : PortNo) (code : Fin 6) (learned : Option (Fin 6)) (s : State) :
    NextKeeps s (execSpFault p code learned s) := by simp [execSpFault]

theorem execPhyPoll_kept (p : PortNo) (answer : Option (BitVec 16)) (s : State) :
    NextKeeps s (execPhyPoll p answer s) := by
  simp only [execPhyPoll]
  split
  · simp
  · split <;> simp

/-! ### The operations of Sys2Proof/Machine/PoolCmds -/

theorem execQthRelay_kept (node : NodeNo) (queue : Fin 4096) (frame : BitVec 16) (s : State) :
    NextKeeps s (execQthRelay node queue frame s) := by simp [execQthRelay]

@[simp] theorem State.readQthFifo_kept (s : State) : s.readQthFifo.kept = s.kept := by
  unfold State.readQthFifo
  split <;> simp

theorem execQthFifoDataRead_kept (s : State) : NextKeeps s (execQthFifoDataRead s) := by simp [execQthFifoDataRead]

@[simp] theorem State.readCntFifo_kept (s : State) : s.readCntFifo.kept = s.kept := by
  unfold State.readCntFifo
  split <;> simp

theorem execCntFifoDataRead_kept (s : State) : NextKeeps s (execCntFifoDataRead s) := by simp [execCntFifoDataRead]
theorem execCntHalf_kept (index : BitVec 16) (s : State) : NextKeeps s (execCntHalf index s) := by simp [execCntHalf]

theorem execRolloverRelay_kept (node : NodeNo) (index : BitVec 16) (frame : BitVec 12) (s : State) :
    NextKeeps s (execRolloverRelay node index frame s) := by simp [execRolloverRelay]

theorem execFlushAct_kept (q : Fin 4096) (s : State) : NextKeeps s (execFlushAct q s) := by simp [execFlushAct]

@[simp] theorem State.breach_kept (cls obj reason : Nat) (s : State) : (s.breach cls obj reason).kept = s.kept := by
  simp [State.breach]

@[simp] theorem State.holdRx_kept (p : Nat) (s : State) : (s.holdRx p).kept = s.kept := by simp [State.holdRx]
@[simp] theorem State.holdReasm_kept (s : State) : s.holdReasm.kept = s.kept := by simp [State.holdReasm]
@[simp] theorem State.startRecount_kept (s : State) : s.startRecount.kept = s.kept := by simp [State.startRecount]

@[simp] theorem State.descError_kept (q position : Nat) (s : State) : (s.descError q position).kept = s.kept := by
  simp [State.descError]

theorem execDescriptorEccError_kept (q : Fin 4096) (position : Nat) (s : State) :
    NextKeeps s (execDescriptorEccError q position s) := by simp [execDescriptorEccError]

@[simp] theorem State.linkRead_kept (e : Ecc) (q n : Nat) (s : State) : (s.linkRead e q n).kept = s.kept := by
  simp [State.linkRead]

theorem execPacketEnqueue_kept (q : Fin 4096) (r : CellRead (List Byte) Ecc) (s : State) :
    NextKeeps s (execPacketEnqueue q r s) := by simp [execPacketEnqueue]

@[simp] theorem State.cutList_kept (q n : Nat) (s : State) : (s.cutList q n).kept = s.kept := by simp [State.cutList]

@[simp] theorem State.releaseFlushes_kept (s : State) : s.releaseFlushes.kept = s.kept := by
  rw [State.releaseFlushes, State.kept_foldl, State.kept_foldl]
  · simp
  · intro t m
    split
    · split <;> simp
    · rfl

theorem execLedgerRecountDone_kept (s : State) : NextKeeps s (execLedgerRecountDone s) := by
  simp [execLedgerRecountDone]

theorem execSweepBorrow_kept (cells : Nat) (s : State) : NextKeeps s (execSweepBorrow cells s) := by
  simp [execSweepBorrow]

@[simp] theorem State.retireOne_kept (s : State) : s.retireOne.kept = s.kept := by simp [State.retireOne]

theorem execSweepReturn_kept (cells : Nat) (r : CellRead Nat (List Ecc)) (s : State) :
    NextKeeps s (execSweepReturn cells r s) := by simp [execSweepReturn]

/-! ### The operations of Sys2Proof/Machine/Snap -/

@[simp] theorem State.takeSnapshot_kept (asker : Option Nat) (s : State) : (s.takeSnapshot asker).kept = s.kept := by
  simp [State.takeSnapshot]

/-! ### The operations of Sys2Proof/Machine/Tide -/

@[simp] theorem State.modAlarm_kept (k : Nat) (f : Alarm → Alarm) (s : State) : (s.modAlarm k f).kept = s.kept := by
  simp [State.modAlarm]

@[simp] theorem State.fireAlarm_kept (k : Nat) (late : Bool) (s : State) : (s.fireAlarm k late).kept = s.kept := by
  simp [State.fireAlarm]

@[simp] theorem State.alarmDue_kept (s : State) (k : Nat) : (s.alarmDue k).kept = s.kept := by simp [State.alarmDue]
theorem execTideAlarm_kept (k : Fin 64) (s : State) : NextKeeps s (execTideAlarm k s) := by simp [execTideAlarm]

@[simp] theorem State.alarmStep_kept (old : Nat) (s : State) (k : Nat) : (s.alarmStep old k).kept = s.kept := by
  simp [State.alarmStep]

@[simp] theorem State.alarmsStep_kept (old : Nat) (s : State) : (s.alarmsStep old).kept = s.kept := by
  simp [State.alarmsStep]

@[simp] theorem State.setTide_kept (f : Tide → Tide) (s : State) : (s.setTide f).kept = s.kept := by
  simp [State.setTide]

@[simp] theorem State.setPulse_kept (f : Pulse → Pulse) (s : State) : (s.setPulse f).kept = s.kept := by
  simp [State.setPulse]

@[simp] theorem State.pulseLow_kept (s : State) : s.pulseLow.kept = s.kept := by simp [State.pulseLow]

@[simp] theorem State.pulseHigh_kept (fall : Nat) (s : State) : (s.pulseHigh fall).kept = s.kept := by
  simp [State.pulseHigh]

@[simp] theorem State.pulseHold_kept (s : State) : s.pulseHold.kept = s.kept := by simp [State.pulseHold]
theorem execTidePulseRise_kept (s : State) : NextKeeps s (execTidePulseRise s) := by simp [execTidePulseRise]
theorem execTidePulseFall_kept (s : State) : NextKeeps s (execTidePulseFall s) := by simp [execTidePulseFall]

@[simp] theorem State.pulseStep_kept (old : Nat) (s : State) : (s.pulseStep old).kept = s.kept := by
  simp [State.pulseStep]

@[simp] theorem State.pulseLoad_kept (s : State) : s.pulseLoad.kept = s.kept := by simp [State.pulseLoad]

@[simp] theorem State.loadTide_kept (frame tick : Nat) (s : State) : (s.loadTide frame tick).kept = s.kept := by
  simp [State.loadTide]

@[simp] theorem State.putTide_kept (frame tick : Nat) (s : State) : (s.putTide frame tick).kept = s.kept := by
  simp [State.putTide]

@[simp] theorem State.syncTo_kept (n : Nat) (s : State) : (s.syncTo n).kept = s.kept := by simp [State.syncTo]
@[simp] theorem State.syncAll_kept (s : State) : s.syncAll.kept = s.kept := by simp [State.syncAll]
@[simp] theorem State.reanchor_kept (old : Nat) (s : State) : (s.reanchor old).kept = s.kept := by simp [State.reanchor]
@[simp] theorem State.anchorRoot_kept (s : State) : s.anchorRoot.kept = s.kept := by simp [State.anchorRoot]
@[simp] theorem State.enterAnchored_kept (s : State) : s.enterAnchored.kept = s.kept := by simp [State.enterAnchored]
@[simp] theorem State.enterHoldover_kept (s : State) : s.enterHoldover.kept = s.kept := by simp [State.enterHoldover]

@[simp] theorem State.moveAnchor_kept (l : Nat) (s : State) : (s.moveAnchor l).kept = s.kept := by
  simp [State.moveAnchor]

@[simp] theorem State.lockRegained_kept (s : State) : s.lockRegained.kept = s.kept := by simp [State.lockRegained]

theorem execTideAnchored_kept (count : Nat) (s : State) : NextKeeps s (execTideAnchored count s) := by
  simp [execTideAnchored]

theorem execTideHoldover_kept (s : State) : NextKeeps s (execTideHoldover s) := by simp [execTideHoldover]

theorem execTideReacquireDecision_kept (frame tick : Nat) (s : State) :
    NextKeeps s (execTideReacquireDecision frame tick s) := by simp [execTideReacquireDecision]

theorem execTideSlewDone_kept (s : State) : NextKeeps s (execTideSlewDone s) := by simp [execTideSlewDone]

@[simp] theorem State.applyStep_kept (count tick : Nat) (s : State) : (s.applyStep count tick).kept = s.kept := by
  simp [State.applyStep]

theorem execTideStep_kept (count : Nat) (s : State) : NextKeeps s (execTideStep count s) := by
  unfold execTideStep
  split <;> simp

theorem execTideAbandonPending_kept (s : State) : NextKeeps s (execTideAbandonPending s) := by
  simp only [execTideAbandonPending]
  split
  · simp
  · split
    · simp
    · split <;> simp

theorem execTideAnchorMove_kept (s : State) : NextKeeps s (execTideAnchorMove s) := by
  simp only [execTideAnchorMove]
  split
  · simp
  · split <;> simp

theorem execTideAnchorReturn_kept (s : State) : NextKeeps s (execTideAnchorReturn s) := by simp [execTideAnchorReturn]
theorem execTideHoldLimit_kept (s : State) : NextKeeps s (execTideHoldLimit s) := by simp [execTideHoldLimit]
@[simp] theorem State.readTideLo_kept (s : State) : s.readTideLo.kept = s.kept := by simp [State.readTideLo]
theorem execTideLoRead_kept (s : State) : NextKeeps s (execTideLoRead s) := by simp [execTideLoRead]

@[simp] theorem State.modRanger_kept (n : Nat) (f : Ranger → Ranger) (s : State) : (s.modRanger n f).kept = s.kept := by
  simp [State.modRanger]

theorem execTsReq_kept (node : NodeNo) (side : Side) (rtt : Nat) (s : State) :
    NextKeeps s (execTsReq node side rtt s) := by simp [execTsReq]

@[simp] theorem State.rangeFail_kept (n d : Nat) (s : State) : (s.rangeFail n d).kept = s.kept := by
  simp [State.rangeFail]

theorem execWorkerRemeasure_kept (node : NodeNo) (rttEast rttWest : Nat) (s : State) :
    NextKeeps s (execWorkerRemeasure node rttEast rttWest s) := by simp [execWorkerRemeasure]

theorem execRangingReplyTimeout_kept (node : NodeNo) (side : Side) (s : State) :
    NextKeeps s (execRangingReplyTimeout node side s) := by simp [execRangingReplyTimeout]

theorem execRangingRetry_kept (node : NodeNo) (s : State) : NextKeeps s (execRangingRetry node s) := by
  simp [execRangingRetry]

theorem execWorkerStepAnnounce_kept (count : Nat) (s : State) : NextKeeps s (execWorkerStepAnnounce count s) := by
  unfold execWorkerStepAnnounce
  split <;> simp

/-! ### The operations of Sys2Proof/Machine/Clock -/

theorem execOscAccepted_kept (s : State) : NextKeeps s (execOscAccepted s) := by simp [execOscAccepted]
theorem execOscStartTimeout_kept (s : State) : NextKeeps s (execOscStartTimeout s) := by simp [execOscStartTimeout]
theorem execReferenceFail_kept (s : State) : NextKeeps s (execReferenceFail s) := by simp [execReferenceFail]
theorem execRootUnlock_kept (s : State) : NextKeeps s (execRootUnlock s) := by simp [execRootUnlock]
theorem execAonRcCalibration_kept (s : State) : NextKeeps s (execAonRcCalibration s) := by simp [execAonRcCalibration]

theorem execClkMuxSwitchRequest_kept (m : Mux) (toB : Bool) (s : State) :
    NextKeeps s (execClkMuxSwitchRequest m toB s) := by simp [execClkMuxSwitchRequest]

theorem execClkDeadSource_kept (m : Mux) (newSource : Bool) (s : State) :
    NextKeeps s (execClkDeadSource m newSource s) := by
  simp only [execClkDeadSource]
  split <;> simp

theorem execClkGateStart_kept (bit : Fin 30) (s : State) : NextKeeps s (execClkGateStart bit s) := by
  simp [execClkGateStart]

@[simp] theorem State.pcieLink_kept (up : Bool) (s : State) : (s.pcieLink up).kept = s.kept := by simp [State.pcieLink]

theorem execClkRefclkLoss_kept (eth : Bool) (s : State) : NextKeeps s (execClkRefclkLoss eth s) := by
  simp [execClkRefclkLoss]

theorem execRefclkReturn_kept (eth : Bool) (s : State) : NextKeeps s (execRefclkReturn eth s) := by
  simp [execRefclkReturn]

theorem execHostPcieLink_kept (up : Bool) (s : State) : NextKeeps s (execHostPcieLink up s) := by
  simp [execHostPcieLink]

theorem execPciePerst_kept (released : Bool) (s : State) : NextKeeps s (execPciePerst released s) := by
  simp [execPciePerst]

theorem execClkSteerLimit_kept (s : State) : NextKeeps s (execClkSteerLimit s) := by simp [execClkSteerLimit]

theorem execCoreDividerChange_kept (s : State) : NextKeeps s (execCoreDividerChange s) := by
  unfold execCoreDividerChange
  split <;> simp

/-! ### The operations of Sys2Proof/Machine/Cipher -/

@[simp] theorem State.writeBank_kept (slot b : Nat) (k : BitVec 128) (s : State) :
    (s.writeBank slot b k).kept = s.kept := by simp [State.writeBank]

@[simp] theorem State.latchBank_kept (slot b : Nat) (s : State) : (s.latchBank slot b).kept = s.kept := by
  simp [State.latchBank]

@[simp] theorem State.eraseBank_kept (slot b : Nat) (s : State) : (s.eraseBank slot b).kept = s.kept := by
  simp [State.eraseBank]

theorem execKeyZeroise_kept (slot : Fin 256) (bank : BankNo) (s : State) :
    NextKeeps s (execKeyZeroise slot bank s) := by simp [execKeyZeroise]

@[simp] theorem State.drawKey_kept (s : State) : s.drawKey.2.kept = s.kept := by simp [State.drawKey]
@[simp] theorem State.reseed_kept (s : State) : s.reseed.kept = s.kept := by simp [State.reseed]
@[simp] theorem State.genKey_kept (s : State) : s.genKey.2.kept = s.kept := by simp [State.genKey]
theorem execCyEntropyFail_kept (s : State) : NextKeeps s (execCyEntropyFail s) := by simp [execCyEntropyFail]

theorem execEntropyRetest_kept (samples : List Bool) (s : State) : NextKeeps s (execEntropyRetest samples s) := by
  simp [execEntropyRetest]

@[simp] theorem State.putVault_kept (v : Nat) (k : Option (BitVec 128)) (s : State) :
    (s.putVault v k).kept = s.kept := by simp [State.putVault]

theorem execCyFallbackNonce_kept (s : State) : NextKeeps s (execCyFallbackNonce s) := by simp [execCyFallbackNonce]
theorem execDrbgReseed_kept (s : State) : NextKeeps s (execDrbgReseed s) := by simp [execDrbgReseed]

@[simp] theorem State.putSession_kept (l : Nat) (k : Option (BitVec 128)) (s : State) :
    (s.putSession l k).kept = s.kept := by simp [State.putSession]

@[simp] theorem State.rederive_kept (l : Nat) (s : State) : (s.rederive l).kept = s.kept := by simp [State.rederive]
@[simp] theorem State.underive_kept (l : Nat) (s : State) : (s.underive l).kept = s.kept := by simp [State.underive]

@[simp] theorem State.loadMsk_kept (l : Nat) (k : Option (BitVec 128)) (s : State) : (s.loadMsk l k).kept = s.kept := by
  simp [State.loadMsk]

theorem execVaultRerandomise_kept (s : State) : NextKeeps s (execVaultRerandomise s) := by simp [execVaultRerandomise]
@[simp] theorem State.dispatch_kept (n : Nat) (s : State) : (s.dispatch n).kept = s.kept := by simp [State.dispatch]

/-! ### The operations of Sys2Proof/Machine/Caravan -/

@[simp] theorem State.lnEvent_kept (l k detail : Nat) (s : State) : (s.lnEvent l k detail).kept = s.kept := by
  simp [State.lnEvent]

@[simp] theorem State.actEvent_kept (l k detail : Nat) (s : State) : (s.actEvent l k detail).kept = s.kept := by
  simp [State.actEvent]

@[simp] theorem State.lnFirst_kept (l k : Nat) (s : State) : (s.lnFirst l k).kept = s.kept := by simp [State.lnFirst]

@[simp] theorem State.debitUp_kept (q tier n : Nat) (s : State) : (s.debitUp q tier n).kept = s.kept := by
  simp [State.debitUp]

@[simp] theorem State.refundUp_kept (q tier n : Nat) (s : State) : (s.refundUp q tier n).kept = s.kept := by
  simp [State.refundUp]

@[simp] theorem State.dropOver_kept (q : Nat) (l : List Packet) (s : State) : (s.dropOver q l).kept = s.kept := by
  induction l generalizing s with
  | nil => rfl
  | cons p t ih => simp [State.dropOver, ih]

@[simp] theorem State.dropOvers_kept (a : Nat) (s : State) : (s.dropOvers a).kept = s.kept := by simp [State.dropOvers]

@[simp] theorem State.chargeDrr_kept (a ptr : Nat) (deltas : List (Nat × Int)) (s : State) :
    (s.chargeDrr a ptr deltas).kept = s.kept := by simp [State.chargeDrr]

@[simp] theorem State.toStaged_kept (n : Nat) (s : State) : (s.toStaged n).kept = s.kept := by simp [State.toStaged]
@[simp] theorem State.toQueued_kept (n : Nat) (s : State) : (s.toQueued n).kept = s.kept := by simp [State.toQueued]
@[simp] theorem State.popHead_kept (q : Nat) (s : State) : (s.popHead q).kept = s.kept := by simp [State.popHead]

@[simp] theorem State.pushHead_kept (q : Nat) (p : Packet) (s : State) : (s.pushHead q p).kept = s.kept := by
  simp [State.pushHead]

@[simp] theorem State.stageLoop_kept (a n : Nat) (s : State) : (s.stageLoop a n).kept = s.kept := by
  induction n generalizing s with
  | zero => rfl
  | succ n ih =>
    simp only [State.stageLoop]
    split
    · simp
    · split <;> simp [ih]

@[simp] theorem State.raWindow_kept (a : Nat) (s : State) : (s.raWindow a).kept = s.kept := by simp [State.raWindow]

theorem execRunAheadStage_kept (a : Fin 128) (s : State) : NextKeeps s (execRunAheadStage a s) := by
  simp [execRunAheadStage]

@[simp] theorem State.unstage_kept (a : Nat) (l : List Staged) (s : State) : (s.unstage a l).kept = s.kept := by
  simp [State.unstage]

@[simp] theorem State.rewindRaw_kept (a : Nat) (gone : Staged → Bool) (s : State) :
    (s.rewindRaw a gone).kept = s.kept := by simp [State.rewindRaw]

@[simp] theorem State.rewindIf_kept (a : Nat) (gone : Staged → Bool) (s : State) :
    (s.rewindIf a gone).kept = s.kept := by simp [State.rewindIf]

@[simp] theorem State.rewindAll_kept (a : Nat) (s : State) : (s.rewindAll a).kept = s.kept := by simp [State.rewindAll]

theorem execStagedCellTimeout_kept (a : Fin 128) (s : State) : NextKeeps s (execStagedCellTimeout a s) := by
  unfold execStagedCellTimeout
  split <;> simp

theorem execCvRunaheadSuspend_kept (a : Fin 128) (s : State) : NextKeeps s (execCvRunaheadSuspend a s) := by
  simp [execCvRunaheadSuspend]

theorem execRunaheadResume_kept (a : Fin 128) (s : State) : NextKeeps s (execRunaheadResume a s) := by
  simp [execRunaheadResume]

@[simp] theorem State.keyDrop_kept (l q : Nat) (p : Packet) (s : State) : (s.keyDrop l q p).kept = s.kept := by
  simp [State.keyDrop]

@[simp] theorem State.takeSeq_kept (g : Option Nat) (s : State) : (s.takeSeq g).2.kept = s.kept := by
  unfold State.takeSeq
  split <;> simp

@[simp] theorem Fill.bind_kept (grp : Option Nat) (k : Bind) (n : Nat) (p : Packet) (f : Fill) :
    (f.bind grp k n p).st.kept = f.st.kept := by simp [Fill.bind]

@[simp] theorem Fill.keepRest_kept (a : Nat) (k : Bind) (n : Nat) (p : Packet) (f : Fill) :
    (f.keepRest a k n p).st.kept = f.st.kept := by
  unfold Fill.keepRest
  split <;> simp

@[simp] theorem Fill.rest_kept (a : Nat) (grp : Option Nat) (f : Fill) : (f.rest a grp).st.kept = f.st.kept := by
  unfold Fill.rest
  split <;> simp

@[simp] theorem Fill.number_kept (p : Packet) (f : Fill) : (f.number p).2.st.kept = f.st.kept := by
  simp [Fill.number]

@[simp] theorem Fill.staged_kept (a l : Nat) (grp : Option Nat) (xs : List Staged) (f : Fill) :
    (f.staged a l grp xs).st.kept = f.st.kept := by
  induction xs generalizing f with
  | nil => rfl
  | cons x t ih =>
    simp only [Fill.staged]
    split
    · rfl
    · split <;> simp [ih]

@[simp] theorem Fill.sched_kept (a l : Nat) (grp : Option Nat) (n : Nat) (f : Fill) :
    (f.sched a l grp n).st.kept = f.st.kept := by
  induction n generalizing f with
  | zero => rfl
  | succ n ih =>
    simp only [Fill.sched]
    split
    · rfl
    · split
      · simp
      · split
        · simp
        · split
          · simp
          · split <;> simp [ih]

@[simp] theorem Fill.index_kept (a l : Nat) (f : Fill) : (f.index a l).st.kept = f.st.kept := by
  unfold Fill.index
  split <;> simp

@[simp] theorem Fill.bindOmci_kept (l n : Nat) (p : Packet) (f : Fill) : (f.bindOmci l n p).st.kept = f.st.kept := by
  simp [Fill.bindOmci]

@[simp] theorem Fill.omciRest_kept (l : Nat) (f : Fill) : (f.omciRest l).st.kept = f.st.kept := by
  unfold Fill.omciRest
  split <;> simp

@[simp] theorem Fill.omciQueue_kept (l : Nat) (xs : List Packet) (f : Fill) :
    (f.omciQueue l xs).st.kept = f.st.kept := by
  induction xs generalizing f with
  | nil => rfl
  | cons x t ih => simp [Fill.omciQueue, ih]

@[simp] theorem Fill.omci_kept (l : Nat) (f : Fill) : (f.omci l).st.kept = f.st.kept := by
  unfold Fill.omci
  split <;> simp

@[simp] theorem State.unbindOmci_kept (l : Nat) (i : BurstItem) (s : State) : (s.unbindOmci l i).kept = s.kept := by
  simp [State.unbindOmci]

@[simp] theorem State.unbindUp_kept (a : Nat) (i : BurstItem) (s : State) : (s.unbindUp a i).kept = s.kept := by
  simp [State.unbindUp]

@[simp] theorem State.unbind_kept (c : Caravan) (i : BurstItem) (s : State) : (s.unbind c i).kept = s.kept := by
  unfold State.unbind
  split <;> simp

@[simp] theorem State.unwind_kept (c : Caravan) (s : State) : (s.unwind c).kept = s.kept := by
  simp only [State.unwind]
  split <;> simp

@[simp] theorem State.cancel_kept (which : Caravan → Bool) (s : State) : (s.cancel which).kept = s.kept := by
  simp [State.cancel]

@[simp] theorem State.cancelLane_kept (l : Nat) (s : State) : (s.cancelLane l).kept = s.kept := by
  simp [State.cancelLane]

@[simp] theorem State.dropRest_kept (a : Nat) (s : State) : (s.dropRest a).kept = s.kept := by
  unfold State.dropRest
  split <;> simp

@[simp] theorem State.leaveIndex_kept (a l : Nat) (s : State) : (s.leaveIndex a l).kept = s.kept := by
  simp [State.leaveIndex]

@[simp] theorem State.dropOmci_kept (l : Nat) (s : State) : (s.dropOmci l).kept = s.kept := by
  unfold State.dropOmci
  split <;> simp

@[simp] theorem State.missed_kept (l : Nat) (s : State) : (s.missed l).kept = s.kept := by simp [State.missed]

@[simp] theorem State.fillGrant_kept (l : Nat) (idx : Option Nat) (own : Bool) (space : Nat) (s : State) :
    (s.fillGrant l idx own space).st.kept = s.kept := by
  simp only [State.fillGrant]
  split <;> simp

@[simp] theorem State.commitGrant_kept (l : Nat) (a : AllocStruct) (g : Grant) (p : Place) (s : State) :
    (s.commitGrant l a g p).kept = s.kept := by
  simp only [State.commitGrant]
  split <;> simp

@[simp] theorem State.placeGrant_kept (l : Nat) (a : AllocStruct) (g : Grant) (launch trim psbu first : Nat)
    (cont fec : Bool) (s : State) : (s.placeGrant l a g launch trim psbu first cont fec).kept = s.kept := by
  simp [State.placeGrant]

@[simp] theorem State.noteGrant_kept (l frame : Nat) (s : State) : (s.noteGrant l frame).kept = s.kept := by
  simp [State.noteGrant]

@[simp] theorem State.laneGranted_kept (l : Nat) (s : State) : (s.laneGranted l).kept = s.kept := by
  simp [State.laneGranted]

@[simp] theorem State.serveGrant_kept (n : Nat) (a : AllocStruct) (g : Grant) (s : State) :
    (s.serveGrant n a g).kept = s.kept := by
  simp only [State.serveGrant]
  refine State.kept_of_ite (by simp) (State.kept_of_ite (by simp) ?_)
  split
  · simp
  · split
    · split <;> simp
    · simp

theorem execAllocationStructure_kept (l : Lane) (a : AllocStruct) (s : State) :
    NextKeeps s (execAllocationStructure l a s) := by simp [execAllocationStructure]

theorem execCvNotReady_kept (l : Lane) (s : State) : NextKeeps s (execCvNotReady l s) := by
  unfold execCvNotReady
  split <;> simp

@[simp] theorem State.exitCheck_kept (a : Nat) (p : Packet) (q : Nat) (s : State) :
    (s.exitCheck a p q).1.kept = s.kept := by simp [State.exitCheck]

@[simp] theorem State.itemKey_kept (l : Nat) (i : BurstItem) (s : State) : (s.itemKey l i).1.kept = s.kept := by
  simp [State.itemKey]

@[simp] theorem State.eccBound_kept (i : BurstItem) (e : Ecc) (s : State) : (s.eccBound i e).kept = s.kept := by
  simp [State.eccBound]

@[simp] theorem State.sendItem_kept (c : Caravan) (n : Nat) (i0 : BurstItem) (e : Ecc) (s : State) :
    (s.sendItem c n i0 e).1.kept = s.kept := by simp [State.sendItem]

@[simp] theorem State.sendItems_kept (c : Caravan) (ecc : List Ecc) (n : Nat) (l : List BurstItem) (s : State) :
    (s.sendItems c ecc n l).1.kept = s.kept := by
  induction l generalizing n s with
  | nil => rfl
  | cons i t ih => simp [State.sendItems, ih]

@[simp] theorem State.grantServed_kept (c : Caravan) (s : State) : (s.grantServed c).kept = s.kept := by
  unfold State.grantServed
  split <;> simp

@[simp] theorem State.benSent_kept (c : Caravan) (s : State) : (s.benSent c).kept = s.kept := by simp [State.benSent]

@[simp] theorem State.burstSent_kept (c : Caravan) (frames : List UpXgem) (s : State) :
    (s.burstSent c frames).kept = s.kept := by
  simp only [State.burstSent]
  split
  · split <;> simp
  · split <;> simp

theorem execBurstLaunch_kept (r : CellRead Lane (List Ecc)) (s : State) : NextKeeps s (execBurstLaunch r s) := by
  simp only [execBurstLaunch]
  split <;> simp

/-! ### The operations of Sys2Proof/Machine/Bonded -/

@[simp] theorem State.putCtrl_kept (m : CtrlMsg) (s : State) : (s.putCtrl m).kept = s.kept := by
  unfold State.putCtrl
  split <;> simp

@[simp] theorem State.sendCtrl_kept (g : Nat) (b : CtrlBody) (s : State) : (s.sendCtrl g b).kept = s.kept := by
  simp [State.sendCtrl]

@[simp] theorem State.sendGroupState_kept (g : Nat) (s : State) : (s.sendGroupState g).kept = s.kept := by
  simp [State.sendGroupState]

@[simp] theorem State.leaveGroup_kept (l reason g : Nat) (s : State) : (s.leaveGroup l reason g).kept = s.kept := by
  simp [State.leaveGroup]

@[simp] theorem State.groupDown_kept (l g : Nat) (s : State) : (s.groupDown l g).kept = s.kept := by
  simp [State.groupDown]

@[simp] theorem State.laneLeave_kept (l reason : Nat) (s : State) : (s.laneLeave l reason).kept = s.kept := by
  simp [State.laneLeave]

@[simp] theorem State.announceLane_kept (l : Nat) (s : State) : (s.announceLane l).kept = s.kept := by
  simp [State.announceLane]

theorem execBlSkew_kept (l : Lane) (count anchorCount : Nat) (s : State) :
    NextKeeps s (execBlSkew l count anchorCount s) := by simp [execBlSkew]

@[simp] theorem State.groupUp_kept (g l : Nat) (s : State) : (s.groupUp g l).kept = s.kept := by simp [State.groupUp]

@[simp] theorem State.joinGroup_kept (l g : Nat) (s : State) : (s.joinGroup l g).kept = s.kept := by
  simp [State.joinGroup]

theorem execBlLaneJoin_kept (l : Lane) (s : State) : NextKeeps s (execBlLaneJoin l s) := by simp [execBlLaneJoin]

theorem execBondingHoldReset_kept (l : Lane) (s : State) : NextKeeps s (execBondingHoldReset l s) := by
  simp [execBondingHoldReset]

@[simp] theorem State.resync_kept (g seq : Nat) (s : State) : (s.resync g seq).kept = s.kept := by simp [State.resync]
@[simp] theorem State.freeFrags_kept (g : Nat) (s : State) : (s.freeFrags g).kept = s.kept := by simp [State.freeFrags]

@[simp] theorem State.farState_kept (g cfgMask window nextSeq : Nat) (s : State) :
    (s.farState g cfgMask window nextSeq).kept = s.kept := by
  unfold State.farState
  split <;> simp

@[simp] theorem State.actCtrl_kept (g : Nat) (b : CtrlBody) (s : State) : (s.actCtrl g b).kept = s.kept := by
  unfold State.actCtrl
  split <;> simp

@[simp] theorem State.ctrlAcked_kept (g : Nat) (b : CtrlBody) (s : State) : (s.ctrlAcked g b).kept = s.kept := by
  unfold State.ctrlAcked
  split <;> simp

theorem execBondingControlMessage_kept (l : Lane) (msg : CtrlMsg) (s : State) :
    NextKeeps s (execBondingControlMessage l msg s) := by
  simp only [execBondingControlMessage]
  split
  · simp
  · split
    · split <;> simp
    · simp

theorem execBondingControlResend_kept (g : Fin 64) (msgSeq : Nat) (s : State) :
    NextKeeps s (execBondingControlResend g msgSeq s) := by
  unfold execBondingControlResend
  split <;> simp

theorem execGroupState_kept (g : Fin 64) (s : State) : NextKeeps s (execGroupState g s) := by simp [execGroupState]

@[simp] theorem State.enterDown_kept (id : Nat) (frame : List Byte) (s : State) :
    (s.enterDown id frame).kept = s.kept := by
  simp only [State.enterDown]
  split
  · simp
  · split <;> simp

@[simp] theorem State.tagErr_kept (g : Nat) (s : State) : (s.tagErr g).kept = s.kept := by simp [State.tagErr]

@[simp] theorem State.assemble_kept (g : Nat) (f : HeldFrag) (s : State) : (s.assemble g f).kept = s.kept := by
  simp only [State.assemble]
  split
  · simp
  · split <;> simp

@[simp] theorem State.releaseHeld_kept (g n : Nat) (s : State) : (s.releaseHeld g n).kept = s.kept := by
  induction n generalizing s with
  | zero => rfl
  | succ n ih =>
    simp only [State.releaseHeld]
    split
    · rfl
    · split <;> simp [ih]

@[simp] theorem State.retime_kept (g : Nat) (s : State) : (s.retime g).kept = s.kept := by simp [State.retime]

@[simp] theorem State.releaseFrom_kept (g : Nat) (s : State) : (s.releaseFrom g).kept = s.kept := by
  simp [State.releaseFrom]

@[simp] theorem State.windowExpire_kept (g : Nat) (s : State) : (s.windowExpire g).kept = s.kept := by
  simp only [State.windowExpire]
  split
  · simp
  · split <;> simp

theorem execReseqWindowExpiry_kept (g : Fin 64) (s : State) : NextKeeps s (execReseqWindowExpiry g s) := by
  simp [execReseqWindowExpiry]

@[simp] theorem State.holdFrag_kept (g : Nat) (f : HeldFrag) (s : State) : (s.holdFrag g f).kept = s.kept := by
  simp [State.holdFrag]

@[simp] theorem State.placeFrag_kept (g : Nat) (f : HeldFrag) (s : State) : (s.placeFrag g f).kept = s.kept := by
  unfold State.placeFrag
  split <;> simp

@[simp] theorem State.fragment_kept (g : Nat) (f : HeldFrag) (s : State) : (s.fragment g f).kept = s.kept := by
  unfold State.fragment
  split <;> simp

@[simp] theorem State.bondedXgem_kept (id : Nat) (lf : Bool) (payload : List Byte) (s : State) :
    (s.bondedXgem id lf payload).kept = s.kept := by simp [State.bondedXgem]

/-! ### The operations of Sys2Proof/Machine/Line -/

@[simp] theorem State.setAct_kept (l : Nat) (a : Act) (s : State) : (s.setAct l a).kept = s.kept := by
  simp [State.setAct]

@[simp] theorem State.forgetLane_kept (l : Nat) (s : State) : (s.forgetLane l).kept = s.kept := by
  simp [State.forgetLane]

@[simp] theorem State.toO1_kept (l : Nat) (s : State) : (s.toO1 l).kept = s.kept := by simp [State.toO1]

@[simp] theorem State.storeO7_kept (l : Nat) (on : Bool) (s : State) : (s.storeO7 l on).kept = s.kept := by
  simp [State.storeO7]

@[simp] theorem State.toO7_kept (l : Nat) (s : State) : (s.toO7 l).kept = s.kept := by simp [State.toO7]

@[simp] theorem State.lineLost_kept (l : Nat) (s : State) : (s.lineLost l).kept = s.kept := by
  unfold State.lineLost
  split <;> simp

@[simp] theorem State.dropParts_kept (l : Nat) (s : State) : (s.dropParts l).kept = s.kept := by simp [State.dropParts]
@[simp] theorem State.loseSync_kept (l : Nat) (s : State) : (s.loseSync l).kept = s.kept := by simp [State.loseSync]

theorem execLnLos_kept (l : Lane) (declared : Bool) (s : State) : NextKeeps s (execLnLos l declared s) := by
  simp [execLnLos]

theorem execLnLods_kept (l : Lane) (s : State) : NextKeeps s (execLnLods l s) := by simp [execLnLods]

@[simp] theorem State.setPart_kept (l port : Nat) (p : Option (List Byte × Bool)) (s : State) :
    (s.setPart l port p).kept = s.kept := by simp [State.setPart]

@[simp] theorem State.breakPart_kept (l : Nat) (x : XgemFrame) (s : State) : (s.breakPart l x).kept = s.kept := by
  simp [State.breakPart]

@[simp] theorem State.xgemPayload_kept (l : Nat) (x : XgemFrame) (data : List Byte) (s : State) :
    (s.xgemPayload l x data).kept = s.kept := by
  simp only [State.xgemPayload]
  split
  · simp
  · split <;> simp

@[simp] theorem State.followKey_kept (l slot : Nat) (x : XgemFrame) (s : State) :
    (s.followKey l slot x).kept = s.kept := by simp [State.followKey]

@[simp] theorem State.xgemKey_kept (l n : Nat) (x : XgemFrame) (s : State) : (s.xgemKey l n x).1.kept = s.kept := by
  simp [State.xgemKey]

@[simp] theorem State.xgemFrame_kept (l n : Nat) (x : XgemFrame) (s : State) : (s.xgemFrame l n x).kept = s.kept := by
  simp only [State.xgemFrame]
  split
  · simp
  · split
    · simp
    · split
      · simp
      · split
        · simp
        · split <;> simp

@[simp] theorem State.xgemFrames_kept (l n : Nat) (xs : List XgemFrame) (s : State) :
    (s.xgemFrames l n xs).kept = s.kept := by
  induction xs generalizing n s with
  | nil => rfl
  | cons x t ih => simp [State.xgemFrames, ih]

@[simp] theorem State.gainSync_kept (l : Nat) (s : State) : (s.gainSync l).kept = s.kept := by simp [State.gainSync]

@[simp] theorem State.syncAct_kept (l : Nat) (s : State) : (s.syncAct l).kept = s.kept := by
  simp only [State.syncAct]
  split
  · simp
  · split <;> simp

@[simp] theorem State.fecSeen_kept (l codewords corrected uncorrectable : Nat) (s : State) :
    (s.fecSeen l codewords corrected uncorrectable).kept = s.kept := by simp [State.fecSeen]

theorem execDownstreamFrame_kept (f : DsFrame) (s : State) : NextKeeps s (execDownstreamFrame f s) := by
  simp [execDownstreamFrame]

@[simp] theorem State.queuePloam_kept (l : Nat) (m : PloamUp) (s : State) : (s.queuePloam l m).kept = s.kept := by
  simp [State.queuePloam]

@[simp] theorem ackTo_kept (h : PloamHdr) (code : Nat) (s : State) : (ackTo h code s).2.kept = s.kept := by simp [ackTo]

@[simp] theorem doProfile_kept (l : Nat) (h : PloamHdr) (index preamble delimiter : Nat) (fec complete : Bool)
    (s : State) : (doProfile l h index preamble delimiter fec complete s).2.kept = s.kept := by simp [doProfile]

@[simp] theorem doOnuId_kept (l : Nat) (serial : BitVec 64) (onuId : Nat) (s : State) :
    (doOnuId l serial onuId s).2.kept = s.kept := by
  unfold doOnuId
  split <;> simp

@[simp] theorem State.setEqd_kept (l bits : Nat) (s : State) : (s.setEqd l bits).kept = s.kept := by simp [State.setEqd]

@[simp] theorem doRanging_kept (l : Nat) (h : PloamHdr) (absolute negative : Bool) (bits : Nat) (s : State) :
    (doRanging l h absolute negative bits s).2.kept = s.kept := by simp [doRanging]

@[simp] theorem doDeactivate_kept (l : Nat) (s : State) : (doDeactivate l s).2.kept = s.kept := by
  unfold doDeactivate
  split <;> simp

@[simp] theorem doDisable_kept (l : Nat) (enable : Bool) (serial : BitVec 64) (s : State) :
    (doDisable l enable serial s).2.kept = s.kept := by simp [doDisable]

@[simp] theorem doRegistration_kept (l : Nat) (s : State) : (doRegistration l s).2.kept = s.kept := by
  unfold doRegistration
  split <;> simp

@[simp] theorem doAlloc_kept (l : Nat) (h : PloamHdr) (allocId : Nat) (remove : Bool) (s : State) :
    (doAlloc l h allocId remove s).2.kept = s.kept := by
  simp only [doAlloc]
  split
  · rfl
  · split
    · split
      · simp
      · rw [ackTo_kept, State.actEvent_kept]
        split <;> simp
    · split
      · simp
      · split
        · simp
        · rw [ackTo_kept, State.actEvent_kept]
          split <;> simp

@[simp] theorem doKey_kept (l : Nat) (h : PloamHdr) (generate : Bool) (b : BankNo) (s : State) :
    (doKey l h generate b s).2.kept = s.kept := by
  simp only [doKey]
  split
  · simp
  · split
    · simp
    · split <;> simp

@[simp] theorem doUnknown_kept (h : PloamHdr) (ackRequired : Bool) (s : State) :
    (doUnknown h ackRequired s).2.kept = s.kept := by
  unfold doUnknown
  split <;> simp

@[simp] theorem doPloam_kept (l : Nat) (h : PloamHdr) (m : PloamMsg) (s : State) :
    (doPloam l h m s).2.kept = s.kept := by
  unfold doPloam
  split <;> simp

@[simp] theorem State.remember_kept (l : Nat) (h : PloamHdr) (m : PloamMsg) (resp : Option PloamUp) (s : State) :
    (s.remember l h m resp).kept = s.kept := by simp [State.remember]

@[simp] theorem State.respond_kept (l : Nat) (r : Option PloamUp) (s : State) : (s.respond l r).kept = s.kept := by
  unfold State.respond
  split <;> simp

@[simp] theorem State.ploamOnce_kept (l : Nat) (h : PloamHdr) (m : PloamMsg) (s : State) :
    (s.ploamOnce l h m).kept = s.kept := by
  unfold State.ploamOnce
  split <;> simp

@[simp] theorem State.ploamIn_kept (l : Nat) (h : PloamHdr) (m : PloamMsg) (s : State) :
    (s.ploamIn l h m).kept = s.kept := by simp [State.ploamIn]

theorem execBurstProfile_kept (l : Lane) (h : PloamHdr) (index : Fin 4) (preamble delimiter : Nat)
    (flags : ProfileFlags) (s : State) : NextKeeps s (execBurstProfile l h index preamble delimiter flags s) := by
  simp [execBurstProfile]

theorem execAssignOnuId_kept (l : Lane) (h : PloamHdr) (serial : BitVec 64) (onuId : Nat) (s : State) :
    NextKeeps s (execAssignOnuId l h serial onuId s) := by simp [execAssignOnuId]

theorem execRangingTime_kept (l : Lane) (h : PloamHdr) (absolute negative : Bool) (bits : Nat) (s : State) :
    NextKeeps s (execRangingTime l h absolute negative bits s) := by simp [execRangingTime]

theorem execDeactivateOnuId_kept (l : Lane) (h : PloamHdr) (s : State) : NextKeeps s (execDeactivateOnuId l h s) := by
  simp [execDeactivateOnuId]

theorem execDisableSerialNumber_kept (l : Lane) (h : PloamHdr) (enable : Bool) (serial : BitVec 64) (s : State) :
    NextKeeps s (execDisableSerialNumber l h enable serial s) := by simp [execDisableSerialNumber]

theorem execRequestRegistration_kept (l : Lane) (h : PloamHdr) (s : State) :
    NextKeeps s (execRequestRegistration l h s) := by simp [execRequestRegistration]

theorem execAssignAllocId_kept (l : Lane) (h : PloamHdr) (allocId : Nat) (remove : Bool) (s : State) :
    NextKeeps s (execAssignAllocId l h allocId remove s) := by simp [execAssignAllocId]

theorem execKeyControl_kept (l : Lane) (h : PloamHdr) (generate : Bool) (bank : BankNo) (s : State) :
    NextKeeps s (execKeyControl l h generate bank s) := by simp [execKeyControl]

theorem execSleepAllow_kept (l : Lane) (h : PloamHdr) (s : State) : NextKeeps s (execSleepAllow l h s) := by
  simp [execSleepAllow]

theorem execPloamUnknownType_kept (l : Lane) (h : PloamHdr) (code : Nat) (ackRequired : Bool) (s : State) :
    NextKeeps s (execPloamUnknownType l h code ackRequired s) := by simp [execPloamUnknownType]

theorem execPloamDuplicate_kept (l : Lane) (h : PloamHdr) (msg : PloamMsg) (s : State) :
    NextKeeps s (execPloamDuplicate l h msg s) := by simp [execPloamDuplicate]

theorem execPloamMicFail_kept (l : Lane) (s : State) : NextKeeps s (execPloamMicFail l s) := by simp [execPloamMicFail]

@[simp] theorem State.replayPloam_kept (l : Nat) (s : State) : (s.replayPloam l).kept = s.kept := by
  simp [State.replayPloam]

theorem execTo1Expiry_kept (l : Lane) (s : State) : NextKeeps s (execTo1Expiry l s) := by simp [execTo1Expiry]
theorem execTo2Expiry_kept (l : Lane) (s : State) : NextKeeps s (execTo2Expiry l s) := by simp [execTo2Expiry]

@[simp] theorem State.deliverOmci_kept (n : Nat) (s : State) : (s.deliverOmci n).kept = s.kept := by
  induction n generalizing s with
  | zero => rfl
  | succ n ih =>
    simp only [State.deliverOmci]
    split <;> simp [ih]

@[simp] theorem State.flushOmci_kept (s : State) : s.flushOmci.kept = s.kept := by simp [State.flushOmci]

theorem execOmciDownstream_kept (l : Lane) (msg mic : List Byte) (s : State) :
    NextKeeps s (execOmciDownstream l msg mic s) := by simp [execOmciDownstream]

theorem execSdSfWindow_kept (l : Lane) (codewords corrected uncorrectable : Nat) (s : State) :
    NextKeeps s (execSdSfWindow l codewords corrected uncorrectable s) := by simp [execSdSfWindow]

theorem execRssiTrig_kept (l : Lane) (s : State) : NextKeeps s (execRssiTrig l s) := by simp [execRssiTrig]
theorem execLnRogue_kept (l : Lane) (s : State) : NextKeeps s (execLnRogue l s) := by simp [execLnRogue]

theorem execRogueGuardRelease_kept (l : Lane) (s : State) : NextKeeps s (execRogueGuardRelease l s) := by
  simp [execRogueGuardRelease]

/-! ### The operations of Sys2Proof/Machine/Ring -/

@[simp] theorem State.rgEvent_kept (d k detail : Nat) (s : State) : (s.rgEvent d k detail).kept = s.kept := by
  simp [State.rgEvent]

@[simp] theorem State.rgFirst_kept (d k : Nat) (s : State) : (s.rgFirst d k).kept = s.kept := by simp [State.rgFirst]

@[simp] theorem State.modRlane_kept (d n : Nat) (f : RingLane → RingLane) (s : State) :
    (s.modRlane d n f).kept = s.kept := by simp [State.modRlane]

@[simp] theorem State.rework_kept (s : State) : s.rework.kept = s.kept := by simp [State.rework]

@[simp] theorem State.modLink_kept (src dst c : Nat) (f : CreditLink → CreditLink) (s : State) :
    (s.modLink src dst c f).kept = s.kept := by simp [State.modLink]

@[simp] theorem State.modEnd_kept (src dst c : Nat) (f : CreditEnd → CreditEnd) (s : State) :
    (s.modEnd src dst c f).kept = s.kept := by simp [State.modEnd]

@[simp] theorem State.initCredits_kept (n : Nat) (s : State) : (s.initCredits n).kept = s.kept := by
  simp [State.initCredits]

@[simp] theorem State.creditBack_kept (r : CreditRec) (s : State) : (s.creditBack r).kept = s.kept := by
  simp [State.creditBack]

@[simp] theorem State.putReturn_kept (d : Nat) (r : CreditRec) (s : State) : (s.putReturn d r).kept = s.kept := by
  simp [State.putReturn]

@[simp] theorem State.consume_kept (c : Container) (s : State) : (s.consume c).kept = s.kept := by simp [State.consume]

@[simp] theorem State.reinitLink_kept (dst c : Nat) (s : State) : (s.reinitLink dst c).kept = s.kept := by
  simp [State.reinitLink]

@[simp] theorem State.reinitWhere_kept (p : Nat → Bool) (s : State) : (s.reinitWhere p).kept = s.kept := by
  simp [State.reinitWhere]

@[simp] theorem State.onReinit_kept (src : Nat) (c : Fin 8) (s : State) : (s.onReinit src c).kept = s.kept := by
  simp [State.onReinit]

@[simp] theorem State.onReinitAck_kept (dst c consumed : Nat) (s : State) :
    (s.onReinitAck dst c consumed).kept = s.kept := by simp [State.onReinitAck]

theorem execCreditReinit_kept (src : NodeNo) (cclass : Fin 8) (sent : Nat) (s : State) :
    NextKeeps s (execCreditReinit src cclass sent s) := by simp [execCreditReinit]

theorem execCreditReinitAck_kept (dst : NodeNo) (cclass : Fin 8) (consumed : Nat) (s : State) :
    NextKeeps s (execCreditReinitAck dst cclass consumed s) := by simp [execCreditReinitAck]

@[simp] theorem State.releaseBypass_kept (s : State) : s.releaseBypass.kept = s.kept := by simp [State.releaseBypass]
theorem execBypassRelease_kept (s : State) : NextKeeps s (execBypassRelease s) := by simp [execBypassRelease]
@[simp] theorem State.train_kept (d : Nat) (s : State) : (s.train d).kept = s.kept := by simp [State.train]
@[simp] theorem State.setReq_kept (d : Nat) (s : State) : (s.setReq d).kept = s.kept := by simp [State.setReq]

@[simp] theorem State.enterDefect_kept (d : Nat) (sd : Bool) (s : State) : (s.enterDefect d sd).kept = s.kept := by
  simp [State.enterDefect]

@[simp] theorem State.setCond_kept (d : Nat) (c : RingDefect) (on : Bool) (s : State) :
    (s.setCond d c on).kept = s.kept := by
  unfold State.setCond
  split <;> simp

@[simp] theorem State.declare_kept (d : Nat) (c : RingDefect) (s : State) : (s.declare d c).kept = s.kept := by
  unfold State.declare
  split <;> simp

@[simp] theorem State.timingCheck_kept (s : State) : s.timingCheck.kept = s.kept := by simp [State.timingCheck]

theorem execRingDefect_kept (side : Side) (d : RingDefect) (s : State) : NextKeeps s (execRingDefect side d s) := by
  simp [execRingDefect]

@[simp] theorem State.timingSide_kept (s : State) : s.timingSide.kept = s.kept := by simp [State.timingSide]
@[simp] theorem State.unwrap_kept (d : Nat) (s : State) : (s.unwrap d).kept = s.kept := by simp [State.unwrap]

@[simp] theorem State.afterClear_kept (d : Nat) (s : State) : (s.afterClear d).kept = s.kept := by
  simp [State.afterClear]

theorem execRingDefectClear_kept (side : Side) (d : RingDefect) (s : State) :
    NextKeeps s (execRingDefectClear side d s) := by simp [execRingDefectClear]

theorem execRingWrap_kept (side : Side) (s : State) : NextKeeps s (execRingWrap side s) := by simp [execRingWrap]
theorem execWtrExpiry_kept (side : Side) (s : State) : NextKeeps s (execWtrExpiry side s) := by simp [execWtrExpiry]

@[simp] theorem State.acceptReq_kept (d : Nat) (r : Nat × Nat × Bool) (s : State) :
    (s.acceptReq d r).kept = s.kept := by simp [State.acceptReq]

@[simp] theorem State.srq_kept (d : Nat) (f : RingHead) (s : State) : (s.srq d f).kept = s.kept := by simp [State.srq]

@[simp] theorem State.acceptLabel_kept (d l : Nat) (s : State) : (s.acceptLabel d l).kept = s.kept := by
  simp [State.acceptLabel]

@[simp] theorem State.labelIn_kept (d : Nat) (f : RingHead) (s : State) : (s.labelIn d f).kept = s.kept := by
  simp [State.labelIn]

@[simp] theorem State.passOn_kept (d : Nat) (c : Container) (s : State) : (s.passOn d c).kept = s.kept := by
  simp [State.passOn]

@[simp] theorem State.setReasm_kept (k : Nat) (r : Option Reasm) (s : State) : (s.setReasm k r).kept = s.kept := by
  simp [State.setReasm]

@[simp] theorem State.freeRing_kept (n : Nat) (s : State) : (s.freeRing n).kept = s.kept := by simp [State.freeRing]

@[simp] theorem State.dropReasm_kept (k : Nat) (s : State) : (s.dropReasm k).kept = s.kept := by
  unfold State.dropReasm
  split <;> simp

@[simp] theorem State.linkRing_kept (r : Reasm) (check : W32) (s : State) : (s.linkRing r check).kept = s.kept := by
  simp [State.linkRing]

@[simp] theorem State.addCell_kept (k : Nat) (c : Container) (r : Reasm) (s : State) :
    (s.addCell k c r).kept = s.kept := by
  simp only [State.addCell]
  split
  · simp
  · split <;> simp

@[simp] theorem State.takeContainer_kept (d : Nat) (c : Container) (s : State) :
    (s.takeContainer d c).kept = s.kept := by
  simp only [State.takeContainer]
  split
  · simp
  · split
    · simp
    · split <;> simp

@[simp] theorem State.containerIn_kept (d : Nat) (c : Container) (s : State) : (s.containerIn d c).kept = s.kept := by
  simp [State.containerIn]

@[simp] theorem State.containersIn_kept (d : Nat) (cs : List Container) (s : State) :
    (s.containersIn d cs).kept = s.kept := by
  induction cs generalizing s with
  | nil => rfl
  | cons x t ih => simp [State.containersIn, ih]

@[simp] theorem State.bipCheck_kept (d n : Nat) (s : State) : (s.bipCheck d n).kept = s.kept := by simp [State.bipCheck]

@[simp] theorem State.overhead_kept (d n : Nat) (h : RingHead) (was : RingLane) (rx : PtrRead) (s : State) :
    (s.overhead d n h was rx).kept = s.kept := by simp [State.overhead]

@[simp] theorem State.mergeContainers_kept (d : Nat) (s : State) : (s.mergeContainers d).1.kept = s.kept := by
  simp [State.mergeContainers]

@[simp] theorem State.mergeSlots_kept (d : Nat) (s : State) : (s.mergeSlots d).1.kept = s.kept := by
  simp [State.mergeSlots]

@[simp] theorem State.slotsIn_kept (d : Nat) (cs : List (List Byte)) (s : State) :
    (s.slotsIn d cs).1.kept = s.kept := by
  induction cs generalizing s with
  | nil => rfl
  | cons x t ih => simp [State.slotsIn, ih]

@[simp] theorem State.laneLost_kept (d n : Nat) (s : State) : (s.laneLost d n).kept = s.kept := by simp [State.laneLost]
@[simp] theorem State.laneLof_kept (d n : Nat) (s : State) : (s.laneLof d n).kept = s.kept := by simp [State.laneLof]

@[simp] theorem State.laneIn_kept (d n no : Nat) (rx : PtrRead) (data : List Byte) (slot : List Byte) (s : State) :
    (s.laneIn d n no rx data slot).kept = s.kept := by simp [State.laneIn]

@[simp] theorem State.frameIn_kept (d n : Nat) (b : List Byte) (was : RingLane) (s : State) :
    (s.frameIn d n b was).kept = s.kept := by simp [State.frameIn]

@[simp] theorem State.ringFrame_kept (d n : Nat) (wire : List Byte) (s : State) :
    (s.ringFrame d n wire).1.kept = s.kept := by simp [State.ringFrame]

theorem execRgPtrJump_kept (side : Side) (lane : Fin 2) (value : Nat) (s : State) :
    NextKeeps s (execRgPtrJump side lane value s) := by simp [execRgPtrJump]

@[simp] theorem State.sendTransit_kept (d c : Nat) (x : Container) (s : State) :
    (s.sendTransit d c x).kept = s.kept := by simp [State.sendTransit]

@[simp] theorem State.sendLocal_kept (d c q turns : Nat) (e : Ecc) (s : State) :
    (s.sendLocal d c q turns e).1.kept = s.kept := by
  unfold State.sendLocal
  split <;> simp

theorem State.sendClass_kept {d c : Nat} {ecc : List Ecc} {s : State} {r : State × Option Container × List Ecc}
    (h : s.sendClass d c ecc = some r) : r.1.kept = s.kept := by
  simp only [State.sendClass] at h
  split at h
  · cases h; simp
  · cases h; simp
  · split at h <;> cases h <;> simp
  · cases h

@[simp] theorem State.fillRing_kept (d n : Nat) (ecc : List Ecc) (s : State) :
    (s.fillRing d n ecc).1.kept = s.kept := by
  induction n generalizing ecc s with
  | zero => rfl
  | succ n ih =>
    simp only [State.fillRing]
    split
    · rfl
    next r h =>
      have hr : r.1.kept = s.kept := by
        simp only [Option.orElse_eq_or, Option.or_eq_some_iff] at h
        obtain ((h | ⟨_, h⟩) | ⟨_, h⟩) | ⟨_, h⟩ := h <;> exact State.sendClass_kept h
      rw [ih, hr]

@[simp] theorem State.sendLane_kept (d n just : Nat) (cs : List Container) (cr : List CreditRec) (slot : List Byte)
    (s : State) : (s.sendLane d n just cs cr slot).kept = s.kept := by simp [State.sendLane]

@[simp] theorem State.takeSlot_kept (d : Nat) (s : State) : (s.takeSlot d).1.kept = s.kept := by
  unfold State.takeSlot
  split <;> simp

@[simp] theorem State.sendFrames_kept (d j : Nat) (ecc : List Ecc) (s : State) :
    (s.sendFrames d j ecc).kept = s.kept := by simp [State.sendFrames]

theorem execRingFrameTransmit_kept (r : CellRead RingSend (List Ecc)) (s : State) :
    NextKeeps s (execRingFrameTransmit r s) := by simp [execRingFrameTransmit]

/-! ### The operations of Sys2Proof/Machine/Join -/

@[simp] theorem State.setJoin_kept (f : JoinState → JoinState) (s : State) : (s.setJoin f).kept = s.kept := by
  simp [State.setJoin]

@[simp] theorem State.joinSend_kept (d dst : Nat) (body : DccBody) (s : State) :
    (s.joinSend d dst body).kept = s.kept := by simp [State.joinSend]

@[simp] theorem State.dropFrom_kept (n : Nat) (s : State) : (s.dropFrom n).kept = s.kept := by simp [State.dropFrom]

@[simp] theorem State.flushToward_kept (n : Nat) (s : State) : (s.flushToward n).kept = s.kept := by
  simp [State.flushToward]

@[simp] theorem State.faultNode_kept (n : Nat) (s : State) : (s.faultNode n).kept = s.kept := by
  refine State.kept_foldl (fun t m => ?_) _ s
  simp only
  split <;> simp

@[simp] theorem State.setSummary_kept (n : Nat) (on : Bool) (s : State) : (s.setSummary n on).kept = s.kept := by
  simp [State.setSummary]

@[simp] theorem State.nodeLeave_kept (n : Nat) (s : State) : (s.nodeLeave n).kept = s.kept := by simp [State.nodeLeave]
theorem execLeave_kept (n : NodeNo) (s : State) : NextKeeps s (execLeave n s) := by simp [execLeave]

theorem execWorkerGoneTimeout_kept (n : NodeNo) (s : State) : NextKeeps s (execWorkerGoneTimeout n s) := by
  simp [execWorkerGoneTimeout]

@[simp] theorem State.enrol_kept (n : Nat) (moved : Bool) (q : JoinRequest) (s : State) :
    (s.enrol n moved q).kept = s.kept := by simp [State.enrol]

@[simp] theorem State.refuseJoin_kept (reason : Nat) (q : JoinRequest) (s : State) :
    (s.refuseJoin reason q).kept = s.kept := by simp [State.refuseJoin]

@[simp] theorem State.chainFull_kept (q : JoinRequest) (s : State) : (s.chainFull q).kept = s.kept := by
  simp [State.chainFull]

@[simp] theorem State.decideJoin_kept (q : JoinRequest) (s : State) : (s.decideJoin q).kept = s.kept := by
  simp only [State.decideJoin]
  split
  · simp
  · split
    · simp
    · split
      · simp
      · split
        · simp
        · split
          · simp
          · split <;> simp

@[simp] theorem State.onJoinReq_kept (q : JoinRequest) (s : State) : (s.onJoinReq q).kept = s.kept := by
  simp only [State.onJoinReq]
  split
  · simp
  · split
    · simp
    · split <;> simp

theorem execJoinReq_kept (r : JoinRequest) (s : State) : NextKeeps s (execJoinReq r s) := by simp [execJoinReq]

theorem execJoinCollectionEnd_kept (s : State) : NextKeeps s (execJoinCollectionEnd s) := by
  unfold execJoinCollectionEnd
  split <;> simp

@[simp] theorem State.sendParts_kept (n : Nat) (s : State) : (s.sendParts n).kept = s.kept := by simp [State.sendParts]

@[simp] theorem State.nodeJoined_kept (n : Nat) (s : State) : (s.nodeJoined n).kept = s.kept := by
  simp [State.nodeJoined]

theorem execJoinComplete_kept (n : NodeNo) (s : State) : NextKeeps s (execJoinComplete n s) := by
  simp [execJoinComplete]

theorem execJoinHoldoffReset_kept (n : NodeNo) (s : State) : NextKeeps s (execJoinHoldoffReset n s) := by
  simp [execJoinHoldoffReset]

@[simp] theorem State.joinFail_kept (s : State) : s.joinFail.kept = s.kept := by simp [State.joinFail]
@[simp] theorem State.joinBegin_kept (s : State) : s.joinBegin.kept = s.kept := by simp [State.joinBegin]
theorem execJoinAttemptStart_kept (s : State) : NextKeeps s (execJoinAttemptStart s) := by simp [execJoinAttemptStart]

theorem execJoinHoldoffExpiry_kept (s : State) : NextKeeps s (execJoinHoldoffExpiry s) := by
  simp [execJoinHoldoffExpiry]

theorem execJoinAttemptTimeout_kept (s : State) : NextKeeps s (execJoinAttemptTimeout s) := by
  simp [execJoinAttemptTimeout]

@[simp] theorem State.onAccept_kept (n gen : Nat) (nonce : BitVec 64) (chain : BitVec 128) (s : State) :
    (s.onAccept n gen nonce chain).kept = s.kept := by simp [State.onAccept]

theorem execJoinAccept_kept (number : NodeNo) (a : JoinGrant) (s : State) :
    NextKeeps s (execJoinAccept number a s) := by simp [execJoinAccept]

@[simp] theorem State.onRefuse_kept (reason : Nat) (s : State) : (s.onRefuse reason).kept = s.kept := by
  simp [State.onRefuse]

theorem execJoinRefuse_kept (reason : Nat) (s : State) : NextKeeps s (execJoinRefuse reason s) := by
  simp [execJoinRefuse]

theorem execManagerLost_kept (s : State) : NextKeeps s (execManagerLost s) := by simp [execManagerLost]
theorem execHello_kept (s : State) : NextKeeps s (execHello s) := by simp [execHello]

@[simp] theorem State.sendImage_kept (d n : Nat) (s : State) : (s.sendImage d n).kept = s.kept := by
  simp [State.sendImage]

theorem execImgReq_kept (n : NodeNo) (s : State) : NextKeeps s (execImgReq n s) := by simp [execImgReq]

@[simp] theorem State.onBlock_kept (n : Nat) (b : List Byte) (s : State) : (s.onBlock n b).kept = s.kept := by
  simp [State.onBlock]

@[simp] theorem State.unreachable_kept (n : Nat) (s : State) : (s.unreachable n).kept = s.kept := by
  simp [State.unreachable]

theorem execDccRetransmit_kept (peer : NodeNo) (msgSeq : Nat) (s : State) :
    NextKeeps s (execDccRetransmit peer msgSeq s) := by
  simp only [execDccRetransmit]
  split <;> simp

@[simp] theorem State.pump_kept (n k : Nat) (s : State) : (s.pump n k).kept = s.kept := by
  induction k generalizing s with
  | zero => rfl
  | succ k ih =>
    simp only [State.pump]
    split <;> simp [ih]

@[simp] theorem State.dccAcked_kept (n ack : Nat) (s : State) : (s.dccAcked n ack).kept = s.kept := by
  simp only [State.dccAcked]
  split <;> simp

/-! ### The operations of Sys2Proof/Machine/Ledger -/

@[simp] theorem State.auditCells_kept (s : State) : s.auditCells.kept = s.kept := by simp [State.auditCells]

@[simp] theorem State.auditLink_kept (n c : Nat) (s : State) : (s.auditLink n c).kept = s.kept := by
  simp [State.auditLink]

@[simp] theorem State.auditCredits_kept (s : State) : s.auditCredits.kept = s.kept := by simp [State.auditCredits]

@[simp] theorem State.auditQueue_kept (s : State) (q : Nat) : (s.auditQueue q).kept = s.kept := by
  simp [State.auditQueue]

@[simp] theorem State.auditPolicer_kept (s : State) (k : Nat) : (s.auditPolicer k).kept = s.kept := by
  simp [State.auditPolicer]

@[simp] theorem State.auditTokens_kept (s : State) : s.auditTokens.kept = s.kept := by simp [State.auditTokens]

/-! ### The operations of Sys2Proof/Machine/Admit -/

@[simp] theorem State.evtTo_kept (m src obj : Nat) (s : State) : (s.evtTo m src obj).kept = s.kept := by
  simp [State.evtTo]

@[simp] theorem State.raiseList_kept (src : Nat) (l : List Nat) (s : State) : (s.raiseList src l).kept = s.kept := by
  unfold State.raiseList
  split
  · rfl
  · simp only
    rw [State.kept_foldl, State.raise_kept]
    intro u b
    split <;> simp

@[simp] theorem State.shedObj_kept (o : Nat) (s : State) : (s.shedObj o).kept = s.kept := by simp [State.shedObj]

@[simp] theorem State.restoreObj_kept (o : Nat) (s : State) : (s.restoreObj o).kept = s.kept := by
  simp [State.restoreObj]

@[simp] theorem State.rerun_kept (restore : Bool) (s : State) : (s.rerun restore).kept = s.kept := by simp [State.rerun]

theorem execAdmissionRecheck_kept (s : State) : NextKeeps s (execAdmissionRecheck s) := by
  unfold execAdmissionRecheck
  split <;> simp

/-! ### The operations of Sys2Proof/Machine/Switch -/

@[simp] theorem State.laneStart_kept (l : Nat) (s : State) : (s.laneStart l).kept = s.kept := by simp [State.laneStart]
@[simp] theorem State.laneStop_kept (l : Nat) (s : State) : (s.laneStop l).kept = s.kept := by simp [State.laneStop]

@[simp] theorem State.laneRerate_kept (l : Nat) (s : State) : (s.laneRerate l).kept = s.kept := by
  simp [State.laneRerate]

@[simp] theorem State.laneSwitch_kept (old : Cfg) (s : State) (l : Nat) : (s.laneSwitch old l).kept = s.kept := by
  simp [State.laneSwitch]

@[simp] theorem State.membersLeave_kept (new : Cfg) (s : State) : (s.membersLeave new).kept = s.kept := by
  simp [State.membersLeave]

@[simp] theorem State.groupsSwitch_kept (old : Cfg) (s : State) : (s.groupsSwitch old).kept = s.kept := by
  simp [State.groupsSwitch]

@[simp] theorem State.allocsSwitch_kept (old : Cfg) (s : State) : (s.allocsSwitch old).kept = s.kept := by
  simp [State.allocsSwitch]

@[simp] theorem State.rearm_kept (l : Nat) (s : State) : (s.rearm l).kept = s.kept := by simp [State.rearm]

@[simp] theorem State.portSwitch_kept (old : Cfg) (s : State) (p : Nat) : (s.portSwitch old p).kept = s.kept := by
  simp [State.portSwitch]

@[simp] theorem State.shaperSwitch_kept (old : Cfg) (q : Nat) (s : State) : (s.shaperSwitch old q).kept = s.kept := by
  simp [State.shaperSwitch]

@[simp] theorem State.policerSwitch_kept (old : Cfg) (k : Nat) (s : State) : (s.policerSwitch old k).kept = s.kept := by
  simp [State.policerSwitch]

@[simp] theorem State.queueSwitch_kept (old : Cfg) (q : Nat) (s : State) : (s.queueSwitch old q).kept = s.kept := by
  simp [State.queueSwitch]

@[simp] theorem State.disableUp_kept (old : Cfg) (q : Nat) (s : State) : (s.disableUp old q).kept = s.kept := by
  simp [State.disableUp]

@[simp] theorem State.queuesSwitch_kept (old : Cfg) (s : State) : (s.queuesSwitch old).kept = s.kept := by
  simp [State.queuesSwitch]

@[simp] theorem State.gateSwitch_kept (o : Nat) (g : GateCfg) (s : State) : (s.gateSwitch o g).kept = s.kept := by
  simp [State.gateSwitch]

@[simp] theorem State.e1Switch_kept (old : Cfg) (s : State) (p : Nat) : (s.e1Switch old p).kept = s.kept := by
  simp [State.e1Switch]

@[simp] theorem State.cesSwitch_kept (old : Cfg) (s : State) (p : Nat) : (s.cesSwitch old p).kept = s.kept := by
  simp [State.cesSwitch]

@[simp] theorem State.tideBefore_kept (s : State) : s.tideBefore.kept = s.kept := by simp [State.tideBefore]

@[simp] theorem State.tideAfter_kept (old : Cfg) (s : State) : (s.tideAfter old).kept = s.kept := by
  simp [State.tideAfter]

@[simp] theorem State.reown_kept (old : Cfg) (s : State) : (s.reown old).kept = s.kept := by simp [State.reown]
@[simp] theorem State.gateUsed_kept (s : State) : s.gateUsed.kept = s.kept := by simp [State.gateUsed]

@[simp] theorem State.gateUnused_kept (old : Cfg) (s : State) : (s.gateUnused old).kept = s.kept := by
  simp [State.gateUnused]

@[simp] theorem State.settingAct_kept (x : Setting) (s : State) : (s.settingAct x).kept = s.kept := by
  unfold State.settingAct
  split <;> simp

@[simp] theorem State.follow_kept (old : Cfg) (s : State) : (s.follow old).kept = s.kept := by simp [State.follow]

@[simp] theorem State.switchIn_kept (staged : List StagedCmd) (s : State) : (s.switchIn staged).kept = s.kept := by
  simp [State.switchIn]

/-! ### The operations of Sys2Proof/Machine/Reset -/

@[simp] theorem State.coldReset_kept (por : Bool) (cause : Nat) (s : State) :
    (s.coldReset por cause).kept = s.kept := by simp [State.coldReset]

@[simp] theorem State.afterReset_kept (s : State) : s.afterReset.kept = s.kept := by simp [State.afterReset]
@[simp] theorem State.latchRole_kept (s : State) : s.latchRole.kept = s.kept := by simp [State.latchRole]

@[simp] theorem State.setWake_kept (f : WakeRecord → WakeRecord) (s : State) : (s.setWake f).kept = s.kept := by
  simp [State.setWake]

@[simp] theorem State.railFault_kept (k phase : Nat) (void : Bool) (s : State) :
    (s.railFault k phase void).kept = s.kept := by simp [State.railFault]

@[simp] theorem State.setPower_kept (f : Power → Power) (s : State) : (s.setPower f).kept = s.kept := by
  simp [State.setPower]

@[simp] theorem State.railOn_kept (k : Nat) (s : State) : (s.railOn k).kept = s.kept := by simp [State.railOn]
@[simp] theorem State.railOff_kept (k : Nat) (s : State) : (s.railOff k).kept = s.kept := by simp [State.railOff]
@[simp] theorem State.railsUp_kept (s : State) : s.railsUp.kept = s.kept := by simp [State.railsUp]
@[simp] theorem State.clocksOff_kept (s : State) : s.clocksOff.kept = s.kept := by simp [State.clocksOff]
@[simp] theorem State.rewindEvery_kept (s : State) : s.rewindEvery.kept = s.kept := by simp [State.rewindEvery]

@[simp] theorem State.lanesDark_kept (which : Nat → Bool) (s : State) : (s.lanesDark which).kept = s.kept := by
  simp [State.lanesDark]

@[simp] theorem State.portsHold_kept (s : State) : s.portsHold.kept = s.kept := by simp [State.portsHold]
@[simp] theorem State.ringDark_kept (s : State) : s.ringDark.kept = s.kept := by simp [State.ringDark]
@[simp] theorem State.goDark_kept (s : State) : s.goDark.kept = s.kept := by simp [State.goDark]

@[simp] theorem State.entryWake_kept (cause wake timer : Nat) (thermal : Bool) (s : State) :
    (s.entryWake cause wake timer thermal).kept = s.kept := by simp [State.entryWake]

/-! ### The operations of Sys2Proof/Machine/Cistern -/

@[simp] theorem State.setCs_kept (f : Cistern → Cistern) (s : State) : (s.setCs f).kept = s.kept := by
  simp [State.setCs]

@[simp] theorem State.flushLog_kept (vin : Bool) (s : State) : (s.flushLog vin).kept = s.kept := by
  simp [State.flushLog]

@[simp] theorem State.lswStart_kept (k : Nat) (s : State) : (s.lswStart k).kept = s.kept := by simp [State.lswStart]

@[simp] theorem State.lswDrop_kept (k : Nat) (st : LswState) (s : State) : (s.lswDrop k st).kept = s.kept := by
  simp [State.lswDrop]

@[simp] theorem State.lswNext_kept (s : State) : s.lswNext.kept = s.kept := by
  unfold State.lswNext
  split <;> simp

@[simp] theorem State.lswBegin_kept (s : State) : s.lswBegin.kept = s.kept := by simp [State.lswBegin]
theorem execLswOn_kept (k : Fin 4) (s : State) : NextKeeps s (execLswOn k s) := by simp [execLswOn]

theorem execLswFail_kept (k : Fin 4) (cause : Fin 5) (s : State) : NextKeeps s (execLswFail k cause s) := by
  simp [execLswFail]

theorem execLswRetryExpiry_kept (k : Fin 4) (s : State) : NextKeeps s (execLswRetryExpiry k s) := by
  simp [execLswRetryExpiry]

theorem execLswFailCountClear_kept (k : Fin 4) (s : State) : NextKeeps s (execLswFailCountClear k s) := by
  simp [execLswFailCountClear]

theorem execLswPres_kept (k : Fin 4) (s : State) : NextKeeps s (execLswPres k s) := by simp [execLswPres]

theorem execLswReinsertion_kept (k : Fin 4) (s : State) : NextKeeps s (execLswReinsertion k s) := by
  simp [execLswReinsertion]

@[simp] theorem State.charge_kept (s : State) : s.charge.kept = s.kept := by simp [State.charge]

@[simp] theorem State.dgReady_kept (on : Bool) (s : State) : (s.dgReady on).kept = s.kept := by
  simp only [State.dgReady]
  split
  · simp
  · split <;> simp

@[simp] theorem State.storeAbsent_kept (s : State) : s.storeAbsent.kept = s.kept := by simp [State.storeAbsent]

@[simp] theorem State.readiness_kept (store : Nat) (s : State) : (s.readiness store).kept = s.kept := by
  simp [State.readiness]

@[simp] theorem State.shedLoads_kept (s : State) : s.shedLoads.kept = s.kept := by simp [State.shedLoads]
@[simp] theorem State.portsGate_kept (s : State) : s.portsGate.kept = s.kept := by simp [State.portsGate]

@[simp] theorem State.vinSteps_kept (s : State) : s.vinSteps.kept = s.kept := by
  simp only [State.vinSteps]
  split
  · split <;> simp
  · split <;> simp

theorem execVinFail_kept (s : State) : NextKeeps s (execVinFail s) := by simp [execVinFail]
theorem execVinFailShedLoads_kept (s : State) : NextKeeps s (execVinFailShedLoads s) := by simp [execVinFailShedLoads]
@[simp] theorem State.lswResume_kept (s : State) : s.lswResume.kept = s.kept := by simp [State.lswResume]
@[simp] theorem State.rideThrough_kept (s : State) : s.rideThrough.kept = s.kept := by simp [State.rideThrough]
theorem execCsVinReturn_kept (s : State) : NextKeeps s (execCsVinReturn s) := by simp [execCsVinReturn]

theorem execCisternMonitorSample_kept (vinBall storeBall : Nat) (s : State) :
    NextKeeps s (execCisternMonitorSample vinBall storeBall s) := by simp [execCisternMonitorSample]

theorem execProbeChargeStart_kept (s : State) : NextKeeps s (execProbeChargeStart s) := by simp [execProbeChargeStart]
theorem execProbeChargeEnd_kept (s : State) : NextKeeps s (execProbeChargeEnd s) := by simp [execProbeChargeEnd]
@[simp] theorem State.mgrShed_kept (s : State) : s.mgrShed.kept = s.kept := by simp [State.mgrShed]
theorem execCsMgrShed_kept (s : State) : NextKeeps s (execCsMgrShed s) := by simp [execCsMgrShed]
@[simp] theorem State.shedRestore_kept (s : State) : s.shedRestore.kept = s.kept := by simp [State.shedRestore]

theorem execWorkerShedRestore_kept (s : State) : NextKeeps s (execWorkerShedRestore s) := by
  simp [execWorkerShedRestore]

/-! ### The operations of Sys2Proof/Machine/Power -/

@[simp] theorem State.drained_kept (e : Entry) (s : State) : (s.drained e).kept = s.kept := by simp [State.drained]
@[simp] theorem State.enterNow_kept (e : Entry) (s : State) : (s.enterNow e).kept = s.kept := by simp [State.enterNow]

theorem execMooredEntry_kept (s : State) : NextKeeps s (execMooredEntry s) := by
  unfold execMooredEntry
  split <;> simp

theorem execBeachedEntry_kept (s : State) : NextKeeps s (execBeachedEntry s) := by
  unfold execBeachedEntry
  split <;> simp

theorem execDrainEnd_kept (s : State) : NextKeeps s (execDrainEnd s) := by
  unfold execDrainEnd
  split <;> simp

theorem execCpWaitHalt_kept (irqPending : Bool) (s : State) : NextKeeps s (execCpWaitHalt irqPending s) := by
  simp [execCpWaitHalt]

@[simp] theorem State.wakeStart_kept (cause : Nat) (s : State) : (s.wakeStart cause).kept = s.kept := by
  simp [State.wakeStart]

@[simp] theorem State.mooredExit_kept (cause : Nat) (s : State) : (s.mooredExit cause).kept = s.kept := by
  simp [State.mooredExit]

@[simp] theorem State.wake_kept (cause : Nat) (s : State) : (s.wake cause).kept = s.kept := by
  simp only [State.wake]
  split <;> simp

theorem execPwWake_kept (cause : Nat) (s : State) : NextKeeps s (execPwWake cause s) := by simp [execPwWake]

@[simp] theorem State.railsAreDown_kept (st : Pwr) (s : State) : (s.railsAreDown st).kept = s.kept := by
  simp only [State.railsAreDown]
  split <;> simp

@[simp] theorem State.railsAreUp_kept (s : State) : s.railsAreUp.kept = s.kept := by simp [State.railsAreUp]

theorem execRailPowerGood_kept (k : Fin 6) (s : State) : NextKeeps s (execRailPowerGood k s) := by
  simp only [execRailPowerGood]
  split
  · simp
  · split
    · simp
    · split
      · simp
      · split <;> simp
    · simp

@[simp] theorem State.railsDrop_kept (s : State) : s.railsDrop.kept = s.kept := by simp [State.railsDrop]

theorem execRailPgWindowExpiry_kept (k : Fin 6) (s : State) : NextKeeps s (execRailPgWindowExpiry k s) := by
  simp only [execRailPgWindowExpiry]
  split
  · simp
  · split <;> simp

theorem execPowerUpRetry_kept (s : State) : NextKeeps s (execPowerUpRetry s) := by simp [execPowerUpRetry]

theorem execRailPowerDownStep_kept (pgFell : Bool) (s : State) : NextKeeps s (execRailPowerDownStep pgFell s) := by
  simp only [execRailPowerDownStep]
  split
  · simp
  · split <;> simp
  · simp

theorem execRailPgLost_kept (k : Fin 6) (s : State) : NextKeeps s (execRailPgLost k s) := by simp [execRailPgLost]

theorem execRailFailInPowerDown_kept (k : Fin 6) (s : State) : NextKeeps s (execRailFailInPowerDown k s) := by
  simp only [execRailFailInPowerDown]
  split
  · simp
  · split <;> simp

@[simp] theorem State.thermalShed_kept (s : State) : s.thermalShed.kept = s.kept := by simp [State.thermalShed]
@[simp] theorem State.enterStep_kept (k : Nat) (s : State) : (s.enterStep k).kept = s.kept := by simp [State.enterStep]
@[simp] theorem State.thermalMoor_kept (s : State) : s.thermalMoor.kept = s.kept := by simp [State.thermalMoor]
@[simp] theorem State.stepsTo_kept (n : Nat) (s : State) : (s.stepsTo n).kept = s.kept := by simp [State.stepsTo]

@[simp] theorem State.sensors_kept (l : List (Option Int)) (s : State) : (s.sensors l).kept = s.kept := by
  simp [State.sensors]

@[simp] theorem State.stepCounts_kept (tj : Option Int) (s : State) : (s.stepCounts tj).kept = s.kept := by
  simp [State.stepCounts]

@[simp] theorem State.thermal_kept (l : List (Option Int)) (s : State) : (s.thermal l).kept = s.kept := by
  simp [State.thermal]

@[simp] theorem State.leaveStep_kept (k : Nat) (s : State) : (s.leaveStep k).kept = s.kept := by
  simp only [State.leaveStep]
  rw [State.kept_ite, State.raise_kept, ite_self]
  split
  · rw [State.recheck_kept, State.kept_foldl]
    · simp
    · intro t l
      split
      · split <;> simp
      · rfl
  · split <;> simp

theorem execThermalStepExit_kept (step : Fin 4) (s : State) : NextKeeps s (execThermalStepExit step s) := by
  simp [execThermalStepExit]

/-! ### The operations of Sys2Proof/Machine/Start -/

@[simp] theorem State.setStart_kept {f : Start → Start} (hp : ∀ k, (f k).part4410 = k.part4410)
    (hn : ∀ k, (f k).serialNum = k.serialNum) (s : State) : (s.setStart f).kept = s.kept := by
  simp [State.setStart, hp, hn]

@[simp] theorem State.bootCipher_kept (s : State) : s.bootCipher.kept = s.kept := by simp [State.bootCipher]
@[simp] theorem State.newNonce_kept (s : State) : s.newNonce.kept = s.kept := by simp [State.newNonce]
@[simp] theorem State.ringStart_kept (s : State) : s.ringStart.kept = s.kept := by simp [State.ringStart]
@[simp] theorem State.commitStored_kept (s : State) : s.commitStored.kept = s.kept := by simp [State.commitStored]

@[simp] theorem State.imageRec_kept (b : Bool) (what : Nat) (s : State) : (s.imageRec b what).kept = s.kept := by
  simp [State.imageRec]

@[simp] theorem State.imageStart_kept (s : State) (e : Nat) : (s.imageStart e).kept = s.kept := by
  unfold State.imageStart
  split <;> simp

@[simp] theorem State.startEvents_kept (s : State) : s.startEvents.kept = s.kept := by simp [State.startEvents]
@[simp] theorem State.craftStart_kept (s : State) : s.craftStart.kept = s.kept := by simp [State.craftStart]

@[simp] theorem State.startCp_kept (s : State) : s.startCp.kept = s.kept := by
  rw [State.startCp, State.ringStart_kept, State.craftStart_kept, State.commitStored_kept, State.lswBegin_kept,
    State.stepsTo_kept, State.stepCounts_kept, State.startEvents_kept, State.kept_mk rfl rfl, State.setClk_kept,
    State.gateOn_kept]
  exact State.setStart_kept (fun _ => rfl) (fun _ => rfl) s

@[simp] theorem State.startUp_kept (s : State) : s.startUp.kept = s.kept := by simp [State.startUp]
@[simp] theorem State.bootMarks_kept (s : State) : s.bootMarks.kept = s.kept := by simp [State.bootMarks]

@[simp] theorem State.bootBank_kept (b : Bool) (s : State) : (s.bootBank b).kept = s.kept := by
  rw [State.bootBank, State.startUp_kept, State.emit_kept, State.setStart_kept (f := Start.runs b) (fun _ => rfl)
    (fun _ => rfl), State.setClk_kept]

@[simp] theorem State.bootNone_kept (s : State) : s.bootNone.kept = s.kept := by
  unfold State.bootNone
  split <;> simp

@[simp] theorem State.bootByHeader_kept (s : State) : s.bootByHeader.kept = s.kept := by simp [State.bootByHeader]

@[simp] theorem State.boot_kept (s : State) : s.boot.kept = s.kept := by
  simp only [State.boot]
  split
  · simp
  · split
    · simp
    · split
      · simp
      · split <;> simp

theorem execNoValidBankRetry_kept (s : State) : NextKeeps s (execNoValidBankRetry s) := by simp [execNoValidBankRetry]
@[simp] theorem State.firstLock_kept (s : State) : s.firstLock.kept = s.kept := by simp [State.firstLock]
@[simp] theorem State.mooredLock_kept (s : State) : s.mooredLock.kept = s.kept := by simp [State.mooredLock]
@[simp] theorem State.resume_kept (s : State) : s.resume.kept = s.kept := by simp [State.resume]
theorem execRootLock_kept (s : State) : NextKeeps s (execRootLock s) := by simp [execRootLock]

theorem execThermalSample_kept (t0 t1 t2 t3 : Option Int) (s : State) :
    NextKeeps s (execThermalSample t0 t1 t2 t3 s) := by simp [execThermalSample]

theorem execPowerOnReset_kept (s : State) : NextKeeps s (execPowerOnReset s) := by simp [execPowerOnReset]

theorem execPowerOnResetAssert_kept (s : State) : NextKeeps s (execPowerOnResetAssert s) := by
  simp [execPowerOnResetAssert]

theorem execResetNAssert_kept (s : State) : NextKeeps s (execResetNAssert s) := by simp [execResetNAssert]
theorem execResetNRelease_kept (s : State) : NextKeeps s (execResetNRelease s) := by simp [execResetNRelease]

theorem execHostCommandReset_kept (value : W32) (s : State) : NextKeeps s (execHostCommandReset value s) := by
  simp [execHostCommandReset]

@[simp] theorem State.ringReset_kept (s : State) : s.ringReset.kept = s.kept := by simp [State.ringReset]
@[simp] theorem State.abortTxn_kept (m : Nat) (s : State) : (s.abortTxn m).kept = s.kept := by simp [State.abortTxn]

@[simp] theorem State.endDiag_kept (o : Nat) (s : State) : (s.endDiag o).kept = s.kept := by
  unfold State.endDiag
  split <;> simp

@[simp] theorem State.stopOp_kept (m seq : Nat) (s : State) : (s.stopOp m seq).kept = s.kept := by simp [State.stopOp]

@[simp] theorem State.drawWords_kept (n : Nat) (s : State) : (s.drawWords n).2.kept = s.kept := by
  simp [State.drawWords]

@[simp] theorem State.stopped_kept (d : Deferred) (s : State) : (s.stopped d).2.kept = s.kept := by
  unfold State.stopped
  split <;> simp

@[simp] theorem State.abortOp_kept (m : Nat) (d : Deferred) (s : State) : (s.abortOp m d).kept = s.kept := by
  simp [State.abortOp]

@[simp] theorem State.abortOps_kept (m : Nat) (s : State) : (s.abortOps m).kept = s.kept := by simp [State.abortOps]
@[simp] theorem State.warmRestart_kept (s : State) : s.warmRestart.kept = s.kept := by simp [State.warmRestart]

theorem execWarmCpRestart_kept (s : State) : NextKeeps s (execWarmCpRestart s) := by
  simp only [execWarmCpRestart]
  split
  · simp
  · split <;> simp

@[simp] theorem State.runImage_kept (s : State) : s.runImage.kept = s.kept := by simp [State.runImage]

@[simp] theorem State.reload_kept (s : State) : s.reload.kept = s.kept := by
  unfold State.reload
  split <;> simp

theorem execWarmRestartDone_kept (s : State) : NextKeeps s (execWarmRestartDone s) := by simp [execWarmRestartDone]
theorem execWatchdogRestart_kept (s : State) : NextKeeps s (execWatchdogRestart s) := by simp [execWatchdogRestart]
theorem execWatchdogBite_kept (s : State) : NextKeeps s (execWatchdogBite s) := by simp [execWatchdogBite]

theorem execWatchdogCountClear_kept (s : State) : NextKeeps s (execWatchdogCountClear s) := by
  simp [execWatchdogCountClear]

theorem execConfirmWindowExpiry_kept (s : State) : NextKeeps s (execConfirmWindowExpiry s) := by
  simp [execConfirmWindowExpiry]

@[simp] theorem State.dropTransit_kept (d : Nat) (s : State) : (s.dropTransit d).kept = s.kept := by
  simp [State.dropTransit]

@[simp] theorem State.abortRing_kept (d : Nat) (s : State) : (s.abortRing d).kept = s.kept := by simp [State.abortRing]

@[simp] theorem State.burstEnd_kept (l : Nat) (s : State) : (s.burstEnd l).kept = s.kept := by
  unfold State.burstEnd
  split <;> simp

@[simp] theorem State.partialReset_kept (d : ResetDomain) (s : State) : (s.partial_ d).kept = s.kept := by
  unfold State.partial_
  split <;> simp

theorem execPartialReset_kept (d : ResetDomain) (s : State) : NextKeeps s (execPartialReset d s) := by
  simp [execPartialReset]

/-! ### The operations of Sys2Proof/Machine/Audit -/

@[simp] theorem State.grantBreaches_kept (l n : Nat) (s : State) : (s.grantBreaches l n).kept = s.kept := by
  simp [State.grantBreaches]

@[simp] theorem State.auditGrants_kept (s : State) : s.auditGrants.kept = s.kept := by simp [State.auditGrants]
theorem execLedgerAudit_kept (s : State) : NextKeeps s (execLedgerAudit s) := by simp [execLedgerAudit]

/-! ### The operations of Sys2Proof/Machine/Session -/

@[simp] theorem State.dropSeg_kept (opc : Nat) (q : Req) (s : State) : (s.dropSeg opc q).kept = s.kept := by
  simp [State.dropSeg]

@[simp] theorem State.serve_kept {body : Req → State → Verdict} (h : ∀ q s, (body q s).keeps) (opc : Nat) (q : Req)
    (s : State) : (s.serve opc q body).kept = s.kept := by
  have hb := h q (s.dropSeg opc q)
  simp only [State.serve]
  split
  · simp
  · split
    · simp
    · split
      · simp
      next f hf =>
        rw [hf] at hb
        split
        · simp
        · rw [hb, State.dropSeg_kept]

@[simp] theorem State.atNode_kept {here : State → State} (h : ∀ s, (here s).kept = s.kept) (opc : Nat) (q : Req)
    (n : Nat) (s : State) : (s.atNode opc q n here).kept = s.kept := by simp [State.atNode, h]

@[simp] theorem helloBody_keeps (q : Req) (s : State) : (helloBody q s).keeps := by simp [helloBody]

@[simp] theorem opAbortBody_keeps (q : Req) (s : State) : (opAbortBody q s).keeps := by
  unfold opAbortBody
  split
  · simp
  · intro t
    simp only
    split <;> simp

@[simp] theorem identBody_keeps (q : Req) (s : State) : (identBody q s).keeps := by simp [identBody]
@[simp] theorem statusBody_keeps (q : Req) (s : State) : (statusBody q s).keeps := by simp [statusBody]
@[simp] theorem txnOpenBody_keeps (q : Req) (s : State) : (txnOpenBody q s).keeps := by simp [txnOpenBody]

@[simp] theorem State.relayParts_kept (staged : List StagedCmd) (frame : Nat) (s : State) :
    (s.relayParts staged frame).kept = s.kept := by simp [State.relayParts]

@[simp] theorem State.accept_kept (m : Nat) (staged : List StagedCmd) (s : State) :
    (s.accept m staged).kept = s.kept := by simp [State.accept]

@[simp] theorem txnCommitBody_keeps (q : Req) (s : State) : (txnCommitBody q s).keeps := by
  unfold txnCommitBody
  split
  · simp
  · intro t
    simp only
    split
    · simp
    · split <;> simp

@[simp] theorem txnAbortBody_keeps (q : Req) (s : State) : (txnAbortBody q s).keeps := by simp [txnAbortBody]
@[simp] theorem txnStatusBody_keeps (q : Req) (s : State) : (txnStatusBody q s).keeps := by simp [txnStatusBody]
@[simp] theorem lineStatusBody_keeps (q : Req) (s : State) : (lineStatusBody q s).keeps := by simp [lineStatusBody]
@[simp] theorem ringStatusBody_keeps (q : Req) (s : State) : (ringStatusBody q s).keeps := by simp [ringStatusBody]
@[simp] theorem portStatusBody_keeps (q : Req) (s : State) : (portStatusBody q s).keeps := by simp [portStatusBody]
@[simp] theorem mdioBody_keeps (q : Req) (s : State) : (mdioBody q s).keeps := by simp [mdioBody]

@[simp] theorem State.protect_kept (q : Req) (d cmd : Nat) (s : State) : (s.protect q d cmd).kept = s.kept := by
  simp [State.protect]

@[simp] theorem ringProtectBody_keeps (q : Req) (s : State) : (ringProtectBody q s).keeps := by simp [ringProtectBody]

@[simp] theorem ringRenumberBody_keeps (q : Req) (s : State) : (ringRenumberBody q s).keeps := by
  simp [ringRenumberBody]

@[simp] theorem nodeResetBody_keeps (q : Req) (s : State) : (nodeResetBody q s).keeps := by simp [nodeResetBody]
theorem execMbxHello_kept (q : Req) (s : State) : NextKeeps s (execMbxHello q s) := by simp [execMbxHello]
theorem execOpAbort_kept (q : Req) (s : State) : NextKeeps s (execOpAbort q s) := by simp [execOpAbort]
theorem execIdentGet_kept (q : Req) (s : State) : NextKeeps s (execIdentGet q s) := by simp [execIdentGet]
theorem execStatusGet_kept (q : Req) (s : State) : NextKeeps s (execStatusGet q s) := by simp [execStatusGet]
theorem execTxnOpen_kept (q : Req) (s : State) : NextKeeps s (execTxnOpen q s) := by simp [execTxnOpen]
theorem execTxnCommit_kept (q : Req) (s : State) : NextKeeps s (execTxnCommit q s) := by simp [execTxnCommit]
theorem execTxnAbort_kept (q : Req) (s : State) : NextKeeps s (execTxnAbort q s) := by simp [execTxnAbort]
theorem execTxnStatus_kept (q : Req) (s : State) : NextKeeps s (execTxnStatus q s) := by simp [execTxnStatus]

theorem execLineStatusGet_kept (q : Req) (s : State) : NextKeeps s (execLineStatusGet q s) := by
  simp [execLineStatusGet]

theorem execRingStatusGet_kept (q : Req) (s : State) : NextKeeps s (execRingStatusGet q s) := by
  simp [execRingStatusGet]

theorem execPortStatusGet_kept (q : Req) (s : State) : NextKeeps s (execPortStatusGet q s) := by
  simp [execPortStatusGet]

theorem execMdioAccess_kept (q : Req) (s : State) : NextKeeps s (execMdioAccess q s) := by simp [execMdioAccess]

theorem execRingProtectCmd_kept (q : Req) (s : State) : NextKeeps s (execRingProtectCmd q s) := by
  simp [execRingProtectCmd]

theorem execRingRenumber_kept (q : Req) (s : State) : NextKeeps s (execRingRenumber q s) := by simp [execRingRenumber]
theorem execNodeReset_kept (q : Req) (s : State) : NextKeeps s (execNodeReset q s) := by simp [execNodeReset]

/-! ### The operations of Sys2Proof/Machine/Prov -/

@[simp] theorem State.stage_kept (opc : Nat) (q : Req) (x : Setting) (named : List Nat) (s : State) :
    (s.stage opc q x named).kept = s.kept := by
  unfold State.stage
  split <;> simp

@[simp] theorem stageBody_keeps (opc : Nat) (hasObj : Bool) (form : List Byte → Option (Setting × List Nat)) (q : Req)
    (s : State) : (stageBody opc hasObj form q s).keeps := by
  simp only [stageBody]
  refine Verdict.keeps_of_ite trivial (Verdict.keeps_of_ite trivial ?_)
  split
  · trivial
  · split
    · trivial
    · simp

theorem execBerthSet_kept (q : Req) (s : State) : NextKeeps s (execBerthSet q s) := by simp [execBerthSet]
theorem execLineModeSet_kept (q : Req) (s : State) : NextKeeps s (execLineModeSet q s) := by simp [execLineModeSet]
theorem execLineLaneSet_kept (q : Req) (s : State) : NextKeeps s (execLineLaneSet q s) := by simp [execLineLaneSet]
theorem execRingSet_kept (q : Req) (s : State) : NextKeeps s (execRingSet q s) := by simp [execRingSet]
theorem execPortSet_kept (q : Req) (s : State) : NextKeeps s (execPortSet q s) := by simp [execPortSet]
theorem execQueueSet_kept (q : Req) (s : State) : NextKeeps s (execQueueSet q s) := by simp [execQueueSet]
theorem execSchedSet_kept (q : Req) (s : State) : NextKeeps s (execSchedSet q s) := by simp [execSchedSet]
theorem execShaperSet_kept (q : Req) (s : State) : NextKeeps s (execShaperSet q s) := by simp [execShaperSet]
theorem execGateListSet_kept (q : Req) (s : State) : NextKeeps s (execGateListSet q s) := by simp [execGateListSet]
theorem execPolicerSet_kept (q : Req) (s : State) : NextKeeps s (execPolicerSet q s) := by simp [execPolicerSet]

theorem execClassifierSet_kept (q : Req) (s : State) : NextKeeps s (execClassifierSet q s) := by
  simp [execClassifierSet]

theorem execAllocMapSet_kept (q : Req) (s : State) : NextKeeps s (execAllocMapSet q s) := by simp [execAllocMapSet]
theorem execXgemMapSet_kept (q : Req) (s : State) : NextKeeps s (execXgemMapSet q s) := by simp [execXgemMapSet]
theorem execMcastSet_kept (q : Req) (s : State) : NextKeeps s (execMcastSet q s) := by simp [execMcastSet]

theorem execPoolReserveSet_kept (q : Req) (s : State) : NextKeeps s (execPoolReserveSet q s) := by
  simp [execPoolReserveSet]

theorem execE1Set_kept (q : Req) (s : State) : NextKeeps s (execE1Set q s) := by simp [execE1Set]
theorem execCesSet_kept (q : Req) (s : State) : NextKeeps s (execCesSet q s) := by simp [execCesSet]
theorem execCisternSet_kept (q : Req) (s : State) : NextKeeps s (execCisternSet q s) := by simp [execCisternSet]
theorem execTideSet_kept (q : Req) (s : State) : NextKeeps s (execTideSet q s) := by simp [execTideSet]

/-! ### The operations of Sys2Proof/Machine/Maint -/

@[simp] theorem State.dropTests_kept (old : Cfg) (s : State) : (s.dropTests old).kept = s.kept := by
  refine State.kept_foldl (fun t x => ?_) _ s
  split
  · rfl
  · simp

theorem execCommitSwitchOver_kept (s : State) : NextKeeps s (execCommitSwitchOver s) := by
  unfold execCommitSwitchOver
  split <;> simp

@[simp] theorem queueFlushBody_keeps (q : Req) (s : State) : (queueFlushBody q s).keeps := by simp [queueFlushBody]
@[simp] theorem keyLoadBody_keeps (q : Req) (s : State) : (keyLoadBody q s).keeps := by simp [keyLoadBody]

@[simp] theorem State.eraseIf_kept (slot b : Nat) (s : State) : (s.eraseIf slot b).kept = s.kept := by
  simp [State.eraseIf]

@[simp] theorem keyEraseBody_keeps (q : Req) (s : State) : (keyEraseBody q s).keeps := by simp [keyEraseBody]
@[simp] theorem cntReadBody_keeps (q : Req) (s : State) : (cntReadBody q s).keeps := by simp [cntReadBody]
@[simp] theorem cntSnapshotBody_keeps (q : Req) (s : State) : (cntSnapshotBody q s).keeps := by simp [cntSnapshotBody]

theorem execSnapshotFillDone_kept (s : State) : NextKeeps s (execSnapshotFillDone s) := by
  unfold execSnapshotFillDone
  split <;> simp

@[simp] theorem State.powerSet_kept (q : Req) (s : State) : (s.powerSet q).kept = s.kept := by simp [State.powerSet]
@[simp] theorem pwrStateBody_keeps (q : Req) (s : State) : (pwrStateBody q s).keeps := by simp [pwrStateBody]

@[simp] theorem State.lswSet_kept (q : Req) (k action win : Nat) (s : State) :
    (s.lswSet q k action win).kept = s.kept := by
  simp only [State.lswSet]
  split <;> simp

@[simp] theorem lswBody_keeps (q : Req) (s : State) : (lswBody q s).keeps := by simp [lswBody]
theorem execQueueFlush_kept (q : Req) (s : State) : NextKeeps s (execQueueFlush q s) := by simp [execQueueFlush]
theorem execKeyLoad_kept (q : Req) (s : State) : NextKeeps s (execKeyLoad q s) := by simp [execKeyLoad]
theorem execKeyErase_kept (q : Req) (s : State) : NextKeeps s (execKeyErase q s) := by simp [execKeyErase]
theorem execCntRead_kept (q : Req) (s : State) : NextKeeps s (execCntRead q s) := by simp [execCntRead]
theorem execCntSnapshot_kept (q : Req) (s : State) : NextKeeps s (execCntSnapshot q s) := by simp [execCntSnapshot]
theorem execPwrStateSet_kept (q : Req) (s : State) : NextKeeps s (execPwrStateSet q s) := by simp [execPwrStateSet]

theorem execLswEnable_kept (q : Req) (node : NodeNo) (switch : Fin 4) (window : Byte) (s : State) :
    NextKeeps s (execLswEnable q node switch window s) := by simp [execLswEnable]

theorem execLswDisable_kept (q : Req) (node : NodeNo) (switch : Fin 4) (window : Byte) (s : State) :
    NextKeeps s (execLswDisable q node switch window s) := by simp [execLswDisable]

theorem execLswRearm_kept (q : Req) (node : NodeNo) (switch : Fin 4) (window : Byte) (s : State) :
    NextKeeps s (execLswRearm q node switch window s) := by simp [execLswRearm]

/-! ### The operations of Sys2Proof/Machine/Firmware -/

@[simp] theorem fwBeginBody_keeps (q : Req) (s : State) : (fwBeginBody q s).keeps := by simp [fwBeginBody]

@[simp] theorem State.putBlock_kept (w : FwWrite) (data : List Byte) (s : State) :
    (s.putBlock w data).kept = s.kept := by simp [State.putBlock]

@[simp] theorem State.putLast_kept (w : FwWrite) (s : State) : (s.putLast w).kept = s.kept := by simp [State.putLast]

@[simp] theorem fwBlockBody_keeps (q : Req) (s : State) : (fwBlockBody q s).keeps := by
  unfold fwBlockBody
  simp only
  split
  · simp
  · intro t
    simp only
    split <;> simp

theorem execFwEraseDone_kept (s : State) : NextKeeps s (execFwEraseDone s) := by
  simp only [execFwEraseDone]
  split
  · simp
  · split
    · simp
    · split <;> simp

@[simp] theorem fwEndBody_keeps (q : Req) (s : State) : (fwEndBody q s).keeps := by
  unfold fwEndBody
  simp only
  split
  · simp
  · intro t
    simp only
    split <;> simp

theorem execFwVerifyDone_kept (flashOk : Bool) (s : State) : NextKeeps s (execFwVerifyDone flashOk s) := by
  unfold execFwVerifyDone
  split <;> simp

@[simp] theorem fwActivateBody_keeps (q : Req) (s : State) : (fwActivateBody q s).keeps := by simp [fwActivateBody]
@[simp] theorem fwConfirmBody_keeps (q : Req) (s : State) : (fwConfirmBody q s).keeps := by simp [fwConfirmBody]

theorem execWorkerImageUpdate_kept (n : NodeNo) (s : State) : NextKeeps s (execWorkerImageUpdate n s) := by
  simp [execWorkerImageUpdate]

@[simp] theorem logbookBody_keeps (q : Req) (s : State) : (logbookBody q s).keeps := by simp [logbookBody]
theorem execFwWriteBegin_kept (q : Req) (s : State) : NextKeeps s (execFwWriteBegin q s) := by simp [execFwWriteBegin]
theorem execFwWriteBlock_kept (q : Req) (s : State) : NextKeeps s (execFwWriteBlock q s) := by simp [execFwWriteBlock]
theorem execFwWriteEnd_kept (q : Req) (s : State) : NextKeeps s (execFwWriteEnd q s) := by simp [execFwWriteEnd]
theorem execFwActivate_kept (q : Req) (s : State) : NextKeeps s (execFwActivate q s) := by simp [execFwActivate]
theorem execFwConfirm_kept (q : Req) (s : State) : NextKeeps s (execFwConfirm q s) := by simp [execFwConfirm]
theorem execLogbookRead_kept (q : Req) (s : State) : NextKeeps s (execLogbookRead q s) := by simp [execLogbookRead]

/-! ### The operations of Sys2Proof/Machine/Diag -/

@[simp] theorem selftestBody_keeps (q : Req) (s : State) : (selftestBody q s).keeps := by
  simp only [selftestBody]
  split
  · simp
  · rw [Verdict.keeps_go]
    exact State.atNode_kept (fun t => by split <;> simp) _ _ _

@[simp] theorem State.retireCells_kept (n : Nat) (s : State) : (s.retireCells n).kept = s.kept := by
  simp [State.retireCells]

theorem execSelftestDone_kept (tested retired failedUnits durationMs : Nat) (s : State) :
    NextKeeps s (execSelftestDone tested retired failedUnits durationMs s) := by
  unfold execSelftestDone
  split <;> simp

@[simp] theorem State.beginDiag_kept (o : Nat) (d : Diag) (s : State) : (s.beginDiag o d).kept = s.kept := by
  unfold State.beginDiag
  split <;> simp

@[simp] theorem loopbackBody_keeps (q : Req) (s : State) : (loopbackBody q s).keeps := by simp [loopbackBody]

theorem execLoopbackExpiry_kept (object : W32) (s : State) : NextKeeps s (execLoopbackExpiry object s) := by
  unfold execLoopbackExpiry
  split <;> simp

@[simp] theorem prbsBody_keeps (q : Req) (s : State) : (prbsBody q s).keeps := by simp [prbsBody]

theorem execPrbsDone_kept (object : W32) (bits errors syncLosses : Nat) (s : State) :
    NextKeeps s (execPrbsDone object bits errors syncLosses s) := by
  unfold execPrbsDone
  split <;> simp

@[simp] theorem State.maintEnter_kept (s : State) : s.maintEnter.kept = s.kept := by simp [State.maintEnter]
@[simp] theorem State.maintLeave_kept (s : State) : s.maintLeave.kept = s.kept := by simp [State.maintLeave]
@[simp] theorem maintBody_keeps (q : Req) (s : State) : (maintBody q s).keeps := by simp [maintBody]

@[simp] theorem State.omciSegment_kept (q : Req) (l : Nat) (more : Bool) (data : List Byte) (s : State) :
    (s.omciSegment q l more data).kept = s.kept := by simp [State.omciSegment]

@[simp] theorem omciBody_keeps (q : Req) (s : State) : (omciBody q s).keeps := by simp [omciBody]
@[simp] theorem State.evtConfig_kept (q : Req) (s : State) : (s.evtConfig q).kept = s.kept := by simp [State.evtConfig]
@[simp] theorem State.setMsg_kept (q : Req) (s : State) : (s.setMsg q).kept = s.kept := by simp [State.setMsg]
@[simp] theorem evtConfigBody_keeps (q : Req) (s : State) : (evtConfigBody q s).keeps := by simp [evtConfigBody]

@[simp] theorem State.evtClear_kept (g : Nat) (w : W32) (s : State) : (s.evtClear g w).kept = s.kept := by
  simp [State.evtClear]

@[simp] theorem evtAckBody_keeps (q : Req) (s : State) : (evtAckBody q s).keeps := by simp [evtAckBody]
@[simp] theorem evtFetchBody_keeps (q : Req) (s : State) : (evtFetchBody q s).keeps := by simp [evtFetchBody]

@[simp] theorem State.setAlarm_kept (k : Nat) (a : Alarm) (q : Req) (s : State) : (s.setAlarm k a q).kept = s.kept := by
  simp [State.setAlarm]

@[simp] theorem alarmBody_keeps (q : Req) (s : State) : (alarmBody q s).keeps := by simp [alarmBody]
@[simp] theorem pulseBody_keeps (q : Req) (s : State) : (pulseBody q s).keeps := by simp [pulseBody]
theorem execDiagSelftest_kept (q : Req) (s : State) : NextKeeps s (execDiagSelftest q s) := by simp [execDiagSelftest]
theorem execDiagLoopback_kept (q : Req) (s : State) : NextKeeps s (execDiagLoopback q s) := by simp [execDiagLoopback]
theorem execDiagPrbs_kept (q : Req) (s : State) : NextKeeps s (execDiagPrbs q s) := by simp [execDiagPrbs]

theorem execDiagMaintenance_kept (q : Req) (s : State) : NextKeeps s (execDiagMaintenance q s) := by
  simp [execDiagMaintenance]

theorem execOmciSend_kept (q : Req) (s : State) : NextKeeps s (execOmciSend q s) := by simp [execOmciSend]
theorem execEvtConfig_kept (q : Req) (s : State) : NextKeeps s (execEvtConfig q s) := by simp [execEvtConfig]
theorem execEvtAck_kept (q : Req) (s : State) : NextKeeps s (execEvtAck q s) := by simp [execEvtAck]
theorem execEvtFetch_kept (q : Req) (s : State) : NextKeeps s (execEvtFetch q s) := by simp [execEvtFetch]
theorem execTideAlarmSet_kept (q : Req) (s : State) : NextKeeps s (execTideAlarmSet q s) := by simp [execTideAlarmSet]
theorem execTidePulseSet_kept (q : Req) (s : State) : NextKeeps s (execTidePulseSet q s) := by simp [execTidePulseSet]

/-! ### The operations of Sys2Proof/Machine/Mailbox -/

theorem bodyOf_keeps {opc : Nat} {b : Req → State → Verdict} (h : bodyOf opc = some b) (q : Req) (s : State) :
    (b q s).keeps := by
  unfold bodyOf at h
  split at h <;> cases h <;> simp

@[simp] theorem State.runCommand_kept (opc : Nat) (q : Req) (s : State) : (s.runCommand opc q).kept = s.kept := by
  unfold State.runCommand
  split
  · simp
  next b _ hb => exact State.serve_kept (bodyOf_keeps hb) _ _ _
  · simp

@[simp] theorem State.dbReq_kept (m n : Nat) (s : State) : (s.dbReq m n).kept = s.kept := by simp [State.dbReq]
@[simp] theorem State.deliver_kept (m : Nat) (s : State) : (s.deliver m).kept = s.kept := by simp [State.deliver]
@[simp] theorem State.dbRpl_kept (m n : Nat) (s : State) : (s.dbRpl m n).kept = s.kept := by simp [State.dbRpl]

theorem execMbxDbReqWrite_kept (m : MbxNo) (value : W32) (s : State) : NextKeeps s (execMbxDbReqWrite m value s) := by
  simp [execMbxDbReqWrite]

theorem execMbxDbRplWrite_kept (m : MbxNo) (value : W32) (s : State) : NextKeeps s (execMbxDbRplWrite m value s) := by
  simp [execMbxDbRplWrite]

@[simp] theorem State.dropReq_kept (m : Nat) (s : State) : (s.dropReq m).kept = s.kept := by simp [State.dropReq]

@[simp] theorem State.resend_kept (m : Nat) (msg : Msg) (s : State) : (s.resend m msg).kept = s.kept := by
  simp [State.resend]

@[simp] theorem State.receive_kept (m opc : Nat) (q : Req) (crc : W32) (s : State) :
    (s.receive m opc q crc).kept = s.kept := by
  simp only [State.receive]
  split <;> simp

@[simp] theorem State.takeReq_kept (m : Nat) (s : State) : (s.takeReq m).kept = s.kept := by simp [State.takeReq]
@[simp] theorem State.turnEnd_kept (m : Nat) (s : State) : (s.turnEnd m).kept = s.kept := by simp [State.turnEnd]

@[simp] theorem State.turn_kept (ms : List Nat) (s : State) : (s.turn ms).kept = s.kept := by
  induction ms generalizing s with
  | nil => rfl
  | cons m t ih => simp [State.turn, ih]

theorem execMailboxRequest_kept (s : State) : NextKeeps s (execMailboxRequest s) := by simp [execMailboxRequest]

theorem execTxnIdleTimeout_kept (m : MbxNo) (s : State) : NextKeeps s (execTxnIdleTimeout m s) := by
  simp [execTxnIdleTimeout]

theorem execEvtStatusWrite_kept (g : Fin 20) (value : W32) (s : State) :
    NextKeeps s (execEvtStatusWrite g value s) := by simp [execEvtStatusWrite]

@[simp] theorem State.evtRoute_kept (a : Nat) (w : W32) (s : State) : (s.evtRoute a w).kept = s.kept := by
  simp [State.evtRoute]

theorem execEvtEnableWrite_kept (addr : Nat) (value : W32) (s : State) :
    NextKeeps s (execEvtEnableWrite addr value s) := by simp [execEvtEnableWrite]

@[simp] theorem State.unmask_kept (v : Nat) (s : State) : (s.unmask v).kept = s.kept := by simp [State.unmask]
theorem execVectorUnmask_kept (v : Fin 8) (s : State) : NextKeeps s (execVectorUnmask v s) := by simp [execVectorUnmask]

@[simp] theorem State.msixWrite_kept (a : Nat) (w : W32) (s : State) : (s.msixWrite a w).kept = s.kept := by
  simp [State.msixWrite]

@[simp] theorem State.regWrite_kept (a : Nat) (w : W32) (s : State) : (s.regWrite a w).kept = s.kept := by
  simp [State.regWrite]

@[simp] theorem State.winWrite_kept (a : Nat) (w : W32) (be : BitVec 4) (s : State) :
    (s.winWrite a w be).kept = s.kept := by simp [State.winWrite]

@[simp] theorem State.hostWrite_kept (a : Nat) (w : W32) (be : BitVec 4) (s : State) :
    (s.hostWrite a w be).kept = s.kept := by simp [State.hostWrite]

theorem execRegisterWrite_kept (addr : Nat) (value : W32) (byteEnables : BitVec 4) (s : State) :
    NextKeeps s (execRegisterWrite addr value byteEnables s) := by simp [execRegisterWrite]

@[simp] theorem State.hostRead_kept (a : Nat) (s : State) : (s.hostRead a).kept = s.kept := by simp [State.hostRead]

@[simp] theorem State.spiWords_kept (addr : Nat) (words : List W32) (cutShort : Bool) (s : State) :
    (s.spiWords addr words cutShort).kept = s.kept := by simp [State.spiWords]

@[simp] theorem State.spiReads_kept (addr words : Nat) (s : State) : (s.spiReads addr words).kept = s.kept := by
  simp [State.spiReads]

theorem execSpiWrite_kept (addr : Nat) (words : List W32) (cutShort : Bool) (s : State) :
    NextKeeps s (execSpiWrite addr words cutShort s) := by simp [execSpiWrite]

theorem execSpiRead_kept (addr : Nat) (words : Nat) (s : State) : NextKeeps s (execSpiRead addr words s) := by
  simp [execSpiRead]

@[simp] theorem State.completeAccess_kept (s : State) (a : HostAccess) : (s.complete_ a).kept = s.kept := by
  unfold State.complete_
  split <;> simp

@[simp] theorem State.rootRelease_kept (s : State) : s.rootRelease.kept = s.kept := by simp [State.rootRelease]

theorem execClockHoldRelease_kept (lane : Option Lane) (s : State) : NextKeeps s (execClockHoldRelease lane s) := by
  unfold execClockHoldRelease
  split <;> simp

theorem execHeartbeat_kept (s : State) : NextKeeps s (execHeartbeat s) := by simp [execHeartbeat]

/-! ### The operations of Sys2Proof/Machine/Craft -/

theorem execLogbookFlush_kept (s : State) : NextKeeps s (execLogbookFlush s) := by simp [execLogbookFlush]

@[simp] theorem State.relayLog_kept (n kind : Nat) (data : List Byte) (s : State) :
    (s.relayLog n kind data).kept = s.kept := by simp [State.relayLog]

theorem execLogbookRelay_kept (n : NodeNo) (kind : Nat) (data : List Byte) (s : State) :
    NextKeeps s (execLogbookRelay n kind data s) := by simp [execLogbookRelay]

theorem execFlashProgram_kept (r : FlashRegion) (firstOk secondOk : Bool) (s : State) :
    NextKeeps s (execFlashProgram r firstOk secondOk s) := by
  unfold execFlashProgram
  split <;> simp

@[simp] theorem State.setCraft_kept (f : Craft → Craft) (s : State) : (s.setCraft f).kept = s.kept := by
  simp [State.setCraft]

@[simp] theorem State.uartDrop_kept (k : Nat) (s : State) : (s.uartDrop k).kept = s.kept := by simp [State.uartDrop]

theorem execUartCharacter_kept (c : Byte) (err : CharError) (s : State) : NextKeeps s (execUartCharacter c err s) := by
  simp only [execUartCharacter]
  split
  · simp
  · split <;> simp

@[simp] theorem State.shellSend_kept (opc : Nat) (p : List Byte) (s : State) : (s.shellSend opc p).kept = s.kept := by
  simp [State.shellSend]

@[simp] theorem State.shellHello_kept (s : State) : s.shellHello.kept = s.kept := by simp [State.shellHello]
theorem execLongBreak_kept (s : State) : NextKeeps s (execLongBreak s) := by simp [execLongBreak]
theorem execShortBreak_kept (s : State) : NextKeeps s (execShortBreak s) := by simp [execShortBreak]

@[simp] theorem State.storeCraft_kept (f : Craft → Craft) (s : State) : (s.storeCraft f).kept = s.kept := by
  simp [State.storeCraft]

@[simp] theorem State.trialGood_kept (s : State) : s.trialGood.kept = s.kept := by simp [State.trialGood]

theorem execUartTrialTimeout_kept (s : State) : NextKeeps s (execUartTrialTimeout s) := by
  unfold execUartTrialTimeout
  split <;> simp

@[simp] theorem State.say_kept (t : List Char) (s : State) : (s.say t).kept = s.kept := by simp [State.say]
@[simp] theorem State.errArg_kept (f : String) (s : State) : (s.errArg f).kept = s.kept := by simp [State.errArg]

@[simp] theorem State.lineUart_kept (baud bits parity stop fifo rx tx : Nat) (s : State) :
    (s.lineUart baud bits parity stop fifo rx tx).kept = s.kept := by
  unfold State.lineUart
  split <;> simp

@[simp] theorem State.lineDdm_kept (lane : Nat) (s : State) : (s.lineDdm lane).kept = s.kept := by simp [State.lineDdm]

@[simp] theorem State.lineGpio_kept (pin func level debounce : Nat) (s : State) :
    (s.lineGpio pin func level debounce).kept = s.kept := by simp [State.lineGpio]

@[simp] theorem State.lineArrives_kept (s : State) : s.lineArrives.kept = s.kept := by simp [State.lineArrives]

theorem State.lineLocal_kept {ws : List (List Char)} {s t : State} (h : s.lineLocal ws = some t) : t.kept = s.kept := by
  cases ws with
  | nil => cases h
  | cons w ws =>
    simp only [State.lineLocal] at h
    split_ifs at h <;> cases h
    all_goals
      split
      · simp
      · split
        · simp
        · split <;> simp

@[simp] theorem State.runLine_kept (line : List Char) (s : State) : (s.runLine line).kept = s.kept := by
  simp only [State.runLine]
  split
  next t h => simp [State.lineLocal_kept h]
  · split <;> simp

theorem execShellLine_kept (line : List Char) (s : State) : NextKeeps s (execShellLine line s) := by
  simp [execShellLine]

theorem execShellRaw_kept (opc : BitVec 16) (payload : List Byte) (s : State) :
    NextKeeps s (execShellRaw opc payload s) := by simp [execShellRaw]

theorem execShellUart_kept (baud bits parity stop fifo rxtrig txtrig : Nat) (s : State) :
    NextKeeps s (execShellUart baud bits parity stop fifo rxtrig txtrig s) := by simp [execShellUart]

theorem execShellDdm_kept (lane : Nat) (s : State) : NextKeeps s (execShellDdm lane s) := by simp [execShellDdm]

theorem execShellGpio_kept (pin func level debounce : Nat) (s : State) :
    NextKeeps s (execShellGpio pin func level debounce s) := by simp [execShellGpio]

@[simp] theorem State.shellChar_kept (b : Byte) (s : State) : (s.shellChar b).kept = s.kept := by
  simp only [State.shellChar]
  split
  · split <;> simp
  · simp

@[simp] theorem State.serveRx_kept (l : List Byte) (s : State) : (s.serveRx l).kept = s.kept := by
  induction l generalizing s with
  | nil => rfl
  | cons x t ih => simp [State.serveRx, ih]

theorem execUartRxService_kept (s : State) : NextKeeps s (execUartRxService s) := by simp [execUartRxService]

@[simp] theorem State.ddmFlags_kept (l : Nat) (old new : List Byte) (s : State) :
    (s.ddmFlags l old new).kept = s.kept := by simp [State.ddmFlags]

@[simp] theorem State.modI2c_kept (m : Nat) (f : I2c → I2c) (s : State) : (s.modI2c m f).kept = s.kept := by
  simp [State.modI2c]

@[simp] theorem State.i2cSelect_kept (m : Nat) (seg : Bool) (s : State) : (s.i2cSelect m seg).kept = s.kept := by
  simp [State.i2cSelect]

@[simp] theorem State.i2cStop_kept (m : Nat) (s : State) : (s.i2cStop m).kept = s.kept := by simp [State.i2cStop]

theorem execDdmRead_kept (l : Lane) (pageA2 : Bool) (data : Option (List Byte)) (s : State) :
    NextKeeps s (execDdmRead l pageA2 data s) := by
  unfold execDdmRead
  split <;> simp

theorem execCfI2cStuck_kept (m : Fin 2) (stillLow : Bool) (s : State) : NextKeeps s (execCfI2cStuck m stillLow s) := by
  simp [execCfI2cStuck]

theorem execI2cStretchTimeout_kept (m : Fin 2) (s : State) : NextKeeps s (execI2cStretchTimeout m s) := by
  simp [execI2cStretchTimeout]

theorem execGpioEdge_kept (pin : Fin 16) (level : Bool) (s : State) : NextKeeps s (execGpioEdge pin level s) := by
  simp [execGpioEdge]

theorem execStatusLedBlink_kept (s : State) : NextKeeps s (execStatusLedBlink s) := by simp [execStatusLedBlink]

/-! ### The operations of Sys2Proof/Machine/Masked -/

@[simp] theorem State.doJob_kept (e : Nat) (p : MaskPart) (i : Nat) (jobs : List MaskPart) (s : State) :
    (s.doJob e p i jobs).kept = s.kept := by simp [State.doJob]

@[simp] theorem State.maskStall_kept (clocks : Nat) (s : State) : (s.maskStall clocks).kept = s.kept := by
  simp [State.maskStall]

theorem execMaskedJob_kept (turn : MaskTurn) (stallClocks : Nat) (s : State) :
    NextKeeps s (execMaskedJob turn stallClocks s) := by
  simp only [execMaskedJob]
  split <;> simp

/-! ### The operations of Sys2Proof/Machine/Relay -/

@[simp] theorem State.mirror_kept (code anchor : Nat) (s : State) : (s.mirror code anchor).kept = s.kept := by
  simp only [State.mirror]
  split
  · simp
  · split <;> simp

@[simp] theorem State.takeTide_kept (nonce : BitVec 64) (frame : Nat) (s : State) :
    (s.takeTide nonce frame).kept = s.kept := by simp [State.takeTide]

@[simp] theorem State.onSync_kept (nonce : BitVec 64) (frame code anchor : Nat) (s : State) :
    (s.onSync nonce frame code anchor).kept = s.kept := by simp [State.onSync]

theorem execTideSync_kept (nonce : BitVec 64) (frame : Nat) (state : Fin 4) (anchor : Lane) (s : State) :
    NextKeeps s (execTideSync nonce frame state anchor s) := by simp [execTideSync]

@[simp] theorem State.onHello_kept (src : Nat) (nonce : BitVec 64) (s : State) :
    (s.onHello src nonce).kept = s.kept := by simp [State.onHello]

@[simp] theorem State.keepPart_kept (m : Nat) (x : StagedCmd) (s : State) : (s.keepPart m x).kept = s.kept := by
  simp [State.keepPart]

@[simp] theorem State.onRelayCmd_kept (opc : Nat) (seq : BitVec 16) (mbx : MbxNo) (payload : List Byte) (s : State) :
    (s.onRelayCmd opc seq mbx payload).kept = s.kept := by
  simp only [State.onRelayCmd]
  split
  · simp
  · split
    · split <;> simp
    · simp

theorem execRelayCmd_kept (opc : Nat) (seq : BitVec 16) (mbx : MbxNo) (payload : List Byte) (s : State) :
    NextKeeps s (execRelayCmd opc seq mbx payload s) := by simp [execRelayCmd]

@[simp] theorem State.onCommitPart_kept (frame : Nat) (s : State) : (s.onCommitPart frame).kept = s.kept := by
  unfold State.onCommitPart
  split <;> simp

@[simp] theorem State.relayAnswer_kept (n opc : Nat) (q : Req) (st : Status) (payload : List Byte) (s : State) :
    (s.relayAnswer n opc q st payload).kept = s.kept := by simp [State.relayAnswer]

@[simp] theorem State.relayComplete_kept (n m seq : Nat) (st : Status) (payload : List Byte) (s : State) :
    (s.relayComplete n m seq st payload).kept = s.kept := by simp [State.relayComplete]

@[simp] theorem State.onRelayRsp_kept (n opc : Nat) (seq : BitVec 16) (mbx : MbxNo) (status : Nat)
    (payload : List Byte) (s : State) : (s.onRelayRsp n opc seq mbx status payload).kept = s.kept := by
  simp only [State.onRelayRsp]
  split
  · simp
  · split <;> simp

theorem execRelayRsp_kept (n : NodeNo) (opc : Nat) (seq : BitVec 16) (mbx : MbxNo) (status : Nat)
    (payload : List Byte) (s : State) : NextKeeps s (execRelayRsp n opc seq mbx status payload s) := by
  simp [execRelayRsp]

@[simp] theorem State.raiseFar_kept (n src tide obj detail : Nat) (s : State) :
    (s.raiseFar n src tide obj detail).kept = s.kept := by simp [State.raiseFar]

@[simp] theorem State.onReport_kept (n : Nat) (r : WorkerReport) (s : State) : (s.onReport n r).kept = s.kept := by
  simp only [State.onReport]
  split
  · simp
  · split <;> simp

theorem execEvent_kept (n : NodeNo) (r : WorkerReport) (s : State) : NextKeeps s (execEvent n r s) := by
  simp [execEvent]

@[simp] theorem State.bootFromRing_kept (s : State) : s.bootFromRing.kept = s.kept := by simp [State.bootFromRing]
@[simp] theorem State.imageGood_kept (s : State) : s.imageGood.kept = s.kept := by simp [State.imageGood]
@[simp] theorem State.imageBad_kept (s : State) : s.imageBad.kept = s.kept := by simp [State.imageBad]

theorem execRingBootDone_kept (node : NodeNo) (s : State) : NextKeeps s (execRingBootDone node s) := by
  simp [execRingBootDone]

@[simp] theorem State.forwardDcc_kept (d ttl : Nat) (b : List Byte) (s : State) :
    (s.forwardDcc d ttl b).kept = s.kept := by simp [State.forwardDcc]

@[simp] theorem State.resetAcked_kept (n : Nat) (s : State) : (s.resetAcked n).kept = s.kept := by
  simp only [State.resetAcked]
  rw [State.kept_ite, State.nodeLeave_kept, ite_self]
  refine State.kept_foldl (fun t m => ?_) _ s
  split <;> simp

@[simp] theorem State.ackFrom_kept (n ack : Nat) (s : State) : (s.ackFrom n ack).kept = s.kept := by
  simp [State.ackFrom]

@[simp] theorem State.sendAck_kept (n : Nat) (s : State) : (s.sendAck n).kept = s.kept := by simp [State.sendAck]

@[simp] theorem State.onQth_kept (n : Nat) (entry : W32) (s : State) : (s.onQth n entry).kept = s.kept := by
  simp [State.onQth]

@[simp] theorem State.onCnt_kept (n : Nat) (entry : W32) (s : State) : (s.onCnt n entry).kept = s.kept := by
  simp [State.onCnt]

@[simp] theorem State.deliverDcc_kept (d n : Nat) (body : DccBody) (s : State) :
    (s.deliverDcc d n body).kept = s.kept := by
  unfold State.deliverDcc
  split <;> simp

@[simp] theorem State.inOrder_kept (d : Nat) (m : DccMsg) (s : State) : (s.inOrder d m).kept = s.kept := by
  simp [State.inOrder]

@[simp] theorem State.dccOk_kept (d : Nat) (m : DccMsg) (s : State) : (s.dccOk d m).kept = s.kept := by
  simp [State.dccOk]

@[simp] theorem State.takeDcc_kept (d : Nat) (h : DccHead) (b : List Byte) (s : State) :
    (s.takeDcc d h b).kept = s.kept := by
  simp only [State.takeDcc]
  split
  · simp
  · split <;> simp

theorem execImgBlock_kept (side : Side) (node : NodeNo) (bytes : List Byte) (s : State) :
    NextKeeps s (execImgBlock side node bytes s) := by simp [execImgBlock]

@[simp] theorem State.dccIn_kept (d : Nat) (b : List Byte) (s : State) : (s.dccIn d b).kept = s.kept := by
  unfold State.dccIn
  split <;> simp

theorem execDccMessageReceive_kept (side : Side) (message mac : List Byte) (s : State) :
    NextKeeps s (execDccMessageReceive side message mac s) := by simp [execDccMessageReceive]

theorem execRingFrameReceive_kept (side : Side) (lane : Fin 2) (wire : List Byte) (s : State) :
    NextKeeps s (execRingFrameReceive side lane wire s) := by simp [execRingFrameReceive]

/-! ### exec and step -/

/-- No command touches the queue of the commands that wait or the fuses. -/
theorem exec_kept (i : Instr) (s : State) : NextKeeps s (exec i s) := by
  cases i with
  | powerOnReset => exact execPowerOnReset_kept s
  | resetNAssert => exact execResetNAssert_kept s
  | noValidBankRetry => exact execNoValidBankRetry_kept s
  | hostCommandReset value => exact execHostCommandReset_kept value s
  | pciePerst released => exact execPciePerst_kept released s
  | watchdogRestart => exact execWatchdogRestart_kept s
  | watchdogBite => exact execWatchdogBite_kept s
  | watchdogCountClear => exact execWatchdogCountClear_kept s
  | warmCpRestart => exact execWarmCpRestart_kept s
  | warmRestartDone => exact execWarmRestartDone_kept s
  | partialReset d => exact execPartialReset_kept d s
  | railPowerGood k => exact execRailPowerGood_kept k s
  | railPgWindowExpiry k => exact execRailPgWindowExpiry_kept k s
  | powerUpRetry => exact execPowerUpRetry_kept s
  | railPowerDownStep pgFell => exact execRailPowerDownStep_kept pgFell s
  | railPgLost k => exact execRailPgLost_kept k s
  | railFailInPowerDown k => exact execRailFailInPowerDown_kept k s
  | oscAccepted => exact execOscAccepted_kept s
  | oscStartTimeout => exact execOscStartTimeout_kept s
  | referenceFail => exact execReferenceFail_kept s
  | rootLock => exact execRootLock_kept s
  | rootUnlock => exact execRootUnlock_kept s
  | clockHoldRelease lane => exact execClockHoldRelease_kept lane s
  | aonRcCalibration => exact execAonRcCalibration_kept s
  | clkMuxSwitchRequest m toB => exact execClkMuxSwitchRequest_kept m toB s
  | clkDeadSource m newSource => exact execClkDeadSource_kept m newSource s
  | clkGateStart bit => exact execClkGateStart_kept bit s
  | clkRefclkLoss eth => exact execClkRefclkLoss_kept eth s
  | clkSteerLimit => exact execClkSteerLimit_kept s
  | coreDividerChange => exact execCoreDividerChange_kept s
  | tideAnchored count => exact execTideAnchored_kept count s
  | tideHoldover => exact execTideHoldover_kept s
  | tideReacquireDecision frame tick => exact execTideReacquireDecision_kept frame tick s
  | tideSlewDone => exact execTideSlewDone_kept s
  | tideStep count => exact execTideStep_kept count s
  | tideAbandonPending => exact execTideAbandonPending_kept s
  | tideAnchorMove => exact execTideAnchorMove_kept s
  | tideAnchorReturn => exact execTideAnchorReturn_kept s
  | tideHoldLimit => exact execTideHoldLimit_kept s
  | tideSync nonce frame state anchor => exact execTideSync_kept nonce frame state anchor s
  | tsReq node side rtt => exact execTsReq_kept node side rtt s
  | workerRemeasure node rttEast rttWest => exact execWorkerRemeasure_kept node rttEast rttWest s
  | rangingReplyTimeout node side => exact execRangingReplyTimeout_kept node side s
  | rangingRetry node => exact execRangingRetry_kept node s
  | workerStepAnnounce count => exact execWorkerStepAnnounce_kept count s
  | tideAlarm k => exact execTideAlarm_kept k s
  | tidePulseRise => exact execTidePulseRise_kept s
  | tidePulseFall => exact execTidePulseFall_kept s
  | tideLoRead => exact execTideLoRead_kept s
  | downstreamFrame f => exact execDownstreamFrame_kept f s
  | lnLos l declared => exact execLnLos_kept l declared s
  | lnLods l => exact execLnLods_kept l s
  | burstProfile l h index preamble delimiter flags => exact execBurstProfile_kept l h index preamble delimiter flags s
  | assignOnuId l h serial onuId => exact execAssignOnuId_kept l h serial onuId s
  | rangingTime l h absolute negative bits => exact execRangingTime_kept l h absolute negative bits s
  | deactivateOnuId l h => exact execDeactivateOnuId_kept l h s
  | disableSerialNumber l h enable serial => exact execDisableSerialNumber_kept l h enable serial s
  | requestRegistration l h => exact execRequestRegistration_kept l h s
  | assignAllocId l h allocId remove => exact execAssignAllocId_kept l h allocId remove s
  | keyControl l h generate bank => exact execKeyControl_kept l h generate bank s
  | sleepAllow l h => exact execSleepAllow_kept l h s
  | ploamUnknownType l h code ackRequired => exact execPloamUnknownType_kept l h code ackRequired s
  | ploamDuplicate l h msg => exact execPloamDuplicate_kept l h msg s
  | ploamMicFail l => exact execPloamMicFail_kept l s
  | to1Expiry l => exact execTo1Expiry_kept l s
  | to2Expiry l => exact execTo2Expiry_kept l s
  | omciDownstream l msg mic => exact execOmciDownstream_kept l msg mic s
  | sdSfWindow l codewords corrected uncorrectable => exact execSdSfWindow_kept l codewords corrected uncorrectable s
  | rssiTrig l => exact execRssiTrig_kept l s
  | lnRogue l => exact execLnRogue_kept l s
  | rogueGuardRelease l => exact execRogueGuardRelease_kept l s
  | allocationStructure l a => exact execAllocationStructure_kept l a s
  | runAheadStage a => exact execRunAheadStage_kept a s
  | stagedCellTimeout a => exact execStagedCellTimeout_kept a s
  | cvRunaheadSuspend a => exact execCvRunaheadSuspend_kept a s
  | runaheadResume a => exact execRunaheadResume_kept a s
  | cvNotReady l => exact execCvNotReady_kept l s
  | burstLaunch r => exact execBurstLaunch_kept r s
  | reseqWindowExpiry g => exact execReseqWindowExpiry_kept g s
  | blSkew l count anchorCount => exact execBlSkew_kept l count anchorCount s
  | blLaneJoin l => exact execBlLaneJoin_kept l s
  | bondingHoldReset l => exact execBondingHoldReset_kept l s
  | bondingControlMessage l msg => exact execBondingControlMessage_kept l msg s
  | bondingControlResend g msgSeq => exact execBondingControlResend_kept g msgSeq s
  | groupState g => exact execGroupState_kept g s
  | packetEnqueue q r => exact execPacketEnqueue_kept q r s
  | qthRelay node queue frame => exact execQthRelay_kept node queue frame s
  | qthFifoDataRead => exact execQthFifoDataRead_kept s
  | cntFifoDataRead => exact execCntFifoDataRead_kept s
  | cntHalf index => exact execCntHalf_kept index s
  | rolloverRelay node index frame => exact execRolloverRelay_kept node index frame s
  | flushAct q => exact execFlushAct_kept q s
  | descriptorEccError q position => exact execDescriptorEccError_kept q position s
  | ledgerAudit => exact execLedgerAudit_kept s
  | ledgerRecountDone => exact execLedgerRecountDone_kept s
  | sweepBorrow cells => exact execSweepBorrow_kept cells s
  | sweepReturn cells r => exact execSweepReturn_kept cells r s
  | calendarRelease q => exact execCalendarRelease_kept q s
  | calendarUnpark => exact execCalendarUnpark_kept s
  | gateSwap p => exact execGateSwap_kept p s
  | gateChange p => exact execGateChange_kept p s
  | egressStart p => exact execEgressStart_kept p s
  | mcastReplicate r => exact execMcastReplicate_kept r s
  | frameReceive p bytes last => exact execFrameReceive_kept p bytes last s
  | pauseExpiry p c => exact execPauseExpiry_kept p c s
  | pauseTx p => exact execPauseTx_kept p s
  | frameTransmit r => exact execFrameTransmit_kept r s
  | spLinkUp p learned => exact execSpLinkUp_kept p learned s
  | spLinkDown p => exact execSpLinkDown_kept p s
  | spFault p code learned => exact execSpFault_kept p code learned s
  | phyPoll p answer => exact execPhyPoll_kept p answer s
  | rclkLoss p => exact execRclkLoss_kept p s
  | rclkReturn p => exact execRclkReturn_kept p s
  | slipBufferRead p => exact execSlipBufferRead_kept p s
  | cesPacketise p => exact execCesPacketise_kept p s
  | cesPacketArrival p => exact execCesPacketArrival_kept p s
  | playoutStartInstant r => exact execPlayoutStartInstant_kept r s
  | crc4SearchTimeout p => exact execCrc4SearchTimeout_kept p s
  | e1Defect p d declared => exact execE1Defect_kept p d declared s
  | cyEntropyFail => exact execCyEntropyFail_kept s
  | entropyRetest samples => exact execEntropyRetest_kept samples s
  | cyFallbackNonce => exact execCyFallbackNonce_kept s
  | drbgReseed => exact execDrbgReseed_kept s
  | vaultRerandomise => exact execVaultRerandomise_kept s
  | keyZeroise slot bank => exact execKeyZeroise_kept slot bank s
  | maskedJob turn stallClocks => exact execMaskedJob_kept turn stallClocks s
  | ringFrameReceive side lane wire => exact execRingFrameReceive_kept side lane wire s
  | rgPtrJump side lane value => exact execRgPtrJump_kept side lane value s
  | ringFrameTransmit r => exact execRingFrameTransmit_kept r s
  | ringDefect side d => exact execRingDefect_kept side d s
  | ringWrap side => exact execRingWrap_kept side s
  | ringDefectClear side d => exact execRingDefectClear_kept side d s
  | wtrExpiry side => exact execWtrExpiry_kept side s
  | dccMessageReceive side message mac => exact execDccMessageReceive_kept side message mac s
  | dccRetransmit peer msgSeq => exact execDccRetransmit_kept peer msgSeq s
  | hello => exact execHello_kept s
  | workerGoneTimeout n => exact execWorkerGoneTimeout_kept n s
  | managerLost => exact execManagerLost_kept s
  | joinReq r => exact execJoinReq_kept r s
  | joinCollectionEnd => exact execJoinCollectionEnd_kept s
  | joinAccept number a => exact execJoinAccept_kept number a s
  | joinRefuse reason => exact execJoinRefuse_kept reason s
  | joinAttemptStart => exact execJoinAttemptStart_kept s
  | joinAttemptTimeout => exact execJoinAttemptTimeout_kept s
  | joinHoldoffExpiry => exact execJoinHoldoffExpiry_kept s
  | joinComplete n => exact execJoinComplete_kept n s
  | imgReq n => exact execImgReq_kept n s
  | imgBlock side node bytes => exact execImgBlock_kept side node bytes s
  | ringBootDone node => exact execRingBootDone_kept node s
  | creditReinit src cclass sent => exact execCreditReinit_kept src cclass sent s
  | creditReinitAck dst cclass consumed => exact execCreditReinitAck_kept dst cclass consumed s
  | leave n => exact execLeave_kept n s
  | relayCmd opc seq mbx payload => exact execRelayCmd_kept opc seq mbx payload s
  | relayRsp n opc seq mbx status payload => exact execRelayRsp_kept n opc seq mbx status payload s
  | event n r => exact execEvent_kept n r s
  | bypassRelease => exact execBypassRelease_kept s
  | mbxDbReqWrite m value => exact execMbxDbReqWrite_kept m value s
  | mbxDbRplWrite m value => exact execMbxDbRplWrite_kept m value s
  | mailboxRequest => exact execMailboxRequest_kept s
  | txnIdleTimeout m => exact execTxnIdleTimeout_kept m s
  | commitSwitchOver => exact execCommitSwitchOver_kept s
  | admissionRecheck => exact execAdmissionRecheck_kept s
  | evtStatusWrite g value => exact execEvtStatusWrite_kept g value s
  | evtEnableWrite addr value => exact execEvtEnableWrite_kept addr value s
  | vectorUnmask v => exact execVectorUnmask_kept v s
  | spiWrite addr words cutShort => exact execSpiWrite_kept addr words cutShort s
  | spiRead addr words => exact execSpiRead_kept addr words s
  | registerWrite addr value byteEnables => exact execRegisterWrite_kept addr value byteEnables s
  | mbxHello q => exact execMbxHello_kept q s
  | opAbort q => exact execOpAbort_kept q s
  | identGet q => exact execIdentGet_kept q s
  | statusGet q => exact execStatusGet_kept q s
  | berthSet q => exact execBerthSet_kept q s
  | txnOpen q => exact execTxnOpen_kept q s
  | txnCommit q => exact execTxnCommit_kept q s
  | txnAbort q => exact execTxnAbort_kept q s
  | txnStatus q => exact execTxnStatus_kept q s
  | lineModeSet q => exact execLineModeSet_kept q s
  | lineLaneSet q => exact execLineLaneSet_kept q s
  | lineStatusGet q => exact execLineStatusGet_kept q s
  | ringStatusGet q => exact execRingStatusGet_kept q s
  | ringSet q => exact execRingSet_kept q s
  | ringProtectCmd q => exact execRingProtectCmd_kept q s
  | ringRenumber q => exact execRingRenumber_kept q s
  | nodeReset q => exact execNodeReset_kept q s
  | portSet q => exact execPortSet_kept q s
  | portStatusGet q => exact execPortStatusGet_kept q s
  | mdioAccess q => exact execMdioAccess_kept q s
  | queueSet q => exact execQueueSet_kept q s
  | queueFlush q => exact execQueueFlush_kept q s
  | schedSet q => exact execSchedSet_kept q s
  | shaperSet q => exact execShaperSet_kept q s
  | gateListSet q => exact execGateListSet_kept q s
  | policerSet q => exact execPolicerSet_kept q s
  | classifierSet q => exact execClassifierSet_kept q s
  | allocMapSet q => exact execAllocMapSet_kept q s
  | xgemMapSet q => exact execXgemMapSet_kept q s
  | mcastSet q => exact execMcastSet_kept q s
  | poolReserveSet q => exact execPoolReserveSet_kept q s
  | e1Set q => exact execE1Set_kept q s
  | cesSet q => exact execCesSet_kept q s
  | keyLoad q => exact execKeyLoad_kept q s
  | keyErase q => exact execKeyErase_kept q s
  | cntRead q => exact execCntRead_kept q s
  | cntSnapshot q => exact execCntSnapshot_kept q s
  | snapshotFillDone => exact execSnapshotFillDone_kept s
  | pwrStateSet q => exact execPwrStateSet_kept q s
  | lswEnable q node switch window => exact execLswEnable_kept q node switch window s
  | lswDisable q node switch window => exact execLswDisable_kept q node switch window s
  | lswRearm q node switch window => exact execLswRearm_kept q node switch window s
  | cisternSet q => exact execCisternSet_kept q s
  | fwWriteBegin q => exact execFwWriteBegin_kept q s
  | fwWriteBlock q => exact execFwWriteBlock_kept q s
  | fwWriteEnd q => exact execFwWriteEnd_kept q s
  | fwVerifyDone flashOk => exact execFwVerifyDone_kept flashOk s
  | fwActivate q => exact execFwActivate_kept q s
  | fwConfirm q => exact execFwConfirm_kept q s
  | confirmWindowExpiry => exact execConfirmWindowExpiry_kept s
  | workerImageUpdate n => exact execWorkerImageUpdate_kept n s
  | logbookRead q => exact execLogbookRead_kept q s
  | diagSelftest q => exact execDiagSelftest_kept q s
  | selftestDone tested retired failedUnits durationMs =>
    exact execSelftestDone_kept tested retired failedUnits durationMs s
  | diagLoopback q => exact execDiagLoopback_kept q s
  | loopbackExpiry object => exact execLoopbackExpiry_kept object s
  | diagPrbs q => exact execDiagPrbs_kept q s
  | prbsDone object bits errors syncLosses => exact execPrbsDone_kept object bits errors syncLosses s
  | diagMaintenance q => exact execDiagMaintenance_kept q s
  | omciSend q => exact execOmciSend_kept q s
  | evtConfig q => exact execEvtConfig_kept q s
  | evtAck q => exact execEvtAck_kept q s
  | evtFetch q => exact execEvtFetch_kept q s
  | tideAlarmSet q => exact execTideAlarmSet_kept q s
  | tidePulseSet q => exact execTidePulseSet_kept q s
  | tideSet q => exact execTideSet_kept q s
  | mooredEntry => exact execMooredEntry_kept s
  | drainEnd => exact execDrainEnd_kept s
  | cpWaitHalt irqPending => exact execCpWaitHalt_kept irqPending s
  | beachedEntry => exact execBeachedEntry_kept s
  | pwWake cause => exact execPwWake_kept cause s
  | thermalSample t0 t1 t2 t3 => exact execThermalSample_kept t0 t1 t2 t3 s
  | thermalStepExit step => exact execThermalStepExit_kept step s
  | cisternMonitorSample vinBall storeBall => exact execCisternMonitorSample_kept vinBall storeBall s
  | probeChargeStart => exact execProbeChargeStart_kept s
  | probeChargeEnd => exact execProbeChargeEnd_kept s
  | vinFail => exact execVinFail_kept s
  | vinFailShedLoads => exact execVinFailShedLoads_kept s
  | csVinReturn => exact execCsVinReturn_kept s
  | csMgrShed => exact execCsMgrShed_kept s
  | workerShedRestore => exact execWorkerShedRestore_kept s
  | lswOn k => exact execLswOn_kept k s
  | lswFail k cause => exact execLswFail_kept k cause s
  | lswRetryExpiry k => exact execLswRetryExpiry_kept k s
  | lswFailCountClear k => exact execLswFailCountClear_kept k s
  | lswPres k => exact execLswPres_kept k s
  | lswReinsertion k => exact execLswReinsertion_kept k s
  | logbookFlush => exact execLogbookFlush_kept s
  | logbookRelay n kind data => exact execLogbookRelay_kept n kind data s
  | flashProgram r firstOk secondOk => exact execFlashProgram_kept r firstOk secondOk s
  | uartCharacter c err => exact execUartCharacter_kept c err s
  | uartRxService => exact execUartRxService_kept s
  | longBreak => exact execLongBreak_kept s
  | shortBreak => exact execShortBreak_kept s
  | shellLine line => exact execShellLine_kept line s
  | shellRaw opc payload => exact execShellRaw_kept opc payload s
  | shellUart baud bits parity stop fifo rxtrig txtrig =>
    exact execShellUart_kept baud bits parity stop fifo rxtrig txtrig s
  | uartTrialTimeout => exact execUartTrialTimeout_kept s
  | shellDdm lane => exact execShellDdm_kept lane s
  | shellGpio pin func level debounce => exact execShellGpio_kept pin func level debounce s
  | ddmRead l pageA2 data => exact execDdmRead_kept l pageA2 data s
  | cfI2cStuck m stillLow => exact execCfI2cStuck_kept m stillLow s
  | i2cStretchTimeout m => exact execI2cStretchTimeout_kept m s
  | gpioEdge pin level => exact execGpioEdge_kept pin level s
  | statusLedBlink => exact execStatusLedBlink_kept s
  | slipBufferWrite p frame => exact execSlipBufferWrite_kept p frame s
  | hostPcieLink up => exact execHostPcieLink_kept up s
  | refclkReturn eth => exact execRefclkReturn_kept eth s
  | heartbeat => exact execHeartbeat_kept s
  | joinHoldoffReset n => exact execJoinHoldoffReset_kept n s
  | fwEraseDone => exact execFwEraseDone_kept s
  | resetNRelease => exact execResetNRelease_kept s
  | powerOnResetAssert => exact execPowerOnResetAssert_kept s

@[simp] theorem coreClock_kept (s : State) : (coreClock s).kept = s.kept := by
  simp [coreClock]

/-- A step takes the front of the queue off it and leaves the fuses. -/
theorem step_kept {s t : State} (h : step s = .next t) : t.kept = (s.pending.tail, s.fuses) := by
  unfold step at h
  split at h
  next hq =>
    cases h
    rw [coreClock_kept, State.kept, hq]
    rfl
  next c rest hq =>
    rw [exec_kept c _ t h, hq]
    rfl

theorem step_fuses {s t : State} (h : step s = .next t) : t.fuses = s.fuses := congrArg Prod.snd (step_kept h)

/-! ### The identification registers -/

theorem State.reg_idPart (s : State) :
    s.reg 0x0 = (if s.fuses.1 then 0x4410 else 0x4416) * 2 ^ 16 + 0x1F5E := rfl

theorem State.reg_idStep (s : State) : s.reg 0x4 = 0x21 := rfl

theorem State.reg_idCap (s : State) :
    s.reg 0x8 = 64 * 2 ^ 24 + 32 * 2 ^ 16 + 15 * 2 ^ 8 + 4 * 2 ^ 4 + 2 + (if s.fuses.1 then 0 else 1) := by
  have h : s.reg 0x8 = s.idCap := rfl
  rw [h, State.idCap, State.fuses]
  cases s.start.part4410 <;> rfl

theorem State.reg_idSnVendor (s : State) : s.reg 0xC = 0x41584E56 := rfl

theorem State.reg_idSnNum (s : State) : s.reg 0x10 = s.fuses.2.toNat / 16 * 16 := rfl

/-- Settles O4: the five registers read as functions of the fuses, and every step keeps the fuses. -/
theorem identificationNeverChanges : Obligations.IdentificationNeverChanges := by
  unfold Obligations.IdentificationNeverChanges
  refine ⟨fun s => ⟨s.reg_idPart, s.reg_idStep, s.reg_idCap, s.reg_idSnVendor, s.reg_idSnNum⟩, fun s t h => ?_⟩
  have hf := step_fuses h
  refine ⟨?_, ?_, ?_, ?_, ?_⟩
  · rw [State.reg_idPart, State.reg_idPart, hf]
  · rw [State.reg_idStep, State.reg_idStep]
  · rw [State.reg_idCap, State.reg_idCap, hf]
  · rw [State.reg_idSnVendor, State.reg_idSnVendor]
  · rw [State.reg_idSnNum, State.reg_idSnNum, hf]

end Sys2Proof.Machine
end

section
/-!
# Host accesses to an open host interface

What an access of the host does while the interface answers at once (R111, R794), and the read of TIDE_LO (R69).
-/
namespace Sys2Proof.Machine

/-- An open host interface serves the access at once: neither MOORED nor BEACHED discards it (R794) and no root clock
hold delays it (R111). -/
theorem State.hostAccess_of_hostOpen {s : State} (h : s.hostOpen) (a : HostAccess) (f : State → State) :
    s.hostAccess a f = f s := by
  obtain ⟨hMoored, hBeached, hHold⟩ := h
  have hPowered : ¬(s.power.state = .moored ∨ s.power.state = .beached) := not_or.mpr ⟨hMoored, hBeached⟩
  rw [State.hostAccess, if_neg hPowered, hHold, if_neg Bool.false_ne_true]

theorem exec_tideLoRead (s : State) :
    exec .tideLoRead s = .next (s.hostAccess (.read 0x200) State.readTideLo) := rfl

/-- Settles O13: the open interface serves the read at once, and the read latches the upper half. -/
theorem tideLoReadLatchesTheUpperHalf : Obligations.TideLoReadLatchesTheUpperHalf := by
  unfold Obligations.TideLoReadLatchesTheUpperHalf
  intro s hOpen
  rw [exec_tideLoRead, State.hostAccess_of_hostOpen hOpen, State.readTideLo]

end Sys2Proof.Machine
end

section
/-!
# The background sweep

How many cells a SWEEP_BORROW takes from FREE into TEST (R327).
-/
namespace Sys2Proof.Machine

/-- How many cells a SWEEP_BORROW that asks for `cells` takes: no more than the sweep may still hold, and no more than
FREE has beyond the unmet reservations and the 4,096 cells kept over them (R327). -/
def State.sweepCount (s : State) (cells : Nat) : Nat :=
  min cells (min (1024 - s.pool.borrowed) (s.pool.free - (s.unmet 4 + 4096)))

theorem exec_sweepBorrow (cells : Nat) (s : State) :
    exec (.sweepBorrow cells) s = .next { s with pool := { s.pool with
      free := s.pool.free - s.sweepCount cells
      test := s.pool.test + s.sweepCount cells
      borrowed := s.pool.borrowed + s.sweepCount cells } } := rfl

theorem State.sweepCount_le (s : State) (cells : Nat) : s.sweepCount cells ≤ cells :=
  Nat.min_le_left _ _

/-- A cell is taken only while FREE still exceeds the unmet reservations by more than 4,096, so the last one taken
leaves at least that many. -/
theorem State.sweepCount_leaves_reserve {s : State} {cells : Nat} (h : s.sweepCount cells ≠ 0) :
    s.unmet 4 + 4096 + s.sweepCount cells ≤ s.pool.free := by
  have hSpare : s.sweepCount cells ≤ s.pool.free - (s.unmet 4 + 4096) :=
    (Nat.min_le_right _ _).trans (Nat.min_le_right _ _)
  omega

theorem State.borrowed_add_sweepCount_le {s : State} {cells : Nat} (h : s.sweepCount cells ≠ 0) :
    s.pool.borrowed + s.sweepCount cells ≤ 1024 := by
  have hRoom : s.sweepCount cells ≤ 1024 - s.pool.borrowed :=
    (Nat.min_le_right _ _).trans (Nat.min_le_left _ _)
  omega

/-- A sweep that takes fewer cells than it asked for has stopped at one of the two limits. -/
theorem State.limit_of_sweepCount_lt {s : State} {cells : Nat} (h : s.sweepCount cells < cells) :
    1024 ≤ s.pool.borrowed + s.sweepCount cells ∨ s.pool.free ≤ s.unmet 4 + 4096 + s.sweepCount cells := by
  have hCount : s.sweepCount cells = min (1024 - s.pool.borrowed) (s.pool.free - (s.unmet 4 + 4096)) :=
    (min_choice _ _).resolve_left h.ne
  rcases min_choice (1024 - s.pool.borrowed) (s.pool.free - (s.unmet 4 + 4096)) with hRoom | hSpare
  · rw [hRoom] at hCount
    exact .inl (by omega)
  · rw [hSpare] at hCount
    exact .inr (by omega)

/-- Settles O33: the sweep takes `sweepCount` cells, which respects both limits and falls short of the request only at
one of them. -/
theorem sweepBorrowsOnlySpareCells : Obligations.SweepBorrowsOnlySpareCells := by
  unfold Obligations.SweepBorrowsOnlySpareCells
  intro s cells
  exact ⟨_, exec_sweepBorrow cells s, s.sweepCount cells, s.sweepCount_le cells, rfl,
    fun h => ⟨State.sweepCount_leaves_reserve h, State.borrowed_add_sweepCount_le h⟩, State.limit_of_sweepCount_lt⟩

end Sys2Proof.Machine
end

section
/-!
# What reporting leaves of the reply rings

RPL_CONS belongs to the host: delivering a message moves RPL_PROD alone (R629), and no event, counter or held message
that goes out moves the RPL_CONS of any mailbox.
-/
namespace Sys2Proof.Machine

/-- RPL_CONS of every mailbox. -/
def HostIf.rplCons (h : HostIf) (m : Nat) : Nat := (h.box m).rplCons

theorem HostIf.box_modBox_same (m : Nat) (f : Mbx → Mbx) (h : HostIf) : (h.modBox m f).box m = f (h.box m) :=
  Tab.get_modify_same ({} : Mbx) h.mbx m f

theorem HostIf.box_modBox_other {m j : Nat} (f : Mbx → Mbx) (h : HostIf) (hj : j ≠ m) :
    (h.modBox m f).box j = h.box j :=
  Tab.get_modify_other ({} : Mbx) h.mbx f hj

@[simp] theorem HostIf.modBox_rplCons (m : Nat) {f : Mbx → Mbx} (hf : ∀ b, (f b).rplCons = b.rplCons) (h : HostIf) :
    (h.modBox m f).rplCons = h.rplCons := by
  funext j
  by_cases hj : j = m
  · rw [hj, HostIf.rplCons, HostIf.box_modBox_same, hf, HostIf.rplCons]
  · rw [HostIf.rplCons, HostIf.box_modBox_other f h hj, HostIf.rplCons]

@[simp] theorem HostIf.post_rplCons (m : Nat) (msg : Msg) (h : HostIf) : (h.post m msg).1.rplCons = h.rplCons := by
  unfold HostIf.post
  split
  · rfl
  · exact HostIf.modBox_rplCons m (f := fun b => { b with rplProd := (b.rplProd + entries msg.payload.length) % 64 })
      (fun _ => rfl) h

@[simp] theorem HostIf.drain_rplCons (m : Nat) (l : List Msg) (h : HostIf) : (h.drain m l).1.rplCons = h.rplCons := by
  induction l generalizing h with
  | nil => rfl
  | cons x t ih =>
    rw [HostIf.drain]
    split
    · rw [ih, HostIf.post_rplCons]
    · rfl

@[simp] theorem HostIf.flushBox_rplCons (m : Nat) (h : HostIf) : (h.flushBox m).1.rplCons = h.rplCons := by
  simp only [HostIf.flushBox]
  split <;> simp

theorem queueEvt_rplCons (m : Nat) (p : List Byte) (a : HostIf × Tab Nat × List Emission × Bool) :
    (queueEvt m p a).1.rplCons = a.1.rplCons := by
  simp only [queueEvt]
  split <;> simp

@[simp] theorem queueEvts_rplCons (c : Cfg) (mgr : Bool) (node src tide obj detail : Nat) (h : HostIf) (cnt : Tab Nat) :
    (queueEvts c mgr node src tide obj detail h cnt).1.rplCons = h.rplCons := by
  refine List.foldlRecOn (motive := fun (a : HostIf × Tab Nat × List Emission × Bool) => a.1.rplCons = h.rplCons)
    _ _ rfl (fun a ha m _ => ?_)
  split
  · rw [queueEvt_rplCons, ha]
  · exact ha

theorem vectorStep_mbx (e0 e1 : Events) (force : Bool) (h : HostIf) (v : Nat) :
    (vectorStep e0 e1 force h v).1.mbx = h.mbx := by
  simp only [vectorStep]
  split <;> rfl

theorem vectorsStep_mbx (e0 e1 : Events) (force : Bool) (h : HostIf) : (vectorsStep e0 e1 force h).1.mbx = h.mbx := by
  refine List.foldlRecOn (motive := fun (a : HostIf × List Emission) => a.1.mbx = h.mbx) _ _ rfl (fun a ha v _ => ?_)
  rw [vectorStep_mbx, ha]

@[simp] theorem setEvtParts_rplCons (e : Events) (force : Bool) (h : HostIf) (r : Ring) (s : State) :
    (setEvtParts e force h r s).2.1.rplCons = h.rplCons := by
  have hMbx : (setEvtParts e force h r s).2.1.mbx = h.mbx := by
    simp only [setEvtParts]
    split <;> exact vectorsStep_mbx _ _ _ _
  funext j
  rw [HostIf.rplCons, HostIf.box, hMbx, HostIf.rplCons, HostIf.box]

@[simp] theorem State.raise_rplCons (src obj detail : Nat) (s : State) :
    (s.raise src obj detail).host.rplCons = s.host.rplCons := by
  simp [State.raise, raiseParts]

@[simp] theorem State.postHalf_rplCons (w : W32) (o : Nat) (s : State) :
    (s.postHalf w o).host.rplCons = s.host.rplCons := by
  simp only [State.postHalf]
  split
  · split <;> simp
  · simp

@[simp] theorem State.inc_rplCons (i : Nat) (s : State) : (s.inc i).host.rplCons = s.host.rplCons := by
  simp only [State.inc, State.count]
  split <;> simp

@[simp] theorem State.deliverOmci_rplCons (n : Nat) (s : State) : (s.deliverOmci n).host.rplCons = s.host.rplCons := by
  induction n generalizing s with
  | zero => rfl
  | succ n ih =>
    simp only [State.deliverOmci]
    split
    · rfl
    · split
      · rfl
      · simp [ih]

@[simp] theorem State.deliver_rplCons (m : Nat) (s : State) : (s.deliver m).host.rplCons = s.host.rplCons := by
  have hRaise : ∀ (c : Prop) [Decidable c] (t : State),
      (if c then t else t.raise 576 0 0).host.rplCons = t.host.rplCons := by
    intro c _ t
    split <;> simp
  simp only [State.deliver]
  split <;> simp [State.flushOmci, hRaise]

/-! ### The frame of a delivery -/

/-- `t` differs from `s` at most in what reporting changes and in the OMCI messages that the line holds. -/
def ReportsOrLine (s t : State) : Prop :=
  ∃ x e h r l c o, t = { s with line := x, evt := e, host := h, ring := r, log := l, cnt := c, out := o }

theorem Reports.orLine {s t : State} (h : Reports s t) : ReportsOrLine s t := by
  obtain ⟨_, _, _, _, _, _, rfl⟩ := h
  exact ⟨_, _, _, _, _, _, _, rfl⟩

theorem ReportsOrLine.trans {s t u : State} (h : ReportsOrLine s t) (k : ReportsOrLine t u) : ReportsOrLine s u := by
  obtain ⟨_, _, _, _, _, _, _, rfl⟩ := h
  obtain ⟨_, _, _, _, _, _, _, rfl⟩ := k
  exact ⟨_, _, _, _, _, _, _, rfl⟩

theorem ReportsOrLine.reporting {s t : State} (h : ReportsOrLine s t) : t = { s.reporting t with line := t.line } := by
  obtain ⟨_, _, _, _, _, _, _, rfl⟩ := h
  rfl

theorem State.deliverOmci_reportsOrLine (n : Nat) (s : State) : ReportsOrLine s (s.deliverOmci n) := by
  induction n generalizing s with
  | zero => exact (Reports.refl s).orLine
  | succ n ih =>
    simp only [State.deliverOmci]
    split
    · exact (Reports.refl s).orLine
    · split
      · exact (Reports.refl s).orLine
      · refine ReportsOrLine.trans ?_ (ih _)
        refine ReportsOrLine.trans ?_ ((State.inc_reports _ _).trans (State.raise_reports _ _ _ _)).orLine
        exact ⟨_, _, _, _, _, _, _, rfl⟩

theorem State.flushOmci_reportsOrLine (s : State) : ReportsOrLine s s.flushOmci :=
  State.deliverOmci_reportsOrLine _ s

theorem State.deliver_reportsOrLine (m : Nat) (s : State) : ReportsOrLine s (s.deliver m) := by
  have hPosted : Reports s { s with host := (s.host.flushBox m).1, out := (s.host.flushBox m).2 ++ s.out } :=
    ⟨_, _, _, _, _, _, rfl⟩
  have hRaise : ∀ (c : Prop) [Decidable c] (t : State), Reports t (if c then t else t.raise 576 0 0) := by
    intro c _ t
    split
    · exact .refl t
    · exact State.raise_reports t 576 0 0
  simp only [State.deliver]
  split
  · refine (Reports.orLine ?_).trans (State.flushOmci_reportsOrLine _)
    exact hPosted.trans (hRaise _ _)
  · exact (hPosted.trans (hRaise _ _)).orLine

end Sys2Proof.Machine
end

section
/-!
# Doorbells

Which writes of REQ_PROD and RPL_CONS count, and what one that counts does (R630, R632).
-/
namespace Sys2Proof.Machine

theorem exec_mbxDbReqWrite {s : State} (hManager : s.isManager = true) (hOpen : s.hostOpen) (m : MbxNo) (v : W32) :
    exec (.mbxDbReqWrite m v) s = .next (s.dbReq m.val (v.toNat % 64)) := by
  have hExec : exec (.mbxDbReqWrite m v) s = execMbxDbReqWrite m v s := rfl
  rw [hExec, execMbxDbReqWrite, if_pos hManager, State.hostAccess_of_hostOpen hOpen]

theorem exec_mbxDbRplWrite {s : State} (hManager : s.isManager = true) (hOpen : s.hostOpen) (m : MbxNo) (v : W32) :
    exec (.mbxDbRplWrite m v) s = .next (s.dbRpl m.val (v.toNat % 64)) := by
  have hExec : exec (.mbxDbRplWrite m v) s = execMbxDbRplWrite m v s := rfl
  rw [hExec, execMbxDbRplWrite, if_pos hManager, State.hostAccess_of_hostOpen hOpen]

/-! ### REQ_PROD -/

/-- The order of service once mailbox `m` has its place in it: the one it has, or else the last (R632). -/
def HostIf.orderWith (m : Nat) (h : HostIf) : List Nat := if h.order.contains m then h.order else h.order ++ [m]

theorem HostIf.mem_orderWith (m : Nat) (h : HostIf) : m ∈ h.orderWith m := by
  unfold HostIf.orderWith
  split
  next hIn => exact List.contains_iff_mem.mp hIn
  next => exact List.mem_append_right _ (List.mem_singleton_self m)

/-- `s` with REQ_PROD of mailbox `m` at `n` and the mailbox in the order of service. -/
def State.moveReqProd (m n : Nat) (s : State) : State :=
  { s with host := { s.host.modBox m (fun b => { b with reqProd := n }) with order := s.host.orderWith m } }

theorem State.box_moveReqProd_same (m n : Nat) (s : State) :
    (s.moveReqProd m n).box m = { s.box m with reqProd := n } :=
  HostIf.box_modBox_same m (fun b => { b with reqProd := n }) s.host

theorem State.box_moveReqProd_other {m j : Nat} (n : Nat) (s : State) (hj : j ≠ m) :
    (s.moveReqProd m n).box j = s.box j :=
  HostIf.box_modBox_other (fun b => { b with reqProd := n }) s.host hj

theorem State.dbReq_of_not_forward {s : State} {m n : Nat}
    (h : (n + 64 - (s.box m).reqCons) % 64 ≤ ((s.box m).reqProd + 64 - (s.box m).reqCons) % 64
      ∨ 32 < (n + 64 - (s.box m).reqCons) % 64) : s.dbReq m n = s := by
  refine if_pos ?_
  simp only [Bool.or_eq_true, Bool.not_eq_true', decide_eq_true_eq, decide_eq_false_iff_not]
  omega

theorem State.dbReq_of_forward {s : State} {m n : Nat} (hm : m < 33)
    (hForward : ((s.box m).reqProd + 64 - (s.box m).reqCons) % 64 < (n + 64 - (s.box m).reqCons) % 64)
    (hRoom : (n + 64 - (s.box m).reqCons) % 64 ≤ 32) :
    s.dbReq m n = s.moveReqProd m n := by
  refine if_neg ?_
  simp only [Bool.or_eq_true, Bool.not_eq_true', decide_eq_true_eq, decide_eq_false_iff_not]
  omega

/-! ### RPL_CONS -/

/-- A mailbox after room was made in its reply ring: a stall ends with 16 entries free (R638). -/
def Mbx.roomMade (b : Mbx) : Mbx := { b with stalled := b.stalled && decide (b.free < 16) }

theorem State.dbRpl_of_not_forward {s : State} {m n : Nat}
    (h : (n + 64 - (s.box m).rplCons) % 64 = 0
      ∨ ((s.box m).rplProd + 64 - (s.box m).rplCons) % 64 < (n + 64 - (s.box m).rplCons) % 64) : s.dbRpl m n = s := by
  refine if_pos ?_
  simp only [Bool.or_eq_true, decide_eq_true_eq]
  omega

theorem State.dbRpl_of_forward {s : State} {m n : Nat} (hm : m < 33)
    (hForward : (n + 64 - (s.box m).rplCons) % 64 ≠ 0)
    (hPosted : (n + 64 - (s.box m).rplCons) % 64 ≤ ((s.box m).rplProd + 64 - (s.box m).rplCons) % 64) :
    s.dbRpl m n = ((s.modBox m (fun b => { b with rplCons := n })).deliver m).modBox m Mbx.roomMade := by
  refine if_neg ?_
  simp only [Bool.or_eq_true, decide_eq_true_eq]
  omega

/-- What a counting RPL_CONS write lets the mailbox deliver leaves the index where the host put it. -/
theorem State.dbRpl_rplCons {s : State} {m n : Nat} (hm : m < 33)
    (hForward : (n + 64 - (s.box m).rplCons) % 64 ≠ 0)
    (hPosted : (n + 64 - (s.box m).rplCons) % 64 ≤ ((s.box m).rplProd + 64 - (s.box m).rplCons) % 64) :
    ((s.dbRpl m n).box m).rplCons = n := by
  rw [State.dbRpl_of_forward hm hForward hPosted]
  set moved := s.modBox m (fun b => { b with rplCons := n }) with hMoved
  calc (((moved.deliver m).modBox m Mbx.roomMade).box m).rplCons
      = (moved.deliver m).host.rplCons m :=
        congrFun (HostIf.modBox_rplCons m (f := Mbx.roomMade) (fun _ => rfl) (moved.deliver m).host) m
    _ = moved.host.rplCons m := congrFun (State.deliver_rplCons m moved) m
    _ = n := by rw [hMoved, State.modBox, HostIf.rplCons, HostIf.box_modBox_same]

theorem State.dbRpl_reportsOrLine (m n : Nat) (s : State) : ReportsOrLine s (s.dbRpl m n) := by
  simp only [State.dbRpl]
  split
  · exact (Reports.refl s).orLine
  · exact ((State.modBox_reports s _ _).orLine.trans (State.deliver_reportsOrLine m _)).trans
      (State.modBox_reports _ _ _).orLine

/-- Settles O46: a write of either doorbell is `dbReq` or `dbRpl`, which keep the state when the index does not move
forward within its bound and otherwise move it. -/
theorem doorbellWrites : Obligations.DoorbellWrites := by
  unfold Obligations.DoorbellWrites
  intro s m v hManager hOpen hm
  simp only [completesWith, exec_mbxDbReqWrite hManager hOpen, exec_mbxDbRplWrite hManager hOpen]
  refine ⟨fun hIgnored => ?_, fun hForward hRoom => ⟨_, rfl, ?_⟩, fun hIgnored => ?_,
    fun hForward hPosted => ⟨_, rfl, State.dbRpl_rplCons hm hForward hPosted, ?_⟩⟩
  · rw [State.dbReq_of_not_forward hIgnored]
  · rw [State.dbReq_of_forward hm hForward hRoom]
    exact ⟨s.box_moveReqProd_same _ _, s.host.mem_orderWith _, fun _ hj => s.box_moveReqProd_other _ hj, rfl⟩
  · rw [State.dbRpl_of_not_forward hIgnored]
  · exact (State.dbRpl_reportsOrLine _ _ s).reporting

end Sys2Proof.Machine
end

section
/-!
# Frames

What an operation may touch, as a list of the state's parts. `Within C s t` says that `t` is `s` but for the parts in
`C`; it composes along the operations of a command, and a frame in the statements' words is the same fact spelled out.
-/
namespace Sys2Proof.Machine

/-- The parts of the state. -/
inductive Part
  | pending | now | bnd | fresh | out | start | power | clk | tide | line | pool | sched | ports
  | e1s | cipher | ring | host | evt | cnt | snap | cfg | adm | cistern | log | craft
  deriving DecidableEq

/-- `s` with the parts in `C` taken from `t`. -/
def State.merge (C : List Part) (s t : State) : State :=
  { pending := bif C.contains .pending then t.pending else s.pending
    now := bif C.contains .now then t.now else s.now
    bnd := bif C.contains .bnd then t.bnd else s.bnd
    fresh := bif C.contains .fresh then t.fresh else s.fresh
    out := bif C.contains .out then t.out else s.out
    start := bif C.contains .start then t.start else s.start
    power := bif C.contains .power then t.power else s.power
    clk := bif C.contains .clk then t.clk else s.clk
    tide := bif C.contains .tide then t.tide else s.tide
    line := bif C.contains .line then t.line else s.line
    pool := bif C.contains .pool then t.pool else s.pool
    sched := bif C.contains .sched then t.sched else s.sched
    ports := bif C.contains .ports then t.ports else s.ports
    e1s := bif C.contains .e1s then t.e1s else s.e1s
    cipher := bif C.contains .cipher then t.cipher else s.cipher
    ring := bif C.contains .ring then t.ring else s.ring
    host := bif C.contains .host then t.host else s.host
    evt := bif C.contains .evt then t.evt else s.evt
    cnt := bif C.contains .cnt then t.cnt else s.cnt
    snap := bif C.contains .snap then t.snap else s.snap
    cfg := bif C.contains .cfg then t.cfg else s.cfg
    adm := bif C.contains .adm then t.adm else s.adm
    cistern := bif C.contains .cistern then t.cistern else s.cistern
    log := bif C.contains .log then t.log else s.log
    craft := bif C.contains .craft then t.craft else s.craft }

/-- `t` is `s` but for the parts in `C`. -/
structure Within (C : List Part) (s t : State) : Prop where
  pending : C.contains .pending = false → t.pending = s.pending
  now : C.contains .now = false → t.now = s.now
  bnd : C.contains .bnd = false → t.bnd = s.bnd
  fresh : C.contains .fresh = false → t.fresh = s.fresh
  out : C.contains .out = false → t.out = s.out
  start : C.contains .start = false → t.start = s.start
  power : C.contains .power = false → t.power = s.power
  clk : C.contains .clk = false → t.clk = s.clk
  tide : C.contains .tide = false → t.tide = s.tide
  line : C.contains .line = false → t.line = s.line
  pool : C.contains .pool = false → t.pool = s.pool
  sched : C.contains .sched = false → t.sched = s.sched
  ports : C.contains .ports = false → t.ports = s.ports
  e1s : C.contains .e1s = false → t.e1s = s.e1s
  cipher : C.contains .cipher = false → t.cipher = s.cipher
  ring : C.contains .ring = false → t.ring = s.ring
  host : C.contains .host = false → t.host = s.host
  evt : C.contains .evt = false → t.evt = s.evt
  cnt : C.contains .cnt = false → t.cnt = s.cnt
  snap : C.contains .snap = false → t.snap = s.snap
  cfg : C.contains .cfg = false → t.cfg = s.cfg
  adm : C.contains .adm = false → t.adm = s.adm
  cistern : C.contains .cistern = false → t.cistern = s.cistern
  log : C.contains .log = false → t.log = s.log
  craft : C.contains .craft = false → t.craft = s.craft

variable {C D : List Part} {s t u : State}

theorem Within.eq_merge (h : Within C s t) : t = s.merge C t := by
  have pick {α : Type} (b : Bool) {x y : α} (hb : b = false → x = y) : x = bif b then x else y := by
    cases b
    · exact hb rfl
    · rfl
  obtain ⟨h0, h1, h2, h3, h4, h5, h6, h7, h8, h9, h10, h11, h12,
    h13, h14, h15, h16, h17, h18, h19, h20, h21, h22, h23, h24⟩ := h
  simp only [State.merge]
  rw [← pick _ h0, ← pick _ h1, ← pick _ h2, ← pick _ h3, ← pick _ h4, ← pick _ h5, ← pick _ h6, ← pick _ h7, ← pick _ h8, ← pick _ h9, ← pick _ h10, ← pick _ h11, ← pick _ h12,
    ← pick _ h13, ← pick _ h14, ← pick _ h15, ← pick _ h16, ← pick _ h17, ← pick _ h18, ← pick _ h19, ← pick _ h20, ← pick _ h21, ← pick _ h22, ← pick _ h23, ← pick _ h24]

theorem within_of_eq_merge (h : t = s.merge C t) : Within C s t := by
  have drop {α : Type} {b : Bool} {x y : α} (hx : x = bif b then x else y) (hb : b = false) : x = y := by
    rw [hb] at hx
    exact hx
  exact ⟨drop (congrArg State.pending h), drop (congrArg State.now h), drop (congrArg State.bnd h),
    drop (congrArg State.fresh h), drop (congrArg State.out h), drop (congrArg State.start h),
    drop (congrArg State.power h), drop (congrArg State.clk h), drop (congrArg State.tide h),
    drop (congrArg State.line h), drop (congrArg State.pool h), drop (congrArg State.sched h),
    drop (congrArg State.ports h), drop (congrArg State.e1s h), drop (congrArg State.cipher h),
    drop (congrArg State.ring h), drop (congrArg State.host h), drop (congrArg State.evt h),
    drop (congrArg State.cnt h), drop (congrArg State.snap h), drop (congrArg State.cfg h),
    drop (congrArg State.adm h), drop (congrArg State.cistern h), drop (congrArg State.log h),
    drop (congrArg State.craft h)⟩

theorem Within.refl (C : List Part) (s : State) : Within C s s :=
  ⟨fun _ => rfl, fun _ => rfl, fun _ => rfl, fun _ => rfl, fun _ => rfl, fun _ => rfl, fun _ => rfl, fun _ => rfl, fun _ => rfl,
    fun _ => rfl, fun _ => rfl, fun _ => rfl, fun _ => rfl, fun _ => rfl, fun _ => rfl, fun _ => rfl, fun _ => rfl, fun _ => rfl,
    fun _ => rfl, fun _ => rfl, fun _ => rfl, fun _ => rfl, fun _ => rfl, fun _ => rfl, fun _ => rfl⟩

theorem Within.trans (h : Within C s t) (k : Within C t u) : Within C s u where
  pending e := (k.pending e).trans (h.pending e)
  now e := (k.now e).trans (h.now e)
  bnd e := (k.bnd e).trans (h.bnd e)
  fresh e := (k.fresh e).trans (h.fresh e)
  out e := (k.out e).trans (h.out e)
  start e := (k.start e).trans (h.start e)
  power e := (k.power e).trans (h.power e)
  clk e := (k.clk e).trans (h.clk e)
  tide e := (k.tide e).trans (h.tide e)
  line e := (k.line e).trans (h.line e)
  pool e := (k.pool e).trans (h.pool e)
  sched e := (k.sched e).trans (h.sched e)
  ports e := (k.ports e).trans (h.ports e)
  e1s e := (k.e1s e).trans (h.e1s e)
  cipher e := (k.cipher e).trans (h.cipher e)
  ring e := (k.ring e).trans (h.ring e)
  host e := (k.host e).trans (h.host e)
  evt e := (k.evt e).trans (h.evt e)
  cnt e := (k.cnt e).trans (h.cnt e)
  snap e := (k.snap e).trans (h.snap e)
  cfg e := (k.cfg e).trans (h.cfg e)
  adm e := (k.adm e).trans (h.adm e)
  cistern e := (k.cistern e).trans (h.cistern e)
  log e := (k.log e).trans (h.log e)
  craft e := (k.craft e).trans (h.craft e)

/-- A frame is a frame of any longer list of parts. -/
theorem Within.mono (h : Within C s t) (hCD : C.all (D.contains ·) = true) : Within D s t := by
  have out {p : Part} (hp : D.contains p = false) : C.contains p = false := by
    rw [Bool.eq_false_iff] at hp ⊢
    exact fun hc => hp (List.all_eq_true.mp hCD p (List.contains_iff_mem.mp hc))
  exact ⟨h.pending ∘ out, h.now ∘ out, h.bnd ∘ out, h.fresh ∘ out, h.out ∘ out, h.start ∘ out,
    h.power ∘ out, h.clk ∘ out, h.tide ∘ out, h.line ∘ out, h.pool ∘ out, h.sched ∘ out,
    h.ports ∘ out, h.e1s ∘ out, h.cipher ∘ out, h.ring ∘ out, h.host ∘ out, h.evt ∘ out,
    h.cnt ∘ out, h.snap ∘ out, h.cfg ∘ out, h.adm ∘ out, h.cistern ∘ out, h.log ∘ out,
    h.craft ∘ out⟩

theorem Within.ite {c : Prop} [Decidable c] (ht : Within C s t) (hu : Within C s u) :
    Within C s (if c then t else u) := by
  split
  · exact ht
  · exact hu

theorem Within.foldl {α : Type} {f : State → α → State} (h : ∀ t x, Within C t (f t x)) (l : List α) (s : State) :
    Within C s (l.foldl f s) := by
  induction l generalizing s with
  | nil => exact .refl C s
  | cons x l ih => exact (h s x).trans (ih (f s x))

/-- What reporting changes. -/
def reportParts : List Part := [.evt, .host, .ring, .log, .cnt, .out]

/-- What the passage of time to an instant may change. -/
def passParts : List Part := [.evt, .host, .ring, .log, .cnt, .out, .now, .bnd, .power, .tide, .line, .e1s, .craft]

theorem Reports.within (h : Reports s t) : Within reportParts s t := by
  obtain ⟨_, _, _, _, _, _, rfl⟩ := h
  exact within_of_eq_merge rfl

theorem Within.reporting (h : Within reportParts s t) : t = s.reporting t := h.eq_merge

theorem Within.passing (h : Within passParts s t) : t = s.passing t := h.eq_merge

end Sys2Proof.Machine
end

section
/-!
# The step and the reset

The queue over a step, that every command completes, what reset leaves, and the idle clock.
-/
namespace Sys2Proof.Machine

/-- Settles O1: a step matches on the queue, whose front is `c`. -/
theorem stepTakesTheFront : Obligations.StepTakesTheFront := by
  unfold Obligations.StepTakesTheFront
  intro c rest s
  rw [step]

/-- Settles O3: every arm of `exec` is a next state. -/
theorem everyCommandCompletes : Obligations.EveryCommandCompletes := by
  unfold Obligations.EveryCommandCompletes
  intro i s
  cases i <;> exact ⟨_, rfl⟩

/-- Settles O5: a step takes the front off the queue, and no command touches the rest. -/
theorem queueIsFirstInFirstOut : Obligations.QueueIsFirstInFirstOut := by
  unfold Obligations.QueueIsFirstInFirstOut
  intro s t h
  exact congrArg Prod.fst (step_kept h)

/-- Settles O7: the reset state is the one whose every part is as it is by default. -/
theorem resetState : Obligations.ResetState := by
  unfold Obligations.ResetState
  refine ⟨⟨rfl, rfl, rfl, rfl, rfl, by decide, fun _ => rfl, rfl, rfl, fun n h => ?_, fun _ => rfl, fun _ => rfl,
    fun _ => ⟨rfl, rfl, rfl, rfl⟩, rfl, fun _ => ⟨rfl, rfl⟩, rfl, rfl, rfl⟩, ⟨by decide, by decide⟩, rfl, rfl, ?_⟩
  · have hClear : (0 : W32).getLsbD (n % 32) = true := h
    simp at hClear
  · exact fun _ => Nat.two_pow_pos 40

/-! ### A frame boundary and the passage of time -/

/-- What a frame boundary does by itself touches. -/
def frameParts : List Part := [.evt, .host, .ring, .log, .cnt, .out, .power, .tide, .line, .e1s, .craft]

/-- The same without Tide. -/
def frameRest : List Part := [.evt, .host, .ring, .log, .cnt, .out, .power, .line, .e1s, .craft]

theorem State.idleChange_within (s : State) : Within frameRest s s.idleChange := by
  unfold State.idleChange
  split
  · exact .refl _ s
  next idle _ =>
    have hState : Within frameRest s { s with power := { s.power with
        state := if idle then .idle else .run, idleReq := none } } := within_of_eq_merge rfl
    exact hState.trans (((State.raise_reports _ _ _ _).trans (State.answerOn_reports _ _ _ _)).within.mono rfl)

theorem State.laneIdleCheck_within (s : State) (l : Nat) : Within frameRest s (s.laneIdleCheck l) := by
  unfold State.laneIdleCheck
  split
  · exact within_of_eq_merge rfl
  · exact .refl _ s

theorem State.sendTs0_within (s : State) (p : Nat) : Within [.e1s, .out] s (s.sendTs0 p) := by
  simp only [State.sendTs0]
  split
  · exact .refl _ s
  · split <;> exact within_of_eq_merge rfl

theorem State.e1Send_within (p : Nat) (frame : List Byte) (s : State) : Within [.e1s, .out] s (s.e1Send p frame) := by
  simp only [State.e1Send]
  split <;> exact within_of_eq_merge rfl

theorem State.e1Boundary_within (s : State) (p : Nat) : Within [.e1s, .out] s (s.e1Boundary p) := by
  simp only [State.e1Boundary]
  split
  · exact .refl _ s
  · refine (s.sendTs0_within p).trans ?_
    split
    next t _ =>
      have hNext : Within [.e1s, .out] (s.sendTs0 p) ((s.sendTs0 p).modE1 p (fun y => { y with txq := t })) :=
        within_of_eq_merge rfl
      exact hNext.trans (State.e1Send_within _ _ _)
    · exact .ite (.refl _ _) (State.e1Send_within _ _ _)

theorem State.refresh_within (s : State) : Within [.line, .ring, .e1s, .craft] s s.refresh := by
  have hLanes := Within.foldl (C := [.line, .ring, .e1s, .craft]) (f := fun (t : State) l =>
    t.modLane l (fun x => { x with mirror := BitVec.ofNat 32 (t.lnStatus l) })) (fun _ _ => within_of_eq_merge rfl)
    (List.range 4) s
  have hSides (t : State) := Within.foldl (C := [.line, .ring, .e1s, .craft]) (f := fun (t : State) d =>
    t.modSide d (fun x => { x with mirror := BitVec.ofNat 32 (t.ringStatus d) })) (fun _ _ => within_of_eq_merge rfl)
    (List.range 2) t
  have hE1s (t : State) := Within.foldl (C := [.line, .ring, .e1s, .craft]) (f := fun (t : State) p =>
    t.modE1 p (fun x => { x with mirror := BitVec.ofNat 32 (t.e1Status p) })) (fun _ _ => within_of_eq_merge rfl)
    (List.range 8) t
  exact ((hLanes.trans (hSides _)).trans (hE1s _)).trans (within_of_eq_merge rfl)

/-- The settings of the offset move, the Tide word does not. -/
theorem State.timingTake_tide (s : State) :
    s.timingTake.tide.frame = s.tide.frame ∧ s.timingTake.tide.tick = s.tide.tick := by
  unfold State.timingTake
  split <;> exact ⟨rfl, rfl⟩

theorem State.timingTake_within (s : State) : Within [.tide] s s.timingTake := by
  unfold State.timingTake
  split
  · exact .refl _ s
  · exact within_of_eq_merge rfl

/-- What happens at a boundary before a worker takes its timing. -/
theorem State.boundary_before_timing (s : State) : Within frameRest s
    ((List.range 8).foldl State.e1Boundary ((List.range 4).foldl State.laneIdleCheck s.idleChange)) :=
  (s.idleChange_within.trans (.foldl State.laneIdleCheck_within _ _)).trans
    ((Within.foldl State.e1Boundary_within _ _).mono rfl)

theorem State.boundary_within (s : State) : Within frameParts s s.boundary :=
  ((s.boundary_before_timing.mono rfl).trans ((State.timingTake_within _).mono rfl)).trans
    ((State.refresh_within _).mono rfl)

/-- A boundary leaves the Tide word. -/
theorem State.boundary_tide (s : State) :
    s.boundary.tide.frame = s.tide.frame ∧ s.boundary.tide.tick = s.tide.tick := by
  have hBefore := s.boundary_before_timing.tide rfl
  have hTake := State.timingTake_tide
    ((List.range 8).foldl State.e1Boundary ((List.range 4).foldl State.laneIdleCheck s.idleChange))
  rw [State.boundary, (State.refresh_within _).tide rfl, hTake.1, hTake.2, hBefore]
  exact ⟨rfl, rfl⟩

/-! ### The idle clock -/

/-- What one CORE clock does before the boundary that Tide may pass. -/
def coreClocked (s : State) : State :=
  let n := coreTicks s
  let m := muxesClock s s.clk.muxes
  let cp := (Tab.get {} s.clk.muxes 1 : ClkMux).selB
  { s with
    now := s.now + n, tide := if tideRuns s then s.tide.advance n else s.tide
    clk := { s.clk with muxes := m, cpOnRef := if (Tab.get {} m 1 : ClkMux).selB = cp then s.clk.cpOnRef else cp } }

theorem coreClock_eq (s : State) :
    coreClock s = if (coreClocked s).tide.frame = s.tide.frame then coreClocked s
      else { coreClocked s with bnd := s.bnd + 1 }.boundary := rfl

theorem coreClock_now (s : State) : (coreClock s).now = s.now + coreTicks s := by
  rw [coreClock_eq]
  split
  · rfl
  · exact (State.boundary_within _).now rfl

theorem coreClock_tide (s : State) :
    (coreClock s).tide.frame = (coreClocked s).tide.frame ∧ (coreClock s).tide.tick = (coreClocked s).tide.tick := by
  rw [coreClock_eq]
  split
  · exact ⟨rfl, rfl⟩
  · obtain ⟨hFrame, hTick⟩ := State.boundary_tide { coreClocked s with bnd := s.bnd + 1 }
    rw [hFrame, hTick]
    exact ⟨rfl, rfl⟩

theorem coreClock_pending (s : State) : (coreClock s).pending = s.pending := congrArg Prod.fst (coreClock_kept s)

/-- Settles O2: with an empty queue the step is `coreClock`. -/
theorem idleStepIsOneClock : Obligations.IdleStepIsOneClock := by
  unfold Obligations.IdleStepIsOneClock
  intro s h
  have hStep : step s = .next (coreClock s) := by rw [step, h]
  exact ⟨_, hStep, (coreClock_pending s).trans h, coreClock_now s, (coreClock_tide s).1, (coreClock_tide s).2⟩

end Sys2Proof.Machine
end

section
/-!
# Positions of Tide

The phases of TIDE_PULSE and of the alarms, and E (R29, R36, R56, R62).
-/
namespace Sys2Proof.Machine

/-- How far `t` lies past the last instant of the phase. -/
def phasePast (base period t : Nat) : Nat := (((t : Int) - base) % period).toNat

theorem phasePast_cast {period : Nat} (hp : 0 < period) (base t : Nat) :
    (phasePast base period t : Int) = ((t : Int) - base) % period :=
  Int.toNat_of_nonneg (Int.emod_nonneg _ (by omega))

theorem phasePast_lt {period : Nat} (hp : 0 < period) (base t : Nat) : phasePast base period t < period := by
  have hCast := phasePast_cast hp base t
  have hLt : ((t : Int) - base) % period < period := Int.emod_lt_of_pos _ (by omega)
  omega

theorem nextPhase_eq (base period t : Nat) : nextPhase base period t = t + period - phasePast base period t := rfl

theorem nextPhase_gt {period : Nat} (hp : 0 < period) (base t : Nat) : t < nextPhase base period t := by
  have hLt := phasePast_lt hp base t
  rw [nextPhase_eq]
  omega

/-- The next phase lies a whole number of periods from the base. -/
theorem period_dvd_nextPhase {period : Nat} (hp : 0 < period) (base t : Nat) :
    (period : Int) ∣ (nextPhase base period t : Int) - base := by
  have hLt := phasePast_lt hp base t
  have hPast : (period : Int) ∣ ((t : Int) - base) - phasePast base period t := by
    rw [phasePast_cast hp]
    exact Int.dvd_self_sub_emod
  have hSplit : (nextPhase base period t : Int) - base = ((t : Int) - base - phasePast base period t) + period := by
    rw [nextPhase_eq]
    omega
  rw [hSplit]
  exact hPast.add (Int.dvd_refl _)

/-- Two instants of the phase that both lie within a period after `t` are the same, so none comes before the next. -/
theorem nextPhase_le {period : Nat} (hp : 0 < period) {base t u : Nat} (hu : t < u)
    (hPhase : (period : Int) ∣ (u : Int) - base) : nextPhase base period t ≤ u := by
  by_contra hBefore
  have hDvd : (period : Int) ∣ (nextPhase base period t : Int) - u := by
    have h := (period_dvd_nextPhase hp base t).sub hPhase
    rwa [sub_sub_sub_cancel_right] at h
  have hLe : (period : Int) ≤ (nextPhase base period t : Int) - u := Int.le_of_dvd (by omega) hDvd
  have hUpper : nextPhase base period t ≤ t + period := by
    rw [nextPhase_eq]
    omega
  omega

theorem tideSpan_pos : (0 : Int) < tideSpan := by decide

theorem tideSpan_half : (tideSpan : Int) = 2 * ((tideSpan : Int) / 2) := by decide

/-- E is the difference modulo the span. -/
theorem tideError_modulo (pos t : Nat) : (tideSpan : Int) ∣ (t : Int) + tideError pos t - pos := by
  have hMod : (tideSpan : Int) ∣ (((pos : Int) - t) % tideSpan) - ((pos : Int) - t) := by
    rw [← dvd_neg, neg_sub]
    exact Int.dvd_self_sub_emod
  simp only [tideError]
  generalize ((pos : Int) - t) % tideSpan = d at hMod ⊢
  split
  · rwa [show (t : Int) + d - pos = d - (pos - t) by omega]
  · rw [show (t : Int) + (d - tideSpan) - pos = d - (pos - t) - tideSpan by omega]
    exact hMod.sub (Int.dvd_refl _)

theorem tideError_bounds (pos t : Nat) :
    -(tideSpan : Int) ≤ 2 * tideError pos t ∧ 2 * tideError pos t < tideSpan := by
  have hLow : 0 ≤ ((pos : Int) - t) % tideSpan := Int.emod_nonneg _ tideSpan_pos.ne'
  have hHigh : ((pos : Int) - t) % tideSpan < tideSpan := Int.emod_lt_of_pos _ tideSpan_pos
  have hHalf := tideSpan_half
  simp only [tideError]
  generalize ((pos : Int) - t) % tideSpan = d at hLow hHigh ⊢
  generalize (tideSpan : Int) / 2 = half at hHalf ⊢
  split <;> omega

/-- Settles O10: the phase and E by divisibility. -/
theorem tidePositionArithmetic : Obligations.TidePositionArithmetic := by
  unfold Obligations.TidePositionArithmetic
  refine ⟨fun base period t hp => ⟨nextPhase_gt hp base t, ?_, fun u hu hPhase => ?_⟩, fun pos t => ?_⟩
  · exact Int.emod_eq_zero_of_dvd (period_dvd_nextPhase hp base t)
  · exact nextPhase_le hp hu (Int.dvd_of_emod_eq_zero hPhase)
  · obtain ⟨hLow, hHigh⟩ := tideError_bounds pos t
    exact ⟨hLow, hHigh, Int.emod_eq_zero_of_dvd (tideError_modulo pos t)⟩

end Sys2Proof.Machine
end

section
/-!
# Pending events and host accesses

What reports keeps pending what is pending. What an access of the host touches, which completes after a clock hold
too (R111).
-/
namespace Sys2Proof.Machine

/-! ### Pending sources stay pending -/

/-- Every source pending in `s` is pending in `t`. -/
def KeepsPending (s t : State) : Prop := ∀ n, s.pends n → t.pends n

theorem KeepsPending.refl (s : State) : KeepsPending s s := fun _ h => h

theorem KeepsPending.trans {s t u : State} (h : KeepsPending s t) (k : KeepsPending t u) : KeepsPending s u :=
  fun n hn => k n (h n hn)

theorem KeepsPending.ite {s t u : State} {c : Prop} [Decidable c] (ht : KeepsPending s t) (hu : KeepsPending s u) :
    KeepsPending s (if c then t else u) := by
  split
  · exact ht
  · exact hu

theorem KeepsPending.foldl {α : Type} {f : State → α → State} (h : ∀ t x, KeepsPending t (f t x)) (l : List α)
    (s : State) : KeepsPending s (l.foldl f s) := by
  induction l generalizing s with
  | nil => exact .refl s
  | cons x l ih => exact (h s x).trans (ih (f s x))

/-- Only the status bits of the event block count. -/
theorem keepsPending_of_status {s t : State} (h : t.evt.status = s.evt.status) : KeepsPending s t := by
  intro n hn
  rwa [State.pends, h]

theorem Within.keepsPending {C : List Part} {s t : State} (h : Within C s t) (hC : C.contains .evt = false) :
    KeepsPending s t :=
  keepsPending_of_status (congrArg Events.status (h.evt hC))

theorem State.raise_keepsPending (src obj detail : Nat) (s : State) : KeepsPending s (s.raise src obj detail) :=
  fun n h => State.raise_pends_of s src obj detail n h

theorem State.raiseWin_keepsPending (w src sub obj detail : Nat) (s : State) :
    KeepsPending s (s.raiseWin w src sub obj detail) := by
  simp only [State.raiseWin]
  split
  · exact .refl s
  · refine KeepsPending.trans (keepsPending_of_status ?_) (State.raise_keepsPending _ _ _ _)
    rfl

theorem cntPost_status (entry : W32) (e : Events) : (cntPost entry e).1.status = e.status := by
  unfold cntPost
  split
  · rfl
  · split <;> rfl

theorem State.postHalf_keepsPending (w : W32) (o : Nat) (s : State) : KeepsPending s (s.postHalf w o) := by
  simp only [State.postHalf]
  split
  · have hPost : KeepsPending s { s with evt := (cntPost w s.evt).1 } := keepsPending_of_status (cntPost_status w s.evt)
    exact .ite hPost (hPost.trans (State.raise_keepsPending _ _ _ _))
  · exact State.raise_keepsPending _ _ _ _

theorem State.count_keepsPending (i n : Nat) (s : State) : KeepsPending s (s.count i n) := by
  simp only [State.count]
  have hCount : KeepsPending s { s with cnt := cntAdd s.cnt i n } := keepsPending_of_status rfl
  exact .ite (hCount.trans (State.postHalf_keepsPending _ _ _)) hCount

theorem State.inc_keepsPending (i : Nat) (s : State) : KeepsPending s (s.inc i) := State.count_keepsPending i 1 s

theorem State.answerEvents_keepsPending (m : Nat) (st : Status) (s : State) : KeepsPending s (s.answerEvents m st) := by
  simp only [State.answerEvents]
  have hReply (u : State) : KeepsPending u (if m = 33 then u else u.raise 576 0 0) :=
    .ite (.refl u) (State.raise_keepsPending _ _ _ _)
  refine KeepsPending.trans ?_ (hReply _)
  split
  · exact (State.raise_keepsPending _ _ _ _).trans (State.inc_keepsPending _ _)
  · exact (State.raiseWin_keepsPending _ _ _ _ _ _).trans (State.inc_keepsPending _ _)
  · exact .refl s

theorem State.answer_keepsPending (o : Nat) (q : Req) (st : Status) (p : List Byte) (s : State) :
    KeepsPending s (s.answer o q st p) := by
  simp only [State.answer]
  split
  · exact keepsPending_of_status rfl
  · refine KeepsPending.trans ?_ (State.answerEvents_keepsPending _ _ _)
    refine KeepsPending.trans ?_ (State.inc_keepsPending _ _)
    refine KeepsPending.trans ?_ (State.inc_keepsPending _ _)
    exact keepsPending_of_status rfl

theorem State.complete_keepsPending (m k : Nat) (st : Status) (p : List Byte) (s : State) :
    KeepsPending s (s.complete m k st p) := by
  simp only [State.complete]
  split
  · exact .refl s
  · split
    · exact keepsPending_of_status rfl
    · refine KeepsPending.trans (keepsPending_of_status ?_)
        (KeepsPending.ite (.refl _) (State.raise_keepsPending _ _ _ _))
      rfl

theorem State.answerOn_keepsPending (w : Wait) (st : Status) (p : List Byte) (s : State) :
    KeepsPending s (s.answerOn w st p) := by
  refine KeepsPending.foldl (fun t m => ?_) _ s
  split
  · exact .ite (State.answer_keepsPending _ _ _ _ _) (.refl t)
  · exact .refl t

/-- A source once raised is pending after whatever keeps pending. -/
theorem KeepsPending.after_raise {s t : State} {src obj detail : Nat} (h : KeepsPending (s.raise src obj detail) t) :
    t.pends src := h src (State.raise_pends s src obj detail)

/-! ### Host accesses -/

/-- What an access of the host may touch. -/
def accessParts : List Part := [.evt, .host, .ring, .log, .cnt, .out, .line, .pool, .tide]

theorem ReportsOrLine.within {s t : State} (h : ReportsOrLine s t) : Within accessParts s t := by
  obtain ⟨_, _, _, _, _, _, _, rfl⟩ := h
  exact within_of_eq_merge rfl

theorem State.evtRoute_within (a : Nat) (w : W32) (s : State) : Within reportParts s (s.evtRoute a w) := by
  unfold State.evtRoute
  refine .ite (.refl _ s) (.ite (State.setEvt_reports _ _ _).within (.ite (State.setEvt_reports _ _ _).within ?_))
  exact .ite (State.setEvt_reports _ _ _).within (.refl _ s)

theorem State.unmask_within (v : Nat) (s : State) : Within reportParts s (s.unmask v) := by
  simp only [State.unmask]
  split <;> exact within_of_eq_merge rfl

theorem State.msixWrite_within (a : Nat) (w : W32) (s : State) : Within reportParts s (s.msixWrite a w) := by
  unfold State.msixWrite
  exact .ite (.ite (within_of_eq_merge rfl) (State.unmask_within _ s)) (within_of_eq_merge rfl)

theorem State.dbReq_within (m n : Nat) (s : State) : Within reportParts s (s.dbReq m n) := by
  simp only [State.dbReq]
  exact .ite (.refl _ s) (within_of_eq_merge rfl)

theorem State.regWrite_within (a : Nat) (w : W32) (s : State) : Within accessParts s (s.regWrite a w) := by
  unfold State.regWrite
  refine .ite (.refl _ s) (.ite (within_of_eq_merge rfl) (.ite ?_ ?_))
  · refine .ite ((State.dbReq_within _ _ s).mono rfl) (.ite (State.dbRpl_reportsOrLine _ _ s).within (.refl _ s))
  · refine .ite (within_of_eq_merge rfl) (.ite (within_of_eq_merge rfl) (.ite (within_of_eq_merge rfl) ?_))
    exact .ite ((State.evtRoute_within _ _ s).mono rfl) (.ite ((State.msixWrite_within _ _ s).mono rfl) (.refl _ s))

theorem State.hostWrite_within (a : Nat) (w : W32) (be : BitVec 4) (s : State) :
    Within accessParts s (s.hostWrite a w be) := by
  unfold State.hostWrite
  exact .ite (within_of_eq_merge rfl) (.ite (State.regWrite_within a w s) (.refl _ s))

theorem State.readQthFifo_within (s : State) : Within accessParts s s.readQthFifo := by
  unfold State.readQthFifo
  split
  · exact within_of_eq_merge rfl
  · exact .ite (within_of_eq_merge rfl) (within_of_eq_merge rfl)

theorem State.readCntFifo_within (s : State) : Within accessParts s s.readCntFifo := by
  unfold State.readCntFifo
  split <;> exact within_of_eq_merge rfl

theorem State.hostRead_within (a : Nat) (s : State) : Within accessParts s (s.hostRead a) := by
  unfold State.hostRead
  refine .ite (within_of_eq_merge rfl) (.ite (State.readQthFifo_within s) (.ite (State.readCntFifo_within s) ?_))
  exact within_of_eq_merge rfl

theorem State.completeAccess_within (s : State) (a : HostAccess) : Within accessParts s (s.complete_ a) := by
  unfold State.complete_
  split
  · exact State.hostWrite_within _ _ _ s
  · exact .foldl (fun t x => .ite (State.hostWrite_within _ _ _ t) (.refl _ t)) _ s
  · exact .foldl (fun t i => State.hostRead_within _ t) _ s
  · exact State.hostRead_within _ s

end Sys2Proof.Machine
end

section
/-!
# Reference, root and clock holds

What a re-lock touches (R107, R108), the release of a hold (R110, R111), and the reference oscillator (R82 to R85).
-/
namespace Sys2Proof.Machine

/-! ### A re-lock -/

theorem State.syncTxs_within (s : State) : Within [.line] s s.syncTxs :=
  .foldl (fun _ _ => within_of_eq_merge rfl) _ s

theorem State.cutBurst_within (l : Nat) (s : State) : Within [.line, .out] s (s.cutBurst l) := by
  unfold State.cutBurst
  split
  · exact .refl _ s
  · exact .ite (within_of_eq_merge rfl) (within_of_eq_merge rfl)

/-- Whether the root's re-lock holds the clocks is a free value (log 18). -/
def State.relockHolds (s : State) : Bool := (Config.freeWord s.fresh).getLsbD 0

/-- The clocks once a re-lock has begun. -/
def State.relockClk (s : State) : Clocks :=
  let c := { s.clk with rootLock := false, rootHold := s.clk.rootHold || s.relockHolds }
  if s.relockHolds then c.cpTo true else c

/-- A re-lock moves the clocks, the next free value and the lanes, whose bursts it may cut. -/
theorem State.relock_within (s : State) :
    Within [.line, .out] { s with clk := s.relockClk, fresh := s.fresh + 1 } s.relock := by
  have hSync : Within [.line, .out] { s with clk := s.relockClk, fresh := s.fresh + 1 }
      ({ s with fresh := s.fresh + 1, clk := s.relockClk } : State).syncTxs := (State.syncTxs_within _).mono rfl
  exact .ite (hSync.trans (.foldl (fun t l => State.cutBurst_within l t) _ _)) hSync

theorem State.relock_clk (s : State) : s.relock.clk = s.relockClk := s.relock_within.clk rfl

theorem State.relockClk_rootLock (s : State) : s.relockClk.rootLock = false := by
  unfold State.relockClk
  split <;> rfl

theorem State.relockClk_frame (s : State) : s.relockClk.xoOk = s.clk.xoOk ∧ s.relockClk.refFailed = s.clk.refFailed
    ∧ s.relockClk.refSrc = s.clk.refSrc ∧ s.relockClk.steered = s.clk.steered := by
  unfold State.relockClk
  split <;> exact ⟨rfl, rfl, rfl, rfl⟩

/-- What the commands of the root touch. -/
def rootParts : List Part := [.evt, .host, .ring, .log, .cnt, .out, .clk, .line, .fresh]

theorem State.relock_rootParts (s : State) : Within rootParts s s.relock := by
  have hClk : Within rootParts s { s with clk := s.relockClk, fresh := s.fresh + 1 } := within_of_eq_merge rfl
  exact hClk.trans (s.relock_within.mono rfl)

/-! ### The release of a hold -/

/-- The state in which the host accesses that waited complete. -/
def State.released (s : State) : State :=
  ((s.setClk (fun c => { c.cpTo false with rootHold := false, waiting := [] })).syncTxs).raise 59 0 0

theorem State.rootRelease_eq (s : State) : s.rootRelease = s.clk.waiting.foldl State.complete_ s.released := rfl

theorem State.released_clk (s : State) : s.released.clk = { s.clk.cpTo false with rootHold := false, waiting := [] } :=
  (State.syncTxs_within (s.setClk (fun c => { c.cpTo false with rootHold := false, waiting := [] }))).clk rfl

/-- What a release touches. -/
def releaseParts : List Part := [.evt, .host, .ring, .log, .cnt, .out, .clk, .line]

theorem Within.reporting_clk_line {s t : State} (h : Within releaseParts s t) :
    t = { s.reporting t with clk := t.clk, line := t.line } := h.eq_merge

theorem Within.reporting_clk_line_fresh {s t : State} (h : Within rootParts s t) :
    t = { s.reporting t with clk := t.clk, line := t.line, fresh := t.fresh } := h.eq_merge

theorem State.released_within (s : State) : Within releaseParts s s.released := by
  have hClk : Within releaseParts s (s.setClk (fun c => { c.cpTo false with rootHold := false, waiting := [] })) := within_of_eq_merge rfl
  exact (hClk.trans ((State.syncTxs_within _).mono rfl)).trans ((State.raise_reports _ _ _ _).within.mono rfl)

/-- The accesses that complete leave the clocks. -/
theorem State.rootRelease_clk (s : State) :
    s.rootRelease.clk = { s.clk.cpTo false with rootHold := false, waiting := [] } := by
  rw [State.rootRelease_eq, (Within.foldl State.completeAccess_within _ _).clk rfl, State.released_clk]

/-- Bit `i` of a number whose bit `i` has been cleared. -/
theorem bit_putBit_false (n i : Nat) : bit (putBit n i false) i = false := by
  have hPos : 0 < 2 ^ i := Nat.two_pow_pos i
  unfold putBit
  split
  next h => exact h
  next h =>
    have hOdd : n / 2 ^ i % 2 = 1 := by
      simp only [bit, beq_eq_false_iff_ne, ne_eq] at h
      omega
    have hDiv : (n - 2 ^ i) / 2 ^ i = n / 2 ^ i - 1 := by
      rw [show n - 2 ^ i = n - 2 ^ i * 1 by omega, Nat.sub_mul_div]
    simp only [bit, Bool.false_eq_true, if_false, hDiv, beq_eq_false_iff_ne, ne_eq]
    omega

/-! ### The commands -/

theorem exec_oscAccepted (s : State) : exec .oscAccepted s = .next (
    if !s.clk.oscOn || s.clk.xoOk then s
    else
      let s1 := s.setClk (fun c => { c with xoOk := true, refFailed := false, refSrc := false })
      if s.clk.refSrc then (s1.relock).raise 58 0 0 else s1) := rfl

theorem oscAccepted_completes (s : State) : completesWith .oscAccepted s (fun t =>
    (s.clk.oscOn = false ∨ s.clk.xoOk = true → t = s)
    ∧ (s.clk.oscOn = true → s.clk.xoOk = false → s.clk.refSrc = false →
      t = { s with clk := { s.clk with xoOk := true, refFailed := false } })
    ∧ (s.clk.oscOn = true → s.clk.xoOk = false → s.clk.refSrc = true →
      t.clk.xoOk = true ∧ t.clk.refFailed = false ∧ t.clk.refSrc = false ∧ t.clk.rootLock = false ∧ t.pends 58)
    ∧ t = { s.reporting t with clk := t.clk, line := t.line, fresh := t.fresh }) := by
  refine ⟨_, exec_oscAccepted s, ?_⟩
  simp only []
  split
  next h =>
    have hIdle : s.clk.oscOn = false ∨ s.clk.xoOk = true := by simpa using h
    refine ⟨fun _ => rfl, fun hOn hXo => ?_, fun hOn hXo => ?_, rfl⟩ <;> simp [hOn, hXo] at hIdle
  next h =>
    have hStart : s.clk.oscOn = true ∧ s.clk.xoOk = false := by simpa using h
    obtain ⟨hOn, hXo⟩ := hStart
    set u := s.setClk (fun c => { c with xoOk := true, refFailed := false, refSrc := false }) with hu
    have hClk : Within rootParts s u := within_of_eq_merge rfl
    refine ⟨fun hIdle => by simp [hOn, hXo] at hIdle, fun _ _ hSrc => ?_, fun _ _ hSrc => ?_, ?_⟩
    · rw [hSrc, if_neg Bool.false_ne_true, hu, State.setClk, ← hSrc]
    · obtain ⟨hXoOk, hFailed, hRefSrc, _⟩ := u.relockClk_frame
      rw [hSrc, if_pos rfl, State.raise_clk, State.relock_clk]
      exact ⟨hXoOk, hFailed, hRefSrc, u.relockClk_rootLock, State.raise_pends _ _ _ _⟩
    · have hRelock : Within rootParts s (u.relock.raise 58 0 0) :=
        (hClk.trans u.relock_rootParts).trans ((State.raise_reports _ _ _ _).within.mono rfl)
      exact (Within.ite hRelock hClk).reporting_clk_line_fresh

theorem referenceFail_completes (s : State) : completesWith .referenceFail s (fun t =>
    t.clk = (if !s.clk.xoOk then s.clk
      else if s.tide.state = .anchored ∨ s.tide.state = .slewing then
        { s.clk with xoOk := false, refFailed := true, refSrc := true }
      else { s.clk with xoOk := false, refFailed := true, rootLock := false })
    ∧ (s.clk.xoOk = true → t.pends 56)
    ∧ t = { s.reporting t with clk := t.clk }) := by
  refine ⟨_, rfl, ?_⟩
  split
  next h =>
    have hXo : s.clk.xoOk = false := by simpa using h
    exact ⟨rfl, by simp [hXo], rfl⟩
  next h =>
    have hXo : s.clk.xoOk = true := by simpa using h
    have hFirst := State.raise_pends (s.setClk (fun c => { c with xoOk := false, refFailed := true })) 56 0 0
    have hKeeps (f : Clocks → Clocks) (n : Nat) : (((s.setClk (fun c => { c with xoOk := false, refFailed := true })).raise
        56 0 0).setClk f |>.raise n 0 0).pends 56 := State.raise_pends_of _ _ _ _ _ hFirst
    simp only [hXo, Bool.or_eq_true, decide_eq_true_eq]
    split
    · exact ⟨rfl, fun _ => hKeeps _ _, rfl⟩
    · split
      · exact ⟨rfl, fun _ => hKeeps _ _, rfl⟩
      next hLock =>
        have hUnlocked : s.clk.rootLock = false := by simpa using hLock
        refine ⟨?_, fun _ => hFirst, rfl⟩
        rw [State.raise_clk, State.setClk_clk, ← hUnlocked]

theorem rootUnlock_completes (s : State) : completesWith .rootUnlock s (fun t =>
    t.clk.rootLock = false ∧ (s.clk.rootLock = true → t.pends 57)
    ∧ t = { s.reporting t with clk := t.clk, line := t.line, fresh := t.fresh }) := by
  refine ⟨_, rfl, ?_⟩
  split
  · have hRelock : Within rootParts s (s.relock.raise 57 0 0) :=
      s.relock_rootParts.trans ((State.raise_reports _ _ _ _).within.mono rfl)
    refine ⟨?_, fun _ => State.raise_pends _ _ _ _, hRelock.reporting_clk_line_fresh⟩
    rw [State.raise_clk, State.relock_clk, State.relockClk_rootLock]
  next h => exact ⟨by simpa using h, fun hLock => absurd hLock h, rfl⟩

theorem rootHoldRelease_completes (s : State) : completesWith (.clockHoldRelease none) s (fun t =>
    (s.clk.rootHold = false ∨ s.clk.rootLock = false → t = s)
    ∧ (s.clk.rootHold = true → s.clk.rootLock = true → t.clk.rootHold = false ∧ t.clk.waiting = [])
    ∧ (s.clk.rootHold = true → s.clk.rootLock = true → s.clk.waiting = [] →
      t.clk = { s.clk.cpTo false with rootHold := false } ∧ t.clk.cpOnRef = false ∧ t.pends 59
      ∧ t = { s.reporting t with clk := t.clk, line := t.line })) := by
  have hExec : exec (.clockHoldRelease none) s = .next (if s.clk.rootHold && s.clk.rootLock then s.rootRelease else s) :=
    rfl
  refine ⟨_, hExec, fun hStays => if_neg ?_, fun hHold hLock => ?_, fun hHold hLock hNone => ?_⟩
  · rcases hStays with h | h <;> simp [h]
  · rw [hHold, hLock, Bool.and_self, if_pos rfl, State.rootRelease_clk]
    exact ⟨rfl, rfl⟩
  · have hReleased : s.rootRelease = s.released := by rw [State.rootRelease_eq, hNone, List.foldl_nil]
    have hClk : s.released.clk = { s.clk.cpTo false with rootHold := false } := by
      rw [State.released_clk, ← hNone]
      rfl
    rw [hHold, hLock, Bool.and_self, if_pos rfl, hReleased]
    exact ⟨hClk, by rw [hClk]; rfl, State.raise_pends _ _ _ _, s.released_within.reporting_clk_line⟩

theorem laneHoldRelease_completes (s : State) (l : Lane) : completesWith (.clockHoldRelease (some l)) s (fun t =>
    t.clk = { s.clk with laneHold := if bit s.clk.laneHold l.val then putBit s.clk.laneHold l.val false
      else s.clk.laneHold }
    ∧ (bit s.clk.laneHold l.val = true → t.pends 59 ∧ bit t.clk.laneHold l.val = false)
    ∧ t = { s.reporting t with clk := t.clk }) := by
  refine ⟨_, rfl, ?_⟩
  by_cases h : bit s.clk.laneHold l.val = true
  · simp only [if_pos h]
    exact ⟨rfl, fun _ => ⟨State.raise_pends _ _ _ _, bit_putBit_false _ _⟩, rfl⟩
  · simp only [if_neg h]
    exact ⟨trivial, fun hHold => absurd hHold h, rfl⟩

theorem rootLock_completes {s : State} (hLock : s.clk.rootLock = false) (hRuns : s.clk.running = true)
    (hMoored : s.power.state ≠ .moored) : completesWith .rootLock s (fun t =>
      t.clk = { s.clk with rootLock := true } ∧ t.pends 58 ∧ t = { s.reporting t with clk := t.clk }) := by
  have hExec : exec .rootLock s = .next ((s.setClk (fun c => { c with rootLock := true })).raise 58 0 0) := by
    have hArm : exec .rootLock s = execRootLock s := rfl
    simp [hArm, execRootLock, hLock, hRuns, hMoored]
  exact ⟨_, hExec, rfl, State.raise_pends _ _ _ _, rfl⟩

/-- Settles O8: each command by its own lemma. -/
theorem referenceAndRootCommands : Obligations.ReferenceAndRootCommands := by
  unfold Obligations.ReferenceAndRootCommands
  refine ⟨fun s => ⟨oscAccepted_completes s, ?_, referenceFail_completes s, rootUnlock_completes s,
    rootHoldRelease_completes s, ?_, ⟨_, rfl, ?_⟩⟩, laneHoldRelease_completes, fun s => rootLock_completes⟩
  · have hArm : exec .oscStartTimeout s = execOscStartTimeout s := rfl
    rw [hArm, execOscStartTimeout]
    cases hOn : s.clk.oscOn <;> cases hXo : s.clk.xoOk <;> rfl
  · have hArm : exec .aonRcCalibration s = execAonRcCalibration s := rfl
    rw [hArm, execAonRcCalibration]
    cases s.clk.rootLock <;> rfl
  · split
    · exact ⟨fun _ => State.raise_pends _ _ _ _, rfl⟩
    next h => exact ⟨fun hSteered => absurd hSteered h, rfl⟩

end Sys2Proof.Machine
end

section
/-!
# Loss of the Ethernet reference

A port taken down ends the frame that it receives. Where an upstream lane has begun to send that frame's packet, the
packet gets BAD there (R311), so the line changes too.
-/
namespace Sys2Proof.Machine

/-- Port 0 receives a frame whose packet the upstream Alloc-ID 0 has partly sent, and the Ethernet reference runs. -/
def cutThroughUpstream : State :=
  { clk := { ethRef := true }
    ports := [(0, { link := true, rx := some {} })]
    line := { allocs := [(0, { rest := some {
      queue := 2048, packet := { bytes := [0], writer := 1 }, tier := 0, key := 0 } })] } }

/-- Whether the partly sent packet of Alloc-ID 0 is BAD. -/
def Line.restBad (l : Line) : Bool := (Tab.get {} l.allocs 0 : AllocState).rest.any (fun r => r.packet.bad)

theorem cutThroughUpstream_spoilt :
    (match exec (.clkRefclkLoss true) cutThroughUpstream with
      | .next t => t.line.restBad
      | _ => false) = true := by
  set_option maxRecDepth 20000 in
  decide

/-- Refutes O9: the loss of the Ethernet reference marks a packet BAD that a line lane has begun to send, where the
statement says that the line stays as it is. -/
theorem not_clockSourceCommands : ¬ Obligations.ClockSourceCommands := by
  unfold Obligations.ClockSourceCommands
  intro h
  obtain ⟨_, _, _, ⟨t, hExec, _, _, hFrame⟩, _⟩ := h.1 cutThroughUpstream
  have hLine : t.line = cutThroughUpstream.line := (congrArg State.line hFrame).trans rfl
  have hBad := cutThroughUpstream_spoilt
  rw [hExec] at hBad
  simp only [hLine] at hBad
  exact absurd hBad (by decide)

end Sys2Proof.Machine
end

section
/-!
# What an operation adds

`Adds C s t`: `t` is `s` but for the parts in `C`, and no pending event is taken back. The rules of the operations that
report, of a frame boundary and of the passage of time, and of the packets of the pool, in the order of the model's files.
-/
namespace Sys2Proof.Machine

-- One theorem after another: the stacks of many that wait at once would exceed the memory of the check.
set_option Elab.async false


/-- Every part in `D` is in `C`. -/
def Covers (D C : List Part) : Prop := D.all (C.contains ·) = true

/-- `t` is `s` but for the parts in `C`, and what is pending stays pending. -/
structure Adds (C : List Part) (s t : State) : Prop where
  within : Within C s t
  pending : KeepsPending s t

variable {C D : List Part} {s t u : State}

theorem Adds.refl (C : List Part) (s : State) : Adds C s s := ⟨.refl C s, .refl s⟩

theorem Adds.trans (h : Adds C s t) (k : Adds C t u) : Adds C s u :=
  ⟨h.within.trans k.within, h.pending.trans k.pending⟩

theorem Adds.mono (h : Adds D s t) (hC : Covers D C) : Adds C s t := ⟨h.within.mono hC, h.pending⟩

theorem Adds.ite {c : Prop} [Decidable c] (ht : Adds C s t) (hu : Adds C s u) : Adds C s (if c then t else u) := by
  split
  · exact ht
  · exact hu

theorem Adds.foldl {α : Type} {f : State → α → State} (h : ∀ t x, Adds C t (f t x)) (l : List α) (s : State) :
    Adds C s (l.foldl f s) := ⟨.foldl (fun t x => (h t x).within) l s, .foldl (fun t x => (h t x).pending) l s⟩

/-- An update of parts that leaves the status bits. -/
theorem adds_of_eq (h : t = s.merge C t) (hStatus : t.evt.status = s.evt.status) : Adds C s t :=
  ⟨within_of_eq_merge h, keepsPending_of_status hStatus⟩

/-- An operation that does not touch the event block. -/
theorem Within.adds (h : Within D s t) (hEvt : D.contains .evt = false := by rfl) (hC : Covers D C := by rfl) :
    Adds C s t := ⟨h.mono hC, h.keepsPending hEvt⟩

/-! ### Operations that report -/

theorem State.raise_adds (src obj detail : Nat) (s : State) (hC : Covers reportParts C := by rfl) :
    Adds C s (s.raise src obj detail) :=
  ⟨(State.raise_reports _ _ _ _).within.mono hC, State.raise_keepsPending _ _ _ _⟩

theorem State.raiseWin_adds (n src sub obj detail : Nat) (s : State) (hC : Covers reportParts C := by rfl) :
    Adds C s (s.raiseWin n src sub obj detail) :=
  ⟨(State.raiseWin_reports _ _ _ _ _ _).within.mono hC, State.raiseWin_keepsPending _ _ _ _ _ _⟩

theorem State.count_adds (i n : Nat) (s : State) (hC : Covers reportParts C := by rfl) : Adds C s (s.count i n) :=
  ⟨(State.count_reports _ _ _).within.mono hC, State.count_keepsPending _ _ _⟩

theorem State.inc_adds (i : Nat) (s : State) (hC : Covers reportParts C := by rfl) : Adds C s (s.inc i) :=
  State.count_adds i 1 s hC

theorem State.dcc_adds (n : Nat) (b : DccBody) (s : State) (hC : Covers reportParts C := by rfl) :
    Adds C s (s.dcc n b) := ⟨(State.dcc_reports _ _ _).within.mono hC, keepsPending_of_status rfl⟩

theorem State.logRec_adds (k : Nat) (d : List Byte) (s : State) (hC : Covers reportParts C := by rfl) :
    Adds C s (s.logRec k d) := ⟨(State.logRec_reports _ _ _).within.mono hC, keepsPending_of_status rfl⟩

theorem State.answer_adds (o : Nat) (q : Req) (st : Status) (p : List Byte) (s : State)
    (hC : Covers reportParts C := by rfl) : Adds C s (s.answer o q st p) :=
  ⟨(State.answer_reports _ _ _ _ _).within.mono hC, State.answer_keepsPending _ _ _ _ _⟩

theorem State.complete_adds (m k : Nat) (st : Status) (p : List Byte) (s : State)
    (hC : Covers reportParts C := by rfl) : Adds C s (s.complete m k st p) :=
  ⟨(State.complete_reports _ _ _ _ _).within.mono hC, State.complete_keepsPending _ _ _ _ _⟩

theorem State.answerOn_adds (w : Wait) (st : Status) (p : List Byte) (s : State)
    (hC : Covers reportParts C := by rfl) : Adds C s (s.answerOn w st p) :=
  ⟨(State.answerOn_reports _ _ _ _).within.mono hC, State.answerOn_keepsPending _ _ _ _⟩

/-! ### The passage of time -/

theorem State.idleChange_adds (s : State) : Adds frameRest s s.idleChange := by
  unfold State.idleChange
  split
  · exact .refl _ s
  next idle _ =>
    have hState : Adds frameRest s { s with power := { s.power with
        state := if idle then .idle else .run, idleReq := none } } := adds_of_eq rfl rfl
    exact (hState.trans (State.raise_adds _ _ _ _)).trans (State.answerOn_adds _ _ _ _)

theorem State.laneIdleCheck_adds (s : State) (l : Nat) : Adds frameRest s (s.laneIdleCheck l) := by
  unfold State.laneIdleCheck
  refine .ite ?_ (.refl _ s)
  have hIdle : Adds frameRest s { s with line := { s.line with laneIdle := Tab.set 0 s.line.laneIdle l s.bnd } } :=
    adds_of_eq rfl rfl
  exact hIdle.trans (State.raise_adds _ _ _ _)

theorem State.e1Boundary_adds (s : State) (p : Nat) : Adds frameRest s (s.e1Boundary p) := (s.e1Boundary_within p).adds

theorem State.boundary_adds (s : State) (hC : Covers frameParts C := by rfl) : Adds C s s.boundary := by
  have hBefore : Adds frameRest s
      ((List.range 8).foldl State.e1Boundary ((List.range 4).foldl State.laneIdleCheck s.idleChange)) :=
    (s.idleChange_adds.trans (.foldl State.laneIdleCheck_adds _ _)).trans (.foldl State.e1Boundary_adds _ _)
  have hAfter : Adds frameParts s s.boundary :=
    ((hBefore.mono (C := frameParts) rfl).trans (State.timingTake_within _).adds).trans (State.refresh_within _).adds
  exact hAfter.mono hC

/-- What a boundary and the passage of time leave of Tide: everything but the Tide word and a worker's timing. -/
def Tide.steady (t : Tide) : Tide :=
  { t with frame := 0, tick := 0, timingWest := false, timingNext := none, corr := 0, corrAt := 0 }

theorem Tide.steady_alarms (t : Tide) : t.steady.alarms = t.alarms := rfl
theorem Tide.steady_pulse (t : Tide) : t.steady.pulse = t.pulse := rfl
theorem Tide.steady_state (t : Tide) : t.steady.state = t.state := rfl
theorem Tide.steady_stepCnt (t : Tide) : t.steady.stepCnt = t.stepCnt := rfl
theorem Tide.steady_announced (t : Tide) : t.steady.announced = t.announced := rfl
theorem Tide.steady_stepAt (t : Tide) : t.steady.stepAt = t.stepAt := rfl
theorem Tide.steady_error (t : Tide) : t.steady.error = t.error := rfl

theorem State.timingTake_steady (s : State) : s.timingTake.tide.steady = s.tide.steady := by
  unfold State.timingTake
  split <;> rfl

theorem State.boundary_steady (s : State) : s.boundary.tide.steady = s.tide.steady := by
  have hBefore := s.boundary_before_timing.tide rfl
  rw [State.boundary, (State.refresh_within _).tide rfl, State.timingTake_steady, hBefore]

/-- `s` with elapsed time, the boundary count and Tide put. -/
def State.putTime (now bnd : Nat) (t : Tide) (s : State) : State := { s with now := now, bnd := bnd, tide := t }

theorem State.putTime_adds (now bnd : Nat) (t : Tide) (s : State) : Adds passParts s (s.putTime now bnd t) :=
  adds_of_eq rfl rfl

/-- The state in which Tide has just come to an instant that lies `d` ticks ahead. -/
def State.comeTo (s : State) (d : Nat) : State :=
  let e := s.tide.ticks + d
  s.putTime (s.now + d) (s.bnd + (e / frameTicks - s.tide.frame))
    { s.tide with frame := e / frameTicks % frameWrap, tick := e % frameTicks }

/-- Time passes to an instant or not at all, and where it passes a boundary that has its effects. -/
theorem State.until_cases (x : Nat) (s : State) :
    s.until x = s ∨ ∃ d, s.until x = s.comeTo d ∨ s.until x = (s.comeTo d).boundary := by
  have hUntil : s.until x = (
      let d := (x + (tideMod - s.tide.ticks % tideMod)) % tideMod
      if d = 0 ∨ tideMod / 2 ≤ d ∨ tideRuns s = false then s
      else if (s.comeTo d).bnd = s.bnd then s.comeTo d else (s.comeTo d).boundary) := rfl
  rw [hUntil]
  generalize (x + (tideMod - s.tide.ticks % tideMod)) % tideMod = d
  generalize tideMod / 2 = half
  simp only []
  split
  · exact .inl rfl
  · split
    · exact .inr ⟨d, .inl rfl⟩
    · exact .inr ⟨d, .inr rfl⟩

theorem Tide.steady_word (t : Tide) (frame tick : Nat) :
    ({ t with frame := frame, tick := tick } : Tide).steady = t.steady := rfl

theorem State.comeTo_steady (s : State) (d : Nat) : (s.comeTo d).tide.steady = s.tide.steady :=
  Tide.steady_word _ _ _

theorem State.until_adds (x : Nat) (s : State) (hC : Covers passParts C := by rfl) : Adds C s (s.until x) := by
  refine Adds.mono ?_ hC
  rcases State.until_cases x s with h | ⟨d, h | h⟩ <;> rw [h]
  · exact .refl _ s
  · exact State.putTime_adds _ _ _ s
  · exact (State.putTime_adds _ _ _ s).trans (State.boundary_adds _)

theorem State.until_steady (x : Nat) (s : State) : (s.until x).tide.steady = s.tide.steady := by
  rcases State.until_cases x s with h | ⟨d, h | h⟩ <;> rw [h]
  · exact s.comeTo_steady d
  · rw [State.boundary_steady, State.comeTo_steady]

theorem State.untilNow_adds (e : Option Nat) (s : State) (hC : Covers passParts C := by rfl) :
    Adds C s (s.untilNow e) := by
  unfold State.untilNow
  split
  · exact State.until_adds _ s hC
  · exact .refl _ s

/-! ### Packets -/

/-- What the pool's operations touch, and those that end a packet that is still being written. -/
def poolParts : List Part := [.evt, .host, .ring, .log, .cnt, .out, .pool]
def writeParts : List Part := [.evt, .host, .ring, .log, .cnt, .out, .pool, .ports, .line]

theorem State.qthPost_adds (entry : W32) (obj : Nat) (s : State) (hC : Covers reportParts C := by rfl) :
    Adds C s (s.qthPost entry obj) := by
  refine Adds.mono ?_ hC
  have hEvt (f : Events → Events) (hf : (f s.evt).status = s.evt.status) :
      Adds reportParts s { s with evt := f s.evt } := adds_of_eq rfl hf
  simp only [State.qthPost]
  refine .ite ((hEvt (fun e => { e with qthFifo := e.qthFifo ++ [entry] }) rfl).trans (State.raise_adds _ _ _ _)) ?_
  exact .ite (hEvt (fun e => { e with qthOvf := true }) rfl)
    ((hEvt (fun e => { e with qthOvf := true, qthHush := true }) rfl).trans (State.raise_adds _ _ _ _))

theorem State.modQueue_adds (q : Nat) (f : Queue → Queue) (s : State) (hC : Covers [.pool] C := by rfl) :
    Adds C s (s.modQueue q f) := Adds.mono (D := [.pool]) (adds_of_eq rfl rfl) hC

theorem State.threshold_adds (q : Nat) (s : State) (hC : Covers poolParts C := by rfl) : Adds C s (s.threshold q) := by
  refine Adds.mono ?_ hC
  simp only [State.threshold]
  refine .ite (State.modQueue_adds _ _ s) (.ite (.refl _ s) (.ite (State.modQueue_adds _ _ s) (.ite (.ite ?_ ?_) ?_)))
  · exact ((State.modQueue_adds _ _ s).trans (State.modQueue_adds _ _ _)).trans (State.qthPost_adds _ _ _)
  · exact (State.modQueue_adds _ _ s).trans (State.qthPost_adds _ _ _)
  · exact ((State.modQueue_adds _ _ s).trans (State.raise_adds _ _ _ _)).trans (State.dcc_adds _ _ _)

theorem State.poolLow_adds (s : State) (hC : Covers poolParts C := by rfl) : Adds C s s.poolLow := by
  refine Adds.mono ?_ hC
  have hLow : Adds poolParts s
      { s with pool := { s.pool with low := decide (s.pool.free < s.unmet 4 + 4096) } } := adds_of_eq rfl rfl
  exact .ite (hLow.trans (State.raise_adds _ _ _ _)) hLow

theorem State.eccRead_adds (e : Ecc) (obj : Nat) (s : State) (hC : Covers reportParts C := by rfl) :
    Adds C s (s.eccRead e obj) := by
  unfold State.eccRead
  split
  · exact .refl _ s
  · exact (State.inc_adds _ s hC).trans (State.raiseWin_adds _ _ _ _ _ _ hC)
  · exact (State.inc_adds _ s hC).trans (State.raise_adds _ _ _ _ hC)

theorem State.takeQueued_adds (n : Nat) (s : State) (hC : Covers [.pool] C := by rfl) : Adds C s (s.takeQueued n) :=
  Adds.mono (D := [.pool]) (adds_of_eq rfl rfl) hC

theorem State.freeQueued_adds (n : Nat) (s : State) (hC : Covers [.pool] C := by rfl) : Adds C s (s.freeQueued n) :=
  Adds.mono (D := [.pool]) (adds_of_eq rfl rfl) hC

theorem State.queueDrop_adds (q n : Nat) (s : State) (hC : Covers reportParts C := by rfl) :
    Adds C s (s.queueDrop q n) := State.count_adds _ _ s hC

/-- The threshold and the low-water mark follow a change of the pool. -/
theorem Adds.settle (h : Adds poolParts s t) (q : Nat) (hC : Covers poolParts C := by rfl) :
    Adds C s (t.threshold q).poolLow :=
  ((h.trans (State.threshold_adds q t)).trans (State.poolLow_adds _)).mono hC

theorem State.link_adds (q : Nat) (p : Packet) (s : State) (hC : Covers poolParts C := by rfl) :
    Adds C s (s.link q p) :=
  ((State.modQueue_adds _ _ s).trans (State.takeQueued_adds _ _)).settle q hC

theorem State.refusedCell_adds (q owner : Nat) (x : Take) (s : State) (hC : Covers reportParts C := by rfl) :
    Adds C s (s.refusedCell q owner x) := by
  have hQuota : Adds C s (if x = .quota then s.raiseWin 8000 263 owner (objId 0 0xD (owner - 1)) 0 else s) :=
    .ite (State.raiseWin_adds _ _ _ _ _ s hC) (.refl _ s)
  exact .ite (hQuota.trans (State.raiseWin_adds _ _ _ _ _ _ hC)) hQuota

theorem State.offer_adds (q : Nat) (p : Packet) (s : State) (hC : Covers poolParts C := by rfl) :
    Adds C s (s.offer q p).1 := by
  refine Adds.mono ?_ hC
  simp only [State.offer]
  split
  · exact State.inc_adds _ s
  · split
    · exact State.queueDrop_adds _ _ s
    · split
      · exact State.queueDrop_adds _ _ s
      · split
        · exact State.queueDrop_adds _ _ s
        · split
          · exact State.link_adds _ _ s
          · exact (State.queueDrop_adds _ _ s).trans (State.refusedCell_adds _ _ _ _)
          · exact (State.queueDrop_adds _ _ s).trans (State.refusedCell_adds _ _ _ _)

theorem State.offerUp_adds (q cls : Nat) (p : Packet) (s : State) (hC : Covers poolParts C := by rfl) :
    Adds C s (s.offerUp q cls p).1 := by
  unfold State.offerUp
  split
  · exact State.offer_adds _ _ s hC
  · exact State.offer_adds _ _ s hC

theorem State.freePacket_adds (q : Nat) (p : Packet) (s : State) (hC : Covers poolParts C := by rfl) :
    Adds C s (s.freePacket q p) := (State.freeQueued_adds _ s).settle q hC

theorem State.removeAll_adds (q : Nat) (gone keep : List Packet) (s : State) (hC : Covers poolParts C := by rfl) :
    Adds C s (s.removeAll q gone keep) :=
  ((State.modQueue_adds _ _ s).trans (State.freeQueued_adds _ _)).settle q hC

theorem State.mapWriter_adds (w : Nat) (f : Packet → Packet) (s : State) (hC : Covers writeParts C := by rfl) :
    Adds C s (s.mapWriter w f) := Adds.mono (D := writeParts) (adds_of_eq rfl rfl) hC

theorem State.endWrite_adds (w : Nat) (bad trunc : Bool) (s : State) (hC : Covers writeParts C := by rfl) :
    Adds C s (s.endWrite w bad trunc) := by
  refine Adds.mono ?_ hC
  simp only [State.endWrite]
  split
  · exact .refl _ s
  next q p _ _ =>
    have hMap := State.mapWriter_adds (C := writeParts) w
      (fun p => { p with writer := 0, check := crc32c p.bytes, bad := p.bad || bad, trunc := p.trunc || trunc }) s
    exact .ite hMap (hMap.trans (((State.freeQueued_adds _ _).settle q (C := poolParts)).mono rfl))

theorem State.dropWrite_adds (w q : Nat) (p : Packet) (s : State) (hC : Covers poolParts C := by rfl) :
    Adds C s (s.dropWrite w q p) :=
  ((State.modQueue_adds _ _ s).trans (State.freeQueued_adds _ _)).settle q hC

theorem State.spoilWrite_adds (w : Nat) (s : State) (hC : Covers writeParts C := by rfl) :
    Adds C s (s.spoilWrite w) := by
  refine Adds.mono ?_ hC
  unfold State.spoilWrite
  split
  · exact .refl _ s
  · exact .ite (State.endWrite_adds _ _ _ s) (State.dropWrite_adds _ _ _ s)

theorem State.moreWrite_adds (w : Nat) (b : List Byte) (s : State) (hC : Covers writeParts C := by rfl) :
    Adds C s (s.moreWrite w b).1 := by
  refine Adds.mono ?_ hC
  have hRefused (q owner : Nat) (x : Take) :
      Adds writeParts s (((s.spoilWrite w).queueDrop q 1).refusedCell q owner x) :=
    ((State.spoilWrite_adds w s).trans (State.queueDrop_adds _ _ _)).trans (State.refusedCell_adds _ _ _ _)
  unfold State.moreWrite
  split
  · exact .refl _ s
  · simp only []
    split
    · exact (State.mapWriter_adds _ _ s).trans (((State.takeQueued_adds _ _).settle _ (C := poolParts)).mono rfl)
    · exact hRefused _ _ _
    · exact hRefused _ _ _

theorem State.modPort_adds (p : Nat) (f : Port → Port) (s : State) (hC : Covers [.ports] C := by rfl) :
    Adds C s (s.modPort p f) := Adds.mono (D := [.ports]) (adds_of_eq rfl rfl) hC

theorem State.setRx_adds (p : Nat) (fin : Bool) (x : RxFrame) (s : State) (hC : Covers [.ports] C := by rfl) :
    Adds C s (s.setRx p fin x) := State.modPort_adds _ _ s hC

theorem State.loseRx_adds (p : Nat) (fin : Bool) (s : State) (hC : Covers writeParts C := by rfl) :
    Adds C s (s.loseRx p fin) :=
  ((State.spoilWrite_adds _ s).trans (State.setRx_adds _ _ _ _ (C := writeParts))).mono hC

theorem State.flushNow_adds (q n : Nat) (s : State) (hC : Covers poolParts C := by rfl) :
    Adds C s (s.flushNow q n) :=
  (((State.modQueue_adds _ _ s).trans (State.removeAll_adds _ _ _ _)).trans
    (State.count_adds _ _ _ (C := poolParts))).mono hC

theorem State.flushPoint_adds (q : Nat) (s : State) (hC : Covers poolParts C := by rfl) :
    Adds C s (s.flushPoint q) :=
  Adds.mono (.ite (State.modQueue_adds _ _ s) (State.flushNow_adds _ _ s)) hC

theorem State.flushWaiting_adds (q : Nat) (s : State) (hC : Covers poolParts C := by rfl) :
    Adds C s (s.flushWaiting q) := by
  unfold State.flushWaiting
  split
  · exact .refl _ s
  · exact .ite (.refl _ s) (State.flushNow_adds _ _ s hC)

end Sys2Proof.Machine
end

section
/-!
# What the operations of the scheduler, of the E1 ports and of Tide add
-/
namespace Sys2Proof.Machine

-- One theorem after another: the stacks of many that wait at once would exceed the memory of the check.
set_option Elab.async false

variable {C : List Part}

/-! ### Sched -/

theorem State.endTurn_adds (q : Nat) (s : State) (hC : Covers [.sched] C := by rfl) : Adds C s (s.endTurn q) := by
  refine Adds.mono ?_ hC
  exact .ite (adds_of_eq rfl rfl) (.refl _ s)

theorem State.putGate_adds (p : Nat) (g : Gate) (s : State) (hC : Covers [.sched] C := by rfl) :
    Adds C s (s.putGate p g) := by
  have hMod : Adds [.sched] s (s.modGate p (fun _ => g)) := adds_of_eq rfl rfl
  exact (hMod.trans (.foldl (fun t c => .ite (.refl _ t) (State.endTurn_adds _ t)) _ _)).mono hC

/-- What a step does to the gates touches. -/
def gateParts : List Part := [.evt, .host, .ring, .log, .cnt, .out, .sched]

theorem State.gatesStep_adds (s : State) (hC : Covers gateParts C := by rfl) : Adds C s s.gatesStep := by
  refine Adds.mono (.foldl (fun t p => ?_) _ s) hC
  simp only []
  split
  · exact .ite ((State.putGate_adds _ _ t).trans (State.raise_adds _ _ _ _)) (State.putGate_adds _ _ t)
  · exact State.putGate_adds _ _ t

theorem State.wheelStep_adds (s : State) (hC : Covers [.pool] C := by rfl) : Adds C s s.wheelStep := by
  refine Adds.mono (.foldl (fun t q => ?_) _ s) hC
  split
  · exact State.modQueue_adds _ _ t
  · exact .refl _ t

/-! ### E1 -/

theorem State.e1Event_adds (p k detail : Nat) (s : State) (hC : Covers reportParts C := by rfl) :
    Adds C s (s.e1Event p k detail) := State.raise_adds _ _ _ s hC

theorem State.modE1_adds (p : Nat) (f : E1 → E1) (s : State) (hC : Covers [.e1s] C := by rfl) :
    Adds C s (s.modE1 p f) := Adds.mono (D := [.e1s]) (adds_of_eq rfl rfl) hC

theorem State.slipRestart_adds (p : Nat) (s : State) (hC : Covers [.e1s, .fresh] C := by rfl) :
    Adds C s (s.slipRestart p) := Adds.mono (D := [.e1s, .fresh]) (adds_of_eq rfl rfl) hC

theorem State.e1Slip_adds (p i : Nat) (s : State) (hC : Covers reportParts C := by rfl) : Adds C s (s.e1Slip p i) :=
  (State.inc_adds _ s hC).trans (State.e1Event_adds _ _ _ _ hC)

/-- What playout touches. -/
def playParts : List Part := [.evt, .host, .ring, .log, .cnt, .out, .pool, .e1s]

theorem State.cesRestart_adds (p : Nat) (s : State) (hC : Covers playParts C := by rfl) : Adds C s (s.cesRestart p) :=
  Adds.mono (D := playParts) ((State.modE1_adds _ _ s).trans (State.removeAll_adds _ _ _ _)) hC

/-- What a Tide step does to the E1 ports touches. -/
def e1StepParts : List Part := [.evt, .host, .ring, .log, .cnt, .out, .pool, .e1s, .fresh]

theorem State.e1Step_adds (s : State) (hC : Covers e1StepParts C := by rfl) : Adds C s s.e1Step := by
  refine Adds.mono (.foldl (fun t p => .ite ?_ (.refl _ t)) _ s) hC
  exact ((State.slipRestart_adds _ t).trans (State.e1Slip_adds _ _ _)).trans (State.cesRestart_adds _ _)

/-! ### Snapshots and alarms -/

/-- What an alarm touches. -/
def alarmParts : List Part := [.evt, .host, .ring, .log, .cnt, .out, .tide, .fresh, .snap]

/-- What a snapshot touches. -/
def snapParts : List Part := [.evt, .host, .ring, .log, .cnt, .out, .fresh, .snap]

theorem State.takeSnapshot_adds (asker : Option Nat) (s : State) (hC : Covers snapParts C := by rfl) :
    Adds C s (s.takeSnapshot asker) := by
  refine Adds.mono ?_ hC
  exact .ite (.refl _ s) (.ite (State.raise_adds _ _ _ s) (adds_of_eq rfl rfl))

/-- The alarm as it stands after it has fired. -/
def Alarm.afterFire (t : Nat) (a : Alarm) : Alarm := if a.period = 0 then { a with fired := true } else a.following t

theorem State.modAlarm_adds (k : Nat) (f : Alarm → Alarm) (s : State) (hC : Covers [.tide] C := by rfl) :
    Adds C s (s.modAlarm k f) := Adds.mono (D := [.tide]) (adds_of_eq rfl rfl) hC

/-- An alarm that fires moves to its next target, and then reports. -/
theorem State.fireAlarm_reports (k : Nat) (late : Bool) (s : State) :
    Adds snapParts (s.modAlarm k (Alarm.afterFire s.tide.ticks)) (s.fireAlarm k late) := by
  set s1 := s.modAlarm k (Alarm.afterFire s.tide.ticks)
  have hEvent : Adds snapParts s1 (if (s.alarm k).event && decide (48 ≤ k) then s1.raise (40 + (k - 48)) 0 0 else s1) :=
    .ite (State.raise_adds _ _ _ _) (.refl _ _)
  have hLate (t : State) (h : Adds snapParts s1 t) : Adds snapParts s1 (if late then t.raise 39 0 0 else t) :=
    .ite (h.trans (State.raise_adds _ _ _ _)) h
  exact .ite ((hLate _ hEvent).trans (State.takeSnapshot_adds _ _)) (hLate _ hEvent)

theorem State.fireAlarm_adds (k : Nat) (late : Bool) (s : State) (hC : Covers alarmParts C := by rfl) :
    Adds C s (s.fireAlarm k late) :=
  Adds.mono (D := alarmParts) ((State.modAlarm_adds _ _ s).trans ((s.fireAlarm_reports k late).mono rfl)) hC

theorem State.alarmDue_adds (s : State) (k : Nat) (hC : Covers alarmParts C := by rfl) : Adds C s (s.alarmDue k) :=
  .ite (State.fireAlarm_adds _ _ s hC) (.refl _ s)

theorem State.alarmStep_adds (old : Nat) (s : State) (k : Nat) (hC : Covers alarmParts C := by rfl) :
    Adds C s (s.alarmStep old k) := by
  refine Adds.mono (D := alarmParts) ?_ hC
  exact .ite (.refl _ s) (.ite (.ite (State.fireAlarm_adds _ _ s) (.refl _ s))
    (.ite (.refl _ s) (State.modAlarm_adds _ _ s)))

theorem State.alarmsStep_adds (old : Nat) (s : State) (hC : Covers alarmParts C := by rfl) :
    Adds C s (s.alarmsStep old) := .foldl (fun t k => State.alarmStep_adds old t k hC) _ s

/-- What alarms leave of Tide: everything but the alarms. -/
def Tide.besideAlarms (t : Tide) : Tide := { t with alarms := [] }

theorem State.modAlarm_besideAlarms (k : Nat) (f : Alarm → Alarm) (s : State) :
    (s.modAlarm k f).tide.besideAlarms = s.tide.besideAlarms := rfl

theorem State.fireAlarm_besideAlarms (k : Nat) (late : Bool) (s : State) :
    (s.fireAlarm k late).tide.besideAlarms = s.tide.besideAlarms := by
  rw [(s.fireAlarm_reports k late).within.tide rfl, State.modAlarm_besideAlarms]

theorem State.alarmStep_besideAlarms (old : Nat) (s : State) (k : Nat) :
    (s.alarmStep old k).tide.besideAlarms = s.tide.besideAlarms := by
  simp only [State.alarmStep]
  split
  · rfl
  · split
    · split
      · exact State.fireAlarm_besideAlarms _ _ s
      · rfl
    · split
      · rfl
      · exact State.modAlarm_besideAlarms _ _ s

theorem State.alarmsStep_besideAlarms (old : Nat) (s : State) :
    (s.alarmsStep old).tide.besideAlarms = s.tide.besideAlarms :=
  List.foldlRecOn (motive := fun (t : State) => t.tide.besideAlarms = s.tide.besideAlarms) _ _ rfl
    (fun t ht k _ => (State.alarmStep_besideAlarms old t k).trans ht)

/-! ### TIDE_PULSE and the states of Tide -/

theorem State.setPulse_adds (f : Pulse → Pulse) (s : State) (hC : Covers [.tide] C := by rfl) :
    Adds C s (s.setPulse f) := Adds.mono (D := [.tide]) (adds_of_eq rfl rfl) hC

theorem State.emit_adds (e : Emission) (s : State) (hC : Covers [.out] C := by rfl) : Adds C s (s.emit e) :=
  Adds.mono (D := [.out]) (adds_of_eq rfl rfl) hC

theorem State.setClk_adds (f : Clocks → Clocks) (s : State) (hC : Covers [.clk] C := by rfl) : Adds C s (s.setClk f) :=
  Adds.mono (D := [.clk]) (adds_of_eq rfl rfl) hC

theorem State.setTide_adds (f : Tide → Tide) (s : State) (hC : Covers [.tide] C := by rfl) : Adds C s (s.setTide f) :=
  Adds.mono (D := [.tide]) (adds_of_eq rfl rfl) hC

/-- What the pulse touches. -/
def pulseParts : List Part := [.evt, .host, .ring, .log, .cnt, .out, .tide]

theorem State.pulseLow_adds (s : State) (hC : Covers [.tide, .out] C := by rfl) : Adds C s s.pulseLow :=
  Adds.mono (D := [.tide, .out]) (.ite ((State.setPulse_adds _ s).trans (State.emit_adds _ _)) (.refl _ s)) hC

theorem State.pulseHigh_adds (fall : Nat) (s : State) (hC : Covers [.tide, .out] C := by rfl) :
    Adds C s (s.pulseHigh fall) :=
  Adds.mono (D := [.tide, .out])
    (.ite (State.setPulse_adds _ s) ((State.setPulse_adds _ s).trans (State.emit_adds _ _))) hC

theorem State.pulseHold_adds (s : State) (hC : Covers [.tide, .out] C := by rfl) : Adds C s s.pulseHold :=
  .ite (.refl _ s) (State.pulseLow_adds s hC)

theorem State.pulseStep_adds (old : Nat) (s : State) (hC : Covers pulseParts C := by rfl) :
    Adds C s (s.pulseStep old) := by
  refine Adds.mono (D := pulseParts) ?_ hC
  have hPulse (fall : Nat) (c : Bool) :
      Adds pulseParts s (if c then (s.pulseHigh fall).raise 39 0 0 else s.pulseLow) :=
    .ite ((State.pulseHigh_adds _ s).trans (State.raise_adds _ _ _ _)) (State.pulseLow_adds s)
  exact .ite ((hPulse _ _).trans (State.setPulse_adds _ _)) (hPulse _ _)

theorem State.pulseLoad_adds (s : State) (hC : Covers [.tide] C := by rfl) : Adds C s s.pulseLoad :=
  .ite (State.setPulse_adds _ s hC) (.refl _ s)

/-- What the pulse leaves of Tide: everything but the pulse. -/
def Tide.besidePulse (t : Tide) : Tide := { t with pulse := {} }

theorem State.setPulse_besidePulse (f : Pulse → Pulse) (s : State) :
    (s.setPulse f).tide.besidePulse = s.tide.besidePulse := rfl

theorem State.pulseLow_besidePulse (s : State) : s.pulseLow.tide.besidePulse = s.tide.besidePulse := by
  unfold State.pulseLow
  split <;> rfl

theorem State.pulseHigh_besidePulse (fall : Nat) (s : State) :
    (s.pulseHigh fall).tide.besidePulse = s.tide.besidePulse := by
  simp only [State.pulseHigh]
  split <;> rfl

theorem State.pulseHold_besidePulse (s : State) : s.pulseHold.tide.besidePulse = s.tide.besidePulse := by
  unfold State.pulseHold
  split
  · rfl
  · exact s.pulseLow_besidePulse

theorem State.pulseStep_besidePulse (old : Nat) (s : State) :
    (s.pulseStep old).tide.besidePulse = s.tide.besidePulse := by
  have hPulse (fall : Nat) (c : Bool) :
      (if c then (s.pulseHigh fall).raise 39 0 0 else s.pulseLow).tide.besidePulse = s.tide.besidePulse := by
    split
    · exact s.pulseHigh_besidePulse fall
    · exact s.pulseLow_besidePulse
  simp only [State.pulseStep]
  split
  · rw [State.setPulse_besidePulse, hPulse]
  · exact hPulse _ _

theorem State.pulseLoad_besidePulse (s : State) : s.pulseLoad.tide.besidePulse = s.tide.besidePulse := by
  unfold State.pulseLoad
  split <;> rfl

theorem State.syncTo_adds (n : Nat) (s : State) : Adds [.ring] s (s.syncTo n) := adds_of_eq rfl rfl

/-- The TIDE_SYNC messages touch the ring alone. -/
theorem State.syncAll_adds (s : State) (hC : Covers [.ring] C := by rfl) : Adds C s s.syncAll := by
  refine Adds.mono (D := [.ring]) ?_ hC
  exact .ite (.foldl (fun t n => State.syncTo_adds n t) _ s) (.refl _ s)

theorem State.relock_adds (s : State) (hC : Covers rootParts C := by rfl) : Adds C s s.relock := by
  refine ⟨s.relock_rootParts.mono hC, keepsPending_of_status ?_⟩
  rw [s.relock_within.evt rfl]

theorem State.anchorRoot_adds (s : State) (hC : Covers rootParts C := by rfl) : Adds C s s.anchorRoot := by
  refine Adds.mono (D := rootParts) ?_ hC
  have hSteer : Adds rootParts s (s.setClk (fun c => { c with steered := true, refSrc := c.refFailed })) :=
    State.setClk_adds _ s
  exact .ite ((hSteer.trans (State.relock_adds _)).trans (State.raise_adds _ _ _ _)) hSteer

/-- The root's clocks once it is steered to the anchor lane. -/
theorem State.anchorRoot_clk (s : State) : s.anchorRoot.clk.steered = true ∧ s.anchorRoot.clk.refSrc = s.clk.refFailed
    ∧ (s.clk.refFailed = false ∨ s.clk.refSrc = true →
        s.anchorRoot.clk = { s.clk with steered := true, refSrc := s.clk.refFailed }) := by
  simp only [State.anchorRoot]
  split
  next h =>
    have hChange : s.clk.refFailed = true ∧ s.clk.refSrc = false := by simpa using h
    obtain ⟨hFailed, hSrc⟩ := hChange
    obtain ⟨_, _, hRef, hSteered⟩ :=
      (s.setClk (fun c => { c with steered := true, refSrc := c.refFailed })).relockClk_frame
    rw [State.raise_clk, State.relock_clk]
    exact ⟨hSteered, hRef, fun hStays => by simp [hFailed, hSrc] at hStays⟩
  · exact ⟨rfl, rfl, fun _ => rfl⟩

theorem State.anchorRoot_tide (s : State) : s.anchorRoot.tide = s.tide :=
  (s.anchorRoot_adds (C := rootParts)).within.tide rfl

/-- What anchoring touches. -/
def anchorParts : List Part := [.evt, .host, .ring, .log, .cnt, .out, .clk, .line, .fresh, .tide]

/-- Tide in ANCHORED, without an error. -/
def Tide.anchored (t : Tide) : Tide := { t with state := .anchored, error := 0 }.holdClear

theorem State.enterAnchored_eq (s : State) : s.enterAnchored = (s.anchorRoot.setTide Tide.anchored).raise 32 0 0 := rfl

theorem State.enterAnchored_adds (s : State) (hC : Covers anchorParts C := by rfl) : Adds C s s.enterAnchored :=
  Adds.mono (D := anchorParts)
    (((State.anchorRoot_adds s).trans (State.setTide_adds _ _)).trans (State.raise_adds _ _ _ _)) hC

theorem State.enterAnchored_tide (s : State) : s.enterAnchored.tide = s.tide.anchored := by
  rw [State.enterAnchored_eq, State.raise_tide, State.setTide, State.anchorRoot_tide]

theorem State.enterAnchored_clk (s : State) : s.enterAnchored.clk = s.anchorRoot.clk := rfl

theorem State.enterAnchored_pends (s : State) : s.enterAnchored.pends 32 := State.raise_pends _ _ _ _

/-- A new Tide word and the boundary with it. -/
theorem State.putTide_adds (frame tick : Nat) (s : State) (hC : Covers passParts C := by rfl) :
    Adds C s (s.putTide frame tick) :=
  Adds.mono (D := passParts) ((State.putTime_adds _ _ _ s).trans (State.boundary_adds _)) hC

theorem State.putTide_word (frame tick : Nat) (s : State) :
    (s.putTide frame tick).tide.frame = frame % frameWrap ∧ (s.putTide frame tick).tide.tick = tick % frameTicks :=
  State.boundary_tide _

theorem State.putTide_steady (frame tick : Nat) (s : State) :
    (s.putTide frame tick).tide.steady = s.tide.steady := State.boundary_steady _

end Sys2Proof.Machine
end

section
/-!
# Comparators and TIDE_PULSE

Every comparator that is due fires once, whatever the others do (R54 to R58), and the pulse (R62 to R67).
-/
namespace Sys2Proof.Machine

-- One theorem after another: the stacks of many that wait at once would exceed the memory of the check.
set_option Elab.async false

/-! ### The comparators -/

/-- Comparator `k` is armed and Tide has reached its target. -/
def State.due (s : State) (k : Nat) : Prop := (s.alarm k).armed = true ∧ (s.alarm k).target ≤ s.tide.ticks

theorem State.alarmDue_of_due {s : State} {k : Nat} (h : s.due k) : s.alarmDue k = s.fireAlarm k false := by
  obtain ⟨hArmed, hTarget⟩ := h
  exact if_pos (by simp [hArmed, hTarget])

theorem State.alarmDue_of_not_due {s : State} {k : Nat} (h : ¬ s.due k) : s.alarmDue k = s := by
  refine if_neg (fun hFires => h ?_)
  simpa [State.due] using hFires

theorem State.alarm_modAlarm (k j : Nat) (f : Alarm → Alarm) (s : State) :
    (s.modAlarm k f).alarm j = if j = k then f (s.alarm k) else s.alarm j := by
  by_cases h : j = k
  · rw [if_pos h, h]
    exact Tab.get_modify_same ({} : Alarm) _ k f
  · rw [if_neg h]
    exact Tab.get_modify_other ({} : Alarm) _ f h

theorem State.alarm_fireAlarm (k j : Nat) (late : Bool) (s : State) :
    (s.fireAlarm k late).alarm j = if j = k then Alarm.afterFire s.tide.ticks (s.alarm k) else s.alarm j := by
  have hTide := (s.fireAlarm_reports k late).within.tide rfl
  rw [State.alarm, hTide, ← State.alarm, State.alarm_modAlarm]

theorem Tide.ticks_besideAlarms (t : Tide) : t.besideAlarms.ticks = t.ticks := rfl

theorem State.fireAlarm_ticks (k : Nat) (late : Bool) (s : State) : (s.fireAlarm k late).tide.ticks = s.tide.ticks := by
  rw [← Tide.ticks_besideAlarms, State.fireAlarm_besideAlarms, Tide.ticks_besideAlarms]

theorem State.alarmDue_ticks (s : State) (k : Nat) : (s.alarmDue k).tide.ticks = s.tide.ticks := by
  unfold State.alarmDue
  split
  · exact State.fireAlarm_ticks _ _ s
  · rfl

theorem State.alarm_alarmDue_other {s : State} {k j : Nat} (h : j ≠ k) : (s.alarmDue k).alarm j = s.alarm j := by
  unfold State.alarmDue
  split
  · rw [State.alarm_fireAlarm, if_neg h]
  · rfl

theorem State.alarmsDue_ticks (l : List Nat) (s : State) : (l.foldl State.alarmDue s).tide.ticks = s.tide.ticks :=
  List.foldlRecOn (motive := fun (t : State) => t.tide.ticks = s.tide.ticks) _ _ rfl
    (fun t ht k _ => (t.alarmDue_ticks k).trans ht)

theorem State.alarmsDue_other {l : List Nat} {j : Nat} (h : j ∉ l) (s : State) :
    (l.foldl State.alarmDue s).alarm j = s.alarm j :=
  List.foldlRecOn (motive := fun (t : State) => t.alarm j = s.alarm j) _ _ rfl
    (fun t ht k hk => (State.alarm_alarmDue_other (fun hjk => h (by rwa [hjk]))).trans ht)

theorem State.alarmsDue_of_not_due {l : List Nat} {j : Nat} {s : State} (h : ¬ s.due j) :
    (l.foldl State.alarmDue s).alarm j = s.alarm j := by
  refine (List.foldlRecOn (motive := fun (t : State) => t.alarm j = s.alarm j ∧ t.tide.ticks = s.tide.ticks) l _
    ⟨rfl, rfl⟩ (fun t ht k _ => ⟨?_, (t.alarmDue_ticks k).trans ht.2⟩)).1
  by_cases hjk : j = k
  · subst hjk
    have hNot : ¬ t.due j := by rwa [State.due, ht.1, ht.2]
    rw [State.alarmDue_of_not_due hNot, ht.1]
  · rw [State.alarm_alarmDue_other hjk, ht.1]

/-- A comparator that is due when its turn comes fires with its event, and no other turn undoes it. -/
theorem State.alarmsDue_of_due {l : List Nat} (hl : l.Nodup) {j : Nat} (hj : j ∈ l) {s : State} (h : s.due j) :
    (l.foldl State.alarmDue s).alarm j = Alarm.afterFire s.tide.ticks (s.alarm j)
    ∧ ((s.alarm j).event = true → 48 ≤ j → (l.foldl State.alarmDue s).pends (40 + (j - 48))) := by
  induction l generalizing s with
  | nil => cases hj
  | cons k l ih =>
    obtain ⟨hk, hNodup⟩ := List.nodup_cons.mp hl
    rw [List.foldl_cons]
    by_cases hjk : j = k
    · subst hjk
      rw [State.alarmDue_of_due h]
      refine ⟨?_, fun hEvent hHost => ?_⟩
      · rw [State.alarmsDue_other hk, State.alarm_fireAlarm, if_pos rfl]
      · have hRest := Adds.foldl (C := alarmParts) (fun t k => State.alarmDue_adds t k) l (s.fireAlarm j false)
        refine hRest.pending _ ?_
        have hCond : ((s.alarm j).event && decide (48 ≤ j)) = true := by simp [hEvent, hHost]
        simp only [State.fireAlarm, hCond, if_true, Bool.false_eq_true, if_false]
        exact (KeepsPending.ite (State.takeSnapshot_adds (C := snapParts) _ _).pending (.refl _)) _
          (State.raise_pends _ _ _ _)
    · have hSame : (s.alarmDue k).alarm j = s.alarm j := State.alarm_alarmDue_other hjk
      have hDue : (s.alarmDue k).due j := by rwa [State.due, hSame, State.alarmDue_ticks]
      have hStep := ih hNodup ((List.mem_cons.mp hj).resolve_left hjk) hDue
      rwa [hSame, State.alarmDue_ticks] at hStep

/-- The passage of time leaves the comparators. -/
theorem State.until_alarm (x : Nat) (s : State) (k : Nat) : (s.until x).alarm k = s.alarm k := by
  have hAlarms : (s.until x).tide.alarms = s.tide.alarms := by
    rw [← Tide.steady_alarms, State.until_steady, Tide.steady_alarms]
  exact congrArg (fun a => Tab.get ({} : Alarm) a k) hAlarms

/-- What the comparators touch when an instant comes. -/
def alarmTimeParts : List Part :=
  [.evt, .host, .ring, .log, .cnt, .out, .now, .bnd, .power, .tide, .line, .e1s, .craft, .fresh, .snap]

theorem Within.passing_fresh_snap {s t : State} (h : Within alarmTimeParts s t) :
    t = { s.passing t with fresh := t.fresh, snap := t.snap } := h.eq_merge

/-- The state after every comparator that is due when Tide reaches the target of comparator `k`. -/
def State.afterAlarm (k : Nat) (s : State) : State :=
  (List.range 64).foldl State.alarmDue (s.until (s.alarm k).target)

theorem exec_tideAlarm (k : Fin 64) (s : State) :
    exec (.tideAlarm k) s = .next (if (s.alarm k.val).armed then s.afterAlarm k.val else s) := rfl

theorem State.afterAlarm_ticks (k : Nat) (s : State) :
    (s.afterAlarm k).tide.ticks = (s.until (s.alarm k).target).tide.ticks := State.alarmsDue_ticks _ _

theorem State.afterAlarm_within (k : Nat) (s : State) : Within alarmTimeParts s (s.afterAlarm k) :=
  ((State.until_adds _ s).trans (.foldl (fun t k => State.alarmDue_adds t k) _ _)).within

theorem State.afterAlarm_of_due {s : State} {k j : Nat} (hj : j < 64) (hArmed : (s.alarm j).armed = true)
    (hTarget : (s.alarm j).target ≤ (s.afterAlarm k).tide.ticks) :
    (s.afterAlarm k).alarm j = Alarm.afterFire (s.afterAlarm k).tide.ticks (s.alarm j)
    ∧ ((s.alarm j).event = true → 48 ≤ j → (s.afterAlarm k).pends (40 + (j - 48))) := by
  have hSame := State.until_alarm (s.alarm k).target s j
  have hDue : (s.until (s.alarm k).target).due j := by
    rw [State.due, hSame]
    exact ⟨hArmed, by rwa [State.afterAlarm_ticks] at hTarget⟩
  have h := State.alarmsDue_of_due List.nodup_range (List.mem_range.mpr hj) hDue
  rwa [hSame, ← State.afterAlarm_ticks] at h

theorem State.afterAlarm_of_not_due {s : State} {k j : Nat}
    (h : (s.alarm j).armed = false ∨ (s.afterAlarm k).tide.ticks < (s.alarm j).target) :
    (s.afterAlarm k).alarm j = s.alarm j := by
  have hSame := State.until_alarm (s.alarm k).target s j
  have hNot : ¬ (s.until (s.alarm k).target).due j := by
    rw [State.due, hSame, ← State.afterAlarm_ticks]
    rintro ⟨hArmed, hTarget⟩
    rcases h with h | h
    · rw [h] at hArmed
      cases hArmed
    · omega
  rw [State.afterAlarm, State.alarmsDue_of_not_due hNot, hSame]

/-! ### The pulse -/

theorem State.until_pulse (x : Nat) (s : State) : (s.until x).tide.pulse = s.tide.pulse := by
  rw [← Tide.steady_pulse, State.until_steady, Tide.steady_pulse]

theorem State.until_state (x : Nat) (s : State) : (s.until x).tide.state = s.tide.state := by
  rw [← Tide.steady_state, State.until_steady, Tide.steady_state]

theorem State.until_pulseMay (x : Nat) (s : State) : (s.until x).pulseMay = s.pulseMay := by
  simp only [State.pulseMay, State.until_pulse, State.until_state]

theorem State.pulseHigh_pulse (fall : Nat) (s : State) :
    (s.pulseHigh fall).tide.pulse = { s.tide.pulse with high := true, fall := fall } := by
  simp only [State.pulseHigh]
  split <;> rfl

/-- A rise of the pulse with the next phase set. -/
def State.afterRise (s : State) : State :=
  let s0 := s.until s.tide.pulse.next
  let s1 := if s0.pulseMay then s0.pulseHigh (s.tide.pulse.next + s.tide.pulse.width * frameTicks) else s0
  s1.setPulse (fun p => { p with next := nextPhase p.base pulsePeriod s0.tide.ticks })

theorem exec_tidePulseRise (s : State) :
    exec .tidePulseRise s = .next (if !s.tide.pulse.enable then s else s.afterRise) := rfl

/-- What the passage of time with the pulse touches. -/
theorem State.afterRise_within (s : State) : Within passParts s s.afterRise := by
  have hUntil : Adds passParts s (s.until s.tide.pulse.next) := State.until_adds _ s
  have hHigh (u : State) (fall : Nat) : Adds passParts u (if u.pulseMay then u.pulseHigh fall else u) :=
    .ite (State.pulseHigh_adds _ u) (.refl _ u)
  unfold State.afterRise
  exact ((hUntil.trans (hHigh _ _)).trans (State.setPulse_adds _ _)).within

theorem State.ticks_of_besidePulse {s t : State} (h : t.tide.besidePulse = s.tide.besidePulse) :
    t.tide.ticks = s.tide.ticks := by
  have hTicks (x : Tide) : x.besidePulse.ticks = x.ticks := rfl
  rw [← hTicks, h, hTicks]

theorem State.afterRise_ticks (s : State) : s.afterRise.tide.ticks = (s.until s.tide.pulse.next).tide.ticks := by
  refine State.ticks_of_besidePulse ?_
  rw [State.afterRise, State.setPulse_besidePulse]
  split
  · exact State.pulseHigh_besidePulse _ _
  · rfl

theorem State.afterRise_pulse (s : State) : s.afterRise.tide.pulse =
    { s.tide.pulse with
      high := s.pulseMay || s.tide.pulse.high
      fall := if s.pulseMay then s.tide.pulse.next + s.tide.pulse.width * frameTicks else s.tide.pulse.fall
      next := nextPhase s.tide.pulse.base pulsePeriod (s.until s.tide.pulse.next).tide.ticks } := by
  simp only [State.afterRise, State.setPulse_pulse, State.until_pulseMay]
  cases s.pulseMay
  · simp only [Bool.false_eq_true, if_false, State.until_pulse, Bool.false_or]
  · simp only [if_true, State.pulseHigh_pulse, State.until_pulse, Bool.true_or]

theorem tidePulseRise_completes {s : State} (h : s.tide.pulse.enable = true) : completesWith .tidePulseRise s (fun t =>
    t.tide.pulse.next = nextPhase s.tide.pulse.base (8000 * 777600) t.tide.ticks
    ∧ (s.pulseMay = true → t.tide.pulse.high = true
      ∧ t.tide.pulse.fall = s.tide.pulse.next + s.tide.pulse.width * 777600)
    ∧ (s.pulseMay = false → t.tide.pulse.high = s.tide.pulse.high)
    ∧ t = s.passing t) := by
  refine ⟨s.afterRise, ?_, ?_, fun hMay => ?_, fun hMay => ?_, s.afterRise_within.passing⟩
  · rw [exec_tidePulseRise, h, Bool.not_true, if_neg Bool.false_ne_true]
  · rw [State.afterRise_pulse, State.afterRise_ticks]
    rfl
  · rw [State.afterRise_pulse, hMay]
    exact ⟨rfl, rfl⟩
  · rw [State.afterRise_pulse, hMay, Bool.false_or]

theorem State.pulseLow_of_high {s : State} (h : s.tide.pulse.high = true) :
    s.pulseLow = (s.setPulse (fun p => { p with high := false })).emit (.pin "TIDE_PULSE" false) := if_pos h

theorem tidePulseFall_completes {s : State} (h : s.tide.pulse.high = true) : completesWith .tidePulseFall s (fun t =>
    t.tide.pulse.high = false ∧ t.out.head? = some (.pin "TIDE_PULSE" false) ∧ t = s.passing t) := by
  have hExec : exec .tidePulseFall s = .next (if s.tide.pulse.high then (s.until s.tide.pulse.fall).pulseLow else s) :=
    rfl
  have hHigh : (s.until s.tide.pulse.fall).tide.pulse.high = true := by rw [State.until_pulse, h]
  have hWithin : Within passParts s (s.until s.tide.pulse.fall).pulseLow :=
    ((State.until_adds _ s).trans (State.pulseLow_adds _)).within
  refine ⟨(s.until s.tide.pulse.fall).pulseLow, by rw [hExec, if_pos h], ?_, ?_, hWithin.passing⟩
  · rw [State.pulseLow_of_high hHigh]
    rfl
  · rw [State.pulseLow_of_high hHigh]
    rfl

/-- Settles O12: the comparators that are due fire one after another, and the pulse by its own lemmas. -/
theorem alarmAndPulseCommands : Obligations.AlarmAndPulseCommands := by
  unfold Obligations.AlarmAndPulseCommands
  refine fun s => ⟨fun k hArmed hTarget => ?_, fun k hArmed => ?_, tidePulseRise_completes, tidePulseFall_completes⟩
  · obtain ⟨hAfter, _⟩ := State.afterAlarm_of_due (s := s) (k := k.val) k.isLt hArmed
      (by rwa [State.afterAlarm_ticks])
    refine ⟨s.afterAlarm k.val, ?_, fun hOnce => ?_, fun hPeriodic => ?_, fun j hj => ?_, fun j hj hDue hReached => ?_,
      (s.afterAlarm_within k.val).passing_fresh_snap⟩
    · rw [exec_tideAlarm, if_pos hArmed]
    · rw [hAfter, Alarm.afterFire, if_pos hOnce]
    · rw [hAfter, Alarm.afterFire, if_neg hPeriodic]
    · exact State.afterAlarm_of_not_due hj
    · exact State.afterAlarm_of_due hj hDue hReached
  · rw [exec_tideAlarm, hArmed, if_neg Bool.false_ne_true]

end Sys2Proof.Machine
end

section
/-!
# The audit of TOKENS

The audit clips a bucket that holds more than its size, whatever the audit of CELLS finds.
-/
namespace Sys2Proof.Machine

-- One theorem after another: the stacks of many that wait at once would exceed the memory of the check.
set_option Elab.async false

/-- The shaper of egress queue 0 has a bucket of size 0 that holds a token, while the class counts add up. -/
def overfullBucket : State :=
  { cfg := { shapers := [(objId 0 2 0, { rateA := 1 })] }
    pool := { queues := [(0, { bktA := { tok := 1 } })] } }

/-- The tokens of bucket A of queue 0. -/
def Pool.firstTokens (p : Pool) : Nat := (Tab.get {} p.queues 0 : Queue).bktA.tok

theorem ledgerAudit_clips_overfullBucket :
    (match exec .ledgerAudit overfullBucket with
      | .next t => t.pool.firstTokens
      | _ => 1) = 0 := by
  set_option maxRecDepth 20000 in
  decide

/-- Refutes O32: with class counts that add up and no burst to audit, the audit still clips a bucket above its size,
where the statement says that the queues stay as they are. -/
theorem not_ledgerCommands : ¬ Obligations.LedgerCommands := by
  unfold Obligations.LedgerCommands
  intro h
  obtain ⟨_, _, _, _, hAudit, _⟩ := h overfullBucket
  obtain ⟨t, hExec, _, _, _, _, hQuiet, _⟩ := hAudit rfl
  obtain ⟨_, _, hQueues, _⟩ := hQuiet rfl rfl
  have hClip := ledgerAudit_clips_overfullBucket
  rw [hExec] at hClip
  simp only [Pool.firstTokens, hQueues] at hClip
  exact absurd hClip (by decide)

end Sys2Proof.Machine
end

section
/-!
# A worker sheds

A port held down ends the frame that it receives, so that the packet that an upstream lane has begun to send of it gets
BAD (R311): the shed of a worker changes its line.
-/
namespace Sys2Proof.Machine

/-- The same on a worker. -/
def cutThroughWorker : State := { cutThroughUpstream with start := { manager := false } }

/-- A worker sheds while port 0 receives a frame whose packet the upstream Alloc-ID 0 has partly sent. -/
theorem csMgrShed_spoils_cutThrough :
    (match exec .csMgrShed cutThroughWorker with
      | .next t => t.line.restBad
      | _ => false) = true := by
  set_option maxRecDepth 20000 in
  decide

/-- Refutes O21: a worker's shed marks a packet BAD that a line lane has begun to send, where the statement says that
the line stays as it is. -/
theorem not_cisternCommands : ¬ Obligations.CisternCommands := by
  unfold Obligations.CisternCommands
  intro h
  obtain ⟨_, _, _, _, _, _, _, hShed, _⟩ := h.1 cutThroughWorker
  obtain ⟨t, hExec, _, _, _, hFrame⟩ := hShed rfl rfl rfl
  have hLine : t.line = cutThroughWorker.line := (congrArg State.line hFrame).trans rfl
  have hBad := csMgrShed_spoils_cutThrough
  rw [hExec] at hBad
  simp only [hLine] at hBad
  exact absurd hBad (by decide)

end Sys2Proof.Machine
end

section
/-!
# The suspension of the run-ahead

A window of R209 that has ended begins anew before the engine looks at it, so what was rewound in it suspends nothing.
-/
namespace Sys2Proof.Machine

/-- More than half of what Alloc-ID 0 staged was rewound, in a window that has ended. -/
def endedWindow : State := { bnd := 8000, line := { allocs := [(0, { winRewound := 1 })] } }

theorem cvRunaheadSuspend_endedWindow : exec (.cvRunaheadSuspend 0) endedWindow = .next endedWindow := rfl

/-- Refutes O27: more than half was rewound, but in a window that has ended, and the run-ahead goes on. -/
theorem not_caravanCommands : ¬ Obligations.CaravanCommands := by
  unfold Obligations.CaravanCommands
  intro h
  obtain ⟨_, _, _, _, hSuspend, _⟩ := h.1 endedWindow 0
  obtain ⟨t, hExec, hAlloc, _⟩ := hSuspend rfl (by decide)
  obtain rfl : endedWindow = t := by
    rw [cvRunaheadSuspend_endedWindow] at hExec
    exact Host.Outcome.next.inj hExec
  exact absurd (congrArg AllocState.suspended hAlloc) (by decide)

end Sys2Proof.Machine
end

section
/-!
# Encrypted control messages

A control message of a group leaves encrypted where its port is, and the line engines that encrypt it are the cipher's.
-/
namespace Sys2Proof.Machine

/-- Group 0 with lane 0 in O5.1, whose control port is encrypted under a key that the lane holds. -/
def encryptedControl : State :=
  { cfg := { line := { bonded := true, ctrl0 := 0, groups := [(0, { members := 1 })] }, xgems := [(0, { encrypted := true })] }
    line := { lanes := [(0, { act := .o5 })], groups := [(0, { lanes := 1 })] }
    cipher := { banks := [(0, { key := some 0 })] } }

theorem groupState_takesEngine :
    (match exec (.groupState 0) encryptedControl with
      | .next t => t.cipher.turn != 0
      | _ => false) = true := by
  set_option maxRecDepth 20000 in
  decide

/-- Refutes O28: an encrypted GROUP_STATE takes a line engine, where the statement says that beside the line and what is
sent nothing differs. -/
theorem not_bondingCommands : ¬ Obligations.BondingCommands := by
  unfold Obligations.BondingCommands
  intro h
  obtain ⟨_, _, _, _, _, _, _, _, _, _, hState, _⟩ := h.1 encryptedControl
  obtain ⟨t, hExec, _, _, hFrame⟩ := hState 0 rfl (by decide)
  have hCipher : t.cipher = encryptedControl.cipher := (congrArg State.cipher hFrame).trans rfl
  have hTurn := groupState_takesEngine
  rw [hExec] at hTurn
  simp only [hCipher] at hTurn
  exact absurd hTurn (by decide)

end Sys2Proof.Machine
end

section
/-!
# The last frame of a queue

When the frame that leaves empties its queue, the queue's turn in its DRR group ends (R352), which the scheduler holds.
-/
namespace Sys2Proof.Machine

/-- Port 0 transmits the last frame of its queue 0, whose turn it is in the DRR group. -/
def lastFrameOfTurn : State :=
  { ports := [(0, { tx := some { queue := 0, packet := { bytes := [] }, charged := 0 } })], sched := { drrPtr := [(0, 1)] } }

theorem frameTransmit_endsTurn :
    (match exec (.frameTransmit ⟨0, .none⟩) lastFrameOfTurn with
      | .next t => Tab.get 0 t.sched.drrPtr 0 != 1
      | _ => false) = true := by
  set_option maxRecDepth 20000 in
  decide

/-- Refutes O36: the last frame of a queue ends the queue's turn, where the statement says that the scheduler stays as
it is. -/
theorem not_portCommands : ¬ Obligations.PortCommands := by
  unfold Obligations.PortCommands
  intro h
  obtain ⟨_, _, _, _, _, hTransmit, _⟩ := h.2 lastFrameOfTurn 0
  obtain ⟨t, hExec, _, _, _, _, _, hFrame⟩ := hTransmit _ .none rfl rfl rfl
  have hSched : t.sched = lastFrameOfTurn.sched := (congrArg State.sched hFrame).trans rfl
  have hTurn := frameTransmit_endsTurn
  rw [hExec] at hTurn
  simp only [hSched] at hTurn
  exact absurd hTurn (by decide)

end Sys2Proof.Machine
end

section
/-!
# The worker that step 5 waits for

In a VIN-fail sequence the manager waits for the workers' CS_MGR_SHED (R832); the report takes its sender off the list of
those that have not answered.
-/
namespace Sys2Proof.Machine

/-- The manager waits for the answer of worker 1, which is joined. -/
def unansweredShed : State := { ring := { nodes := [(1, { member := 2 })] }, cistern := { acks := [1] } }

theorem unansweredShed_answered :
    (match exec (.event 1 .mgrShed) unansweredShed with
      | .next t => t.cistern.acks.isEmpty
      | _ => false) = true := by
  set_option maxRecDepth 20000 in
  decide

/-- Refutes O60: the CS_MGR_SHED of a joined worker takes it off the list that step 5 waits for, where the statement says
that it changes nothing on the manager. -/
theorem not_relayCommands : ¬ Obligations.RelayCommands := by
  unfold Obligations.RelayCommands
  intro h
  obtain ⟨_, hShed, _⟩ := h.2 unansweredShed 1
  have hAnswered := unansweredShed_answered
  rw [hShed rfl (by decide)] at hAnswered
  exact absurd hAnswered (by decide)

end Sys2Proof.Machine
end

section
/-!
# What reporting leaves of the mailboxes

A reply or an event message that is posted moves RPL_PROD and the lists of what waits; an event message also its count.
Everything else of a mailbox, and of the host attachment but the windows and the pending MSI-X vectors, stays over every
report. An answer settles the one request it answers.
-/
namespace Sys2Proof.Machine

-- One theorem after another: the stacks of many that wait at once would exceed the memory of the check.
set_option Elab.async false

/-- A mailbox without what posting and event messages move. -/
def Mbx.core (b : Mbx) : Mbx := { b with rplProd := 0, completions := [], held := [], evtCount := 0, evtDropped := 0 }

/-- The host attachment without its mailboxes, their windows, a partial OMCI message and the pending vectors. -/
def HostIf.rest (h : HostIf) : HostIf := { h with mbx := [], win := [], omciSeg := none, msixPend := 0 }

/-- From `h` to `k` only reporting has touched the host attachment. -/
structure Steady (h k : HostIf) : Prop where
  core : ∀ m, (k.box m).core = (h.box m).core
  rest : k.rest = h.rest

theorem Steady.refl (h : HostIf) : Steady h h := ⟨fun _ => rfl, rfl⟩

theorem Steady.trans {h k l : HostIf} (a : Steady h k) (b : Steady k l) : Steady h l :=
  ⟨fun m => (b.core m).trans (a.core m), b.rest.trans a.rest⟩

theorem Steady.ite {h k l : HostIf} {c : Prop} [Decidable c] (a : Steady h k) (b : Steady h l) :
    Steady h (if c then k else l) := by
  split
  · exact a
  · exact b

theorem steady_of_mbx {h k : HostIf} (hMbx : k.mbx = h.mbx) (hRest : k.rest = h.rest) : Steady h k :=
  ⟨fun m => by rw [HostIf.box, hMbx, HostIf.box], hRest⟩

theorem HostIf.modBox_steady (m : Nat) (f : Mbx → Mbx) (h : HostIf) (hf : ∀ b, (f b).core = b.core := by intro b; rfl) :
    Steady h (h.modBox m f) := by
  refine ⟨fun j => ?_, rfl⟩
  by_cases hj : j = m
  · rw [hj, HostIf.box_modBox_same, hf]
  · rw [HostIf.box_modBox_other f h hj]

/-- The same change of a mailbox on both sides. -/
theorem Steady.modBox {h k : HostIf} (a : Steady h k) (m : Nat) {f g : Mbx → Mbx}
    (hf : ∀ b c : Mbx, c.core = b.core → (g c).core = (f b).core) : Steady (h.modBox m f) (k.modBox m g) := by
  refine ⟨fun j => ?_, a.rest⟩
  by_cases hj : j = m
  · rw [hj, HostIf.box_modBox_same, HostIf.box_modBox_same]
    exact hf _ _ (a.core m)
  · rw [HostIf.box_modBox_other g k hj, HostIf.box_modBox_other f h hj]
    exact a.core j

/-! ### Posting -/

theorem HostIf.post_steady (m : Nat) (msg : Msg) (h : HostIf) : Steady h (h.post m msg).1 := by
  unfold HostIf.post
  split
  · exact .refl h
  · exact (h.modBox_steady m (fun b => { b with rplProd := (b.rplProd + entries msg.payload.length) % 64 })).trans
      (steady_of_mbx rfl rfl)

theorem HostIf.drain_steady (m : Nat) (l : List Msg) (h : HostIf) : Steady h (h.drain m l).1 := by
  induction l generalizing h with
  | nil => exact .refl h
  | cons x t ih =>
    rw [HostIf.drain]
    split
    · exact (h.post_steady m x).trans (ih _)
    · exact .refl h

theorem HostIf.flushBox_steady (m : Nat) (h : HostIf) : Steady h (h.flushBox m).1 := by
  simp only [HostIf.flushBox]
  split
  · exact (h.drain_steady m _).trans (HostIf.modBox_steady m _ _)
  · exact ((h.drain_steady m _).trans (HostIf.drain_steady m _ _)).trans (HostIf.modBox_steady m _ _)

/-! ### Raising and counting -/

theorem queueEvt_steady (m : Nat) (p : List Byte) (a : HostIf × Tab Nat × List Emission × Bool) :
    Steady a.1 (queueEvt m p a).1 := by
  simp only [queueEvt]
  split
  · exact HostIf.modBox_steady m _ _
  · exact (a.1.modBox_steady m _).trans (HostIf.flushBox_steady m _)

theorem queueEvts_steady (c : Cfg) (mgr : Bool) (node src tide obj detail : Nat) (h : HostIf) (cnt : Tab Nat) :
    Steady h (queueEvts c mgr node src tide obj detail h cnt).1 := by
  refine List.foldlRecOn (motive := fun (a : HostIf × Tab Nat × List Emission × Bool) => Steady h a.1)
    _ _ (.refl h) (fun a ha m _ => ?_)
  split
  · exact ha.trans (queueEvt_steady m _ a)
  · exact ha

theorem vectorStep_steady (e0 e1 : Events) (force : Bool) (h : HostIf) (v : Nat) :
    Steady h (vectorStep e0 e1 force h v).1 := by
  simp only [vectorStep]
  split
  · exact steady_of_mbx rfl rfl
  · exact .refl h

theorem vectorsStep_steady (e0 e1 : Events) (force : Bool) (h : HostIf) : Steady h (vectorsStep e0 e1 force h).1 :=
  List.foldlRecOn (motive := fun (a : HostIf × List Emission) => Steady h a.1) _ _ (.refl h)
    (fun a ha v _ => ha.trans (vectorStep_steady e0 e1 force a.1 v))

theorem setEvtParts_steady (e : Events) (force : Bool) (h : HostIf) (r : Ring) (s : State) :
    Steady h (setEvtParts e force h r s).2.1 := by
  simp only [setEvtParts]
  split <;> exact vectorsStep_steady _ _ _ _

theorem Steady.setEvt {h : HostIf} {s : State} (a : Steady h s.host) (e : Events) (force : Bool) :
    Steady h (s.setEvt e force).host := a.trans (setEvtParts_steady e force s.host s.ring s)

theorem Steady.raise {h : HostIf} {s : State} (a : Steady h s.host) (src obj detail : Nat) :
    Steady h (s.raise src obj detail).host := by
  simp only [State.raise, raiseParts]
  exact (a.trans (queueEvts_steady _ _ _ _ _ _ _ _ _)).trans (setEvtParts_steady _ _ _ _ _)

theorem Steady.raiseWin {h : HostIf} {s : State} (a : Steady h s.host) (n src sub obj detail : Nat) :
    Steady h (s.raiseWin n src sub obj detail).host := by
  simp only [State.raiseWin]
  split
  · exact a
  · refine Steady.raise ?_ _ _ _
    exact a

theorem Steady.postHalf {h : HostIf} {s : State} (a : Steady h s.host) (w : W32) (o : Nat) :
    Steady h (s.postHalf w o).host := by
  simp only [State.postHalf]
  split
  · split
    · exact a
    · refine Steady.raise ?_ _ _ _
      exact a
  · exact a.raise _ _ _

theorem Steady.inc {h : HostIf} {s : State} (a : Steady h s.host) (i : Nat) : Steady h (s.inc i).host := by
  simp only [State.inc, State.count]
  split
  · refine Steady.postHalf ?_ _ _
    exact a
  · exact a

theorem Steady.deliverOmci {h : HostIf} {s : State} (a : Steady h s.host) (n : Nat) : Steady h (s.deliverOmci n).host := by
  induction n generalizing s with
  | zero => exact a
  | succ n ih =>
    simp only [State.deliverOmci]
    split
    · exact a
    · split
      · exact a
      · refine ih (Steady.raise (Steady.inc ?_ _) _ _ _)
        exact (a.trans (s.host.modBox_steady 32 _)).trans (HostIf.post_steady 32 _ _)

theorem Steady.deliver {h : HostIf} {s : State} (a : Steady h s.host) (m : Nat) : Steady h (s.deliver m).host := by
  have hRaise (c : Prop) [Decidable c] (t : State) (ht : Steady h t.host) :
      Steady h (if c then t else t.raise 576 0 0).host := by
    split
    · exact ht
    · exact ht.raise _ _ _
  have hPosted := a.trans (s.host.flushBox_steady m)
  simp only [State.deliver]
  split
  · exact (hRaise _ { s with host := _, out := _ } hPosted).deliverOmci _
  · exact hRaise _ { s with host := _, out := _ } hPosted

/-! ### Answers and completions -/

/-- A mailbox whose request `q` is answered. -/
def Mbx.settled (opc : Nat) (q : Req) (st : Status) (p : List Byte) (frame : Nat) (b : Mbx) : Mbx :=
  let msg : Msg :=
    { opc := opc % 2 ^ 15 + 2 ^ 15, seq := q.seq.toNat, flags := 0, status := st.code, tag := q.tag, payload := p }
  match st with
  | .ignored c => (b.answered opc q msg).noteIgnored opc q.seq.toNat c frame
  | _ => b.answered opc q msg

theorem Steady.answerEvents {h : HostIf} {s : State} (a : Steady h s.host) (m : Nat) (st : Status) :
    Steady h (s.answerEvents m st).host := by
  have hReply (t : State) (ht : Steady h t.host) : Steady h (if m = 33 then t else t.raise 576 0 0).host := by
    split
    · exact ht
    · exact ht.raise _ _ _
  cases st
  case ignored c => exact hReply _ ((a.raise 578 0 0).inc _)
  case denied => exact hReply _ ((a.raiseWin 8000 579 0 0 0).inc _)
  all_goals exact hReply s a

/-- What an answer settles does not look at what posting moves. -/
theorem Mbx.core_settled (opc : Nat) (q : Req) (st : Status) (p : List Byte) (frame : Nat) (b : Mbx) :
    (b.settled opc q st p frame).core = (b.core.settled opc q st p frame).core := by
  cases st <;> rfl

theorem State.isRelayed_of_manager {s : State} (h : s.isManager = true) (opc seq m : Nat) :
    s.isRelayed opc seq m = false := by
  rw [State.isRelayed, show s.start.manager = true from h]
  rfl

/-- An answer that is not relayed settles its request and touches nothing else of the mailboxes. -/
theorem State.answer_steady {s : State} (h : s.isManager = true) (opc : Nat) (q : Req) (st : Status) (p : List Byte) :
    Steady (s.host.modBox q.mbx.val (Mbx.settled opc q st p s.tide.frame)) (s.answer opc q st p).host := by
  simp only [State.answer, State.isRelayed_of_manager h, Bool.false_eq_true, if_false]
  refine Steady.answerEvents (Steady.inc (Steady.inc (Steady.trans ?_ (HostIf.flushBox_steady _ _)) _) _) _ _
  refine (Steady.refl s.host).modBox _ (fun b c hbc => ?_)
  rw [Mbx.core_settled, ← hbc, ← Mbx.core_settled]
  cases st <;> rfl

theorem State.box_answer {s : State} (h : s.isManager = true) (opc : Nat) (q : Req) (st : Status) (p : List Byte) :
    ((s.answer opc q st p).box q.mbx.val).core = ((s.box q.mbx.val).settled opc q st p s.tide.frame).core := by
  refine ((State.answer_steady h opc q st p).core q.mbx.val).trans ?_
  rw [HostIf.box_modBox_same]
  rfl

theorem State.box_answer_other {s : State} (h : s.isManager = true) (opc : Nat) (q : Req) (st : Status) (p : List Byte)
    {m : Nat} (hm : m ≠ q.mbx.val) : ((s.answer opc q st p).box m).core = (s.box m).core := by
  refine ((State.answer_steady h opc q st p).core m).trans ?_
  rw [HostIf.box_modBox_other _ _ hm]
  rfl

theorem Mbx.settled_answers (opc : Nat) (q : Req) (st : Status) (p : List Byte) (frame : Nat) (b : Mbx) :
    let c := b.settled opc q st p frame
    c.cached = some { opc := opc % 2 ^ 15 + 2 ^ 15, seq := q.seq.toNat, flags := 0, status := st.code, tag := q.tag
                      payload := p }
    ∧ c.lastReq = some (q.seq.toNat, reqCrc opc q) ∧ c.expSeq = nextSeq16 q.seq.toNat ∧ c.waiting = none := by
  cases st <;> exact ⟨rfl, rfl, rfl, rfl⟩

/-- What counts as an answered request is in the core of its mailbox. -/
theorem State.answers_of_core {t : State} {b : Mbx} {opc : Nat} {q : Req} {code : Nat} {p : List Byte}
    (h : (t.box q.mbx.val).core = b.core)
    (hb : b.cached = some { opc := opc % 2 ^ 15 + 2 ^ 15, seq := q.seq.toNat, flags := 0, status := code, tag := q.tag
                            payload := p }
      ∧ b.lastReq = some (q.seq.toNat, reqCrc opc q) ∧ b.expSeq = nextSeq16 q.seq.toNat ∧ b.waiting = none) :
    t.answers opc q code p := by
  obtain ⟨hCached, hLast, hExp, hWaiting⟩ := hb
  exact ⟨(congrArg Mbx.cached h).trans hCached, (congrArg Mbx.lastReq h).trans hLast,
    (congrArg Mbx.expSeq h).trans hExp, (congrArg Mbx.waiting h).trans hWaiting⟩

theorem State.answer_answers {s : State} (h : s.isManager = true) (opc : Nat) (q : Req) (st : Status) (p : List Byte) :
    (s.answer opc q st p).answers opc q st.code p :=
  State.answers_of_core (State.box_answer h opc q st p) (Mbx.settled_answers opc q st p _ _)

/-- What reports after an answer leaves it. -/
theorem State.answers_of_steady {s t : State} (h : Steady s.host t.host) {opc : Nat} {q : Req} {code : Nat}
    {p : List Byte} (hs : s.answers opc q code p) : t.answers opc q code p :=
  State.answers_of_core (h.core q.mbx.val) hs

end Sys2Proof.Machine
end

section
/-!
# Requests run once

What an answer leaves of its mailbox, and the three ways of a request that arrives: from the cache, run, or dropped.
-/
namespace Sys2Proof.Machine

-- One theorem after another: the stacks of many that wait at once would exceed the memory of the check.
set_option Elab.async false

/-! ### Answers -/

theorem State.answerEvents_pends_ignored (m c : Nat) (s : State) : (s.answerEvents m (.ignored c)).pends 578 := by
  have hCounted : ((s.raise 578 0 0).inc (0x600 + 8 * m + 4)).pends 578 :=
    State.inc_keepsPending _ _ _ (State.raise_pends _ _ _ _)
  simp only [State.answerEvents]
  split
  · exact hCounted
  · exact State.raise_pends_of _ _ _ _ _ hCounted

/-- An IGNORED answer raises MBX_IGNORED. -/
theorem State.answer_ignored_pends {s : State} (h : s.isManager = true) (opc : Nat) (q : Req) (c : Nat) (p : List Byte) :
    (s.answer opc q (.ignored c) p).pends 578 := by
  simp only [State.answer, State.isRelayed_of_manager h, Bool.false_eq_true, if_false]
  exact State.answerEvents_pends_ignored _ _ _

theorem answersAreCached (s : State) (opc : Nat) (q : Req) (st : Status) (p : List Byte) (h : s.isManager = true) :
    (s.answer opc q st p).answers opc q st.code p ∧ s.answer opc q st p = s.reporting (s.answer opc q st p)
    ∧ ∀ c, st = .ignored c →
        ((s.answer opc q st p).box q.mbx.val).ignored = min 255 ((s.box q.mbx.val).ignored + 1)
        ∧ ((s.answer opc q st p).box q.mbx.val).lastIgnOpc = opc
        ∧ ((s.answer opc q st p).box q.mbx.val).lastIgnSeq = q.seq.toNat
        ∧ ((s.answer opc q st p).box q.mbx.val).lastIgnCause = c ∧ (s.answer opc q st p).pends 578 := by
  refine ⟨State.answer_answers h opc q st p, (State.answer_reports _ _ _ _ _).reporting, fun c hst => ?_⟩
  subst hst
  have hBox := State.box_answer h opc q (.ignored c) p
  exact ⟨(congrArg Mbx.ignored hBox :), (congrArg Mbx.lastIgnOpc hBox :), (congrArg Mbx.lastIgnSeq hBox :),
    (congrArg Mbx.lastIgnCause hBox :), State.answer_ignored_pends h opc q c p⟩

/-! ### A request that arrives -/

/-- A mailbox that ignores a request without reply (R636). -/
def Mbx.drops (b : Mbx) : Mbx := { b with dropped := min 255 (b.dropped + 1) }

theorem State.box_dropReq (m : Nat) (s : State) : ((s.dropReq m).box m).core = (s.box m).drops.core := by
  have hSteady : Steady (s.modBox m Mbx.drops).host (s.dropReq m).host := ((Steady.refl _).inc _).raiseWin _ _ _ _ _
  refine (hSteady.core m).trans ?_
  exact congrArg Mbx.core (HostIf.box_modBox_same m Mbx.drops s.host)

theorem State.dropReq_reports (m : Nat) (s : State) : Reports s (s.dropReq m) :=
  ((State.modBox_reports s m _).trans (State.inc_reports _ _)).trans (State.raiseWin_reports _ _ _ _ _ _)

/-- A mailbox that answers from the cache (R635). -/
def Mbx.resends (msg : Msg) (b : Mbx) : Mbx := { b with completions := b.completions ++ [msg], retrans := b.retrans + 1 }

theorem State.box_resend (m : Nat) (msg : Msg) (s : State) :
    ((s.resend m msg).box m).core = ((s.box m).resends msg).core := by
  have hSteady : Steady (s.modBox m (Mbx.resends msg)).host (s.resend m msg).host := ((Steady.refl _).inc _).deliver _
  refine (hSteady.core m).trans ?_
  exact congrArg Mbx.core (HostIf.box_modBox_same m (Mbx.resends msg) s.host)

theorem State.resend_reportsOrLine (m : Nat) (msg : Msg) (s : State) : ReportsOrLine s (s.resend m msg) :=
  ((State.modBox_reports s m _).trans (State.inc_reports _ _)).orLine.trans (State.deliver_reportsOrLine m _)

/-- Whether a request may run now: the one that the session expects, or MBX_HELLO with SEQ 0 (R634). -/
def Mbx.expects (opc : Nat) (q : Req) (b : Mbx) : Prop :=
  (opc = 1 ∧ q.seq = 0) ∨ (b.session = true ∧ q.seq.toNat = b.expSeq)

theorem State.receive_again {s : State} {m opc : Nat} {q : Req} {crc : W32} {msg : Msg} (hCached : (s.box m).cached = some msg)
    (hLast : (s.box m).lastReq = some (q.seq.toNat, crc)) : s.receive m opc q crc = s.resend m msg := by
  simp only [State.receive, hCached, if_pos hLast]

theorem State.receive_expected {s : State} {m opc : Nat} {q : Req} {crc : W32}
    (hNew : (s.box m).cached = none ∨ (s.box m).lastReq ≠ some (q.seq.toNat, crc)) (hExp : (s.box m).expects opc q) :
    s.receive m opc q crc = s.runCommand opc q := by
  have hRuns (t : State) : (if (opc = 1 ∧ q.seq = 0) ∨ ((s.box m).session ∧ q.seq.toNat = (s.box m).expSeq)
      then s.runCommand opc q else t) = s.runCommand opc q := if_pos hExp
  simp only [State.receive]
  split
  next msg hCached =>
    rw [if_neg (hNew.resolve_left (by rw [hCached]; exact Option.some_ne_none msg)), hRuns]
  next => rw [hRuns]

theorem State.receive_unexpected {s : State} {m opc : Nat} {q : Req} {crc : W32}
    (hNew : (s.box m).cached = none ∨ (s.box m).lastReq ≠ some (q.seq.toNat, crc)) (hExp : ¬ (s.box m).expects opc q) :
    s.receive m opc q crc = s.dropReq m := by
  have hDrops (t : State) : (if (opc = 1 ∧ q.seq = 0) ∨ ((s.box m).session ∧ q.seq.toNat = (s.box m).expSeq)
      then t else s.dropReq m) = s.dropReq m := if_neg hExp
  simp only [State.receive]
  split
  next msg hCached =>
    rw [if_neg (hNew.resolve_left (by rw [hCached]; exact Option.some_ne_none msg)), hDrops]
  next => rw [hDrops]

/-- Settles O47: an answer settles its request in the mailbox, and the three ways of a request that arrives. -/
theorem requestsRunOnce : Obligations.RequestsRunOnce := by
  unfold Obligations.RequestsRunOnce
  refine ⟨answersAreCached, fun s m opc q crc => ⟨fun hCached hLast => ?_, fun hNew hExp => ?_, fun hNew hHello hSeq => ?_⟩⟩
  · obtain ⟨msg, hMsg⟩ := Option.isSome_iff_exists.mp hCached
    rw [State.receive_again hMsg hLast]
    have hBox := s.box_resend m msg
    exact ⟨(congrArg Mbx.expSeq hBox :), (congrArg Mbx.cached hBox :), (congrArg Mbx.lastReq hBox :),
      (congrArg Mbx.retrans hBox :), (congrArg Mbx.txn hBox :), (congrArg Mbx.deferred hBox :),
      (s.resend_reportsOrLine m msg).reporting⟩
  · exact State.receive_expected hNew hExp
  · rw [State.receive_unexpected hNew (not_or.mpr ⟨hHello, hSeq⟩)]
    have hBox := s.box_dropReq m
    exact ⟨(congrArg Mbx.dropped hBox :), (congrArg Mbx.expSeq hBox :), (congrArg Mbx.cached hBox :),
      (congrArg Mbx.lastReq hBox :), (congrArg Mbx.txn hBox :), (congrArg Mbx.deferred hBox :),
      (s.dropReq_reports m).reporting⟩

end Sys2Proof.Machine
end

section
/-!
# Turns of the mailboxes and register accesses of the host

A turn of the order of doorbells, and what each access does while the host interface answers at once, waits for the end
of a clock hold, or is not there.
-/
namespace Sys2Proof.Machine

-- One theorem after another: the stacks of many that wait at once would exceed the memory of the check.
set_option Elab.async false

/-! ### Turns -/

theorem exec_mailboxRequest (s : State) :
    exec .mailboxRequest s = .next (if s.serving then s.turn s.host.order else s) := rfl

theorem exec_mailboxRequest_serving {s : State} (hServing : s.serving = true) {l : List Nat} (hOrder : s.host.order = l) :
    exec .mailboxRequest s = .next (State.turn l s) := by
  rw [exec_mailboxRequest, if_pos hServing, hOrder]

theorem State.turn_idle {s : State} {m : Nat} (h : (s.box m).reqProd = (s.box m).reqCons) (l : List Nat) :
    State.turn (m :: l) s = s.turnEnd m := if_pos h

theorem State.turn_full {s : State} {m : Nat} (hReq : (s.box m).reqProd ≠ (s.box m).reqCons)
    (hFree : (s.box m).waiting = none) (hRoom : (s.box m).free < 16) (l : List Nat) :
    State.turn (m :: l) s = State.turn l (if (s.box m).stalled then s
      else (s.modBox m (fun b => { b with stalled := true })).raise 580 0 m) := by
  simp only [State.turn, if_neg hReq, hFree, Option.isSome_none, Bool.false_eq_true, if_false, if_pos hRoom]

theorem State.turn_serves {s : State} {m : Nat} (hReq : (s.box m).reqProd ≠ (s.box m).reqCons)
    (hFree : (s.box m).waiting = none) (hRoom : 16 ≤ (s.box m).free) (l : List Nat) :
    State.turn (m :: l) s =
      State.turnEnd m (State.takeReq m (s.modBox m (fun b => { b with stalled := false }))) := by
  simp only [State.turn, if_neg hReq, hFree, Option.isSome_none, Bool.false_eq_true, if_false, if_neg (not_lt.mpr hRoom)]

/-- The only mailbox of the order, without requests, leaves it. -/
theorem State.turnEnd_alone {s : State} {m : Nat} (hOrder : s.host.order = [m])
    (h : (s.box m).reqProd = (s.box m).reqCons) :
    s.turnEnd m = { s with host := { s.host with order := [] } } := by
  simp only [State.turnEnd, hOrder, if_pos h]
  simp

/-- A mailbox without room for a reply stalls. -/
theorem State.turn_stalls {s : State} {m : Nat} (hReq : (s.box m).reqProd ≠ (s.box m).reqCons)
    (hFree : (s.box m).waiting = none) (hRoom : (s.box m).free < 16) :
    ((State.turn [m] s).box m).stalled = true ∧ ((State.turn [m] s).box m).reqCons = (s.box m).reqCons
    ∧ ((s.box m).stalled = false → (State.turn [m] s).pends 580)
    ∧ State.turn [m] s = s.reporting (State.turn [m] s) := by
  rw [State.turn_full hReq hFree hRoom, State.turn]
  by_cases hStalled : (s.box m).stalled = true
  · rw [if_pos hStalled]
    exact ⟨hStalled, rfl, fun h => absurd (hStalled.symm.trans h) (by decide), rfl⟩
  · rw [if_neg hStalled]
    have hSteady := (Steady.refl (s.modBox m (fun b => { b with stalled := true })).host).raise 580 0 m
    have hBox := (hSteady.core m).trans
      (congrArg Mbx.core (HostIf.box_modBox_same m (fun b => { b with stalled := true }) s.host))
    exact ⟨(congrArg Mbx.stalled hBox :), (congrArg Mbx.reqCons hBox :), fun _ => State.raise_pends _ _ _ _,
      ((State.modBox_reports s m _).trans (State.raise_reports _ _ _ _)).reporting⟩

/-! ### An idle transaction -/

theorem State.abortTxn_none {s : State} {m : Nat} (h : (s.box m).txn = none) : s.abortTxn m = s :=
  if_pos (by rw [h]; rfl)

theorem State.abortTxn_some {s : State} {m : Nat} (h : (s.box m).txn.isSome = true) :
    s.abortTxn m = (s.modBox m (fun b => { b with txn := none })).raise 582 0 m :=
  if_neg (by rw [Option.isNone_eq_false_iff.mpr h]; exact Bool.false_ne_true)

theorem State.box_abortTxn (m : Nat) (s : State) : ((s.abortTxn m).box m).core = { (s.box m).core with txn := none } := by
  cases hTxn : (s.box m).txn with
  | none =>
    rw [State.abortTxn_none hTxn, ← hTxn]
    rfl
  | some u =>
    rw [State.abortTxn_some (by rw [hTxn]; rfl)]
    have hSteady := (Steady.refl (s.modBox m (fun b => { b with txn := none })).host).raise 582 0 m
    exact (hSteady.core m).trans (congrArg Mbx.core (HostIf.box_modBox_same m (fun b => { b with txn := none }) s.host))

theorem State.abortTxn_reports (m : Nat) (s : State) : Reports s (s.abortTxn m) := by
  unfold State.abortTxn
  split
  · exact .refl s
  · exact (State.modBox_reports s m _).trans (State.raise_reports _ _ _ _)

theorem State.abortTxn_pends {s : State} {m : Nat} (h : (s.box m).txn.isSome = true) : (s.abortTxn m).pends 582 := by
  rw [State.abortTxn_some h]
  exact State.raise_pends _ _ _ _

theorem turnsOfTheMailboxes (s : State) (m : MbxNo) :
    (s.serving = false ∨ s.host.order = [] → exec .mailboxRequest s = .next s)
    ∧ (s.serving = true → s.host.order = [m.val] → (s.box m.val).reqProd = (s.box m.val).reqCons →
        exec .mailboxRequest s = .next { s with host := { s.host with order := [] } })
    ∧ (s.serving = true → s.host.order = [m.val] → (s.box m.val).reqProd ≠ (s.box m.val).reqCons →
        (s.box m.val).waiting = none → (s.box m.val).free < 16 → completesWith .mailboxRequest s (fun t =>
      (t.box m.val).stalled = true ∧ (t.box m.val).reqCons = (s.box m.val).reqCons
      ∧ ((s.box m.val).stalled = false → t.pends 580) ∧ t = s.reporting t))
    ∧ (s.serving = true → s.host.order = [m.val] → (s.box m.val).reqProd ≠ (s.box m.val).reqCons →
        (s.box m.val).waiting = none → 16 ≤ (s.box m.val).free → exec .mailboxRequest s = .next
          (State.turnEnd m.val (State.takeReq m.val (s.modBox m.val (fun b => { b with stalled := false })))))
    ∧ completesWith (.txnIdleTimeout m) s (fun t =>
      (t.box m.val).txn = none ∧ ((s.box m.val).txn.isSome = true → t.pends 582)
      ∧ ((s.box m.val).txn = none → t = s) ∧ t = s.reporting t) := by
  refine ⟨fun h => ?_, fun hServing hOrder hReq => ?_, fun hServing hOrder hReq hFree hRoom => ?_,
    fun hServing hOrder hReq hFree hRoom => ?_, ⟨_, rfl, ?_⟩⟩
  · rw [exec_mailboxRequest]
    rcases h with hServing | hOrder
    · rw [hServing, if_neg Bool.false_ne_true]
    · rw [hOrder, State.turn, ite_self]
  · rw [exec_mailboxRequest_serving hServing hOrder, State.turn_idle hReq, State.turnEnd_alone hOrder hReq]
  · exact ⟨_, exec_mailboxRequest_serving hServing hOrder, State.turn_stalls hReq hFree hRoom⟩
  · rw [exec_mailboxRequest_serving hServing hOrder, State.turn_serves hReq hFree hRoom]
  · exact ⟨(congrArg Mbx.txn (s.box_abortTxn m.val) :), State.abortTxn_pends, State.abortTxn_none,
      (s.abortTxn_reports m.val).reporting⟩

/-! ### Event registers -/

theorem setEvtParts_evt {s : State} (hManager : s.isManager = true) (e : Events) (force : Bool) (h : HostIf) (r : Ring) :
    (setEvtParts e force h r s).1 = e := by
  have hStart : s.start.manager = true := hManager
  simp only [setEvtParts, hStart, Bool.true_or, if_true]

theorem State.setEvt_evt {s : State} (hManager : s.isManager = true) (e : Events) (force : Bool) :
    (s.setEvt e force).evt = e := setEvtParts_evt hManager e force s.host s.ring

theorem evtClear_status {s : State} (hManager : s.isManager = true) (g : Nat) (w : W32) :
    (s.evtClear g w).evt = { s.evt with status := Tab.modify 0 s.evt.status g (fun x => x &&& ~~~ w) } :=
  State.setEvt_evt hManager _ true

theorem evtRoute_enable {k : Nat} (hk : k < 20) (v : W32) (s : State) :
    s.evtRoute (0x1080 + 4 * k) v = s.setEvt (s.evt.putEnable k v) true := by
  have hAligned : ¬ (0x1080 + 4 * k) % 4 ≠ 0 := by omega
  have hIn : 0x1080 ≤ 0x1080 + 4 * k ∧ 0x1080 + 4 * k < 0x10D0 := by omega
  have hIndex : (0x1080 + 4 * k - 0x1080) / 4 = k := by omega
  rw [State.evtRoute, if_neg hAligned, if_pos hIn, hIndex]

theorem evtRoute_route {k : Nat} (hk : k < 20) (v : W32) (s : State) :
    s.evtRoute (0x1100 + 4 * k) v = s.setEvt { s.evt with route := Tab.set 0 s.evt.route k (v &&& 7) } true := by
  have hAligned : ¬ (0x1100 + 4 * k) % 4 ≠ 0 := by omega
  have hOut : ¬ (0x1080 ≤ 0x1100 + 4 * k ∧ 0x1100 + 4 * k < 0x10D0) := by omega
  have hIn : 0x1100 ≤ 0x1100 + 4 * k ∧ 0x1100 + 4 * k < 0x1150 := by omega
  have hIndex : (0x1100 + 4 * k - 0x1100) / 4 = k := by omega
  rw [State.evtRoute, if_neg hAligned, if_neg hOut, if_pos hIn, hIndex]

theorem State.evtRoute_reports (a : Nat) (w : W32) (s : State) : s.evtRoute a w = s.reporting (s.evtRoute a w) :=
  (s.evtRoute_within a w).reporting

/-! ### The windows -/

/-- Byte `i` of a word. -/
def wordByte (w : W32) (i : Nat) : Byte := (w >>> (8 * i)).setWidth 8

/-- The first `n` bytes of a write into the windows at offset `o` (R618, R626). -/
def winBytes (o : Nat) (w : W32) (be : BitVec 4) (n : Nat) (win : Tab Byte) : Tab Byte :=
  (List.range n).foldl (fun t i =>
    if be.getLsbD i && decide ((o + i) / 4096 < 33) then Tab.set 0 t (o + i) (wordByte w i) else t) win

theorem winBytes_succ (o : Nat) (w : W32) (be : BitVec 4) (n : Nat) (win : Tab Byte) :
    winBytes o w be (n + 1) win = if be.getLsbD n && decide ((o + n) / 4096 < 33) then
      Tab.set 0 (winBytes o w be n win) (o + n) (wordByte w n) else winBytes o w be n win := by
  rw [winBytes, List.range_succ, List.foldl_append]
  rfl

theorem winBytes_other {o x : Nat} {be : BitVec 4} {n : Nat} (w : W32) (win : Tab Byte)
    (h : ∀ i, i < n → x = o + i → be.getLsbD i = false) : Tab.get 0 (winBytes o w be n win) x = Tab.get 0 win x := by
  induction n with
  | zero => rfl
  | succ n ih =>
    have hBefore := ih (fun i hi => h i (by omega))
    rw [winBytes_succ]
    split
    next hWritten =>
      have hx : x ≠ o + n := by
        intro hx
        rw [h n (by omega) hx, Bool.false_and] at hWritten
        exact absurd hWritten Bool.false_ne_true
      rw [Tab.get_set_other _ _ _ hx, hBefore]
    next => exact hBefore

theorem winBytes_same {o i : Nat} {be : BitVec 4} {n : Nat} (w : W32) (win : Tab Byte) (hi : i < n)
    (hBe : be.getLsbD i = true) (hWin : (o + i) / 4096 < 33) :
    Tab.get 0 (winBytes o w be n win) (o + i) = wordByte w i := by
  induction n with
  | zero => omega
  | succ n ih =>
    rw [winBytes_succ]
    by_cases hLast : i = n
    · subst hLast
      rw [hBe, decide_eq_true hWin, Bool.and_self, if_pos rfl, Tab.get_set_same]
    · have hBefore := ih (by omega)
      split
      · rw [Tab.get_set_other _ _ _ (by omega), hBefore]
      · exact hBefore

theorem State.hostWrite_window {a : Nat} (ha : 0x10000 ≤ a) (w : W32) (be : BitVec 4) (s : State) :
    s.hostWrite a w be = { s with host := { s.host with win := winBytes (a - 0x10000) w be 4 s.host.win } } := if_pos ha

/-! ### Registers -/

theorem State.regWrite_readOnly {a : Nat} (h : a % 4 ≠ 0 ∨ a < 0x300) (w : W32) (s : State) : s.regWrite a w = s := by
  by_cases hAligned : a % 4 ≠ 0
  · exact if_pos hAligned
  · have hLow : a < 0x300 := h.resolve_left hAligned
    rw [State.regWrite, if_neg hAligned, if_neg (by omega), if_neg (by omega), if_neg (by omega), if_neg (by omega),
      if_neg (by omega), if_neg (by omega), if_neg (by omega)]

theorem State.hostWrite_ignored {a : Nat} {be : BitVec 4} (ha : a < 0x10000) (h : be ≠ 15 ∨ a % 4 ≠ 0 ∨ a < 0x300) (w : W32)
    (s : State) : s.hostWrite a w be = s := by
  rw [State.hostWrite, if_neg (by omega)]
  split
  next hWhole => exact State.regWrite_readOnly (h.resolve_left (not_not_intro hWhole)) w s
  next => rfl

/-- What a write of the host may touch. -/
def writtenParts : List Part := [.evt, .host, .ring, .log, .cnt, .out, .line, .pool]

theorem State.regWrite_writes (a : Nat) (w : W32) (s : State) : Within writtenParts s (s.regWrite a w) := by
  have hDbRpl (m n : Nat) : Within writtenParts s (s.dbRpl m n) := by
    obtain ⟨_, _, _, _, _, _, _, h⟩ := s.dbRpl_reportsOrLine m n
    rw [h]
    exact within_of_eq_merge rfl
  unfold State.regWrite
  refine .ite (.refl _ s) (.ite (within_of_eq_merge rfl) (.ite ?_ ?_))
  · exact .ite ((State.dbReq_within _ _ s).mono rfl) (.ite (hDbRpl _ _) (.refl _ s))
  · refine .ite (within_of_eq_merge rfl) (.ite (within_of_eq_merge rfl) (.ite (within_of_eq_merge rfl) ?_))
    exact .ite ((State.evtRoute_within _ _ s).mono rfl) (.ite ((State.msixWrite_within _ _ s).mono rfl) (.refl _ s))

theorem State.hostWrite_writes (a : Nat) (w : W32) (be : BitVec 4) (s : State) :
    Within writtenParts s (s.hostWrite a w be) := by
  unfold State.hostWrite
  exact .ite (within_of_eq_merge rfl) (.ite (State.regWrite_writes a w s) (.refl _ s))

theorem Within.written {s t : State} (h : Within writtenParts s t) :
    t = { s.reporting t with line := t.line, pool := t.pool } := h.eq_merge

theorem spiAddr_zero (a : Nat) : spiAddr a 0 = a := by
  rw [spiAddr]
  omega

theorem State.spiWords_one {a : Nat} (ha : a < 0x40000) (w : W32) (s : State) :
    s.spiWords a [w] false = s.hostWrite a w 15 := by
  have hAddr : spiAddr a 0 < 0x40000 := by rwa [spiAddr_zero]
  calc s.spiWords a [w] false = (if spiAddr a 0 < 0x40000 then s.hostWrite (spiAddr a 0) w 15 else s) := rfl
    _ = s.hostWrite a w 15 := by rw [if_pos hAddr, spiAddr_zero]

theorem State.spiReads_one {a : Nat} (hTide : a ≠ 0x200) (hQth : a ≠ 0x1150) (hCnt : a ≠ 0x1158) (s : State) :
    s.spiReads a 1 = { s with out := .read a (BitVec.ofNat 32 (s.reg a)) :: s.out } := by
  calc s.spiReads a 1 = s.hostRead (spiAddr a 0) := rfl
    _ = _ := by
      rw [spiAddr_zero, State.hostRead, if_neg hTide, if_neg hQth, if_neg hCnt]
      rfl

theorem State.unmask_eq (v : Nat) (s : State) :
    s.unmask v = { s with
      host := { s.host with msixMask := putBit s.host.msixMask v false, msixPend := putBit s.host.msixPend v false },
      out := if bit s.host.msixPend v && bit s.host.msixMask v && s.host.pcieUp then .msix v :: s.out else s.out } := by
  simp only [State.unmask]
  split <;> rfl

/-! ### Accesses that are open, wait, or are not there -/

/-- An access that only a manager's host makes. -/
def managerAccess (i : Instr) (a : HostAccess) (f : State → State) : Prop :=
  ∀ s, exec i s = .next (if s.isManager then s.hostAccess a f else s)

theorem managerAccess.of_open {i : Instr} {a : HostAccess} {f : State → State} (h : managerAccess i a f) {s : State}
    (hManager : s.isManager = true) (hOpen : s.hostOpen) : exec i s = .next (f s) := by
  rw [h s, if_pos hManager, State.hostAccess_of_hostOpen hOpen]

/-- An access that changes nothing on a manager changes nothing. -/
theorem managerAccess.of_open_same {i : Instr} {a : HostAccess} {f : State → State} (h : managerAccess i a f) {s : State}
    (hOpen : s.hostOpen) (hSame : f s = s) : exec i s = .next s := by
  rw [h s, State.hostAccess_of_hostOpen hOpen, hSame, ite_self]

theorem managerAccess.of_worker {i : Instr} {a : HostAccess} {f : State → State} (h : managerAccess i a f) {s : State}
    (hWorker : s.isManager = false) : exec i s = .next s := by
  rw [h s, hWorker, if_neg Bool.false_ne_true]

/-- `s` with a host access that waits for the end of the clock hold (R111). -/
def State.accessWaits (a : HostAccess) (s : State) : State :=
  { s with clk := { s.clk with waiting := s.clk.waiting ++ [a] } }

theorem State.hostAccess_of_hold {s : State} (hMoored : s.power.state ≠ .moored) (hBeached : s.power.state ≠ .beached)
    (hHold : s.clk.rootHold = true) (a : HostAccess) (f : State → State) : s.hostAccess a f = s.accessWaits a := by
  rw [State.hostAccess, if_neg (not_or.mpr ⟨hMoored, hBeached⟩), if_pos hHold]
  rfl

theorem State.hostAccess_of_off {s : State} (hOff : s.power.state = .moored ∨ s.power.state = .beached) (a : HostAccess)
    (f : State → State) : s.hostAccess a f = s := if_pos hOff

theorem managerAccess.of_hold {i : Instr} {a : HostAccess} {f : State → State} (h : managerAccess i a f) {s : State}
    (hManager : s.isManager = true) (hWaits : ∀ f, s.hostAccess a f = s.accessWaits a) :
    exec i s = .next (s.accessWaits a) := by
  rw [h s, if_pos hManager, hWaits]

theorem managerAccess.of_off {i : Instr} {a : HostAccess} {f : State → State} (h : managerAccess i a f) {s : State}
    (hOff : s.power.state = .moored ∨ s.power.state = .beached) : exec i s = .next s := by
  rw [h s, State.hostAccess_of_off hOff, ite_self]

theorem evtStatusWrite_access (g : Fin 20) (v : W32) :
    managerAccess (.evtStatusWrite g v) (.write (0x1000 + 4 * g.val) v 15) (State.evtClear g.val v) := fun _ => rfl

theorem evtEnableWrite_access (a : Nat) (v : W32) :
    managerAccess (.evtEnableWrite a v) (.write a v 15) (State.evtRoute a v) := fun _ => rfl

theorem vectorUnmask_access (v : Fin 8) :
    managerAccess (.vectorUnmask v) (.write (0x300C + 16 * v.val) 0 15) (State.unmask v.val) := fun _ => rfl

theorem registerWrite_access (a : Nat) (w : W32) (be : BitVec 4) :
    managerAccess (.registerWrite a w be) (.write a w be) (State.hostWrite a w be) := fun _ => rfl

theorem spiWrite_access (a : Nat) (l : List W32) (b : Bool) :
    managerAccess (.spiWrite a l b) (.spiWrite a l b) (State.spiWords a l b) := fun _ => rfl

theorem spiRead_access (a n : Nat) : managerAccess (.spiRead a n) (.spiRead a n) (State.spiReads a n) := fun _ => rfl

theorem mbxDbReqWrite_access (m : MbxNo) (v : W32) :
    managerAccess (.mbxDbReqWrite m v) (.write (0x400 + 16 * m.val) v 15) (State.dbReq m.val (v.toNat % 64)) :=
  fun _ => rfl

theorem mbxDbRplWrite_access (m : MbxNo) (v : W32) :
    managerAccess (.mbxDbRplWrite m v) (.write (0x404 + 16 * m.val) v 15) (State.dbRpl m.val (v.toNat % 64)) :=
  fun _ => rfl

theorem exec_qthFifoDataRead (s : State) :
    exec .qthFifoDataRead s = .next (s.hostAccess (.read 0x1150) State.readQthFifo) := rfl

theorem exec_cntFifoDataRead (s : State) :
    exec .cntFifoDataRead s = .next (s.hostAccess (.read 0x1158) State.readCntFifo) := rfl

/-- A write of one word over the SPI is that write of a register. -/
theorem exec_spiWrite_one {s : State} (hOpen : s.hostOpen) {a : Nat} (ha : a < 0x40000) (w : W32) :
    exec (.spiWrite a [w] false) s = exec (.registerWrite a w 15) s := by
  rw [spiWrite_access a [w] false s, registerWrite_access a w 15 s, State.hostAccess_of_hostOpen hOpen,
    State.hostAccess_of_hostOpen hOpen, State.spiWords_one ha]

theorem exec_registerWrite_writes {s : State} (hOpen : s.hostOpen) (a : Nat) (w : W32) :
    completesWith (.registerWrite a w 15) s (fun t => t = { s.reporting t with line := t.line, pool := t.pool }) := by
  refine ⟨_, registerWrite_access a w 15 s, ?_⟩
  rw [State.hostAccess_of_hostOpen hOpen]
  exact Within.written (.ite (State.hostWrite_writes a w 15 s) (.refl _ s))

theorem execHeartbeat_eq (s : State) :
    exec .heartbeat s = .next (if s.start.fwState = 2 ∨ s.start.fwState = 4 then
      { s with host := { s.host with heartbeat := s.host.heartbeat + 1 } } else s) := by
  have hExec : exec .heartbeat s = execHeartbeat s := rfl
  rw [hExec, execHeartbeat]
  simp only [Bool.or_eq_true, decide_eq_true_eq]

/-- Settles O48: each access through what it does on an open interface, and the three ways of an access. -/
theorem hostRegisterCommands : Obligations.HostRegisterCommands := by
  unfold Obligations.HostRegisterCommands
  refine ⟨turnsOfTheMailboxes, fun s => ⟨fun g v hM hO => ?_, fun k v hM hO hk => ?_, fun k v hM hO hk => ?_,
    fun v hM hO => ?_, fun v hM hO => ?_, fun a w be hM hO ha => ?_, fun a w be hO ha hIgn => ?_, fun w hM hO => ?_,
    fun a w hO ha => ?_, fun a hM hO hTide hQth hCnt => ?_, execHeartbeat_eq s, fun hM hMoored hBeached hHold => ?_,
    fun hOff => ?_, fun hW => ?_⟩⟩
  · refine ⟨_, (evtStatusWrite_access g v).of_open hM hO, ?_, fun j hj => ?_, ?_, (State.setEvt_reports s _ _).reporting⟩
    · rw [evtClear_status hM, Tab.get_modify_same]
    · rw [evtClear_status hM, Tab.get_modify_other _ _ _ hj]
    · rw [evtClear_status hM]
  · refine ⟨_, (evtEnableWrite_access _ v).of_open hM hO, ?_⟩
    have hEvt : (s.evtRoute (0x1080 + 4 * k) v).evt = s.evt.putEnable k v := by
      rw [evtRoute_enable hk, State.setEvt_evt hM]
    refine ⟨?_, fun j hj => ?_, ?_, State.evtRoute_reports _ v s⟩
    · rw [hEvt, Events.putEnable, Tab.get_set_same]
    · rw [hEvt, Events.putEnable, Tab.get_set_other _ _ _ hj]
    · rw [hEvt]
      rfl
  · refine ⟨_, (evtEnableWrite_access _ v).of_open hM hO, ?_⟩
    have hEvt : (s.evtRoute (0x1100 + 4 * k) v).evt = { s.evt with route := Tab.set 0 s.evt.route k (v &&& 7) } := by
      rw [evtRoute_route hk, State.setEvt_evt hM]
    refine ⟨?_, ?_, State.evtRoute_reports _ v s⟩
    · rw [hEvt, Tab.get_set_same]
    · rw [hEvt]
  · exact ⟨_, (evtEnableWrite_access _ v).of_open hM hO, State.setEvt_evt hM _ true, State.evtRoute_reports _ v s⟩
  · exact ⟨_, (vectorUnmask_access v).of_open hM hO, State.unmask_eq v.val s⟩
  · refine ⟨_, (registerWrite_access a w be).of_open hM hO, ?_⟩
    rw [State.hostWrite_window ha]
    exact ⟨fun i hi hBe hWin => winBytes_same w _ hi hBe hWin, fun o ho => winBytes_other w _ ho, rfl⟩
  · exact (registerWrite_access a w be).of_open_same hO (State.hostWrite_ignored ha hIgn w s)
  · exact (registerWrite_access 0x300 w 15).of_open hM hO
  · refine ⟨?_, (spiWrite_access a [w] true).of_open_same hO rfl⟩
    obtain ⟨t, hExec, hFrame⟩ := exec_registerWrite_writes hO a w
    exact ⟨t, (exec_spiWrite_one hO ha w).trans hExec, hExec, hFrame⟩
  · rw [(spiRead_access a 1).of_open hM hO, State.spiReads_one hTide hQth hCnt]
  · intro g a n v be k m l b
    have hWaits (x : HostAccess) (f : State → State) : s.hostAccess x f = s.accessWaits x :=
      State.hostAccess_of_hold hMoored hBeached hHold x f
    simp only [List.forall_mem_cons]
    refine ⟨(evtStatusWrite_access g v).of_hold hM (hWaits _), (evtEnableWrite_access a v).of_hold hM (hWaits _),
      (vectorUnmask_access k).of_hold hM (hWaits _), (registerWrite_access a v be).of_hold hM (hWaits _),
      (spiWrite_access a l b).of_hold hM (hWaits _), (spiRead_access a n).of_hold hM (hWaits _),
      (mbxDbReqWrite_access m v).of_hold hM (hWaits _), (mbxDbRplWrite_access m v).of_hold hM (hWaits _), ?_, ?_, ?_, nofun⟩
    · rw [exec_tideLoRead, hWaits]
      rfl
    · rw [exec_qthFifoDataRead, hWaits]
      rfl
    · rw [exec_cntFifoDataRead, hWaits]
      rfl
  · intro g a n v be k m l b
    simp only [List.forall_mem_cons]
    refine ⟨(evtStatusWrite_access g v).of_off hOff, (evtEnableWrite_access a v).of_off hOff,
      (vectorUnmask_access k).of_off hOff, (registerWrite_access a v be).of_off hOff, (spiWrite_access a l b).of_off hOff,
      (spiRead_access a n).of_off hOff, (mbxDbReqWrite_access m v).of_off hOff, (mbxDbRplWrite_access m v).of_off hOff,
      ?_, ?_, ?_, nofun⟩
    · rw [exec_tideLoRead, State.hostAccess_of_off hOff]
    · rw [exec_qthFifoDataRead, State.hostAccess_of_off hOff]
    · rw [exec_cntFifoDataRead, State.hostAccess_of_off hOff]
  · intro g a n v be k m l b
    simp only [List.forall_mem_cons]
    exact ⟨(evtStatusWrite_access g v).of_worker hW, (evtEnableWrite_access a v).of_worker hW,
      (vectorUnmask_access k).of_worker hW, (registerWrite_access a v be).of_worker hW, (spiWrite_access a l b).of_worker hW,
      (spiRead_access a n).of_worker hW, (mbxDbReqWrite_access m v).of_worker hW, (mbxDbRplWrite_access m v).of_worker hW,
      nofun⟩

end Sys2Proof.Machine
end

section
/-!
# Requests that are served, and the transactional commands

A request that is within scope and admitted is answered by what its body says of it, or runs it (R642). A transactional
command's body looks at scope, rate, form and settings, and stages.
-/
namespace Sys2Proof.Machine

-- One theorem after another: the stacks of many that wait at once would exceed the memory of the check.
set_option Elab.async false

/-! ### What an answer leaves of its mailbox -/

theorem Mbx.settled_txn (opc : Nat) (q : Req) (st : Status) (p : List Byte) (frame : Nat) (b : Mbx) :
    (b.settled opc q st p frame).txn = b.txn := by cases st <;> rfl

theorem Mbx.settled_deferred (opc : Nat) (q : Req) (st : Status) (p : List Byte) (frame : Nat) (b : Mbx) :
    (b.settled opc q st p frame).deferred = b.deferred := by cases st <;> rfl

theorem Mbx.settled_session (opc : Nat) (q : Req) (st : Status) (p : List Byte) (frame : Nat) (b : Mbx) :
    (b.settled opc q st p frame).session = b.session := by cases st <;> rfl

theorem Mbx.settled_lastSwitch (opc : Nat) (q : Req) (st : Status) (p : List Byte) (frame : Nat) (b : Mbx) :
    (b.settled opc q st p frame).lastSwitch = b.lastSwitch := by cases st <;> rfl

section
variable {s : State} (h : s.isManager = true) (opc : Nat) (q : Req) (st : Status) (p : List Byte)
include h

theorem State.answer_txn : ((s.answer opc q st p).box q.mbx.val).txn = (s.box q.mbx.val).txn :=
  (congrArg Mbx.txn (State.box_answer h opc q st p)).trans (Mbx.settled_txn opc q st p _ _)

theorem State.answer_deferred : ((s.answer opc q st p).box q.mbx.val).deferred = (s.box q.mbx.val).deferred :=
  (congrArg Mbx.deferred (State.box_answer h opc q st p)).trans (Mbx.settled_deferred opc q st p _ _)

theorem State.answer_session : ((s.answer opc q st p).box q.mbx.val).session = (s.box q.mbx.val).session :=
  (congrArg Mbx.session (State.box_answer h opc q st p)).trans (Mbx.settled_session opc q st p _ _)

theorem State.answer_lastSwitch : ((s.answer opc q st p).box q.mbx.val).lastSwitch = (s.box q.mbx.val).lastSwitch :=
  (congrArg Mbx.lastSwitch (State.box_answer h opc q st p)).trans (Mbx.settled_lastSwitch opc q st p _ _)

end

theorem State.box_modBox_same (m : Nat) (f : Mbx → Mbx) (s : State) : (s.modBox m f).box m = f (s.box m) :=
  HostIf.box_modBox_same m f s.host

/-! ### Serving -/

/-- A request of the operator drops at most a partial OMCI message (R747). -/
theorem State.dropSeg_cases (opc : Nat) (q : Req) (s : State) :
    s.dropSeg opc q = s ∨ s.dropSeg opc q = { s with host := { s.host with omciSeg := none } } := by
  unfold State.dropSeg
  split
  · exact .inr rfl
  · exact .inl rfl

/-- What does not look at a partial OMCI message is as before. -/
theorem State.dropSeg_same {α : Type} (f : State → α) (hf : ∀ s : State, f { s with host := { s.host with omciSeg := none } } = f s)
    (opc : Nat) (q : Req) (s : State) : f (s.dropSeg opc q) = f s := by
  rcases s.dropSeg_cases opc q with h | h
  · rw [h]
  · rw [h, hf]

theorem State.dropSeg_box (opc : Nat) (q : Req) (s : State) (m : Nat) : (s.dropSeg opc q).box m = s.box m :=
  State.dropSeg_same (fun t => t.box m) (fun _ => rfl) opc q s

theorem State.dropSeg_view (opc : Nat) (q : Req) (s : State) (m : Nat) : (s.dropSeg opc q).view m = s.view m :=
  State.dropSeg_same (fun t => t.view m) (fun _ => rfl) opc q s

theorem State.dropSeg_start (opc : Nat) (q : Req) (s : State) : (s.dropSeg opc q).start = s.start :=
  State.dropSeg_same State.start (fun _ => rfl) opc q s

theorem State.dropSeg_now (opc : Nat) (q : Req) (s : State) : (s.dropSeg opc q).now = s.now :=
  State.dropSeg_same State.now (fun _ => rfl) opc q s

theorem State.dropSeg_isManager (opc : Nat) (q : Req) (s : State) : (s.dropSeg opc q).isManager = s.isManager :=
  State.dropSeg_same State.isManager (fun _ => rfl) opc q s

theorem State.dropSeg_goingDown (opc : Nat) (q : Req) (s : State) : (s.dropSeg opc q).goingDown = s.goingDown :=
  State.dropSeg_same State.goingDown (fun _ => rfl) opc q s

theorem State.dropSeg_reports (opc : Nat) (q : Req) (s : State) : Reports s (s.dropSeg opc q) := by
  rcases s.dropSeg_cases opc q with h | h
  · rw [h]
    exact .refl s
  · rw [h]
    exact ⟨_, _, _, _, _, _, rfl⟩

theorem State.dropSeg_steady (opc : Nat) (q : Req) (s : State) : Steady s.host (s.dropSeg opc q).host := by
  rcases s.dropSeg_cases opc q with h | h
  · rw [h]
    exact .refl _
  · rw [h]
    exact steady_of_mbx rfl rfl

section
variable {s : State} {opc : Nat} {q : Req} (h : s.admits opc q)
include h

theorem State.admits_isManager : (s.dropSeg opc q).isManager = true := (s.dropSeg_isManager opc q).trans h.1

/-- An admitted request of which the body says an answer. -/
theorem State.serve_no {body : Req → State → Verdict} {st : Status} (hBody : body q (s.dropSeg opc q) = .no st) :
    s.serve opc q body = (s.dropSeg opc q).reply opc q st := by
  obtain ⟨_, hScope, hFlags, _⟩ := h
  simp only [State.serve, hScope, Bool.false_eq_true, if_false, hFlags, ne_eq, not_true_eq_false, hBody]

/-- An admitted request that the body runs. -/
theorem State.serve_go {body : Req → State → Verdict} {f : State → State} (hBody : body q (s.dropSeg opc q) = .go f) :
    s.serve opc q body = f (s.dropSeg opc q) := by
  obtain ⟨_, hScope, hFlags, hUp⟩ := h
  have hServed : (s.goingDown && !servedAlways opc) = false := by
    rcases hUp with hRuns | hAlways
    · rw [hRuns, Bool.false_and]
    · rw [hAlways, Bool.not_true, Bool.and_false]
  simp only [State.serve, hScope, Bool.false_eq_true, if_false, hFlags, ne_eq, not_true_eq_false, hBody,
    State.dropSeg_goingDown, hServed]

theorem State.serve_no_answers {body : Req → State → Verdict} {st : Status} (hBody : body q (s.dropSeg opc q) = .no st) :
    (s.serve opc q body).answers opc q st.code [] ∧ s.serve opc q body = s.reporting (s.serve opc q body) := by
  rw [State.serve_no h hBody]
  exact ⟨State.answer_answers (State.admits_isManager h) opc q st [],
    ((s.dropSeg_reports opc q).trans (State.answer_reports _ _ _ _ _)).reporting⟩

end

/-! ### Staging -/

/-- A transactional command is served with its form's body. -/
theorem exec_of_stagedRows (q : Req) (s : State) : ∀ r ∈ stagedRows q,
    exec r.1 s = .next (s.serve r.2.1 q (stageBody r.2.1 r.2.2.1 r.2.2.2)) := by
  simp only [stagedRows, List.forall_mem_cons]
  exact ⟨rfl, rfl, rfl, rfl, rfl, rfl, rfl, rfl, rfl, rfl, rfl, rfl, rfl, rfl, rfl, rfl, rfl, rfl, rfl, nofun⟩

section
variable {opc : Nat} {hasObj : Bool} {form : List Byte → Option (Setting × List Nat)} {q : Req} {s : State}

theorem stageBody_foreign (hForeign : (hasObj && decide (q.mbx.val < 32) && (s.view q.mbx.val).foreignT opc q) = true) :
    stageBody opc hasObj form q s = .no .denied := if_pos hForeign

theorem stageBody_unsupported
    (hOwn : (hasObj && decide (q.mbx.val < 32) && (s.view q.mbx.val).foreignT opc q) = false)
    (hRate : s.unsupportedRate opc q.payload = true) : stageBody opc hasObj form q s = .no .unsupported := by
  rw [stageBody, hOwn, if_neg Bool.false_ne_true]
  exact if_pos hRate

theorem stageBody_form (hOwn : (hasObj && decide (q.mbx.val < 32) && (s.view q.mbx.val).foreignT opc q) = false)
    (hRate : s.unsupportedRate opc q.payload = false) :
    stageBody opc hasObj form q s = match form q.payload with
      | none => .no .badArg
      | some (x, named) =>
        match (s.view q.mbx.val).settingFail x with
        | some st => .no st
        | none => .go (fun s => s.stage opc q x named) := by
  rw [stageBody, hOwn, if_neg Bool.false_ne_true]
  exact if_neg (by rw [← Bool.not_eq_true] at hRate; exact hRate)

end

theorem State.dropSeg_unsupportedRate (opc : Nat) (q : Req) (s : State) (p : List Byte) :
    (s.dropSeg opc q).unsupportedRate opc p = s.unsupportedRate opc p :=
  State.dropSeg_same (fun t => t.unsupportedRate opc p) (fun _ => rfl) opc q s

/-- Put the transaction of a mailbox. -/
def State.putTxn (m : Nat) (x : Option Txn) (s : State) : State := s.modBox m (fun b => { b with txn := x })

/-- A mailbox's transaction is replaced and its request answered. -/
theorem State.modTxn_answer {s : State} (h : s.isManager = true) (opc : Nat) (q : Req) (st : Status) (p : List Byte)
    (x : Option Txn) :
    (((s.putTxn q.mbx.val x).answer opc q st p).answers opc q st.code p)
    ∧ (((s.putTxn q.mbx.val x).answer opc q st p).box q.mbx.val).txn = x
    ∧ Reports s ((s.putTxn q.mbx.val x).answer opc q st p) := by
  generalize hPut : s.putTxn q.mbx.val x = t
  have hManager : t.isManager = true := by rw [← hPut]; exact h
  refine ⟨State.answer_answers hManager opc q st p, ?_, Reports.trans ?_ (State.answer_reports _ _ _ _ _)⟩
  · rw [State.answer_txn hManager, ← hPut, State.putTxn, State.box_modBox_same]
  · rw [← hPut]
    exact State.modBox_reports s _ _

section
variable {s : State} {q : Req} (opc : Nat) (x : Setting) (named : List Nat)

theorem State.stage_without (h : (s.box q.mbx.val).txn = none) : s.stage opc q x named = s.reply opc q (.ignored 1) := by
  simp only [State.stage, h]

theorem State.stage_full {u : Txn} (h : (s.box q.mbx.val).txn = some u) (hRoom : u.room q.payload.length = false) :
    s.stage opc q x named =
      (s.putTxn q.mbx.val (some { u with lastCmd := s.now })).reply opc q .noSpace := by
  simp only [State.stage, h, hRoom, Bool.not_false, if_true]
  rfl

/-- A transaction with one more staged command. -/
def Txn.plus (u : Txn) (y : StagedCmd) (now : Nat) : Txn :=
  { staged := u.staged ++ [y], bytes := u.bytes + y.payload.length, lastCmd := now }

theorem State.stage_room {u : Txn} (h : (s.box q.mbx.val).txn = some u) (hRoom : u.room q.payload.length = true) :
    s.stage opc q x named = (s.putTxn q.mbx.val (some (u.plus { setting := x, named := named, opc := opc, payload := q.payload } s.now))).reply opc q
        .done := by
  simp only [State.stage, h, hRoom, Bool.not_true, Bool.false_eq_true, if_false]
  rfl

end

/-- Settles O50: the four verdicts of a transactional command's body, and the three ways of staging. -/
theorem stagingCommands : Obligations.StagingCommands := by
  unfold Obligations.StagingCommands
  refine ⟨fun s q r hr hAdmits hOwn hRate => ⟨fun hForm => ?_, fun x named hForm hSetting => ⟨fun hTxn => ?_,
    fun u hTxn hRoom => ?_, fun u hTxn hRoom => ?_⟩⟩, fun s q r hr hAdmits => ⟨fun hObj hBerth hForeign => ?_,
    fun hRate hOwn => ?_⟩⟩
  case refine_1 =>
    refine ⟨_, exec_of_stagedRows q s r hr, State.serve_no_answers hAdmits (st := .badArg) ?_⟩
    rw [stageBody_form (by rwa [State.dropSeg_view]) (by rwa [State.dropSeg_unsupportedRate]), hForm]
  case refine_5 =>
    refine ⟨_, exec_of_stagedRows q s r hr, ?_⟩
    have hBody : stageBody r.2.1 r.2.2.1 r.2.2.2 q (s.dropSeg r.2.1 q) = .no .denied := by
      refine stageBody_foreign ?_
      rw [State.dropSeg_view, hObj, decide_eq_true hBerth, hForeign]
      rfl
    obtain ⟨hAnswers, hFrame⟩ := State.serve_no_answers hAdmits hBody
    refine ⟨hAnswers, ?_, hFrame⟩
    rw [State.serve_no hAdmits hBody, State.reply, State.answer_txn (State.admits_isManager hAdmits), State.dropSeg_box]
  case refine_6 =>
    refine ⟨_, exec_of_stagedRows q s r hr, State.serve_no_answers hAdmits (st := .unsupported) ?_⟩
    refine stageBody_unsupported ?_ (by rwa [State.dropSeg_unsupportedRate])
    rw [State.dropSeg_view, Bool.and_eq_false_iff, Bool.and_eq_false_iff]
    rcases hOwn with hObj | hOperator | hForeign
    · exact .inl (.inl hObj)
    · exact .inl (.inr (decide_eq_false (not_lt.mpr hOperator)))
    · exact .inr hForeign
  all_goals
    have hBody : stageBody r.2.1 r.2.2.1 r.2.2.2 q (s.dropSeg r.2.1 q) = .go (fun s => s.stage r.2.1 q x named) := by
      rw [stageBody_form (by rwa [State.dropSeg_view]) (by rwa [State.dropSeg_unsupportedRate]), hForm]
      simp only [State.dropSeg_view, hSetting]
    have hTxn' := (congrArg Mbx.txn (s.dropSeg_box r.2.1 q q.mbx.val)).trans hTxn
    refine ⟨_, exec_of_stagedRows q s r hr, ?_⟩
    rw [State.serve_go hAdmits hBody]
  case refine_2 =>
    rw [State.stage_without _ _ _ hTxn']
    exact ⟨State.answer_answers (State.admits_isManager hAdmits) _ _ _ _,
      ((s.dropSeg_reports _ q).trans (State.answer_reports _ _ _ _ _)).reporting⟩
  case refine_3 =>
    rw [State.stage_room _ _ _ hTxn' hRoom]
    obtain ⟨hAnswers, hStaged, hFrame⟩ := State.modTxn_answer (State.admits_isManager hAdmits) r.2.1 q .done []
      (some (u.plus { setting := x, named := named, opc := r.2.1, payload := q.payload } (s.dropSeg r.2.1 q).now))
    refine ⟨hAnswers, hStaged.trans ?_, ((s.dropSeg_reports _ q).trans hFrame).reporting⟩
    rw [State.dropSeg_now]
    rfl
  case refine_4 =>
    rw [State.stage_full _ _ _ hTxn' hRoom]
    obtain ⟨hAnswers, hStaged, hFrame⟩ := State.modTxn_answer (State.admits_isManager hAdmits) r.2.1 q .noSpace []
      (some { u with lastCmd := (s.dropSeg r.2.1 q).now })
    refine ⟨hAnswers, hStaged.trans ?_, ((s.dropSeg_reports _ q).trans hFrame).reporting⟩
    rw [State.dropSeg_now]

end Sys2Proof.Machine
end

section
/-!
# The numbered messages of a peer

A message toward a peer that has fewer than eight unacknowledged is numbered and sent; otherwise it waits (R467).
-/
namespace Sys2Proof.Machine

/-- The message toward `dst` as it is kept until its acknowledgement comes. -/
def Ring.numbered (k : DccKeys) (self dst frame : Nat) (body : DccBody) (r : Ring) : Unacked :=
  let p : Peer := Tab.get {} r.peers dst
  let m : DccMsg :=
    { dst := Fin.ofNat 16 dst, src := Fin.ofNat 16 self, bcast := false, unnumbered := false
      ackOnly := false, ttl := 31, msgSeq := p.nextSeq, ackSeq := p.lastDelivered, body := body }
  { msg := m, wire := dccWire { k with gen := r.pairGen self dst, wraps := p.txWraps } m, sends := 1, frame := frame }

/-- A peer toward which a numbered message has been sent. -/
def Peer.sent (u : Unacked) (p : Peer) : Peer :=
  { p with nextSeq := if p.nextSeq = 0xFFFF then 1 else p.nextSeq + 1
           txWraps := if p.nextSeq = 0xFFFF then (p.txWraps + 1) % 65536 else p.txWraps
           unacked := p.unacked ++ [u] }

/-- A peer toward which a message waits. -/
def Peer.queued (body : DccBody) (p : Peer) : Peer := { p with queue := p.queue ++ [body] }

def Ring.putPeer (dst : Nat) (p : Peer) (r : Ring) : Ring := { r with peers := Tab.set {} r.peers dst p }

section
variable (k : DccKeys) (self dst frame : Nat) (body : DccBody) {r : Ring}

theorem dccPush_full (h : 8 ≤ (Tab.get {} r.peers dst : Peer).unacked.length) :
    dccPush k self dst frame body r = r.putPeer dst ((Tab.get {} r.peers dst : Peer).queued body) := if_pos h

theorem dccPush_room (h : (Tab.get {} r.peers dst : Peer).unacked.length < 8) :
    dccPush k self dst frame body r = dccPut (r.sideOf dst) true (r.numbered k self dst frame body).wire
      (r.putPeer dst ((Tab.get {} r.peers dst : Peer).sent (r.numbered k self dst frame body))) := if_neg (not_le.mpr h)

end

theorem Ring.peer_putPeer_same (dst : Nat) (p : Peer) (r : Ring) : Tab.get {} (r.putPeer dst p).peers dst = p :=
  Tab.get_set_same _ _ _ _

theorem Ring.peer_putPeer_other {dst n : Nat} (p : Peer) (r : Ring) (hn : n ≠ dst) :
    Tab.get {} (r.putPeer dst p).peers n = Tab.get {} r.peers n := Tab.get_set_other _ _ _ hn

theorem dccPut_peers (d : Nat) (own : Bool) (wire : List Byte) (r : Ring) : (dccPut d own wire r).peers = r.peers := rfl

theorem dccPut_dccTx (d : Nat) (own : Bool) (wire : List Byte) (r : Ring) :
    (Tab.get {} (dccPut d own wire r).sides d : RingSide).dccTx
      = (Tab.get {} r.sides d : RingSide).dccTx ++ dccSlots own wire := by
  rw [dccPut, Tab.get_modify_same]

/-- Settles O40: below eight the message is numbered and sent, from eight on it waits. -/
theorem dccKeepsEightUnacknowledged : Obligations.DccKeepsEightUnacknowledged := by
  unfold Obligations.DccKeepsEightUnacknowledged
  intro k self dst frame body r
  by_cases hFull : 8 ≤ (Tab.get {} r.peers dst : Peer).unacked.length
  · simp only [dccPush_full k self dst frame body hFull, Ring.peer_putPeer_same]
    exact ⟨id, fun hRoom => absurd hRoom (not_lt.mpr hFull), fun _ => ⟨rfl, rfl⟩, fun n => Ring.peer_putPeer_other _ r⟩
  · have hRoom := not_le.mp hFull
    simp only [dccPush_room k self dst frame body hRoom, dccPut_peers, Ring.peer_putPeer_same]
    refine ⟨fun _ => ?_, fun _ => ⟨rfl, rfl, r.numbered k self dst frame body, rfl, rfl, rfl, rfl, rfl, dccPut_dccTx _ _ _ _⟩,
      fun h => absurd h hFull, fun n => Ring.peer_putPeer_other _ r⟩
    rw [Peer.sent, List.length_append]
    exact hRoom

end Sys2Proof.Machine
end

section
/-!
# The take test

R314 cell by cell: the first cells of a take are granted whenever its last one is.
-/
namespace Sys2Proof.Machine

/-- What the last of `n` cells needs: a free cell, its place in the quota, and its place in the minimum or beside the
unmet reservations. -/
def lastCellAllowed (min quota unmet : Nat) (owned : Bool) (n used berth free : Nat) : Prop :=
  n ≤ free ∧ (owned = true → berth + n ≤ quota) ∧ (used + n ≤ min ∨ unmet + n ≤ free)

section
variable (min quota unmet : Nat) (owned : Bool) (n used berth free : Nat)

/-- The first cell of a take is granted by the test of one cell, and the others follow. -/
theorem takeCells_succ_ok : takeCells min quota unmet owned (n + 1) used berth free = .ok ↔
    lastCellAllowed min quota unmet owned 1 used berth free
    ∧ takeCells min quota unmet owned n (used + 1) (berth + 1) (free - 1) = .ok := by
  rw [takeCells]
  by_cases hQuota : (owned && decide (quota ≤ berth)) = true
  · rw [if_pos hQuota]
    obtain ⟨hOwned, hFull⟩ := Bool.and_eq_true_iff.mp hQuota
    refine iff_of_false nofun (fun ⟨⟨_, hRoom, _⟩, _⟩ => ?_)
    have := hRoom hOwned
    have := of_decide_eq_true hFull
    omega
  · rw [if_neg hQuota]
    by_cases hFree : free = 0
    · rw [if_pos hFree]
      refine iff_of_false nofun (fun ⟨⟨hOne, _⟩, _⟩ => ?_)
      omega
    · rw [if_neg hFree]
      by_cases hKeeps : used < min ∨ unmet < free
      · rw [if_pos hKeeps]
        refine (and_iff_right ⟨by omega, fun hOwned => ?_, by omega⟩).symm
        rw [hOwned, Bool.true_and, decide_eq_true_eq] at hQuota
        omega
      · rw [if_neg hKeeps]
        refine iff_of_false nofun (fun ⟨⟨_, _, hLast⟩, _⟩ => ?_)
        omega

/-- A take is granted when its first cell and the rest are, which its last cell decides. -/
theorem lastCellAllowed_succ (hn : 0 < n) : lastCellAllowed min quota unmet owned (n + 1) used berth free ↔
    lastCellAllowed min quota unmet owned 1 used berth free
    ∧ lastCellAllowed min quota unmet owned n (used + 1) (berth + 1) (free - 1) := by
  unfold lastCellAllowed
  cases owned
  · simp only [Bool.false_eq_true, false_implies, true_and]
    omega
  · simp only [forall_const]
    omega

end

/-- Settles O29, by induction on the cells of the take. -/
theorem takeKeepsReservations : Obligations.TakeKeepsReservations := by
  unfold Obligations.TakeKeepsReservations
  intro min quota unmet owned n used berth free
  change _ ↔ n = 0 ∨ lastCellAllowed min quota unmet owned n used berth free
  induction n generalizing used berth free with
  | zero => exact iff_of_true rfl (.inl rfl)
  | succ n ih =>
    rw [takeCells_succ_ok, ih]
    by_cases hn : n = 0
    · subst hn
      exact ⟨fun h => .inr h.1, fun h => ⟨h.resolve_left nofun, .inl rfl⟩⟩
    · rw [lastCellAllowed_succ _ _ _ _ _ _ _ _ (Nat.pos_of_ne_zero hn)]
      simp only [hn, Nat.add_one_ne_zero, false_or]

end Sys2Proof.Machine
end

section
/-!
# Counters and FIFOs under reporting

An event message counts in the block of its mailbox (0x600 to 0x70F) and nowhere else, and a raise moves the status bits
alone; so a counter of another block counts exactly what is counted in it, and a FIFO holds exactly what is posted.
-/
namespace Sys2Proof.Machine

-- One theorem after another: the stacks of many that wait at once would exceed the memory of the check.
set_option Elab.async false

/-! ### Counters -/

/-- A counter outside the blocks of the mailboxes. -/
def besideMailboxes (i : Nat) : Prop := i < 0x600 ∨ 0x710 ≤ i

theorem cntAdd_same (c : Tab Nat) (i n : Nat) : Tab.get 0 (cntAdd c i n) i = (Tab.get 0 c i + n) % 2 ^ 40 :=
  Tab.get_modify_same _ _ _ _

theorem cntAdd_other (c : Tab Nat) {i j : Nat} (n : Nat) (h : j ≠ i) : Tab.get 0 (cntAdd c i n) j = Tab.get 0 c j :=
  Tab.get_modify_other _ _ _ h

theorem queueEvt_cnt {m i : Nat} (hm : m < 34) (hi : besideMailboxes i) (p : List Byte)
    (a : HostIf × Tab Nat × List Emission × Bool) : Tab.get 0 (queueEvt m p a).2.1 i = Tab.get 0 a.2.1 i := by
  simp only [besideMailboxes] at hi
  simp only [queueEvt]
  split
  · exact cntAdd_other _ _ (by omega)
  · dsimp only
    split
    · rfl
    · exact cntAdd_other _ _ (by omega)

theorem queueEvts_cnt {i : Nat} (hi : besideMailboxes i) (c : Cfg) (mgr : Bool) (node src tide obj detail : Nat) (h : HostIf)
    (cnt : Tab Nat) : Tab.get 0 (queueEvts c mgr node src tide obj detail h cnt).2.1 i = Tab.get 0 cnt i := by
  refine List.foldlRecOn (motive := fun (a : HostIf × Tab Nat × List Emission × Bool) => Tab.get 0 a.2.1 i = Tab.get 0 cnt i)
    _ _ rfl (fun a ha m hm => ?_)
  split
  · exact (queueEvt_cnt (List.mem_range.mp hm) hi _ a).trans ha
  · exact ha

section
variable {i : Nat} (hi : besideMailboxes i)
include hi

theorem State.raise_cnt (src obj detail : Nat) (s : State) :
    Tab.get 0 (s.raise src obj detail).cnt i = Tab.get 0 s.cnt i := queueEvts_cnt hi _ _ _ _ _ _ _ _ _

theorem State.raiseWin_cnt (n src sub obj detail : Nat) (s : State) :
    Tab.get 0 (s.raiseWin n src sub obj detail).cnt i = Tab.get 0 s.cnt i := by
  simp only [State.raiseWin]
  split
  · rfl
  · exact State.raise_cnt hi src obj detail _

theorem State.postHalf_cnt (w : W32) (o : Nat) (s : State) :
    Tab.get 0 (s.postHalf w o).cnt i = Tab.get 0 s.cnt i := by
  simp only [State.postHalf]
  split
  · split
    · rfl
    · exact State.raise_cnt hi _ _ _ _
  · exact State.raise_cnt hi _ _ _ _

theorem State.count_cnt (k n : Nat) (s : State) :
    Tab.get 0 (s.count k n).cnt i = Tab.get 0 (cntAdd s.cnt k n) i := by
  simp only [State.count]
  split
  · exact State.postHalf_cnt hi _ _ _
  · rfl

theorem State.count_cnt_same (n : Nat) (s : State) :
    Tab.get 0 (s.count i n).cnt i = (Tab.get 0 s.cnt i + n) % 2 ^ 40 :=
  (State.count_cnt hi i n s).trans (cntAdd_same _ _ _)

theorem State.count_cnt_other {k : Nat} (hk : i ≠ k) (n : Nat) (s : State) :
    Tab.get 0 (s.count k n).cnt i = Tab.get 0 s.cnt i := (State.count_cnt hi k n s).trans (cntAdd_other _ _ hk)

end

/-! ### The event block -/

/-- The event block without its status bits. -/
def Events.besideStatus (e : Events) : Events := { e with status := [], reported := false }

theorem setEvtParts_besideStatus (e : Events) (b : Bool) (h : HostIf) (r : Ring) (s : State) :
    (setEvtParts e b h r s).1.besideStatus = e.besideStatus := by
  simp only [setEvtParts]
  split <;> rfl

theorem State.raise_besideStatus (src obj detail : Nat) (s : State) :
    (s.raise src obj detail).evt.besideStatus = s.evt.besideStatus := by
  simp only [State.raise, raiseParts]
  rw [setEvtParts_besideStatus]
  split
  · rfl
  · split <;> rfl

/-! ### Posting to the FIFOs -/

/-- A threshold entry posted to a FIFO with room, or to a full one. -/
theorem State.qthPost_room {s : State} (h : s.evt.qthFifo.length < 1024) (entry : W32) (obj : Nat) :
    (s.qthPost entry obj).evt.qthFifo = s.evt.qthFifo ++ [entry] ∧ (s.qthPost entry obj).pends 288 := by
  simp only [State.qthPost, if_pos h]
  refine ⟨?_, State.raise_pends _ _ _ _⟩
  exact (congrArg Events.qthFifo (State.raise_besideStatus 288 obj 0 _) :)

theorem State.qthPost_full {s : State} (h : ¬ s.evt.qthFifo.length < 1024) (entry : W32) (obj : Nat) :
    (s.qthPost entry obj).evt.qthFifo = s.evt.qthFifo ∧ (s.qthPost entry obj).evt.qthOvf = true
    ∧ (s.qthPost entry obj).evt.qthHush = true ∧ (s.evt.qthHush = false → (s.qthPost entry obj).pends 289) := by
  simp only [State.qthPost, if_neg h]
  split
  next hHush => exact ⟨rfl, rfl, hHush, fun hLoud => absurd (hHush.symm.trans hLoud) (by decide)⟩
  next =>
    have hEvt := State.raise_besideStatus 289 obj 0 { s with evt := { s.evt with qthOvf := true, qthHush := true } }
    exact ⟨(congrArg Events.qthFifo hEvt :), (congrArg Events.qthOvf hEvt :), (congrArg Events.qthHush hEvt :),
      fun _ => State.raise_pends _ _ _ _⟩

section
variable {s : State} (hManager : s.isManager = true) (entry : W32) (obj : Nat)
include hManager

theorem State.postHalf_manager : s.postHalf entry obj = if (cntPost entry s.evt).2 = 0 then { s with evt := (cntPost entry s.evt).1 }
    else ({ s with evt := (cntPost entry s.evt).1 }).raise (cntPost entry s.evt).2 obj 0 := if_pos hManager

theorem State.postHalf_room (h : s.evt.cntFifo.length < 512) :
    (s.postHalf entry obj).evt.cntFifo = s.evt.cntFifo ++ [entry] ∧ (s.postHalf entry obj).pends 480 := by
  have hPost : cntPost entry s.evt = ({ s.evt with cntFifo := s.evt.cntFifo ++ [entry] }, 480) := if_pos h
  rw [State.postHalf_manager hManager, hPost, if_neg (Nat.succ_ne_zero 479)]
  exact ⟨(congrArg Events.cntFifo (State.raise_besideStatus 480 obj 0 _) :), State.raise_pends _ _ _ _⟩

theorem State.postHalf_full (h : ¬ s.evt.cntFifo.length < 512) :
    (s.postHalf entry obj).evt.cntFifo = s.evt.cntFifo ∧ (s.postHalf entry obj).evt.cntOvf = true
    ∧ (s.postHalf entry obj).evt.cntHush = true ∧ (s.evt.cntHush = false → (s.postHalf entry obj).pends 481) := by
  rw [State.postHalf_manager hManager]
  by_cases hHush : s.evt.cntHush = true
  · have hPost : cntPost entry s.evt = ({ s.evt with cntOvf := true }, 0) := by rw [cntPost, if_neg h, if_pos hHush]
    rw [hPost, if_pos rfl]
    exact ⟨rfl, rfl, hHush, fun hLoud => absurd (hHush.symm.trans hLoud) (by decide)⟩
  · have hPost : cntPost entry s.evt = ({ s.evt with cntOvf := true, cntHush := true }, 481) := by
      rw [cntPost, if_neg h, if_neg hHush]
    rw [hPost, if_neg (Nat.succ_ne_zero 480)]
    have hEvt := State.raise_besideStatus 481 obj 0 { s with evt := { s.evt with cntOvf := true, cntHush := true } }
    exact ⟨(congrArg Events.cntFifo hEvt :), (congrArg Events.cntOvf hEvt :), (congrArg Events.cntHush hEvt :),
      fun _ => State.raise_pends _ _ _ _⟩

end

/-! ### Queues -/

theorem State.queue_modQueue_same (q : Nat) (f : Queue → Queue) (s : State) : (s.modQueue q f).queue q = f (s.queue q) :=
  Tab.get_modify_same _ _ _ _

theorem State.queue_modQueue_other {q j : Nat} (hj : j ≠ q) (f : Queue → Queue) (s : State) :
    (s.modQueue q f).queue j = s.queue j := Tab.get_modify_other _ _ _ hj

/-! ### The commands -/

theorem exec_qthRelay (node : NodeNo) (q : Fin 4096) (f : BitVec 16) (s : State) :
    exec (.qthRelay node q f) s = .next (
      if !s.isManager || !s.joined node.val then s
      else if s.evt.qthFifo.any (fun w => w.toNat / 2 ^ 16 == (qthEntry node.val q.val f.toNat).toNat / 2 ^ 16) then s
      else s.qthPost (qthEntry node.val q.val f.toNat) (objId node.val 2 q.val)) := rfl

theorem exec_rolloverRelay (node : NodeNo) (i : BitVec 16) (f : BitVec 12) (s : State) :
    exec (.rolloverRelay node i f) s = .next (
      if !s.isManager || !s.joined node.val then s
      else s.postHalf (cntEntry node.val f.toNat i.toNat) (objId node.val 0xF i.toNat)) := rfl

theorem exec_cntHalf (i : BitVec 16) (s : State) : exec (.cntHalf i) s = .next (
    if cntNamed i.toNat && decide (Tab.get 0 s.cnt i.toNat < 2 ^ 39) then
      s.count i.toNat (2 ^ 39 - Tab.get 0 s.cnt i.toNat) else s) := rfl

/-- `s` with `n` counted, before anything follows from it. -/
def State.counted (i n : Nat) (s : State) : State := { s with cnt := cntAdd s.cnt i n }

/-- Counting up to half range posts a rollover entry. -/
theorem State.count_half {s : State} {i : Nat} (h : Tab.get 0 s.cnt i < 2 ^ 39) :
    s.count i (2 ^ 39 - Tab.get 0 s.cnt i) = (s.counted i (2 ^ 39 - Tab.get 0 s.cnt i)).postHalf
      (cntEntry s.self s.tide.frame i) (objId s.self 0xF i) :=
  if_pos ⟨h, by rw [Nat.add_sub_cancel' h.le]; decide⟩

section
variable {s : State} {i : Nat}

theorem State.count_half_cnt (hi : besideMailboxes i) (h : Tab.get 0 s.cnt i < 2 ^ 39) :
    Tab.get 0 (s.count i (2 ^ 39 - Tab.get 0 s.cnt i)).cnt i = 2 ^ 39 := by
  rw [State.count_cnt_same hi, Nat.add_sub_cancel' h.le]
  exact Nat.mod_eq_of_lt (by decide)

theorem State.count_half_posts (hManager : s.isManager = true) (h : Tab.get 0 s.cnt i < 2 ^ 39)
    (hRoom : s.evt.cntFifo.length < 512) :
    (s.count i (2 ^ 39 - Tab.get 0 s.cnt i)).evt.cntFifo = s.evt.cntFifo ++ [cntEntry s.self s.tide.frame i]
    ∧ (s.count i (2 ^ 39 - Tab.get 0 s.cnt i)).pends 480 := by
  rw [State.count_half h]
  generalize 2 ^ 39 - Tab.get 0 s.cnt i = n
  exact State.postHalf_room (s := s.counted i n) hManager _ _ hRoom

theorem State.postHalf_worker (hWorker : s.isManager = false) (entry : W32) (obj : Nat) :
    s.postHalf entry obj = (s.raise 480 obj 0).dcc 0 (.cntRelay entry) :=
  if_neg (by rw [show s.start.manager = false from hWorker]; exact Bool.false_ne_true)

theorem State.count_half_pends (hWorker : s.isManager = false) (h : Tab.get 0 s.cnt i < 2 ^ 39) :
    (s.count i (2 ^ 39 - Tab.get 0 s.cnt i)).pends 480 := by
  rw [State.count_half h]
  generalize 2 ^ 39 - Tab.get 0 s.cnt i = n
  rw [State.postHalf_worker (s := s.counted i n) hWorker]
  exact (State.dcc_adds (C := reportParts) _ _ _).pending 480 (State.raise_pends _ _ _ _)

end

theorem State.readQthFifo_head {s : State} {w : W32} {rest : List W32} (h : s.evt.qthFifo = w :: rest) :
    s.readQthFifo = (if w.toNat / 2 ^ 28 = s.self then State.modQueue (w.toNat / 2 ^ 16 % 4096) (fun x => { x with unread := false })
        { s with evt := { s.evt with qthFifo := rest, qthHush := s.evt.qthHush && !rest.isEmpty }
                 out := .read 0x1150 w :: s.out }
      else { s with evt := { s.evt with qthFifo := rest, qthHush := s.evt.qthHush && !rest.isEmpty }
                    out := .read 0x1150 w :: s.out }) := by
  simp only [State.readQthFifo, h]

/-- Settles O31: each command through what posting to its FIFO, counting, or reading its head does. -/
theorem fifoCommands : Obligations.FifoCommands := by
  unfold Obligations.FifoCommands
  intro s
  have hAbsent (node : NodeNo) : s.isManager = false ∨ s.joined node.val = false →
      (!s.isManager || !s.joined node.val) = true := by
    rintro (h | h) <;> rw [h]
    · rfl
    · exact Bool.or_true _
  have hPresent (node : NodeNo) (hManager : s.isManager = true) (hJoined : s.joined node.val = true) :
      ¬ (!s.isManager || !s.joined node.val) = true := by
    rw [hManager, hJoined]
    decide
  refine ⟨fun node q f hManager hJoined hNew => ⟨_, exec_qthRelay node q f s, ?_⟩, fun node q f h => ?_,
    fun node i f hManager hJoined => ⟨_, exec_rolloverRelay node i f s, ?_⟩, fun node i f h => ?_,
    fun i hNamed hLow => ⟨_, exec_cntHalf i s, ?_⟩, fun i h => ?_, fun hOpen hEmpty => ?_, fun w rest hOpen hHead => ?_,
    fun hOpen hEmpty => ?_, fun w rest hOpen hHead => ?_⟩
  · rw [if_neg (hPresent node hManager hJoined), hNew, if_neg Bool.false_ne_true]
    refine ⟨?_, (State.qthPost_adds _ _ s).within.reporting⟩
    split
    next hRoom => exact State.qthPost_room hRoom _ _
    next hFull => exact State.qthPost_full hFull _ _
  · rw [exec_qthRelay]
    rcases or_assoc.mpr h with hOut | hKnown
    · rw [if_pos (hAbsent node hOut)]
    · rw [hKnown, if_pos rfl, ite_self]
  · rw [if_neg (hPresent node hManager hJoined)]
    refine ⟨?_, (State.postHalf_reports s _ _).reporting⟩
    split
    next hRoom => exact State.postHalf_room hManager _ _ hRoom
    next hFull => exact State.postHalf_full hManager _ _ hFull
  · rw [exec_rolloverRelay, if_pos (hAbsent node h)]
  · rw [hNamed, decide_eq_true hLow, Bool.and_self, if_pos rfl]
    exact ⟨fun _ hBeside => State.count_half_cnt hBeside hLow, fun hManager hRoom => State.count_half_posts hManager hLow hRoom,
      fun hWorker => State.count_half_pends hWorker hLow, (State.count_reports s _ _).reporting⟩
  · rw [exec_cntHalf, if_neg]
    rw [Bool.and_eq_true, decide_eq_true_eq]
    rintro ⟨hNamed, hLow⟩
    rcases h with h | h
    · exact absurd (h.symm.trans hNamed) (by decide)
    · exact absurd hLow (not_lt.mpr h)
  · rw [exec_qthFifoDataRead, State.hostAccess_of_hostOpen hOpen, State.readQthFifo, hEmpty]
  · refine ⟨_, (exec_qthFifoDataRead s).trans (congrArg _ (State.hostAccess_of_hostOpen hOpen _ _)), ?_⟩
    rw [State.readQthFifo_head hHead]
    split
    next =>
      refine ⟨rfl, rfl, fun _ => ?_, fun j hj => State.queue_modQueue_other hj _ _, rfl⟩
      rw [State.queue_modQueue_same]
    next hAway => exact ⟨rfl, rfl, fun hHere => absurd hHere hAway, fun _ _ => rfl, rfl⟩
  · rw [exec_cntFifoDataRead, State.hostAccess_of_hostOpen hOpen, State.readCntFifo, hEmpty]
  · rw [exec_cntFifoDataRead, State.hostAccess_of_hostOpen hOpen, State.readCntFifo, hHead]

end Sys2Proof.Machine
end

section
/-!
# Packets that enter, and flushes

What linking a packet and carrying out a flush do to the pool: the queue's list and the two classes of cells, and beside
them only what follows a change of occupancy.
-/
namespace Sys2Proof.Machine

-- One theorem after another: the stacks of many that wait at once would exceed the memory of the check.
set_option Elab.async false

/-! ### What follows a change of occupancy -/

/-- A queue without the marks that its threshold keeps. -/
def Queue.steady (x : Queue) : Queue := { x with above := false, unread := false }

/-- From `p` to `p'` only the threshold marks of queue `q` and the low-water mark have moved. -/
structure Settles (q : Nat) (p p' : Pool) : Prop where
  frame : p' = { p with queues := p'.queues, low := p'.low }
  same : (Tab.get {} p'.queues q : Queue).steady = (Tab.get {} p.queues q : Queue).steady
  other : ∀ j, j ≠ q → (Tab.get {} p'.queues j : Queue) = Tab.get {} p.queues j

theorem Settles.refl (q : Nat) (p : Pool) : Settles q p p := ⟨rfl, rfl, fun _ _ => rfl⟩

theorem Settles.trans {q : Nat} {p p' p'' : Pool} (h : Settles q p p') (k : Settles q p' p'') : Settles q p p'' := by
  refine ⟨?_, k.same.trans h.same, fun j hj => (k.other j hj).trans (h.other j hj)⟩
  rw [k.frame, h.frame]

theorem Settles.modQueue (q : Nat) (f : Queue → Queue) (s : State) (hf : ∀ x, (f x).steady = x.steady := by intro x; rfl) :
    Settles q s.pool (s.modQueue q f).pool := by
  refine ⟨rfl, ?_, fun j hj => State.queue_modQueue_other hj f s⟩
  exact (congrArg Queue.steady (State.queue_modQueue_same q f s)).trans (hf _)

theorem State.qthPost_pool (entry : W32) (obj : Nat) (s : State) : (s.qthPost entry obj).pool = s.pool := by
  simp only [State.qthPost]
  split
  · rfl
  · split <;> rfl

theorem State.threshold_settles (q : Nat) (s : State) : Settles q s.pool (s.threshold q).pool := by
  have hAbove := Settles.modQueue q (fun y => { y with above := true }) s
  simp only [State.threshold]
  split
  · exact Settles.modQueue q _ s
  · split
    · exact .refl q s.pool
    · split
      · exact hAbove
      · split
        · split
          · rw [State.qthPost_pool]
            exact hAbove.trans (Settles.modQueue q (fun y => { y with unread := true }) _)
          · rw [State.qthPost_pool]
            exact hAbove
        · exact hAbove

theorem State.poolLow_settles (q : Nat) (s : State) : Settles q s.pool s.poolLow.pool := by
  simp only [State.poolLow]
  split <;> exact ⟨rfl, rfl, fun _ _ => rfl⟩

theorem State.settle_settles (q : Nat) (s : State) : Settles q s.pool (s.threshold q).poolLow.pool :=
  (s.threshold_settles q).trans (State.poolLow_settles q _)

/-! ### Counters -/

section
variable {i : Nat} (hi : besideMailboxes i)
include hi

theorem State.qthPost_cnt (entry : W32) (obj : Nat) (s : State) :
    Tab.get 0 (s.qthPost entry obj).cnt i = Tab.get 0 s.cnt i := by
  simp only [State.qthPost]
  split
  · exact State.raise_cnt hi _ _ _ _
  · split
    · rfl
    · exact State.raise_cnt hi _ _ _ _

theorem State.threshold_cnt (q : Nat) (s : State) : Tab.get 0 (s.threshold q).cnt i = Tab.get 0 s.cnt i := by
  simp only [State.threshold]
  split
  · rfl
  · split
    · rfl
    · split
      · rfl
      · split
        · split <;> exact State.qthPost_cnt hi _ _ _
        · exact State.raise_cnt hi _ _ _ _

theorem State.poolLow_cnt (s : State) : Tab.get 0 s.poolLow.cnt i = Tab.get 0 s.cnt i := by
  simp only [State.poolLow]
  split
  · exact State.raise_cnt hi _ _ _ _
  · rfl

theorem State.refusedCell_cnt (q owner : Nat) (x : Take) (s : State) :
    Tab.get 0 (s.refusedCell q owner x).cnt i = Tab.get 0 s.cnt i := by
  have hQuota : Tab.get 0 (if x = .quota then s.raiseWin 8000 263 owner (objId 0 0xD (owner - 1)) 0 else s).cnt i
      = Tab.get 0 s.cnt i := by
    split
    · exact State.raiseWin_cnt hi _ _ _ _ _ _
    · rfl
  simp only [State.refusedCell]
  split
  · exact (State.raiseWin_cnt hi _ _ _ _ _ _).trans hQuota
  · exact hQuota

end

/-! ### A packet that enters -/

/-- Whether a queue discards what enters: intake is stopped, its port is down, or it is a disabled upstream queue. -/
def State.shut (s : State) (q : Nat) : Bool :=
  (s.intakeStopped && dirOf q != 3) || !s.egressTakes q || (decide (2048 ≤ q) && !s.cfg.upEnabled q)

theorem State.offer_recount {s : State} (h : s.pool.recount = true) (q : Nat) (p : Packet) :
    s.offer q p = (s.inc 0x5C2, .dropped) := if_pos h

theorem State.offer_shut {s : State} {q : Nat} (hRecount : s.pool.recount = false) (h : s.shut q = true) (p : Packet) :
    s.offer q p = (s.queueDrop q 1, .dropped) := by
  simp only [State.shut, Bool.or_eq_true] at h
  simp only [State.offer, hRecount, Bool.false_eq_true, if_false]
  split
  · rfl
  next hIntake =>
    split
    · rfl
    next hPort => rw [if_pos (h.resolve_left (not_or.mpr ⟨hIntake, hPort⟩))]

section
variable {s : State} {q : Nat} {p : Packet} (hRecount : s.pool.recount = false) (h : s.shut q = false)
include hRecount h

/-- An open queue takes a packet that R314 allows. -/
theorem State.offer_granted (hTake : s.mayTake q p.owner p.cells = .ok) : s.offer q p = (s.link q p, .queued) := by
  simp only [State.shut, Bool.or_eq_false_iff] at h
  obtain ⟨⟨hIntake, hPort⟩, hUp⟩ := h
  simp only [State.offer, hRecount, hIntake, hPort, hUp, hTake, Bool.false_eq_true, if_false]

/-- A take that is refused discards the packet, with its events. -/
theorem State.offer_refused (hTake : s.mayTake q p.owner p.cells ≠ .ok) :
    ∃ x r, r ≠ .queued ∧ s.offer q p = ((s.queueDrop q 1).refusedCell q p.owner x, r) := by
  simp only [State.shut, Bool.or_eq_false_iff] at h
  obtain ⟨⟨hIntake, hPort⟩, hUp⟩ := h
  simp only [State.offer, hRecount, hIntake, hPort, hUp, Bool.false_eq_true, if_false]
  cases hCase : s.mayTake q p.owner p.cells
  case ok => exact absurd hCase hTake
  case quota => exact ⟨.quota, .quota, nofun, rfl⟩
  case full => exact ⟨.full, .full, nofun, rfl⟩

end

/-- The pool once a packet is linked. -/
theorem State.link_settles (q : Nat) (p : Packet) (s : State) :
    Settles q ((s.modQueue q (fun x => { x with pkts := x.pkts ++ [p] })).takeQueued p.cells).pool (s.link q p).pool :=
  State.settle_settles q _

theorem State.link_pkts (q : Nat) (p : Packet) (s : State) : ((s.link q p).queue q).pkts = (s.queue q).pkts ++ [p] := by
  refine (congrArg Queue.pkts (s.link_settles q p).same).trans ?_
  exact congrArg Queue.pkts (State.queue_modQueue_same q (fun x => { x with pkts := x.pkts ++ [p] }) s)

theorem State.link_other {q j : Nat} (hj : j ≠ q) (p : Packet) (s : State) : (s.link q p).queue j = s.queue j :=
  ((s.link_settles q p).other j hj).trans (State.queue_modQueue_other hj (fun x => { x with pkts := x.pkts ++ [p] }) s)

theorem State.link_pool (q : Nat) (p : Packet) (s : State) : (s.link q p).pool = { s.pool with
    queues := (s.link q p).pool.queues, low := (s.link q p).pool.low
    free := s.pool.free - p.cells, queued := s.pool.queued + p.cells } := (s.link_settles q p).frame

theorem exec_packetEnqueue {s : State} {q : Fin 4096} {bytes : List Byte} (hUsed : s.queueUsed q.val = true)
    (hBytes : bytes ≠ []) (hLength : bytes.length ≤ 16384) (e : Ecc) :
    exec (.packetEnqueue q ⟨bytes, e⟩) s = .next (
      let x := s.offer q.val (mkPacket bytes false (s.cfg.ownerOf (s.obj 2 q.val)))
      if x.2 = .queued then x.1.linkRead e q.val (s.queue q.val).pkts.length else x.1) := by
  have hTaken : (s.queueUsed q.val && !bytes.isEmpty && decide (bytes.length ≤ 16384)) = true := by
    rw [hUsed, decide_eq_true hLength, List.isEmpty_eq_false_iff.mpr hBytes]
    rfl
  exact congrArg Host.Outcome.next (if_pos hTaken)

theorem exec_packetEnqueue_ignored {s : State} {q : Fin 4096} {bytes : List Byte}
    (h : s.queueUsed q.val = false ∨ bytes = []) (e : Ecc) : exec (.packetEnqueue q ⟨bytes, e⟩) s = .next s := by
  refine congrArg Host.Outcome.next (if_neg ?_)
  rcases h with hUnused | hEmpty
  · rw [hUnused, Bool.false_and, Bool.false_and]
    exact Bool.false_ne_true
  · subst hEmpty
    rw [List.isEmpty_nil, Bool.not_true, Bool.and_false, Bool.false_and]
    exact Bool.false_ne_true

/-- Linking reads a good descriptor. -/
theorem State.linkRead_none (q n : Nat) (s : State) : s.linkRead .none q n = s := rfl

theorem packetsThatEnter (s : State) (q : Fin 4096) (bytes : List Byte) (hLength : bytes.length ≤ 16384) :
    let p := mkPacket bytes false (s.cfg.ownerOf (s.obj 2 q.val))
    let shut := (s.intakeStopped && dirOf q.val != 3) || !s.egressTakes q.val
      || (decide (2048 ≤ q.val) && !s.cfg.upEnabled q.val)
    p.check = crc32c bytes
    ∧ (∀ e, s.queueUsed q.val = true → bytes ≠ [] → s.pool.recount = true →
        exec (.packetEnqueue q ⟨bytes, e⟩) s = .next (s.inc 0x5C2))
    ∧ (∀ e, s.queueUsed q.val = true → bytes ≠ [] → s.pool.recount = false → shut = true →
        exec (.packetEnqueue q ⟨bytes, e⟩) s = .next (s.queueDrop q.val 1))
    ∧ (s.queueUsed q.val = true → bytes ≠ [] → s.pool.recount = false → shut = false →
        s.mayTake q.val p.owner p.cells = .ok → completesWith (.packetEnqueue q ⟨bytes, .none⟩) s (fun t =>
      (t.queue q.val).pkts = (s.queue q.val).pkts ++ [p] ∧ (∀ j, j ≠ q.val → t.queue j = s.queue j)
      ∧ t.pool = { s.pool with
          queues := t.pool.queues, low := t.pool.low,
          free := s.pool.free - p.cells, queued := s.pool.queued + p.cells }
      ∧ t = { s.reporting t with pool := t.pool }))
    ∧ (∀ e, s.queueUsed q.val = true → bytes ≠ [] → s.pool.recount = false → shut = false →
        s.mayTake q.val p.owner p.cells ≠ .ok → completesWith (.packetEnqueue q ⟨bytes, e⟩) s (fun t =>
      Tab.get 0 t.cnt (0x8000 + 4 * q.val + 1) = (Tab.get 0 s.cnt (0x8000 + 4 * q.val + 1) + 1) % 2 ^ 40
      ∧ t = s.reporting t))
    ∧ (∀ e, s.queueUsed q.val = false ∨ bytes = [] → exec (.packetEnqueue q ⟨bytes, e⟩) s = .next s) := by
  refine ⟨rfl, fun e hUsed hBytes hRecount => ?_, fun e hUsed hBytes hRecount hShut => ?_,
    fun hUsed hBytes hRecount hShut hTake => ⟨_, exec_packetEnqueue hUsed hBytes hLength .none, ?_⟩,
    fun e hUsed hBytes hRecount hShut hTake => ⟨_, exec_packetEnqueue hUsed hBytes hLength e, ?_⟩,
    fun e h => exec_packetEnqueue_ignored h e⟩
  · rw [exec_packetEnqueue hUsed hBytes hLength, State.offer_recount hRecount]
    rfl
  · rw [exec_packetEnqueue hUsed hBytes hLength, State.offer_shut hRecount hShut]
    rfl
  · rw [State.offer_granted hRecount hShut hTake]
    simp only [if_true, State.linkRead_none]
    exact ⟨State.link_pkts _ _ s, fun j hj => State.link_other hj _ s, State.link_pool _ _ s,
      (State.link_adds (C := poolParts) _ _ s).within.eq_merge⟩
  · obtain ⟨x, r, hRefused, hOffer⟩ := State.offer_refused hRecount hShut hTake
    have hBeside : besideMailboxes (0x8000 + 4 * q.val + 1) := .inr (by omega)
    simp only [hOffer, if_neg hRefused]
    refine ⟨(State.refusedCell_cnt hBeside _ _ _ _).trans (State.count_cnt_same hBeside 1 s), ?_⟩
    exact ((State.queueDrop_adds q.val 1 s).trans (State.refusedCell_adds _ _ _ _)).within.reporting

/-! ### Flushes -/

/-- The complete packets before a flush point, which go, and what stays of the list. -/
def flushGone (n : Nat) (l : List Packet) : List Packet := (l.take n).filter (fun p => p.writer == 0)
def flushKept (n : Nat) (l : List Packet) : List Packet := (l.take n).filter (fun p => p.writer != 0) ++ l.drop n

/-- A flush of a queue of which nothing is being transmitted. -/
theorem State.flushNow_idle {s : State} {q : Nat} (h : (s.queue q).sending = false) (n : Nat) :
    s.flushNow q n = ((s.modQueue q (fun y => { y with flush := none })).removeAll q (flushGone n (s.queue q).pkts)
      (flushKept n (s.queue q).pkts)).count (0x8000 + 4 * q) (flushGone n (s.queue q).pkts).length := by
  simp only [State.flushNow, h, Bool.false_eq_true, if_false, List.drop_zero, List.take_zero, List.nil_append, Nat.sub_zero]
  rfl

/-- The pool once packets are removed. -/
theorem State.removeAll_settles (q : Nat) (gone keep : List Packet) (s : State) :
    Settles q ((s.modQueue q (fun x => { x with pkts := keep })).freeQueued (sumCells gone)).pool (s.removeAll q gone keep).pool :=
  State.settle_settles q _

theorem State.removeAll_queue (q : Nat) (gone keep : List Packet) (s : State) :
    ((s.removeAll q gone keep).queue q).steady = Queue.steady { s.queue q with pkts := keep } :=
  (s.removeAll_settles q gone keep).same.trans
    (congrArg Queue.steady (State.queue_modQueue_same q (fun x => { x with pkts := keep }) s))

theorem State.removeAll_other {q j : Nat} (hj : j ≠ q) (gone keep : List Packet) (s : State) :
    (s.removeAll q gone keep).queue j = s.queue j :=
  ((s.removeAll_settles q gone keep).other j hj).trans (State.queue_modQueue_other hj (fun x => { x with pkts := keep }) s)

theorem State.removeAll_free (q : Nat) (gone keep : List Packet) (s : State) :
    (s.removeAll q gone keep).pool.free = s.pool.free + sumCells gone :=
  congrArg Pool.free (s.removeAll_settles q gone keep).frame

theorem State.removeAll_cnt {i : Nat} (hi : besideMailboxes i) (q : Nat) (gone keep : List Packet) (s : State) :
    Tab.get 0 (s.removeAll q gone keep).cnt i = Tab.get 0 s.cnt i :=
  (State.poolLow_cnt hi _).trans (State.threshold_cnt hi q _)

theorem State.flushWaiting_acts {s : State} {q n : Nat} (hFlush : (s.queue q).flush = some n)
    (hRecount : s.pool.recount = false) (hStaged : s.hasStaged q = false) : s.flushWaiting q = s.flushNow q n := by
  simp only [State.flushWaiting, hFlush, hRecount, hStaged, Bool.or_self, Bool.false_eq_true, if_false]

theorem State.flushWaiting_waits {s : State} {q : Nat}
    (h : (s.queue q).flush = none ∨ s.pool.recount = true ∨ s.hasStaged q = true) : s.flushWaiting q = s := by
  simp only [State.flushWaiting]
  split
  · rfl
  next n hFlush =>
    have hHeld : (s.pool.recount || s.hasStaged q) = true :=
      Bool.or_eq_true_iff.mpr (h.resolve_left (by rw [hFlush]; exact Option.some_ne_none n))
    rw [if_pos hHeld]

theorem exec_flushAct (q : Fin 4096) (s : State) :
    exec (.flushAct q) s = .next (if (s.queue q.val).sending then s else s.flushWaiting q.val) := rfl

theorem flushesThatAct (s : State) (q : Fin 4096) :
    (∀ n, (s.queue q.val).flush = some n → (s.queue q.val).sending = false → s.pool.recount = false →
        s.hasStaged q.val = false → completesWith (.flushAct q) s (fun t =>
      (t.queue q.val).flush = none
      ∧ (t.queue q.val).pkts = ((s.queue q.val).pkts.take n).filter (fun p => p.writer != 0)
          ++ (s.queue q.val).pkts.drop n
      ∧ (∀ j, j ≠ q.val → t.queue j = s.queue j)
      ∧ t.pool.free = s.pool.free + sumCells (((s.queue q.val).pkts.take n).filter (fun p => p.writer == 0))
      ∧ Tab.get 0 t.cnt (0x8000 + 4 * q.val)
          = (Tab.get 0 s.cnt (0x8000 + 4 * q.val)
            + (((s.queue q.val).pkts.take n).filter (fun p => p.writer == 0)).length) % 2 ^ 40
      ∧ Tab.get 0 t.cnt (0x8000 + 4 * q.val + 1) = Tab.get 0 s.cnt (0x8000 + 4 * q.val + 1)
      ∧ t = { s.reporting t with pool := t.pool }))
    ∧ ((s.queue q.val).sending = true ∨ (s.queue q.val).flush = none ∨ s.pool.recount = true
        ∨ s.hasStaged q.val = true → exec (.flushAct q) s = .next s) := by
  refine ⟨fun n hFlush hIdle hRecount hStaged => ?_, fun h => ?_⟩
  · refine ⟨_, exec_flushAct q s, ?_⟩
    rw [hIdle, if_neg Bool.false_ne_true, State.flushWaiting_acts hFlush hRecount hStaged]
    have hFrame := (State.flushNow_adds (C := poolParts) q.val n s).within.eq_merge
    rw [State.flushNow_idle hIdle] at hFrame ⊢
    have hDrop : besideMailboxes (0x8000 + 4 * q.val) := .inr (by omega)
    have hNext : besideMailboxes (0x8000 + 4 * q.val + 1) := .inr (by omega)
    have hFlushed := State.queue_modQueue_same q.val (fun y => { y with flush := none }) s
    generalize hGone : flushGone n (s.queue q.val).pkts = gone at hFrame ⊢
    generalize hKept : flushKept n (s.queue q.val).pkts = kept at hFrame ⊢
    have hQueue := State.removeAll_queue q.val gone kept (s.modQueue q.val (fun y => { y with flush := none }))
    rw [hFlushed] at hQueue
    refine ⟨?_, ?_, fun j hj => ?_, ?_, ?_, ?_, hFrame⟩
    · rw [State.queue, State.count_pool]
      exact congrArg Queue.flush hQueue
    · rw [State.queue, State.count_pool]
      exact (congrArg Queue.pkts hQueue).trans hKept.symm
    · rw [State.queue, State.count_pool]
      exact (State.removeAll_other hj gone kept _).trans (State.queue_modQueue_other hj _ s)
    · rw [State.count_pool, State.removeAll_free, ← hGone]
      rfl
    · rw [State.count_cnt_same hDrop, State.removeAll_cnt hDrop, ← hGone]
      rfl
    · rw [State.count_cnt_other hNext (Nat.succ_ne_self _), State.removeAll_cnt hNext]
      rfl
  · rw [exec_flushAct]
    split
    · rfl
    next hIdle => rw [State.flushWaiting_waits (h.resolve_left hIdle)]

/-- Settles O30: a packet that enters and a flush that acts, each through its own operation of the pool. -/
theorem packetCommands : Obligations.PacketCommands := by
  unfold Obligations.PacketCommands
  exact ⟨packetsThatEnter, flushesThatAct⟩

end Sys2Proof.Machine
end

section
/-!
# The rails

What each command of the rail sequencer answers in the state of the sequence that it belongs to.
-/
namespace Sys2Proof.Machine

-- One theorem after another: the stacks of many that wait at once would exceed the memory of the check.
set_option Elab.async false

/-! ### Power up (R786, R787) -/

theorem exec_railPowerGood_next {s : State} {k : Fin 6} (hk : k.val ≠ 5) (hEn : bit s.power.en k.val = true)
    (hSeq : s.power.seq = .up k.val) : exec (.railPowerGood k) s =
      .next { s with power := { s.power with pg := putBit s.power.pg k.val true, seq := .up (k.val + 1)
                                             en := putBit s.power.en (k.val + 1) true } } := by
  change execRailPowerGood k s = _
  simp [execRailPowerGood, hEn, hSeq, hk, State.setPower, State.railOn]

theorem exec_railPowerGood_last {s : State} (hEn : bit s.power.en 5 = true) (hSeq : s.power.seq = .up 5) :
    exec (.railPowerGood 5) s =
      .next (s.setPower (fun p => { p with pg := putBit p.pg 5 true })).railsAreUp := by
  change execRailPowerGood 5 s = _
  simp [execRailPowerGood, hEn, hSeq, State.setPower]

/-- The rails that are up: the sequence stands at `on`, the count of failures is cleared, the oscillator is enabled. -/
theorem State.railsAreUp_eq (s : State) :
    s.railsAreUp = { s with power := { s.power with seq := .on, fails := 0, delay := 1 }
                            clk := { s.clk with oscOn := true }, start := s.railsAreUp.start } := by
  simp only [State.railsAreUp]
  split <;> rfl

theorem exec_railPgWindowExpiry_up {s : State} {k : Fin 6} (hEn : bit s.power.en k.val = true)
    (hPg : bit s.power.pg k.val = false) (hSeq : s.power.seq = .up k.val) : exec (.railPgWindowExpiry k) s =
      .next ((s.railsDrop.railFault k.val 1 false).setPower (fun p =>
        { p with seq := .retryWait, fails := s.power.fails + 1
                 delay := if s.power.fails = 0 then 1 else min 64 (s.power.delay * 2) })) := by
  change execRailPgWindowExpiry k s = _
  simp [execRailPgWindowExpiry, hEn, hPg, hSeq]

theorem exec_powerUpRetry_waiting {s : State} (h : s.power.seq = .retryWait) : exec .powerUpRetry s = .next s.railsUp :=
  congrArg Host.Outcome.next (if_pos h)

theorem exec_powerUpRetry_else {s : State} (h : s.power.seq ≠ .retryWait) : exec .powerUpRetry s = .next s :=
  congrArg Host.Outcome.next (if_neg h)

/-! ### Power down (R788, R789) -/

/-- The rail whose turn it is in a power-down: it has fallen, or it is recorded that it did not. -/
def State.railFell (pgFell : Bool) (k : Nat) (s : State) : State :=
  if pgFell then s.setPower (fun p => { p with pg := putBit p.pg k false })
  else
    { s.setWake (fun w => { w with rail := k, phase := 3 }) with
      start := { s.start with pendingEvents := s.start.pendingEvents ++ [4] } }

theorem exec_railPowerDownStep_down {s : State} {k : Nat} (pgFell : Bool) (hk : k ≠ 0)
    (hSkip : ¬ (k = 4 ∧ bit s.power.en 2 = false)) (hSeq : s.power.seq = .down k) :
    exec (.railPowerDownStep pgFell) s =
      .next (((s.railFell pgFell k).setPower (fun p => { p with seq := .down (k - 1) })).railOff (k - 1)) := by
  change execRailPowerDownStep pgFell s = _
  have hNext : ¬ (k = 4 ∧ (!bit s.power.en 2) = true) := by simpa using hSkip
  simp only [execRailPowerDownStep, hSeq, if_neg hk, if_neg hNext]
  rfl

theorem exec_railPowerDownStep_lowest {s : State} (pgFell : Bool) (hSeq : s.power.seq = .down 0) :
    exec (.railPowerDownStep pgFell) s = .next ((s.railFell pgFell 0).railsAreDown .beached) := by
  change execRailPowerDownStep pgFell s = _
  simp only [execRailPowerDownStep, hSeq]
  rfl

theorem exec_railPowerDownStep_moored {s : State} {k n : Nat} (pgFell : Bool) (hSeq : s.power.seq = .mooredDown k)
    (hNext : mooredBelow k = some n) : exec (.railPowerDownStep pgFell) s =
      .next (((s.railFell pgFell k).setPower (fun p => { p with seq := .mooredDown n })).railOff n) := by
  change execRailPowerDownStep pgFell s = _
  simp only [execRailPowerDownStep, hSeq, hNext]
  rfl

theorem exec_railPowerDownStep_mooredLowest {s : State} {k : Nat} (pgFell : Bool)
    (hSeq : s.power.seq = .mooredDown k) (hNext : mooredBelow k = none) :
    exec (.railPowerDownStep pgFell) s = .next ((s.railFell pgFell k).railsAreDown .moored) := by
  change execRailPowerDownStep pgFell s = _
  simp only [execRailPowerDownStep, hSeq, hNext]
  rfl

/-- The device whose rails are down, in the state that the power-down was made for. -/
def State.restsIn (st : Pwr) (s : State) : State :=
  s.setPower (fun p => { p with state := st, seq := .off, entry := none })

theorem State.railsAreDown_asleep {s : State} (st : Pwr) (h : s.power.wakePresent = none) :
    s.railsAreDown st =
      if st = Pwr.beached && s.cistern.dgReady then (s.restsIn st).emit (.pin "STORE_OK" false) else s.restsIn st := by
  unfold State.railsAreDown
  rw [h]
  rfl

/-- With no wake present the power-down ends in the state that it was made for; STORE_OK may fall. -/
theorem State.railsAreDown_eq {s : State} (st : Pwr) (h : s.power.wakePresent = none) :
    s.railsAreDown st = { s with power := (s.restsIn st).power, out := (s.railsAreDown st).out } := by
  rw [State.railsAreDown_asleep st h]
  split <;> rfl

/-! ### Faults in operation and in a power-down (R790, R791) -/

theorem exec_railPgLost_on {s : State} {k : Fin 6} (hEn : bit s.power.en k.val = true)
    (hPg : bit s.power.pg k.val = true) (hSeq : s.power.seq = .on) : exec (.railPgLost k) s =
      .next ((s.releaseBypass.coldReset false causeWake).railFault k.val 2 true).railsUp := by
  change execRailPgLost k s = _
  simp [execRailPgLost, hEn, hPg, hSeq]

theorem exec_railFailInPowerDown_down {s : State} {k : Fin 6} {j : Nat} (hEn : bit s.power.en k.val = true)
    (hSeq : s.power.seq = .down j) : exec (.railFailInPowerDown k) s =
      .next ((s.railsDrop.railFault k.val 3 true).railsAreDown .beached) := by
  change execRailFailInPowerDown k s = _
  simp [execRailFailInPowerDown, hEn, hSeq]

/-! ### The obligation -/

theorem railPowerUp_steps (s : State) :
    (∀ k : Fin 6, k.val ≠ 5 → bit s.power.en k.val = true → s.power.seq = .up k.val →
        completesWith (.railPowerGood k) s (fun t =>
      t = { s with power := { s.power with pg := putBit s.power.pg k.val true, seq := .up (k.val + 1)
                                           en := putBit s.power.en (k.val + 1) true } }))
    ∧ (bit s.power.en 5 = true → s.power.seq = .up 5 → completesWith (.railPowerGood 5) s (fun t =>
      t.power = { s.power with pg := putBit s.power.pg 5 true, seq := .on, fails := 0, delay := 1 }
      ∧ t.clk = { s.clk with oscOn := true } ∧ t = { s with power := t.power, clk := t.clk, start := t.start }))
    ∧ (∀ k : Fin 6, bit s.power.en k.val = true → bit s.power.pg k.val = false → s.power.seq = .up k.val →
        completesWith (.railPgWindowExpiry k) s (fun t =>
      t.power.en = 0 ∧ t.power.pg = 0 ∧ t.power.seq = .retryWait ∧ t.power.fails = s.power.fails + 1
      ∧ t.power.delay = (if s.power.fails = 0 then 1 else min 64 (s.power.delay * 2))
      ∧ t.power.wakeRec.rail = k.val ∧ t.power.wakeRec.phase = 1 ∧ t = { s with power := t.power }))
    ∧ (s.power.seq = .retryWait → exec .powerUpRetry s =
        .next { s with power := { s.power with seq := .up 0, pg := 0, en := 1 } })
    ∧ (s.power.seq ≠ .retryWait → exec .powerUpRetry s = .next s) := by
  refine ⟨fun k hk hEn hSeq => ⟨_, exec_railPowerGood_next hk hEn hSeq, rfl⟩, fun hEn hSeq => ?_,
    fun k hEn hPg hSeq => ⟨_, exec_railPgWindowExpiry_up hEn hPg hSeq, rfl, rfl, rfl, rfl, rfl, rfl, rfl, rfl⟩,
    exec_powerUpRetry_waiting, exec_powerUpRetry_else⟩
  refine ⟨_, exec_railPowerGood_last hEn hSeq, ?_⟩
  rw [State.railsAreUp_eq]
  exact ⟨rfl, rfl, rfl⟩

theorem railPowerDown_steps (s : State) :
    (∀ k : Nat, k ≠ 0 → ¬ (k = 4 ∧ bit s.power.en 2 = false) → s.power.seq = .down k →
        completesWith (.railPowerDownStep true) s (fun t =>
      t = { s with power := { s.power with pg := putBit s.power.pg k false, seq := .down (k - 1)
                                           en := putBit s.power.en (k - 1) false } }))
    ∧ (s.power.seq = .down 0 → s.power.wakePresent = none → completesWith (.railPowerDownStep true) s (fun t =>
      t.power.state = .beached ∧ t.power.seq = .off ∧ t.power.entry = none ∧ t.power.pg = putBit s.power.pg 0 false
      ∧ t = { s.reporting t with power := t.power }))
    ∧ (∀ k : Nat, k ≠ 0 → ¬ (k = 4 ∧ bit s.power.en 2 = false) → s.power.seq = .down k →
        completesWith (.railPowerDownStep false) s (fun t =>
      t.power.seq = .down (k - 1) ∧ t.power.wakeRec.rail = k ∧ t.power.wakeRec.phase = 3 ∧ t.power.pg = s.power.pg
      ∧ t.start.pendingEvents = s.start.pendingEvents ++ [4]
      ∧ t = { s with power := t.power, start := { s.start with pendingEvents := t.start.pendingEvents } }))
    ∧ (∀ k n : Nat, s.power.seq = .mooredDown k → mooredBelow k = some n →
        completesWith (.railPowerDownStep true) s (fun t =>
      t = { s with power := { s.power with pg := putBit s.power.pg k false, seq := .mooredDown n
                                           en := putBit s.power.en n false } }))
    ∧ (∀ k : Nat, s.power.seq = .mooredDown k → mooredBelow k = none → s.power.wakePresent = none →
        completesWith (.railPowerDownStep true) s (fun t =>
      t.power.state = .moored ∧ t.power.seq = .off ∧ t.power.entry = none ∧ t.power.pg = putBit s.power.pg k false
      ∧ t = { s.reporting t with power := t.power })) := by
  refine ⟨fun k hk hSkip hSeq => ⟨_, exec_railPowerDownStep_down true hk hSkip hSeq, rfl⟩, fun hSeq hWake => ?_,
    fun k hk hSkip hSeq => ⟨_, exec_railPowerDownStep_down false hk hSkip hSeq, rfl, rfl, rfl, rfl, rfl, rfl⟩,
    fun k n hSeq hNext => ⟨_, exec_railPowerDownStep_moored true hSeq hNext, rfl⟩, fun k hSeq hNext hWake => ?_⟩
  · refine ⟨_, exec_railPowerDownStep_lowest true hSeq, ?_⟩
    rw [State.railsAreDown_eq .beached (s := s.railFell true 0) hWake]
    exact ⟨rfl, rfl, rfl, rfl, rfl⟩
  · refine ⟨_, exec_railPowerDownStep_mooredLowest true hSeq hNext, ?_⟩
    rw [State.railsAreDown_eq .moored (s := s.railFell true k) hWake]
    exact ⟨rfl, rfl, rfl, rfl, rfl⟩

/-- Settles O18, command by command along the state of the rail sequence. -/
theorem railCommands : Obligations.RailCommands := by
  unfold Obligations.RailCommands
  refine ⟨railPowerUp_steps, fun s => ?_⟩
  obtain ⟨hDown, hBeached, hStuck, hMoored, hAsleep⟩ := railPowerDown_steps s
  refine ⟨hDown, hBeached, hStuck, hMoored, hAsleep,
    fun k hEn hPg hSeq => ⟨_, exec_railPgLost_on hEn hPg hSeq, rfl, rfl, rfl, rfl, rfl, rfl, rfl, rfl, rfl⟩,
    fun k j hEn hSeq hWake => ?_⟩
  refine ⟨_, exec_railFailInPowerDown_down hEn hSeq, ?_⟩
  rw [State.railsAreDown_eq .beached (s := s.railsDrop.railFault k.val 3 true) hWake]
  exact ⟨rfl, rfl, rfl, rfl, rfl, rfl⟩

end Sys2Proof.Machine
end

section
/-!
# Re-runs of admission

The order in which objects are shed and restored, and what a re-run leaves: the admission state of the committed
configuration, the circuits it stops or restores, and the events that tell of them.
-/
namespace Sys2Proof.Machine

-- One theorem after another: the stacks of many that wait at once would exceed the memory of the check.
set_option Elab.async false

/-! ### Which object is shed next (R409) -/

/-- `o` is shed no later than `x`: a lower SHED_PRI, or the same and no lower object ID. -/
def Cfg.ShedsBefore (c : Cfg) (o x : Nat) : Prop := c.shedPri o < c.shedPri x ∨ (c.shedPri o = c.shedPri x ∧ x ≤ o)

theorem Cfg.ShedsBefore.refl (c : Cfg) (o : Nat) : c.ShedsBefore o o := .inr ⟨rfl, le_refl o⟩

theorem Cfg.ShedsBefore.trans {c : Cfg} {a b d : Nat} (h : c.ShedsBefore a b) (k : c.ShedsBefore b d) :
    c.ShedsBefore a d := by
  unfold Cfg.ShedsBefore at *
  omega

/-- One step of the search: the better of the best so far and the next object. -/
def Cfg.shedPick (c : Cfg) (a : Option Nat) (o : Nat) : Option Nat :=
  match a with
  | none => some o
  | some x => if c.shedPri o < c.shedPri x ∨ (c.shedPri o = c.shedPri x ∧ x < o) then some o else some x

theorem Cfg.shedNext_eq (c : Cfg) (l : List Nat) : c.shedNext l = l.foldl c.shedPick none := rfl

theorem Cfg.shedPick_some (c : Cfg) (a o : Nat) :
    ∃ b, c.shedPick (some a) o = some b ∧ (b = a ∨ b = o) ∧ c.ShedsBefore b a ∧ c.ShedsBefore b o := by
  by_cases h : c.shedPri o < c.shedPri a ∨ (c.shedPri o = c.shedPri a ∧ a < o)
  · refine ⟨o, if_pos h, .inr rfl, ?_, .refl c o⟩
    unfold Cfg.ShedsBefore
    omega
  · refine ⟨a, if_neg h, .inl rfl, .refl c a, ?_⟩
    unfold Cfg.ShedsBefore
    omega

/-- The search from a best so far ends at one of the objects seen, and at the best of them. -/
theorem Cfg.shedPick_foldl (c : Cfg) (l : List Nat) (a : Nat) :
    ∃ b, l.foldl c.shedPick (some a) = some b ∧ b ∈ a :: l ∧ ∀ x ∈ a :: l, c.ShedsBefore b x := by
  induction l generalizing a with
  | nil => exact ⟨a, rfl, List.mem_singleton_self a, fun x hx => List.mem_singleton.mp hx ▸ .refl c a⟩
  | cons o l ih =>
    obtain ⟨a', hPick, hOf, hA, hO⟩ := c.shedPick_some a o
    obtain ⟨b, hFold, hMem, hBest⟩ := ih a'
    have hBest' : c.ShedsBefore b a' := hBest a' List.mem_cons_self
    refine ⟨b, by rw [List.foldl_cons, hPick, hFold], ?_, fun x hx => ?_⟩
    · rcases List.mem_cons.mp hMem with rfl | hMem
      · rcases hOf with rfl | rfl <;> simp
      · exact List.mem_cons_of_mem _ (List.mem_cons_of_mem _ hMem)
    · rcases List.mem_cons.mp hx with rfl | hx
      · exact hBest'.trans hA
      · rcases List.mem_cons.mp hx with rfl | hx
        · exact hBest'.trans hO
        · exact hBest x (List.mem_cons_of_mem _ hx)

theorem Cfg.shedNext_cons (c : Cfg) (a : Nat) (l : List Nat) :
    ∃ b, c.shedNext (a :: l) = some b ∧ b ∈ a :: l ∧ ∀ x ∈ a :: l, c.ShedsBefore b x := c.shedPick_foldl l a

theorem Cfg.shedNext_best {c : Cfg} {l : List Nat} {o : Nat} (h : c.shedNext l = some o) :
    o ∈ l ∧ ∀ x ∈ l, c.ShedsBefore o x := by
  cases l with
  | nil => exact absurd h (Option.some_ne_none o).symm
  | cons a l =>
    obtain ⟨b, hb, hRest⟩ := c.shedNext_cons a l
    obtain rfl : b = o := Option.some.inj (hb.symm.trans h)
    exact hRest

theorem Cfg.shedNext_none_iff (c : Cfg) (l : List Nat) : c.shedNext l = none ↔ l = [] := by
  cases l with
  | nil => exact ⟨fun _ => rfl, fun _ => rfl⟩
  | cons a l =>
    obtain ⟨b, hb, _⟩ := c.shedNext_cons a l
    simp [hb]

/-! ### The loops (R409, R413) -/

theorem State.shedLoop_prefix (s : State) (c : Cfg) (fuel : Nat) (excl : List Nat) :
    excl <+: s.shedLoop c fuel excl := by
  induction fuel generalizing excl with
  | zero => exact List.prefix_refl excl
  | succ fuel ih =>
    rw [State.shedLoop]
    split
    · exact List.prefix_refl excl
    · exact (List.prefix_append excl _).trans (ih _)

theorem State.shedLoop_nodup (s : State) (c : Cfg) (fuel : Nat) (excl : List Nat) (h : excl.Nodup) :
    (s.shedLoop c fuel excl).Nodup := by
  induction fuel generalizing excl with
  | zero => exact h
  | succ fuel ih =>
    rw [State.shedLoop]
    split
    · exact h
    next o hNext =>
      refine ih _ ?_
      have hNew : o ∉ excl := by simpa using (List.mem_filter.mp (Cfg.shedNext_best hNext).1).2
      simpa [List.nodup_append, h] using fun x hx (e : x = o) => hNew (e ▸ hx)

theorem State.restoreLoop_prefix (s : State) (c : Cfg) (base : List (Nat × Nat)) (fuel : Nat) (excl : List Nat) :
    s.restoreLoop c base fuel excl <+: excl := by
  induction fuel generalizing excl with
  | zero => exact List.prefix_refl excl
  | succ fuel ih =>
    rw [State.restoreLoop]
    split
    · exact List.prefix_refl excl
    · simp only []
      split
      · exact (ih _).trans (List.dropLast_prefix excl)
      · exact List.prefix_refl excl

theorem State.restoreLoop_fails (s : State) (c : Cfg) (base : List (Nat × Nat)) (fuel : Nat) (excl : List Nat)
    (h : ∀ x ∈ s.failSet c excl, x ∈ base) : ∀ x ∈ s.failSet c (s.restoreLoop c base fuel excl), x ∈ base := by
  induction fuel generalizing excl with
  | zero => exact h
  | succ fuel ih =>
    rw [State.restoreLoop]
    split
    · exact h
    · simp only []
      split
      next hAll =>
        exact ih _ (fun x hx => List.contains_iff_mem.mp (List.all_eq_true.mp hAll x hx))
      · exact h

/-! ### Events with a list of objects (Table EV-6) -/

variable {C : List Part}

theorem State.evtTo_adds (m src obj : Nat) (s : State) (hC : Covers reportParts C := by rfl) :
    Adds C s (s.evtTo m src obj) := by
  refine Adds.mono ?_ hC
  unfold State.evtTo
  refine .ite ?_ (.refl _ s)
  generalize queueEvt m (evtPayload src s.self s.tide.word obj 0) (s.host, s.cnt, s.out, false) = r
  have hQueued : Adds reportParts s { s with host := r.1, cnt := r.2.1, out := r.2.2.1 } := adds_of_eq rfl rfl
  exact hQueued.trans (State.raise_adds _ _ _ _)

theorem State.raiseList_beyond (src o : Nat) (l : List Nat) (s : State) (hC : Covers reportParts C := by rfl) :
    Adds C (s.raise src o 0) (s.raiseList src (o :: l)) := by
  refine .foldl (fun t b => ?_) _ _
  split
  · exact .ite (.refl _ t) (State.evtTo_adds _ _ _ t hC)
  · exact .refl _ t

theorem State.raiseList_adds (src : Nat) (l : List Nat) (s : State) (hC : Covers reportParts C := by rfl) :
    Adds C s (s.raiseList src l) := by
  cases l with
  | nil => exact .refl _ s
  | cons o l => exact (State.raise_adds _ _ _ s hC).trans (State.raiseList_beyond src o l s hC)

theorem State.raiseList_pends {src : Nat} {l : List Nat} (h : l ≠ []) (s : State) : (s.raiseList src l).pends src := by
  cases l with
  | nil => exact absurd rfl h
  | cons o l => exact (State.raiseList_beyond (C := reportParts) src o l s).pending src (State.raise_pends _ _ _ _)

/-! ### Objects shed and restored (R410, R413) -/

theorem State.cesStop_adds (p : Nat) (s : State) (hC : Covers playParts C := by rfl) : Adds C s (s.cesStop p) := by
  refine Adds.mono (D := playParts) ?_ hC
  exact (((State.flushPoint_adds _ s).trans (State.flushPoint_adds _ _)).trans (State.modE1_adds _ _ _)).trans
    (State.e1Event_adds _ _ _ _)

theorem State.shedObj_adds (o : Nat) (s : State) (hC : Covers playParts C := by rfl) : Adds C s (s.shedObj o) :=
  Adds.mono (D := playParts) (.ite ((State.modE1_adds _ _ s).trans (State.cesStop_adds _ _)) (.refl _ s)) hC

theorem State.restoreObj_adds (o : Nat) (s : State) (hC : Covers playParts C := by rfl) :
    Adds C s (s.restoreObj o) := by
  refine Adds.mono (D := playParts) (.ite ?_ (.refl _ s)) hC
  exact ((State.modE1_adds _ _ s).trans (State.cesRestart_adds _ _)).trans (State.e1Event_adds _ _ _ _)

/-! ### A re-run (R407 to R413, Table AD-4) -/

/-- The admission state put. -/
def State.putAdm (a : Admission) (s : State) : State := { s with adm := a }

/-- The objects newly shed go out of service and those restored come back. -/
def State.serveShed (old down back : List Nat) (s : State) : State :=
  back.foldl (fun t o => if old.contains o then t.restoreObj o else t) (down.foldl (fun t o => t.shedObj o) s)

/-- What a re-run tells: what is newly shed, at risk and restored, or that nothing has changed. -/
def State.tellShed (fresh : List Nat) (s : State) : State :=
  if fresh.isEmpty then s else (s.raiseList 303 fresh).logRec 5 (fresh.flatMap (fun o => leBytes 4 o))

def State.tellRerun (quiet : Bool) (fresh risk back : List Nat) (s : State) : State :=
  let s6 := ((s.tellShed fresh).raiseList 304 risk).raiseList 305 back
  if quiet then s6.raise 306 0 0 else s6

theorem State.serveShed_adds (old down back : List Nat) (s : State) (hC : Covers playParts C := by rfl) :
    Adds C s (s.serveShed old down back) :=
  Adds.trans (.foldl (fun t o => State.shedObj_adds o t hC) _ _)
    (.foldl (fun t o => .ite (State.restoreObj_adds o t hC) (.refl _ t)) _ _)

theorem State.tellShed_adds (fresh : List Nat) (s : State) (hC : Covers reportParts C := by rfl) :
    Adds C s (s.tellShed fresh) :=
  .ite (.refl _ s) ((State.raiseList_adds _ _ s hC).trans (State.logRec_adds _ _ _ hC))

theorem State.tellShed_pends {fresh : List Nat} (h : fresh ≠ []) (s : State) : (s.tellShed fresh).pends 303 := by
  rw [State.tellShed, if_neg (by simpa using h)]
  exact (State.logRec_adds (C := reportParts) _ _ _).pending _ (State.raiseList_pends h s)

theorem State.tellQuiet_adds (quiet : Bool) (s : State) (hC : Covers reportParts C := by rfl) :
    Adds C s (if quiet then s.raise 306 0 0 else s) := .ite (State.raise_adds _ _ _ s hC) (.refl _ s)

theorem State.tellRerun_adds (quiet : Bool) (fresh risk back : List Nat) (s : State)
    (hC : Covers reportParts C := by rfl) : Adds C s (s.tellRerun quiet fresh risk back) :=
  (((State.tellShed_adds fresh s hC).trans (State.raiseList_adds _ _ _ hC)).trans
    (State.raiseList_adds _ _ _ hC)).trans (State.tellQuiet_adds quiet _ hC)

theorem State.tellRerun_pends (quiet : Bool) (fresh risk back : List Nat) (s : State) :
    (fresh ≠ [] → (s.tellRerun quiet fresh risk back).pends 303)
    ∧ (risk ≠ [] → (s.tellRerun quiet fresh risk back).pends 304)
    ∧ (back ≠ [] → (s.tellRerun quiet fresh risk back).pends 305)
    ∧ (quiet = true → (s.tellRerun quiet fresh risk back).pends 306) := by
  have hLast (t : State) : KeepsPending t (if quiet then t.raise 306 0 0 else t) :=
    (State.tellQuiet_adds (C := reportParts) quiet t).pending
  have hList (src : Nat) (l : List Nat) (t : State) : KeepsPending t (t.raiseList src l) :=
    (State.raiseList_adds (C := reportParts) src l t).pending
  refine ⟨fun h => hLast _ _ (hList _ _ _ _ (hList _ _ _ _ (State.tellShed_pends h s))),
    fun h => hLast _ _ (hList _ _ _ _ (State.raiseList_pends h _)), fun h => hLast _ _ (State.raiseList_pends h _),
    fun h => ?_⟩
  rw [State.tellRerun, if_pos h]
  exact State.raise_pends _ _ _ _

/-- The admission state that a re-run leaves, with `kept` shed. -/
def State.admAfter (kept : List Nat) (s : State) : Admission :=
  { s.adm with due := none, shed := kept, atRisk := s.riskOf s.cfg kept, lastFrame := s.tide.frame }

/-- A re-run that leaves `kept` of the objects `full` shed. -/
def State.rerunTo (full kept : List Nat) (s : State) : State :=
  let fresh := full.drop s.adm.shed.length
  let back := (full.drop kept.length).reverse
  ((s.putAdm (s.admAfter kept)).serveShed s.adm.shed (fresh.filter (fun o => kept.contains o)) back).tellRerun
    (fresh.isEmpty && back.isEmpty) fresh (s.riskOf s.cfg kept) back

theorem State.rerun_true (s : State) : s.rerun true =
    (let full := s.shedLoop s.cfg s.cfg.shedCount s.adm.shed
     s.rerunTo full (s.restoreLoop s.cfg (s.failSet s.cfg full) full.length full)) := rfl

/-- What a re-run touches beside the admission state. -/
theorem State.rerunTo_adds (full kept : List Nat) (s : State) :
    Adds playParts (s.putAdm (s.admAfter kept)) (s.rerunTo full kept) :=
  (State.serveShed_adds _ _ _ _).trans (State.tellRerun_adds _ _ _ _ _)

theorem State.rerunTo_pends (full kept : List Nat) (s : State) :
    (s.adm.shed.length < full.length → (s.rerunTo full kept).pends 303)
    ∧ (s.riskOf s.cfg kept ≠ [] → (s.rerunTo full kept).pends 304)
    ∧ (kept.length < full.length → (s.rerunTo full kept).pends 305)
    ∧ (full.length ≤ s.adm.shed.length → full.length ≤ kept.length → (s.rerunTo full kept).pends 306) := by
  obtain ⟨hShed, hRisk, hBack, hQuiet⟩ := State.tellRerun_pends
    ((full.drop s.adm.shed.length).isEmpty && (full.drop kept.length).reverse.isEmpty)
    (full.drop s.adm.shed.length) (s.riskOf s.cfg kept) (full.drop kept.length).reverse
    ((s.putAdm (s.admAfter kept)).serveShed s.adm.shed
      ((full.drop s.adm.shed.length).filter (fun o => kept.contains o)) (full.drop kept.length).reverse)
  refine ⟨fun h => hShed ?_, hRisk, fun h => hBack ?_, fun hFull hKept => hQuiet ?_⟩
  · simpa [List.drop_eq_nil_iff] using h
  · simpa [List.drop_eq_nil_iff] using h
  · simp [List.drop_eq_nil_of_le hFull, List.drop_eq_nil_of_le hKept]

theorem exec_admissionRecheck_idle {s : State} (h : s.adm.due = none) : exec .admissionRecheck s = .next s := by
  change execAdmissionRecheck s = _
  unfold execAdmissionRecheck
  rw [h]

theorem exec_admissionRecheck_due {s : State} {f : Nat} (h : s.adm.due = some f) :
    exec .admissionRecheck s = .next ((s.until (f * 777600)).rerun true) := by
  change execAdmissionRecheck s = _
  unfold execAdmissionRecheck
  rw [h]
  rfl

/-- What a re-run touches. -/
def rerunParts : List Part :=
  [.evt, .host, .ring, .log, .cnt, .out, .now, .bnd, .power, .tide, .line, .e1s, .craft, .adm, .pool]

/-- What a re-run after the passage of time leaves of `s`. -/
theorem State.rerun_passing {s u : State} (h : Adds passParts s u) :
    let t := u.rerun true
    let old := s.adm.shed
    let full := u.shedLoop s.cfg s.cfg.shedCount old
    let kept := u.restoreLoop s.cfg (u.failSet s.cfg full) full.length full
    t.adm = { s.adm with due := none, shed := kept, atRisk := u.riskOf s.cfg kept, lastFrame := u.tide.frame }
    ∧ (old.length < full.length → t.pends 303) ∧ (u.riskOf s.cfg kept ≠ [] → t.pends 304)
    ∧ (kept.length < full.length → t.pends 305)
    ∧ (full.length ≤ old.length → full.length ≤ kept.length → t.pends 306)
    ∧ t = { s.passing t with adm := t.adm, pool := t.pool } := by
  rw [State.rerun_true, ← h.within.cfg rfl, ← h.within.adm rfl]
  dsimp only
  generalize u.shedLoop u.cfg u.cfg.shedCount u.adm.shed = full
  generalize u.restoreLoop u.cfg (u.failSet u.cfg full) full.length full = kept
  obtain ⟨hShed, hRisk, hBack, hQuiet⟩ := u.rerunTo_pends full kept
  have hRerun := u.rerunTo_adds full kept
  have hPut : Within rerunParts u (u.putAdm (u.admAfter kept)) := within_of_eq_merge rfl
  have hAll : Within rerunParts s (u.rerunTo full kept) :=
    ((h.within.mono rfl).trans hPut).trans (hRerun.within.mono rfl)
  exact ⟨hRerun.within.adm rfl, hShed, hRisk, hBack, hQuiet, hAll.eq_merge⟩

/-- Settles O54: the loops by induction on their fuel, the re-run by what each of its parts adds. -/
theorem admissionReruns : Obligations.AdmissionReruns := by
  unfold Obligations.AdmissionReruns
  refine ⟨fun s c => ⟨fun l o h => Cfg.shedNext_best h, c.shedNext_none_iff,
      fun fuel excl => ⟨s.shedLoop_prefix c fuel excl, s.shedLoop_nodup c fuel excl⟩,
      fun base fuel excl => ⟨s.restoreLoop_prefix c base fuel excl, s.restoreLoop_fails c base fuel excl⟩⟩,
    fun s => ⟨exec_admissionRecheck_idle, 
      fun f hDue => ⟨_, exec_admissionRecheck_due hDue, State.rerun_passing (State.until_adds _ s)⟩⟩⟩

end Sys2Proof.Machine
end

section
/-!
# What is sent over the DCC, and what an answered mailbox keeps

`Sends r k`: from `r` to `k` the ring block only has sent messages. Reports of a worker and messages toward a peer do
nothing else to it. The pool's and the circuits' operations touch no mailbox but with event messages.
-/
namespace Sys2Proof.Machine

-- One theorem after another: the stacks of many that wait at once would exceed the memory of the check.
set_option Elab.async false

/-! ### Messages of the DCC (R465 to R467) -/

/-- A ring side without the slots that it is to send. -/
def RingSide.besideDcc (x : RingSide) : RingSide := { x with dccTx := [] }

def Ring.besideSides (r : Ring) : Ring := { r with sides := [], peers := [] }

/-- From `r` to `k` messages have been sent, and nothing else. -/
structure Sends (r k : Ring) : Prop where
  rest : k.besideSides = r.besideSides
  side : ∀ d, (Tab.get {} k.sides d : RingSide).besideDcc = (Tab.get {} r.sides d : RingSide).besideDcc

theorem Sends.refl (r : Ring) : Sends r r := ⟨rfl, fun _ => rfl⟩

theorem Sends.trans {r k l : Ring} (a : Sends r k) (b : Sends k l) : Sends r l :=
  ⟨b.rest.trans a.rest, fun d => (b.side d).trans (a.side d)⟩

theorem Sends.foldl {α : Type} {r : Ring} {f : State → α → State} (h : ∀ t x, Sends t.ring (f t x).ring) (l : List α)
    {s : State} (a : Sends r s.ring) : Sends r (l.foldl f s).ring := by
  induction l generalizing s with
  | nil => exact a
  | cons x l ih => exact ih (a.trans (h s x))

/-- An update of a side's table by what leaves a field of every side alone. -/
theorem Ring.modSides_other {α : Type} (F : RingSide → α) (d : Nat) (f : RingSide → RingSide) (hf : ∀ x, F (f x) = F x)
    (l : Tab RingSide) (j : Nat) : F (Tab.get {} (Tab.modify {} l d f) j) = F (Tab.get {} l j) := by
  by_cases h : j = d
  · rw [h, Tab.get_modify_same, hf]
  · rw [Tab.get_modify_other _ _ _ h]

theorem Sends.dccPut {r k : Ring} (a : Sends r k) (d : Nat) (own : Bool) (wire : List Byte) :
    Sends r (dccPut d own wire k) := by
  refine a.trans ⟨rfl, ?_⟩
  exact Ring.modSides_other RingSide.besideDcc d (fun x => { x with dccTx := x.dccTx ++ dccSlots own wire })
    (fun _ => rfl) k.sides

theorem dccPushOn_sends (d : Nat) (k : DccKeys) (self dst frame : Nat) (body : DccBody) (r : Ring) :
    Sends r (dccPushOn d k self dst frame body r) := by
  simp only [dccPushOn]
  split
  · exact ⟨rfl, fun _ => rfl⟩
  · refine Sends.dccPut ?_ _ _ _
    exact ⟨rfl, fun _ => rfl⟩

theorem setEvtParts_sends (e : Events) (force : Bool) (h : HostIf) (r : Ring) (s : State) :
    Sends r (setEvtParts e force h r s).2.2.1 := by
  simp only [setEvtParts]
  split
  · exact .refl r
  · exact dccPushOn_sends _ _ _ _ _ _ _

theorem logParts_sends (kind : Nat) (data : List Byte) (s : State) (r : Ring) :
    Sends r (logParts kind data s r).2.1 := by
  simp only [logParts]
  split
  · exact .refl r
  · exact dccPushOn_sends _ _ _ _ _ _ _

section
variable {r : Ring} {s : State} (a : Sends r s.ring)
include a

theorem Sends.dcc (n : Nat) (b : DccBody) : Sends r (s.dcc n b).ring := a.trans (dccPushOn_sends _ _ _ _ _ _ _)

theorem Sends.setEvt (e : Events) (force : Bool) : Sends r (s.setEvt e force).ring :=
  a.trans (setEvtParts_sends e force s.host s.ring s)

theorem Sends.logRec (k : Nat) (d : List Byte) : Sends r (s.logRec k d).ring := a.trans (logParts_sends k d s s.ring)

theorem Sends.raise (src obj detail : Nat) : Sends r (s.raise src obj detail).ring := by
  have hRelay (c : Prop) [Decidable c] (k : DccKeys) (self frame : Nat) (b : DccBody) (l : Ring) :
      Sends l (if c then l else dccPush k self 0 frame b l) := by
    split
    · exact .refl l
    · exact dccPushOn_sends _ _ _ _ _ _ _
  have hLog (c : Prop) [Decidable c] (b : List Byte) (l : Ring) :
      Sends l (if c then logParts 1 b s l else (s.log, l, [])).2.1 := by
    split
    · exact logParts_sends _ _ _ _
    · exact .refl l
  simp only [State.raise, raiseParts]
  exact (a.trans (hRelay _ _ _ _ _ _)).trans ((setEvtParts_sends _ _ _ _ _).trans (hLog _ _ _))

theorem Sends.raiseWin (n src sub obj detail : Nat) : Sends r (s.raiseWin n src sub obj detail).ring := by
  simp only [State.raiseWin]
  split
  · exact a
  · refine Sends.raise ?_ _ _ _
    exact a

theorem Sends.postHalf (w : W32) (o : Nat) : Sends r (s.postHalf w o).ring := by
  simp only [State.postHalf]
  split
  · split
    · exact a
    · refine Sends.raise ?_ _ _ _
      exact a
  · exact (a.raise _ _ _).dcc _ _

theorem Sends.count (i n : Nat) : Sends r (s.count i n).ring := by
  simp only [State.count]
  split
  · refine Sends.postHalf ?_ _ _
    exact a
  · exact a

theorem Sends.inc (i : Nat) : Sends r (s.inc i).ring := a.count i 1

theorem Sends.answerEvents (m : Nat) (st : Status) : Sends r (s.answerEvents m st).ring := by
  have hReply (t : State) (ht : Sends r t.ring) : Sends r (if m = 33 then t else t.raise 576 0 0).ring := by
    split
    · exact ht
    · exact ht.raise _ _ _
  cases st
  case ignored c => exact hReply _ ((a.raise 578 0 0).inc _)
  case denied => exact hReply _ ((a.raiseWin 8000 579 0 0 0).inc _)
  all_goals exact hReply s a

theorem Sends.answer (h : s.isManager = true) (opc : Nat) (q : Req) (st : Status) (p : List Byte) :
    Sends r (s.answer opc q st p).ring := by
  simp only [State.answer, State.isRelayed_of_manager h, Bool.false_eq_true, if_false]
  refine Sends.answerEvents (Sends.inc (Sends.inc ?_ _) _) _ _
  exact a

end

/-! ### What the pool and the circuits leave of the mailboxes -/

section
variable {h : HostIf} {s : State} (a : Steady h s.host)
include a

theorem Steady.count (i n : Nat) : Steady h (s.count i n).host := by
  simp only [State.count]
  split
  · refine Steady.postHalf ?_ _ _
    exact a
  · exact a

theorem Steady.qthPost (entry : W32) (obj : Nat) : Steady h (s.qthPost entry obj).host := by
  simp only [State.qthPost]
  split
  · refine Steady.raise ?_ _ _ _
    exact a
  · split
    · exact a
    · refine Steady.raise ?_ _ _ _
      exact a

theorem Steady.threshold (q : Nat) : Steady h (s.threshold q).host := by
  simp only [State.threshold]
  split
  · exact a
  · split
    · exact a
    · split
      · exact a
      · split
        · split
          · refine Steady.qthPost ?_ _ _
            exact a
          · refine Steady.qthPost ?_ _ _
            exact a
        · refine Steady.raise (s := s.modQueue q _) ?_ _ _ _
          exact a

theorem Steady.poolLow : Steady h s.poolLow.host := by
  simp only [State.poolLow]
  split
  · refine Steady.raise ?_ _ _ _
    exact a
  · exact a

theorem Steady.removeAll (q : Nat) (gone keep : List Packet) : Steady h (s.removeAll q gone keep).host := by
  refine Steady.poolLow (Steady.threshold ?_ q)
  exact a

theorem Steady.cesRestore (p : Nat) : Steady h (s.cesRestore p).host := by
  refine Steady.raise (Steady.removeAll ?_ _ _ _) _ _ _
  exact a

theorem Steady.endDiag (o : Nat) : Steady h (s.endDiag o).host := by
  simp only [State.endDiag]
  split
  · split
    · refine Steady.cesRestore ?_ _
      exact a
    · exact a
  · exact a
  · exact a

theorem Steady.foldl {α : Type} {f : State → α → State} (hf : ∀ (t : State) x, Steady h t.host → Steady h (f t x).host)
    (l : List α) : Steady h (l.foldl f s).host := by
  induction l generalizing s with
  | nil => exact a
  | cons x l ih => exact ih (hf s x a)

theorem Steady.stopOp (m seq : Nat) : Steady h (s.stopOp m seq).host := by
  refine Steady.foldl ?_ (fun t x ht => ht.endDiag x.1) _
  exact a

end

/-! ### Numbers as bytes -/

theorem leNat_leBytes (k n : Nat) : leNat (leBytes k n) = n % 256 ^ k := by
  induction k generalizing n with
  | zero => simp [leBytes, leNat, Nat.mod_one]
  | succ k ih =>
    rw [leBytes, leNat, ih, BitVec.toNat_ofNat, pow_succ' 256 k]
    exact Nat.mod_mul.symm

end Sys2Proof.Machine
end

section
/-!
# Session, status and ring requests

What each request on the manager's own node runs, and what it leaves: its answer, what it reports, and for the few that
do more than report what that touches.
-/
namespace Sys2Proof.Machine

-- One theorem after another: the stacks of many that wait at once would exceed the memory of the check.
set_option Elab.async false

/-! ### A request that only answers -/

theorem State.self_of_manager {s : State} (h : s.isManager = true) : s.self = 0 := if_pos h

theorem State.atNode_own {s : State} (h : s.isManager = true) (opc : Nat) (q : Req) (f : State → State) :
    s.atNode opc q 0 f = f s := if_pos (State.self_of_manager h).symm

section
variable {s : State} {opc : Nat} {q : Req} (h : s.admits opc q)
include h

/-- An admitted request whose body runs an answer; its payload does not look at a partial OMCI message. -/
theorem State.serve_answer {body : Req → State → Verdict} {f : State → State} {st : Status} {p : State → List Byte}
    (hBody : body q (s.dropSeg opc q) = .go f)
    (hRuns : f (s.dropSeg opc q) = (s.dropSeg opc q).answer opc q st (p (s.dropSeg opc q)))
    (hp : ∀ t : State, p { t with host := { t.host with omciSeg := none } } = p t := by intro t; rfl) :
    (s.serve opc q body).answers opc q st.code (p s) ∧ s.serve opc q body = s.reporting (s.serve opc q body) := by
  rw [State.serve_go h hBody, hRuns, State.dropSeg_same p hp]
  exact ⟨State.answer_answers (State.admits_isManager h) _ _ _ _,
    ((s.dropSeg_reports opc q).trans (State.answer_reports _ _ _ _ _)).reporting⟩

/-- The same of a request that the body runs on the manager's own node. -/
theorem State.serve_own {body : Req → State → Verdict} {f : State → State} {st : Status} {p : State → List Byte}
    (hBody : body q (s.dropSeg opc q) = .go (State.atNode opc q 0 f))
    (hRuns : f (s.dropSeg opc q) = (s.dropSeg opc q).answer opc q st (p (s.dropSeg opc q)))
    (hp : ∀ t : State, p { t with host := { t.host with omciSeg := none } } = p t := by intro t; rfl) :
    (s.serve opc q body).answers opc q st.code (p s) ∧ s.serve opc q body = s.reporting (s.serve opc q body) :=
  State.serve_answer h hBody ((State.atNode_own (State.admits_isManager h) opc q f).trans hRuns) hp

end

/-! ### MBX_HELLO (R667) -/

/-- The mailbox of a session that opens, its transaction aborted. -/
def State.openSession (q : Req) (s : State) : State :=
  (s.abortTxn q.mbx.val).modBox q.mbx.val (fun b =>
    { b with session := true, evtCount := 1, evtDropped := 0, waiting := none
             hostVer := BitVec.ofNat 32 (u32 q.payload 0) })

/-- What MBX_HELLO answers (Table CA-3). -/
def State.greeting (m : Nat) (s : State) : List Byte :=
  leBytes 4 s.start.fwVersion.toNat ++ leBytes 1 m ++ [0, 0, 0] ++ leBytes 4 (s.box m).evtDropped

def State.hello (q : Req) (s : State) : State :=
  ((s.openSession q).answer 0x0001 q .done (s.greeting q.mbx.val)).raise 583 0 q.mbx.val

theorem helloBody_go {q : Req} (h : q.payload.length = 4) (s : State) : helloBody q s = .go (State.hello q) :=
  if_neg (not_not_intro h)

section
variable (q : Req) (s : State)

theorem State.openSession_reports : Reports s (s.openSession q) :=
  (s.abortTxn_reports q.mbx.val).trans (State.modBox_reports _ _ _)

theorem State.openSession_session : ((s.openSession q).box q.mbx.val).session = true :=
  congrArg Mbx.session (State.box_modBox_same _ _ _)

theorem State.openSession_txn : ((s.openSession q).box q.mbx.val).txn = none :=
  (congrArg Mbx.txn (State.box_modBox_same _ _ _)).trans (congrArg Mbx.txn (s.box_abortTxn q.mbx.val) :)

theorem State.openSession_isManager : (s.openSession q).isManager = s.isManager :=
  congrArg Start.manager (s.openSession_reports q).start

theorem State.hello_reports : Reports s (s.hello q) :=
  ((s.openSession_reports q).trans (State.answer_reports _ _ _ _ _)).trans (State.raise_reports _ _ _ _)

/-- The event of a session that opens touches no mailbox's state. -/
theorem State.hello_core : ((s.hello q).box q.mbx.val).core =
    (((s.openSession q).answer 0x0001 q .done (s.greeting q.mbx.val)).box q.mbx.val).core :=
  ((Steady.refl _).raise 583 0 q.mbx.val).core q.mbx.val

theorem State.hello_pends : (s.hello q).pends 583 := State.raise_pends _ _ _ _

theorem State.hello_pends_abort (h : (s.box q.mbx.val).txn.isSome = true) : (s.hello q).pends 582 := by
  have hOpen : KeepsPending (s.abortTxn q.mbx.val) (s.openSession q) := keepsPending_of_status rfl
  exact State.raise_keepsPending _ _ _ _ _ (State.answer_keepsPending _ _ _ _ _ _ (hOpen _ (State.abortTxn_pends h)))

end

theorem mbxHello_completes {s : State} {q : Req} (h : s.admits 0x0001 q) (hLen : q.payload.length = 4) :
    completesWith (.mbxHello q) s (fun t =>
      t.answers 0x0001 q 0 (leBytes 4 s.start.fwVersion.toNat ++ leBytes 1 q.mbx.val ++ [0, 0, 0]
        ++ leBytes 4 (s.box q.mbx.val).evtDropped)
      ∧ (t.box q.mbx.val).session = true ∧ (t.box q.mbx.val).txn = none ∧ t.pends 583
      ∧ ((s.box q.mbx.val).txn.isSome = true → t.pends 582) ∧ t = s.reporting t) := by
  refine ⟨_, (congrArg Host.Outcome.next (State.serve_go h (helloBody_go hLen _)) :), ?_⟩
  have hManager : ((s.dropSeg 0x0001 q).openSession q).isManager = true :=
    (State.openSession_isManager q _).trans (State.admits_isManager h)
  have hGreets : (s.dropSeg 0x0001 q).greeting q.mbx.val = s.greeting q.mbx.val :=
    State.dropSeg_same (State.greeting q.mbx.val) (fun _ => rfl) _ _ s
  have hCore := State.hello_core q (s.dropSeg 0x0001 q)
  have hAnswers : ((s.dropSeg 0x0001 q).hello q).answers 0x0001 q 0 (s.greeting q.mbx.val) := by
    rw [← hGreets]
    exact State.answers_of_steady ((Steady.refl _).raise _ _ _) (State.answer_answers hManager _ _ _ _)
  refine ⟨hAnswers, ?_, ?_, State.hello_pends q _, fun hTxn => State.hello_pends_abort q _ ?_,
    ((s.dropSeg_reports _ q).trans (State.hello_reports q _)).reporting⟩
  · exact (congrArg Mbx.session hCore :).trans
      ((State.answer_session hManager _ _ _ _).trans (State.openSession_session q _))
  · exact (congrArg Mbx.txn hCore :).trans ((State.answer_txn hManager _ _ _ _).trans (State.openSession_txn q _))
  · rwa [State.dropSeg_box]

/-! ### OP_ABORT (R651, R652) -/

variable {C : List Part}

/-- What stopping a deferred operation touches. -/
def stopParts : List Part := [.evt, .host, .ring, .log, .cnt, .out, .fresh, .start, .pool, .e1s]

theorem State.setStart_adds (f : Start → Start) (s : State) (hC : Covers [.start] C := by rfl) :
    Adds C s (s.setStart f) := Adds.mono (D := [.start]) (adds_of_eq rfl rfl) hC

theorem State.modSide_adds (d : Nat) (f : RingSide → RingSide) (s : State) (hC : Covers [.ring] C := by rfl) :
    Adds C s (s.modSide d f) := Adds.mono (D := [.ring]) (adds_of_eq rfl rfl) hC

theorem State.cesRestore_adds (p : Nat) (s : State) (hC : Covers playParts C := by rfl) : Adds C s (s.cesRestore p) :=
  Adds.mono (D := playParts) ((State.cesRestart_adds p s).trans (State.e1Event_adds _ _ _ _)) hC

theorem State.cesRestore_start (p : Nat) (s : State) : (s.cesRestore p).start = s.start :=
  (State.cesRestore_adds (C := playParts) p s).within.start rfl

theorem State.endDiag_adds (o : Nat) (s : State) (hC : Covers stopParts C := by rfl) : Adds C s (s.endDiag o) := by
  refine Adds.mono (D := stopParts) ?_ hC
  unfold State.endDiag
  have hStart := State.setStart_adds (C := stopParts) (fun k => { k with diags := Tab.set none k.diags o none }) s
  dsimp only
  split
  · exact .ite (hStart.trans (State.cesRestore_adds _ _)) hStart
  · exact hStart.trans (State.modSide_adds _ _ _)
  · exact hStart

theorem State.endDiag_manager (o : Nat) (s : State) : (s.endDiag o).start.manager = s.start.manager := by
  unfold State.endDiag
  dsimp only
  split
  · split
    · rw [State.cesRestore_start]
      rfl
    · rfl
  · rfl
  · rfl

/-- What every step of a fold leaves is as before it. -/
theorem State.foldl_same {α β : Type} (F : State → β) {f : State → α → State} (h : ∀ t x, F (f t x) = F t) (l : List α)
    (s : State) : F (l.foldl f s) = F s := by
  induction l generalizing s with
  | nil => rfl
  | cons x l ih => exact (ih _).trans (h s x)

theorem State.stopOp_adds (m k : Nat) (s : State) (hC : Covers stopParts C := by rfl) : Adds C s (s.stopOp m k) :=
  Adds.mono (D := stopParts)
    ((State.setStart_adds _ s).trans (.foldl (fun t x => State.endDiag_adds _ t) _ _)) hC

theorem State.stopOp_isManager (m k : Nat) (s : State) : (s.stopOp m k).isManager = s.isManager := by
  unfold State.stopOp
  exact State.foldl_same State.isManager (fun t _ => t.endDiag_manager _) _ _

theorem State.stopped_cases (d : Deferred) (s : State) :
    (s.stopped d).2 = s ∨ ∃ n, (s.stopped d).2 = { s with fresh := n } := by
  simp only [State.stopped]
  split
  · exact .inl rfl
  · exact .inr ⟨_, rfl⟩

theorem State.stopped_adds (d : Deferred) (s : State) (hC : Covers [.fresh] C := by rfl) : Adds C s (s.stopped d).2 := by
  rcases s.stopped_cases d with h | ⟨n, h⟩ <;> rw [h]
  · exact .refl C s
  · exact Adds.mono (D := [.fresh]) (adds_of_eq rfl rfl) hC

theorem State.abortOp_adds (m : Nat) (d : Deferred) (s : State) (hC : Covers stopParts C := by rfl) :
    Adds C s (s.abortOp m d) :=
  Adds.mono (D := stopParts) (((State.stopped_adds d s).trans (State.stopOp_adds _ _ _)).trans
    (State.complete_adds _ _ _ _ _)) hC

/-- After its completion event, or a worker's completion to the manager, no deferred operation with that SEQ is
outstanding. -/
theorem State.complete_deferred (m k : Nat) (st : Status) (p : List Byte) (s : State) :
    ∀ e ∈ ((s.complete m k st p).box m).deferred, e.seq ≠ k := by
  have hEvent (c : Prop) [Decidable c] (t : State) :
      ((if c then t else t.raise 576 0 0).box m).deferred = (t.box m).deferred := by
    split
    · rfl
    · exact (congrArg Mbx.deferred (((Steady.refl t.host).raise 576 0 0).core m) :)
  have hLeft (l : List Deferred) (hl : l = (s.box m).deferred.filter (fun x => x.seq != k)) : ∀ e ∈ l, e.seq ≠ k := by
    intro e he
    rw [hl] at he
    simpa using (List.mem_filter.mp he).2
  unfold State.complete
  split
  next hNone =>
    intro e he hSeq
    exact absurd (List.find?_eq_none.mp hNone e he) (by simp [hSeq])
  next d hSome =>
    split
    · exact hLeft _ (congrArg Mbx.deferred (State.box_modBox_same m _ s) :)
    · dsimp only
      rw [hEvent]
      have hBox := (HostIf.flushBox_steady m (s.host.modBox m (fun b =>
        { b with deferred := b.deferred.filter (fun x => x.seq != k)
                 completions := b.completions ++ [{ opc := d.opc % 2 ^ 15 + 2 ^ 15, seq := d.seq, flags := 0x80
                                                    status := st.code, tag := d.tag, payload := p }] }))).core m
      rw [HostIf.box_modBox_same] at hBox
      exact hLeft _ (congrArg Mbx.deferred hBox :)

theorem State.abortOp_isManager (m : Nat) (d : Deferred) (s : State) : (s.abortOp m d).isManager = s.isManager := by
  have hStopped : (s.stopped d).2.isManager = s.isManager := by
    rcases s.stopped_cases d with h | ⟨n, h⟩ <;> rw [h]
    rfl
  exact (congrArg Start.manager (State.complete_reports _ _ _ _ _).start).trans
    ((State.stopOp_isManager m d.seq _).trans hStopped)

theorem State.abortOp_deferred (m : Nat) (d : Deferred) (s : State) :
    ∀ e ∈ ((s.abortOp m d).box m).deferred, e.seq ≠ d.seq := State.complete_deferred m d.seq _ _ _

end Sys2Proof.Machine
end

section
/-!
# Protection commands, and a worker that leaves

What a protection command and the departure of workers touch beside what they report.
-/
namespace Sys2Proof.Machine

-- One theorem after another: the stacks of many that wait at once would exceed the memory of the check.
set_option Elab.async false

variable {C : List Part}

/-! ### Admission is due again -/

/-- The admission state without the frame of the next re-run. -/
def Admission.besideDue (a : Admission) : Admission := { a with due := none }

theorem Admission.eq_of_besideDue {a b : Admission} (h : b.besideDue = a.besideDue) : b = { a with due := b.due } := by
  unfold Admission.besideDue at h
  rw [Admission.mk.injEq] at h ⊢
  exact ⟨rfl, h.2⟩

/-- What commands on the ring touch beside what they report. -/
def dueParts : List Part := [.evt, .host, .ring, .log, .cnt, .out, .adm]

/-- What the departure of a worker touches. -/
def leaveParts : List Part := [.evt, .host, .ring, .log, .cnt, .out, .pool, .adm]

theorem State.recheck_adds (s : State) (hC : Covers [.adm] C := by rfl) : Adds C s s.recheck :=
  Adds.mono (D := [.adm]) (adds_of_eq rfl rfl) hC

theorem Within.due {s t : State} (h : Within dueParts s t) (hAdm : t.adm.besideDue = s.adm.besideDue) :
    t = { s.reporting t with adm := { s.adm with due := t.adm.due } } := by
  rw [← Admission.eq_of_besideDue hAdm]
  exact h.eq_merge

theorem Within.leave {s t : State} (h : Within leaveParts s t) (hAdm : t.adm.besideDue = s.adm.besideDue) :
    t = { s.reporting t with pool := t.pool, adm := { s.adm with due := t.adm.due } } := by
  rw [← Admission.eq_of_besideDue hAdm]
  exact h.eq_merge

/-! ### Links and wraps (R453, R463, R464) -/

theorem State.modLink_adds (src dst c : Nat) (f : CreditLink → CreditLink) (s : State)
    (hC : Covers [.ring] C := by rfl) : Adds C s (s.modLink src dst c f) :=
  Adds.mono (D := [.ring]) (adds_of_eq rfl rfl) hC

theorem State.rgEvent_adds (d k detail : Nat) (s : State) (hC : Covers reportParts C := by rfl) :
    Adds C s (s.rgEvent d k detail) := State.raise_adds _ _ _ s hC

theorem State.reinitLink_adds (dst c : Nat) (s : State) (hC : Covers reportParts C := by rfl) :
    Adds C s (s.reinitLink dst c) :=
  Adds.mono (D := reportParts) ((((State.modLink_adds _ _ _ _ s).trans (State.inc_adds _ _)).trans
    (State.rgEvent_adds _ _ _ _)).trans (State.dcc_adds _ _ _)) hC

theorem State.reinitWhere_adds (p : Nat → Bool) (s : State) (hC : Covers reportParts C := by rfl) :
    Adds C s (s.reinitWhere p) :=
  .foldl (fun t _ => .foldl (fun u _ => State.reinitLink_adds _ _ u hC) _ t) _ s

/-- Links that are initialised again leave the sides as they are, but for the messages to be sent. -/
theorem State.reinitWhere_side (p : Nat → Bool) (s : State) (d : Nat) :
    ((s.reinitWhere p).side d).besideDcc = (s.side d).besideDcc := by
  refine State.foldl_same (fun t => (t.side d).besideDcc) (fun t n => ?_) _ s
  refine State.foldl_same (fun t => (t.side d).besideDcc) (fun u c => ?_) _ t
  exact ((((Sends.refl _).inc _).raise _ _ _).dcc _ _).side d

theorem State.side_modSide_same (d : Nat) (f : RingSide → RingSide) (s : State) : (s.modSide d f).side d = f (s.side d) :=
  Tab.get_modify_same _ _ _ _

/-- The manager's timing does not move with a wrap. -/
theorem State.timingSide_manager {s : State} (h : s.isManager = true) : s.timingSide = s := if_pos h

theorem State.timingSide_ring (s : State) : s.timingSide.ring = s.ring := by
  unfold State.timingSide
  split <;> rfl

theorem State.timingSide_adm (s : State) : s.timingSide.adm = s.adm := by
  unfold State.timingSide
  split <;> rfl

/-- A span whose wrap has ended. -/
def State.unwrapped (d : Nat) (s : State) : State :=
  (s.modSide d (fun x => { x with wrapped := false, farWrap := false, wtr := false })).setReq d

/-- What follows where there was a wrap: links across the span are initialised again. -/
def State.relinked (obj : Nat) (p : Nat → Bool) (s : State) : State :=
  (s.raise 385 obj 0).reinitWhere p

theorem State.unwrap_eq (d : Nat) (s : State) : s.unwrap d =
    if (s.side d).wrapped then
      ((s.unwrapped d).relinked (sideObj s.self d) (fun n => s.ring.sideOf n == d)).timingSide.recheck
    else s.unwrapped d := rfl

theorem State.unwrapped_adds (d : Nat) (s : State) (hC : Covers [.ring] C := by rfl) : Adds C s (s.unwrapped d) :=
  (State.modSide_adds _ _ s hC).trans (State.modSide_adds _ _ _ hC)

theorem State.unwrapped_cmd (d : Nat) (s : State) : ((s.unwrapped d).side d).cmd = (s.side d).cmd := by
  rw [State.unwrapped, State.setReq, State.side_modSide_same, State.side_modSide_same]

theorem State.relinked_adds (obj : Nat) (p : Nat → Bool) (s : State) (hC : Covers reportParts C := by rfl) :
    Adds C s (s.relinked obj p) := (State.raise_adds _ _ _ s hC).trans (State.reinitWhere_adds _ _ hC)

theorem State.relinked_side (obj : Nat) (p : Nat → Bool) (s : State) (j : Nat) :
    ((s.relinked obj p).side j).besideDcc = (s.side j).besideDcc :=
  (State.reinitWhere_side p _ j).trans (((Sends.refl s.ring).raise _ _ _).side j)

/-- The end of a wrap on the manager. -/
theorem State.unwrap_adds {s : State} (h : s.isManager = true) (d : Nat) (hC : Covers dueParts C := by rfl) :
    Adds C s (s.unwrap d) := by
  refine Adds.mono (D := dueParts) ?_ hC
  rw [State.unwrap_eq]
  split
  · have hLinks : Adds dueParts s ((s.unwrapped d).relinked (sideObj s.self d) (fun n => s.ring.sideOf n == d)) :=
      (State.unwrapped_adds d s).trans (State.relinked_adds _ _ _)
    rw [State.timingSide_manager ((congrArg Start.manager (hLinks.within.start rfl)).trans h)]
    exact hLinks.trans (State.recheck_adds _)
  · exact State.unwrapped_adds d s

theorem State.unwrap_cmd (d : Nat) (s : State) : ((s.unwrap d).side d).cmd = (s.side d).cmd := by
  rw [State.unwrap_eq]
  split
  · have hRing (t : State) : t.timingSide.recheck.side d = t.side d :=
      congrArg (fun r : Ring => (Tab.get {} r.sides d : RingSide)) t.timingSide_ring
    rw [hRing]
    exact (congrArg RingSide.cmd (State.relinked_side _ _ _ d) :).trans (s.unwrapped_cmd d)
  · exact s.unwrapped_cmd d

theorem State.unwrap_besideDue (d : Nat) (s : State) : (s.unwrap d).adm.besideDue = s.adm.besideDue := by
  rw [State.unwrap_eq]
  split
  · have hDue (t : State) : t.timingSide.recheck.adm.besideDue = t.adm.besideDue :=
      (congrArg Admission.besideDue t.timingSide_adm :)
    rw [hDue, (State.relinked_adds (C := reportParts) _ _ _).within.adm rfl]
    rfl
  · rfl

/-! ### RING_PROTECT_CMD (R460, R683) -/

/-- A span with a command put. -/
def State.commanded (d cmd : Nat) (s : State) : State := (s.modSide d (fun y => { y with cmd := cmd })).setReq d

/-- The span after a command: its request, and the end of a wrap that nothing else asks for. -/
def State.protected (d cmd : Nat) (s : State) : State :=
  if cmd = 0 && !(s.side d).sf && !(s.side d).sd && !s.farAsks d && !(s.side d).wtr then (s.commanded d cmd).unwrap d
  else s.commanded d cmd

theorem State.commanded_cmd (d cmd : Nat) (s : State) : ((s.commanded d cmd).side d).cmd = cmd := by
  rw [State.commanded, State.setReq, State.side_modSide_same, State.side_modSide_same]

theorem State.commanded_adds (d cmd : Nat) (s : State) (hC : Covers [.ring] C := by rfl) :
    Adds C s (s.commanded d cmd) := (State.modSide_adds _ _ s hC).trans (State.modSide_adds _ _ _ hC)

section
variable {s : State} (h : s.isManager = true) (d cmd : Nat)

theorem State.protected_cmd : ((s.protected d cmd).side d).cmd = cmd := by
  unfold State.protected
  split
  · rw [State.unwrap_cmd, State.commanded_cmd]
  · exact s.commanded_cmd d cmd

theorem State.protected_besideDue : (s.protected d cmd).adm.besideDue = s.adm.besideDue := by
  unfold State.protected
  split
  · rw [State.unwrap_besideDue]
    rfl
  · rfl

include h

theorem State.protected_adds (hC : Covers dueParts C := by rfl) : Adds C s (s.protected d cmd) := by
  refine Adds.mono (D := dueParts) (.ite ?_ (State.commanded_adds d cmd s)) hC
  have hManager : (s.commanded d cmd).isManager = true := h
  exact (State.commanded_adds d cmd s).trans (State.unwrap_adds hManager d)

end

/-- Whether a command for a span changes nothing (R460, R684). -/
def State.commandStands (s : State) (d cmd : Nat) : Prop :=
  (cmd = 0 ∧ (s.side d).cmd = 0) ∨ (cmd = 3 ∧ s.otherRequest d = true)

theorem State.protect_stands {s : State} {d cmd : Nat} (h : s.commandStands d cmd) (q : Req) :
    s.protect q d cmd = s.reply 0x0402 q (.ignored 6) :=
  if_pos (by simpa [State.commandStands] using h)

theorem State.protect_acts {s : State} {d cmd : Nat} (h : ¬ s.commandStands d cmd) (q : Req) :
    s.protect q d cmd = ((s.protected d cmd).raise 387 (sideObj s.self d) cmd).reply 0x0402 q .done :=
  if_neg (by simpa [State.commandStands] using h)

/-! ### A worker leaves (R482, R478, R770) -/

theorem State.flushToward_adds (n : Nat) (s : State) (hC : Covers poolParts C := by rfl) : Adds C s (s.flushToward n) :=
  .foldl (fun t _ => .foldl (fun u _ => State.flushPoint_adds _ u hC) _ t) _ s

theorem State.dropReasm_adds (k : Nat) (s : State) (hC : Covers poolParts C := by rfl) : Adds C s (s.dropReasm k) := by
  refine Adds.mono (D := poolParts) ?_ hC
  unfold State.dropReasm
  split
  · exact .refl _ s
  next r _ =>
    have hFreed : Adds poolParts s ((s.setReasm k none).freeRing r.cells) := adds_of_eq rfl rfl
    exact hFreed.trans (State.poolLow_adds _)

theorem State.dropFrom_adds (n : Nat) (s : State) (hC : Covers poolParts C := by rfl) : Adds C s (s.dropFrom n) :=
  .foldl (fun t _ => State.dropReasm_adds _ t hC) _ s

theorem State.faultNode_adds (n : Nat) (s : State) (hC : Covers reportParts C := by rfl) : Adds C s (s.faultNode n) := by
  refine .foldl (fun t m => Adds.trans ?_ (.foldl (fun u d => State.complete_adds _ _ _ _ u hC) _ _)) _ s
  split
  · exact .ite (State.answer_adds _ _ _ _ t hC) (.refl _ t)
  · exact .refl _ t

theorem State.modNode_adds (n : Nat) (f : NodeEntry → NodeEntry) (s : State) (hC : Covers [.ring] C := by rfl) :
    Adds C s (s.modNode n f) := Adds.mono (D := [.ring]) (adds_of_eq rfl rfl) hC

theorem State.rework_adds (s : State) (hC : Covers [.ring] C := by rfl) : Adds C s s.rework :=
  Adds.mono (D := [.ring]) (.ite (.refl _ s) (adds_of_eq rfl rfl)) hC

theorem State.forgetPeer_adds (n : Nat) (s : State) (hC : Covers [.ring] C := by rfl) :
    Adds C s { s with ring := { s.ring with peers := Tab.set {} s.ring.peers n {} } } :=
  Adds.mono (D := [.ring]) (adds_of_eq rfl rfl) hC

theorem State.setSummary_within (n : Nat) (on : Bool) (s : State) : Within reportParts s (s.setSummary n on) :=
  (State.setEvt_reports _ _ _).within

/-- The entry of a worker that is absent from `now` on (R478). -/
def NodeEntry.gone (now : Nat) (short : Bool) (e : NodeEntry) : NodeEntry :=
  { e with member := 0, since := now, holdEnd := if short then now + e.holdoff * secTicks else e.holdEnd
           holdoff := if short then longer e.holdoff else e.holdoff }

/-- The ring block and the pool of a worker that has left: its queues and requests are dealt with, its entry is absent,
what was sent to it is forgotten. -/
def State.departed (n : Nat) (s : State) : State :=
  let s2 := (((s.flushToward n).dropFrom n).faultNode n).modNode n
    (NodeEntry.gone s.now (decide (s.now ≤ (s.node n).joinedAt + 60 * secTicks)))
  { s2 with ring := { s2.ring with peers := Tab.set {} s2.ring.peers n {} } }

theorem State.departed_adds (n : Nat) (s : State) (hC : Covers poolParts C := by rfl) : Adds C s (s.departed n) :=
  Adds.mono (D := poolParts)
    (((((State.flushToward_adds n s).trans (State.dropFrom_adds n _)).trans (State.faultNode_adds n _)).trans
      (State.modNode_adds n _ _)).trans (State.forgetPeer_adds n _)) hC

theorem State.nodeLeave_eq (n : Nat) (s : State) :
    s.nodeLeave n = (((s.departed n).rework.recheck).raise 389 (nodeObj n) 0).setSummary n false := rfl

theorem State.nodeLeave_within (n : Nat) (s : State) : Within leaveParts s (s.nodeLeave n) := by
  rw [State.nodeLeave_eq]
  have hBefore : Adds leaveParts s (((s.departed n).rework.recheck).raise 389 (nodeObj n) 0) :=
    (((State.departed_adds n s).trans (State.rework_adds _)).trans (State.recheck_adds _)).trans (State.raise_adds _ _ _ _)
  exact hBefore.within.trans ((State.setSummary_within n false _).mono rfl)

theorem State.nodeLeave_besideDue (n : Nat) (s : State) : (s.nodeLeave n).adm.besideDue = s.adm.besideDue := by
  have hRecheck (t : State) : t.recheck.adm.besideDue = t.adm.besideDue := rfl
  rw [State.nodeLeave_eq, (State.setSummary_within n false _).adm rfl,
    (State.raise_adds (C := reportParts) _ _ _ _).within.adm rfl, hRecheck,
    (State.rework_adds (C := [.ring]) _).within.adm rfl, (State.departed_adds (C := poolParts) n s).within.adm rfl]

/-- The ring once every joined worker has been reset and has left (R422, R685). -/
def State.renumbered (s : State) : State :=
  let s1 := s.joinedNodes.foldl (fun t n => (t.dcc n .nodeReset).nodeLeave n) s
  { s1 with ring := { s1.ring with nodes := [] } }

theorem State.renumbered_within (s : State) :
    Within leaveParts s s.renumbered ∧ s.renumbered.adm.besideDue = s.adm.besideDue := by
  have hStep (t : State) (n : Nat) : Within leaveParts t ((t.dcc n .nodeReset).nodeLeave n) :=
    ((State.dcc_reports t n .nodeReset).within.mono rfl).trans (State.nodeLeave_within n _)
  have hDue (t : State) (n : Nat) : ((t.dcc n .nodeReset).nodeLeave n).adm.besideDue = t.adm.besideDue := by
    rw [State.nodeLeave_besideDue, (State.dcc_reports t n .nodeReset).adm]
  exact ⟨(Within.foldl hStep _ s).trans (within_of_eq_merge rfl),
    State.foldl_same (fun t => t.adm.besideDue) hDue s.joinedNodes s⟩

end Sys2Proof.Machine
end

section
/-!
# Session, status and ring requests, settled

Each request's body on the manager's own node, and what follows from running it.
-/
namespace Sys2Proof.Machine

-- One theorem after another: the stacks of many that wait at once would exceed the memory of the check.
set_option Elab.async false

section
variable {s : State} {q : Req}

/-! ### OP_ABORT -/

theorem opAbortBody_go (hLen : q.payload.length = 4) (hZero : zeroAt q.payload 2 2 = true) (t : State) :
    ∃ f, opAbortBody q t = .go f
      ∧ (∀ u : State, (u.box q.mbx.val).deferred.find? (fun d => d.seq == u16 q.payload 0) = none →
          f u = u.reply 0x0003 q (.ignored 3))
      ∧ (∀ (u : State) (d : Deferred), (u.box q.mbx.val).deferred.find? (fun d => d.seq == u16 q.payload 0) = some d →
          f u = u.atNode 0x0003 q (objNode d.object) (fun v => (v.abortOp q.mbx.val d).reply 0x0003 q .done)) := by
  refine ⟨_, if_neg (by simp [hLen, hZero]), fun u hNone => ?_, fun u d hSome => ?_⟩
  · simp only [hNone]
  · simp only [hSome]

theorem opAbort_none (h : s.admits 0x0003 q) (hLen : q.payload.length = 4) (hZero : zeroAt q.payload 2 2 = true)
    (hNone : (s.box q.mbx.val).deferred.find? (fun d => d.seq == u16 q.payload 0) = none) :
    completesWith (.opAbort q) s (fun t => t.answers 0x0003 q 3 [] ∧ t = s.reporting t) := by
  obtain ⟨f, hBody, hIgnored, _⟩ := opAbortBody_go hLen hZero (s.dropSeg 0x0003 q)
  exact ⟨_, rfl, State.serve_answer h (st := .ignored 3) (p := fun _ => []) hBody
    (hIgnored _ (by rw [State.dropSeg_box]; exact hNone))⟩

theorem opAbort_some (h : s.admits 0x0003 q) (hLen : q.payload.length = 4) (hZero : zeroAt q.payload 2 2 = true)
    {d : Deferred} (hSome : (s.box q.mbx.val).deferred.find? (fun d => d.seq == u16 q.payload 0) = some d)
    (hOwn : objNode d.object = 0) :
    completesWith (.opAbort q) s (fun t =>
      t.answers 0x0003 q 0 [] ∧ (∀ e ∈ (t.box q.mbx.val).deferred, e.seq ≠ d.seq) ∧ t.cfg = s.cfg
      ∧ t = { s.reporting t with fresh := t.fresh, start := t.start, pool := t.pool, e1s := t.e1s }) := by
  obtain ⟨f, hBody, _, hAborts⟩ := opAbortBody_go hLen hZero (s.dropSeg 0x0003 q)
  refine ⟨_, (congrArg Host.Outcome.next (State.serve_go h hBody) :), ?_⟩
  have hManager := State.admits_isManager h
  rw [hAborts _ d (by rw [State.dropSeg_box]; exact hSome), hOwn, State.atNode_own hManager]
  have hStill : ((s.dropSeg 0x0003 q).abortOp q.mbx.val d).isManager = true :=
    (State.abortOp_isManager _ _ _).trans hManager
  have hFrame : Within stopParts s (((s.dropSeg 0x0003 q).abortOp q.mbx.val d).reply 0x0003 q .done) :=
    (((s.dropSeg_reports _ q).within.mono rfl).trans (State.abortOp_adds _ _ _).within).trans
      ((State.answer_reports _ _ _ _ _).within.mono rfl)
  refine ⟨State.answer_answers hStill _ _ _ _, fun e he => ?_, hFrame.cfg rfl, hFrame.eq_merge⟩
  rw [State.reply, State.answer_deferred hStill] at he
  exact State.abortOp_deferred _ _ _ e he

/-! ### Identity and status (Tables CA-4, CA-5, CA-8) -/

/-- The version of the other image, 0 where it does not hold a good one. -/
def Start.otherVersion (k : Start) : Nat :=
  if (k.bank (!k.image)).state = .empty || !(k.bank (!k.image)).good then 0 else (imgVersion (k.bank (!k.image)).image).toNat

/-- The reply of IDENT_GET (Table CA-4). -/
def State.identity (m : Nat) (s : State) : List Byte :=
  leBytes 4 s.idPart ++ leBytes 4 idStep ++ leBytes 4 s.idCap
  ++ beBytes 8 s.serial.toNat ++ leBytes 4 s.start.fwVersion.toNat ++ leBytes 4 s.start.otherVersion
  ++ leBytes 1 (b2n s.isManager) ++ leBytes 1 (b2n s.start.image) ++ [0, 0]
  ++ leBytes 4 (s.box m).hostVer.toNat

theorem State.identity_take (m : Nat) (s : State) :
    (s.identity m).take 12 = leBytes 4 s.idPart ++ leBytes 4 idStep ++ leBytes 4 s.idCap
    ∧ ((s.identity m).drop 12).take 8 = beBytes 8 s.serial.toNat := by
  have hHead : (leBytes 4 s.idPart ++ leBytes 4 idStep ++ leBytes 4 s.idCap).length = 12 := by simp
  have hSerial : (beBytes 8 s.serial.toNat).length = 8 := by simp [beBytes]
  unfold State.identity
  simp only [List.append_assoc (beBytes 8 s.serial.toNat),
    List.append_assoc (leBytes 4 s.idPart ++ leBytes 4 idStep ++ leBytes 4 s.idCap)]
  exact ⟨List.take_left' hHead, by rw [List.drop_left' hHead, List.take_left' hSerial]⟩

theorem identBody_own {q : Req} (h : q.payload = [0, 0, 0, 0]) (s : State) : identBody q s =
    .go (State.atNode 0x0100 q 0 (fun t => t.answer 0x0100 q .done (t.identity q.mbx.val))) := by
  unfold identBody
  rw [h]
  rfl

theorem identGet_completes {s : State} {q : Req} (h : s.admits 0x0100 q) (hPay : q.payload = [0, 0, 0, 0]) :
    completesWith (.identGet q) s (fun t =>
      (∃ p, t.answers 0x0100 q 0 p ∧ p.take 12 = leBytes 4 s.idPart ++ leBytes 4 idStep ++ leBytes 4 s.idCap
        ∧ (p.drop 12).take 8 = beBytes 8 s.serial.toNat)
      ∧ t = s.reporting t) := by
  obtain ⟨hAnswers, hFrame⟩ :=
    State.serve_own h (st := .done) (p := State.identity q.mbx.val) (identBody_own hPay _) rfl
  exact ⟨_, rfl, ⟨_, hAnswers, s.identity_take _⟩, hFrame⟩

theorem statusBody_mailbox (h : q.payload = [0, 2, 0, 0]) (s : State) :
    statusBody q s = .go (fun t => t.answer 0x0101 q .done (t.box q.mbx.val).status) := by
  unfold statusBody
  rw [h]
  simp [u8, zeroAt, bytesAt]

theorem statusBody_global (h : q.payload = [0, 0, 0, 0]) (s : State) :
    ∃ f, statusBody q s = .go (State.atNode 0x0101 q 0 f)
      ∧ ∀ t : State, f t = { t with fresh := t.fresh + 1 }.answer 0x0101 q .done t.statusGlobal := by
  unfold statusBody
  rw [h]
  refine ⟨_, by simp [u8, zeroAt, bytesAt], fun t => rfl⟩

theorem statusBody_ledger (h : q.payload = [0, 1, 0, 0]) (hOperator : ¬ q.mbx.val < 32) (s : State) :
    ∃ f, statusBody q s = .go (State.atNode 0x0101 q 0 f)
      ∧ ∀ t : State, f t = t.answer 0x0101 q .done ((List.range 9).flatMap (fun k => leBytes 4 (t.ledgerReg k))) := by
  unfold statusBody
  rw [h]
  refine ⟨_, by simp [u8, zeroAt, bytesAt, hOperator], fun t => rfl⟩

theorem statusBody_denied (h : q.payload = [0, 1, 0, 0]) (hBerth : q.mbx.val < 32) (s : State) :
    statusBody q s = .no .denied := by
  unfold statusBody
  rw [h]
  simp [u8, hBerth]

theorem statusGet_mailbox (h : s.admits 0x0101 q) (hPay : q.payload = [0, 2, 0, 0]) :
    completesWith (.statusGet q) s (fun t =>
      t.answers 0x0101 q 0 (s.box q.mbx.val).status ∧ t = s.reporting t) :=
  ⟨_, rfl, State.serve_answer h (st := .done) (p := fun t => (t.box q.mbx.val).status) (statusBody_mailbox hPay _) rfl⟩

theorem statusGet_global (h : s.admits 0x0101 q) (hPay : q.payload = [0, 0, 0, 0]) :
    completesWith (.statusGet q) s (fun t =>
      t.answers 0x0101 q 0 s.statusGlobal ∧ t = { s.reporting t with fresh := s.fresh + 1 }) := by
  obtain ⟨f, hBody, hRuns⟩ := statusBody_global hPay (s.dropSeg 0x0101 q)
  have hManager := State.admits_isManager h
  have hDraws : { s.dropSeg 0x0101 q with fresh := (s.dropSeg 0x0101 q).fresh + 1 }.isManager = true := hManager
  have hFresh : (s.dropSeg 0x0101 q).fresh = s.fresh := (s.dropSeg_reports _ q).fresh
  have hStatus : (s.dropSeg 0x0101 q).statusGlobal = s.statusGlobal :=
    State.dropSeg_same State.statusGlobal (fun _ => rfl) _ _ s
  refine ⟨_, (congrArg Host.Outcome.next (State.serve_go h hBody) :), ?_⟩
  rw [State.atNode_own hManager, hRuns, hStatus]
  refine ⟨State.answer_answers hDraws _ _ _ _, ?_⟩
  have hAnswer := State.answer_reports { s.dropSeg 0x0101 q with fresh := (s.dropSeg 0x0101 q).fresh + 1 } 0x0101 q .done
    s.statusGlobal
  have hFrame : Within [.evt, .host, .ring, .log, .cnt, .out, .fresh] s
      ({ s.dropSeg 0x0101 q with fresh := (s.dropSeg 0x0101 q).fresh + 1 }.answer 0x0101 q .done s.statusGlobal) :=
    (((s.dropSeg_reports _ q).within.mono rfl).trans (within_of_eq_merge rfl)).trans (hAnswer.within.mono rfl)
  have hDrawn := hAnswer.fresh.trans (congrArg (· + 1) hFresh)
  rw [← hDrawn]
  exact hFrame.eq_merge

theorem statusGet_ledger (h : s.admits 0x0101 q) (hPay : q.payload = [0, 1, 0, 0]) :
    completesWith (.statusGet q) s (fun t =>
      (if q.mbx.val < 32 then t.answers 0x0101 q 7 []
       else t.answers 0x0101 q 0 ((List.range 9).flatMap (fun k => leBytes 4 (s.ledgerReg k))))
      ∧ t = s.reporting t) := by
  refine ⟨_, rfl, ?_⟩
  split
  next hBerth => exact State.serve_no_answers h (st := .denied) (statusBody_denied hPay hBerth _)
  next hOperator =>
    obtain ⟨f, hBody, hRuns⟩ := statusBody_ledger hPay hOperator (s.dropSeg 0x0101 q)
    exact State.serve_own h (st := .done)
      (p := fun t => (List.range 9).flatMap (fun k => leBytes 4 (t.ledgerReg k))) hBody (hRuns _)

theorem txnStatusBody_state (h : q.payload = [0, 0, 0, 0]) (s : State) :
    txnStatusBody q s = .go (fun t => t.answer 0x0203 q .done (t.txnState q.mbx.val)) := by
  unfold txnStatusBody
  rw [h]
  rfl

theorem u16_two {a b : Byte} {k : Nat} (h : k < 65536) : u16 ([a, b] ++ leBytes 2 k) 2 = k := by
  change leNat (leBytes 2 k) = k
  rw [leNat_leBytes]
  exact Nat.mod_eq_of_lt h

theorem txnStatusBody_list {k : Nat} (h : q.payload = [1, 0] ++ leBytes 2 k) (hk : k < 65536) (s : State) :
    txnStatusBody q s = .go (fun t => t.answer 0x0203 q .done (t.shedList q.mbx.val k)) := by
  have hForm : (decide (q.payload.length ≠ 4) || !zeroAt q.payload 1 1 || decide (1 < u8 q.payload 0)
      || (u8 q.payload 0 == 0 && k != 0)) = false := by
    rw [h]
    rfl
  have hFirst : ¬ u8 q.payload 0 = 0 := by
    rw [h]
    exact Nat.one_ne_zero
  have hStart : u16 q.payload 2 = k := by
    rw [h, u16_two hk]
  simp only [txnStatusBody, hStart, hForm, Bool.false_eq_true, if_false, if_neg hFirst]

theorem txnStatus_state (h : s.admits 0x0203 q) (hPay : q.payload = [0, 0, 0, 0]) :
    completesWith (.txnStatus q) s (fun t => t.answers 0x0203 q 0 (s.txnState q.mbx.val) ∧ t = s.reporting t) :=
  ⟨_, rfl, State.serve_answer h (st := .done) (p := fun t => t.txnState q.mbx.val) (txnStatusBody_state hPay _) rfl⟩

theorem txnStatus_list {k : Nat} (h : s.admits 0x0203 q) (hPay : q.payload = [1, 0] ++ leBytes 2 k) (hk : k < 65536) :
    completesWith (.txnStatus q) s (fun t => t.answers 0x0203 q 0 (s.shedList q.mbx.val k) ∧ t = s.reporting t) :=
  ⟨_, rfl, State.serve_answer h (st := .done) (p := fun t => t.shedList q.mbx.val k) (txnStatusBody_list hPay hk _) rfl⟩

end

end Sys2Proof.Machine
end

section
/-!
# Line, port and ring requests

The requests of a lane, a port, a PHY and the ring on the manager's own node, and with them the statement on session,
status and ring requests.
-/
namespace Sys2Proof.Machine

-- One theorem after another: the stacks of many that wait at once would exceed the memory of the check.
set_option Elab.async false

section
variable {s : State} {q : Req}

/-! ### Lanes, ports and PHYs (Tables CA-11 and CA-14, R688) -/

/-- The reply of LINE_STATUS_GET on a lane itself. -/
def State.lineStatus (l : Nat) (s : State) : List Byte :=
  leBytes 4 (s.lnStatus l) ++ leBytes 4 (s.lane l).eqd.ticks ++ leBytes 1 (s.lane l).eqd.trim
  ++ leBytes 1 (((s.lane l).profiles.map (fun f => f.index % 8)).dedup.map (fun i => 2 ^ i)).sum
  ++ leBytes 1 (s.lane l).allocs.length ++ [0] ++ leBytes 8 (s.lane l).actFrame
  ++ leBytes 4 (if s.cfg.line.bonded then signedBits 32 (s.lane l).skew else 0)

theorem State.lineStatus_take (l : Nat) (s : State) : (s.lineStatus l).take 4 = leBytes 4 (s.lnStatus l) := by
  unfold State.lineStatus
  simp only [List.append_assoc (leBytes 4 (s.lnStatus l))]
  exact List.take_left' (leBytes_length _ _)

theorem lineStatusBody_lane {l : Lane} (h : q.payload = [BitVec.ofNat 8 l.val, 0, 0, 0]) (s : State) :
    lineStatusBody q s = .go (fun t => t.answer 0x0302 q .done (t.lineStatus l.val)) := by
  unfold lineStatusBody
  rw [h]
  fin_cases l <;> rfl

theorem lineStatusGet_completes {l : Lane} (h : s.admits 0x0302 q) (hPay : q.payload = [BitVec.ofNat 8 l.val, 0, 0, 0]) :
    completesWith (.lineStatusGet q) s (fun t =>
      (∃ p, t.answers 0x0302 q 0 p ∧ p.take 4 = leBytes 4 (s.lnStatus l.val)) ∧ t = s.reporting t) := by
  obtain ⟨hAnswers, hFrame⟩ :=
    State.serve_answer h (st := .done) (p := State.lineStatus l.val) (lineStatusBody_lane hPay _) rfl
  exact ⟨_, rfl, ⟨_, hAnswers, s.lineStatus_take _⟩, hFrame⟩

/-- The reply of PORT_STATUS_GET. -/
def State.portStatus (p : Nat) (s : State) : List Byte :=
  leBytes 1 (b2n (s.port p).link) ++ leBytes 1 (s.port p).fault ++ leBytes 1 ((s.port p).anRate.getD 0xFF)
  ++ leBytes 1 ((List.range 8).map (fun c => flag (decide (s.now < Tab.get 0 (s.port p).paused c)) c)).sum
  ++ leBytes 4 ((s.port p).phyStatus % 65536) ++ leBytes 8 (s.port p).linkFrame

theorem State.portStatus_take (p : Nat) (s : State) :
    (s.portStatus p).take 2 = leBytes 1 (b2n (s.port p).link) ++ leBytes 1 (s.port p).fault := by
  unfold State.portStatus
  simp only [List.append_assoc (leBytes 1 (b2n (s.port p).link) ++ leBytes 1 (s.port p).fault)]
  exact List.take_left' (by simp)

theorem portStatusBody_own {p : PortNo} (h : q.payload = leBytes 4 (objId 0 1 p.val)) {s : State}
    (hScope : s.cfg.foreign q 0 = false) : portStatusBody q s =
      .go (State.atNode 0x0501 q 0 (fun t => t.answer 0x0501 q .done (t.portStatus p.val))) := by
  have hPort : ∀ p : PortNo, (leBytes 4 (objId 0 1 p.val)).length = 4 ∧ objIs 1 (u32 (leBytes 4 (objId 0 1 p.val)) 0) = true
      ∧ objNode (u32 (leBytes 4 (objId 0 1 p.val)) 0) = 0 ∧ objIdx (u32 (leBytes 4 (objId 0 1 p.val)) 0) = p.val := by
    decide
  obtain ⟨hLen, hIs, hNode, hIdx⟩ := hPort p
  unfold portStatusBody
  rw [hScope, h, if_neg Bool.false_ne_true, if_neg (by simp [hLen, hIs]), hNode, hIdx]
  rfl

theorem portStatusGet_completes {p : PortNo} (h : s.admits 0x0501 q) (hPay : q.payload = leBytes 4 (objId 0 1 p.val))
    (hScope : s.cfg.foreign q 0 = false) :
    completesWith (.portStatusGet q) s (fun t =>
      (∃ r, t.answers 0x0501 q 0 r
        ∧ r.take 2 = leBytes 1 (b2n (s.port p.val).link) ++ leBytes 1 (s.port p.val).fault)
      ∧ t = s.reporting t) := by
  have hStill : (s.dropSeg 0x0501 q).cfg.foreign q 0 = false := by
    rw [(s.dropSeg_reports _ q).cfg, hScope]
  obtain ⟨hAnswers, hFrame⟩ :=
    State.serve_own h (st := .done) (p := State.portStatus p.val) (portStatusBody_own hPay hStill) rfl
  exact ⟨_, rfl, ⟨_, hAnswers, s.portStatus_take _⟩, hFrame⟩

/-- What an MDIO access finds once the MDIO master runs: the PHY's free word, in the state that has drawn it. -/
def State.mdioRuns (q : Req) (s : State) : State :=
  if (Config.freeWord s.fresh).getLsbD 16 then
    { s with fresh := s.fresh + 1 }.answer 0x0502 q .done
      (leBytes 2 (if u8 q.payload 1 = 1 then u16 q.payload 6 else (Config.freeWord s.fresh).toNat) ++ [0, 0])
  else { s with fresh := s.fresh + 1 }.reply 0x0502 q .fault

theorem bit_toNat (w : W32) (i : Nat) : bit w.toNat i = w.getLsbD i := by
  rw [bit, BitVec.getLsbD, Nat.testBit_eq_decide_div_mod_eq]
  exact beq_eq_decide _ _

theorem mdioBody_own (hLen : q.payload.length = 8) (hNode : u8 q.payload 0 = 0) (hOp : u8 q.payload 1 ≤ 1)
    (hPhy : u8 q.payload 2 ≤ 31) (hReg : u8 q.payload 3 ≤ 31) (hRead : u8 q.payload 1 = 0 → u16 q.payload 6 = 0) (t : State) :
    ∃ f, mdioBody q t = .go (State.atNode 0x0502 q 0 f)
      ∧ (∀ u : State, u.clocked 26 = false → f u = u.answer 0x0502 q .done (leBytes 2 (u16 q.payload 6) ++ [0, 0]))
      ∧ (∀ u : State, u.clocked 26 = true → f u = u.mdioRuns q) := by
  have hForm : (decide (q.payload.length ≠ 8) || decide (15 < u8 q.payload 0) || decide (1 < u8 q.payload 1)
      || decide (31 < u8 q.payload 2) || decide (31 < u8 q.payload 3)
      || (u8 q.payload 1 == 0 && u16 q.payload 6 != 0)) = false := by
    simp [hLen, hNode, hOp, hPhy, hReg]
    exact hRead
  have hForm' := hForm
  rw [hNode] at hForm'
  refine ⟨_, by simp only [mdioBody, hNode, hForm', Bool.false_eq_true, if_false]; rfl, fun u hGated => ?_, fun u hRuns => ?_⟩
  · simp [hGated]
  · simp only [hRuns, Bool.not_true, Bool.false_eq_true, if_false, State.mdioRuns, bit_toNat]

theorem State.mdioRuns_adds (q : Req) (s : State) :
    Within [.evt, .host, .ring, .log, .cnt, .out, .fresh] s (s.mdioRuns q) ∧ (s.mdioRuns q).fresh = s.fresh + 1 := by
  have hDraw : Within [.evt, .host, .ring, .log, .cnt, .out, .fresh] s { s with fresh := s.fresh + 1 } :=
    within_of_eq_merge rfl
  unfold State.mdioRuns
  split
  · have hAnswer := State.answer_reports { s with fresh := s.fresh + 1 } 0x0502 q .done
      (leBytes 2 (if u8 q.payload 1 = 1 then u16 q.payload 6 else (Config.freeWord s.fresh).toNat) ++ [0, 0])
    exact ⟨hDraw.trans (hAnswer.within.mono rfl), hAnswer.fresh⟩
  · have hAnswer := State.answer_reports { s with fresh := s.fresh + 1 } 0x0502 q .fault []
    exact ⟨hDraw.trans (hAnswer.within.mono rfl), hAnswer.fresh⟩

theorem mdioAccess_completes (h : s.admits 0x0502 q) (hLen : q.payload.length = 8) (hNode : u8 q.payload 0 = 0)
    (hOp : u8 q.payload 1 ≤ 1) (hPhy : u8 q.payload 2 ≤ 31) (hReg : u8 q.payload 3 ≤ 31)
    (hRead : u8 q.payload 1 = 0 → u16 q.payload 6 = 0) : completesWith (.mdioAccess q) s (fun t =>
      (s.clocked 26 = false → t.answers 0x0502 q 0 (leBytes 2 (u16 q.payload 6) ++ [0, 0]) ∧ t = s.reporting t)
      ∧ (s.clocked 26 = true → (Config.freeWord s.fresh).getLsbD 16 = true →
          t.answers 0x0502 q 0 (leBytes 2 (if u8 q.payload 1 = 1 then u16 q.payload 6
            else (Config.freeWord s.fresh).toNat) ++ [0, 0]))
      ∧ (s.clocked 26 = true → (Config.freeWord s.fresh).getLsbD 16 = false → t.answers 0x0502 q 10 [])
      ∧ (s.clocked 26 = true → t = { s.reporting t with fresh := s.fresh + 1 })) := by
  obtain ⟨f, hBody, hGated, hRuns⟩ := mdioBody_own hLen hNode hOp hPhy hReg hRead (s.dropSeg 0x0502 q)
  have hManager := State.admits_isManager h
  have hClock : (s.dropSeg 0x0502 q).clocked 26 = s.clocked 26 :=
    State.dropSeg_same (fun t => t.clocked 26) (fun _ => rfl) _ _ s
  have hFresh : (s.dropSeg 0x0502 q).fresh = s.fresh := (s.dropSeg_reports _ q).fresh
  have hDrop := s.dropSeg_reports 0x0502 q
  refine ⟨_, (congrArg Host.Outcome.next (State.serve_go h hBody) :), ?_⟩
  rw [State.atNode_own hManager]
  generalize s.dropSeg 0x0502 q = u at *
  have hDrawn : { u with fresh := u.fresh + 1 }.isManager = true := hManager
  rw [← hClock, ← hFresh]
  refine ⟨fun hClk => ?_, fun hClk hBit => ?_, fun hClk hBit => ?_, fun hClk => ?_⟩
  · rw [hGated u hClk]
    exact ⟨State.answer_answers hManager _ _ _ _, (hDrop.trans (State.answer_reports _ _ _ _ _)).reporting⟩
  · rw [hRuns u hClk, State.mdioRuns, if_pos hBit]
    exact State.answer_answers hDrawn _ _ _ _
  · rw [hRuns u hClk, State.mdioRuns, hBit, if_neg Bool.false_ne_true]
    exact State.answer_answers hDrawn _ _ _ _
  · obtain ⟨hFrame, hDraws⟩ := u.mdioRuns_adds q
    rw [hRuns u hClk, ← hDraws]
    exact ((hDrop.within.mono rfl).trans hFrame).eq_merge

/-! ### The ring (R422, R460, R682 to R686) -/

theorem ringStatusBody_go (h : q.payload = [0, 0, 0, 0]) (t : State) :
    ∃ f, ringStatusBody q t = .go f
      ∧ ∀ u : State, u.isManager = true → f u = u.answer 0x0400 q .done (u.ringHead ++ u.ringTail 0) := by
  unfold ringStatusBody
  rw [h]
  exact ⟨_, rfl, fun u hu => if_pos (State.self_of_manager hu).symm⟩

theorem ringStatusGet_completes (h : s.admits 0x0400 q) (hPay : q.payload = [0, 0, 0, 0]) :
    completesWith (.ringStatusGet q) s (fun t =>
      t.answers 0x0400 q 0 (s.ringHead ++ s.ringTail 0) ∧ t = s.reporting t) := by
  obtain ⟨f, hBody, hRuns⟩ := ringStatusBody_go hPay (s.dropSeg 0x0400 q)
  exact ⟨_, rfl, State.serve_answer h (st := .done) (p := fun t => t.ringHead ++ t.ringTail 0) hBody
    (hRuns _ (State.admits_isManager h))⟩

theorem ringProtectBody_own {d : Side} {c : Nat} (h : q.payload = [0, BitVec.ofNat 8 d.val, BitVec.ofNat 8 c, 0])
    (hc : c = 0 ∨ c = 3 ∨ c = 7) (t : State) :
    ringProtectBody q t = .go (State.atNode 0x0402 q 0 (fun u => u.protect q d.val c)) := by
  have hSide : ∀ d : Side, (BitVec.ofNat 8 d.val).toNat = d.val ∧ ¬ 1 < (BitVec.ofNat 8 d.val).toNat := by decide
  obtain ⟨hByte, hRange⟩ := hSide d
  unfold ringProtectBody
  rw [h]
  rcases hc with rfl | rfl | rfl <;> simp [u8, zeroAt, bytesAt, hByte] at hRange ⊢ <;> omega

theorem ringProtectCmd_completes {d : Side} {c : Nat} (h : s.admits 0x0402 q)
    (hPay : q.payload = [0, BitVec.ofNat 8 d.val, BitVec.ofNat 8 c, 0]) (hc : c = 0 ∨ c = 3 ∨ c = 7) :
    completesWith (.ringProtectCmd q) s (fun t =>
      (if (c = 0 ∧ (s.side d.val).cmd = 0) ∨ (c = 3 ∧ s.otherRequest d.val = true) then
        t.answers 0x0402 q 3 [] ∧ t = s.reporting t ∧ (t.side d.val).cmd = (s.side d.val).cmd
       else t.answers 0x0402 q 0 [] ∧ (t.side d.val).cmd = c ∧ t.pends 387)
      ∧ t = { s.reporting t with adm := { s.adm with due := t.adm.due } }) := by
  refine ⟨_, (congrArg Host.Outcome.next (State.serve_go h (ringProtectBody_own hPay hc _)) :), ?_⟩
  have hManager := State.admits_isManager h
  have hDrop := s.dropSeg_reports 0x0402 q
  have hSide : (s.dropSeg 0x0402 q).side d.val = s.side d.val :=
    State.dropSeg_same (fun t => t.side d.val) (fun _ => rfl) _ _ s
  have hOther : (s.dropSeg 0x0402 q).otherRequest d.val = s.otherRequest d.val :=
    State.dropSeg_same (fun t => t.otherRequest d.val) (fun _ => rfl) _ _ s
  rw [State.atNode_own hManager, ← hSide, ← hOther]
  generalize s.dropSeg 0x0402 q = u at *
  split
  next hStands =>
    rw [State.protect_stands hStands]
    have hCmd := ((Sends.refl u.ring).answer hManager 0x0402 q (.ignored 6) []).side d.val
    have hReports := hDrop.trans (State.reply_reports u 0x0402 q (.ignored 6))
    exact ⟨⟨State.answer_answers hManager _ _ _ _, hReports.reporting, (congrArg RingSide.cmd hCmd :)⟩,
      (hReports.within.mono rfl).due (congrArg Admission.besideDue hReports.adm)⟩
  next hActs =>
    rw [State.protect_acts hActs]
    have hProtected := u.protected_adds hManager d.val c (C := dueParts)
    have hRaised : Within dueParts u ((u.protected d.val c).raise 387 (sideObj u.self d.val) c) :=
      hProtected.within.trans ((State.raise_reports _ _ _ _).within.mono rfl)
    have hStill : ((u.protected d.val c).raise 387 (sideObj u.self d.val) c).isManager = true :=
      (congrArg Start.manager (hRaised.start rfl)).trans hManager
    have hReports := State.reply_reports ((u.protected d.val c).raise 387 (sideObj u.self d.val) c) 0x0402 q .done
    have hCmd := (((Sends.refl _).raise 387 (sideObj u.self d.val) c).answer hStill 0x0402 q .done []).side d.val
    refine ⟨⟨State.answer_answers hStill _ _ _ _, (congrArg RingSide.cmd hCmd :).trans (u.protected_cmd d.val c),
      State.answer_keepsPending _ _ _ _ _ _ (State.raise_pends _ _ _ _)⟩, Within.due
        (((hDrop.within.mono rfl).trans hRaised).trans (hReports.within.mono rfl)) ?_⟩
    rw [hReports.adm, (State.raise_reports _ _ _ _).adm, State.protected_besideDue, hDrop.adm]

theorem ringRenumberBody_go (h : q.payload = leBytes 4 0x524E554D) (t : State) :
    ∃ f, ringRenumberBody q t = .go f ∧ ∀ u : State, f u = (u.renumbered).reply 0x0403 q .done := by
  unfold ringRenumberBody
  rw [h]
  exact ⟨_, rfl, fun u => rfl⟩

theorem ringRenumber_completes (h : s.admits 0x0403 q) (hPay : q.payload = leBytes 4 0x524E554D) :
    completesWith (.ringRenumber q) s (fun t =>
      t.answers 0x0403 q 0 [] ∧ t.ring.nodes = []
      ∧ t = { s.reporting t with pool := t.pool, adm := { s.adm with due := t.adm.due } }) := by
  obtain ⟨f, hBody, hRuns⟩ := ringRenumberBody_go hPay (s.dropSeg 0x0403 q)
  refine ⟨_, (congrArg Host.Outcome.next (State.serve_go h hBody) :), ?_⟩
  have hDrop := s.dropSeg_reports 0x0403 q
  have hManager := State.admits_isManager h
  rw [hRuns]
  generalize s.dropSeg 0x0403 q = u at *
  obtain ⟨hWithin, hDue⟩ := u.renumbered_within
  have hStill : u.renumbered.isManager = true := (congrArg Start.manager (hWithin.start rfl)).trans hManager
  have hReports := State.reply_reports u.renumbered 0x0403 q .done
  have hNodes := ((Sends.refl u.renumbered.ring).answer hStill 0x0403 q .done []).rest
  refine ⟨State.answer_answers hStill _ _ _ _, (congrArg Ring.nodes hNodes :),
    Within.leave (((hDrop.within.mono rfl).trans hWithin).trans (hReports.within.mono rfl)) ?_⟩
  rw [hReports.adm, hDue, hDrop.adm]

theorem nodeResetBody_go {n : NodeNo} (hn : n.val ≠ 0) (h : q.payload = [BitVec.ofNat 8 n.val, 0, 0, 0]) (t : State) :
    nodeResetBody q t = .go (fun u =>
      if u.isManager && u.joined n.val then (u.await 0x0404 q (.relay n.val)).dcc n.val .nodeReset
      else u.reply 0x0404 q .fault) := by
  unfold nodeResetBody
  rw [h]
  fin_cases n
  · exact absurd rfl hn
  all_goals rfl

theorem nodeReset_completes {n : NodeNo} (h : s.admits 0x0404 q) (hn : n.val ≠ 0)
    (hPay : q.payload = [BitVec.ofNat 8 n.val, 0, 0, 0]) : completesWith (.nodeReset q) s (fun t =>
      (if s.joined n.val then t.awaits 0x0404 q (.relay n.val) else t.answers 0x0404 q 10 []) ∧ t = s.reporting t) := by
  refine ⟨_, (congrArg Host.Outcome.next (State.serve_go h (nodeResetBody_go hn hPay _)) :), ?_⟩
  have hDrop := s.dropSeg_reports 0x0404 q
  have hManager := State.admits_isManager h
  have hJoined : (s.dropSeg 0x0404 q).joined n.val = s.joined n.val :=
    State.dropSeg_same (fun t => t.joined n.val) (fun _ => rfl) _ _ s
  rw [← hJoined]
  generalize s.dropSeg 0x0404 q = u at *
  rw [hManager, Bool.true_and]
  split
  · refine ⟨?_, ((hDrop.trans (State.await_reports u 0x0404 q _)).trans (State.dcc_reports _ _ _)).reporting⟩
    exact congrArg Mbx.waiting (State.box_modBox_same q.mbx.val _ u)
  · exact ⟨State.answer_answers hManager _ _ _ _, (hDrop.trans (State.reply_reports _ _ _ _)).reporting⟩

/-- Settles O52, request by request. -/
theorem sessionAndRingRequests : Obligations.SessionAndRingRequests := by
  unfold Obligations.SessionAndRingRequests
  exact ⟨fun s q => ⟨mbxHello_completes, opAbort_none,
      fun d hAdmits hLen hZero hSome => opAbort_some hAdmits hLen hZero hSome, identGet_completes, statusGet_mailbox,
      statusGet_global, statusGet_ledger, txnStatus_state, fun k => txnStatus_list, fun l => lineStatusGet_completes,
      fun p => portStatusGet_completes, mdioAccess_completes⟩,
    fun s q => ⟨ringStatusGet_completes, fun d c => ringProtectCmd_completes, ringRenumber_completes,
      fun n => nodeReset_completes⟩⟩

end

end Sys2Proof.Machine
end

section
/-!
# Firmware writes, activation and confirmation

The fields of the payloads, what rewriting the boot header touches, and each firmware command on the manager's own node.
-/
namespace Sys2Proof.Machine

-- One theorem after another: the stacks of many that wait at once would exceed the memory of the check.
set_option Elab.async false

/-! ### Fields of a payload -/

/-- A field that stands behind `a` in some bytes. -/
theorem leNat_field {a l : List Byte} (k : Nat) {n o : Nat} (c : List Byte) (hl : l = a ++ (leBytes k n ++ c))
    (ho : a.length = o) (hn : n < 256 ^ k) : leNat ((l.drop o).take k) = n := by
  rw [hl, List.drop_left' ho, List.take_left' (leBytes_length k n), leNat_leBytes, Nat.mod_eq_of_lt hn]

section
variable {p c : List Byte} {size ver : Nat}

theorem writeBegin_fields (h : p = leBytes 4 size ++ leBytes 4 ver ++ leBytes 4 0) (hSize : size < 2 ^ 32)
    (hVer : ver < 2 ^ 32) :
    p.length = 12 ∧ u32 p 0 = size ∧ u32 p 4 = ver ∧ zeroAt p 8 4 = true := by
  rw [List.append_assoc] at h
  refine ⟨by rw [h]; rfl, leNat_field (a := []) 4 _ h rfl hSize, leNat_field 4 _ h rfl hVer, ?_⟩
  rw [h]
  rfl

theorem writeBlock_fields {seq off : Nat} {data : List Byte} (h : p = leBytes 2 seq ++ [0, 0] ++ leBytes 4 off ++ data)
    (hSeq : seq < 65536) (hOff : off < 2 ^ 32) :
    p.length = data.length + 8 ∧ u16 p 0 = seq ∧ u32 p 4 = off ∧ zeroAt p 2 2 = true ∧ p.drop 8 = data := by
  refine ⟨by rw [h]; simp; omega, leNat_field (a := []) 2 ([0, 0] ++ leBytes 4 off ++ data) (by rw [h]; simp) rfl hSeq,
    leNat_field (a := leBytes 2 seq ++ [0, 0]) 4 data (by rw [h]; simp) rfl hOff, ?_, ?_⟩
  · rw [h]
    rfl
  · rw [h]
    exact List.drop_left' (by simp)

theorem writeEnd_fields {seq : Nat} (h : p = leBytes 2 seq ++ [0, 0]) (hSeq : seq < 65536) :
    p.length = 4 ∧ u16 p 0 = seq ∧ zeroAt p 2 2 = true :=
  ⟨by rw [h]; rfl, leNat_field (a := []) 2 [0, 0] h rfl hSeq, by rw [h]; rfl⟩

theorem activate_fields {n : Nat} (h : p = leBytes 4 n) (hn : n ≤ 60) :
    p.length = 4 ∧ u8 p 0 = n ∧ zeroAt p 1 3 = true := by
  have hAll : ∀ k : Fin 61, u8 (leBytes 4 k.val) 0 = k.val ∧ zeroAt (leBytes 4 k.val) 1 3 = true := by decide
  obtain ⟨hByte, hZero⟩ := hAll ⟨n, Nat.lt_succ_of_le hn⟩
  rw [h]
  exact ⟨leBytes_length _ _, hByte, hZero⟩

theorem logbookRead_fields {n st : Nat} (h : p = [0, 0] ++ leBytes 2 n ++ leBytes 4 st) (hn : n ≤ 15) (hst : st < 2 ^ 32) :
    p.length = 8 ∧ u8 p 0 = 0 ∧ zeroAt p 1 1 = true ∧ u16 p 2 = n ∧ u32 p 4 = st := by
  have hRest : p = [0, 0] ++ (leBytes 2 n ++ leBytes 4 st) := by rw [h, List.append_assoc]
  have hLast : p = ([0, 0] ++ leBytes 2 n) ++ (leBytes 4 st ++ []) := by rw [h, List.append_nil]
  refine ⟨by rw [h]; rfl, by rw [h]; rfl, by rw [h]; rfl, leNat_field 2 _ hRest rfl (lt_of_le_of_lt hn (by decide)),
    leNat_field 4 _ hLast rfl hst⟩

end

/-! ### The boot header (R859) -/

variable {C : List Part}

/-- What firmware commands touch. -/
def imageParts : List Part := [.evt, .host, .ring, .log, .cnt, .out, .start]

theorem Start.rewrite_rewrote (k : Start) : k.rewrite.1.rewrote k := by
  unfold Start.rewrite Start.rewrote
  dsimp only
  split <;> rfl

theorem State.header_rewrote (f : Start → Start) (s : State) : (s.header f).start.rewrote (f s.start) := by
  unfold State.header
  dsimp only
  split
  · rfl
  · exact Start.rewrite_rewrote _

theorem State.header_adds (f : Start → Start) (s : State) (hC : Covers [.start, .out] C := by rfl) :
    Adds C s (s.header f) := by
  refine Adds.mono (D := [.start, .out]) ?_ hC
  unfold State.header
  dsimp only
  split <;> exact adds_of_eq rfl rfl

theorem Start.rewrote_of_eq {k j l : Start} (h : l = k) (hk : k.rewrote j) : l.rewrote j := h ▸ hk

theorem State.header_host (f : Start → Start) (s : State) : (s.header f).host = s.host :=
  (State.header_adds (C := [.start, .out]) f s).within.host rfl

theorem State.header_manager (f : Start → Start) (s : State) (hf : ∀ k, (f k).manager = k.manager := by intro k; rfl) :
    (s.header f).isManager = s.isManager := by
  have h := s.header_rewrote f
  unfold Start.rewrote at h
  exact (congrArg Start.manager h :).trans (hf s.start)

theorem State.imageRec_start (b : Bool) (what : Nat) (s : State) : (s.imageRec b what).start = s.start := rfl

theorem State.imageRec_host (b : Bool) (what : Nat) (s : State) : (s.imageRec b what).host = s.host := rfl

theorem State.imageRec_adds (b : Bool) (what : Nat) (s : State) (hC : Covers reportParts C := by rfl) :
    Adds C s (s.imageRec b what) := State.logRec_adds _ _ s hC

theorem Within.image {s t : State} (h : Within imageParts s t) : t = { s.reporting t with start := t.start } := h.eq_merge

theorem Start.putBank_manager (b : Bool) (x : ImgBank) (k : Start) : (k.putBank b x).manager = k.manager := by
  cases b <;> rfl

/-! ### FW_WRITE_BEGIN (R650, R730, R731) -/

/-- A write that begins into the other bank, which is emptied. -/
def State.beginWrite (w : FwWrite) (s : State) : State :=
  (s.header (fun k => { k.putBank k.other {} with write := some w })).imageRec s.start.other 0

/-- Whether a firmware write may not begin. -/
def Start.holdsWrite (k : Start) : Prop := k.write.isSome = true ∨ k.unconfirmed = true ∨ k.fwState ≠ 2

section
variable {q : Req} {size ver : Nat}

theorem fwBeginBody_go (hSize : 4096 ≤ size) (hBank : size ≤ bankSize) (hVer : ver < 2 ^ 32)
    (h : q.payload = leBytes 4 size ++ leBytes 4 ver ++ leBytes 4 0) (t : State) :
    ∃ f, fwBeginBody q t = .go f
      ∧ (∀ u : State, u.start.holdsWrite → f u = u.reply 0x0B00 q (.ignored 5))
      ∧ (∀ u : State, ¬ u.start.holdsWrite → f u = u.defer_ 0x0B00 q (objId u.self 0 0)
          (State.beginWrite { mbx := q.mbx.val, seq := q.seq.toNat, size := size, version := BitVec.ofNat 32 ver })) := by
  have hWord : size < 2 ^ 32 := lt_of_le_of_lt hBank (by decide)
  obtain ⟨hLen, hField, hVersion, hZero⟩ := writeBegin_fields h hWord hVer
  have hWithin : within 4096 bankSize size = true := by simp [within, hSize, hBank]
  refine ⟨_, if_neg (by simp [hLen, hField, hWithin, hZero]), fun u hHolds => ?_, fun u hFree => ?_⟩
  · exact if_pos (by simpa [Start.holdsWrite, or_assoc] using hHolds)
  · simp only [hField, hVersion]
    exact if_neg (by simpa [Start.holdsWrite, or_assoc] using hFree)

theorem State.beginWrite_adds (w : FwWrite) (s : State) : Adds imageParts s (s.beginWrite w) :=
  (State.header_adds _ s).trans (State.imageRec_adds _ _ _)

theorem State.beginWrite_rewrote (w : FwWrite) (s : State) :
    (s.beginWrite w).start.rewrote { s.start.putBank s.start.other {} with write := some w } := s.header_rewrote _

theorem State.beginWrite_host (w : FwWrite) (s : State) : (s.beginWrite w).host = s.host := State.header_host _ s

theorem State.defer_full {s : State} (h : 4 ≤ (s.box q.mbx.val).deferred.length) (opc object : Nat) (act : State → State) :
    s.defer_ opc q object act = s.reply opc q .noSpace := if_pos h

/-- A deferred operation of a mailbox put. -/
def State.addDeferred (q : Req) (opc object : Nat) (s : State) : State :=
  s.modBox q.mbx.val (fun b =>
    { b with deferred := b.deferred ++ [{ seq := q.seq.toNat, tag := q.tag, opc := opc, object := object }] })

theorem State.defer_room {s : State} (h : ¬ 4 ≤ (s.box q.mbx.val).deferred.length) (opc object : Nat)
    (act : State → State) : s.defer_ opc q object act = act ((s.addDeferred q opc object).reply opc q .deferred) :=
  if_neg h

theorem State.addDeferred_reply {s : State} (h : s.isManager = true) (opc object : Nat) :
    ((s.addDeferred q opc object).reply opc q .deferred).answers opc q 6 []
    ∧ (((s.addDeferred q opc object).reply opc q .deferred).box q.mbx.val).deferred = (s.box q.mbx.val).deferred
        ++ [{ seq := q.seq.toNat, tag := q.tag, opc := opc, object := object }]
    ∧ Reports s ((s.addDeferred q opc object).reply opc q .deferred) := by
  have hStill : (s.addDeferred q opc object).isManager = true := h
  refine ⟨State.answer_answers hStill opc q .deferred [], ?_,
    (State.modBox_reports s _ _).trans (State.reply_reports _ _ _ _)⟩
  rw [State.reply, State.answer_deferred hStill, State.addDeferred, State.box_modBox_same]

theorem fwWriteBegin_completes {s : State} (hAdmits : s.admits 0x0B00 q) (hSize : 4096 ≤ size) (hBank : size ≤ bankSize)
    (hVer : ver < 2 ^ 32) (h : q.payload = leBytes 4 size ++ leBytes 4 ver ++ leBytes 4 0) :
    completesWith (.fwWriteBegin q) s (fun t =>
      (if s.start.write.isSome = true ∨ s.start.unconfirmed = true ∨ s.start.fwState ≠ 2 then
        t.answers 0x0B00 q 3 [] ∧ t.start = s.start
       else if 4 ≤ (s.box q.mbx.val).deferred.length then t.answers 0x0B00 q 5 [] ∧ t.start = s.start
       else t.answers 0x0B00 q 6 []
        ∧ (t.box q.mbx.val).deferred = (s.box q.mbx.val).deferred
            ++ [{ seq := q.seq.toNat, tag := q.tag, opc := 0x0B00, object := 0 }]
        ∧ t.start.rewrote { s.start.putBank s.start.other {} with
            write := some { mbx := q.mbx.val, seq := q.seq.toNat, size := size, version := BitVec.ofNat 32 ver } })
      ∧ t = { s.reporting t with start := t.start }) := by
  obtain ⟨f, hBody, hHolds, hBegins⟩ := fwBeginBody_go hSize hBank hVer h (s.dropSeg 0x0B00 q)
  refine ⟨_, (congrArg Host.Outcome.next (State.serve_go hAdmits hBody) :), ?_⟩
  have hManager := State.admits_isManager hAdmits
  have hDrop := s.dropSeg_reports 0x0B00 q
  have hBox := s.dropSeg_box 0x0B00 q q.mbx.val
  rw [← hBox, ← hDrop.start]
  generalize s.dropSeg 0x0B00 q = u at *
  have hFrame {t : State} (k : Reports u t) : t = { s.reporting t with start := t.start } :=
    ((hDrop.trans k).within.mono rfl).image
  split
  next hHeld =>
    rw [hHolds u hHeld]
    have hReports := State.reply_reports u 0x0B00 q (.ignored 5)
    exact ⟨⟨State.answer_answers hManager _ _ _ _, hReports.start⟩, hFrame hReports⟩
  next hFree =>
    rw [hBegins u hFree, State.self_of_manager hManager]
    split
    next hFull =>
      rw [State.defer_full hFull]
      have hReports := State.reply_reports u 0x0B00 q .noSpace
      exact ⟨⟨State.answer_answers hManager _ _ _ _, hReports.start⟩, hFrame hReports⟩
    next hRoom =>
      rw [State.defer_room hRoom]
      obtain ⟨hAnswers, hDeferred, hReports⟩ := State.addDeferred_reply (q := q) hManager 0x0B00 (objId 0 0 0)
      generalize (u.addDeferred q 0x0B00 (objId 0 0 0)).reply 0x0B00 q .deferred = v at *
      have hHost := State.beginWrite_host
        { mbx := q.mbx.val, seq := q.seq.toNat, size := size, version := BitVec.ofNat 32 ver } v
      refine ⟨⟨State.answers_of_steady (steady_of_mbx (congrArg HostIf.mbx hHost) (congrArg HostIf.rest hHost)) hAnswers,
        ?_, ?_⟩, ?_⟩
      · rw [State.box, hHost]
        exact hDeferred
      · rw [← hReports.start]
        exact State.beginWrite_rewrote _ v
      · exact (((hDrop.trans hReports).within.mono rfl).trans (State.beginWrite_adds _ v).within).image

end

end Sys2Proof.Machine
end

section
/-!
# Blocks of an image, its end, and what follows

The rest of a firmware write, activation and confirmation, a worker's image and the logbook, and with them the statement
on the firmware commands.
-/
namespace Sys2Proof.Machine

-- One theorem after another: the stacks of many that wait at once would exceed the memory of the check.
set_option Elab.async false

variable {q : Req}

/-- An answer after changes of the image parts. -/
theorem Within.image_answer {s t : State} (h : Within imageParts s t) (hManager : s.isManager = true)
    (hStill : t.start.manager = s.start.manager) (opc : Nat) (q : Req) (st : Status) :
    (t.reply opc q st).answers opc q st.code [] ∧ (t.reply opc q st).start = t.start
    ∧ t.reply opc q st = { s.reporting (t.reply opc q st) with start := (t.reply opc q st).start } := by
  have hReports := State.reply_reports t opc q st
  exact ⟨State.answer_answers (hStill.trans hManager) _ _ _ _, hReports.start,
    (h.trans (hReports.within.mono rfl)).image⟩

/-! ### FW_WRITE_BLOCK (R732, R733) -/

theorem State.putBlock_adds (w : FwWrite) (data : List Byte) (s : State) : Within imageParts s (s.putBlock w data) :=
  within_of_eq_merge rfl

theorem State.putBlock_start (w : FwWrite) (data : List Byte) (s : State) :
    (s.putBlock w data).start = { s.start with write := some { w with bytes := w.bytes ++ data } } := rfl

/-- What a block does in its state. -/
def State.takeBlock (q : Req) (seq off : Nat) (data : List Byte) (s : State) : State :=
  match s.writeOf q.mbx.val seq with
  | none => s.reply 0x0B01 q (.ignored 6)
  | some w =>
    if off ≠ w.bytes.length || decide (w.size < off + data.length) then s.reply 0x0B01 q .badArg
    else if w.erasing then s.await 0x0B01 q .erase
    else (s.putBlock w data).reply 0x0B01 q .done

section
variable {seq off : Nat} {data : List Byte}

theorem fwBlockBody_go (hSeq : seq < 65536) (hOff : off < 2 ^ 32) (hSome : 1 ≤ data.length) (hMost : data.length ≤ 1000)
    (h : q.payload = leBytes 2 seq ++ [0, 0] ++ leBytes 4 off ++ data) (t : State) :
    fwBlockBody q t = .go (State.takeBlock q seq off data) := by
  obtain ⟨hLen, hSeqField, hOffField, hZero, hData⟩ := writeBlock_fields h hSeq hOff
  have hForm : (decide (q.payload.length < 9) || decide (1008 < q.payload.length) || !zeroAt q.payload 2 2) = false := by
    simp [hLen, hZero]
    omega
  refine (if_neg (by rw [hForm]; exact Bool.false_ne_true)).trans ?_
  rw [hSeqField, hOffField, hData, hLen, Nat.add_sub_cancel]
  rfl

theorem fwWriteBlock_completes {s : State} (hAdmits : s.admits 0x0B01 q) (hSeq : seq < 65536) (hOff : off < 2 ^ 32)
    (hSome : 1 ≤ data.length) (hMost : data.length ≤ 1000)
    (h : q.payload = leBytes 2 seq ++ [0, 0] ++ leBytes 4 off ++ data) : completesWith (.fwWriteBlock q) s (fun t =>
      (s.writeOf q.mbx.val seq = none → t.answers 0x0B01 q 3 [] ∧ t.start = s.start)
      ∧ (∀ w, s.writeOf q.mbx.val seq = some w → off ≠ w.bytes.length ∨ w.size < off + data.length →
          t.answers 0x0B01 q 4 [] ∧ t.start = s.start)
      ∧ (∀ w, s.writeOf q.mbx.val seq = some w → off = w.bytes.length → off + data.length ≤ w.size → w.erasing = true →
          t.awaits 0x0B01 q .erase ∧ t.start = s.start)
      ∧ (∀ w, s.writeOf q.mbx.val seq = some w → off = w.bytes.length → off + data.length ≤ w.size → w.erasing = false →
          t.answers 0x0B01 q 0 [] ∧ t.start = { s.start with write := some { w with bytes := w.bytes ++ data } })
      ∧ t = { s.reporting t with start := t.start }) := by
  have hBody := fwBlockBody_go hSeq hOff hSome hMost h (s.dropSeg 0x0B01 q)
  refine ⟨_, (congrArg Host.Outcome.next (State.serve_go hAdmits hBody) :), ?_⟩
  have hManager := State.admits_isManager hAdmits
  have hDrop := s.dropSeg_reports 0x0B01 q
  have hWrite : (s.dropSeg 0x0B01 q).writeOf q.mbx.val seq = s.writeOf q.mbx.val seq := by
    rw [State.writeOf, State.writeOf, hDrop.start]
  rw [← hWrite, ← hDrop.start]
  have hOuter : Within imageParts s (s.dropSeg 0x0B01 q) := hDrop.within.mono rfl
  have hOne : s.start.manager = (s.dropSeg 0x0B01 q).start.manager := congrArg Start.manager hDrop.start.symm
  generalize s.dropSeg 0x0B01 q = u at *
  have hReply (st : Status) : (u.reply 0x0B01 q st).answers 0x0B01 q st.code [] ∧ (u.reply 0x0B01 q st).start = u.start
      ∧ u.reply 0x0B01 q st = { s.reporting (u.reply 0x0B01 q st) with start := (u.reply 0x0B01 q st).start } :=
    Within.image_answer hOuter (hOne.trans hManager) hOne.symm 0x0B01 q st
  unfold State.takeBlock
  cases hOf : u.writeOf q.mbx.val seq with
  | none =>
    obtain ⟨hAnswers, hStart, hFrame⟩ := hReply (.ignored 6)
    exact ⟨fun _ => ⟨hAnswers, hStart⟩, nofun, nofun, nofun, hFrame⟩
  | some w =>
    dsimp only
    split
    next hOut =>
      obtain ⟨hAnswers, hStart, hFrame⟩ := hReply .badArg
      have hOut' : off ≠ w.bytes.length ∨ w.size < off + data.length := by simpa using hOut
      refine ⟨nofun, fun v _ _ => ⟨hAnswers, hStart⟩, fun v hv hAt hFits _ => ?_, fun v hv hAt hFits _ => ?_, hFrame⟩ <;>
      · obtain rfl : w = v := Option.some.inj hv
        omega
    next hIn =>
      have hIn' : ¬ (off ≠ w.bytes.length ∨ w.size < off + data.length) := by simpa using hIn
      split
      next hErasing =>
        have hReports := State.await_reports u 0x0B01 q .erase
        refine ⟨nofun, fun v hv hOut => ?_, fun v _ _ _ _ => ⟨?_, hReports.start⟩, fun v hv _ _ hErased => ?_,
          (hOuter.trans (hReports.within.mono rfl)).image⟩
        · obtain rfl : w = v := Option.some.inj hv
          exact absurd hOut hIn'
        · exact congrArg Mbx.waiting (State.box_modBox_same q.mbx.val _ u)
        · obtain rfl : w = v := Option.some.inj hv
          exact absurd (hErasing.symm.trans hErased) (Bool.false_ne_true ·.symm)
      next hErased =>
        obtain ⟨hAnswers, hStart, hFrame⟩ := Within.image_answer (hOuter.trans (u.putBlock_adds w data))
          (hOne.trans hManager) (hOne.symm : (u.putBlock w data).start.manager = s.start.manager) 0x0B01 q .done
        refine ⟨nofun, fun v hv hOut => ?_, fun v hv _ _ hErasing => ?_, fun v hv _ _ _ => ?_, hFrame⟩
        · obtain rfl : w = v := Option.some.inj hv
          exact absurd hOut hIn'
        · obtain rfl : w = v := Option.some.inj hv
          exact absurd hErasing hErased
        · obtain rfl : w = v := Option.some.inj hv
          exact ⟨hAnswers, hStart⟩

end

/-! ### FW_ERASE_DONE (R732, R920) -/

/-- The write once the erase has ended. -/
def State.erased (w : FwWrite) (s : State) : State :=
  s.setStart (fun k => { k with write := some { w with erasing := false } })

section
variable {s : State} {w : FwWrite}

theorem exec_fwEraseDone_none (h : s.start.write.all (fun w => !w.erasing || w.cutOff) = true) :
    exec .fwEraseDone s = .next s := by
  change execFwEraseDone s = _
  unfold execFwEraseDone
  cases hWrite : s.start.write with
  | none => rfl
  | some w =>
    rw [hWrite] at h
    exact congrArg Host.Outcome.next (if_pos h)

theorem exec_fwEraseDone_alone (hWrite : s.start.write = some w) (hErasing : w.erasing = true) (hCut : w.cutOff = false)
    (hWaiting : (s.box w.mbx).waiting = none) : exec .fwEraseDone s = .next (s.erased w) := by
  change execFwEraseDone s = _
  have hOn : ¬ (!w.erasing || w.cutOff) = true := by simp [hErasing, hCut]
  simp only [execFwEraseDone, hWrite, if_neg hOn, hWaiting]
  rfl

theorem exec_fwEraseDone_block {x : Waiting} (hWrite : s.start.write = some w) (hErasing : w.erasing = true)
    (hCut : w.cutOff = false) (hWaiting : (s.box w.mbx).waiting = some x) (hOn : x.on = .erase) :
    exec .fwEraseDone s =
      .next (((s.erased w).putBlock { w with erasing := false } (x.req.payload.drop 8)).reply x.opc x.req .done) := by
  change execFwEraseDone s = _
  have hEnds : ¬ (!w.erasing || w.cutOff) = true := by simp [hErasing, hCut]
  simp only [execFwEraseDone, hWrite, if_neg hEnds, hWaiting, if_pos hOn]
  rfl

theorem fwEraseDone_block {x : Waiting} (hWrite : s.start.write = some w) (hErasing : w.erasing = true)
    (hCut : w.cutOff = false) (hWaiting : (s.box w.mbx).waiting = some x) (hOn : x.on = .erase)
    (hManager : s.isManager = true) : completesWith .fwEraseDone s (fun t =>
      t.answers x.opc x.req 0 []
      ∧ t.start = { s.start with write := some { w with erasing := false, bytes := w.bytes ++ x.req.payload.drop 8 } }
      ∧ t = { s.reporting t with start := t.start }) := by
  refine ⟨_, exec_fwEraseDone_block hWrite hErasing hCut hWaiting hOn, ?_⟩
  have hPut : Within imageParts s ((s.erased w).putBlock { w with erasing := false } (x.req.payload.drop 8)) :=
    within_of_eq_merge rfl
  exact Within.image_answer hPut hManager rfl x.opc x.req .done

end

/-! ### FW_WRITE_END and FW_VERIFY_DONE (R734, R755, R860) -/

/-- What the end of a write does in its state. -/
def State.endWriteOf (q : Req) (seq : Nat) (s : State) : State :=
  match s.writeOf q.mbx.val seq with
  | none => s.reply 0x0B02 q (.ignored 6)
  | some w =>
    if w.verifying then s.reply 0x0B02 q (.ignored 6)
    else if w.bytes.length ≠ w.size then s.reply 0x0B02 q .badArg
    else ((s.putLast w).setStart (fun k => { k with write := some { w with verifying := true } })).reply 0x0B02 q .done

theorem fwEndBody_go {seq : Nat} (hSeq : seq < 65536) (h : q.payload = leBytes 2 seq ++ [0, 0]) (t : State) :
    fwEndBody q t = .go (State.endWriteOf q seq) := by
  obtain ⟨hLen, hField, hZero⟩ := writeEnd_fields h hSeq
  refine (if_neg (by simp [hLen, hZero])).trans ?_
  rw [hField]
  rfl

theorem fwWriteEnd_completes {s : State} {seq : Nat} (hAdmits : s.admits 0x0B02 q) (hSeq : seq < 65536)
    (h : q.payload = leBytes 2 seq ++ [0, 0]) : completesWith (.fwWriteEnd q) s (fun t =>
      (s.writeOf q.mbx.val seq = none → t.answers 0x0B02 q 3 [] ∧ t.start = s.start)
      ∧ (∀ w, s.writeOf q.mbx.val seq = some w →
         if w.verifying = true then t.answers 0x0B02 q 3 [] ∧ t.start = s.start
         else if w.bytes.length ≠ w.size then t.answers 0x0B02 q 4 [] ∧ t.start = s.start
         else t.answers 0x0B02 q 0 [] ∧ t.start = { s.start with write := some { w with verifying := true } })
      ∧ t = { s.reporting t with start := t.start }) := by
  have hBody := fwEndBody_go hSeq h (s.dropSeg 0x0B02 q)
  refine ⟨_, (congrArg Host.Outcome.next (State.serve_go hAdmits hBody) :), ?_⟩
  have hManager := State.admits_isManager hAdmits
  have hDrop := s.dropSeg_reports 0x0B02 q
  have hWrite : (s.dropSeg 0x0B02 q).writeOf q.mbx.val seq = s.writeOf q.mbx.val seq := by
    rw [State.writeOf, State.writeOf, hDrop.start]
  rw [← hWrite, ← hDrop.start]
  have hOuter : Within imageParts s (s.dropSeg 0x0B02 q) := hDrop.within.mono rfl
  have hOne : s.start.manager = (s.dropSeg 0x0B02 q).start.manager := congrArg Start.manager hDrop.start.symm
  generalize s.dropSeg 0x0B02 q = u at *
  have hReply (st : Status) : (u.reply 0x0B02 q st).answers 0x0B02 q st.code [] ∧ (u.reply 0x0B02 q st).start = u.start
      ∧ u.reply 0x0B02 q st = { s.reporting (u.reply 0x0B02 q st) with start := (u.reply 0x0B02 q st).start } :=
    Within.image_answer hOuter (hOne.trans hManager) hOne.symm 0x0B02 q st
  unfold State.endWriteOf
  cases hOf : u.writeOf q.mbx.val seq with
  | none =>
    obtain ⟨hAnswers, hStart, hFrame⟩ := hReply (.ignored 6)
    exact ⟨fun _ => ⟨hAnswers, hStart⟩, nofun, hFrame⟩
  | some w =>
    suffices hSome : ∀ t : State, t = (if w.verifying then u.reply 0x0B02 q (.ignored 6)
        else if w.bytes.length ≠ w.size then u.reply 0x0B02 q .badArg
        else ((u.putLast w).setStart (fun k => { k with write := some { w with verifying := true } })).reply 0x0B02 q .done) →
        (if w.verifying = true then t.answers 0x0B02 q 3 [] ∧ t.start = u.start
         else if w.bytes.length ≠ w.size then t.answers 0x0B02 q 4 [] ∧ t.start = u.start
         else t.answers 0x0B02 q 0 [] ∧ t.start = { u.start with write := some { w with verifying := true } })
        ∧ t = { s.reporting t with start := t.start } by
      obtain ⟨hOwn, hFrame⟩ := hSome _ rfl
      exact ⟨nofun, fun v hv => Option.some.inj hv ▸ hOwn, hFrame⟩
    intro t ht
    split at ht
    next hVerifying =>
      obtain ⟨hAnswers, hStart, hFrame⟩ := hReply (.ignored 6)
      rw [if_pos hVerifying, ht]
      exact ⟨⟨hAnswers, hStart⟩, hFrame⟩
    next hIdle =>
      rw [if_neg hIdle]
      split at ht
      next hShort =>
        obtain ⟨hAnswers, hStart, hFrame⟩ := hReply .badArg
        rw [if_pos hShort, ht]
        exact ⟨⟨hAnswers, hStart⟩, hFrame⟩
      next hWhole =>
        have hPut : Within imageParts u
            ((u.putLast w).setStart (fun k => { k with write := some { w with verifying := true } })) := within_of_eq_merge rfl
        obtain ⟨hAnswers, hStart, hFrame⟩ := Within.image_answer (hOuter.trans hPut)
          (hOne.trans hManager) hOne.symm 0x0B02 q .done
        rw [if_neg hWhole, ht]
        exact ⟨⟨hAnswers, hStart⟩, hFrame⟩

/-- The result of a verification (Table CB-12). -/
def State.verdictOf (flashOk : Bool) (image : List Byte) (s : State) : Nat := if flashOk then s.imageResult image else 3

/-- The bank that a verified write leaves. -/
def verifiedBank (ok : Bool) (image : List Byte) : ImgBank := if ok then { state := .valid, image := image, good := true } else {}

/-- The verification put in the boot header and the logbook. -/
def State.verified (ok : Bool) (image : List Byte) (s : State) : State :=
  (s.header (fun k => { k.putBank k.other (verifiedBank ok image) with write := none })).imageRec s.start.other 1

theorem exec_fwVerifyDone_idle {s : State} (ok : Bool) (h : s.start.write.all (fun w => !w.verifying) = true) :
    exec (.fwVerifyDone ok) s = .next s := by
  change execFwVerifyDone ok s = _
  unfold execFwVerifyDone
  cases hWrite : s.start.write with
  | none => rfl
  | some w =>
    rw [hWrite] at h
    exact congrArg Host.Outcome.next (if_pos h)

theorem exec_fwVerifyDone_verifying {s : State} {w : FwWrite} (ok : Bool) (hWrite : s.start.write = some w)
    (hVerifying : w.verifying = true) : exec (.fwVerifyDone ok) s =
      .next ((s.verified (decide (s.verdictOf ok w.bytes = 0)) w.bytes).complete w.mbx w.seq .done
        (leBytes 4 (s.verdictOf ok w.bytes)
          ++ leBytes 4 (if decide (s.verdictOf ok w.bytes = 0) then (imgVersion w.bytes).toNat else 0)
          ++ leBytes 4 w.bytes.length)) := by
  change execFwVerifyDone ok s = _
  have hGo : ¬ (!w.verifying) = true := by simp [hVerifying]
  simp only [execFwVerifyDone, hWrite, if_neg hGo]
  rfl

theorem State.verdictOf_zero (ok : Bool) (image : List Byte) (s : State) :
    s.verdictOf ok image = 0 ↔ ok = true ∧ s.imageResult image = 0 := by
  cases ok <;> simp [State.verdictOf]

theorem fwVerifyDone_completes {s : State} {w : FwWrite} (ok : Bool) (hWrite : s.start.write = some w)
    (hVerifying : w.verifying = true) : completesWith (.fwVerifyDone ok) s (fun t =>
      t.start.rewrote { s.start.putBank s.start.other (if ok = true ∧ s.imageResult w.bytes = 0 then
          { state := .valid, image := w.bytes, good := true } else {}) with write := none }
      ∧ (∀ d ∈ (t.box w.mbx).deferred, d.seq ≠ w.seq) ∧ t = { s.reporting t with start := t.start }) := by
  refine ⟨_, exec_fwVerifyDone_verifying ok hWrite hVerifying, ?_⟩
  have hBank : verifiedBank (decide (s.verdictOf ok w.bytes = 0)) w.bytes =
      if ok = true ∧ s.imageResult w.bytes = 0 then { state := .valid, image := w.bytes, good := true } else {} := by
    simp only [verifiedBank, decide_eq_true_eq, State.verdictOf_zero]
  have hReports := State.complete_reports (s.verified (decide (s.verdictOf ok w.bytes = 0)) w.bytes) w.mbx w.seq .done
    (leBytes 4 (s.verdictOf ok w.bytes)
      ++ leBytes 4 (if decide (s.verdictOf ok w.bytes = 0) then (imgVersion w.bytes).toNat else 0)
      ++ leBytes 4 w.bytes.length)
  have hPut : Adds imageParts s (s.verified (decide (s.verdictOf ok w.bytes = 0)) w.bytes) :=
    (State.header_adds _ s).trans (State.imageRec_adds _ _ _)
  refine ⟨?_, State.complete_deferred _ _ _ _ _, (hPut.within.trans (hReports.within.mono rfl)).image⟩
  rw [hReports.start, ← hBank]
  exact s.header_rewrote _

/-! ### Activation and confirmation (R736, R737, R861) -/

theorem Start.mark_manager (b : Bool) (x : BankState) (k : Start) : (k.mark b x).manager = k.manager := by
  cases b <;> rfl

/-- The other bank on trial from the second boundary on. -/
def State.activated (n : Nat) (s : State) : State :=
  (s.header (fun k => { k.mark s.start.other .trial with
    target := some s.start.other, confirmMin := if n = 0 then 10 else n
    activateAt := some (s.tide.frame + 2) })).imageRec s.start.other 2

theorem fwActivateBody_go {n : Nat} (hn : n ≤ 60) (h : q.payload = leBytes 4 n) (t : State) :
    fwActivateBody q t = .go (fun u =>
      if !(u.start.bank u.start.other).good then u.reply 0x0B03 q (.ignored 6)
      else (u.activated n).reply 0x0B03 q .done) := by
  obtain ⟨hLen, hByte, hZero⟩ := activate_fields h hn
  refine (if_neg (by simp [hLen, hByte, hZero, hn])).trans ?_
  rw [hByte]
  rfl

theorem State.activated_adds (n : Nat) (s : State) : Within imageParts s (s.activated n) :=
  ((State.header_adds (C := imageParts) _ s).trans (State.imageRec_adds _ _ _)).within

theorem fwActivate_completes {s : State} {n : Nat} (hAdmits : s.admits 0x0B03 q) (hn : n ≤ 60)
    (h : q.payload = leBytes 4 n) : completesWith (.fwActivate q) s (fun t =>
      (if (s.start.bank s.start.other).good = true then t.answers 0x0B03 q 0 []
        ∧ t.start.rewrote { s.start.mark s.start.other .trial with
            target := some s.start.other, confirmMin := if n = 0 then 10 else n,
            activateAt := some (s.tide.frame + 2) }
       else t.answers 0x0B03 q 3 [] ∧ t.start = s.start)
      ∧ t = { s.reporting t with start := t.start }) := by
  refine ⟨_, (congrArg Host.Outcome.next (State.serve_go hAdmits (fwActivateBody_go hn h _)) :), ?_⟩
  have hManager := State.admits_isManager hAdmits
  have hDrop := s.dropSeg_reports 0x0B03 q
  rw [← hDrop.start, ← hDrop.tide]
  have hOuter : Within imageParts s (s.dropSeg 0x0B03 q) := hDrop.within.mono rfl
  have hOne : s.start.manager = (s.dropSeg 0x0B03 q).start.manager := congrArg Start.manager hDrop.start.symm
  generalize s.dropSeg 0x0B03 q = u at *
  beta_reduce
  by_cases hGood : (u.start.bank u.start.other).good = true
  · have hBanked : ¬ (!(u.start.bank u.start.other).good) = true := by simp [hGood]
    rw [if_pos hGood, if_neg hBanked]
    have hStill : (u.activated n).start.manager = u.start.manager :=
      State.header_manager _ u (fun k => Start.mark_manager _ _ k)
    obtain ⟨hAnswers, hStart, hFrame⟩ := Within.image_answer (hOuter.trans (u.activated_adds n)) (hOne.trans hManager)
      (hStill.trans hOne.symm) 0x0B03 q .done
    refine ⟨⟨hAnswers, ?_⟩, hFrame⟩
    rw [hStart]
    exact u.header_rewrote _
  · have hBad : (!(u.start.bank u.start.other).good) = true := by simpa using hGood
    rw [if_neg hGood, if_pos hBad]
    obtain ⟨hAnswers, hStart, hFrame⟩ :=
      Within.image_answer hOuter (hOne.trans hManager) hOne.symm 0x0B03 q (.ignored 6)
    exact ⟨⟨hAnswers, hStart⟩, hFrame⟩

/-- The running image confirmed, with its event. -/
def State.confirmed (s : State) : State :=
  ((s.header (fun k => { k.mark k.image .valid with
    startBank := k.image, unconfirmed := false, confirmEnd := none, fallback := false })).imageRec s.start.image 4).raise 102 0 0

theorem fwConfirmBody_go (h : q.payload = []) (t : State) : fwConfirmBody q t = .go (fun u =>
    if !u.start.unconfirmed then u.reply 0x0B04 q (.ignored 6) else u.confirmed.reply 0x0B04 q .done) :=
  if_neg (not_not_intro h)

theorem State.confirmed_adds (s : State) : Within imageParts s s.confirmed :=
  (((State.header_adds (C := imageParts) _ s).trans (State.imageRec_adds _ _ _)).trans (State.raise_adds _ _ _ _)).within

theorem fwConfirm_completes {s : State} (hAdmits : s.admits 0x0B04 q) (h : q.payload = []) :
    completesWith (.fwConfirm q) s (fun t =>
      (if s.start.unconfirmed = true then t.answers 0x0B04 q 0 [] ∧ t.pends 102
        ∧ t.start.rewrote { s.start.mark s.start.image .valid with
            startBank := s.start.image, unconfirmed := false, confirmEnd := none, fallback := false }
       else t.answers 0x0B04 q 3 [] ∧ t.start = s.start)
      ∧ t = { s.reporting t with start := t.start }) := by
  refine ⟨_, (congrArg Host.Outcome.next (State.serve_go hAdmits (fwConfirmBody_go h _)) :), ?_⟩
  have hManager := State.admits_isManager hAdmits
  have hDrop := s.dropSeg_reports 0x0B04 q
  rw [← hDrop.start]
  have hOuter : Within imageParts s (s.dropSeg 0x0B04 q) := hDrop.within.mono rfl
  have hOne : s.start.manager = (s.dropSeg 0x0B04 q).start.manager := congrArg Start.manager hDrop.start.symm
  generalize s.dropSeg 0x0B04 q = u at *
  beta_reduce
  by_cases hTrial : u.start.unconfirmed = true
  · have hOn : ¬ (!u.start.unconfirmed) = true := by simp [hTrial]
    rw [if_pos hTrial, if_neg hOn]
    have hStill : u.confirmed.start.manager = u.start.manager :=
      State.header_manager _ u (fun k => Start.mark_manager _ _ k)
    obtain ⟨hAnswers, hStart, hFrame⟩ := Within.image_answer (hOuter.trans u.confirmed_adds) (hOne.trans hManager)
      (hStill.trans hOne.symm) 0x0B04 q .done
    refine ⟨⟨hAnswers, State.answer_keepsPending _ _ _ _ _ _ (State.raise_pends _ _ _ _), ?_⟩, hFrame⟩
    rw [hStart]
    exact u.header_rewrote _
  · have hSettled : (!u.start.unconfirmed) = true := by simpa using hTrial
    rw [if_neg hTrial, if_pos hSettled]
    obtain ⟨hAnswers, hStart, hFrame⟩ :=
      Within.image_answer hOuter (hOne.trans hManager) hOne.symm 0x0B04 q (.ignored 6)
    exact ⟨⟨hAnswers, hStart⟩, hFrame⟩

/-! ### Workers' images and the logbook (R738, R867, R963) -/

/-- The manager sends the blocks of an image and does nothing else. -/
theorem State.sendBlocks_manager {s : State} (h : s.isManager = true) (d n : Nat) (l : List DccBody) :
    let t := l.foldl (fun t b => if t.isManager then t.dcc n b else t.joinSend d n b) s
    Reports s t ∧ Sends s.ring t.ring := by
  induction l generalizing s with
  | nil => exact ⟨.refl s, .refl _⟩
  | cons b l ih =>
    obtain ⟨hReports, hSends⟩ := ih (s := s.dcc n b) h
    simp only [List.foldl_cons, if_pos h]
    exact ⟨(State.dcc_reports s n b).trans hReports, ((Sends.refl _).dcc n b).trans hSends⟩

theorem exec_workerImageUpdate (n : NodeNo) (s : State) : exec (.workerImageUpdate n) s = .next (
    if !s.isManager || !s.joined n.val || s.served.isEmpty || (s.node n.val).version = imgVersion s.served then s
    else ((s.sendImage 0 n.val).modNode n.val (fun e => { e with version := imgVersion s.served })).raise 108
      (nodeObj n.val) 0) := rfl

theorem workerImageUpdate_sends {s : State} {n : NodeNo} (hManager : s.isManager = true) (hJoined : s.joined n.val = true)
    (hServed : s.served ≠ []) (hOther : (s.node n.val).version ≠ imgVersion s.served) :
    completesWith (.workerImageUpdate n) s (fun t =>
      t.node n.val = { s.node n.val with version := imgVersion s.served } ∧ (∀ j, j ≠ n.val → t.node j = s.node j)
      ∧ t.pends 108 ∧ t = s.reporting t) := by
  refine ⟨_, (exec_workerImageUpdate n s).trans (congrArg Host.Outcome.next
    (if_neg (by simp [hManager, hJoined, hServed, hOther]))), ?_⟩
  obtain ⟨hSent, hSends⟩ := State.sendBlocks_manager hManager 0 n.val s.imgBlocks
  have hNodes : (s.sendImage 0 n.val).ring.nodes = s.ring.nodes := (congrArg Ring.nodes hSends.rest :)
  have hRaised : (((s.sendImage 0 n.val).modNode n.val (fun e => { e with version := imgVersion s.served })).raise 108
      (nodeObj n.val) 0).ring.nodes = Tab.modify {} s.ring.nodes n.val (fun e => { e with version := imgVersion s.served }) := by
    rw [← hNodes]
    exact (congrArg Ring.nodes ((Sends.refl _).raise 108 (nodeObj n.val) 0).rest :)
  refine ⟨?_, fun j hj => ?_, State.raise_pends _ _ _ _, ?_⟩
  · rw [State.node, hRaised, Tab.get_modify_same]
    rfl
  · rw [State.node, hRaised, Tab.get_modify_other _ _ _ hj]
    rfl
  · have hPut : Reports (s.sendImage 0 n.val)
        ((s.sendImage 0 n.val).modNode n.val (fun e => { e with version := imgVersion s.served })) := ⟨_, _, _, _, _, _, rfl⟩
    exact ((hSent.trans hPut).trans (State.raise_reports _ _ _ _)).reporting

theorem exec_workerImageUpdate_idle {s : State} {n : NodeNo} (h : s.isManager = false ∨ s.joined n.val = false
    ∨ s.served = [] ∨ (s.node n.val).version = imgVersion s.served) : exec (.workerImageUpdate n) s = .next s :=
  (exec_workerImageUpdate n s).trans (congrArg Host.Outcome.next (if_pos (by simpa [or_assoc] using h)))

theorem logbookBody_own {c st : Nat} (hOne : 1 ≤ c) (hMost : c ≤ 15) (hst : st < 2 ^ 32)
    (h : q.payload = [0, 0] ++ leBytes 2 c ++ leBytes 4 st) (t : State) :
    logbookBody q t = .go (State.atNode 0x0B10 q 0 (fun u => u.answer 0x0B10 q .done (u.log.reply st c))) := by
  obtain ⟨hLen, hNode, hZero, hCount, hStart⟩ := logbookRead_fields h hMost hst
  have hWithin : within 1 15 c = true := by simp [within, hOne, hMost]
  refine (if_neg (by simp [hLen, hNode, hZero, hCount, hWithin])).trans ?_
  rw [hNode, hCount, hStart]

theorem logbookRead_completes {s : State} {c st : Nat} (hAdmits : s.admits 0x0B10 q) (hOne : 1 ≤ c) (hMost : c ≤ 15)
    (hst : st < 2 ^ 32) (h : q.payload = [0, 0] ++ leBytes 2 c ++ leBytes 4 st) :
    completesWith (.logbookRead q) s (fun t => t.answers 0x0B10 q 0 (s.log.reply st c) ∧ t = s.reporting t) :=
  ⟨_, rfl, State.serve_own hAdmits (st := .done) (p := fun t => t.log.reply st c) (logbookBody_own hOne hMost hst h _) rfl⟩

/-- Settles O55, command by command. -/
theorem firmwareCommands : Obligations.FirmwareCommands := by
  unfold Obligations.FirmwareCommands
  exact ⟨fun s => ⟨fun q size ver => fwWriteBegin_completes, fun q seq off data => fwWriteBlock_completes,
      fun w hWrite hErasing hCut hWaiting => exec_fwEraseDone_alone hWrite hErasing hCut hWaiting,
      fun w x hWrite hErasing hCut hWaiting hOn => fwEraseDone_block hWrite hErasing hCut hWaiting hOn,
      exec_fwEraseDone_none, fun q seq => fwWriteEnd_completes, fun w ok => fwVerifyDone_completes ok,
      exec_fwVerifyDone_idle⟩,
    fun s => ⟨fun q n => fwActivate_completes, fun q => fwConfirm_completes, fun n => workerImageUpdate_sends,
      fun n => exec_workerImageUpdate_idle, fun q c st => logbookRead_completes⟩⟩

end Sys2Proof.Machine
end

section
/-!
# The logbook, the flash, modules and pins

What the peripherals' commands leave. A module read may first let time pass until the bus has been idle; of the craft
block only the mirrors move with it.
-/
namespace Sys2Proof.Machine

-- One theorem after another: the stacks of many that wait at once would exceed the memory of the check.
set_option Elab.async false

/-! ### The craft block over a frame boundary -/

/-- The craft block without the mirrors that a boundary refreshes. -/
def Craft.besideMirrors (c : Craft) : Craft := { c with mirrors := [] }

theorem Craft.eq_of_besideMirrors {a b : Craft} (h : b.besideMirrors = a.besideMirrors) :
    b = { a with mirrors := b.mirrors } := by
  unfold Craft.besideMirrors at h
  rw [Craft.mk.injEq] at h ⊢
  tauto

theorem State.refresh_craft (s : State) : s.refresh.craft.besideMirrors = s.craft.besideMirrors := by
  have hLanes := State.foldl_same State.craft (f := fun (t : State) l =>
    t.modLane l (fun x => { x with mirror := BitVec.ofNat 32 (t.lnStatus l) })) (fun _ _ => rfl) (List.range 4)
  have hSides := State.foldl_same State.craft (f := fun (t : State) d =>
    t.modSide d (fun x => { x with mirror := BitVec.ofNat 32 (t.ringStatus d) })) (fun _ _ => rfl) (List.range 2)
  have hE1s := State.foldl_same State.craft (f := fun (t : State) p =>
    t.modE1 p (fun x => { x with mirror := BitVec.ofNat 32 (t.e1Status p) })) (fun _ _ => rfl) (List.range 8)
  simp only [State.refresh, Craft.besideMirrors, hE1s, hSides, hLanes]

/-- What happens at a boundary before the refresh leaves the craft block. -/
theorem State.boundary_craft (s : State) : s.boundary.craft.besideMirrors = s.craft.besideMirrors := by
  have hIdle : s.idleChange.craft = s.craft := by
    unfold State.idleChange
    split
    · rfl
    next idle _ =>
      exact ((State.answerOn_reports _ _ _ _).craft.trans (State.raise_reports _ _ _ _).craft)
  have hLanes (t : State) : ((List.range 4).foldl State.laneIdleCheck t).craft = t.craft := by
    refine State.foldl_same State.craft (fun u l => ?_) _ t
    unfold State.laneIdleCheck
    split
    · exact (State.raise_reports _ _ _ _).craft
    · rfl
  have hE1s (t : State) : ((List.range 8).foldl State.e1Boundary t).craft = t.craft :=
    State.foldl_same State.craft (fun u p => (u.e1Boundary_within p).craft rfl) _ t
  rw [State.boundary, State.refresh_craft, (State.timingTake_within _).craft rfl, hE1s, hLanes, hIdle]

theorem State.until_craft (x : Nat) (s : State) : (s.until x).craft.besideMirrors = s.craft.besideMirrors := by
  rcases State.until_cases x s with h | ⟨d, h | h⟩ <;> rw [h]
  · rfl
  · rw [State.boundary_craft]
    rfl

theorem State.untilNow_craft (e : Option Nat) (s : State) :
    (s.untilNow e).craft.besideMirrors = s.craft.besideMirrors := by
  unfold State.untilNow
  split
  · exact State.until_craft _ s
  · rfl

/-! ### What has been sent stays sent -/

/-- What has been sent in `s` has been sent in `t`. -/
def KeepsOut (s t : State) : Prop := ∀ e ∈ s.out, e ∈ t.out

theorem KeepsOut.refl (s : State) : KeepsOut s s := fun _ h => h

theorem KeepsOut.trans {s t u : State} (h : KeepsOut s t) (k : KeepsOut t u) : KeepsOut s u := fun e he => k e (h e he)

theorem KeepsOut.foldl {α : Type} {f : State → α → State} (h : ∀ t x, KeepsOut t (f t x)) (l : List α) (s : State) :
    KeepsOut s (l.foldl f s) := by
  induction l generalizing s with
  | nil => exact .refl s
  | cons x l ih => exact (h s x).trans (ih _)

theorem State.emit_keepsOut (e : Emission) (s : State) : KeepsOut s (s.emit e) := fun _ h => List.mem_cons_of_mem _ h

theorem State.raise_keepsOut (src obj detail : Nat) (s : State) : KeepsOut s (s.raise src obj detail) :=
  fun _ h => List.mem_append_right _ h

/-- An event that a step raises pends after all of them. -/
theorem State.foldl_pends {α : Type} {f : State → α → State} {src : Nat} (hKeeps : ∀ t x, KeepsPending t (f t x))
    {l : List α} {x : α} (hx : x ∈ l) (hRaise : ∀ t, (f t x).pends src) (s : State) : (l.foldl f s).pends src := by
  induction l generalizing s with
  | nil => exact absurd hx List.not_mem_nil
  | cons y l ih =>
    rcases List.mem_cons.mp hx with rfl | hx
    · exact KeepsPending.foldl hKeeps l _ src (hRaise s)
    · exact ih hx _

/-! ### Logbook and flash (R884, R885, R919) -/

theorem Logbook.write_shape (flash : Bool) (c : Cipher) (b : List LogRecord) (frame : Nat) (l : Logbook) :
    ∃ r u, (l.write flash c b frame).1 = { l with region := r, unit := u, buffer := [], lastFlush := frame } := by
  unfold Logbook.write
  split <;> exact ⟨_, _, rfl⟩

theorem Logbook.write_buffer (flash : Bool) (c : Cipher) (b : List LogRecord) (frame : Nat) (l : Logbook) :
    (l.write flash c b frame).1.buffer = [] ∧ (l.write flash c b frame).1.next = l.next := by
  obtain ⟨r, u, h⟩ := l.write_shape flash c b frame
  rw [h]
  exact ⟨rfl, rfl⟩

theorem Logbook.add_room {l : Logbook} (h : l.buffer.length < 63) (flash : Bool) (c : Cipher) (rec : Nat → LogRecord)
    (frame : Nat) : (l.add flash c rec frame).1.buffer = l.buffer ++ [rec l.next] := by
  have hRoom : ¬ 64 ≤ (l.buffer ++ [rec l.next]).length := by simp; omega
  simp only [Logbook.add, if_neg hRoom]

theorem Logbook.add_full {l : Logbook} (h : l.buffer.length = 63) (flash : Bool) (c : Cipher) (rec : Nat → LogRecord)
    (frame : Nat) : (l.add flash c rec frame).1.buffer = [] := by
  have hFull : 64 ≤ (l.buffer ++ [rec l.next]).length := by simp [h]
  simp only [Logbook.add, if_pos hFull]
  exact (Logbook.write_buffer _ _ _ _ _).1

theorem Logbook.add_next (flash : Bool) (c : Cipher) (rec : Nat → LogRecord) (frame : Nat) (l : Logbook) :
    (l.add flash c rec frame).1.next = l.next + 1 := by
  simp only [Logbook.add]
  split
  · exact (Logbook.write_buffer _ _ _ _ _).2
  · rfl

theorem exec_logbookFlush (s : State) : exec .logbookFlush s = .next (if s.start.hasFlash then s.flushLog false else s) := rfl

theorem exec_logbookRelay (n : NodeNo) (kind : Nat) (data : List Byte) (s : State) : exec (.logbookRelay n kind data) s =
    .next (if s.isManager && s.joined n.val then s.relayLog n.val kind data else s) := rfl

theorem exec_flashProgram (r : FlashRegion) (a b : Bool) (s : State) : exec (.flashProgram r a b) s = .next (
    if !s.start.hasFlash || a || b then s
    else (s.setStart (Start.spoil r)).raise (if r = .logbook then 106 else 626) 0 0) := rfl

/-! ### I2C masters (R911 to R916) -/

section
variable (m : Nat) (seg : Bool) (s : State)

/-- Master `m` with its segment output turned and a STOP sent. -/
def State.i2cReady : State := (s.i2cSelect m seg).i2cStop m

theorem State.modI2c_same (f : I2c → I2c) : Tab.get {} (s.modI2c m f).craft.i2c m = f (Tab.get {} s.craft.i2c m) :=
  Tab.get_modify_same _ _ _ _

theorem State.modI2c_other {j : Nat} (hj : j ≠ m) (f : I2c → I2c) :
    Tab.get {} (s.modI2c m f).craft.i2c j = Tab.get {} s.craft.i2c j := Tab.get_modify_other _ _ _ hj

theorem State.i2cSelect_cases : (s.i2cSelect m seg = s ∧ (Tab.get {} s.craft.i2c m : I2c).seg = seg)
    ∨ ∃ u, (u = s.untilNow ((Tab.get {} s.craft.i2c m : I2c).stopAt.map (· + 62208)))
      ∧ s.i2cSelect m seg = (u.modI2c m (fun y => { y with seg := seg })).emit (.pin ("I2C_SEG_" ++ toString m) seg) := by
  by_cases h : (Tab.get {} s.craft.i2c m : I2c).seg = seg
  · exact .inl ⟨if_pos h, h⟩
  · exact .inr ⟨_, rfl, if_neg h⟩

/-- The craft block of a master that is ready: but for its masters and mirrors as before. -/
theorem State.i2cReady_craft :
    { (s.i2cReady m seg).craft.besideMirrors with i2c := [] } = { s.craft.besideMirrors with i2c := [] } := by
  rcases s.i2cSelect_cases m seg with ⟨h, _⟩ | ⟨u, hu, h⟩ <;> rw [State.i2cReady, h]
  · rfl
  · have hWait := s.untilNow_craft ((Tab.get {} s.craft.i2c m : I2c).stopAt.map (· + 62208))
    rw [← hu] at hWait
    exact congrArg (fun c : Craft => { c with i2c := [] }) hWait

theorem State.i2cReady_seg : (Tab.get {} (s.i2cReady m seg).craft.i2c m : I2c).seg = seg := by
  rcases s.i2cSelect_cases m seg with ⟨h, hSeg⟩ | ⟨u, _, h⟩ <;> rw [State.i2cReady, h, State.i2cStop, State.modI2c_same]
  · exact hSeg
  · exact congrArg I2c.seg (State.modI2c_same m u _)

theorem State.i2cReady_stopAt : (Tab.get {} (s.i2cReady m seg).craft.i2c m : I2c).stopAt = some (s.i2cReady m seg).now :=
  congrArg I2c.stopAt (State.modI2c_same m (s.i2cSelect m seg) _)

theorem State.i2cReady_out (h : (Tab.get {} s.craft.i2c m : I2c).seg ≠ seg) :
    .pin ("I2C_SEG_" ++ toString m) seg ∈ (s.i2cReady m seg).out := by
  rcases s.i2cSelect_cases m seg with ⟨_, hSeg⟩ | ⟨u, _, hTurn⟩
  · exact absurd hSeg h
  · rw [State.i2cReady, hTurn]
    exact List.mem_cons_self

theorem State.i2cReady_adds : Adds passParts s (s.i2cReady m seg) := by
  have hStop (t : State) : Adds passParts t (t.i2cStop m) := adds_of_eq rfl rfl
  refine Adds.trans ?_ (hStop _)
  rcases s.i2cSelect_cases m seg with ⟨h, _⟩ | ⟨u, hu, h⟩ <;> rw [h]
  · exact .refl _ s
  · have hTurn : Adds passParts u ((u.modI2c m (fun y => { y with seg := seg })).emit (.pin ("I2C_SEG_" ++ toString m) seg)) :=
      adds_of_eq rfl rfl
    exact (hu ▸ State.untilNow_adds _ s).trans hTurn

end

end Sys2Proof.Machine
end

section
/-!
# Module reads, pins, and the peripherals' statement

A module read keeps the page read and tells what has changed in it; with that the statement on the peripherals is put
together.
-/
namespace Sys2Proof.Machine

-- One theorem after another: the stacks of many that wait at once would exceed the memory of the check.
set_option Elab.async false

variable {C : List Part}

/-! ### Logbook and flash -/

/-- The logbook put, with what the flash is given. -/
def State.putLog (x : Logbook × List Emission) (s : State) : State := { s with log := x.1, out := x.2 ++ s.out }

/-- The retained records as they are written while the bus stands. -/
def Logbook.retained (l : Logbook) : List LogRecord := l.buffer.map (fun r : LogRecord => { r with vin := false })

theorem State.flushLog_eq (s : State) :
    s.flushLog false = s.putLog (s.log.write s.start.hasFlash s.cipher s.log.retained s.tide.frame) := rfl

theorem State.flushLog_completes {s : State} (h : s.start.hasFlash = true) : completesWith .logbookFlush s (fun t =>
    t.log.buffer = [] ∧ t.log.next = s.log.next ∧ t = { s with log := t.log, out := t.out }) := by
  refine ⟨_, (exec_logbookFlush s).trans (congrArg Host.Outcome.next (if_pos h)), ?_⟩
  rw [State.flushLog_eq]
  obtain ⟨hBuffer, hNext⟩ := Logbook.write_buffer s.start.hasFlash s.cipher s.log.retained s.tide.frame s.log
  generalize s.log.write s.start.hasFlash s.cipher s.log.retained s.tide.frame = r at *
  exact ⟨hBuffer, hNext, rfl⟩

/-- A worker's record as the manager numbers it. -/
def State.relayed (n kind : Nat) (data : List Byte) (s : State) (k : Nat) : LogRecord :=
  { no := k, tide := s.tide.word, kind := kind, node := n, vin := false
    unanch := decide (s.tide.state = .unanchored), fw := (s.node n).version, data := data.take 40 }

theorem State.relayLog_eq (n kind : Nat) (data : List Byte) (s : State) : s.relayLog n kind data =
    s.putLog (s.log.add s.start.hasFlash s.cipher (s.relayed n kind data) s.tide.frame) := rfl

theorem State.relayLog_completes {s : State} {n : NodeNo} (kind : Nat) (data : List Byte) (hManager : s.isManager = true)
    (hJoined : s.joined n.val = true) : completesWith (.logbookRelay n kind data) s (fun t =>
      let r : LogRecord :=
        { no := s.log.next, tide := s.tide.word, kind := kind, node := n.val, vin := false
          unanch := decide (s.tide.state = .unanchored), fw := (s.node n.val).version, data := data.take 40 }
      t.log.next = s.log.next + 1
      ∧ (s.log.buffer.length < 63 → t.log.buffer = s.log.buffer ++ [r])
      ∧ (s.log.buffer.length = 63 → s.start.hasFlash = true → t.log.buffer = [])
      ∧ t = { s with log := t.log, out := t.out }) := by
  refine ⟨_, (exec_logbookRelay n kind data s).trans (congrArg Host.Outcome.next (if_pos (by simp [hManager, hJoined]))), ?_⟩
  rw [State.relayLog_eq]
  change _ ∧ (_ → _ = s.log.buffer ++ [s.relayed n.val kind data s.log.next]) ∧ _ ∧ _
  have hNext := s.log.add_next s.start.hasFlash s.cipher (s.relayed n.val kind data) s.tide.frame
  have hRoom (h : s.log.buffer.length < 63) :=
    Logbook.add_room h s.start.hasFlash s.cipher (s.relayed n.val kind data) s.tide.frame
  have hFull (h : s.log.buffer.length = 63) :=
    Logbook.add_full h s.start.hasFlash s.cipher (s.relayed n.val kind data) s.tide.frame
  generalize s.log.add s.start.hasFlash s.cipher (s.relayed n.val kind data) s.tide.frame = x at *
  exact ⟨hNext, hRoom, fun h _ => hFull h, rfl⟩

theorem exec_logbookRelay_idle {s : State} {n : NodeNo} (kind : Nat) (data : List Byte)
    (h : s.isManager = false ∨ s.joined n.val = false) : exec (.logbookRelay n kind data) s = .next s :=
  (exec_logbookRelay n kind data s).trans (congrArg Host.Outcome.next (if_neg (by rcases h with h | h <;> simp [h])))

theorem flashProgram_completes (s : State) (r : FlashRegion) (a b : Bool) : completesWith (.flashProgram r a b) s (fun t =>
    (if s.start.hasFlash = false ∨ a = true ∨ b = true then t = s
     else t.pends (if r = .logbook then 106 else 626)
       ∧ t = { s.reporting t with start := Start.spoil r s.start })) := by
  by_cases h : s.start.hasFlash = false ∨ a = true ∨ b = true
  · exact ⟨_, (exec_flashProgram r a b s).trans (congrArg Host.Outcome.next (if_pos (by simpa [or_assoc] using h))), (if_pos h).mpr rfl⟩
  · refine ⟨_, (exec_flashProgram r a b s).trans (congrArg Host.Outcome.next (if_neg (by simpa [or_assoc] using h))), ?_⟩
    beta_reduce
    rw [if_neg h]
    exact ⟨State.raise_pends _ _ _ _, rfl⟩

/-! ### Module reads (R910 to R916) -/

/-- A lane's module put. -/
def State.putDdm (l : Nat) (x : Ddm) (s : State) : State := s.setCraft (fun c => { c with ddm := Tab.set {} c.ddm l x })

/-- A module after a read that it has answered with page A0h or A2h. -/
def Ddm.answered (p : Bool) (b : List Byte) (d : Ddm) : Ddm :=
  { d with fails := 0, silent := false, a0 := if p then d.a0 else b, a2 := if p then b else d.a2
           due := d.due && !p, dueA0 := d.silent || (d.dueA0 && p) }

/-- A module after a read that it has not answered. -/
def Ddm.unanswered (d : Ddm) : Ddm := { d with fails := min 3 (d.fails + 1), silent := d.silent || decide (2 ≤ d.fails) }

/-- What a page that has come tells (R914, R915). -/
def State.tellPage (l : Nat) (p : Bool) (d : Ddm) (b : List Byte) (s : State) : State :=
  let s2 := if d.silent then s.lnEvent l 9 1 else s
  if p then s2.ddmFlags l d.a2 b else s2

/-- What a read without an answer tells. -/
def State.tellSilence (l : Nat) (d : Ddm) (s : State) : State :=
  if 2 ≤ d.fails && !d.silent then s.lnEvent l 9 0 else s

section
variable {s : State} {l : Lane}

theorem exec_ddmRead_off (p : Bool) (b : Option (List Byte)) (h : s.clocked (24 + l.val / 2) = false ∨ s.clk.rootHold = true) :
    exec (.ddmRead l p b) s = .next s := congrArg Host.Outcome.next (if_pos (by simpa using h))

variable (hClock : s.clocked (24 + l.val / 2) = true) (hHold : s.clk.rootHold = false)
include hClock hHold

theorem exec_ddmRead_some (p : Bool) (b : List Byte) : exec (.ddmRead l p (some b)) s =
    (let u := s.i2cReady (l.val / 2) (l.val % 2 == 1)
     let d : Ddm := Tab.get {} u.craft.ddm l.val
     .next ((u.putDdm l.val (d.answered p b)).tellPage l.val p d b)) :=
  congrArg Host.Outcome.next (if_neg (by simp [hClock, hHold]))

theorem exec_ddmRead_none (p : Bool) : exec (.ddmRead l p none) s =
    (let u := s.i2cReady (l.val / 2) (l.val % 2 == 1)
     let d : Ddm := Tab.get {} u.craft.ddm l.val
     .next ((u.putDdm l.val d.unanswered).tellSilence l.val d)) :=
  congrArg Host.Outcome.next (if_neg (by simp [hClock, hHold]))

end

section
variable (l : Nat) (p : Bool) (d : Ddm) (b : List Byte) (s : State)

theorem State.ddmFlags_keeps (old new : List Byte) :
    Reports s (s.ddmFlags l old new) ∧ KeepsPending s (s.ddmFlags l old new) ∧ KeepsOut s (s.ddmFlags l old new) := by
  have hStep (c : Prop) [Decidable c] (t : State) (k x : Nat) :
      Reports t (if c then t.lnEvent l k x else t) ∧ KeepsPending t (if c then t.lnEvent l k x else t)
      ∧ KeepsOut t (if c then t.lnEvent l k x else t) := by
    split
    · exact ⟨State.raise_reports _ _ _ _, State.raise_keepsPending _ _ _ _, State.raise_keepsOut _ _ _ _⟩
    · exact ⟨.refl t, .refl t, .refl t⟩
  unfold State.ddmFlags
  exact ⟨Reports.foldl _ (fun t i => Reports.foldl _ (fun u k => (hStep _ u _ _).1) _ t) _ s,
    KeepsPending.foldl (fun t i => KeepsPending.foldl (fun u k => (hStep _ u _ _).2.1) _ t) _ s,
    KeepsOut.foldl (fun t i => KeepsOut.foldl (fun u k => (hStep _ u _ _).2.2) _ t) _ s⟩

/-- An alarm flag of byte 112 that goes from 0 to 1 is told. -/
theorem State.ddmFlags_pends {old new : List Byte} {k : Nat} (hk : k < 8) (hNew : (new.getD 16 0).getLsbD k = true)
    (hOld : (old.getD 16 0).getLsbD k = false) : (s.ddmFlags l old new).pends (128 + 16 * l + 7) := by
  have hKeeps (c : Prop) [Decidable c] (t : State) (k x : Nat) : KeepsPending t (if c then t.lnEvent l k x else t) :=
    .ite (State.raise_keepsPending _ _ _ _) (.refl t)
  unfold State.ddmFlags
  refine State.foldl_pends (x := 16) (fun t i => KeepsPending.foldl (fun u k => hKeeps _ u _ _) _ t) (by simp) (fun t => ?_) s
  refine State.foldl_pends (x := k) (fun u k => hKeeps _ u _ _) (List.mem_range.mpr hk) (fun u => ?_) t
  rw [if_pos (by rw [hNew, hOld]; rfl)]
  exact State.raise_pends _ _ _ _

theorem State.tellPage_keeps : Reports s (s.tellPage l p d b) ∧ KeepsOut s (s.tellPage l p d b) := by
  have hAgain : Reports s (if d.silent then s.lnEvent l 9 1 else s) ∧ KeepsOut s (if d.silent then s.lnEvent l 9 1 else s) := by
    split
    · exact ⟨State.raise_reports _ _ _ _, State.raise_keepsOut _ _ _ _⟩
    · exact ⟨.refl s, .refl s⟩
  unfold State.tellPage
  dsimp only
  split
  · obtain ⟨hReports, _, hOut⟩ := State.ddmFlags_keeps l (if d.silent then s.lnEvent l 9 1 else s) d.a2 b
    exact ⟨hAgain.1.trans hReports, hAgain.2.trans hOut⟩
  · exact hAgain

theorem State.tellPage_again (h : d.silent = true) : (s.tellPage l p d b).pends (128 + 16 * l + 9) := by
  have hAgain : (s.lnEvent l 9 1).pends (128 + 16 * l + 9) := State.raise_pends _ _ _ _
  unfold State.tellPage
  rw [if_pos h]
  dsimp only
  split
  · exact (State.ddmFlags_keeps l _ _ _).2.1 _ hAgain
  · exact hAgain

theorem State.tellPage_flag {k : Nat} (hp : p = true) (hk : k < 8) (hNew : (b.getD 16 0).getLsbD k = true)
    (hOld : (d.a2.getD 16 0).getLsbD k = false) : (s.tellPage l p d b).pends (128 + 16 * l + 7) := by
  unfold State.tellPage
  rw [if_pos hp]
  exact State.ddmFlags_pends _ _ hk hNew hOld

theorem State.tellSilence_keeps : Reports s (s.tellSilence l d) ∧ KeepsOut s (s.tellSilence l d) := by
  unfold State.tellSilence
  split
  · exact ⟨State.raise_reports _ _ _ _, State.raise_keepsOut _ _ _ _⟩
  · exact ⟨.refl s, .refl s⟩

theorem State.tellSilence_pends (hFails : 2 ≤ d.fails) (hHeard : d.silent = false) :
    (s.tellSilence l d).pends (128 + 16 * l + 9) := by
  unfold State.tellSilence
  rw [if_pos (by simp [hFails, hHeard])]
  exact State.raise_pends _ _ _ _

end

/-- What a read leaves whose module's state becomes `x`, told by what only reports. -/
theorem State.ddmRead_leaves {s t : State} (m : Nat) (seg : Bool) (l : Nat) (x : Ddm)
    (hTold : Reports ((s.i2cReady m seg).putDdm l x) t) (hOut : KeepsOut ((s.i2cReady m seg).putDdm l x) t) :
    Tab.get {} t.craft.ddm l = x
    ∧ (∀ j, j ≠ l → (Tab.get {} t.craft.ddm j : Ddm) = Tab.get {} s.craft.ddm j)
    ∧ (Tab.get {} t.craft.i2c m : I2c).seg = seg
    ∧ (Tab.get {} t.craft.i2c m : I2c).stopAt = some t.now
    ∧ ((Tab.get {} s.craft.i2c m : I2c).seg ≠ seg → .pin ("I2C_SEG_" ++ toString m) seg ∈ t.out)
    ∧ t.craft = { s.craft with ddm := t.craft.ddm, i2c := t.craft.i2c, mirrors := t.craft.mirrors }
    ∧ t = s.passing t := by
  have hCraft := s.i2cReady_craft m seg
  have hDdm : (s.i2cReady m seg).craft.ddm = s.craft.ddm := (congrArg Craft.ddm hCraft :)
  have hPut : Within passParts (s.i2cReady m seg) ((s.i2cReady m seg).putDdm l x) := within_of_eq_merge rfl
  have hShape : { t.craft with ddm := [], i2c := [], mirrors := [] } = { s.craft with ddm := [], i2c := [], mirrors := [] } := by
    rw [hTold.craft]
    exact (congrArg (fun c : Craft => { c with ddm := [] }) hCraft :)
  refine ⟨?_, fun j hj => ?_, ?_, ?_, fun hSeg => hOut _ (s.i2cReady_out m seg hSeg), ?_,
    (((s.i2cReady_adds m seg).within.trans hPut).trans (hTold.within.mono rfl)).passing⟩
  · rw [hTold.craft]
    exact Tab.get_set_same _ _ _ _
  · rw [hTold.craft, ← hDdm]
    exact Tab.get_set_other _ _ _ hj
  · rw [hTold.craft]
    exact s.i2cReady_seg m seg
  · rw [hTold.craft, hTold.now]
    exact s.i2cReady_stopAt m seg
  · rw [Craft.mk.injEq] at hShape ⊢
    tauto

theorem State.i2cReady_ddm (m : Nat) (seg : Bool) (s : State) : (s.i2cReady m seg).craft.ddm = s.craft.ddm :=
  (congrArg Craft.ddm (s.i2cReady_craft m seg) :)

theorem ddmRead_some {s : State} {l : Lane} (p : Bool) (b : List Byte) (hClock : s.clocked (24 + l.val / 2) = true)
    (hHold : s.clk.rootHold = false) : completesWith (.ddmRead l p (some b)) s (fun t =>
      let d : Ddm := Tab.get {} s.craft.ddm l.val
      Tab.get {} t.craft.ddm l.val
        = { d with fails := 0, silent := false, a0 := if p then d.a0 else b, a2 := if p then b else d.a2
                   due := d.due && !p, dueA0 := d.silent || (d.dueA0 && p) }
      ∧ (d.silent = true → t.pends (128 + 16 * l.val + 9))
      ∧ (p = true → ∀ k, k < 8 → (b.getD 16 0).getLsbD k = true → (d.a2.getD 16 0).getLsbD k = false →
          t.pends (128 + 16 * l.val + 7))
      ∧ (∀ j, j ≠ l.val → Tab.get {} t.craft.ddm j = Tab.get {} s.craft.ddm j)
      ∧ (Tab.get {} t.craft.i2c (l.val / 2) : I2c).seg = (l.val % 2 == 1)
      ∧ (Tab.get {} t.craft.i2c (l.val / 2) : I2c).stopAt = some t.now
      ∧ ((Tab.get {} s.craft.i2c (l.val / 2) : I2c).seg ≠ (l.val % 2 == 1) →
          .pin ("I2C_SEG_" ++ toString (l.val / 2)) (l.val % 2 == 1) ∈ t.out)
      ∧ t.craft = { s.craft with ddm := t.craft.ddm, i2c := t.craft.i2c, mirrors := t.craft.mirrors }
      ∧ t = s.passing t) := by
  refine ⟨_, exec_ddmRead_some hClock hHold p b, ?_⟩
  rw [State.i2cReady_ddm]
  dsimp only
  generalize (Tab.get {} s.craft.ddm l.val : Ddm) = d
  obtain ⟨hReports, hOut⟩ := State.tellPage_keeps l.val p d b
    ((s.i2cReady (l.val / 2) (l.val % 2 == 1)).putDdm l.val (d.answered p b))
  obtain ⟨hPut, hOther, hSeg, hStop, hPin, hCraft, hPasses⟩ :=
    State.ddmRead_leaves (l.val / 2) (l.val % 2 == 1) l.val (d.answered p b) hReports hOut
  exact ⟨hPut, State.tellPage_again _ p d b _, fun hp k hk hNew hOld => State.tellPage_flag _ p d b _ hp hk hNew hOld,
    hOther, hSeg, hStop, hPin, hCraft, hPasses⟩

theorem ddmRead_none {s : State} {l : Lane} (p : Bool) (hClock : s.clocked (24 + l.val / 2) = true)
    (hHold : s.clk.rootHold = false) : completesWith (.ddmRead l p none) s (fun t =>
      let d : Ddm := Tab.get {} s.craft.ddm l.val
      Tab.get {} t.craft.ddm l.val = { d with fails := min 3 (d.fails + 1), silent := d.silent || decide (2 ≤ d.fails) }
      ∧ (2 ≤ d.fails → d.silent = false → t.pends (128 + 16 * l.val + 9))
      ∧ (∀ j, j ≠ l.val → Tab.get {} t.craft.ddm j = Tab.get {} s.craft.ddm j)
      ∧ (Tab.get {} t.craft.i2c (l.val / 2) : I2c).seg = (l.val % 2 == 1)
      ∧ (Tab.get {} t.craft.i2c (l.val / 2) : I2c).stopAt = some t.now
      ∧ ((Tab.get {} s.craft.i2c (l.val / 2) : I2c).seg ≠ (l.val % 2 == 1) →
          .pin ("I2C_SEG_" ++ toString (l.val / 2)) (l.val % 2 == 1) ∈ t.out)
      ∧ t.craft = { s.craft with ddm := t.craft.ddm, i2c := t.craft.i2c, mirrors := t.craft.mirrors }
      ∧ t = s.passing t) := by
  refine ⟨_, exec_ddmRead_none hClock hHold p, ?_⟩
  rw [State.i2cReady_ddm]
  dsimp only
  generalize (Tab.get {} s.craft.ddm l.val : Ddm) = d
  obtain ⟨hReports, hOut⟩ := State.tellSilence_keeps l.val d
    ((s.i2cReady (l.val / 2) (l.val % 2 == 1)).putDdm l.val d.unanswered)
  obtain ⟨hPut, hOther, hSeg, hStop, hPin, hCraft, hPasses⟩ :=
    State.ddmRead_leaves (l.val / 2) (l.val % 2 == 1) l.val d.unanswered hReports hOut
  exact ⟨hPut, State.tellSilence_pends _ d _, hOther, hSeg, hStop, hPin, hCraft, hPasses⟩

/-! ### Bus faults and pins (R911 to R913, R926 to R929) -/

/-- A master after nine clocks and a STOP. -/
def State.i2cClocks (m : Nat) (f : I2c → I2c) (s : State) : State := ((s.modI2c m f).emit (.i2c m 9)).i2cStop m

section
variable (m : Nat) (f : I2c → I2c) (s : State)

theorem State.i2cClocks_same :
    Tab.get {} (s.i2cClocks m f).craft.i2c m = { f (Tab.get {} s.craft.i2c m) with stopAt := some s.now } := by
  rw [State.i2cClocks, State.i2cStop, State.modI2c_same]
  exact congrArg (fun x : I2c => { x with stopAt := some s.now }) (State.modI2c_same m s f)

theorem State.i2cClocks_other {j : Nat} (hj : j ≠ m) :
    (Tab.get {} (s.i2cClocks m f).craft.i2c j : I2c) = Tab.get {} s.craft.i2c j := by
  rw [State.i2cClocks, State.i2cStop, State.modI2c_other _ _ hj]
  exact State.modI2c_other m s hj f

theorem State.i2cClocks_eq : s.i2cClocks m f =
    { s with craft := { s.craft with i2c := (s.i2cClocks m f).craft.i2c }, out := .i2c m 9 :: s.out } := rfl

end

theorem exec_cfI2cStuck (m : Fin 2) (low : Bool) (s : State) : exec (.cfI2cStuck m low) s = .next (
    if !s.clocked (24 + m.val) then s
    else if low then (s.i2cClocks m.val (fun x => { x with stuck := low })).raise 625 0 m.val
    else s.i2cClocks m.val (fun x => { x with stuck := low })) := rfl

theorem exec_i2cStretchTimeout (m : Fin 2) (s : State) : exec (.i2cStretchTimeout m) s = .next (
    if !s.clocked (24 + m.val) then s else s.i2cClocks m.val (fun x => { x with timeouts := x.timeouts + 1 })) := rfl

theorem cfI2cStuck_completes {s : State} {m : Fin 2} (low : Bool) (h : s.clocked (24 + m.val) = true) :
    completesWith (.cfI2cStuck m low) s (fun t =>
      Tab.get {} t.craft.i2c m.val = { (Tab.get {} s.craft.i2c m.val : I2c) with stuck := low, stopAt := some s.now }
      ∧ .i2c m.val 9 ∈ t.out ∧ (low = true → t.pends 625)
      ∧ (∀ j, j ≠ m.val → Tab.get {} t.craft.i2c j = Tab.get {} s.craft.i2c j)
      ∧ t = { s.reporting t with craft := { s.craft with i2c := t.craft.i2c } }) := by
  refine ⟨_, (exec_cfI2cStuck m low s).trans (congrArg Host.Outcome.next (if_neg (by simp [h]))), ?_⟩
  have hSame := State.i2cClocks_same m.val (fun x => { x with stuck := low }) s
  have hOther {j : Nat} := State.i2cClocks_other m.val (fun x => { x with stuck := low }) s (j := j)
  have hOut : .i2c m.val 9 ∈ (s.i2cClocks m.val (fun x => { x with stuck := low })).out := List.mem_cons_self
  split
  · exact ⟨hSame, State.raise_keepsOut _ _ _ _ _ hOut, fun _ => State.raise_pends _ _ _ _, fun j => hOther, rfl⟩
  next hFree => exact ⟨hSame, hOut, fun hLow => absurd hLow hFree, fun j => hOther, rfl⟩

theorem i2cStretchTimeout_completes {s : State} {m : Fin 2} (h : s.clocked (24 + m.val) = true) :
    completesWith (.i2cStretchTimeout m) s (fun t =>
      (let x : I2c := Tab.get {} s.craft.i2c m.val
       Tab.get {} t.craft.i2c m.val = { x with timeouts := x.timeouts + 1, stopAt := some s.now })
      ∧ (∀ j, j ≠ m.val → Tab.get {} t.craft.i2c j = Tab.get {} s.craft.i2c j)
      ∧ t = { s with craft := { s.craft with i2c := t.craft.i2c }, out := .i2c m.val 9 :: s.out }) :=
  ⟨_, (exec_i2cStretchTimeout m s).trans (congrArg Host.Outcome.next (if_neg (by simp [h]))),
    State.i2cClocks_same _ _ _, fun _ hj => State.i2cClocks_other _ _ _ hj, State.i2cClocks_eq _ _ _⟩

theorem exec_i2c_off {s : State} {m : Fin 2} (low : Bool) (h : s.clocked (24 + m.val) = false) :
    exec (.cfI2cStuck m low) s = .next s ∧ exec (.i2cStretchTimeout m) s = .next s :=
  ⟨(exec_cfI2cStuck m low s).trans (congrArg Host.Outcome.next (if_pos (by simp [h]))),
    (exec_i2cStretchTimeout m s).trans (congrArg Host.Outcome.next (if_pos (by simp [h])))⟩

/-- A pin's input level put. -/
def State.putInput (p : Nat) (level : Bool) (s : State) : State :=
  s.setCraft (fun c => { c with gpio := Tab.set {} c.gpio p { (Tab.get {} s.craft.gpio p : Gpio) with input := level } })

theorem exec_gpioEdge (p : Fin 16) (level : Bool) (s : State) : exec (.gpioEdge p level) s = .next (
    if !s.clocked 28 || (Tab.get {} s.craft.gpio p.val : Gpio).func ≠ 0 || (Tab.get {} s.craft.gpio p.val : Gpio).input = level
    then s
    else if s.start.fwState = 0 then s.putInput p.val level
    else (s.putInput p.val level).raise (608 + p.val) 0 (b2n level)) := rfl

theorem State.putInput_same (p : Nat) (level : Bool) (s : State) :
    Tab.get {} (s.putInput p level).craft.gpio p = { (Tab.get {} s.craft.gpio p : Gpio) with input := level } :=
  Tab.get_set_same _ _ _ _

theorem State.putInput_other {p j : Nat} (hj : j ≠ p) (level : Bool) (s : State) :
    (Tab.get {} (s.putInput p level).craft.gpio j : Gpio) = Tab.get {} s.craft.gpio j := Tab.get_set_other _ _ _ hj

theorem gpioEdge_completes (s : State) (p : Fin 16) (b : Bool) : completesWith (.gpioEdge p b) s (fun t =>
    let g : Gpio := Tab.get {} s.craft.gpio p.val
    (if s.clocked 28 = false ∨ g.func ≠ 0 ∨ g.input = b then t = s
     else Tab.get {} t.craft.gpio p.val = { g with input := b } ∧ (s.start.fwState ≠ 0 → t.pends (608 + p.val)))
    ∧ (∀ j, j ≠ p.val → Tab.get {} t.craft.gpio j = Tab.get {} s.craft.gpio j)
    ∧ t = { s.reporting t with craft := { s.craft with gpio := t.craft.gpio } }) := by
  dsimp only
  by_cases h : s.clocked 28 = false ∨ (Tab.get {} s.craft.gpio p.val : Gpio).func ≠ 0
      ∨ (Tab.get {} s.craft.gpio p.val : Gpio).input = b
  · refine ⟨_, (exec_gpioEdge p b s).trans (congrArg Host.Outcome.next (if_pos (by simpa [or_assoc] using h))), ?_⟩
    beta_reduce
    rw [if_pos h]
    exact ⟨rfl, fun _ _ => rfl, rfl⟩
  · refine ⟨_, (exec_gpioEdge p b s).trans (congrArg Host.Outcome.next (if_neg (by simpa [or_assoc] using h))), ?_⟩
    beta_reduce
    rw [if_neg h]
    have hSame := s.putInput_same p.val b
    have hOther {j : Nat} (hj : j ≠ p.val) := State.putInput_other hj b s
    by_cases hStart : s.start.fwState = 0
    · rw [if_pos hStart]
      exact ⟨⟨hSame, fun hRuns => absurd hStart hRuns⟩, fun j => hOther, rfl⟩
    · rw [if_neg hStart]
      exact ⟨⟨hSame, fun _ => State.raise_pends _ _ _ _⟩, fun j => hOther, rfl⟩

/-- A status pin pulses. -/
def State.pulsePin (s : State) (x : Nat × Gpio) : State :=
  (s.emit (.pin ("GPIO_" ++ toString x.1) true)).emit (.pin ("GPIO_" ++ toString x.1) false)

theorem exec_statusLedBlink (s : State) : exec .statusLedBlink s = .next (
    if s.ledOn then (s.craft.gpio.filter (fun x => x.2.func == 2)).foldl State.pulsePin s else s) := rfl

theorem State.pulsePins_sent (l : List (Nat × Gpio)) {x : Nat × Gpio} (hx : x ∈ l) (s : State) :
    .pin ("GPIO_" ++ toString x.1) true ∈ (l.foldl State.pulsePin s).out := by
  have hStep (t : State) (y : Nat × Gpio) : KeepsOut t (t.pulsePin y) :=
    (State.emit_keepsOut _ t).trans (State.emit_keepsOut _ _)
  induction l generalizing s with
  | nil => exact absurd hx List.not_mem_nil
  | cons y l ih =>
    rcases List.mem_cons.mp hx with rfl | hx
    · exact KeepsOut.foldl hStep l _ _ (List.mem_cons_of_mem _ List.mem_cons_self)
    · exact ih hx _

theorem statusLedBlink_completes (s : State) : completesWith .statusLedBlink s (fun t =>
    (s.ledOn = true → ∀ k g, (k, g) ∈ s.craft.gpio → g.func = 2 → .pin ("GPIO_" ++ toString k) true ∈ t.out)
    ∧ (s.ledOn = false → t = s) ∧ t = { s with out := t.out }) := by
  have hPulses : Within [.out] s ((s.craft.gpio.filter (fun x => x.2.func == 2)).foldl State.pulsePin s) :=
    .foldl (fun t x => within_of_eq_merge rfl) _ s
  refine ⟨_, exec_statusLedBlink s, ?_⟩
  by_cases h : s.ledOn = true
  · rw [if_pos h]
    refine ⟨fun _ k g hMem hFunc => ?_, fun hOff => absurd (h.symm.trans hOff) (Bool.false_ne_true ·.symm), hPulses.eq_merge⟩
    exact State.pulsePins_sent _ (x := (k, g)) (List.mem_filter.mpr ⟨hMem, by simp [hFunc]⟩) s
  · rw [if_neg h]
    exact ⟨fun hOn => absurd hOn h, fun _ => rfl, rfl⟩

/-- Settles O58, command by command. -/
theorem peripheralCommands : Obligations.PeripheralCommands := by
  unfold Obligations.PeripheralCommands
  exact fun s => ⟨State.flushLog_completes, fun h => (exec_logbookFlush s).trans (congrArg Host.Outcome.next (if_neg (by simp [h]))),
    fun n kind data => State.relayLog_completes kind data, fun n kind data => exec_logbookRelay_idle kind data,
    flashProgram_completes s, fun l p b => ddmRead_some p b, fun l p => ddmRead_none p,
    fun l p b => exec_ddmRead_off p b, fun m low => cfI2cStuck_completes low, fun m => i2cStretchTimeout_completes,
    fun m low => exec_i2c_off low, gpioEdge_completes s, statusLedBlink_completes s⟩

end Sys2Proof.Machine
end

section
/-!
# The craft port and its shell

What the UART and a BREAK leave, what a line's arrival does before it is run, and the lines that the shell handles itself.
-/
namespace Sys2Proof.Machine

-- One theorem after another: the stacks of many that wait at once would exceed the memory of the check.
set_option Elab.async false

/-! ### The receiver (R901 to R903) -/

/-- The craft block put. -/
theorem State.setCraft_self (s : State) : s.setCraft (fun c => c) = s := rfl

theorem exec_uartCharacter_off {s : State} (c : Byte) (e : CharError) (h : s.uartOn = false) :
    exec (.uartCharacter c e) s = .next s := congrArg Host.Outcome.next (if_pos (by simp [h]))

theorem exec_uartCharacter_room {s : State} (c : Byte) (hOn : s.uartOn = true)
    (hRoom : s.craft.rx.length < s.craft.uart.fifo) :
    exec (.uartCharacter c .none) s = .next { s with craft := { s.craft with rx := s.craft.rx ++ [c] } } := by
  change execUartCharacter c .none s = _
  simp only [execUartCharacter, hOn, Bool.not_true, Bool.false_eq_true, if_false, if_neg (not_le.mpr hRoom)]
  rfl

/-- Why a character is discarded, and its counter (R903). -/
def State.discards (s : State) (e : CharError) (k : Nat) : Prop :=
  (e = .none ∧ s.craft.uart.fifo ≤ s.craft.rx.length ∧ k = 10) ∨ (e = .framing ∧ k = 11) ∨ (e = .parity ∧ k = 12)

theorem exec_uartCharacter_discards {s : State} {e : CharError} {k : Nat} (c : Byte) (hOn : s.uartOn = true)
    (h : s.discards e k) : exec (.uartCharacter c e) s = .next (s.uartDrop k) := by
  change execUartCharacter c e s = _
  simp only [execUartCharacter, hOn, Bool.not_true, Bool.false_eq_true, if_false]
  rcases h with ⟨rfl, hFull, rfl⟩ | ⟨rfl, rfl⟩ | ⟨rfl, rfl⟩
  · exact congrArg Host.Outcome.next (if_pos hFull)
  · rfl
  · rfl

theorem State.uartDrop_cnt {k : Nat} (hk : k < 64) (s : State) :
    Tab.get 0 (s.uartDrop k).cnt (0x5C0 + k) = (Tab.get 0 s.cnt (0x5C0 + k) + 1) % 2 ^ 40 := by
  have hBeside : besideMailboxes (0x5C0 + k) := .inl (by omega)
  rw [State.uartDrop, State.raiseWin_cnt hBeside, State.inc, State.count_cnt_same hBeside]
  rfl

theorem State.uartDrop_frame (k : Nat) (s : State) :
    s.uartDrop k = { s.reporting (s.uartDrop k) with craft := { s.craft with drop := true } } :=
  (((State.inc_reports _ _).trans (State.raiseWin_reports _ _ _ _ _ _)).reporting :
    s.uartDrop k = (s.setCraft (fun c => { c with drop := true })).reporting (s.uartDrop k))

theorem uartCharacter_discards {s : State} {e : CharError} {k : Nat} (c : Byte) (hOn : s.uartOn = true)
    (h : s.discards e k) : completesWith (.uartCharacter c e) s (fun t =>
      Tab.get 0 t.cnt (0x5C0 + k) = (Tab.get 0 s.cnt (0x5C0 + k) + 1) % 2 ^ 40
      ∧ t = { s.reporting t with craft := { s.craft with drop := true } }) := by
  have hk : k < 64 := by
    rcases h with ⟨_, _, rfl⟩ | ⟨_, rfl⟩ | ⟨_, rfl⟩ <;> decide
  exact ⟨_, exec_uartCharacter_discards c hOn h, State.uartDrop_cnt hk s, State.uartDrop_frame k s⟩

/-! ### The shell takes characters (R902, R903) -/

theorem exec_uartRxService (s : State) : exec .uartRxService s = .next (if s.cpRuns then s.serveRx s.craft.rx else s) := rfl

theorem State.serveRx_cons {s : State} {b : Byte} {l : List Byte} (hFree : (s.box 33).waiting = none)
    (hRoom : (s.box 33).stalled = false) : s.serveRx (b :: l) = (s.shellChar b).serveRx l :=
  if_neg (by simp [hFree, hRoom])

/-- While mailbox 33 is busy, or without a character, the shell does nothing. -/
theorem exec_uartRxService_idle {s : State} (h : s.cpRuns = false ∨ s.craft.rx = [] ∨ (s.box 33).waiting.isSome = true
    ∨ (s.box 33).stalled = true) : exec .uartRxService s = .next s := by
  rw [exec_uartRxService]
  by_cases hRuns : s.cpRuns = true
  · rw [if_pos hRuns]
    have hSame : s.setCraft (fun c => { c with rx := s.craft.rx }) = s := rfl
    cases hRx : s.craft.rx with
    | nil =>
      rw [hRx] at hSame
      exact congrArg Host.Outcome.next hSame
    | cons b l =>
      rw [hRx] at hSame
      have hBusy : ((s.box 33).waiting.isSome || (s.box 33).stalled) = true := by
        rcases h with h | h | h | h
        · exact absurd (hRuns.symm.trans h) (Bool.false_ne_true ·.symm)
        · exact absurd (hRx.symm.trans h) (List.cons_ne_nil _ _)
        · rw [h, Bool.true_or]
        · rw [h, Bool.or_true]
      exact congrArg Host.Outcome.next ((if_pos hBusy).trans hSame)
  · rw [if_neg hRuns]

theorem exec_uartRxService_one {s : State} {b : Byte} (hRuns : s.cpRuns = true) (hRx : s.craft.rx = [b])
    (hFree : (s.box 33).waiting = none) (hRoom : (s.box 33).stalled = false) :
    exec .uartRxService s = .next ((s.shellChar b).setCraft (fun c => { c with rx := [] })) := by
  rw [exec_uartRxService, if_pos hRuns, hRx, State.serveRx_cons hFree hRoom]
  rfl

theorem State.shellChar_keeps {s : State} {b : Byte} (hCr : b ≠ 13) (hLf : b ≠ 10) (hBs : b ≠ 8)
    (hRoom : s.craft.line.length < 256) : s.shellChar b =
      (s.setCraft (fun y => { y with line := y.line ++ [Char.ofNat b.toNat] })).say [Char.ofNat b.toNat] := by
  have hEnds : ¬ (b = 13 ∨ b = 10) := not_or.mpr ⟨hCr, hLf⟩
  simp only [State.shellChar, if_neg hEnds, if_neg hBs, if_neg (not_le.mpr hRoom)]

theorem State.shellChar_deletes (s : State) :
    s.shellChar 8 = (s.setCraft (fun c => { c with line := c.line.dropLast })).say [Char.ofNat 8] := rfl

/-! ### BREAK (R634, R758, R905) -/

theorem exec_shortBreak (s : State) : exec .shortBreak s = .next (if s.uartOn then s.shellHello else s) := rfl

/-- The defaults of the UART, the shell's line forgotten. -/
def State.uartDefaults (s : State) : State :=
  s.setCraft (fun c => { c with uart := {}, trial := none, line := [], drop := false })

theorem exec_longBreak (s : State) : exec .longBreak s = .next (if s.uartOn then s.uartDefaults.shellHello else s) := rfl

theorem State.shellHello_off {s : State} (h : s.cpRuns = false) :
    s.shellHello = s.setCraft (fun c => { c with broke := true }) := if_neg (by simp [h])

/-- A BREAK opens the session of mailbox 33. -/
theorem State.shellHello_opens {s : State} (hRuns : s.cpRuns = true) (hManager : s.isManager = true)
    (hUp : s.goingDown = false) :
    (s.shellHello.box 33).session = true ∧ (s.shellHello.box 33).expSeq = 1 ∧ (s.shellHello.box 33).txn = none
    ∧ s.shellHello.pends 583
    ∧ s.shellHello = (s.setCraft (fun c => { c with broke := true })).reporting s.shellHello := by
  have hAdmits : (s.setCraft (fun c => { c with broke := true })).admits 0x0001 (shellReq 0 (leBytes 4 0)) :=
    ⟨hManager, rfl, rfl, .inl hUp⟩
  have hHello : exec (.mbxHello (shellReq 0 (leBytes 4 0))) (s.setCraft (fun c => { c with broke := true })) =
      .next s.shellHello := (congrArg Host.Outcome.next (if_pos hRuns).symm :)
  obtain ⟨t, hExec, ⟨_, _, hSeq, _⟩, hSession, hTxn, hPends, _, hFrame⟩ := mbxHello_completes hAdmits (leBytes_length 4 0)
  obtain rfl : s.shellHello = t := Host.Outcome.next.inj (hHello.symm.trans hExec)
  exact ⟨hSession, hSeq, hTxn, hPends, hFrame⟩

/-! ### Settings that are stored (R908) -/

variable {C : List Part}

/-- What a line that the shell takes touches. -/
def shellParts : List Part := [.evt, .host, .ring, .log, .cnt, .out, .fresh, .start, .craft]

theorem Start.putStore_stores (c : Cfg) (k : Start) : (k.putStore c).1.stores k := by
  unfold Start.putStore Start.stores
  dsimp only
  split <;> rfl

theorem State.putStore_within (c : Cfg) (s : State) : Within [.fresh, .start, .out] s (s.putStore c) := by
  unfold State.putStore
  split
  · exact .refl _ s
  · exact within_of_eq_merge rfl

theorem State.putStore_stores (c : Cfg) (s : State) : (s.putStore c).start.stores s.start := by
  unfold State.putStore
  split
  · rfl
  · exact Start.putStore_stores c s.start

theorem Start.stores_trans {k j l : Start} (h : j.stores k) (g : l.stores j) : l.stores k := by
  unfold Start.stores at *
  rw [g, h]

section
variable (f : Craft → Craft) (s : State)

theorem State.storeCraft_craft : (s.storeCraft f).craft = if s.start.hasFlash then f s.craft else s.craft := by
  unfold State.storeCraft
  split
  · exact (State.putStore_within _ _).craft rfl
  · rfl

theorem State.storeCraft_within : Within shellParts s (s.storeCraft f) := by
  unfold State.storeCraft
  split
  · have hSet : Within shellParts s (s.setCraft f) := within_of_eq_merge rfl
    exact hSet.trans ((State.putStore_within _ _).mono rfl)
  · exact .refl _ s

theorem State.storeCraft_stores : (s.storeCraft f).start.stores s.start := by
  unfold State.storeCraft
  split
  · exact State.putStore_stores _ (s.setCraft f)
  · rfl

theorem State.storeCraft_host : (s.storeCraft f).host = s.host := by
  unfold State.storeCraft
  split
  · exact (State.putStore_within _ _).host rfl
  · rfl

theorem State.storeCraft_evt : (s.storeCraft f).evt = s.evt := by
  unfold State.storeCraft
  split
  · exact (State.putStore_within _ _).evt rfl
  · rfl

end

/-! ### A line arrives (R908, R909) -/

/-- What the shell does with every line before it runs it: its arrival is told after a BREAK, and a trial that it ends
is stored. -/
def State.lineTaken (s : State) : State := s.lineArrives.trialGood

/-- Whether the shell has been silent for 600 s. -/
def State.shellIdle (s : State) : Bool :=
  match s.craft.lastLine with
  | some t => decide (t + 600 * secTicks ≤ s.now)
  | none => true

/-- The line's arrival noted. -/
def State.lineNoted (s : State) : State := s.setCraft (fun c => { c with lastLine := some s.now, broke := false })

theorem State.lineArrives_eq (s : State) :
    s.lineArrives = if s.craft.broke || s.shellIdle then s.lineNoted.raise 627 0 0 else s.lineNoted := rfl

/-- An arrival's events touch nothing but what reporting changes. -/
theorem State.lineArrives_reports (s : State) : Reports s.lineNoted s.lineArrives := by
  rw [State.lineArrives_eq]
  split
  · exact State.raise_reports _ _ _ _
  · exact .refl _

theorem State.lineArrives_steady (s : State) : Steady s.host s.lineArrives.host := by
  rw [State.lineArrives_eq]
  split
  · exact (Steady.refl s.lineNoted.host).raise _ _ _
  · exact .refl _

theorem State.lineArrives_pends {s : State} (h : s.craft.broke = true) : s.lineArrives.pends 627 := by
  rw [State.lineArrives_eq, if_pos (by rw [h, Bool.true_or])]
  exact State.raise_pends _ _ _ _

/-- The craft block after a trial has stood. -/
def Craft.trialEnds (flash : Bool) (c : Craft) : Craft :=
  { c with trial := none, storedUart := if c.trial.isSome && flash then c.uart else c.storedUart }

section
variable (s : State)

theorem State.trialGood_craft : s.trialGood.craft = s.craft.trialEnds s.start.hasFlash := by
  unfold State.trialGood Craft.trialEnds
  cases hTrial : s.craft.trial with
  | none =>
    rw [if_neg (by simp)]
    have hSame : s.craft = { s.craft with trial := s.craft.trial } := rfl
    rw [hTrial] at hSame
    exact hSame
  | some u =>
    rw [if_pos (by simp), State.storeCraft_craft]
    have hFlash : (s.setCraft (fun c => { c with trial := none })).start.hasFlash = s.start.hasFlash := rfl
    rw [hFlash]
    cases s.start.hasFlash <;> rfl

theorem State.trialGood_within : Within shellParts s s.trialGood := by
  unfold State.trialGood
  split
  · have hSet : Within shellParts s (s.setCraft (fun c => { c with trial := none })) := within_of_eq_merge rfl
    exact hSet.trans (State.storeCraft_within _ _)
  · exact .refl _ s

theorem State.trialGood_stores : s.trialGood.start.stores s.start := by
  unfold State.trialGood
  split
  · exact State.storeCraft_stores _ (s.setCraft _)
  · rfl

theorem State.trialGood_host : s.trialGood.host = s.host := by
  unfold State.trialGood
  split
  · exact State.storeCraft_host _ (s.setCraft _)
  · rfl

theorem State.trialGood_evt : s.trialGood.evt = s.evt := by
  unfold State.trialGood
  split
  · exact State.storeCraft_evt _ (s.setCraft _)
  · rfl

theorem State.lineTaken_craft : s.lineTaken.craft =
    { s.craft with
      lastLine := some s.now, broke := false, trial := none
      storedUart := if s.craft.trial.isSome && s.start.hasFlash then s.craft.uart else s.craft.storedUart } := by
  rw [State.lineTaken, State.trialGood_craft, s.lineArrives_reports.craft, s.lineArrives_reports.start]
  rfl

theorem State.lineTaken_within : Within shellParts s s.lineTaken := by
  have hNoted : Within shellParts s s.lineNoted := within_of_eq_merge rfl
  exact (hNoted.trans (s.lineArrives_reports.within.mono rfl)).trans (State.trialGood_within _)

theorem State.lineTaken_stores : s.lineTaken.start.stores s.start := by
  have h := State.trialGood_stores s.lineArrives
  rwa [s.lineArrives_reports.start] at h

theorem State.lineTaken_start : s.lineTaken.start.hasFlash = s.start.hasFlash := by
  have h := s.lineTaken_stores
  unfold Start.stores at h
  rw [h]
  rfl

theorem State.lineTaken_steady : Steady s.host s.lineTaken.host := by
  rw [State.lineTaken, State.trialGood_host]
  exact s.lineArrives_steady

theorem State.lineTaken_pends (h : s.craft.broke = true) : s.lineTaken.pends 627 := by
  have hPends := State.lineArrives_pends h
  unfold State.pends at hPends ⊢
  rw [State.lineTaken, State.trialGood_evt]
  exact hPends

end

theorem Within.shell {s t : State} (h : Within shellParts s t) :
    t = { s.reporting t with fresh := t.fresh, start := t.start, craft := t.craft } := h.eq_merge

end Sys2Proof.Machine
end

section
/-!
# The lines of the craft port's shell

Lines that wait, lines that are commands, and the lines that the shell handles itself.
-/
namespace Sys2Proof.Machine

-- One theorem after another: the stacks of many that wait at once would exceed the memory of the check.
set_option Elab.async false

section
variable {s t : State}

/-! ### What every line of the shell leaves -/

/-- The shell's own line leaves the craft port, the store and the flash's writes, and what reporting changes. -/
def shellLeft (s t : State) : Prop :=
  t.start.stores s.start
  ∧ t = { s.reporting t with fresh := t.fresh, start := t.start, craft := t.craft }

theorem shellLeft_of_taken (h : Within shellParts s.lineTaken t) (hStores : t.start.stores s.lineTaken.start) :
    shellLeft s t :=
  ⟨Start.stores_trans s.lineTaken_stores hStores, ((State.lineTaken_within s).trans h).shell⟩

theorem shellLeft_say (l : List Char) (h : Within shellParts s.lineTaken t) (hStores : t.start.stores s.lineTaken.start) :
    shellLeft s (t.say l) := by
  have hSay : Within shellParts t (t.say l) := within_of_eq_merge rfl
  exact shellLeft_of_taken (h.trans hSay) hStores

theorem State.lineTaken_box (s : State) (m : Nat) : (s.lineTaken.box m).core = (s.box m).core := s.lineTaken_steady.core m

/-! ### Lines that wait, and command lines (R756, R757, R759, Table CF-3) -/

theorem exec_shell_off (h : s.cpRuns = false) (l : List Char) (o : BitVec 16) (p : List Byte) (a b c d e f g : Nat) :
    ∀ i ∈ [Instr.shellLine l, .shellRaw o p, .shellUart a b c d e f g, .shellDdm a, .shellGpio a b c d],
      exec i s = .next s := by
  have hLine : exec (.shellLine l) s = .next s := congrArg Host.Outcome.next (if_pos (by simp [h]))
  have hRaw : exec (.shellRaw o p) s = .next s := congrArg Host.Outcome.next (if_pos (by simp [h]))
  have hUart : exec (.shellUart a b c d e f g) s = .next s := congrArg Host.Outcome.next (if_neg (by simp [h]))
  have hDdm : exec (.shellDdm a) s = .next s := congrArg Host.Outcome.next (if_neg (by simp [h]))
  have hGpio : exec (.shellGpio a b c d) s = .next s := congrArg Host.Outcome.next (if_neg (by simp [h]))
  intro i hi
  simp only [List.mem_cons, List.not_mem_nil, or_false] at hi
  rcases hi with rfl | rfl | rfl | rfl | rfl <;> assumption

theorem exec_shellLine_waits (l : List Char) (hRuns : s.cpRuns = true)
    (hBusy : (s.box 33).waiting.isSome = true ∨ (s.box 33).stalled = true) :
    exec (.shellLine l) s = .next { s with craft := { s.craft with rx := lineBytes l ++ s.craft.rx } } := by
  have hWaits : ((s.box 33).waiting.isSome || (s.box 33).stalled) = true := by simpa using hBusy
  change execShellLine l s = _
  unfold execShellLine
  rw [if_neg (by simp [hRuns]), if_pos hWaits]
  rfl

theorem exec_shellLine (l : List Char) (hRuns : s.cpRuns = true) (hFree : (s.box 33).waiting = none)
    (hRoom : (s.box 33).stalled = false) : exec (.shellLine l) s = .next (s.runLine l) := by
  change execShellLine l s = _
  unfold execShellLine
  rw [if_neg (by simp [hRuns]), if_neg (by simp [hFree, hRoom])]

theorem exec_shellRaw (o : BitVec 16) (p : List Byte) (hRuns : s.cpRuns = true) (hFree : (s.box 33).waiting = none)
    (hRoom : (s.box 33).stalled = false) : exec (.shellRaw o p) s = .next (s.lineTaken.shellSend o.toNat p) :=
  congrArg Host.Outcome.next (if_neg (by simp [hRuns, hFree, hRoom]))

theorem State.runLine_command {l : List Char} {n : Nat} {p : List Byte}
    (hLocal : ∀ u, State.lineLocal (splitAt ' ' [] l) u = none) (h : parseCommand (splitAt ' ' [] l) = some (n, p)) :
    s.runLine l = s.lineTaken.shellSend n p := by
  simp only [State.runLine, hLocal, h]
  rfl

theorem State.runLine_unparsed {l : List Char} (hLocal : ∀ u, State.lineLocal (splitAt ' ' [] l) u = none)
    (h : parseCommand (splitAt ' ' [] l) = none) : s.runLine l = s.lineTaken.say "ERR LINE".toList := by
  simp only [State.runLine, hLocal, h]
  rfl

theorem shellLine_eq_shellRaw {l : List Char} {o : BitVec 16} {p : List Byte} (hFree : (s.box 33).waiting = none)
    (hRoom : (s.box 33).stalled = false) (hLocal : ∀ u, State.lineLocal (splitAt ' ' [] l) u = none)
    (h : parseCommand (splitAt ' ' [] l) = some (o.toNat, p)) : exec (.shellLine l) s = exec (.shellRaw o p) s := by
  by_cases hRuns : s.cpRuns = true
  · rw [exec_shellLine l hRuns hFree hRoom, exec_shellRaw o p hRuns hFree hRoom, State.runLine_command hLocal h]
  · have hOff : s.cpRuns = false := by simpa using hRuns
    rw [exec_shell_off hOff l o p 0 0 0 0 0 0 0 (.shellLine l) (by simp),
      exec_shell_off hOff l o p 0 0 0 0 0 0 0 (.shellRaw o p) (by simp)]

theorem shellLine_unparsed {l : List Char} (hRuns : s.cpRuns = true) (hFree : (s.box 33).waiting = none)
    (hRoom : (s.box 33).stalled = false) (hLocal : ∀ u, State.lineLocal (splitAt ' ' [] l) u = none)
    (h : parseCommand (splitAt ' ' [] l) = none) : completesWith (.shellLine l) s (fun t =>
      t.out.head? = some (.uart "ERR LINE".toList) ∧ (s.craft.broke = true → t.pends 627)
      ∧ t.craft.lastLine = some s.now ∧ t.craft.broke = false ∧ t.start.stores s.start
      ∧ t = { s.reporting t with fresh := t.fresh, start := t.start, craft := t.craft }) := by
  refine ⟨_, (exec_shellLine l hRuns hFree hRoom).trans (congrArg _ (State.runLine_unparsed hLocal h)), ?_⟩
  exact ⟨rfl, State.lineTaken_pends s, (congrArg Craft.lastLine (State.lineTaken_craft s) :),
    (congrArg Craft.broke (State.lineTaken_craft s) :), shellLeft_say _ (.refl _ _) rfl⟩

/-- Without a session a command line is dropped and counted. -/
theorem shellRaw_dropped (o : BitVec 16) (p : List Byte) (hRuns : s.cpRuns = true) (hFree : (s.box 33).waiting = none)
    (hRoom : (s.box 33).stalled = false) (hNone : (s.box 33).session = false) :
    completesWith (.shellRaw o p) s (fun t =>
      (t.box 33).dropped = min 255 ((s.box 33).dropped + 1) ∧ (t.box 33).expSeq = (s.box 33).expSeq
      ∧ (t.box 33).cached = (s.box 33).cached ∧ t.start.stores s.start
      ∧ t = { s.reporting t with fresh := t.fresh, start := t.start, craft := t.craft }) := by
  have hTaken := s.lineTaken_box 33
  have hSession : ¬ (s.lineTaken.box 33).session = true := by
    have hOff : (s.lineTaken.box 33).session = false := (congrArg Mbx.session hTaken :).trans hNone
    rw [hOff]
    exact Bool.false_ne_true
  have hSend : s.lineTaken.shellSend o.toNat p = s.lineTaken.dropReq 33 := if_neg hSession
  refine ⟨_, (exec_shellRaw o p hRuns hFree hRoom).trans (congrArg _ hSend), ?_⟩
  have hBox := s.lineTaken.box_dropReq 33
  have hReports := s.lineTaken.dropReq_reports 33
  refine ⟨?_, ?_, ?_, shellLeft_of_taken (hReports.within.mono rfl) (by rw [hReports.start]; rfl)⟩
  · exact (congrArg Mbx.dropped hBox :).trans (congrArg (fun b : Mbx => min 255 (b.dropped + 1)) hTaken :)
  · exact (congrArg Mbx.expSeq hBox :).trans (congrArg Mbx.expSeq hTaken :)
  · exact (congrArg Mbx.cached hBox :).trans (congrArg Mbx.cached hTaken :)

/-- In a session a command line runs with the SEQ that the mailbox expects. -/
theorem exec_shellRaw_runs (o : BitVec 16) (p : List Byte) (hRuns : s.cpRuns = true) (hFree : (s.box 33).waiting = none)
    (hRoom : (s.box 33).stalled = false) (hSession : (s.box 33).session = true) :
    exec (.shellRaw o p) s = .next (s.lineTaken.runCommand o.toNat (shellReq (s.box 33).expSeq p)) := by
  have hTaken := s.lineTaken_box 33
  have hOpen : (s.lineTaken.box 33).session = true := (congrArg Mbx.session hTaken :).trans hSession
  have hSeq : (s.lineTaken.box 33).expSeq = (s.box 33).expSeq := (congrArg Mbx.expSeq hTaken :)
  rw [exec_shellRaw o p hRuns hFree hRoom, State.shellSend, if_pos hOpen, hSeq]

/-! ### uart lines (Table CF-1, R907, R908) -/

theorem exec_shellUart (a b c d e f g : Nat) (hRuns : s.cpRuns = true) :
    exec (.shellUart a b c d e f g) s = .next (s.lineTaken.lineUart a b c d e f g) :=
  congrArg Host.Outcome.next (if_pos hRuns)

theorem State.lineUart_fault {a b c d e f g : Nat} {x : String} (h : uartFault a b c d e f g = some x) (u : State) :
    u.lineUart a b c d e f g = u.errArg x := by
  simp only [State.lineUart, h]

/-- The settings that a uart line names. -/
def uartOf (a b c d e f g : Nat) : UartCfg :=
  { div := uartDiv a, bits := b, parity := c, stop := d, fifo := e, rxTrig := f, txTrig := g }

/-- A craft port with new settings on trial. -/
def Craft.tries (u : UartCfg) (c : Craft) : Craft := { c with trial := some c.uart, uart := u }

theorem State.lineUart_good {a b c d e f g : Nat} (h : uartFault a b c d e f g = none) (u : State) :
    u.lineUart a b c d e f g = (u.say "OK".toList).setCraft (Craft.tries (uartOf a b c d e f g)) := by
  simp only [State.lineUart, h]
  rfl

theorem shellUart_completes (a b c d e f g : Nat) (hRuns : s.cpRuns = true) :
    completesWith (.shellUart a b c d e f g) s (fun t =>
      (∀ x, uartFault a b c d e f g = some x →
        t.out.head? = some (.uart ("ERR ARG ".toList ++ x.toList)) ∧ t.craft.uart = s.craft.uart ∧ t.craft.trial = none)
      ∧ (uartFault a b c d e f g = none →
        t.out.head? = some (.uart "OK".toList) ∧ t.craft.trial = some s.craft.uart
          ∧ t.craft.uart = { div := uartDiv a, bits := b, parity := c, stop := d, fifo := e, rxTrig := f, txTrig := g })
      ∧ t.craft.storedUart = (if s.craft.trial.isSome && s.start.hasFlash then s.craft.uart else s.craft.storedUart)
      ∧ t.start.stores s.start
      ∧ t = { s.reporting t with fresh := t.fresh, start := t.start, craft := t.craft }) := by
  refine ⟨_, exec_shellUart a b c d e f g hRuns, ?_⟩
  have hCraft := s.lineTaken_craft
  cases hFault : uartFault a b c d e f g with
  | some x =>
    rw [State.lineUart_fault hFault]
    refine ⟨fun y hy => ?_, fun hNone => absurd hNone (Option.some_ne_none _), (congrArg Craft.storedUart hCraft :),
      shellLeft_say _ (.refl _ _) rfl⟩
    obtain rfl : x = y := Option.some.inj hy
    exact ⟨rfl, (congrArg Craft.uart hCraft :), (congrArg Craft.trial hCraft :)⟩
  | none =>
    rw [State.lineUart_good hFault]
    have hWithin : Within shellParts s.lineTaken
        ((s.lineTaken.say "OK".toList).setCraft (Craft.tries (uartOf a b c d e f g))) := within_of_eq_merge rfl
    refine ⟨fun y hy => absurd hy.symm (Option.some_ne_none _), fun _ => ⟨rfl, ?_, rfl⟩, (congrArg Craft.storedUart hCraft :),
      shellLeft_of_taken hWithin rfl⟩
    exact (congrArg (fun k : Craft => some k.uart) hCraft :)

/-! ### ddm and gpio lines (R906) -/

theorem exec_shellDdm (lane : Nat) (hRuns : s.cpRuns = true) :
    exec (.shellDdm lane) s = .next (s.lineTaken.lineDdm lane) := congrArg Host.Outcome.next (if_pos hRuns)

theorem shellDdm_completes (lane : Nat) (hRuns : s.cpRuns = true) : completesWith (.shellDdm lane) s (fun t =>
    (if 3 < lane then t.out.head? = some (.uart "ERR ARG lane".toList)
     else ∃ r, t.out = .uart "OK".toList :: .uart (((Tab.get {} s.craft.ddm lane : Ddm).a0
        ++ (Tab.get {} s.craft.ddm lane : Ddm).a2).flatMap (fun b => ' ' :: hexByte b)) :: r)
    ∧ t.craft.ddm = s.craft.ddm ∧ t.start.stores s.start
    ∧ t = { s.reporting t with fresh := t.fresh, start := t.start, craft := t.craft }) := by
  refine ⟨_, exec_shellDdm lane hRuns, ?_⟩
  have hDdm : s.lineTaken.craft.ddm = s.craft.ddm := (congrArg Craft.ddm s.lineTaken_craft :)
  unfold State.lineDdm
  by_cases hLane : 3 < lane
  · rw [if_pos hLane]
    beta_reduce
    rw [if_pos hLane]
    exact ⟨rfl, hDdm, shellLeft_say _ (.refl _ _) rfl⟩
  · rw [if_neg hLane]
    beta_reduce
    rw [if_neg hLane]
    have hSay (l : List Char) : Within shellParts s.lineTaken (s.lineTaken.say l) := within_of_eq_merge rfl
    refine ⟨⟨s.lineTaken.out, ?_⟩, hDdm, shellLeft_say _ (hSay _) rfl⟩
    rw [← hDdm]
    rfl

theorem exec_shellGpio (pin func level ms : Nat) (hRuns : s.cpRuns = true) :
    exec (.shellGpio pin func level ms) s = .next (s.lineTaken.lineGpio pin func level ms) :=
  congrArg Host.Outcome.next (if_pos hRuns)

/-- The fields of a gpio line that Table CF-2 allows. -/
def gpioFits (pin func level ms : Nat) : Prop := pin ≤ 15 ∧ func ≤ 2 ∧ level ≤ 1 ∧ ms ≤ 255

theorem State.lineGpio_fault {pin func level ms : Nat} (h : ¬ gpioFits pin func level ms) (u : State) :
    ∃ x : String, u.lineGpio pin func level ms = u.errArg x := by
  unfold State.lineGpio
  by_cases hPin : 15 < pin
  · exact ⟨_, if_pos hPin⟩
  by_cases hFunc : 2 < func
  · exact ⟨_, (if_neg hPin).trans (if_pos hFunc)⟩
  by_cases hLevel : 1 < level
  · exact ⟨_, (if_neg hPin).trans ((if_neg hFunc).trans (if_pos hLevel))⟩
  by_cases hMs : 255 < ms
  · exact ⟨_, (if_neg hPin).trans ((if_neg hFunc).trans ((if_neg hLevel).trans (if_pos hMs)))⟩
  · exact absurd ⟨not_lt.mp hPin, not_lt.mp hFunc, not_lt.mp hLevel, not_lt.mp hMs⟩ h

/-- A pin's new settings, its input as it was. -/
def gpioOf (func level ms : Nat) (old : Gpio) : Gpio :=
  { func := func, level := level == 1, debounce := ms, input := old.input }

/-- A craft port with a pin's new settings, and with its stored ones. -/
def Craft.pinSet (pin func level ms : Nat) (c : Craft) : Craft :=
  { c with gpio := Tab.set {} c.gpio pin (gpioOf func level ms (Tab.get {} c.gpio pin)) }
def Craft.pinStored (pin func level ms : Nat) (c : Craft) : Craft :=
  { c with storedGpio := Tab.set {} c.storedGpio pin (gpioOf func level ms {}) }

/-- A pin set and stored. -/
def State.pinSet (pin func level ms : Nat) (u : State) : State :=
  (u.setCraft (Craft.pinSet pin func level ms)).storeCraft (Craft.pinStored pin func level ms)

/-- A line's answer, an output pin's level before it. -/
def State.pinSaid (pin func level : Nat) (u : State) : State :=
  (if func = 1 then u.emit (.pin ("GPIO_" ++ toString pin) (level == 1)) else u).say "OK".toList

theorem State.lineGpio_good {pin func level ms : Nat} (h : gpioFits pin func level ms) (u : State) :
    u.lineGpio pin func level ms = (u.pinSet pin func level ms).pinSaid pin func level := by
  obtain ⟨hPin, hFunc, hLevel, hMs⟩ := h
  unfold State.lineGpio
  rw [if_neg (not_lt.mpr hPin), if_neg (not_lt.mpr hFunc), if_neg (not_lt.mpr hLevel), if_neg (not_lt.mpr hMs)]
  rfl

theorem State.pinSaid_within (pin func level : Nat) (u : State) : Within shellParts u (u.pinSaid pin func level) := by
  unfold State.pinSaid
  split <;> exact within_of_eq_merge rfl

theorem State.pinSaid_craft (pin func level : Nat) (u : State) : (u.pinSaid pin func level).craft = u.craft := by
  unfold State.pinSaid
  split <;> rfl

theorem State.pinSaid_start (pin func level : Nat) (u : State) : (u.pinSaid pin func level).start = u.start := by
  unfold State.pinSaid
  split <;> rfl

theorem State.pinSet_within (pin func level ms : Nat) (u : State) : Within shellParts u (u.pinSet pin func level ms) := by
  have hSet : Within shellParts u (u.setCraft (Craft.pinSet pin func level ms)) := within_of_eq_merge rfl
  exact hSet.trans (State.storeCraft_within _ _)

theorem State.pinSet_stores (pin func level ms : Nat) (u : State) : (u.pinSet pin func level ms).start.stores u.start :=
  State.storeCraft_stores _ (u.setCraft _)

theorem State.pinSet_gpio (pin func level ms : Nat) (u : State) : (u.pinSet pin func level ms).craft.gpio =
    Tab.set {} u.craft.gpio pin (gpioOf func level ms (Tab.get {} u.craft.gpio pin)) := by
  rw [State.pinSet, State.storeCraft_craft]
  split <;> rfl

theorem State.pinSet_stored {u : State} (pin func level ms : Nat) (h : u.start.hasFlash = true) :
    (u.pinSet pin func level ms).craft.storedGpio = Tab.set {} u.craft.storedGpio pin (gpioOf func level ms {}) := by
  have hFlash : (u.setCraft (Craft.pinSet pin func level ms)).start.hasFlash = true := h
  rw [State.pinSet, State.storeCraft_craft, if_pos hFlash]
  rfl

theorem shellGpio_completes (pin func level ms : Nat) (hRuns : s.cpRuns = true) :
    completesWith (.shellGpio pin func level ms) s (fun t =>
      (if pin ≤ 15 ∧ func ≤ 2 ∧ level ≤ 1 ∧ ms ≤ 255 then
        t.out.head? = some (.uart "OK".toList)
        ∧ Tab.get {} t.craft.gpio pin = { (Tab.get {} s.craft.gpio pin : Gpio) with
            func := func, level := level == 1, debounce := ms }
        ∧ (s.start.hasFlash = true →
            Tab.get {} t.craft.storedGpio pin = { func := func, level := level == 1, debounce := ms, input := false })
        ∧ (∀ j, j ≠ pin → Tab.get {} t.craft.gpio j = Tab.get {} s.craft.gpio j)
       else (∃ r, t.out.head? = some (.uart ("ERR ARG ".toList ++ r))) ∧ t.craft.gpio = s.craft.gpio
        ∧ t.craft.storedGpio = s.craft.storedGpio)
      ∧ t.start.stores s.start
      ∧ t = { s.reporting t with fresh := t.fresh, start := t.start, craft := t.craft }) := by
  refine ⟨_, exec_shellGpio pin func level ms hRuns, ?_⟩
  have hGpio : s.lineTaken.craft.gpio = s.craft.gpio := (congrArg Craft.gpio s.lineTaken_craft :)
  by_cases hFits : gpioFits pin func level ms
  · rw [State.lineGpio_good hFits]
    beta_reduce
    rw [if_pos (show pin ≤ 15 ∧ func ≤ 2 ∧ level ≤ 1 ∧ ms ≤ 255 from hFits)]
    have hSaid := State.pinSaid_craft pin func level (s.lineTaken.pinSet pin func level ms)
    have hPins := (congrArg Craft.gpio hSaid :).trans (State.pinSet_gpio pin func level ms s.lineTaken)
    rw [hGpio] at hPins
    refine ⟨⟨rfl, ?_, fun hFlash => ?_, fun j hj => ?_⟩, ?_⟩
    · rw [hPins]
      exact Tab.get_set_same ..
    · rw [(congrArg Craft.storedGpio hSaid :), State.pinSet_stored pin func level ms (s.lineTaken_start.trans hFlash)]
      exact Tab.get_set_same ..
    · rw [hPins]
      exact Tab.get_set_other _ _ _ hj
    · refine shellLeft_of_taken ((State.pinSet_within ..).trans (State.pinSaid_within ..)) ?_
      rw [State.pinSaid_start]
      exact State.pinSet_stores ..
  · obtain ⟨x, hx⟩ := State.lineGpio_fault hFits s.lineTaken
    rw [hx]
    beta_reduce
    rw [if_neg (show ¬ (pin ≤ 15 ∧ func ≤ 2 ∧ level ≤ 1 ∧ ms ≤ 255) from hFits)]
    exact ⟨⟨⟨x.toList, rfl⟩, hGpio, (congrArg Craft.storedGpio s.lineTaken_craft :)⟩, shellLeft_say _ (.refl _ _) rfl⟩

end

/-! ### O59 -/

/-- Settles O59: a character, a BREAK and a trial's end by their cases, and every line after what its arrival leaves
(`lineTaken`). -/
theorem craftPortCommands : Obligations.CraftPortCommands := by
  refine ⟨fun s => ⟨?_, ?_, ?_, ?_, ?_, ?_, ?_, ?_, ?_, ?_, ?_, ?_, ?_⟩, fun s => ⟨?_, ?_, ?_, ?_, ?_, ?_, ?_, ?_, ?_⟩⟩
  · exact fun c e => exec_uartCharacter_off c e
  · exact fun c => exec_uartCharacter_room c
  · exact fun c _ _ hOn h => uartCharacter_discards c hOn h
  · exact exec_uartRxService_idle
  · intro b hRuns hRx hFree hRoom hCr hLf hBs hLine
    rw [exec_uartRxService_one hRuns hRx hFree hRoom, State.shellChar_keeps hCr hLf hBs hLine]
    rfl
  · intro hRuns hRx hFree hRoom
    rw [exec_uartRxService_one hRuns hRx hFree hRoom, State.shellChar_deletes]
    rfl
  · intro hOff
    rw [exec_shortBreak, exec_longBreak, if_neg (by simp [hOff]), if_neg (by simp [hOff])]
    exact ⟨rfl, rfl⟩
  · intro hOn hRuns
    rw [exec_shortBreak, if_pos hOn, State.shellHello_off hRuns]
    rfl
  · intro hOn hRuns
    rw [exec_longBreak, if_pos hOn, State.shellHello_off (show s.uartDefaults.cpRuns = false from hRuns)]
    rfl
  · intro hOn hRuns hManager hUp
    exact ⟨_, (exec_shortBreak s).trans (congrArg _ (if_pos hOn)), State.shellHello_opens hRuns hManager hUp⟩
  · intro hOn hRuns hManager hUp
    obtain ⟨hSession, hSeq, -, -, hFrame⟩ := State.shellHello_opens (s := s.uartDefaults) hRuns hManager hUp
    exact ⟨_, (exec_longBreak s).trans (congrArg _ (if_pos hOn)), hSession, hSeq, hFrame⟩
  · intro u hu
    change execUartTrialTimeout s = _
    simp only [execUartTrialTimeout, hu]
    rfl
  · intro hu
    change execUartTrialTimeout s = _
    simp only [execUartTrialTimeout, hu]
  · exact exec_shell_off
  · exact exec_shellLine_waits
  · exact fun _ _ _ => shellLine_eq_shellRaw
  · exact fun _ => shellLine_unparsed
  · exact shellRaw_dropped
  · exact exec_shellRaw_runs
  · exact shellUart_completes
  · exact shellDdm_completes
  · exact shellGpio_completes

end Sys2Proof.Machine
end

section
/-!
# The load switches

One switch turns (`Turns`) and the others stay: the events of a switch and the three actions of LSW_SET.
-/
namespace Sys2Proof.Machine

-- One theorem after another: the stacks of many that wait at once would exceed the memory of the check.
set_option Elab.async false

/-! ### One switch turns -/

/-- From `s` to `t` switch `k` has become `y`: the other switches stay, and but the pins nothing else moves. -/
structure Turns (k : Nat) (y : Lsw) (s t : State) : Prop where
  own    : t.lsw k = y
  others : ∀ j, j ≠ k → t.lsw j = s.lsw j
  frame  : t = { s with out := t.out, cistern := { s.cistern with switches := t.cistern.switches } }

section
variable {k : Nat} {y : Lsw} {s t : State}

theorem Turns.refl (k : Nat) (s : State) : Turns k (s.lsw k) s s := ⟨rfl, fun _ _ => rfl, rfl⟩

theorem Turns.mod (h : Turns k y s t) (f : Lsw → Lsw) : Turns k (f y) s (t.modLsw k f) := by
  obtain ⟨hOwn, hOthers, hFrame⟩ := h
  refine ⟨?_, fun j hj => ?_, ?_⟩
  · exact (Tab.get_modify_same _ _ _ _).trans (congrArg f hOwn)
  · exact (Tab.get_modify_other _ _ _ hj).trans (hOthers j hj)
  · exact congrArg (State.modLsw k f) hFrame

theorem Turns.emit (h : Turns k y s t) (e : Emission) : Turns k y s (t.emit e) :=
  ⟨h.own, h.others, congrArg (State.emit e) h.frame⟩

theorem Turns.run (h : Turns k y s t) : t.cistern.run = s.cistern.run :=
  (congrArg (fun x : State => x.cistern.run) h.frame :)

theorem Turns.queue (h : Turns k y s t) : t.cistern.lswQueue = s.cistern.lswQueue :=
  (congrArg (fun x : State => x.cistern.lswQueue) h.frame :)

/-- What turned and was then reported. -/
theorem Turns.reported {u : State} (h : Turns k y s t) (hu : Reports t u) :
    u.lsw k = y ∧ (∀ j, j ≠ k → u.lsw j = s.lsw j)
    ∧ u = { s.reporting u with cistern := { s.cistern with switches := u.cistern.switches } } := by
  obtain ⟨hOwn, hOthers, hFrame⟩ := h
  have hLsw (j : Nat) : u.lsw j = t.lsw j := by
    unfold State.lsw
    rw [hu.cistern]
  refine ⟨(hLsw k).trans hOwn, fun j hj => (hLsw j).trans (hOthers j hj), ?_⟩
  have hAll := hu.reporting
  rw [hFrame] at hAll
  rw [hu.cistern]
  exact hAll

theorem Turns.within (h : Turns k y s t) : Within [.out, .cistern] s t := by
  have hFrame := h.frame
  clear h
  generalize t.cistern.switches = x at hFrame
  generalize t.out = o at hFrame
  subst hFrame
  exact within_of_eq_merge rfl

/-- What touches the Cistern, and what reporting changes. -/
def cisternParts : List Part := [.evt, .host, .ring, .log, .cnt, .out, .cistern]

/-- What turned and was then reported, the whole Cistern left open. -/
theorem Turns.told {u : State} (h : Turns k y s t) (hu : Reports t u) :
    u.lsw k = y ∧ u = { s.reporting u with cistern := u.cistern } := by
  have hWithin : Within cisternParts s u := (h.within.mono rfl).trans (hu.within.mono rfl)
  exact ⟨(h.reported hu).1, hWithin.eq_merge⟩

/-- What turned without a word. -/
theorem Turns.silent (h : Turns k y s t) (hOut : t.out = s.out) : t = { s with cistern := t.cistern } := by
  have hFrame : t = { s with out := t.out, cistern := t.cistern } := h.within.eq_merge
  rw [hOut] at hFrame
  exact hFrame

theorem Turns.drop (h : Turns k y s t) (st : LswState) :
    Turns k { y with state := st, waiting := false } s (t.lswDrop k st) :=
  (h.mod (fun x => { x with state := st, waiting := false })).emit _

/-- A switch that begins its soft start, or waits for the end of a VIN-fail sequence. -/
def Lsw.begun (run : Nat) (y : Lsw) : Lsw :=
  if run ≠ 0 then { y with waiting := true } else { y with state := .softStart, waiting := false }

/-- What LSW_EN and a VIN-fail sequence make of a switch that starts: one that is absent or latched stays. -/
def Lsw.started (run : Nat) (y : Lsw) : Lsw := if y.state = .absent ∨ y.state = .latched then y else y.begun run

theorem Turns.start (h : Turns k y s t) : Turns k (y.started s.cistern.run) s (t.lswStart k) := by
  unfold State.lswStart Lsw.started Lsw.begun
  rw [h.own, h.run]
  by_cases hStays : y.state = .absent ∨ y.state = .latched
  · have hTest : (decide (y.state = .absent) || decide (y.state = .latched)) = true := by simpa using hStays
    rw [if_pos hStays, if_pos hTest]
    exact h
  · have hTest : ¬ (decide (y.state = .absent) || decide (y.state = .latched)) = true := by simpa using hStays
    rw [if_neg hStays, if_neg hTest]
    by_cases hRun : s.cistern.run ≠ 0
    · rw [if_pos hRun, if_pos hRun]
      exact h.mod (fun x => { x with waiting := true })
    · rw [if_neg hRun, if_neg hRun]
      exact (h.mod (fun x => { x with state := .softStart, waiting := false })).emit _

/-! ### The start-up order (R856) -/

theorem State.lswNext_empty (h : s.cistern.lswQueue = []) : s.lswNext = s := by
  unfold State.lswNext
  rw [h]
  have hSame : s.setCs (fun c => { c with lswQueue := s.cistern.lswQueue }) = s := rfl
  rwa [h] at hSame

/-- The start-up order starts no switch that is absent, and moves the Cistern alone. -/
theorem State.lswNext_absent (h : (s.lsw k).state = .absent) :
    s.lswNext.lsw k = s.lsw k ∧ s.lswNext = { s with out := s.lswNext.out, cistern := s.lswNext.cistern } := by
  unfold State.lswNext
  cases hQueue : s.cistern.lswQueue.dropWhile (fun k => !((s.lsw k).enable && decide ((s.lsw k).state = .off))) with
  | nil => exact ⟨rfl, rfl⟩
  | cons j l =>
    have hFirst := List.head?_dropWhile_not (fun k => !((s.lsw k).enable && decide ((s.lsw k).state = .off)))
      s.cistern.lswQueue
    rw [hQueue] at hFirst
    have hOff : (s.lsw j).state = .off := by
      simp only [List.head?_cons, Bool.not_eq_false'] at hFirst
      exact of_decide_eq_true (Bool.and_eq_true_iff.mp (by simpa using hFirst)).2
    have hOther : k ≠ j := by
      rintro rfl
      exact absurd (h.symm.trans hOff) (by decide)
    obtain ⟨_, hOthers, hFrame⟩ := (Turns.refl j (s.setCs (fun c => { c with lswQueue := l }))).start
    refine ⟨hOthers k hOther, ?_⟩
    dsimp only
    generalize State.lswStart j (s.setCs (fun c => { c with lswQueue := l })) = u at hFrame
    generalize hSw : u.cistern.switches = x at hFrame
    generalize hO : u.out = o at hFrame
    rw [hFrame]
    rfl

end

/-! ### Events of a switch (R844 to R850, Table CS-6) -/

section
variable (s : State) (k : Fin 4)

theorem lswOn_completes (h : (s.lsw k.val).state = .softStart) (hQueue : s.cistern.lswQueue = []) :
    completesWith (.lswOn k) s (fun t =>
      t.lsw k.val = { s.lsw k.val with state := .on, pg := true } ∧ t.pends (72 + k.val)
      ∧ t = { s.reporting t with cistern := t.cistern }) := by
  refine ⟨_, congrArg Host.Outcome.next (if_pos h), ?_⟩
  have hTurns := (Turns.refl k.val s).mod (fun x => { x with state := .on, pg := true })
  have hRaised := State.raise_reports (s.modLsw k.val (fun x => { x with state := .on, pg := true })) (72 + k.val) 0 0
  rw [State.lswNext_empty ((congrArg Cistern.lswQueue hRaised.cistern :).trans hQueue)]
  obtain ⟨hOwn, hFrame⟩ := hTurns.told hRaised
  exact ⟨hOwn, State.raise_pends _ _ _ _, hFrame⟩

theorem lswFail_completes (c : Fin 5) (hc : c.val ≠ 0) (h : (s.lsw k.val).state = .on) (hQueue : s.cistern.lswQueue = []) :
    completesWith (.lswFail k c) s (fun t =>
      t.lsw k.val = { s.lsw k.val with fails := (s.lsw k.val).fails + 1, waiting := false
                                       pg := (s.lsw k.val).pg && decide (c.val = 3)
                                       state := if 8 ≤ (s.lsw k.val).fails + 1 then .latched else .retryWait }
      ∧ t.pends (76 + k.val) ∧ (8 ≤ (s.lsw k.val).fails + 1 → t.pends (80 + k.val))
      ∧ t = { s.reporting t with cistern := t.cistern }) := by
  refine ⟨_, congrArg Host.Outcome.next (if_neg (by simp [hc, h])), ?_⟩
  dsimp only
  have hTurns := ((Turns.refl k.val s).mod (fun x =>
    { x with fails := (s.lsw k.val).fails + 1, pg := x.pg && decide (c.val = 3) })).drop
      (if 8 ≤ (s.lsw k.val).fails + 1 then .latched else .retryWait)
  generalize State.lswDrop k.val _ _ = u at hTurns ⊢
  have hRaised := State.raise_reports u (76 + k.val) 0 c.val
  have hPends : (u.raise (76 + k.val) 0 c.val).pends (76 + k.val) := State.raise_pends _ _ _ _
  by_cases hLatch : 8 ≤ (s.lsw k.val).fails + 1
  · rw [if_pos hLatch]
    have hBoth := hRaised.trans (State.raise_reports (u.raise (76 + k.val) 0 c.val) (80 + k.val) 0 0)
    rw [State.lswNext_empty ((congrArg Cistern.lswQueue hBoth.cistern :).trans (hTurns.queue.trans hQueue))]
    obtain ⟨hOwn, hFrame⟩ := hTurns.told hBoth
    exact ⟨hOwn, State.raise_keepsPending _ _ _ _ _ hPends, fun _ => State.raise_pends _ _ _ _, hFrame⟩
  · rw [if_neg hLatch, State.lswNext_empty ((congrArg Cistern.lswQueue hRaised.cistern :).trans (hTurns.queue.trans hQueue))]
    obtain ⟨hOwn, hFrame⟩ := hTurns.told hRaised
    exact ⟨hOwn, hPends, fun hx => absurd hx hLatch, hFrame⟩

theorem exec_lswRetryExpiry (h : (s.lsw k.val).state = .retryWait) :
    exec (.lswRetryExpiry k) s = .next (s.lswStart k.val) := congrArg Host.Outcome.next (if_pos h)

/-- A switch that waits for its retry starts, or waits on. -/
theorem lswRetry_turns (h : (s.lsw k.val).state = .retryWait) :
    Turns k.val ((s.lsw k.val).begun s.cistern.run) s (s.lswStart k.val) := by
  have hStarts := (Turns.refl k.val s).start
  rwa [Lsw.started, if_neg (by simp [h])] at hStarts

theorem lswRetryExpiry_starts (h : (s.lsw k.val).state = .retryWait) (hRun : s.cistern.run = 0) :
    completesWith (.lswRetryExpiry k) s (fun t =>
      t.lsw k.val = { s.lsw k.val with state := .softStart, waiting := false }
      ∧ t = { s.reporting t with cistern := t.cistern }) := by
  refine ⟨_, exec_lswRetryExpiry s k h, ?_⟩
  have hTurns := lswRetry_turns s k h
  rw [Lsw.begun, if_neg (not_not.mpr hRun)] at hTurns
  exact hTurns.told (.refl _)

theorem lswRetryExpiry_waits (h : (s.lsw k.val).state = .retryWait) (hRun : s.cistern.run ≠ 0) :
    completesWith (.lswRetryExpiry k) s (fun t =>
      t.lsw k.val = { s.lsw k.val with waiting := true } ∧ t = { s with cistern := t.cistern }) := by
  refine ⟨_, exec_lswRetryExpiry s k h, ?_⟩
  have hTurns := lswRetry_turns s k h
  rw [Lsw.begun, if_pos hRun] at hTurns
  refine ⟨hTurns.own, hTurns.silent ?_⟩
  unfold State.lswStart
  rw [if_neg (by simp [h]), if_pos hRun]
  rfl

theorem lswFailCountClear_completes (h : (s.lsw k.val).state = .on) : completesWith (.lswFailCountClear k) s (fun t =>
    t.lsw k.val = { s.lsw k.val with fails := 0 } ∧ t = { s with cistern := t.cistern }) :=
  ⟨_, congrArg Host.Outcome.next (if_pos h), ((Turns.refl k.val s).mod (fun x => { x with fails := 0 })).own, rfl⟩

/-- A pulled board: the start-up order goes on when its soft start ends with it. -/
theorem lswPres_completes (h : (s.lsw k.val).state ≠ .absent) : completesWith (.lswPres k) s (fun t =>
    t.lsw k.val = { s.lsw k.val with state := .absent, pg := false, waiting := false } ∧ t.pends (84 + k.val)
    ∧ t = { s.reporting t with cistern := t.cistern }) := by
  refine ⟨_, congrArg Host.Outcome.next (if_neg h), ?_⟩
  dsimp only
  have hTurns := ((Turns.refl k.val s).mod (fun x => { x with pg := false })).drop .absent
  generalize State.lswDrop k.val _ _ = u at hTurns ⊢
  obtain ⟨hOwn, hFrame⟩ := hTurns.told (State.raise_reports u (84 + k.val) 0 0)
  have hPends : (u.raise (84 + k.val) 0 0).pends (84 + k.val) := State.raise_pends _ _ _ _
  generalize u.raise (84 + k.val) 0 0 = v at *
  by_cases hSoft : (s.lsw k.val).state = .softStart
  · rw [if_pos hSoft]
    have hAbsent : (v.lsw k.val).state = .absent := by rw [hOwn]
    obtain ⟨hKept, hNext⟩ := State.lswNext_absent hAbsent
    generalize v.lswNext = w at *
    refine ⟨hKept.trans hOwn, ?_, ?_⟩
    · rw [hNext]
      exact hPends
    · rw [hNext, hFrame]
      rfl
  · rw [if_neg hSoft]
    exact ⟨hOwn, hPends, hFrame⟩

theorem lswReinsertion_completes (h : (s.lsw k.val).state = .absent) (hOff : (s.lsw k.val).enable = false) :
    completesWith (.lswReinsertion k) s (fun t =>
      t.lsw k.val = { s.lsw k.val with state := .off, fails := 0, waiting := false } ∧ t.pends (84 + k.val)
      ∧ t = { s.reporting t with cistern := t.cistern }) := by
  refine ⟨_, congrArg Host.Outcome.next (if_neg (not_not.mpr h)), ?_⟩
  dsimp only
  rw [hOff, if_neg Bool.false_ne_true]
  have hTurns := (Turns.refl k.val s).mod (fun x => { x with state := .off, fails := 0, waiting := false })
  obtain ⟨hOwn, hFrame⟩ := hTurns.told (State.raise_reports _ (84 + k.val) 0 0)
  rw [hOff] at hOwn
  exact ⟨hOwn, State.raise_pends _ _ _ _, hFrame⟩

end

/-! ### LSW_SET (R725 to R727, R843, R853) -/

section
variable {s : State} {q : Req}

/-- LSW_SET's body on the manager's own node. -/
theorem lswBody_own (k : Fin 4) (a : Nat) (ha : a ≤ 2) {w : Byte} (hw : w.toNat ≤ 100) (t : State) :
    lswBody (lswReq q 0 k a w) t = .go (State.atNode 0x0A01 (lswReq q 0 k a w) 0 (fun u =>
      u.lswSet (lswReq q 0 k a w) k.val a w.toNat)) := by
  have hNode : u8 (lswReq q 0 k a w).payload 0 = 0 := rfl
  have hSwitch : u8 (lswReq q 0 k a w).payload 1 = k.val := Nat.mod_eq_of_lt (by omega)
  have hAction : u8 (lswReq q 0 k a w).payload 2 = a := Nat.mod_eq_of_lt (by omega)
  have hWindow : u8 (lswReq q 0 k a w).payload 3 = w.toNat := rfl
  have hZero : zeroAt (lswReq q 0 k a w).payload 4 4 = true := rfl
  have hLen : (lswReq q 0 k a w).payload.length = 8 := rfl
  unfold lswBody
  dsimp only
  rw [hNode, hSwitch, hAction, hWindow, hZero, hLen]
  have hk := k.isLt
  exact if_neg (by simp; omega)

theorem exec_lswSet (k : Fin 4) (a : Nat) (ha : a ≤ 2) {w : Byte} (hw : w.toNat ≤ 100)
    (h : s.admits 0x0A01 (lswReq q 0 k a w)) : s.serve 0x0A01 (lswReq q 0 k a w) lswBody =
      (s.dropSeg 0x0A01 (lswReq q 0 k a w)).lswSet (lswReq q 0 k a w) k.val a w.toNat := by
  rw [State.serve_go h (lswBody_own k a ha hw _), State.atNode_own (State.admits_isManager h)]

/-- A switch with a new window, unless it is zero. -/
def Lsw.windowed (win : Nat) (y : Lsw) : Lsw := { y with window := if win = 0 then y.window else win }

/-- A switch's window set. -/
def State.lswWindow (k win : Nat) (s : State) : State :=
  if win = 0 then s else s.modLsw k (fun y => { y with window := win })

theorem Turns.windowed (k win : Nat) (s : State) : Turns k ((s.lsw k).windowed win) s (s.lswWindow k win) := by
  unfold State.lswWindow Lsw.windowed
  split
  · exact .refl k s
  · exact (Turns.refl k s).mod (fun y => { y with window := win })

section
variable (u : State) (k win : Nat)

/-- A switch enabled, disabled, or its failures forgotten, its window set. -/
def State.lswEnabled : State := ((u.lswWindow k win).modLsw k (fun y => { y with enable := true })).lswStart k
def State.lswDisabled : State :=
  (u.lswWindow k win).modLsw k (fun y => { y with enable := false, waiting := false })
def State.lswRearmed : State := (u.lswWindow k win).modLsw k (fun y => { y with state := .off, fails := 0 })

theorem State.lswSet_enable : u.lswSet q k 0 win =
    if (u.lsw k).enable = true then u.reply 0x0A01 q (.ignored 6) else (u.lswEnabled k win).reply 0x0A01 q .done := by
  unfold State.lswSet
  dsimp only
  cases (u.lsw k).enable <;> rfl

theorem State.lswSet_disable : u.lswSet q k 1 win =
    if (u.lsw k).enable = false then u.reply 0x0A01 q (.ignored 6)
    else State.reply 0x0A01 q .done (if (u.lsw k).state = .absent ∨ (u.lsw k).state = .latched then u.lswDisabled k win
      else ((u.lswDisabled k win).modLsw k (fun y => { y with pg := false })).lswDrop k .off) := by
  unfold State.lswSet
  dsimp only
  cases (u.lsw k).enable <;> rfl

theorem State.lswSet_rearm : u.lswSet q k 2 win =
    if (u.lsw k).state = .latched ∨ (u.lsw k).state = .retryWait then
      State.reply 0x0A01 q .done (if (u.lsw k).enable = true then (u.lswRearmed k win).lswStart k else u.lswRearmed k win)
    else u.reply 0x0A01 q (.ignored 6) := by
  unfold State.lswSet
  dsimp only
  cases (u.lsw k).state <;> rfl

end

theorem State.dropSeg_cistern (opc : Nat) (q : Req) (s : State) : (s.dropSeg opc q).cistern = s.cistern :=
  (s.dropSeg_reports opc q).cistern

theorem State.dropSeg_lsw (opc : Nat) (q : Req) (s : State) (k : Nat) : (s.dropSeg opc q).lsw k = s.lsw k := by
  unfold State.lsw
  rw [State.dropSeg_cistern]

/-- What an answered LSW_SET leaves. -/
def lswLeaves (r : Req) (k : Nat) (st : Nat) (y : Lsw) (s t : State) : Prop :=
  t.answers 0x0A01 r st [] ∧ t.lsw k = y
  ∧ (∀ j, j ≠ k → t.lsw j = s.lsw j)
  ∧ t = { s.reporting t with cistern := { s.cistern with switches := t.cistern.switches } }

/-- Two outcomes that leave the same beside the switch. -/
theorem lswLeaves_ite {r : Req} {k a b : Nat} {y z : Lsw} {t : State} {c : Prop} [Decidable c]
    (h : if c then lswLeaves r k a y s t else lswLeaves r k b z s t) :
    (if c then t.answers 0x0A01 r a [] ∧ t.lsw k = y else t.answers 0x0A01 r b [] ∧ t.lsw k = z)
    ∧ (∀ j, j ≠ k → t.lsw j = s.lsw j)
    ∧ t = { s.reporting t with cistern := { s.cistern with switches := t.cistern.switches } } := by
  by_cases hc : c
  · rw [if_pos hc] at h ⊢
    obtain ⟨hAnswers, hOwn, hFramed⟩ := h
    exact ⟨⟨hAnswers, hOwn⟩, hFramed⟩
  · rw [if_neg hc] at h ⊢
    obtain ⟨hAnswers, hOwn, hFramed⟩ := h
    exact ⟨⟨hAnswers, hOwn⟩, hFramed⟩

theorem lswLeaves_of_turns {k : Nat} {y : Lsw} {u t : State} (hu : Reports s u) (hManager : u.isManager = true)
    (h : Turns k y u t) (st : Status) : lswLeaves q k st.code y s (t.reply 0x0A01 q st) := by
  have hRole : t.isManager = true := (congrArg State.isManager h.frame :).trans hManager
  obtain ⟨hOwn, hOthers, hFrame⟩ := h.reported (State.answer_reports t 0x0A01 q st [])
  have hLsw (j : Nat) : u.lsw j = s.lsw j := by
    unfold State.lsw
    rw [hu.cistern]
  refine ⟨State.answer_answers hRole _ _ _ _, hOwn, fun j hj => (hOthers j hj).trans (hLsw j), ?_⟩
  have hSame (v : State) : u.reporting v = s.reporting v := by
    rw [hu.reporting]
    rfl
  rw [hSame, hu.cistern] at hFrame
  exact hFrame

variable {k : Fin 4} {w : Byte} {y : Lsw} {t : State}

/-- LSW_SET's own state, once the request is admitted. -/
theorem lswSet_leaves {a : Nat} (ha : a ≤ 2) (hw : w.toNat ≤ 100) (h : s.admits 0x0A01 (lswReq q 0 k a w)) {st : Status}
    (hRuns : (s.dropSeg 0x0A01 (lswReq q 0 k a w)).lswSet (lswReq q 0 k a w) k.val a w.toNat =
      t.reply 0x0A01 (lswReq q 0 k a w) st)
    (hTurns : Turns k.val y (s.dropSeg 0x0A01 (lswReq q 0 k a w)) t) :
    lswLeaves (lswReq q 0 k a w) k.val st.code y s (s.serve 0x0A01 (lswReq q 0 k a w) lswBody) := by
  rw [exec_lswSet k a ha hw h, hRuns]
  exact lswLeaves_of_turns (s.dropSeg_reports _ _) (State.admits_isManager h) hTurns st

/-- A switch whose request is not for it stays. -/
theorem lswSet_ignored {a : Nat} (ha : a ≤ 2) (hw : w.toNat ≤ 100) (h : s.admits 0x0A01 (lswReq q 0 k a w))
    (hRuns : (s.dropSeg 0x0A01 (lswReq q 0 k a w)).lswSet (lswReq q 0 k a w) k.val a w.toNat =
      (s.dropSeg 0x0A01 (lswReq q 0 k a w)).reply 0x0A01 (lswReq q 0 k a w) (.ignored 6)) :
    lswLeaves (lswReq q 0 k a w) k.val 3 (s.lsw k.val) s (s.serve 0x0A01 (lswReq q 0 k a w) lswBody) := by
  have hStays := Turns.refl k.val (s.dropSeg 0x0A01 (lswReq q 0 k a w))
  rw [State.dropSeg_lsw] at hStays
  exact lswSet_leaves ha hw h hRuns hStays

/-- A switch with the window that a request names. -/
def Lsw.asked (w : Byte) (y : Lsw) : Lsw := { y with window := if w.toNat = 0 then y.window else w.toNat }

theorem lswEnable_completes (hw : w.toNat ≤ 100) (h : s.admits 0x0A01 (lswReq q 0 k 0 w)) :
    completesWith (.lswEnable q 0 k w) s (fun t =>
      if (s.lsw k.val).enable = true then lswLeaves (lswReq q 0 k 0 w) k.val 3 (s.lsw k.val) s t
      else lswLeaves (lswReq q 0 k 0 w) k.val 0
        (Lsw.started s.cistern.run { (s.lsw k.val).asked w with enable := true }) s t) := by
  refine ⟨_, rfl, ?_⟩
  have hSet := State.lswSet_enable (q := lswReq q 0 k 0 w) (s.dropSeg 0x0A01 (lswReq q 0 k 0 w)) k.val w.toNat
  rw [State.dropSeg_lsw] at hSet
  beta_reduce
  by_cases hOn : (s.lsw k.val).enable = true
  · rw [if_pos hOn] at hSet ⊢
    exact lswSet_ignored (by decide) hw h hSet
  · rw [if_neg hOn] at hSet ⊢
    have hTurns := ((Turns.windowed k.val w.toNat (s.dropSeg 0x0A01 (lswReq q 0 k 0 w))).mod
      (fun y => { y with enable := true })).start
    rw [State.dropSeg_lsw, State.dropSeg_cistern] at hTurns
    exact lswSet_leaves (by decide) hw h hSet hTurns

theorem lswDisable_completes (hw : w.toNat ≤ 100) (h : s.admits 0x0A01 (lswReq q 0 k 1 w)) :
    completesWith (.lswDisable q 0 k w) s (fun t =>
      if (s.lsw k.val).enable = false then lswLeaves (lswReq q 0 k 1 w) k.val 3 (s.lsw k.val) s t
      else lswLeaves (lswReq q 0 k 1 w) k.val 0 (if (s.lsw k.val).state = .absent ∨ (s.lsw k.val).state = .latched then
          { (s.lsw k.val).asked w with enable := false, waiting := false }
        else { (s.lsw k.val).asked w with enable := false, waiting := false, pg := false, state := .off }) s t) := by
  refine ⟨_, rfl, ?_⟩
  have hSet := State.lswSet_disable (q := lswReq q 0 k 1 w) (s.dropSeg 0x0A01 (lswReq q 0 k 1 w)) k.val w.toNat
  rw [State.dropSeg_lsw] at hSet
  beta_reduce
  by_cases hOff : (s.lsw k.val).enable = false
  · rw [if_pos hOff] at hSet ⊢
    exact lswSet_ignored (by decide) hw h hSet
  · rw [if_neg hOff] at hSet ⊢
    have hTurns := (Turns.windowed k.val w.toNat (s.dropSeg 0x0A01 (lswReq q 0 k 1 w))).mod
      (fun y => { y with enable := false, waiting := false })
    have hDrops := (hTurns.mod (fun y => { y with pg := false })).drop .off
    rw [State.dropSeg_lsw] at hTurns hDrops
    by_cases hStays : (s.lsw k.val).state = .absent ∨ (s.lsw k.val).state = .latched
    · rw [if_pos hStays] at hSet ⊢
      exact lswSet_leaves (by decide) hw h hSet hTurns
    · rw [if_neg hStays] at hSet ⊢
      exact lswSet_leaves (by decide) hw h hSet hDrops

theorem lswRearm_completes (hw : w.toNat ≤ 100) (h : s.admits 0x0A01 (lswReq q 0 k 2 w)) :
    completesWith (.lswRearm q 0 k w) s (fun t =>
      if (s.lsw k.val).state = .latched ∨ (s.lsw k.val).state = .retryWait then
        lswLeaves (lswReq q 0 k 2 w) k.val 0 (if (s.lsw k.val).enable = true then
            Lsw.begun s.cistern.run { (s.lsw k.val).asked w with state := .off, fails := 0 }
          else { (s.lsw k.val).asked w with state := .off, fails := 0 }) s t
      else lswLeaves (lswReq q 0 k 2 w) k.val 3 (s.lsw k.val) s t) := by
  refine ⟨_, rfl, ?_⟩
  have hSet := State.lswSet_rearm (q := lswReq q 0 k 2 w) (s.dropSeg 0x0A01 (lswReq q 0 k 2 w)) k.val w.toNat
  rw [State.dropSeg_lsw] at hSet
  beta_reduce
  by_cases hActs : (s.lsw k.val).state = .latched ∨ (s.lsw k.val).state = .retryWait
  · rw [if_pos hActs] at hSet ⊢
    have hTurns := (Turns.windowed k.val w.toNat (s.dropSeg 0x0A01 (lswReq q 0 k 2 w))).mod
      (fun y => { y with state := .off, fails := 0 })
    have hStarts := hTurns.start
    rw [Lsw.started, if_neg (by simp), State.dropSeg_cistern] at hStarts
    rw [State.dropSeg_lsw] at hTurns hStarts
    by_cases hOn : (s.lsw k.val).enable = true
    · rw [if_pos hOn] at hSet ⊢
      exact lswSet_leaves (by decide) hw h hSet hStarts
    · rw [if_neg hOn] at hSet ⊢
      exact lswSet_leaves (by decide) hw h hSet hTurns
  · rw [if_neg hActs] at hSet ⊢
    exact lswSet_ignored (by decide) hw h hSet

end

/-! ### O20 -/

/-- Settles O20: each event and each action turns one switch (`Turns`), and the rest is told. -/
theorem loadSwitchCommands : Obligations.LoadSwitchCommands := by
  refine ⟨fun s k => ⟨?_, fun c hc => ?_, ?_, ?_, ?_, ?_, ?_⟩, fun s q k w hw => ⟨?_, ?_, ?_⟩⟩
  · exact lswOn_completes s k
  · exact lswFail_completes s k c hc
  · exact lswRetryExpiry_starts s k
  · exact lswRetryExpiry_waits s k
  · exact lswFailCountClear_completes s k
  · exact lswPres_completes s k
  · exact lswReinsertion_completes s k
  · rintro r rfl h
    obtain ⟨t, hExec, hLeaves⟩ := lswEnable_completes hw h
    exact ⟨t, hExec, lswLeaves_ite hLeaves⟩
  · rintro r rfl h
    obtain ⟨t, hExec, hLeaves⟩ := lswDisable_completes hw h
    exact ⟨t, hExec, lswLeaves_ite hLeaves⟩
  · rintro r rfl h
    obtain ⟨t, hExec, hLeaves⟩ := lswRearm_completes hw h
    exact ⟨t, hExec, lswLeaves_ite hLeaves⟩

end Sys2Proof.Machine
end

section
/-!
# The cipher block

The entropy source, the fallback nonce, a bank's zeroisation and the masked engines.
-/
namespace Sys2Proof.Machine

-- One theorem after another: the stacks of many that wait at once would exceed the memory of the check.
set_option Elab.async false

section
variable (s : State)

/-! ### Raw samples (R575, R576, R578) -/

/-- The source's next samples taken. -/
def State.sampled : State := { s with fresh := s.fresh + 1, cipher := (s.cipher.sample s.nextRaw).1 }

/-- The entropy source out, or back. -/
def State.setEntropy (ok : Bool) : State := { s with cipher := { s.cipher with entropyOk := ok } }

theorem exec_cyEntropyFail : exec .cyEntropyFail s = .next
    (if (!(s.cipher.sample s.nextRaw).2 || !s.cipher.entropyOk) = true then s.sampled
     else ((s.sampled.setEntropy false).inc 0x5C8).raise 544 0 0) := rfl

theorem Cipher.sample_entropyOk (l : List Bool) (c : Cipher) : (c.sample l).1.entropyOk = c.entropyOk := rfl

theorem State.setEntropy_self {ok : Bool} (h : s.cipher.entropyOk = ok) : s.setEntropy ok = s := by
  subst h
  rfl

theorem cyEntropyFail_completes : completesWith .cyEntropyFail s (fun t =>
    let r := s.cipher.sample s.nextRaw
    t.cipher = { r.1 with entropyOk := s.cipher.entropyOk && !r.2 }
    ∧ (r.2 = true → s.cipher.entropyOk = true → t.pends 544)
    ∧ t = { s.reporting t with cipher := t.cipher, fresh := s.fresh + 1 }) := by
  refine ⟨_, exec_cyEntropyFail s, ?_⟩
  dsimp only
  by_cases hFails : (s.cipher.sample s.nextRaw).2 = true ∧ s.cipher.entropyOk = true
  · obtain ⟨hBad, hOk⟩ := hFails
    rw [if_neg (by simp [hBad, hOk])]
    have hReports := (State.inc_reports (s.sampled.setEntropy false) 0x5C8).trans (State.raise_reports _ 544 0 0)
    have hCipher : _ = { (s.cipher.sample s.nextRaw).1 with entropyOk := false } := hReports.cipher
    refine ⟨?_, fun _ _ => State.raise_pends _ _ _ _, ?_⟩
    · rw [hCipher, hBad, hOk]
      rfl
    · have hFrame := hReports.reporting
      rw [hCipher]
      exact hFrame
  · rw [if_pos (by
      rw [Bool.or_eq_true, Bool.not_eq_true', Bool.not_eq_true']
      exact (not_and_or.mp hFails).imp Bool.eq_false_iff.mpr Bool.eq_false_iff.mpr)]
    have hStill : (s.cipher.entropyOk && !(s.cipher.sample s.nextRaw).2) = s.cipher.entropyOk := by
      cases hOk : s.cipher.entropyOk <;> cases hBad : (s.cipher.sample s.nextRaw).2 <;> simp_all
    refine ⟨?_, fun hBad hOk => absurd ⟨hBad, hOk⟩ hFails, rfl⟩
    rw [hStill]
    have hKept := Cipher.sample_entropyOk s.nextRaw s.cipher
    change (s.cipher.sample s.nextRaw).1 = _
    generalize (s.cipher.sample s.nextRaw).1 = c at hKept ⊢
    rw [← hKept]

/-- The health tests begun again over samples. -/
def Cipher.retest (l : List Bool) (c : Cipher) : Cipher × Bool := ({ c with health := {} } : Cipher).sample l

theorem exec_entropyRetest {s : State} (l : List Bool) (h : s.cipher.entropyOk = false) :
    exec (.entropyRetest l) s = .next (if ((s.cipher.retest l).2 || decide (l.length < 4096)) = true
      then { s with cipher := (s.cipher.retest l).1 }
      else ({ s with cipher := { (s.cipher.retest l).1 with entropyOk := true } }).raise 545 0 0) :=
  congrArg Host.Outcome.next (if_neg (by simp [h]))

theorem entropyRetest_completes {s : State} (l : List Bool) (h : s.cipher.entropyOk = false) :
    completesWith (.entropyRetest l) s (fun t =>
      let r := ({ s.cipher with health := {} } : Cipher).sample l
      t.cipher = { r.1 with entropyOk := !r.2 && decide (4096 ≤ l.length) }
      ∧ (t.cipher.entropyOk = true → t.pends 545) ∧ t = { s.reporting t with cipher := t.cipher }) := by
  refine ⟨_, exec_entropyRetest l h, ?_⟩
  change _ = { (s.cipher.retest l).1 with entropyOk := !(s.cipher.retest l).2 && decide (4096 ≤ l.length) } ∧ _ ∧ _
  have hStill : (s.cipher.retest l).1.entropyOk = false := h
  by_cases hFails : ((s.cipher.retest l).2 || decide (l.length < 4096)) = true
  · rw [if_pos hFails]
    have hOut : (!(s.cipher.retest l).2 && decide (4096 ≤ l.length)) = false := by
      rw [Bool.eq_false_iff]
      simp only [Bool.or_eq_true, decide_eq_true_eq] at hFails
      simp only [ne_eq, Bool.and_eq_true, Bool.not_eq_true', decide_eq_true_eq, not_and]
      rintro hGood hLong
      rcases hFails with hBad | hShort
      · exact absurd (hBad.symm.trans hGood) (by decide)
      · omega
    rw [hOut]
    generalize (s.cipher.retest l).1 = c at hStill ⊢
    refine ⟨?_, fun hOk => absurd (hStill.symm.trans hOk) (by decide), rfl⟩
    rw [← hStill]
  · rw [if_neg hFails]
    have hIn : (!(s.cipher.retest l).2 && decide (4096 ≤ l.length)) = true := by
      simp only [Bool.or_eq_true, decide_eq_true_eq, not_or, Bool.not_eq_true] at hFails
      simp [hFails.1, not_lt.mp hFails.2]
    rw [hIn]
    generalize (s.cipher.retest l).1 = c
    have hReports := State.raise_reports { s with cipher := { c with entropyOk := true } } 545 0 0
    refine ⟨hReports.cipher, fun _ => State.raise_pends _ _ _ _, ?_⟩
    have hFrame := hReports.reporting
    rw [hReports.cipher]
    exact hFrame

theorem exec_entropyRetest_runs {s : State} (l : List Bool) (h : s.cipher.entropyOk = true) :
    exec (.entropyRetest l) s = .next s := congrArg Host.Outcome.next (if_pos h)

/-! ### The fallback nonce and the reseed (R577, R579, R581, R582) -/

/-- The nonce from the next start count, and on a manager the chain key with it. -/
def State.fallback : State :=
  let n := s.cipher.startCount + 1
  let s1 := { s with cipher := { s.cipher with
    startCount := n, bootNonce := (Config.deriveKey 0 (labelNonce n)).setWidth 64 } }
  if s.isManager then s1.putVault 16 (some (Config.deriveKey 0 (labelChain n))) else s1

/-- A worker asks to join with its boot nonce. -/
def State.nonceShown : State := { s with ring := { s.ring with join := { s.ring.join with nonce := s.cipher.bootNonce } } }

theorem exec_cyFallbackNonce {s : State} (h : s.cipher.entropyOk = false) (hStore : (s.isManager || s.start.hasFlash) = true) :
    exec .cyFallbackNonce s = .next (s.fallback.nonceShown.raise 555 0 0) :=
  congrArg Host.Outcome.next (if_neg (by rw [h, hStore]; decide))

theorem State.fallback_cipher : s.fallback.cipher = { s.cipher with
      startCount := s.cipher.startCount + 1
      bootNonce := (Config.deriveKey 0 (labelNonce (s.cipher.startCount + 1))).setWidth 64
      vault := if s.isManager = true
        then Tab.set none s.cipher.vault 16 (some (Config.deriveKey 0 (labelChain (s.cipher.startCount + 1))))
        else s.cipher.vault } := by
  unfold State.fallback
  dsimp only
  split <;> rfl

theorem State.fallback_within : Within [.cipher] s s.fallback := by
  unfold State.fallback
  dsimp only
  split <;> exact within_of_eq_merge rfl

theorem cyFallbackNonce_completes {s : State} (h : s.cipher.entropyOk = false)
    (hStore : (s.isManager || s.start.hasFlash) = true) : completesWith .cyFallbackNonce s (fun t =>
      let n := s.cipher.startCount + 1
      t.cipher = { s.cipher with
        startCount := n, bootNonce := (Config.deriveKey 0 (labelNonce n)).setWidth 64, vault := t.cipher.vault }
      ∧ Tab.get none t.cipher.vault 16 = (if s.isManager then some (Config.deriveKey 0 (labelChain n))
        else Tab.get none s.cipher.vault 16)
      ∧ (∀ v, v ≠ 16 → Tab.get none t.cipher.vault v = Tab.get none s.cipher.vault v)
      ∧ t.ring.join = { s.ring.join with nonce := t.cipher.bootNonce } ∧ t.pends 555
      ∧ t = { s.reporting t with cipher := t.cipher }) := by
  refine ⟨_, exec_cyFallbackNonce h hStore, ?_⟩
  have hShown : Within [.ring] s.fallback s.fallback.nonceShown := within_of_eq_merge rfl
  have hReports := State.raise_reports s.fallback.nonceShown 555 0 0
  have hWithin : Within [.evt, .host, .ring, .log, .cnt, .out, .cipher] s (s.fallback.nonceShown.raise 555 0 0) :=
    ((s.fallback_within.mono rfl).trans (hShown.mono rfl)).trans (hReports.within.mono rfl)
  have hCipher := hReports.cipher.trans s.fallback_cipher
  have hJoin : (s.fallback.nonceShown.raise 555 0 0).ring.join = s.fallback.nonceShown.ring.join :=
    (congrArg Ring.join (Sends.raise (.refl _) 555 0 0).rest :)
  have hRing : s.fallback.ring = s.ring := s.fallback_within.ring rfl
  refine ⟨?_, ?_, fun v hv => ?_, ?_, State.raise_pends _ _ _ _, hWithin.eq_merge⟩
  · rw [hCipher]
  · rw [hCipher]
    dsimp only
    split
    · exact Tab.get_set_same ..
    · rfl
  · rw [hCipher]
    dsimp only
    split
    · exact Tab.get_set_other _ _ _ hv
    · rfl
  · rw [hJoin, hReports.cipher, ← hRing]
    rfl

theorem exec_cyFallbackNonce_not {s : State} (h : s.cipher.entropyOk = true ∨ (s.isManager || s.start.hasFlash) = false) :
    exec .cyFallbackNonce s = .next s := by
  refine congrArg Host.Outcome.next (if_pos ?_)
  rcases h with h | h
  · rw [h, Bool.true_or]
  · rw [h, Bool.not_false, Bool.or_true]

theorem drbgReseed_completes {s : State} (h : s.cipher.entropyOk = true) : completesWith .drbgReseed s (fun t =>
    t.cipher = { s.cipher with drbgReady := true, seed := [] }
    ∧ Tab.get 0 t.cnt 0x5C7 = (Tab.get 0 s.cnt 0x5C7 + 1) % 2 ^ 40
    ∧ t = { s.reporting t with cipher := t.cipher }) := by
  refine ⟨_, congrArg Host.Outcome.next (if_pos h), ?_⟩
  have hReports := State.inc_reports { s with cipher := { s.cipher with drbgReady := true, seed := [] } } 0x5C7
  refine ⟨hReports.cipher, State.count_cnt_same (.inl (by decide)) _ _, ?_⟩
  have hWithin : Within [.cipher] s { s with cipher := { s.cipher with drbgReady := true, seed := [] } } :=
    within_of_eq_merge rfl
  have hAll : Within [.evt, .host, .ring, .log, .cnt, .out, .cipher] s s.reseed :=
    (hWithin.mono rfl).trans (hReports.within.mono rfl)
  exact hAll.eq_merge

theorem exec_drbgReseed_not {s : State} (h : s.cipher.entropyOk = false) : exec .drbgReseed s = .next s :=
  congrArg Host.Outcome.next (if_neg (by simp [h]))

/-! ### A bank is zeroised (R592) -/

/-- A bank's zeroisation done. -/
def State.zeroised (k b : Nat) : State := s.modBank k b (fun x => { x with erasing := false })

/-- The end of a zeroisation told, and answered to who waits for this bank. -/
def State.zeroTold (k b : Nat) : State :=
  ((s.zeroised k b).raise 548 (slotObj k) 0).answerOn (.zeroise k b) .done []

/-- The end answered to who waits for both banks, when the other one is not being erased. -/
def State.zeroAnswered (k b : Nat) : State :=
  if ((s.zeroTold k b).bank k (1 - b)).erasing = true then s.zeroTold k b
  else (s.zeroTold k b).answerOn (.zeroise k 2) .done []

theorem exec_keyZeroise {s : State} {k : Fin 256} {b : BankNo} (h : (s.bank k.val b.val).erasing = true)
    (hFree : s.bankBusy k.val b.val = false) : exec (.keyZeroise k b) s = .next (s.zeroAnswered k.val b.val) :=
  congrArg Host.Outcome.next (if_neg (by simp [h, hFree]))

theorem State.zeroTold_adds (k b : Nat) :
    Adds reportParts ((s.zeroised k b).raise 548 (slotObj k) 0) (s.zeroTold k b) := State.answerOn_adds _ _ _ _

theorem State.zeroAnswered_adds (k b : Nat) :
    Adds reportParts ((s.zeroised k b).raise 548 (slotObj k) 0) (s.zeroAnswered k b) :=
  (s.zeroTold_adds k b).trans ((Adds.refl _ _).ite (State.answerOn_adds _ _ _ _))

theorem keyZeroise_completes {s : State} {k : Fin 256} {b : BankNo} (h : (s.bank k.val b.val).erasing = true)
    (hFree : s.bankBusy k.val b.val = false) : completesWith (.keyZeroise k b) s (fun t =>
      t.bank k.val b.val = { s.bank k.val b.val with erasing := false } ∧ t.pends 548
      ∧ (∀ j, j ≠ k.val * 2 + b.val → Tab.get {} t.cipher.banks j = Tab.get {} s.cipher.banks j)
      ∧ t = { s.reporting t with cipher := { s.cipher with banks := t.cipher.banks } }) := by
  refine ⟨_, exec_keyZeroise h hFree, ?_⟩
  have hAdds : Adds reportParts (s.zeroised k.val b.val) (s.zeroAnswered k.val b.val) :=
    (State.raise_adds _ _ _ _).trans (s.zeroAnswered_adds k.val b.val)
  have hPends : (s.zeroAnswered k.val b.val).pends 548 :=
    (s.zeroAnswered_adds k.val b.val).pending.after_raise
  have hCipher : (s.zeroAnswered k.val b.val).cipher = (s.zeroised k.val b.val).cipher := hAdds.within.cipher rfl
  refine ⟨?_, hPends, fun j hj => ?_, ?_⟩
  · unfold State.bank
    rw [hCipher]
    exact Tab.get_modify_same _ _ _ (fun x : Bank => { x with erasing := false })
  · rw [hCipher]
    exact Tab.get_modify_other _ _ (fun x : Bank => { x with erasing := false }) hj
  · have hFrame := hAdds.within.reporting
    generalize s.zeroAnswered k.val b.val = t at hFrame hCipher ⊢
    rw [hCipher]
    exact hFrame

theorem exec_keyZeroise_not {s : State} {k : Fin 256} {b : BankNo}
    (h : (s.bank k.val b.val).erasing = false ∨ s.bankBusy k.val b.val = true) : exec (.keyZeroise k b) s = .next s := by
  refine congrArg Host.Outcome.next (if_pos ?_)
  rcases h with h | h
  · rw [h, Bool.not_false, Bool.true_or]
  · rw [h, Bool.or_true]

/-! ### The masked engines (R568 to R574) -/

theorem exec_maskedJob_none {s : State} (e : Fin 2) (f : List MaskJob) (n : Nat)
    (h : s.cipher.jobs ++ f.flatMap jobParts = []) : exec (.maskedJob ⟨e, f⟩ n) s = .next s := by
  change execMaskedJob ⟨e, f⟩ n s = _
  unfold execMaskedJob
  dsimp only
  rw [h]
  rfl

theorem exec_maskedJob {s : State} {e : Fin 2} {f : List MaskJob} {p : MaskPart} {i : Nat} (n : Nat)
    (h : nextJob e.val (s.cipher.jobs ++ f.flatMap jobParts) = some (p, i)) : exec (.maskedJob ⟨e, f⟩ n) s =
      .next ((s.maskStall n).doJob e.val p i (s.cipher.jobs ++ f.flatMap jobParts)) := by
  change execMaskedJob ⟨e, f⟩ n s = _
  unfold execMaskedJob
  dsimp only
  rw [h]

theorem State.maskStall_adds (n : Nat) : Adds reportParts s (s.maskStall n) := by
  have hCount : Adds reportParts s (s.count 0x5C5 n) := State.count_adds _ _ _
  exact hCount.trans ((State.raiseWin_adds _ _ _ _ _ _).ite (.refl _ _))

theorem State.maskStall_cnt {i : Nat} (hi : besideMailboxes i) (n : Nat) :
    Tab.get 0 (s.maskStall n).cnt i = Tab.get 0 (s.count 0x5C5 n).cnt i := by
  unfold State.maskStall
  by_cases hLong : msTicks ≤ n * (if s.clk.coreSave then 10 else 8) * 1000
  · rw [if_pos hLong]
    exact State.raiseWin_cnt hi _ _ _ _ _ _
  · rw [if_neg hLong]

theorem State.postHalf_windows (w : W32) (o : Nat) : (s.postHalf w o).evt.windows = s.evt.windows := by
  have hPost (e : Events) : (cntPost w e).1.windows = e.windows := by
    unfold cntPost
    split
    · rfl
    · split <;> rfl
  have hRaise (src obj : Nat) (t : State) : (t.raise src obj 0).evt.windows = t.evt.windows :=
    (congrArg Events.windows (State.raise_besideStatus src obj 0 t) :)
  unfold State.postHalf
  split
  · dsimp only
    split
    · exact hPost _
    · exact (hRaise _ _ _).trans (hPost _)
  · exact hRaise _ _ _

theorem State.count_windows (i n : Nat) : (s.count i n).evt.windows = s.evt.windows := by
  unfold State.count
  dsimp only
  split
  · exact State.postHalf_windows _ _ _
  · rfl

theorem State.raiseWin_pends {s : State} {src sub : Nat} (n obj detail : Nat)
    (h : Tab.get 0 s.evt.windows (windowKey src sub) ≤ s.bnd) : (s.raiseWin n src sub obj detail).pends src := by
  unfold State.raiseWin
  dsimp only
  rw [if_neg (not_lt.mpr h)]
  exact State.raise_pends _ _ _ _

theorem State.maskStall_pends {s : State} {n : Nat} (hLong : msTicks ≤ n * (if s.clk.coreSave then 10 else 8) * 1000)
    (h : Tab.get 0 s.evt.windows (windowKey 551 0) ≤ s.bnd) : (s.maskStall n).pends 551 := by
  unfold State.maskStall
  dsimp only
  rw [if_pos hLong]
  refine State.raiseWin_pends _ _ _ ?_
  rw [State.count_windows, (State.count_reports _ _ _).bnd]
  exact h

/-- What an engine gives for a part: nothing for a message of a length that its mode does not accept. -/
def engineGives (key : List Byte) (p : MaskPart) (ok : Bool) : MaskEngine :=
  { key := key, lenErr := !ok, out := if ok then partOutput p key else [] }

/-- An engine's part done, its key and the job list given. -/
def State.jobDone (e : Nat) (p : MaskPart) (i : Nat) (jobs : List MaskPart) (key : List Byte) (ok : Bool) : State :=
  { s with
    fresh := s.fresh + if ok then partBlocks p else 0
    cipher := { s.cipher with jobs := jobs.eraseIdx i, masked := Tab.set {} s.cipher.masked e (engineGives key p ok) } }

theorem State.doJob_eq (e : Nat) (p : MaskPart) (i : Nat) (jobs : List MaskPart) : s.doJob e p i jobs =
    if modeAccepts p.job.mode p.job.data.length = true
    then s.jobDone e p i jobs (s.cipher.jobKey p.job) (modeAccepts p.job.mode p.job.data.length)
    else ((s.jobDone e p i jobs (s.cipher.jobKey p.job) (modeAccepts p.job.mode p.job.data.length)).inc 0x5C4).raise
      550 0 0 := rfl

/-- What the engine's part leaves: a message that its mode does not accept is counted and told. -/
theorem State.jobDone_told (e : Nat) (p : MaskPart) (i : Nat) (jobs : List MaskPart) (key : List Byte) (ok : Bool) :
    let t := if ok = true then s.jobDone e p i jobs key ok else ((s.jobDone e p i jobs key ok).inc 0x5C4).raise 550 0 0
    Adds reportParts (s.jobDone e p i jobs key ok) t
    ∧ Tab.get 0 t.cnt 0x5C5 = Tab.get 0 s.cnt 0x5C5
    ∧ Tab.get 0 t.cnt 0x5C4 = (if ok then Tab.get 0 s.cnt 0x5C4 else (Tab.get 0 s.cnt 0x5C4 + 1) % 2 ^ 40)
    ∧ (ok = false → t.pends 550) := by
  cases ok with
  | true => exact ⟨.refl _ _, rfl, rfl, fun h => absurd h (by decide)⟩
  | false =>
    generalize hDone : s.jobDone e p i jobs key false = u
    have hCnt : u.cnt = s.cnt := by
      rw [← hDone]
      rfl
    have hBeside (i : Nat) (hi : i < 0x600) := State.raise_cnt (i := i) (.inl hi) 550 0 0 (u.inc 0x5C4)
    refine ⟨(State.inc_adds _ _).trans (State.raise_adds _ _ _ _), ?_, ?_, fun _ => State.raise_pends _ _ _ _⟩
    · exact (hBeside _ (by decide)).trans ((State.count_cnt_other (.inl (by decide)) (by decide) _ _).trans
        (congrArg (Tab.get 0 · 0x5C5) hCnt))
    · refine (hBeside _ (by decide)).trans ((State.count_cnt_same (.inl (by decide)) _ _).trans ?_)
      rw [hCnt]
      rfl

theorem maskedJob_completes {s : State} {e : Fin 2} {f : List MaskJob} (n : Nat) {p : MaskPart} {i : Nat}
    (h : nextJob e.val (s.cipher.jobs ++ f.flatMap jobParts) = some (p, i)) :
    completesWith (.maskedJob ⟨e, f⟩ n) s (fun t =>
      let key := s.cipher.jobKey p.job
      let ok := modeAccepts p.job.mode p.job.data.length
      t.cipher = { s.cipher with
        jobs := (s.cipher.jobs ++ f.flatMap jobParts).eraseIdx i,
        masked := Tab.set {} s.cipher.masked e.val
          { key := key, lenErr := !ok, out := if ok then partOutput p key else [] } }
      ∧ Tab.get 0 t.cnt 0x5C5 = (Tab.get 0 s.cnt 0x5C5 + n) % 2 ^ 40
      ∧ Tab.get 0 t.cnt 0x5C4 = (if ok then Tab.get 0 s.cnt 0x5C4 else (Tab.get 0 s.cnt 0x5C4 + 1) % 2 ^ 40)
      ∧ (ok = false → t.pends 550)
      ∧ (6220800 ≤ n * (if s.clk.coreSave then 10 else 8) * 1000 → Tab.get 0 s.evt.windows (windowKey 551 0) ≤ s.bnd →
        t.pends 551)
      ∧ t = { s.reporting t with cipher := t.cipher, fresh := t.fresh }) := by
  refine ⟨_, exec_maskedJob n h, ?_⟩
  rw [State.doJob_eq]
  have hStall := (s.maskStall_adds n).within.cipher rfl
  have hWaits := State.maskStall_pends (s := s) (n := n)
  have hStallWithin := (s.maskStall_adds n).within
  have hFive := (s.maskStall_cnt (.inl (by decide)) n).trans
    (State.count_cnt_same (i := 0x5C5) (s := s) (.inl (by decide)) n)
  have hFour := (s.maskStall_cnt (.inl (by decide)) n).trans
    (State.count_cnt_other (i := 0x5C4) (s := s) (.inl (by decide)) (by decide) n)
  generalize s.maskStall n = u at *
  rw [hStall]
  dsimp only
  generalize s.cipher.jobKey p.job = key
  generalize modeAccepts p.job.mode p.job.data.length = ok
  obtain ⟨hAdds, hStalls, hErrs, hTold⟩ := u.jobDone_told e.val p i (s.cipher.jobs ++ f.flatMap jobParts) key ok
  have hDone : Within [.cipher, .fresh] u (u.jobDone e.val p i (s.cipher.jobs ++ f.flatMap jobParts) key ok) :=
    within_of_eq_merge rfl
  have hAll : Within [.evt, .host, .ring, .log, .cnt, .out, .cipher, .fresh] s _ :=
    ((hStallWithin.mono rfl).trans (hDone.mono rfl)).trans (hAdds.within.mono rfl)
  refine ⟨?_, hStalls.trans hFive, ?_, hTold, fun hLong hOpen => ?_, hAll.eq_merge⟩
  · rw [hAdds.within.cipher rfl, ← hStall]
    rfl
  · rw [hErrs, hFour]
  · have hKept : KeepsPending u (u.jobDone e.val p i (s.cipher.jobs ++ f.flatMap jobParts) key ok) :=
      keepsPending_of_status rfl
    exact hAdds.pending _ (hKept _ (hWaits hLong hOpen))

end

/-! ### O38 -/

/-- Settles O38: the commands of the cipher block one by one. -/
theorem cipherCommands : Obligations.CipherCommands := by
  refine fun s => ⟨cyEntropyFail_completes s, fun l => entropyRetest_completes l, fun l => exec_entropyRetest_runs l,
    cyFallbackNonce_completes, exec_cyFallbackNonce_not, drbgReseed_completes, exec_drbgReseed_not, rfl,
    fun k b => keyZeroise_completes, fun k b => exec_keyZeroise_not, fun e f n p i h => maskedJob_completes n h,
    fun e f n => exec_maskedJob_none e f n⟩

end Sys2Proof.Machine
end

section
/-!
# Membership on the manager

What keeps the node table, how a request is decided, a join that completes, a worker that leaves, and an image that is sent.
-/
namespace Sys2Proof.Machine

-- One theorem after another: the stacks of many that wait at once would exceed the memory of the check.
set_option Elab.async false

variable {C : List Part}

/-! ### A manager's reports stay on the manager -/

section
variable {s : State} (h : s.isManager = true)
include h

theorem State.raise_ring_manager (src obj detail : Nat) : (s.raise src obj detail).ring = s.ring := by
  have hManager : s.start.manager = true := h
  have hSet (e : Events) (k : HostIf) (r : Ring) : (setEvtParts e false k r s).2.2.1 = r := by
    simp only [setEvtParts, hManager, Bool.true_or, if_true]
  have hLog (c : Prop) [Decidable c] (d : List Byte) (r : Ring) :
      (if c then logParts 1 d s r else (s.log, r, [])).2.1 = r := by
    split
    · simp only [logParts, hManager, if_true]
    · rfl
  simp only [State.raise, raiseParts, hManager, Bool.true_or, if_true]
  rw [hLog, hSet]

end

/-! ### What keeps the node table -/

theorem Sends.nodes {r k : Ring} (h : Sends r k) : k.nodes = r.nodes := (congrArg Ring.nodes h.rest :)

section
variable {r : Ring} {s : State} (a : Sends r s.ring)
include a

theorem Sends.qthPost (entry : W32) (obj : Nat) : Sends r (s.qthPost entry obj).ring := by
  simp only [State.qthPost]
  split
  · refine Sends.raise ?_ _ _ _
    exact a
  · split
    · exact a
    · refine Sends.raise ?_ _ _ _
      exact a

theorem Sends.threshold (q : Nat) : Sends r (s.threshold q).ring := by
  simp only [State.threshold]
  split
  · exact a
  · split
    · exact a
    · split
      · exact a
      · split
        · split
          · refine Sends.qthPost ?_ _ _
            exact a
          · refine Sends.qthPost ?_ _ _
            exact a
        · refine Sends.dcc (Sends.raise (s := s.modQueue q _) ?_ _ _ _) _ _
          exact a

theorem Sends.poolLow : Sends r s.poolLow.ring := by
  simp only [State.poolLow]
  split
  · refine Sends.raise ?_ _ _ _
    exact a
  · exact a

theorem Sends.removeAll (q : Nat) (gone keep : List Packet) : Sends r (s.removeAll q gone keep).ring := by
  refine Sends.poolLow (Sends.threshold ?_ q)
  exact a

theorem Sends.flushNow (q n : Nat) : Sends r (s.flushNow q n).ring := by
  refine Sends.count (Sends.removeAll ?_ _ _ _) _ _
  exact a

theorem Sends.flushPoint (q : Nat) : Sends r (s.flushPoint q).ring := by
  unfold State.flushPoint
  dsimp only
  split
  · exact a
  · exact a.flushNow _ _

end

theorem State.flushToward_nodes (n : Nat) (s : State) : (s.flushToward n).ring.nodes = s.ring.nodes := by
  unfold State.flushToward
  refine State.foldl_same (fun t => t.ring.nodes) (fun t d => ?_) _ s
  exact State.foldl_same (fun u => u.ring.nodes) (fun u c => ((Sends.refl u.ring).flushPoint _).nodes) _ t

theorem State.dropReasm_nodes (k : Nat) (s : State) : (s.dropReasm k).ring.nodes = s.ring.nodes := by
  unfold State.dropReasm
  split
  · rfl
  next r _ => exact (Sends.poolLow (.refl ((s.setReasm k none).freeRing r.cells).ring)).nodes

theorem State.dropFrom_nodes (n : Nat) (s : State) : (s.dropFrom n).ring.nodes = s.ring.nodes :=
  State.foldl_same (fun t => t.ring.nodes) (fun t _ => State.dropReasm_nodes _ t) _ s

theorem State.relayBack_nodes (opc : Nat) (x : BitVec 16) (m : MbxNo) (st : Status) (p : List Byte) (s : State) :
    (s.relayBack opc x m st p).ring.nodes = s.ring.nodes :=
  (dccPushOn_sends _ _ _ _ _ _ { s.ring with
    relayed := if st = Status.deferred then s.ring.relayed
      else s.ring.relayed.filter (fun y => y != (opc, x.toNat, m.val)) }).nodes

theorem State.answer_nodes (opc : Nat) (q : Req) (st : Status) (p : List Byte) (s : State) :
    (s.answer opc q st p).ring.nodes = s.ring.nodes := by
  by_cases hRelayed : s.isRelayed opc q.seq.toNat q.mbx.val = true
  · simp only [State.answer, if_pos hRelayed]
    exact State.relayBack_nodes _ _ _ _ _ _
  · simp only [State.answer, if_neg hRelayed]
    refine (Sends.answerEvents (Sends.inc (Sends.inc (r := s.ring) ?_ _) _) _ _).nodes
    exact .refl _

theorem State.complete_nodes (m k : Nat) (st : Status) (p : List Byte) (s : State) :
    (s.complete m k st p).ring.nodes = s.ring.nodes := by
  unfold State.complete
  split
  · rfl
  · split
    · exact State.relayBack_nodes _ _ _ _ _ _
    · dsimp only
      split
      · rfl
      · refine (Sends.raise (r := s.ring) ?_ _ _ _).nodes
        exact .refl _

theorem State.faultNode_nodes (n : Nat) (s : State) : (s.faultNode n).ring.nodes = s.ring.nodes := by
  unfold State.faultNode
  refine State.foldl_same (fun t => t.ring.nodes) (fun t m => ?_) _ s
  dsimp only
  refine (State.foldl_same (fun t => t.ring.nodes) (fun u d => State.complete_nodes _ _ _ _ u) _ _).trans ?_
  split
  · split
    · exact State.answer_nodes _ _ _ _ t
    · rfl
  · rfl

/-! ### The node table -/

theorem State.node_modNode_same (n : Nat) (f : NodeEntry → NodeEntry) (s : State) : (s.modNode n f).node n = f (s.node n) :=
  Tab.get_modify_same _ _ _ _

theorem State.node_modNode_other {n j : Nat} (f : NodeEntry → NodeEntry) (s : State) (h : j ≠ n) :
    (s.modNode n f).node j = s.node j := Tab.get_modify_other _ _ _ h

theorem State.node_of_nodes {s t : State} (h : t.ring.nodes = s.ring.nodes) (j : Nat) : t.node j = s.node j := by
  unfold State.node
  rw [h]

/-- From `s` to `t` entry `n` has become `e`, and the others stay. -/
structure Enters (n : Nat) (e : NodeEntry) (s t : State) : Prop where
  own    : t.node n = e
  others : ∀ j, j ≠ n → t.node j = s.node j

section
variable {n : Nat} {e : NodeEntry} {s t u : State}

theorem Enters.mod (f : NodeEntry → NodeEntry) (h : t.ring.nodes = s.ring.nodes) :
    Enters n (f (s.node n)) s (t.modNode n f) := by
  refine ⟨?_, fun j hj => ?_⟩
  · rw [State.node_modNode_same, State.node_of_nodes h]
  · rw [State.node_modNode_other _ _ hj, State.node_of_nodes h]

theorem Enters.same (a : Enters n e s t) (h : u.ring.nodes = t.ring.nodes) : Enters n e s u :=
  ⟨(State.node_of_nodes h n).trans a.own, fun j hj => (State.node_of_nodes h j).trans (a.others j hj)⟩

end

/-! ### Join requests (R17, R419, R421, R477 to R479) -/

section
variable {s : State} {q : JoinRequest}

theorem exec_joinReq (q : JoinRequest) (s : State) : exec (.joinReq q) s = .next (s.onJoinReq q) := rfl

/-- Another manager is seen on a side. -/
theorem joinReq_manager (h : s.isManager = true) (hq : q.isManager = true) : completesWith (.joinReq q) s (fun t =>
    t.side q.side.val = { s.side q.side.val with managerSeen := true } ∧ t.pends 393 ∧ t = s.reporting t) := by
  have hSeen : s.onJoinReq q = (s.modSide q.side.val (fun x => { x with managerSeen := true })).raise 393
      (sideObj 0 q.side.val) 0 := by
    unfold State.onJoinReq
    rw [if_neg (by simp [h]), if_pos hq]
  refine ⟨_, (exec_joinReq q s).trans (congrArg _ hSeen), ?_, State.raise_pends _ _ _ _, ?_⟩
  · have hRing := State.raise_ring_manager
      (s := s.modSide q.side.val (fun x => { x with managerSeen := true })) h 393 (sideObj 0 q.side.val) 0
    unfold State.side at *
    rw [hRing]
    exact Tab.get_modify_same _ _ _ (fun x : RingSide => { x with managerSeen := true })
  · have hAdds : Adds reportParts s ((s.modSide q.side.val (fun x => { x with managerSeen := true })).raise 393
        (sideObj 0 q.side.val) 0) := (State.modSide_adds _ _ s).trans (State.raise_adds _ _ _ _)
    exact hAdds.within.reporting

/-- A worker's request is collected while a decision is awaited. -/
theorem joinReq_collected (h : s.isManager = true) (hq : q.isManager = false) {l : List JoinRequest}
    (hCollect : s.ring.collecting = some l) : exec (.joinReq q) s = .next { s with ring := { s.ring with
      collecting := some (l.filter (fun x => x.serial != q.serial) ++ [q]) } } := by
  rw [exec_joinReq, State.onJoinReq, if_neg (by simp [h]), if_neg (by simp [hq]), hCollect]

theorem joinReq_first (h : s.isManager = true) (hq : q.isManager = false) (hCollect : s.ring.collecting = none)
    (hNone : s.ring.nodes.any (fun x => x.2.used) = false) :
    exec (.joinReq q) s = .next { s with ring := { s.ring with collecting := some [q] } } := by
  rw [exec_joinReq, State.onJoinReq, if_neg (by simp [h]), if_neg (by simp [hq]), hCollect]
  dsimp only
  rw [if_neg (by simp [hNone])]

theorem exec_joinReq_decides (h : s.isManager = true) (hq : q.isManager = false) (hCollect : s.ring.collecting = none)
    (hSome : s.ring.nodes.any (fun x => x.2.used) = true) : exec (.joinReq q) s = .next (s.decideJoin q) := by
  rw [exec_joinReq, State.onJoinReq, if_neg (by simp [h]), if_neg (by simp [hq]), hCollect]
  dsimp only
  rw [if_pos hSome]

/-- The version refused before is forgotten. -/
def State.unrefused (q : JoinRequest) (s : State) : State :=
  { s with ring := { s.ring with refused := s.ring.refused.filter (· != q.serial) } }

/-- A worker whose entry the table holds: refused within its hold-off, taken back otherwise. -/
theorem State.decideJoin_known (hVersion : (imgCompat s.served).toNat ≤ q.version.toNat) {n : Nat}
    (hEntry : s.ring.entryOf q.serial = some n) : s.decideJoin q =
      if (s.node n).nonce = some q.nonce ∧ s.now < (s.node n).holdEnd then (s.unrefused q).refuseJoin 2 q
      else (s.unrefused q).enrol n false q := by
  have hServed : ¬ (q.version.toNat ≠ 0 ∧ q.version.toNat < (imgCompat s.served).toNat
      ∧ !s.ring.refused.contains q.serial) := fun hBad => absurd hBad.2.1 (not_lt.mpr hVersion)
  unfold State.decideJoin
  rw [if_neg hServed]
  dsimp only
  rw [hEntry]
  rfl

theorem State.joinSend_adds (d dst : Nat) (b : DccBody) (s : State) (hC : Covers [.ring] C := by rfl) :
    Adds C s (s.joinSend d dst b) := Adds.mono (D := [.ring]) (adds_of_eq rfl rfl) hC

theorem State.joinSend_sends (d dst : Nat) (b : DccBody) (s : State) : Sends s.ring (s.joinSend d dst b).ring :=
  (Sends.refl s.ring).dccPut _ _ _

theorem joinReq_refused (h : s.isManager = true) (hq : q.isManager = false) (hCollect : s.ring.collecting = none)
    (hSome : s.ring.nodes.any (fun x => x.2.used) = true) (hVersion : (imgCompat s.served).toNat ≤ q.version.toNat) {n : Nat}
    (hEntry : s.ring.entryOf q.serial = some n) (hNonce : (s.node n).nonce = some q.nonce)
    (hHold : s.now < (s.node n).holdEnd) : completesWith (.joinReq q) s (fun t =>
      t.pends 391 ∧ t.ring.nodes = s.ring.nodes ∧ t = s.reporting t) := by
  refine ⟨_, (exec_joinReq_decides h hq hCollect hSome).trans (congrArg _ ((State.decideJoin_known hVersion hEntry).trans
    (if_pos ⟨hNonce, hHold⟩))), State.raise_pends _ _ _ _, ?_, ?_⟩
  · exact ((State.joinSend_sends q.side.val 0 (.joinRefuse q.serial 2) (s.unrefused q)).raise _ _ _).nodes
  · have hForgot : Adds reportParts s (s.unrefused q) := adds_of_eq rfl rfl
    have hAll : Adds reportParts s ((s.unrefused q).refuseJoin 2 q) :=
      (hForgot.trans (State.joinSend_adds _ _ _ _)).trans (State.raise_adds _ _ _ _)
    exact hAll.within.reporting

/-- A known worker's entry, taken back with its new nonce. -/
def NodeEntry.returns (now : Nat) (q : JoinRequest) (e : NodeEntry) : NodeEntry :=
  { e with used := true, serial := q.serial, gen := (e.gen + 1) % 16, east := q.east, west := q.west
           nonce := some q.nonce, member := 1, since := now, version := q.version, pos := q.position }

/-- A known worker in the table again, what its packets left dropped, its reset told. -/
def State.returned (n : Nat) (q : JoinRequest) (s : State) : State :=
  ((s.modNode n (NodeEntry.returns s.now q)).dropFrom n).raise 390 (nodeObj n) 0

/-- A worker's exchange and ranging begin anew, on the side that its request came from. -/
def State.beginsAnew (n : Nat) (q : JoinRequest) (s : State) : State :=
  State.modRanger n (fun _ => {}) { s with ring := { s.ring with
    peers := Tab.set {} s.ring.peers n {}, working := Tab.set 0 s.ring.working n q.side.val } }

theorem State.enrol_again {n : Nat} (hUsed : (s.node n).used = true) (hNonce : (s.node n).nonce ≠ some q.nonce)
    (hAbsent : s.joined n = false) : ∃ b, s.enrol n false q =
      ((s.returned n q).beginsAnew n q).joinSend q.side.val 0 b := by
  have hAgain : ((s.node n).used && (s.node n).nonce != some q.nonce) = true := by
    rw [hUsed, Bool.true_and]
    exact bne_iff_ne.mpr hNonce
  unfold State.enrol
  dsimp only
  rw [hAgain, hAbsent]
  exact ⟨_, rfl⟩

theorem State.returned_enters (n : Nat) (q : JoinRequest) (s : State) :
    Enters n ((s.node n).returns s.now q) s (s.returned n q) :=
  (Enters.mod (t := s) (NodeEntry.returns s.now q) rfl).same (((Sends.refl _).raise _ _ _).nodes.trans (State.dropFrom_nodes _ _))

/-- What the return of a known worker touches. -/
def returnParts : List Part := [.evt, .host, .ring, .log, .cnt, .out, .pool, .tide]

theorem State.returned_adds (n : Nat) (q : JoinRequest) (s : State) (hC : Covers poolParts C := by rfl) :
    Adds C s (s.returned n q) :=
  Adds.mono (D := poolParts) (((State.modNode_adds _ _ s).trans (State.dropFrom_adds _ _)).trans (State.raise_adds _ _ _ _)) hC

theorem joinReq_returns (h : s.isManager = true) (hq : q.isManager = false) (hCollect : s.ring.collecting = none)
    (hSome : s.ring.nodes.any (fun x => x.2.used) = true) (hVersion : (imgCompat s.served).toNat ≤ q.version.toNat) {n : Nat}
    (hEntry : s.ring.entryOf q.serial = some n) (hUsed : (s.node n).used = true) (hNonce : (s.node n).nonce ≠ some q.nonce)
    (hAbsent : s.joined n = false) : completesWith (.joinReq q) s (fun t =>
      t.node n = { s.node n with
        serial := q.serial, gen := ((s.node n).gen + 1) % 16, east := q.east, west := q.west, nonce := some q.nonce,
        member := 1, since := s.now, version := q.version, pos := q.position }
      ∧ (∀ j, j ≠ n → t.node j = s.node j) ∧ Tab.get 0 t.ring.working n = q.side.val ∧ t.pends 390
      ∧ t = { s.reporting t with pool := t.pool, tide := { s.tide with rangers := t.tide.rangers } }) := by
  have hKnown := (State.decideJoin_known hVersion hEntry).trans (if_neg (fun hBoth => hNonce hBoth.1))
  obtain ⟨b, hEnrol⟩ := State.enrol_again (s := s.unrefused q) (q := q) hUsed hNonce hAbsent
  refine ⟨_, (exec_joinReq_decides h hq hCollect hSome).trans (congrArg _ (hKnown.trans hEnrol)), ?_⟩
  have hForgot : Adds returnParts s (s.unrefused q) := adds_of_eq rfl rfl
  have hPends : ((s.unrefused q).returned n q).pends 390 := State.raise_pends _ _ _ _
  have hEnters := (s.unrefused q).returned_enters n q
  have hReturned : Adds poolParts (s.unrefused q) ((s.unrefused q).returned n q) := State.returned_adds n q _
  have hTide : ((s.unrefused q).returned n q).tide = s.tide := hReturned.within.tide rfl
  generalize (s.unrefused q).returned n q = u at *
  have hAnew : Adds returnParts u (u.beginsAnew n q) := adds_of_eq rfl rfl
  have hSent : Adds returnParts (u.beginsAnew n q) ((u.beginsAnew n q).joinSend q.side.val 0 b) := State.joinSend_adds _ _ _ _
  have hSends := State.joinSend_sends q.side.val 0 b (u.beginsAnew n q)
  have hSentTide : ((u.beginsAnew n q).joinSend q.side.val 0 b).tide = (u.beginsAnew n q).tide := rfl
  generalize (u.beginsAnew n q).joinSend q.side.val 0 b = t at *
  have hAll : Within returnParts s t :=
    ((hForgot.within.trans (hReturned.within.mono rfl)).trans hAnew.within).trans hSent.within
  obtain ⟨hOwn, hOthers⟩ := hEnters.same (u := t) (hSends.nodes.trans rfl)
  refine ⟨?_, hOthers, ?_, hSent.pending _ (hAnew.pending _ hPends), ?_⟩
  · rw [hOwn]
    have hEntryUsed : (s.node n).returns s.now q = { (s.node n).returns s.now q with used := (s.node n).used } := by
      rw [hUsed]
      rfl
    exact hEntryUsed
  · have hWorking : t.ring.working = Tab.set 0 u.ring.working n q.side.val := (congrArg Ring.working hSends.rest :)
    rw [hWorking]
    exact Tab.get_set_same ..
  · have hRangers : t.tide = { s.tide with rangers := t.tide.rangers } := by
      rw [hSentTide, ← hTide]
      rfl
    rw [← hRangers]
    exact hAll.eq_merge

theorem exec_joinCollectionEnd_none (h : s.ring.collecting = none) : exec .joinCollectionEnd s = .next s := by
  change execJoinCollectionEnd s = _
  rw [execJoinCollectionEnd, h]

theorem exec_joinCollectionEnd_one (h : s.ring.collecting = some [q]) : exec .joinCollectionEnd s =
    .next (State.decideJoin q { s with ring := { s.ring with collecting := none } }) := by
  change execJoinCollectionEnd s = _
  rw [execJoinCollectionEnd, h]
  rfl

end

end Sys2Proof.Machine
end

section
/-!
# Joins that complete, departures and images

The manager's side of a join's end, of a departure, of HELLO and of a ring boot; with these O44 is put together.
-/
namespace Sys2Proof.Machine

-- One theorem after another: the stacks of many that wait at once would exceed the memory of the check.
set_option Elab.async false

variable {C : List Part}

/-! ### Full credit (R446, Table QY-12, step 7) -/

/-- Puts at different places: each place holds what was put there. -/
theorem Tab.get_foldl_puts {α : Type} [DecidableEq α] (d : α) (g : Nat → Nat) (hg : Function.Injective g) (v : Nat → α)
    {c : Nat} {l : List Nat} (hc : c ∈ l) (t : Tab α) :
    Tab.get d (l.foldl (fun t c => Tab.modify d t (g c) (fun _ => v c)) t) (g c) = v c := by
  induction l using List.reverseRecOn with
  | nil => exact absurd hc List.not_mem_nil
  | append_singleton l x ih =>
    rw [List.foldl_append, List.foldl_cons, List.foldl_nil]
    by_cases hx : c = x
    · rw [hx, Tab.get_modify_same]
    · rw [Tab.get_modify_other _ _ _ (fun h => hx (hg h))]
      exact ih ((List.mem_append.mp hc).resolve_right (fun h => hx (List.mem_singleton.mp h)))

theorem State.initCredits_links (n : Nat) (s : State) : (s.initCredits n).ring.links =
    (List.range 5).foldl (fun t c => Tab.modify {} t (linkKey s.self n c) (fun _ => { held := initCredit c }))
      s.ring.links := rfl

theorem State.initCredits_ends (n : Nat) (s : State) : (s.initCredits n).ring.ends =
    (List.range 5).foldl (fun t c => Tab.modify {} t (linkKey n s.self c) (fun _ => ({} : CreditEnd))) s.ring.ends := rfl

theorem linkKey_injective (a b : Nat) : Function.Injective (linkKey a b) := fun _ _ h => Nat.add_left_cancel h

theorem State.initCredits_link (n : Nat) (s : State) {c : Nat} (hc : c < 5) :
    (s.initCredits n).link_ s.self n c = { held := initCredit c } := by
  unfold State.link_
  rw [State.initCredits_links]
  exact Tab.get_foldl_puts ({} : CreditLink) _ (linkKey_injective _ _) (fun c => { held := initCredit c }) (List.mem_range.mpr hc) _

theorem State.initCredits_end (n : Nat) (s : State) {c : Nat} (hc : c < 5) :
    (s.initCredits n).end_ n s.self c = {} := by
  unfold State.end_
  rw [State.initCredits_ends]
  exact Tab.get_foldl_puts ({} : CreditEnd) _ (linkKey_injective _ _) (fun _ => ({} : CreditEnd)) (List.mem_range.mpr hc) _

theorem State.initCredits_adds (n : Nat) (s : State) (hC : Covers [.ring] C := by rfl) : Adds C s (s.initCredits n) := by
  unfold State.initCredits
  refine Adds.foldl (fun t c => ?_) _ s
  exact Adds.mono (D := [.ring]) (adds_of_eq rfl rfl) hC

theorem State.initCredits_nodes (n : Nat) (s : State) : (s.initCredits n).ring.nodes = s.ring.nodes := by
  unfold State.initCredits
  refine State.foldl_same (fun t => t.ring.nodes) (fun t c => ?_) _ s
  rfl

/-! ### A join completes (Table QY-12, steps 7 to 9) -/

theorem State.rework_ring (s : State) : s.rework.ring.nodes = s.ring.nodes ∧ s.rework.ring.links = s.ring.links
    ∧ s.rework.ring.ends = s.ring.ends := by
  unfold State.rework
  split <;> exact ⟨rfl, rfl, rfl⟩

theorem State.sendParts_sends (n : Nat) (s : State) : Sends s.ring (s.sendParts n).ring :=
  .dcc (.foldl (fun t _ => (Sends.refl t.ring).dcc _ _) _ (.refl s.ring)) _ _

theorem State.sendParts_adds (n : Nat) (s : State) (hC : Covers reportParts C := by rfl) : Adds C s (s.sendParts n) :=
  (Adds.foldl (fun t _ => State.dcc_adds _ _ t hC) _ s).trans (State.dcc_adds _ _ _ hC)

/-- A worker joined, with full credit on every class. -/
def State.credited (n : Nat) (s : State) : State :=
  ((s.modNode n (fun e => { e with member := 2, joinedAt := s.now })).initCredits n).rework

/-- A worker's join told, to it and to the host. -/
def State.welcomed (n : Nat) (s : State) : State := ((s.syncTo n).raise 388 (nodeObj n) 0).sendParts n

theorem State.nodeJoined_eq {n : Nat} {s : State} (h : (s.node n).member = 1) :
    s.nodeJoined n = ((s.credited n).welcomed n).recheck := if_neg (not_not.mpr h)

theorem State.welcomed_sends (n : Nat) (s : State) : Sends s.ring (s.welcomed n).ring :=
  (((Sends.refl s.ring).dcc _ _).raise _ _ _).trans (State.sendParts_sends n _)

theorem State.welcomed_adds (n : Nat) (s : State) (hC : Covers reportParts C := by rfl) : Adds C s (s.welcomed n) :=
  ((State.dcc_adds _ _ s hC).trans (State.raise_adds _ _ _ _ hC)).trans (State.sendParts_adds n _ hC)

theorem State.welcomed_pends (n : Nat) (s : State) : (s.welcomed n).pends 388 :=
  (State.sendParts_adds (C := reportParts) n _).pending.after_raise

theorem State.credited_adds (n : Nat) (s : State) (hC : Covers [.ring] C := by rfl) : Adds C s (s.credited n) :=
  ((State.modNode_adds _ _ s hC).trans (State.initCredits_adds n _ hC)).trans (State.rework_adds _ hC)

theorem exec_joinComplete {s : State} (n : NodeNo) (h : s.isManager = true) :
    exec (.joinComplete n) s = .next (s.nodeJoined n.val) := congrArg Host.Outcome.next (if_pos h)

theorem State.credited_enters (n : Nat) (s : State) :
    Enters n { s.node n with member := 2, joinedAt := s.now } s (s.credited n) :=
  (Enters.mod (t := s) (fun e => { e with member := 2, joinedAt := s.now }) rfl).same
    ((State.rework_ring _).1.trans (State.initCredits_nodes _ _))

theorem State.credited_link {s : State} (h : s.isManager = true) (n : Nat) {c : Nat} (hc : c < 5) :
    Tab.get {} (s.credited n).ring.links (linkKey 0 n c) = { held := initCredit c } := by
  have hLink := State.initCredits_link n (s.modNode n (fun e => { e with member := 2, joinedAt := s.now })) hc
  rw [State.self_of_manager (s := s.modNode n (fun e => { e with member := 2, joinedAt := s.now })) h] at hLink
  rw [State.credited, (State.rework_ring _).2.1]
  exact hLink

theorem State.credited_end {s : State} (h : s.isManager = true) (n : Nat) {c : Nat} (hc : c < 5) :
    Tab.get {} (s.credited n).ring.ends (linkKey n 0 c) = {} := by
  have hEnd := State.initCredits_end n (s.modNode n (fun e => { e with member := 2, joinedAt := s.now })) hc
  rw [State.self_of_manager (s := s.modNode n (fun e => { e with member := 2, joinedAt := s.now })) h] at hEnd
  rw [State.credited, (State.rework_ring _).2.2]
  exact hEnd

theorem State.recheck_due (s : State) : s.recheck.adm.due = some (s.tide.frame + 2) := rfl

theorem joinComplete_completes {s : State} {n : NodeNo} (hManager : s.isManager = true) (h : (s.node n.val).member = 1) :
    completesWith (.joinComplete n) s (fun t =>
      t.node n.val = { s.node n.val with member := 2, joinedAt := s.now } ∧ (∀ j, j ≠ n.val → t.node j = s.node j)
      ∧ (∀ c, c < 5 → t.link_ 0 n.val c = { held := initCredit c } ∧ t.end_ n.val 0 c = {})
      ∧ t.pends 388 ∧ t.adm.due = some (s.tide.frame + 2)
      ∧ t = { s.reporting t with adm := { s.adm with due := t.adm.due } }) := by
  refine ⟨_, (exec_joinComplete n hManager).trans (congrArg _ (State.nodeJoined_eq h)), ?_⟩
  have hEnters := s.credited_enters n.val
  have hLink (c : Nat) (hc : c < 5) := State.credited_link hManager n.val hc
  have hEnd (c : Nat) (hc : c < 5) := State.credited_end hManager n.val hc
  have hCredited : Adds dueParts s (s.credited n.val) := State.credited_adds _ _
  have hCreditedAdm : (s.credited n.val).adm = s.adm := (State.credited_adds (C := [.ring]) n.val s).within.adm rfl
  generalize s.credited n.val = u at *
  have hPends := u.welcomed_pends n.val
  have hSends := u.welcomed_sends n.val
  have hWelcomed : Adds reportParts u (u.welcomed n.val) := State.welcomed_adds _ _
  have hAdm := (hWelcomed.within.adm rfl).trans hCreditedAdm
  have hAll : Within dueParts s (u.welcomed n.val) := hCredited.within.trans (hWelcomed.within.mono rfl)
  generalize u.welcomed n.val = v at *
  obtain ⟨hOwn, hOthers⟩ := hEnters.same (u := v.recheck) hSends.nodes
  refine ⟨hOwn, hOthers, fun c hc => ⟨?_, ?_⟩, hPends, ?_, ?_⟩
  · have hLinks : v.ring.links = u.ring.links := (congrArg Ring.links hSends.rest :)
    exact (congrArg (fun l : Tab CreditLink => Tab.get ({} : CreditLink) l (linkKey 0 n.val c)) hLinks).trans (hLink c hc)
  · have hEnds : v.ring.ends = u.ring.ends := (congrArg Ring.ends hSends.rest :)
    exact (congrArg (fun l : Tab CreditEnd => Tab.get ({} : CreditEnd) l (linkKey n.val 0 c)) hEnds).trans (hEnd c hc)
  · rw [State.recheck_due, hAll.tide rfl]
  · refine (hAll.trans (State.recheck_adds (C := dueParts) v).within).due ?_
    exact (congrArg Admission.besideDue hAdm :)

theorem exec_joinComplete_not {s : State} (n : NodeNo) (hManager : s.isManager = true) (h : (s.node n.val).member ≠ 1) :
    exec (.joinComplete n) s = .next s := (exec_joinComplete n hManager).trans (congrArg _ (if_pos h))

/-! ### A worker leaves (R470, R482) -/

theorem State.departed_enters (n : Nat) (s : State) : Enters n
    ((s.node n).gone s.now (decide (s.now ≤ (s.node n).joinedAt + 60 * secTicks))) s (s.departed n) := by
  have hNodes : (((s.flushToward n).dropFrom n).faultNode n).ring.nodes = s.ring.nodes :=
    (State.faultNode_nodes n _).trans ((State.dropFrom_nodes n _).trans (State.flushToward_nodes n s))
  unfold State.departed
  generalize ((s.flushToward n).dropFrom n).faultNode n = u at hNodes
  exact (Enters.mod _ hNodes).same rfl

theorem State.setSummary_nodes (n : Nat) (on : Bool) (s : State) : (s.setSummary n on).ring.nodes = s.ring.nodes :=
  ((Sends.refl s.ring).setEvt _ _).nodes

theorem State.nodeLeave_enters (n : Nat) (s : State) : Enters n
    ((s.node n).gone s.now (decide (s.now ≤ (s.node n).joinedAt + 60 * secTicks))) s (s.nodeLeave n) := by
  refine (s.departed_enters n).same ?_
  rw [State.nodeLeave_eq, State.setSummary_nodes]
  generalize s.departed n = u
  obtain ⟨hNodes, -, -⟩ := u.rework_ring
  rw [← hNodes]
  generalize u.rework = v
  exact ((Sends.refl v.ring).raise (s := v.recheck) 389 (nodeObj n) 0).nodes

theorem State.setSummary_keepsPending (n : Nat) (on : Bool) (s : State) : KeepsPending s (s.setSummary n on) :=
  keepsPending_of_status (setEvtParts_status _ _ _ _ _)

theorem State.nodeLeave_due (n : Nat) (s : State) : (s.nodeLeave n).adm.due = some (s.tide.frame + 2) := by
  rw [State.nodeLeave_eq, (State.setSummary_within n false _).adm rfl,
    (State.raise_adds (C := reportParts) _ _ _ _).within.adm rfl]
  have hTide : (s.departed n).rework.tide = s.tide :=
    ((State.departed_adds (C := poolParts) n s).trans (State.rework_adds _)).within.tide rfl
  rw [State.recheck_due, hTide]

theorem nodeLeave_leaves (n : Nat) (s : State) :
    let t := s.nodeLeave n
    (t.node n).member = 0 ∧ (t.node n).since = s.now ∧ (t.node n).serial = (s.node n).serial
    ∧ (t.node n).gen = (s.node n).gen ∧ (∀ j, j ≠ n → t.node j = s.node j)
    ∧ t.pends 389 ∧ t.adm.due = some (s.tide.frame + 2)
    ∧ t = { s.reporting t with pool := t.pool, adm := { s.adm with due := t.adm.due } } := by
  obtain ⟨hOwn, hOthers⟩ := s.nodeLeave_enters n
  have hPends : (s.nodeLeave n).pends 389 := by
    rw [State.nodeLeave_eq]
    exact (State.setSummary_keepsPending n false _).after_raise
  exact ⟨(congrArg NodeEntry.member hOwn :), (congrArg NodeEntry.since hOwn :), (congrArg NodeEntry.serial hOwn :),
    (congrArg NodeEntry.gen hOwn :), hOthers, hPends, s.nodeLeave_due n,
    (s.nodeLeave_within n).leave (s.nodeLeave_besideDue n)⟩

theorem exec_leave {s : State} (n : NodeNo) (h : s.isManager = true) :
    exec (.leave n) s = .next (if s.joined n.val = true then s.nodeLeave n.val else s) :=
  congrArg Host.Outcome.next (if_pos h)

theorem exec_workerGoneTimeout {s : State} (n : NodeNo) (h : s.isManager = true) :
    exec (.workerGoneTimeout n) s = .next (if s.joined n.val = true then s.nodeLeave n.val else s) := by
  have hTest : (s.isManager && s.joined n.val) = s.joined n.val := by rw [h, Bool.true_and]
  change Host.Outcome.next (if (s.isManager && s.joined n.val) = true then s.nodeLeave n.val else s) = _
  rw [hTest]

theorem exec_joinHoldoffReset {s : State} (n : NodeNo) (h : s.isManager = true) :
    exec (.joinHoldoffReset n) s =
      .next (if s.joined n.val = true then s.modNode n.val (fun e => { e with holdoff := 2 }) else s) :=
  congrArg Host.Outcome.next (if_pos h)

theorem joinHoldoffReset_completes {s : State} (n : NodeNo) (h : s.isManager = true) :
    completesWith (.joinHoldoffReset n) s (fun t =>
      t.node n.val = { s.node n.val with holdoff := if s.joined n.val then 2 else (s.node n.val).holdoff }
      ∧ (∀ j, j ≠ n.val → t.node j = s.node j) ∧ t = { s with ring := { s.ring with nodes := t.ring.nodes } }) := by
  refine ⟨_, exec_joinHoldoffReset n h, ?_⟩
  by_cases hJoined : s.joined n.val = true
  · rw [if_pos hJoined]
    beta_reduce
    rw [if_pos hJoined]
    exact ⟨State.node_modNode_same _ _ _, fun j hj => State.node_modNode_other _ _ hj, rfl⟩
  · rw [if_neg hJoined]
    beta_reduce
    rw [if_neg hJoined]
    exact ⟨rfl, fun _ _ => rfl, rfl⟩

/-! ### HELLO (R470, R481) -/

/-- A side that is to send a message's slots too. -/
def RingSide.sending (w : List Byte) (x : RingSide) : RingSide := { x with dccTx := x.dccTx ++ dccSlots true w }

theorem dccPut_both (w : List Byte) (r : Ring) (d : Side) :
    Tab.get {} (dccPut 1 true w (dccPut 0 true w r)).sides d.val = RingSide.sending w (Tab.get {} r.sides d.val) := by
  change Tab.get {} (Tab.modify {} (Tab.modify {} r.sides 0 (RingSide.sending w)) 1 (RingSide.sending w)) d.val = _
  match d with
  | 0 =>
    rw [Tab.get_modify_other _ _ _ (by decide : ((0 : Side) : Nat) ≠ 1)]
    exact Tab.get_modify_same ..
  | 1 =>
    refine (Tab.get_modify_same ..).trans ?_
    rw [Tab.get_modify_other _ _ _ (by decide : (1 : Nat) ≠ 0)]
    rfl

theorem hello_completes {s : State} (h : s.isManager = true) : completesWith .hello s (fun t =>
    (∃ k, ∀ d : Side, t.side d.val = { s.side d.val with
      dccTx := (s.side d.val).dccTx ++ dccSlots true (dccWire k (bcastMsg s.self (.hello s.cipher.bootNonce))) })
    ∧ t = { s with ring := { s.ring with sides := t.ring.sides } }) :=
  ⟨_, congrArg Host.Outcome.next (if_pos h), ⟨{ s.dccKeys with gen := 0 }, fun d =>
    dccPut_both (dccWire { s.dccKeys with gen := 0 } (bcastMsg s.self (.hello s.cipher.bootNonce))) s.ring d⟩, rfl⟩

/-! ### A ring boot is served (R480, R865, R963) -/

/-- The bodies of what a peer has not acknowledged and of what waits. -/
def Peer.bodies (p : Peer) : List DccBody := p.unacked.map (fun u => u.msg.body) ++ p.queue

/-- Messages wait toward a peer only when eight are unacknowledged. -/
def Peer.fills (p : Peer) : Prop := p.unacked.length < 8 → p.queue = []

theorem dccPush_bodies (k : DccKeys) (self n frame : Nat) (b : DccBody) (r : Ring) (h : (Tab.get {} r.peers n : Peer).fills) :
    let p : Peer := Tab.get {} (dccPush k self n frame b r).peers n
    p.bodies = (Tab.get {} r.peers n : Peer).bodies ++ [b] ∧ p.fills := by
  by_cases hFull : 8 ≤ (Tab.get {} r.peers n : Peer).unacked.length
  · rw [dccPush_full k self n frame b hFull]
    dsimp only
    rw [Ring.peer_putPeer_same]
    exact ⟨(List.append_assoc _ _ _).symm, fun hLess => absurd hLess (not_lt.mpr hFull)⟩
  · have hRoom := not_le.mp hFull
    rw [dccPush_room k self n frame b hRoom]
    dsimp only
    rw [dccPut_peers, Ring.peer_putPeer_same]
    have hEmpty := h hRoom
    unfold Peer.bodies Peer.sent
    dsimp only
    rw [hEmpty, List.map_append, List.append_nil, List.append_nil]
    exact ⟨rfl, fun _ => rfl⟩

theorem State.sendAll_bodies (n : Nat) (l : List DccBody) (s : State) (h : (Tab.get {} s.ring.peers n : Peer).fills) :
    (Tab.get {} (l.foldl (fun t b => t.dcc n b) s).ring.peers n : Peer).bodies =
      (Tab.get {} s.ring.peers n : Peer).bodies ++ l := by
  induction l generalizing s with
  | nil => exact (List.append_nil _).symm
  | cons b l ih =>
    obtain ⟨hBodies, hFills⟩ := dccPush_bodies s.dccKeys s.self n s.tide.frame b s.ring h
    rw [List.foldl_cons, ih (s.dcc n b) hFills]
    exact (congrArg (· ++ l) hBodies).trans (by rw [List.append_assoc, List.singleton_append])

theorem State.sendImage_manager {s : State} (h : s.isManager = true) (d n : Nat) :
    s.sendImage d n = s.imgBlocks.foldl (fun t b => t.dcc n b) s := by
  unfold State.sendImage
  generalize s.imgBlocks = l
  induction l generalizing s with
  | nil => rfl
  | cons b l ih =>
    rw [List.foldl_cons, List.foldl_cons, if_pos h]
    exact ih h

theorem State.dcc_ring (n : Nat) (b : DccBody) (s : State) : s.dcc n b =
    { s with ring := { s.ring with peers := (s.dcc n b).ring.peers, sides := (s.dcc n b).ring.sides } } := by
  unfold State.dcc dccPush dccPushOn
  dsimp only
  split <;> rfl

/-- Messages toward a peer move the peers and what the sides send. -/
theorem State.sendAll_frame (n : Nat) (l : List DccBody) (s : State) :
    let t := l.foldl (fun t b => t.dcc n b) s
    t = { s with ring := { s.ring with peers := t.ring.peers, sides := t.ring.sides } } := by
  induction l generalizing s with
  | nil => rfl
  | cons b l ih =>
    have hRest := ih (s.dcc n b)
    have hOne := s.dcc_ring n b
    dsimp only at hRest ⊢
    rw [List.foldl_cons]
    generalize l.foldl (fun t b => t.dcc n b) (s.dcc n b) = t at hRest ⊢
    generalize s.dcc n b = u at hRest hOne
    rw [hOne] at hRest
    exact hRest

theorem imgReq_completes {s : State} (n : NodeNo) (h : s.isManager = true) (hFills : (Tab.get {} s.ring.peers n.val : Peer).fills) :
    completesWith (.imgReq n) s (fun t =>
      (Tab.get {} t.ring.peers n.val : Peer).bodies = (Tab.get {} s.ring.peers n.val : Peer).bodies ++ s.imgBlocks
      ∧ t = { s with ring := { s.ring with peers := t.ring.peers, sides := t.ring.sides } }) :=
  ⟨_, congrArg Host.Outcome.next (State.sendImage_manager h _ _), State.sendAll_bodies _ _ s hFills,
    State.sendAll_frame _ _ s⟩

/-! ### O44 -/

/-- Settles O44: what a request, a join's end and a departure do to the entry of their worker (`Enters`), and what is sent
with it. -/
theorem managerJoinCommands : Obligations.ManagerJoinCommands := by
  refine fun s h => ⟨fun q => joinReq_manager h, fun q l hq hl => joinReq_collected h hq hl, fun q => joinReq_first h,
    fun q n hq hCollect hSome hVersion hEntry hNonce hHold =>
      joinReq_refused h hq hCollect hSome hVersion hEntry hNonce hHold,
    fun q n hq hCollect hSome hVersion hEntry hUsed hNonce hAbsent =>
      joinReq_returns h hq hCollect hSome hVersion hEntry hUsed hNonce hAbsent,
    exec_joinCollectionEnd_none, fun q => exec_joinCollectionEnd_one, fun n => joinComplete_completes h,
    fun n => exec_joinComplete_not n h, ?_, ?_, fun n => joinHoldoffReset_completes n h, hello_completes h,
    fun n hFills => ?_⟩
  · rintro n hJoined i (rfl | rfl)
    · exact ⟨_, (exec_leave n h).trans (congrArg _ (if_pos hJoined)), nodeLeave_leaves n.val s⟩
    · exact ⟨_, (exec_workerGoneTimeout n h).trans (congrArg _ (if_pos hJoined)), nodeLeave_leaves n.val s⟩
  · intro n hOut
    rw [exec_leave n h, exec_workerGoneTimeout n h, if_neg (by simp [hOut])]
    exact ⟨rfl, rfl⟩
  · obtain ⟨t, hExec, hBodies, hFrame⟩ := imgReq_completes n h hFills
    refine ⟨t, hExec, ?_, hFrame⟩
    exact hBodies

end Sys2Proof.Machine
end

section
/-!
# The spans of the ring

What a declared or cleared defect, a wrap and its end do to the sides of the ring (R458 to R464).
-/
namespace Sys2Proof.Machine

-- One theorem after another: the stacks of many that wait at once would exceed the memory of the check.
set_option Elab.async false

variable {C : List Part} {s t u : State} {d : Nat}

/-! ### Beside a side -/

/-- What a side has declared. -/
def RingSide.faults (x : RingSide) : Bool × Bool := (x.sd, x.sf)

/-- From `s` to `t` no side has declared or cleared SD or SF. -/
def SameFaults (s t : State) : Prop := ∀ j, (t.side j).faults = (s.side j).faults

/-- From `s` to `t` only side `d` has moved, but for messages sent, and neither lanes, node table nor links. -/
structure Beside (d : Nat) (s t : State) : Prop where
  others : ∀ j, j ≠ d → (t.side j).besideDcc = (s.side j).besideDcc
  nodes  : t.ring.nodes = s.ring.nodes
  links  : t.ring.links = s.ring.links
  lanes  : t.ring.lanes = s.ring.lanes

theorem SameFaults.refl (s : State) : SameFaults s s := fun _ => rfl

theorem SameFaults.trans (h : SameFaults s t) (k : SameFaults t u) : SameFaults s u := fun j => (k j).trans (h j)

theorem Sends.sameFaults (h : Sends s.ring t.ring) : SameFaults s t := fun j => (congrArg RingSide.faults (h.side j) :)

theorem State.modSide_sameFaults (d : Nat) (f : RingSide → RingSide) (s : State)
    (hf : ∀ x, (f x).faults = x.faults := by intro x; rfl) : SameFaults s (s.modSide d f) :=
  Ring.modSides_other RingSide.faults d f hf s.ring.sides

theorem Beside.refl (d : Nat) (s : State) : Beside d s s := ⟨fun _ _ => rfl, rfl, rfl, rfl⟩

theorem Beside.trans (h : Beside d s t) (k : Beside d t u) : Beside d s u :=
  ⟨fun j hj => (k.others j hj).trans (h.others j hj), k.nodes.trans h.nodes, k.links.trans h.links,
    k.lanes.trans h.lanes⟩

theorem Sends.beside (h : Sends s.ring t.ring) (d : Nat) : Beside d s t :=
  ⟨fun j _ => h.side j, h.nodes, (congrArg Ring.links h.rest :), (congrArg Ring.lanes h.rest :)⟩

theorem State.side_modSide_other (d : Nat) (f : RingSide → RingSide) (s : State) {j : Nat} (hj : j ≠ d) :
    (s.modSide d f).side j = s.side j := Tab.get_modify_other _ _ _ hj

theorem State.modSide_beside (d : Nat) (f : RingSide → RingSide) (s : State) : Beside d s (s.modSide d f) :=
  ⟨fun _ hj => congrArg RingSide.besideDcc (State.side_modSide_other d f s hj), rfl, rfl, rfl⟩

theorem State.raise_sends (src obj detail : Nat) (s : State) : Sends s.ring (s.raise src obj detail).ring :=
  (Sends.refl _).raise _ _ _

/-! ### Bypass and training (R472, R473) -/

/-- The bypass closed. -/
def State.bypassed (s : State) : State :=
  ({ s with ring := { s.ring with join := { s.ring.join with bypOpen := false } } }).emit (.pin "BYP_OPEN_N" true)

theorem State.releaseBypass_eq (s : State) :
    s.releaseBypass = if s.ring.join.bypOpen then s.bypassed.raise 398 (sideObj s.self 0) 0 else s := rfl

theorem State.bypassed_adds (s : State) (hC : Covers reportParts C := by rfl) : Adds C s s.bypassed :=
  Adds.mono (D := reportParts) (adds_of_eq rfl rfl) hC

theorem State.releaseBypass_adds (s : State) (hC : Covers reportParts C := by rfl) : Adds C s s.releaseBypass := by
  rw [State.releaseBypass_eq]
  exact .ite ((s.bypassed_adds hC).trans (State.raise_adds _ _ _ _ hC)) (.refl _ s)

theorem State.releaseBypass_side (s : State) (j : Nat) :
    (s.releaseBypass.side j).besideDcc = (s.side j).besideDcc := by
  rw [State.releaseBypass_eq]
  split
  · exact (State.raise_sends _ _ _ s.bypassed).side j
  · rfl

theorem State.releaseBypass_beside (d : Nat) (s : State) : Beside d s s.releaseBypass := by
  refine ⟨fun j _ => s.releaseBypass_side j, ?_, ?_, ?_⟩ <;> rw [State.releaseBypass_eq] <;> split
  · exact (State.raise_sends _ _ _ s.bypassed).nodes
  · rfl
  · exact ((State.raise_sends _ _ _ s.bypassed).beside d).links
  · rfl
  · exact ((State.raise_sends _ _ _ s.bypassed).beside d).lanes
  · rfl

theorem State.releaseBypass_sameFaults (s : State) : SameFaults s s.releaseBypass :=
  fun j => (congrArg RingSide.faults (s.releaseBypass_side j) :)

theorem bypassRelease_completes (h : s.ring.join.bypOpen = true) : completesWith .bypassRelease s (fun t =>
    t.ring.join = { s.ring.join with bypOpen := false } ∧ .pin "BYP_OPEN_N" true ∈ t.out ∧ t.pends 398
    ∧ t = s.reporting t) := by
  refine ⟨_, congrArg Host.Outcome.next (if_pos h), ?_, ?_, State.raise_pends _ _ _ _, ?_⟩
  · exact (congrArg Ring.join (State.raise_sends 398 (sideObj s.self 0) 0 s.bypassed).rest :)
  · exact State.raise_keepsOut _ _ _ _ _ List.mem_cons_self
  · exact ((s.bypassed_adds (C := reportParts)).trans (State.raise_adds _ _ _ _)).within.reporting

theorem exec_bypassRelease_closed (h : s.ring.join.bypOpen = false) : exec .bypassRelease s = .next s :=
  congrArg Host.Outcome.next (if_neg (by simp [h]))

/-- A side's training noted and told. -/
def State.trainTold (d : Nat) (b : Bool) (s : State) : State :=
  (s.modSide d (fun x => { x with trained := b, managerSeen := false })).rgEvent d 17 0

theorem State.train_eq (d : Nat) (s : State) : s.train d = if (s.side d).trained = s.sideTrained d then s
    else if (s.sideTrained d || ((s.trainTold d (s.sideTrained d)).side (other d)).trained) = true
      then s.trainTold d (s.sideTrained d) else (s.trainTold d (s.sideTrained d)).releaseBypass := rfl

theorem State.trainTold_sends (d : Nat) (b : Bool) (s : State) :
    Sends (s.modSide d (fun x => { x with trained := b, managerSeen := false })).ring (s.trainTold d b).ring :=
  State.raise_sends _ _ _ _

theorem State.trainTold_adds (d : Nat) (b : Bool) (s : State) (hC : Covers reportParts C := by rfl) :
    Adds C s (s.trainTold d b) :=
  Adds.mono (D := reportParts) ((State.modSide_adds _ _ s).trans (State.rgEvent_adds _ _ _ _)) hC

theorem State.train_adds (d : Nat) (s : State) (hC : Covers reportParts C := by rfl) : Adds C s (s.train d) := by
  rw [State.train_eq]
  exact .ite (.refl _ s) (.ite (s.trainTold_adds _ _ hC)
    ((s.trainTold_adds _ _ hC).trans (State.releaseBypass_adds _ hC)))

theorem State.train_beside (d : Nat) (s : State) : Beside d s (s.train d) := by
  have hTold (b : Bool) : Beside d s (s.trainTold d b) :=
    (State.modSide_beside d _ s).trans ((s.trainTold_sends d b).beside d)
  rw [State.train_eq]
  split
  · exact .refl d s
  · split
    · exact hTold _
    · exact (hTold _).trans (State.releaseBypass_beside d _)

theorem State.train_sameFaults (d : Nat) (s : State) : SameFaults s (s.train d) := by
  have hTold (b : Bool) : SameFaults s (s.trainTold d b) :=
    (State.modSide_sameFaults d _ s).trans (s.trainTold_sends d b).sameFaults
  rw [State.train_eq]
  split
  · exact .refl s
  · split
    · exact hTold _
    · exact (hTold _).trans (State.releaseBypass_sameFaults _)

/-! ### A defect is declared (R458, Table QY-9) -/

theorem State.modRlane_adds (d n : Nat) (f : RingLane → RingLane) (s : State) (hC : Covers [.ring] C := by rfl) :
    Adds C s (s.modRlane d n f) := Adds.mono (D := [.ring]) (adds_of_eq rfl rfl) hC

section
variable (d : Nat) (c : RingDefect) (on : Bool) (s : State)

theorem State.setCond_adds (hC : Covers [.ring] C := by rfl) : Adds C s (s.setCond d c on) := by
  cases c
  case sd => exact .refl _ s
  case los => exact (State.modRlane_adds _ _ _ s hC).trans (State.modRlane_adds _ _ _ _ hC)
  case lof => exact (State.modRlane_adds _ _ _ s hC).trans (State.modRlane_adds _ _ _ _ hC)
  case lop => exact (State.modRlane_adds _ _ _ s hC).trans (State.modRlane_adds _ _ _ _ hC)
  all_goals exact State.modSide_adds _ _ s hC

theorem State.setCond_side_other {j : Nat} (hj : j ≠ d) : (s.setCond d c on).side j = s.side j := by
  cases c
  case skew => exact State.side_modSide_other d _ s hj
  case bip => exact State.side_modSide_other d _ s hj
  case labelSf => exact State.side_modSide_other d _ s hj
  all_goals rfl

theorem State.setCond_sameFaults : SameFaults s (s.setCond d c on) := by
  cases c
  case skew => exact State.modSide_sameFaults d _ s
  case bip => exact State.modSide_sameFaults d _ s
  case labelSf => exact State.modSide_sameFaults d _ s
  all_goals exact .refl s

theorem State.setCond_tables : (s.setCond d c on).ring.nodes = s.ring.nodes ∧ (s.setCond d c on).ring.links = s.ring.links := by
  cases c <;> exact ⟨rfl, rfl⟩

theorem State.setCond_los {s : State} {n : Nat} (hn : n < 2) : ((s.setCond d .los true).rlane d n).los = true := by
  change (Tab.get {} (Tab.modify {} (Tab.modify {} s.ring.lanes (2 * d + 0) (fun x => { x with los := true })) (2 * d + 1)
    (fun x => { x with los := true })) (2 * d + n)).los = true
  obtain rfl | rfl : n = 0 ∨ n = 1 := by omega
  · rw [Tab.get_modify_other _ _ _ (by omega), Tab.get_modify_same]
  · rw [Tab.get_modify_same]

/-- The event of a condition. -/
def State.condTold : State :=
  match condEvent c with
  | some k => (s.setCond d c true).rgEvent d k 0
  | none => s.setCond d c true

/-- A hard condition is not the label's alone; the first one notes the neighbour. -/
def State.condNoted : State :=
  if c = .labelSf || c = .sd then s.condTold d c else (s.condTold d c).modSide d (fun x =>
    { x with onlyLabel := false, faultNeighbour := if s.hardSf d then x.faultNeighbour else x.neighbour })

theorem State.declare_eq : s.declare d c = ((s.condNoted d c).enterDefect d (c == .sd)).train d := rfl

theorem State.condTold_sends : Sends (s.setCond d c true).ring (s.condTold d c).ring := by
  unfold State.condTold
  split
  · exact State.raise_sends _ _ _ _
  · exact .refl _

theorem State.condTold_adds (hC : Covers reportParts C := by rfl) : Adds C s (s.condTold d c) := by
  refine Adds.mono (D := reportParts) ?_ hC
  unfold State.condTold
  split
  · exact (s.setCond_adds d c true).trans (State.rgEvent_adds _ _ _ _)
  · exact s.setCond_adds d c true

theorem State.condNoted_adds (hC : Covers reportParts C := by rfl) : Adds C s (s.condNoted d c) :=
  Adds.mono (D := reportParts) (.ite (s.condTold_adds d c) ((s.condTold_adds d c).trans (State.modSide_adds _ _ _))) hC

theorem State.condNoted_beside : Beside d (s.setCond d c true) (s.condNoted d c) := by
  have hTold := (s.condTold_sends d c).beside d
  unfold State.condNoted
  split
  · exact hTold
  · exact hTold.trans (State.modSide_beside d _ _)

theorem State.condNoted_sameFaults : SameFaults s (s.condNoted d c) := by
  have hTold := (s.setCond_sameFaults d c true).trans (s.condTold_sends d c).sameFaults
  unfold State.condNoted
  split
  · exact hTold
  · exact hTold.trans (State.modSide_sameFaults d _ _)

theorem State.condNoted_los : (s.condNoted d .los).pends (320 + 32 * d) := by
  have hTold : (s.condTold d .los).pends (320 + 32 * d + 0) := State.raise_pends _ _ _ _
  exact (State.modSide_adds (C := [.ring]) d _ (s.condTold d .los)).pending _ hTold

end

/-- A side with SD or SF declared. -/
def State.defective (d : Nat) (sd : Bool) (s : State) : State :=
  (s.modSide d (fun x => { x with sd := x.sd || sd, sf := x.sf || !sd, wtr := false, faultNeighbour := x.neighbour
                                  onlyLabel := !sd && x.labelSf && !s.hardSf d })).setReq d

/-- Whether a side has declared SD, or SF. -/
def RingSide.has (sd : Bool) (x : RingSide) : Bool := if sd then x.sd else x.sf

theorem State.enterDefect_eq (d : Nat) (sd : Bool) (s : State) : s.enterDefect d sd =
    if (s.side d).has sd = true then s
    else (s.defective d sd).rgEvent d (if sd then 5 else 6) 0 := rfl

theorem State.defective_adds (d : Nat) (sd : Bool) (s : State) (hC : Covers [.ring] C := by rfl) :
    Adds C s (s.defective d sd) := (State.modSide_adds _ _ s hC).trans (State.modSide_adds _ _ _ hC)

theorem State.defective_faults (d : Nat) (sd : Bool) (s : State) :
    ((s.defective d sd).side d).faults = ((s.side d).sd || sd, (s.side d).sf || !sd) := by
  rw [State.defective, State.setReq, State.side_modSide_same, State.side_modSide_same]
  rfl

theorem State.enterDefect_adds (d : Nat) (sd : Bool) (s : State) (hC : Covers reportParts C := by rfl) :
    Adds C s (s.enterDefect d sd) := by
  rw [State.enterDefect_eq]
  exact Adds.mono (D := reportParts) (.ite (.refl _ s) ((s.defective_adds d sd).trans (State.rgEvent_adds _ _ _ _))) hC

theorem State.enterDefect_beside (d : Nat) (sd : Bool) (s : State) : Beside d s (s.enterDefect d sd) := by
  rw [State.enterDefect_eq]
  split
  · exact .refl d s
  · exact ((State.modSide_beside d _ s).trans (State.modSide_beside d _ _)).trans
      ((State.raise_sends _ _ _ (s.defective d sd)).beside d)

theorem State.enterDefect_faults (d : Nat) (sd : Bool) (s : State) :
    ((s.enterDefect d sd).side d).faults = ((s.side d).sd || sd, (s.side d).sf || !sd) := by
  rw [State.enterDefect_eq]
  split
  next h =>
    unfold RingSide.has at h
    unfold RingSide.faults
    cases sd
    · rw [if_neg Bool.false_ne_true] at h
      rw [h, Bool.or_false]
      rfl
    · rw [if_pos rfl] at h
      rw [h, Bool.not_true, Bool.or_false]
      rfl
  next => exact ((State.raise_sends _ _ _ (s.defective d sd)).sameFaults d).trans (s.defective_faults d sd)

theorem State.enterDefect_pends (d : Nat) (sd : Bool) {s : State}
    (h : (s.side d).has sd = false) :
    (s.enterDefect d sd).pends (320 + 32 * d + if sd then 5 else 6) := by
  rw [State.enterDefect_eq, if_neg (by rw [h]; decide)]
  exact State.raise_pends _ _ _ _

/-- What a declared defect leaves. -/
theorem State.declare_leaves (d : Nat) (c : RingDefect) (s : State) :
    Adds reportParts s (s.declare d c)
    ∧ Beside d (s.setCond d c true) (s.declare d c)
    ∧ ((s.declare d c).side d).faults = ((s.side d).sd || c == .sd, (s.side d).sf || !(c == .sd))
    ∧ ((s.side d).has (c == .sd) = false →
        (s.declare d c).pends (320 + 32 * d + if c == .sd then 5 else 6))
    ∧ (c = .los → (s.declare d c).pends (320 + 32 * d)) := by
  rw [State.declare_eq]
  have hNoted := s.condNoted_adds (C := reportParts) d c
  have hBeside := s.condNoted_beside d c
  have hFaults := s.condNoted_sameFaults d c d
  have hLos (h : c = .los) : (s.condNoted d c).pends (320 + 32 * d) := by
    rw [h]
    exact s.condNoted_los d
  generalize s.condNoted d c = u at *
  have hSd : (u.side d).sd = (s.side d).sd := congrArg Prod.fst hFaults
  have hSf : (u.side d).sf = (s.side d).sf := congrArg Prod.snd hFaults
  have hEnter := u.enterDefect_adds (C := reportParts) d (c == .sd)
  have hTrain := (u.enterDefect d (c == .sd)).train_adds (C := reportParts) d
  refine ⟨(hNoted.trans hEnter).trans hTrain,
    (hBeside.trans (u.enterDefect_beside d _)).trans (State.train_beside d _), ?_, fun h => ?_, fun h => ?_⟩
  · rw [State.train_sameFaults, State.enterDefect_faults, hSd, hSf]
  · unfold RingSide.has at h
    rw [← hSd, ← hSf] at h
    exact hTrain.pending _ (State.enterDefect_pends d _ h)
  · exact hTrain.pending _ (hEnter.pending _ (hLos h))

end Sys2Proof.Machine
end

section
/-!
# Defects, wraps and their ends, settled

The span commands of a side, from what a declared defect leaves (`declare_leaves`) and what a wrap moves (`Wraps`).
-/
namespace Sys2Proof.Machine

-- One theorem after another: the stacks of many that wait at once would exceed the memory of the check.
set_option Elab.async false

variable {C : List Part} {s t u : State} {d : Nat}

/-! ### A worker's timing (R53) -/

/-- HOLDOVER entered, its event not yet told. -/
def State.heldOver (s : State) : State :=
  { s with
    tide := { s.tide with state := .holdover, deciding := false, stepAt := none, holdAcc := 0
                          holdRun := some s.now, limitRaised := false }
    clk := { s.clk with steered := false } }

/-- What a declared defect may touch on a worker. -/
def holdParts : List Part := [.evt, .host, .ring, .log, .cnt, .out, .tide, .clk]

theorem State.enterHoldover_eq (s : State) : s.enterHoldover = (s.heldOver.raise 33 0 0).pulseHold := rfl

theorem State.heldOver_adds (s : State) (hC : Covers [.tide, .clk] C := by rfl) : Adds C s s.heldOver :=
  Adds.mono (D := [.tide, .clk]) (adds_of_eq rfl rfl) hC

theorem State.enterHoldover_adds (s : State) (hC : Covers holdParts C := by rfl) : Adds C s s.enterHoldover := by
  rw [State.enterHoldover_eq]
  exact Adds.mono (D := holdParts) ((s.heldOver_adds.trans (State.raise_adds _ _ _ _)).trans (State.pulseHold_adds _)) hC

theorem State.enterHoldover_state (s : State) : s.enterHoldover.tide.state = .holdover := by
  rw [State.enterHoldover_eq]
  refine (congrArg Tide.state (State.pulseHold_besidePulse _) :).trans ?_
  rw [(State.raise_adds (C := reportParts) _ _ _ _).within.tide rfl]
  rfl

theorem State.enterHoldover_sends (s : State) : Sends s.ring s.enterHoldover.ring := by
  rw [State.enterHoldover_eq, (State.pulseHold_adds (C := [.tide, .out]) _).within.ring rfl]
  exact State.raise_sends 33 0 0 s.heldOver

theorem State.timingCheck_eq (s : State) : s.timingCheck =
    if (s.isManager || !s.timingLost || decide (s.tide.state = .unanchored) || decide (s.tide.state = .holdover)) = true
    then s else s.enterHoldover := rfl

theorem State.timingCheck_adds (s : State) (hC : Covers holdParts C := by rfl) : Adds C s s.timingCheck := by
  rw [State.timingCheck_eq]
  exact .ite (.refl _ s) (s.enterHoldover_adds hC)

theorem State.timingCheck_sends (s : State) : Sends s.ring s.timingCheck.ring := by
  rw [State.timingCheck_eq]
  split
  · exact .refl _
  · exact s.enterHoldover_sends

theorem State.timingCheck_manager (h : s.isManager = true) : s.timingCheck = s := if_pos (by simp [h])

theorem State.timingCheck_holdover (hWorker : s.isManager = false) (hLost : s.timingLost = true)
    (hState : s.tide.state ≠ .unanchored) : s.timingCheck.tide.state = .holdover := by
  rw [State.timingCheck_eq]
  by_cases hHeld : s.tide.state = .holdover
  · rw [if_pos (by simp [hHeld])]
    exact hHeld
  · rw [if_neg (by simp [hWorker, hLost, hState, hHeld])]
    exact s.enterHoldover_state

/-! ### RING_DEFECT (R458) -/

theorem exec_ringDefect {d : Side} (c : RingDefect) (h : s.ringOn d.val = true) :
    exec (.ringDefect d c) s = .next (s.declare d.val c).timingCheck := congrArg Host.Outcome.next (if_pos h)

/-- Both sides of a ring that has lost its timing. -/
theorem State.timingLost_of {d : Side} (h : (s.side d.val).sf = true) (g : (s.side (1 - d.val)).sf = true) :
    s.timingLost = true := by
  unfold State.timingLost
  match d with
  | 0 => exact Bool.and_eq_true_iff.mpr ⟨h, g⟩
  | 1 => exact Bool.and_eq_true_iff.mpr ⟨g, h⟩

theorem RingSide.eq_of_besideDcc {x y : RingSide} (h : y.besideDcc = x.besideDcc) : y = { x with dccTx := y.dccTx } :=
  (congrArg (fun z : RingSide => { z with dccTx := y.dccTx }) h :)

theorem ringDefect_completes {d : Side} (c : RingDefect) (h : s.ringOn d.val = true) :
    completesWith (.ringDefect d c) s (fun t =>
      (c = .sd → (t.side d.val).sd = true ∧ ((s.side d.val).sd = false → t.pends (320 + 32 * d.val + 5)))
      ∧ (c ≠ .sd → (t.side d.val).sf = true ∧ ((s.side d.val).sf = false → t.pends (320 + 32 * d.val + 6)))
      ∧ (c = .los → t.pends (320 + 32 * d.val) ∧ (t.rlane d.val 0).los = true ∧ (t.rlane d.val 1).los = true)
      ∧ (∀ j, j ≠ d.val → t.side j = { s.side j with dccTx := (t.side j).dccTx }) ∧ t.ring.nodes = s.ring.nodes
      ∧ t.ring.links = s.ring.links
      ∧ (s.isManager = false → c ≠ .sd → (s.side (1 - d.val)).sf = true → s.tide.state ≠ .unanchored →
          t.tide.state = .holdover)
      ∧ (s.isManager = true → t = s.reporting t)
      ∧ t = { s.reporting t with tide := t.tide, clk := t.clk }) := by
  refine ⟨_, exec_ringDefect c h, ?_⟩
  obtain ⟨hAdds, hBeside, hFaults, hPends, hLos⟩ := State.declare_leaves d.val c s
  have hRole : (s.declare d.val c).isManager = s.isManager := (congrArg Start.manager (hAdds.within.start rfl) :)
  have hTide : (s.declare d.val c).tide = s.tide := hAdds.within.tide rfl
  generalize s.declare d.val c = u at *
  have hCheck := u.timingCheck_adds (C := holdParts)
  have hSends := u.timingCheck_sends
  have hSide := hSends.sameFaults d.val
  have hSd : (u.timingCheck.side d.val).sd = ((s.side d.val).sd || c == .sd) := congrArg Prod.fst (hSide.trans hFaults)
  have hSf : (u.timingCheck.side d.val).sf = ((s.side d.val).sf || !(c == .sd)) := congrArg Prod.snd (hSide.trans hFaults)
  have hAll := hBeside.trans (hSends.beside d.val)
  obtain ⟨hNodes, hLinks⟩ := s.setCond_tables d.val c true
  refine ⟨?_, fun hc => ?_, ?_, fun j hj => ?_, hAll.nodes.trans hNodes, hAll.links.trans hLinks, ?_, ?_, ?_⟩
  · rintro rfl
    exact ⟨by rw [hSd]; exact Bool.or_true _, fun hNew => hCheck.pending _ (hPends hNew)⟩
  · have hBeq : (c == .sd) = false := beq_eq_false_iff_ne.mpr hc
    rw [hBeq] at hPends hSf
    exact ⟨by rw [hSf]; exact Bool.or_true _, fun hNew => hCheck.pending _ (hPends hNew)⟩
  · rintro rfl
    refine ⟨hCheck.pending _ (hLos rfl), ?_, ?_⟩
    · unfold State.rlane
      rw [hAll.lanes]
      exact State.setCond_los _ (n := 0) (by decide)
    · unfold State.rlane
      rw [hAll.lanes]
      exact State.setCond_los _ (n := 1) (by decide)
  · have hSame := RingSide.eq_of_besideDcc (hAll.others j hj)
    rw [State.setCond_side_other _ _ _ _ hj] at hSame
    exact hSame
  · intro hWorker hc hOther hState
    have hBeq : (c == .sd) = false := beq_eq_false_iff_ne.mpr hc
    have hOwn : (u.side d.val).sf = true := by
      refine (congrArg Prod.snd hFaults).trans ?_
      rw [hBeq]
      exact Bool.or_true _
    have hFar : (u.side (1 - d.val)).sf = true := by
      have hNe : 1 - d.val ≠ d.val := by omega
      have hSame := hBeside.others _ hNe
      rw [State.setCond_side_other _ _ _ _ hNe] at hSame
      exact (congrArg RingSide.sf hSame :).trans hOther
    exact State.timingCheck_holdover (hRole.trans hWorker) (State.timingLost_of hOwn hFar) (by rw [hTide]; exact hState)
  · intro hManager
    rw [State.timingCheck_manager (hRole.trans hManager)]
    exact hAdds.within.reporting
  · have hWithin : Within holdParts s u.timingCheck := (hAdds.within.mono rfl).trans hCheck.within
    exact hWithin.eq_merge

/-! ### What a wrap and its end move -/

/-- Tide without the timing side that is to come. -/
def Tide.besideTiming (x : Tide) : Tide := { x with timingNext := none }

/-- What a wrap or its end touches. -/
def wrapParts : List Part := [.evt, .host, .ring, .log, .cnt, .out, .tide, .adm]

/-- From `s` to `t` a wrap has moved what it may: the timing side to come, and the frame of admission's next re-run. -/
structure Wraps (s t : State) : Prop where
  adds : Adds wrapParts s t
  tide : t.tide.besideTiming = s.tide.besideTiming
  adm  : t.adm.besideDue = s.adm.besideDue

theorem Wraps.trans (h : Wraps s t) (k : Wraps t u) : Wraps s u :=
  ⟨h.adds.trans k.adds, k.tide.trans h.tide, k.adm.trans h.adm⟩

theorem Adds.wraps (h : Adds reportParts s t) : Wraps s t :=
  ⟨h.mono rfl, congrArg Tide.besideTiming (h.within.tide rfl), congrArg Admission.besideDue (h.within.adm rfl)⟩

theorem Wraps.refl (s : State) : Wraps s s := (Adds.refl _ s).wraps

theorem Wraps.ite {c : Prop} [Decidable c] (h : Wraps s t) (k : Wraps s u) : Wraps s (if c then t else u) := by
  split
  · exact h
  · exact k

theorem Tide.eq_of_besideTiming {x y : Tide} (h : y.besideTiming = x.besideTiming) :
    y = { x with timingNext := y.timingNext } :=
  (congrArg (fun z : Tide => { z with timingNext := y.timingNext }) h :)

theorem Wraps.frame (h : Wraps s t) : t = { s.reporting t with
    tide := { s.tide with timingNext := t.tide.timingNext }, adm := { s.adm with due := t.adm.due } } := by
  have hTide := Tide.eq_of_besideTiming h.tide
  have hAdm := Admission.eq_of_besideDue h.adm
  rw [← hTide, ← hAdm]
  exact h.adds.within.eq_merge

theorem State.timingSide_recheck_wraps (s : State) : Wraps s s.timingSide.recheck := by
  have hTiming : Adds wrapParts s s.timingSide ∧ s.timingSide.tide.besideTiming = s.tide.besideTiming := by
    unfold State.timingSide
    split
    · exact ⟨.refl _ s, rfl⟩
    · exact ⟨adds_of_eq rfl rfl, rfl⟩
  exact ⟨hTiming.1.trans (State.recheck_adds _), hTiming.2, (congrArg Admission.besideDue s.timingSide_adm :)⟩

theorem State.timingSide_recheck_ring (s : State) : s.timingSide.recheck.ring = s.ring := s.timingSide_ring

theorem State.timingSide_recheck_due (s : State) : s.timingSide.recheck.adm.due = some (s.tide.frame + 2) := by
  rw [State.recheck_due]
  unfold State.timingSide
  split <;> rfl

/-- The end of a wrap (R463, R464). -/
theorem State.unwrap_wraps (d : Nat) (s : State) : Wraps s (s.unwrap d) := by
  rw [State.unwrap_eq]
  have hSpan : Wraps s (s.unwrapped d) := (State.unwrapped_adds d s).wraps
  exact .ite ((hSpan.trans (State.relinked_adds _ _ _).wraps).trans (State.timingSide_recheck_wraps _)) hSpan

theorem State.unwrap_side (d j : Nat) (s : State) :
    ((s.unwrap d).side j).besideDcc = ((s.unwrapped d).side j).besideDcc := by
  rw [State.unwrap_eq]
  split
  · have hRing (t : State) : t.timingSide.recheck.side j = t.side j :=
      congrArg (fun r : Ring => (Tab.get {} r.sides j : RingSide)) t.timingSide_ring
    rw [hRing]
    exact State.relinked_side _ _ _ j
  · rfl

theorem State.unwrapped_ends (d : Nat) (s : State) :
    ((s.unwrapped d).side d).wtr = false ∧ ((s.unwrapped d).side d).wrapped = false := by
  rw [State.unwrapped, State.setReq, State.side_modSide_same, State.side_modSide_same]
  exact ⟨rfl, rfl⟩

theorem State.unwrap_ends (d : Nat) (s : State) :
    ((s.unwrap d).side d).wtr = false ∧ ((s.unwrap d).side d).wrapped = false := by
  obtain ⟨hWtr, hWrapped⟩ := s.unwrapped_ends d
  exact ⟨(congrArg RingSide.wtr (s.unwrap_side d d) :).trans hWtr,
    (congrArg RingSide.wrapped (s.unwrap_side d d) :).trans hWrapped⟩

theorem State.unwrapped_sameFaults (d : Nat) (s : State) : SameFaults s (s.unwrapped d) :=
  (State.modSide_sameFaults d _ s).trans (State.modSide_sameFaults d _ _)

theorem State.unwrap_sameFaults (d : Nat) (s : State) : SameFaults s (s.unwrap d) :=
  (s.unwrapped_sameFaults d).trans (fun j => (congrArg RingSide.faults (s.unwrap_side d j) :))

theorem State.unwrap_told (d : Nat) (h : (s.side d).wrapped = true) :
    (s.unwrap d).pends 385 ∧ (s.unwrap d).adm.due = some (s.tide.frame + 2) := by
  rw [State.unwrap_eq, if_pos h]
  have hLinks := State.reinitWhere_adds (C := reportParts) (fun n => s.ring.sideOf n == d)
    ((s.unwrapped d).raise 385 (sideObj s.self d) 0)
  have hPends : ((s.unwrapped d).relinked (sideObj s.self d) (fun n => s.ring.sideOf n == d)).pends 385 :=
    hLinks.pending.after_raise
  have hTide : ((s.unwrapped d).relinked (sideObj s.self d) (fun n => s.ring.sideOf n == d)).tide = s.tide :=
    ((State.unwrapped_adds (C := reportParts) d s).trans (State.relinked_adds _ _ _)).within.tide rfl
  generalize (s.unwrapped d).relinked (sideObj s.self d) (fun n => s.ring.sideOf n == d) = u at *
  exact ⟨u.timingSide_recheck_wraps.adds.pending _ hPends, by rw [State.timingSide_recheck_due, hTide]⟩

/-! ### WTR_EXPIRY (R463) -/

theorem wtrExpiry_completes {d : Side} (h : (s.side d.val).wtr = true) (hOn : s.ringOn d.val = true) :
    completesWith (.wtrExpiry d) s (fun t =>
      (t.side d.val).wtr = false ∧ (t.side d.val).wrapped = false
      ∧ ((s.side d.val).wrapped = true → t.pends 385 ∧ t.adm.due = some (s.tide.frame + 2))
      ∧ t = { s.reporting t with
          tide := { s.tide with timingNext := t.tide.timingNext }, adm := { s.adm with due := t.adm.due } }) := by
  obtain ⟨hWtr, hWrapped⟩ := s.unwrap_ends d.val
  exact ⟨_, congrArg Host.Outcome.next (if_pos (by simp [h, hOn])), hWtr, hWrapped, State.unwrap_told d.val,
    (s.unwrap_wraps d.val).frame⟩

theorem exec_wtrExpiry_not {d : Side} (h : (s.side d.val).wtr = false ∨ s.ringOn d.val = false) :
    exec (.wtrExpiry d) s = .next s := by
  refine congrArg Host.Outcome.next (if_neg ?_)
  rcases h with h | h <;> simp [h]

/-! ### RING_WRAP (R453, R460, R461) -/

/-- A side that is wrapped now. -/
def RingSide.wraps (x : RingSide) : RingSide :=
  { x with wrapped := true, wtr := false, farWrap := !(x.sf || x.sd || x.cmd != 0) }

/-- A span wrapped, and told; a second one splits the ring. -/
def State.wrapTold (d : Nat) (s : State) : State :=
  let x := s.side d
  let s1 := (s.modSide d (fun y => { y with wrapped := true, wtr := false, farWrap := !(x.sf || x.sd || x.cmd != 0) })).raise
    384 (sideObj s.self d) 0
  if (s.side (other d)).wrapped then s1.raise 397 (sideObj s.self d) 0 else s1

theorem exec_ringWrap {d : Side} (hNew : (s.side d.val).wrapped = false) (hDue : s.wrapDue d.val = true)
    (hOn : s.ringOn d.val = true) : exec (.ringWrap d) s =
      .next ((s.wrapTold d.val).reinitWhere (fun n => s.ring.sideOf n == d.val)).timingSide.recheck :=
  congrArg Host.Outcome.next (if_neg (by simp [hNew, hDue, hOn]))

theorem exec_ringWrap_not {d : Side} (h : (s.side d.val).wrapped = true ∨ s.wrapDue d.val = false ∨ s.ringOn d.val = false) :
    exec (.ringWrap d) s = .next s := by
  refine congrArg Host.Outcome.next (if_pos ?_)
  rcases h with h | h | h <;> simp [h]

theorem State.wrapTold_leaves (d : Nat) (s : State) :
    Adds reportParts s (s.wrapTold d)
    ∧ ((s.wrapTold d).side d).besideDcc = (s.side d).wraps.besideDcc
    ∧ (s.wrapTold d).pends 384 ∧ ((s.side (other d)).wrapped = true → (s.wrapTold d).pends 397) := by
  have hSpan (f : RingSide → RingSide) : Adds reportParts s ((s.modSide d f).raise 384 (sideObj s.self d) 0) :=
    (State.modSide_adds _ _ s).trans (State.raise_adds _ _ _ _)
  have hSide (f : RingSide → RingSide) : (((s.modSide d f).raise 384 (sideObj s.self d) 0).side d).besideDcc =
      (f (s.side d)).besideDcc :=
    ((State.raise_sends _ _ _ (s.modSide d f)).side d).trans (congrArg RingSide.besideDcc (State.side_modSide_same d f s))
  have hPends (f : RingSide → RingSide) : ((s.modSide d f).raise 384 (sideObj s.self d) 0).pends 384 :=
    State.raise_pends _ _ _ _
  unfold State.wrapTold
  dsimp only
  by_cases hSplit : (s.side (other d)).wrapped = true
  · rw [if_pos hSplit]
    exact ⟨(hSpan _).trans (State.raise_adds _ _ _ _), ((State.raise_sends _ _ _ _).side d).trans (hSide _),
      State.raise_keepsPending _ _ _ _ _ (hPends _), fun _ => State.raise_pends _ _ _ _⟩
  · rw [if_neg hSplit]
    exact ⟨hSpan _, hSide _, hPends _, fun h => absurd h hSplit⟩

theorem ringWrap_completes {d : Side} (hNew : (s.side d.val).wrapped = false) (hDue : s.wrapDue d.val = true)
    (hOn : s.ringOn d.val = true) : completesWith (.ringWrap d) s (fun t =>
      t.side d.val = { s.side d.val with
        wrapped := true, wtr := false, dccTx := (t.side d.val).dccTx,
        farWrap := !((s.side d.val).sf || (s.side d.val).sd || (s.side d.val).cmd != 0) }
      ∧ t.pends 384 ∧ ((s.side (other d.val)).wrapped = true → t.pends 397)
      ∧ t.adm.due = some (s.tide.frame + 2)
      ∧ t = { s.reporting t with
          tide := { s.tide with timingNext := t.tide.timingNext }, adm := { s.adm with due := t.adm.due } }) := by
  refine ⟨_, exec_ringWrap hNew hDue hOn, ?_⟩
  obtain ⟨hAdds, hSide, hWrap, hSplit⟩ := s.wrapTold_leaves d.val
  generalize s.wrapTold d.val = u at *
  have hLinks := State.reinitWhere_adds (C := reportParts) (fun n => s.ring.sideOf n == d.val) u
  have hLinked := State.reinitWhere_side (fun n => s.ring.sideOf n == d.val) u d.val
  generalize u.reinitWhere (fun n => s.ring.sideOf n == d.val) = v at *
  have hWraps := v.timingSide_recheck_wraps
  have hAfter : v.timingSide.recheck.side d.val = v.side d.val := by
    unfold State.side
    rw [State.timingSide_recheck_ring]
  refine ⟨?_, hWraps.adds.pending _ (hLinks.pending _ hWrap), fun h => hWraps.adds.pending _ (hLinks.pending _ (hSplit h)),
    ?_, ((hAdds.trans hLinks).wraps.trans hWraps).frame⟩
  · have hSame := RingSide.eq_of_besideDcc (hLinked.trans hSide)
    rw [hAfter]
    exact hSame
  · rw [State.timingSide_recheck_due, (hAdds.trans hLinks).within.tide rfl]

/-! ### RING_DEFECT_CLEAR (R463, R464) -/

/-- A span that waits to restore. -/
def State.waits (d : Nat) (s : State) : State := (s.modSide d (fun x => { x with wtr := true })).setReq d

theorem State.afterClear_eq (d : Nat) (s : State) : s.afterClear d =
    if ((s.side d).sf || (s.side d).sd || decide ((s.side d).cmd ≠ 0)) = true then s.setReq d
    else if (!(s.side d).wrapped) = true then s.setReq d
    else if ((s.side d).onlyLabel || decide ((s.side d).neighbour ≠ (s.side d).faultNeighbour)) = true then s.unwrap d
    else (s.waits d).raise 386 (sideObj s.self d) 0 := rfl

theorem State.setReq_wraps (d : Nat) (s : State) : Wraps s (s.setReq d) := (State.modSide_adds _ _ s).wraps

theorem State.waits_wraps (d : Nat) (s : State) : Wraps s ((s.waits d).raise 386 (sideObj s.self d) 0) :=
  (((State.modSide_adds (C := reportParts) d _ s).trans (State.modSide_adds _ _ _)).trans (State.raise_adds _ _ _ _)).wraps

theorem State.afterClear_wraps (d : Nat) (s : State) : Wraps s (s.afterClear d) := by
  rw [State.afterClear_eq]
  exact .ite (s.setReq_wraps d) (.ite (s.setReq_wraps d) (.ite (s.unwrap_wraps d) (s.waits_wraps d)))

theorem State.afterClear_sameFaults (d : Nat) (s : State) : SameFaults s (s.afterClear d) := by
  have hReq : SameFaults s (s.setReq d) := State.modSide_sameFaults d _ s
  have hWaits : SameFaults s (s.waits d) := (State.modSide_sameFaults d _ s).trans (State.modSide_sameFaults d _ _)
  rw [State.afterClear_eq]
  split
  · exact hReq
  · split
    · exact hReq
    · split
      · exact s.unwrap_sameFaults d
      · exact hWaits.trans (State.raise_sends _ _ _ _).sameFaults

/-- Nothing else asks for the wrap: it waits to restore. -/
theorem State.afterClear_waits (hSf : (s.side d).sf = false) (hSd : (s.side d).sd = false) (hCmd : (s.side d).cmd = 0)
    (hWrapped : (s.side d).wrapped = true) (hLabel : (s.side d).onlyLabel = false)
    (hNeighbour : (s.side d).neighbour = (s.side d).faultNeighbour) :
    ((s.afterClear d).side d).wtr = true ∧ ((s.afterClear d).side d).wrapped = true ∧ (s.afterClear d).pends 386 := by
  rw [State.afterClear_eq, if_neg (by simp [hSf, hSd, hCmd]), if_neg (by simp [hWrapped]),
    if_neg (by simp [hLabel, hNeighbour])]
  have hSide := (State.raise_sends 386 (sideObj s.self d) 0 (s.waits d)).side d
  have hWaits : ((s.waits d).side d).wtr = true ∧ ((s.waits d).side d).wrapped = (s.side d).wrapped := by
    rw [State.waits, State.setReq, State.side_modSide_same, State.side_modSide_same]
    exact ⟨rfl, rfl⟩
  exact ⟨(congrArg RingSide.wtr hSide :).trans hWaits.1,
    (congrArg RingSide.wrapped hSide :).trans (hWaits.2.trans hWrapped), State.raise_pends _ _ _ _⟩

/-- A side whose SD, or SF, has cleared. -/
def State.sdCleared (d : Nat) (s : State) : State := s.modSide d (fun x => { x with sd := false })
def State.sfCleared (d : Nat) (s : State) : State := s.modSide d (fun x => { x with sf := false })

/-- What follows when SD clears, and when another condition does. -/
def State.sdEnds (d : Nat) (s : State) : State := if (s.side d).sd = true then (s.sdCleared d).afterClear d else s
def State.condEnds (d : Nat) (s : State) : State :=
  if ((s.side d).sf && !s.hardSf d) = true then
    if (s.side d).labelSf = true then (s.modSide d (fun x => { x with onlyLabel := true })).train d
    else ((s.sfCleared d).afterClear d).train d
  else s.train d

theorem exec_ringDefectClear_sd {d : Side} (h : s.ringOn d.val = true) :
    exec (.ringDefectClear d .sd) s = .next (s.sdEnds d.val) := congrArg Host.Outcome.next (if_neg (by simp [h]))

theorem exec_ringDefectClear_cond {d : Side} {c : RingDefect} (hc : c ≠ .sd) (h : s.ringOn d.val = true) :
    exec (.ringDefectClear d c) s = .next ((s.setCond d.val c false).condEnds d.val) :=
  congrArg Host.Outcome.next ((if_neg (by simp [h])).trans (if_neg hc))

theorem exec_ringDefectClear_off {d : Side} (c : RingDefect) (h : s.ringOn d.val = false) :
    exec (.ringDefectClear d c) s = .next s := congrArg Host.Outcome.next (if_pos (by simp [h]))

theorem exec_ringDefect_off {d : Side} (c : RingDefect) (h : s.ringOn d.val = false) :
    exec (.ringDefect d c) s = .next s := congrArg Host.Outcome.next (if_neg (by simp [h]))

theorem State.sdEnds_wraps (d : Nat) (s : State) : Wraps s (s.sdEnds d) :=
  .ite ((State.modSide_adds (C := reportParts) _ _ s).wraps.trans (State.afterClear_wraps d _)) (.refl s)

theorem State.condEnds_wraps (d : Nat) (s : State) : Wraps s (s.condEnds d) := by
  have hTrain (t : State) : Wraps t (t.train d) := (t.train_adds d).wraps
  exact .ite (.ite ((State.modSide_adds (C := reportParts) _ _ s).wraps.trans (hTrain _))
    (((State.modSide_adds (C := reportParts) _ _ s).wraps.trans (State.afterClear_wraps d _)).trans (hTrain _))) (hTrain s)

theorem State.sdEnds_sd (d : Nat) (s : State) : ((s.sdEnds d).side d).sd = false := by
  unfold State.sdEnds
  split
  · refine (congrArg Prod.fst (State.afterClear_sameFaults d (s.sdCleared d) d) :).trans ?_
    exact congrArg RingSide.sd (State.side_modSide_same d (fun x => { x with sd := false }) s)
  next h => exact Bool.eq_false_iff.mpr h

/-- SD alone has asked for the wrap: it waits to restore. -/
theorem State.sdEnds_waits (hSd : (s.side d).sd = true) (hSf : (s.side d).sf = false) (hCmd : (s.side d).cmd = 0)
    (hWrapped : (s.side d).wrapped = true) (hLabel : (s.side d).onlyLabel = false)
    (hNeighbour : (s.side d).neighbour = (s.side d).faultNeighbour) :
    ((s.sdEnds d).side d).wtr = true ∧ ((s.sdEnds d).side d).wrapped = true ∧ (s.sdEnds d).pends 386 := by
  have hSide : (s.sdCleared d).side d = { s.side d with sd := false } := State.side_modSide_same d _ s
  unfold State.sdEnds
  rw [if_pos hSd]
  exact State.afterClear_waits (by rw [hSide]; exact hSf) (by rw [hSide]) (by rw [hSide]; exact hCmd)
    (by rw [hSide]; exact hWrapped) (by rw [hSide]; exact hLabel) (by rw [hSide]; exact hNeighbour)

/-- The last condition of SF clears. -/
theorem State.condEnds_sf (hHard : s.hardSf d = false) (hLabel : (s.side d).labelSf = false) :
    ((s.condEnds d).side d).sf = false := by
  unfold State.condEnds
  by_cases hSf : (s.side d).sf = true
  · rw [if_pos (by rw [hSf, hHard]; rfl), if_neg (by rw [hLabel]; exact Bool.false_ne_true)]
    refine (congrArg Prod.snd (State.train_sameFaults d _ d) :).trans ?_
    refine (congrArg Prod.snd (State.afterClear_sameFaults d (s.sfCleared d) d) :).trans ?_
    exact congrArg RingSide.sf (State.side_modSide_same d (fun x => { x with sf := false }) s)
  · have hOff := Bool.eq_false_iff.mpr hSf
    rw [if_neg (by rw [hOff]; exact Bool.false_ne_true)]
    exact (congrArg Prod.snd (State.train_sameFaults d s d) :).trans hOff

theorem ringDefectClear_completes {d : Side} (c : RingDefect) (h : s.ringOn d.val = true) :
    completesWith (.ringDefectClear d c) s (fun t =>
      (c = .sd → (t.side d.val).sd = false)
      ∧ (c = .sd → (s.side d.val).sd = true → (s.side d.val).sf = false → (s.side d.val).cmd = 0 →
          (s.side d.val).wrapped = true → (s.side d.val).onlyLabel = false →
          (s.side d.val).neighbour = (s.side d.val).faultNeighbour → (t.side d.val).wtr = true
          ∧ (t.side d.val).wrapped = true ∧ t.pends 386)
      ∧ (c ≠ .sd → (s.setCond d.val c false).hardSf d.val = false →
          ((s.setCond d.val c false).side d.val).labelSf = false → (t.side d.val).sf = false)
      ∧ t = { s.reporting t with
          tide := { s.tide with timingNext := t.tide.timingNext }, adm := { s.adm with due := t.adm.due } }) := by
  by_cases hc : c = .sd
  · subst hc
    exact ⟨_, exec_ringDefectClear_sd h, fun _ => s.sdEnds_sd d.val, fun _ => State.sdEnds_waits,
      fun hNe => absurd rfl hNe, (s.sdEnds_wraps d.val).frame⟩
  · have hCond : Wraps s (s.setCond d.val c false) := (s.setCond_adds d.val c false).wraps
    exact ⟨_, exec_ringDefectClear_cond hc h, fun hSd => absurd hSd hc, fun hSd => absurd hSd hc,
      fun _ hHard hLabel => State.condEnds_sf hHard hLabel, (hCond.trans (State.condEnds_wraps d.val _)).frame⟩

/-! ### O41 -/

/-- Settles O41: the span commands of a side. -/
theorem ringSpanCommands : Obligations.RingSpanCommands := by
  refine fun s d => ⟨fun c => ringDefect_completes c, fun c => ringDefectClear_completes c, ringWrap_completes,
    fun h => exec_ringWrap_not ?_, wtrExpiry_completes, fun h => exec_wtrExpiry_not (.inl h),
    fun c hOff => ⟨exec_ringDefect_off c hOff, exec_ringDefectClear_off c hOff, exec_ringWrap_not (.inr (.inr hOff)),
      exec_wtrExpiry_not (.inr hOff)⟩, bypassRelease_completes, exec_bypassRelease_closed⟩
  exact h.imp_right .inl

end Sys2Proof.Machine
end

section
/-!
# Pointers, credits and containers of the ring

How a lane follows its pointer, what a credit return makes of a link, and a container that carries a whole packet.
-/
namespace Sys2Proof.Machine

-- One theorem after another: the stacks of many that wait at once would exceed the memory of the check.
set_option Elab.async false

/-! ### Pointers (R433, R434, R436) -/

section
variable {h : RingHead} {x : RingLane}

/-- How many of a pointer's I bits, or D bits, are inverted against the expected VALUE. -/
def invertedI (h : RingHead) (v : Nat) : Nat := ones ((h.ptr ^^^ v) &&& iBits)
def invertedD (h : RingHead) (v : Nat) : Nat := ones ((h.ptr ^^^ v) &&& dBits)

/-- A lane whose pointer has been followed: the value for the frame to come. -/
def RingLane.follows (v just : Nat) (x : RingLane) : RingLane :=
  { x with badPtr := 0, lop := false, value := nextValue v (dataBytes just), candN := 0 }

theorem nextValue_lt (v n : Nat) : nextValue v n < 272 := Nat.mod_lt _ (by decide)

/-- Positions of one lane stay apart from frame to frame. -/
theorem nextValue_injective {a b : Nat} (ha : a < 272) (hb : b < 272) (hEq : nextValue a ringPayload = nextValue b ringPayload) :
    a = b := by
  unfold nextValue ringPayload at hEq
  omega

theorem RingLane.pointer_value_lt (h : RingHead) (x : RingLane) : (x.pointer h).1.value < 272 := by
  unfold RingLane.pointer
  dsimp only
  split
  · exact nextValue_lt _ _
  · split
    · exact nextValue_lt _ _
    · split
      · exact nextValue_lt _ _
      · split
        · exact nextValue_lt _ _
        · split
          · split
            · split
              · exact nextValue_lt _ _
              · exact nextValue_lt _ _
            · split
              · exact nextValue_lt _ _
              · exact nextValue_lt _ _
          · exact nextValue_lt _ _

theorem RingLane.pointer_new (hNdf : h.ndf = 9) (hPtr : h.ptr ≤ 271) :
    x.pointer h = (x.follows h.ptr 0, ⟨h.ptr, 0, true⟩) := if_pos ⟨hNdf, hPtr⟩

theorem not_newPtr (hNdf : h.ndf = 6) : ¬ (h.ndf = 9 ∧ h.ptr ≤ 271) :=
  fun hNew => absurd (hNdf.symm.trans hNew.1) (by decide)

theorem RingLane.pointer_positive (hNdf : h.ndf = 6) (hI : 3 ≤ invertedI h x.value) (hD : invertedD h x.value = 0) :
    x.pointer h = (x.follows x.value 1, ⟨x.value, 1, false⟩) :=
  (if_neg (not_newPtr hNdf)).trans (if_pos ⟨hNdf, hI, hD⟩)

theorem RingLane.pointer_negative (hNdf : h.ndf = 6) (hD : 3 ≤ invertedD h x.value) (hI : invertedI h x.value = 0) :
    x.pointer h = (x.follows x.value 2, ⟨x.value, 2, false⟩) :=
  (if_neg (not_newPtr hNdf)).trans ((if_neg (fun hBoth => by
    have hNone : invertedD h x.value = 0 := hBoth.2.2
    omega)).trans (if_pos ⟨hNdf, hD, hI⟩))

/-- A pointer in whose VALUE too few bits are inverted for a justification. -/
def plainPtr (h : RingHead) (v : Nat) : Prop := h.ndf = 6 ∧ invertedI h v < 3 ∧ invertedD h v < 3

theorem RingLane.pointer_plain (hPlain : plainPtr h x.value) : x.pointer h =
    if h.ndf = 6 ∧ h.ptr = x.value then (x.follows x.value 0, ⟨x.value, 0, false⟩)
    else if h.ndf = 6 ∧ h.ptr ≤ 271 then
      if 3 ≤ (if x.candN ≠ 0 ∧ h.ptr = x.cand then x.candN + 1 else 1) then (x.follows h.ptr 0, ⟨h.ptr, 0, true⟩)
      else ({ x with badPtr := 0, lop := false, value := nextValue x.value ringPayload
                     cand := nextValue h.ptr ringPayload
                     candN := if x.candN ≠ 0 ∧ h.ptr = x.cand then x.candN + 1 else 1 }, ⟨x.value, 0, false⟩)
    else ({ x with badPtr := min 8 (x.badPtr + 1), value := nextValue x.value ringPayload, candN := 0 },
      ⟨x.value, 0, false⟩) := by
  obtain ⟨hNdf, hI, hD⟩ := hPlain
  have hNoI : ¬ (h.ndf = 6 ∧ 3 ≤ invertedI h x.value ∧ invertedD h x.value = 0) := fun hJust => absurd hJust.2.1 (not_le.mpr hI)
  have hNoD : ¬ (h.ndf = 6 ∧ 3 ≤ invertedD h x.value ∧ invertedI h x.value = 0) := fun hJust => absurd hJust.2.1 (not_le.mpr hD)
  exact (if_neg (not_newPtr hNdf)).trans ((if_neg hNoI).trans (if_neg hNoD))

theorem RingLane.pointer_same (hNdf : h.ndf = 6) (hPtr : h.ptr = x.value) :
    x.pointer h = (x.follows x.value 0, ⟨x.value, 0, false⟩) := by
  have hPlain : plainPtr h x.value := by
    unfold plainPtr invertedI invertedD
    rw [hPtr, Nat.xor_self, Nat.zero_and, Nat.zero_and]
    exact ⟨hNdf, by decide, by decide⟩
  rw [RingLane.pointer_plain hPlain, if_pos ⟨hNdf, hPtr⟩]

/-- A changed pointer waits until it has been alike in three frames. -/
theorem RingLane.pointer_changed (hPlain : plainPtr h x.value) (hNe : h.ptr ≠ x.value) (hPtr : h.ptr < 272) {n : Nat}
    (hN : (if x.candN ≠ 0 ∧ h.ptr = x.cand then x.candN + 1 else 1) = n) : x.pointer h =
      if 3 ≤ n then (x.follows h.ptr 0, ⟨h.ptr, 0, true⟩)
      else ({ x with badPtr := 0, lop := false, value := nextValue x.value ringPayload
                     cand := nextValue h.ptr ringPayload, candN := n }, ⟨x.value, 0, false⟩) := by
  rw [RingLane.pointer_plain hPlain, if_neg (fun hSame => hNe hSame.2), if_pos ⟨hPlain.1, by omega⟩, hN]

end

theorem dataBytes_negative : dataBytes 2 = ringPayload + 1 := (if_neg (by decide)).trans (if_pos rfl)

theorem dataBytes_plain : dataBytes 0 = ringPayload := (if_neg (by decide)).trans (if_neg (by decide))

theorem RingLane.pointer_says {h : RingHead} {x : RingLane} {v just n : Nat} {r : PtrRead}
    (hPointer : x.pointer h = (x.follows v just, r)) (hBytes : dataBytes just = n) :
    (x.pointer h).2 = r ∧ (x.pointer h).1.value = nextValue v n := by
  rw [hPointer, ← hBytes]
  exact ⟨rfl, rfl⟩

/-- A changed pointer is taken in the third frame alike. -/
theorem RingLane.pointer_third {x : RingLane} {h : Fin 3 → RingHead} (hCand : x.candN = 0) (hValue : x.value < 272)
    (hPtr : (h 0).ptr < 272) (hNe : (h 0).ptr ≠ x.value) (h0 : plainPtr (h 0) x.value)
    (h1 : plainPtr (h 1) (nextValue x.value ringPayload)) (hOne : (h 1).ptr = nextValue (h 0).ptr ringPayload)
    (h2 : plainPtr (h 2) (nextValue (nextValue x.value ringPayload) ringPayload))
    (hTwo : (h 2).ptr = nextValue (nextValue (h 0).ptr ringPayload) ringPayload) :
    let y := x.pointer (h 0)
    let z := y.1.pointer (h 1)
    y.2 = ⟨x.value, 0, false⟩ ∧ z.2 = ⟨nextValue x.value ringPayload, 0, false⟩
    ∧ (z.1.pointer (h 2)).2 = ⟨nextValue (nextValue (h 0).ptr ringPayload) ringPayload, 0, true⟩ := by
  have hNe1 : (h 1).ptr ≠ nextValue x.value ringPayload := by
    rw [hOne]
    exact fun hEq => hNe (nextValue_injective hPtr hValue hEq)
  have hNe2 : (h 2).ptr ≠ nextValue (nextValue x.value ringPayload) ringPayload := by
    rw [hTwo, ← hOne]
    exact fun hEq => hNe1 (nextValue_injective (by rw [hOne]; exact nextValue_lt _ _) (nextValue_lt _ _) hEq)
  have hFirst := RingLane.pointer_changed (n := 1) h0 hNe hPtr (if_neg (fun hAlike => hAlike.1 hCand))
  rw [if_neg (by decide)] at hFirst
  dsimp only
  rw [hFirst]
  dsimp only
  have hSecond := RingLane.pointer_changed (n := 2)
    (x := { x with badPtr := 0, lop := false, value := nextValue x.value ringPayload
                   cand := nextValue (h 0).ptr ringPayload, candN := 1 }) h1 hNe1 (by rw [hOne]; exact nextValue_lt _ _)
    (if_pos ⟨Nat.one_ne_zero, hOne⟩)
  rw [if_neg (by decide)] at hSecond
  rw [hSecond]
  dsimp only
  have hThird := RingLane.pointer_changed (n := 3)
    (x := { x with badPtr := 0, lop := false, value := nextValue (nextValue x.value ringPayload) ringPayload
                   cand := nextValue (h 1).ptr ringPayload, candN := 2 }) h2 hNe2 (by rw [hTwo]; exact nextValue_lt _ _)
    (if_pos ⟨two_ne_zero, by rw [hOne]; exact hTwo⟩)
  rw [if_pos (le_refl 3)] at hThird
  rw [hThird]
  dsimp only
  rw [hTwo]
  exact ⟨rfl, rfl, rfl⟩

/-- The boundary that is expected `k` frames on, as containers of 272 bytes go on (log 90). -/
def boundaryAfter (k a : Nat) : Nat :=
  if k = 0 then a else if k = 1 then nextValue a ringPayload else nextValue (nextValue a ringPayload) ringPayload

theorem boundaryAfter_zero (a : Nat) : boundaryAfter 0 a = a := if_pos rfl

theorem boundaryAfter_one (a : Nat) : boundaryAfter 1 a = nextValue a ringPayload := (if_neg (by decide)).trans (if_pos rfl)

theorem boundaryAfter_two (a : Nat) : boundaryAfter 2 a = nextValue (nextValue a ringPayload) ringPayload :=
  (if_neg (by decide)).trans (if_neg (by decide))

theorem RingLane.pointer_alike {x : RingLane} {h : Fin 3 → RingHead} (hCand : x.candN = 0) (hValue : x.value < 272)
    (hPtr : (h 0).ptr < 272) (hNe : (h 0).ptr ≠ x.value) (hAll : ∀ k : Fin 3, (h k).ptr = boundaryAfter k.val (h 0).ptr
      ∧ plainPtr (h k) (boundaryAfter k.val x.value)) :
    let y := x.pointer (h 0)
    let z := y.1.pointer (h 1)
    y.2 = ⟨boundaryAfter 0 x.value, 0, false⟩ ∧ z.2 = ⟨boundaryAfter 1 x.value, 0, false⟩
    ∧ (z.1.pointer (h 2)).2 = ⟨boundaryAfter 2 (h 0).ptr, 0, true⟩ := by
  have hZero : ((0 : Fin 3) : Nat) = 0 := rfl
  have hOne : ((1 : Fin 3) : Nat) = 1 := rfl
  have hTwo : ((2 : Fin 3) : Nat) = 2 := rfl
  obtain ⟨-, h0⟩ := hAll 0
  obtain ⟨hPtr1, h1⟩ := hAll 1
  obtain ⟨hPtr2, h2⟩ := hAll 2
  rw [hZero, boundaryAfter_zero] at h0
  rw [hOne, boundaryAfter_one] at hPtr1 h1
  rw [hTwo, boundaryAfter_two] at hPtr2 h2
  rw [boundaryAfter_zero, boundaryAfter_one, boundaryAfter_two]
  exact RingLane.pointer_third hCand hValue hPtr hNe h0 h1 hPtr1 h2 hPtr2

/-! ### Credit returns (R450) -/

section
variable (s : State) (r : CreditRec)

/-- A link after a return of its epoch. -/
def CreditLink.returned (cum c bnd : Nat) (l : CreditLink) : CreditLink :=
  let after : CreditLink := { l with cum := cum % 65536 }
  { after with held := initCredit c - after.out, moved := if l.cum = after.cum then l.moved else bnd }

theorem State.creditBack_eq : s.creditBack r =
    if r.epoch ≠ (s.link_ s.self r.origin.val r.cclass.val).epoch ∨ (s.link_ s.self r.origin.val r.cclass.val).reinit = true
    then s
    else s.modLink s.self r.origin.val r.cclass.val (CreditLink.returned r.cum r.cclass.val s.bnd) := rfl

theorem State.link_modLink_same (src dst c : Nat) (f : CreditLink → CreditLink) :
    (s.modLink src dst c f).link_ src dst c = f (s.link_ src dst c) := Tab.get_modify_same _ _ _ _

/-- A return of the current epoch: what is held and what is out make the initial credit. -/
theorem State.creditBack_balances (hEpoch : r.epoch = (s.link_ s.self r.origin.val r.cclass.val).epoch)
    (hRuns : (s.link_ s.self r.origin.val r.cclass.val).reinit = false) :
    let l := s.link_ s.self r.origin.val r.cclass.val
    let l' := (s.creditBack r).link_ s.self r.origin.val r.cclass.val
    l'.sent = l.sent ∧ l'.cum = r.cum % 65536 ∧ l'.epoch = l.epoch
    ∧ (l'.out ≤ initCredit r.cclass.val → l'.balanced r.cclass.val = true) := by
  have hBack : (s.creditBack r).link_ s.self r.origin.val r.cclass.val =
      (s.link_ s.self r.origin.val r.cclass.val).returned r.cum r.cclass.val s.bnd := by
    rw [State.creditBack_eq, if_neg (by simp [hEpoch, hRuns])]
    exact State.link_modLink_same s _ _ _ _
  dsimp only
  rw [hBack]
  generalize s.link_ s.self r.origin.val r.cclass.val = l
  refine ⟨rfl, rfl, rfl, fun hOut => ?_⟩
  exact beq_iff_eq.mpr (Nat.sub_add_cancel hOut)

theorem State.creditBack_ignored (h : r.epoch ≠ (s.link_ s.self r.origin.val r.cclass.val).epoch
    ∨ (s.link_ s.self r.origin.val r.cclass.val).reinit = true) : s.creditBack r = s := if_pos h

theorem State.creditBack_other {k : Nat} (hk : k ≠ linkKey s.self r.origin.val r.cclass.val) :
    Tab.get {} (s.creditBack r).ring.links k = Tab.get {} s.ring.links k := by
  rw [State.creditBack_eq]
  split
  · rfl
  · exact Tab.get_modify_other _ _ _ hk

end

/-! ### A container with a whole packet (R442 to R447) -/

section
variable {C : List Part} {s : State} {c : Container}

/-- The reassembly that a first container begins. -/
def begunReasm (c : Container) : Reasm := { queue := c.queue.val, owner := if c.oper then 0 else c.berth.val + 1 }

/-- The packet that a container carries whole. -/
def wholePacket (c : Container) : Packet :=
  { bytes := c.cell, check := c.check, trunc := c.trunc, bad := c.bad, owner := (begunReasm c).owner }

/-- A container counted as it arrives, and as consumed for its source. -/
def State.arrived (d : Nat) (c : Container) (s : State) : State := (s.inc (rgCnt d (8 + c.cclass.val))).consume c

theorem State.consume_adds (c : Container) (s : State) (hC : Covers [.ring] C := by rfl) : Adds C s (s.consume c) := by
  refine Adds.mono (D := [.ring]) ?_ hC
  unfold State.consume
  dsimp only
  split
  · exact .refl _ s
  · exact adds_of_eq rfl rfl

theorem State.consume_counts (h : c.epoch = (s.end_ c.src.val s.self c.cclass.val).epoch) :
    ((s.consume c).end_ c.src.val s.self c.cclass.val).consumed =
      ((s.end_ c.src.val s.self c.cclass.val).consumed + 1) % 65536 := by
  unfold State.consume
  dsimp only
  rw [if_neg (not_not.mpr h.symm)]
  exact congrArg CreditEnd.consumed (Tab.get_modify_same ({} : CreditEnd) _ _ (fun e => { e with consumed := (e.consumed + 1) % 65536 }))

/-- What one container counted leaves: the same but what reporting changes, and the same sides and tables of the ring. -/
theorem State.arrived_within (d : Nat) (c : Container) (s : State) : Within reportParts s (s.arrived d c) :=
  ((State.inc_adds (C := reportParts) _ s).trans (State.consume_adds c _)).within

theorem State.consume_reasm (c : Container) (s : State) : (s.consume c).ring.reasm = s.ring.reasm := by
  unfold State.consume
  dsimp only
  split <;> rfl

theorem State.arrived_reasm (d : Nat) (c : Container) (s : State) (k : Nat) : (s.arrived d c).reasmOf k = s.reasmOf k := by
  have hCount : (s.inc (rgCnt d (8 + c.cclass.val))).ring.reasm = s.ring.reasm :=
    (congrArg Ring.reasm ((Sends.refl s.ring).inc _).rest :)
  unfold State.reasmOf State.arrived
  rw [State.consume_reasm, hCount]

theorem State.inc_end (i : Nat) (s : State) (a b k : Nat) : (s.inc i).end_ a b k = s.end_ a b k := by
  have hEnds : (s.inc i).ring.ends = s.ring.ends := (congrArg Ring.ends ((Sends.refl s.ring).inc i).rest :)
  unfold State.end_
  rw [hEnds]

theorem State.self_of_within {t : State} (hManager : s.isManager = true) (h : Within reportParts s t) : t.self = s.self := by
  rw [State.self_of_manager hManager, State.self_of_manager ((congrArg Start.manager (h.start rfl)).trans hManager)]

theorem State.arrived_counts (hManager : s.isManager = true) (d : Nat)
    (h : c.epoch = (s.end_ c.src.val s.self c.cclass.val).epoch) :
    ((s.arrived d c).end_ c.src.val s.self c.cclass.val).consumed =
      ((s.end_ c.src.val s.self c.cclass.val).consumed + 1) % 65536 := by
  have hSelf := State.self_of_within hManager (State.inc_adds (C := reportParts) (rgCnt d (8 + c.cclass.val)) s).within
  have hCounts := State.consume_counts (s := s.inc (rgCnt d (8 + c.cclass.val))) (c := c)
  rw [hSelf, State.inc_end] at hCounts
  exact hCounts h

/-- A cell taken for a container whose packet is whole: it goes to RING and on to the queue. -/
def State.celled (k : Nat) (s : State) : State :=
  (({ s with pool := { s.pool with free := s.pool.free - 1, ring := s.pool.ring + 1 } } : State).setReasm k none).freeRing 1

/-- A container for this node with a whole packet that R314 allows is linked to its queue. -/
theorem State.addCell_whole (k : Nat) (hLast : c.last = true) (hTake : s.mayTake c.queue.val (begunReasm c).owner 1 = .ok)
    (hRecount : s.pool.recount = false) (hIntake : s.intakeStopped = false) (hPort : s.egressTakes c.queue.val = true)
    (hUp : 2048 ≤ c.queue.val → s.cfg.upEnabled c.queue.val = true) :
    s.addCell k c (begunReasm c) = (s.celled k).link c.queue.val (wholePacket c) := by
  have hOpen : ¬ ((s.celled k).intakeStopped || !(s.celled k).egressTakes c.queue.val
      || (decide (2048 ≤ c.queue.val) && !(s.celled k).cfg.upEnabled c.queue.val)) = true := by
    change ¬ (s.intakeStopped || !s.egressTakes c.queue.val
      || (decide (2048 ≤ c.queue.val) && !s.cfg.upEnabled c.queue.val)) = true
    rw [hIntake, hPort]
    by_cases hHigh : 2048 ≤ c.queue.val
    · rw [hUp hHigh, Bool.not_true, Bool.and_false]
      decide
    · rw [decide_eq_false hHigh, Bool.false_and]
      decide
  have hLink (r : Reasm) (hr : r.queue = c.queue.val) (hCells : r.cells = 1)
      (hp : ({ bytes := r.bytes, check := c.check, trunc := r.trunc, bad := r.bad, owner := r.owner } : Packet) = wholePacket c) :
      State.linkRing r c.check (State.setReasm k none
        { s with pool := { s.pool with free := s.pool.free - 1, ring := s.pool.ring + 1 } }) =
        (s.celled k).link c.queue.val (wholePacket c) := by
    unfold State.linkRing
    rw [hr, hCells, hp]
    exact (if_neg (show ¬ s.pool.recount = true by rw [hRecount]; decide)).trans (if_neg hOpen)
  unfold State.addCell
  dsimp only
  rw [if_neg (show ¬ (begunReasm c).dropped = true from Bool.false_ne_true), show (begunReasm c).queue = c.queue.val from rfl,
    hTake, hLast]
  dsimp only
  rw [if_neg (by decide), if_neg (show ¬ (begunReasm c).dropped = true from Bool.false_ne_true)]
  refine hLink _ rfl rfl ?_
  unfold begunReasm wholePacket
  dsimp only
  rw [List.nil_append, Bool.false_or, Bool.false_or]
  rfl

/-- What R314 allows does not move with what reporting changes, but for the reassemblies. -/
theorem State.mayTake_of_reasm {t : State} (hManager : s.isManager = true) (h : t.ring.reasm = s.ring.reasm) (q owner n : Nat) :
    (s.reporting t).mayTake q owner n = s.mayTake q owner n := by
  have hParts : (s.reporting t).ring.parts = s.ring.parts := by
    change t.ring.parts = s.ring.parts
    unfold Ring.parts
    rw [h]
  have hSelf : (s.reporting t).self = s.self :=
    (State.self_of_manager (s := s.reporting t) hManager).trans (State.self_of_manager hManager).symm
  have hCells : (s.reporting t).ownerCells owner = s.ownerCells owner := by
    unfold State.ownerCells
    rw [hParts]
    rfl
  have hUsed (d : Nat) : (s.reporting t).used d = s.used d := by
    unfold State.used
    rw [hParts]
    rfl
  have hMin (d : Nat) : (s.reporting t).minOf d = s.minOf d := by
    unfold State.minOf
    rw [hSelf]
    rfl
  have hUnmet (d : Nat) : (s.reporting t).unmet d = s.unmet d := by
    unfold State.unmet
    simp only [hMin, hUsed]
  unfold State.mayTake
  dsimp only
  rw [hCells, hUsed, hMin, hUnmet]
  rfl

/-- The hypotheses under which a container's packet is taken whole. -/
structure TakesWhole (s : State) (c : Container) : Prop where
  crc     : c.crcOk = true
  cls     : c.cclass.val < 5
  noRet   : c.crValid = false
  valid   : c.valid = true
  here    : c.dst.val = s.self
  manager : s.isManager = true
  gen     : s.genOk c = true
  first   : c.first = true
  last    : c.last = true
  empty   : s.reasmOf (c.src.val * 8 + c.cclass.val) = none
  runs    : s.pool.recount = false
  used    : s.queueUsed c.queue.val = true
  intake  : s.intakeStopped = false
  port    : s.egressTakes c.queue.val = true
  up      : 2048 ≤ c.queue.val → s.cfg.upEnabled c.queue.val = true
  take    : s.mayTake c.queue.val (begunReasm c).owner 1 = .ok

theorem State.containerIn_whole (d : Nat) (h : TakesWhole s c) : s.containerIn d c =
    ((s.arrived d c).celled (c.src.val * 8 + c.cclass.val)).link c.queue.val (wholePacket c) := by
  have hWithin := s.arrived_within d c
  have hEq := hWithin.reporting
  have hReasm := (s.arrived_reasm d c _).trans h.empty
  have hCounted := (State.inc_adds (C := reportParts) (rgCnt d (8 + c.cclass.val)) s).within.pool rfl
  have hTakes : (s.inc (rgCnt d (8 + c.cclass.val))).takeContainer d c =
      (s.arrived d c).addCell (c.src.val * 8 + c.cclass.val) c (begunReasm c) := by
    have hRun : ¬ (s.inc (rgCnt d (8 + c.cclass.val))).pool.recount = true := by
      rw [hCounted, h.runs]
      decide
    have hUsed : ¬ (!(s.inc (rgCnt d (8 + c.cclass.val))).queueUsed c.queue.val) = true := by
      have hSame : (s.inc (rgCnt d (8 + c.cclass.val))).queueUsed c.queue.val = s.queueUsed c.queue.val := by
        unfold State.queueUsed State.isManager
        rw [(State.inc_adds (C := reportParts) (rgCnt d (8 + c.cclass.val)) s).within.start rfl]
      rw [hSame, h.used]
      decide
    unfold State.takeContainer
    dsimp only
    rw [if_neg hRun, if_pos h.first]
    change (if (!(s.inc (rgCnt d (8 + c.cclass.val))).queueUsed c.queue.val) = true then
      (if ((s.arrived d c).reasmOf (c.src.val * 8 + c.cclass.val)).isSome = true then _ else s.arrived d c)
      else (if ((s.arrived d c).reasmOf (c.src.val * 8 + c.cclass.val)).isSome = true then _ else s.arrived d c).addCell _ c
        (begunReasm c)) = _
    rw [if_neg hUsed, hReasm]
    rfl
  have hReasms : (s.arrived d c).ring.reasm = s.ring.reasm := by
    unfold State.arrived
    rw [State.consume_reasm]
    exact (congrArg Ring.reasm ((Sends.refl s.ring).inc _).rest :)
  have hAdd : (s.arrived d c).addCell (c.src.val * 8 + c.cclass.val) c (begunReasm c) =
      ((s.arrived d c).celled (c.src.val * 8 + c.cclass.val)).link c.queue.val (wholePacket c) := by
    refine State.addCell_whole _ h.last ?_ ?_ ?_ ?_ ?_ <;> rw [hEq]
    · exact (State.mayTake_of_reasm h.manager hReasms _ _ _).trans h.take
    · exact h.runs
    · exact h.intake
    · exact h.port
    · exact h.up
  unfold State.containerIn
  dsimp only
  rw [if_neg (by rw [h.crc, decide_eq_false (not_le.mpr h.cls)]; decide), h.noRet, Bool.false_and,
    if_neg Bool.false_ne_true, h.valid, h.gen]
  rw [if_neg (by decide), if_neg (by decide), if_pos ?_]
  · exact hTakes.trans hAdd
  · exact h.here

theorem wholePacket_cells (hCell : c.cell ≠ []) (hLength : c.cell.length ≤ 256) : (wholePacket c).cells = 1 := by
  have hPos := List.length_pos_iff.mpr hCell
  change cellsOf c.cell.length = 1
  unfold cellsOf ceilDiv
  omega

/-- A container's packet taken whole: linked at the tail of its queue, its cell in QUEUED, counted for its source. -/
theorem State.containerIn_takes (d : Nat) (h : TakesWhole s c) (hCell : c.cell ≠ []) (hLength : c.cell.length ≤ 256)
    (hEpoch : c.epoch = (s.end_ c.src.val s.self c.cclass.val).epoch) :
    let t := s.containerIn d c
    (t.queue c.queue.val).pkts = (s.queue c.queue.val).pkts ++ [wholePacket c]
    ∧ (t.end_ c.src.val s.self c.cclass.val).consumed = ((s.end_ c.src.val s.self c.cclass.val).consumed + 1) % 65536
    ∧ t.pool.queued = s.pool.queued + 1 ∧ t.pool.ring = s.pool.ring := by
  have hPool : (s.arrived d c).pool = s.pool := (s.arrived_within d c).pool rfl
  have hCounts := State.arrived_counts h.manager d hEpoch
  dsimp only
  rw [s.containerIn_whole d h]
  generalize s.arrived d c = u at *
  have hQueue : (u.celled (c.src.val * 8 + c.cclass.val)).queue c.queue.val = s.queue c.queue.val := by
    change (Tab.get {} u.pool.queues c.queue.val : Queue) = _
    rw [hPool]
    rfl
  have hQueued : (u.celled (c.src.val * 8 + c.cclass.val)).pool.queued = s.pool.queued := by
    change u.pool.queued = _
    rw [hPool]
  have hRing : (u.celled (c.src.val * 8 + c.cclass.val)).pool.ring = s.pool.ring :=
    (Nat.add_sub_cancel _ _).trans (congrArg Pool.ring hPool)
  have hEnds : (u.celled (c.src.val * 8 + c.cclass.val)).ring.ends = u.ring.ends := rfl
  generalize u.celled (c.src.val * 8 + c.cclass.val) = v at *
  have hLinkPool := v.link_pool c.queue.val (wholePacket c)
  have hLinkEnds : (v.link c.queue.val (wholePacket c)).ring.ends = v.ring.ends := by
    refine (congrArg Ring.ends (Sends.rest (r := v.ring) ?_) :)
    exact Sends.poolLow (Sends.threshold (s := (v.modQueue c.queue.val (fun x => { x with pkts := x.pkts ++ [wholePacket c] })).takeQueued
      (wholePacket c).cells) (.refl v.ring) c.queue.val)
  refine ⟨by rw [State.link_pkts, hQueue], ?_, ?_, ?_⟩
  · unfold State.end_ at *
    rw [hLinkEnds, hEnds]
    exact hCounts
  · rw [(congrArg Pool.queued hLinkPool :), hQueued, wholePacket_cells hCell hLength]
  · exact (congrArg Pool.ring hLinkPool :).trans hRing

end

/-! ### O39 -/

/-- Settles O39: the pointer's cases, the credit equation, and a container whose packet is taken whole. -/
theorem ringArithmetic : Obligations.RingArithmetic := by
  refine ⟨fun h x => ⟨fun _ => RingLane.pointer_value_lt h x, fun hNdf hI hD => ?_, fun hNdf hD hI => ?_, fun hNdf hPtr => ?_,
    fun hNdf hPtr => ?_⟩, fun x h => ?_, fun s r => ⟨State.creditBack_balances s r, State.creditBack_ignored s r,
    fun k => State.creditBack_other s r⟩, fun s d c => ?_⟩
  · exact RingLane.pointer_says (RingLane.pointer_positive (x := x) hNdf hI hD) (if_pos rfl)
  · exact RingLane.pointer_says (RingLane.pointer_negative (x := x) hNdf hD hI) (dataBytes_negative)
  · exact RingLane.pointer_says (RingLane.pointer_new (x := x) hNdf hPtr) (dataBytes_plain)
  · exact RingLane.pointer_says (RingLane.pointer_same hNdf hPtr) (dataBytes_plain)
  · intro nx v c' hCand hValue hPtr hNe hAll
    refine RingLane.pointer_alike hCand hValue hPtr hNe (fun k => ?_)
    obtain ⟨hNdf, hAlike, hI, hD⟩ := hAll k
    exact ⟨hAlike, hNdf, hI, hD⟩
  · intro r k hCrc hCls hRet hValid hHere hManager hGen hFirst hLast hEmpty hRuns hUsed hIntake hPort hUp hTake hCell
      hLength hEpoch
    exact State.containerIn_takes d ⟨hCrc, hCls, hRet, hValid, hHere, hManager, hGen, hFirst, hLast, hEmpty, hRuns, hUsed,
      hIntake, hPort, hUp, hTake⟩ hCell hLength hEpoch

end Sys2Proof.Machine
end

section
/-!
# Caravans that are cancelled, and ports that go down

Which parts of the device a cancelled caravan, a rewound Alloc-ID and a port taken down may touch; of a lane
none of them moves more than its transmitter and what is left of an OMCI message.
-/
namespace Sys2Proof.Machine

-- One theorem after another: the stacks of many that wait at once would exceed the memory of the check.
set_option Elab.async false

variable {C : List Part} {s t : State}

/-! ### Folds from the right -/

theorem Adds.foldr {α : Type} {f : α → State → State} (h : ∀ x t, Adds C t (f x t)) (l : List α) (s : State) :
    Adds C s (l.foldr f s) := by
  induction l with
  | nil => exact .refl C s
  | cons x l ih => exact ih.trans (h x _)

theorem State.foldr_same {α β : Type} (F : State → β) {f : α → State → State} (h : ∀ x t, F (f x t) = F t) (l : List α)
    (s : State) : F (l.foldr f s) = F s := by
  induction l with
  | nil => rfl
  | cons x l ih => exact (h x _).trans ih

/-! ### Lanes -/

theorem State.modLane_adds (l : Nat) (f : LaneState → LaneState) (s : State) (hC : Covers [.line] C := by rfl) :
    Adds C s (s.modLane l f) := Adds.mono (D := [.line]) (adds_of_eq rfl rfl) hC

theorem State.modAlloc_adds (a : Nat) (f : AllocState → AllocState) (s : State) (hC : Covers [.line] C := by rfl) :
    Adds C s (s.modAlloc a f) := Adds.mono (D := [.line]) (adds_of_eq rfl rfl) hC

theorem State.lane_modLane_same (l : Nat) (f : LaneState → LaneState) (s : State) :
    (s.modLane l f).lane l = f (s.lane l) := Tab.get_modify_same _ _ _ _

/-- An update of a lane that leaves a field of it alone leaves that field of every lane. -/
theorem State.lane_modLane_kept {α : Type} (F : LaneState → α) (l : Nat) (f : LaneState → LaneState)
    (hf : ∀ x, F (f x) = F x) (s : State) (n : Nat) : F ((s.modLane l f).lane n) = F (s.lane n) := by
  by_cases h : n = l
  · rw [h, State.lane_modLane_same, hf]
  · exact congrArg F (Tab.get_modify_other _ _ f h)

/-- A lane without the transmitter's state and without what a cancelled caravan may touch. -/
def LaneState.still (x : LaneState) : LaneState :=
  { x with omciRest := none, spans := [], burst := none, txDis := false, actFrame := 0 }

/-- Lane `n` without those, and the record of the lanes in O7. -/
def State.laneRecord (n : Nat) (s : State) : LaneState × Nat := ((s.lane n).still, s.line.o7Store)

/-- The activation state of lane `n`. -/
def State.actOf (n : Nat) (s : State) : Act := (s.lane n).act

theorem State.laneRecord_modLane (n l : Nat) (f : LaneState → LaneState) (hf : ∀ x, (f x).still = x.still) (s : State) :
    (s.modLane l f).laneRecord n = s.laneRecord n :=
  congrArg (fun x => (x, s.line.o7Store)) (State.lane_modLane_kept LaneState.still l f hf s n)

theorem State.actOf_modLane (n l : Nat) (f : LaneState → LaneState) (hf : ∀ x, (f x).act = x.act) (s : State) :
    (s.modLane l f).actOf n = s.actOf n := State.lane_modLane_kept LaneState.act l f hf s n

theorem State.actOf_of_laneRecord {n : Nat} (h : t.laneRecord n = s.laneRecord n) : t.actOf n = s.actOf n :=
  congrArg (fun r : LaneState × Nat => r.1.act) h

theorem Adds.lane (h : Adds C s t) (n : Nat) (hC : C.contains .line = false := by rfl) : t.lane n = s.lane n := by
  rw [State.lane, h.within.line hC]
  rfl

theorem Adds.laneRecord (h : Adds C s t) (n : Nat) (hC : C.contains .line = false := by rfl) :
    t.laneRecord n = s.laneRecord n := by
  rw [State.laneRecord, State.laneRecord, h.lane n hC, h.within.line hC]

theorem Adds.actOf (h : Adds C s t) (n : Nat) (hC : C.contains .line = false := by rfl) : t.actOf n = s.actOf n :=
  congrArg LaneState.act (h.lane n hC)

theorem State.cutBurst_laneRecord (n l : Nat) (s : State) : (s.cutBurst l).laneRecord n = s.laneRecord n := by
  unfold State.cutBurst
  split
  · rfl
  · have hMod := State.laneRecord_modLane n l (fun x => { x with burst := none, spans := [] }) (fun _ => rfl) s
    dsimp only
    split
    · exact hMod
    · exact hMod

theorem State.dropParts_adds (l : Nat) (s : State) (hC : Covers [.line, .cnt, .evt, .host, .ring, .log, .out] C := by rfl) :
    Adds C s (s.dropParts l) :=
  Adds.mono (D := [.line, .cnt, .evt, .host, .ring, .log, .out])
    ((State.count_adds _ _ s).trans (State.modLane_adds _ _ _)) hC

theorem State.dropParts_actOf (n l : Nat) (s : State) : (s.dropParts l).actOf n = s.actOf n :=
  (State.actOf_modLane n l (fun x => { x with parts := [] }) (fun _ => rfl) _).trans
    ((State.count_adds (C := reportParts) _ _ s).actOf n)

theorem State.dropParts_lane (l : Nat) (s : State) : (s.dropParts l).lane l = { s.lane l with parts := [] } := by
  have hCount := (State.count_adds (C := reportParts) (lnCnt l 7)
    ((s.lane l).parts.filter (fun x => x.2.any (fun y => !y.2))).length s).lane l
  unfold State.dropParts
  rw [State.lane_modLane_same, hCount]

/-! ### Rewound and cancelled (R206, R214, R215) -/

/-- What a rewind and a cancelled caravan touch. -/
def caravanParts : List Part := [.evt, .host, .ring, .log, .cnt, .out, .line, .pool]

theorem State.raWindow_adds (a : Nat) (s : State) (hC : Covers [.line] C := by rfl) : Adds C s (s.raWindow a) :=
  State.modAlloc_adds _ _ s hC

theorem State.pushHead_adds (q : Nat) (p : Packet) (s : State) (hC : Covers [.pool] C := by rfl) :
    Adds C s (s.pushHead q p) := State.modQueue_adds _ _ s hC

theorem State.toQueued_adds (n : Nat) (s : State) (hC : Covers [.pool] C := by rfl) : Adds C s (s.toQueued n) :=
  Adds.mono (D := [.pool]) (adds_of_eq rfl rfl) hC

theorem State.refundUp_adds (q tier n : Nat) (s : State) (hC : Covers [.pool] C := by rfl) :
    Adds C s (s.refundUp q tier n) := State.modQueue_adds _ _ s hC

/-- One packet goes back to the head of its queue. -/
def State.unstageOne (a : Nat) (x : Staged) (s : State) : State :=
  (((s.pushHead x.queue x.packet).toQueued x.packet.cells).modAlloc a (fun y =>
    { y with winRewound := y.winRewound + x.packet.total })).count (cvCnt a 6) x.packet.total

theorem State.unstage_eq (a : Nat) (l : List Staged) (s : State) :
    s.unstage a l = l.foldr (State.unstageOne a) (s.raWindow a) := rfl

theorem State.unstageOne_adds (a : Nat) (x : Staged) (s : State) : Adds caravanParts s (s.unstageOne a x) :=
  (((State.pushHead_adds _ _ s).trans (State.toQueued_adds _ _)).trans (State.modAlloc_adds _ _ _)).trans
    (State.count_adds _ _ _)

theorem State.unstageOne_laneRecord (n a : Nat) (x : Staged) (s : State) : (s.unstageOne a x).laneRecord n = s.laneRecord n := by
  unfold State.unstageOne
  rw [(State.count_adds (C := reportParts) _ _ _).laneRecord n]
  rfl

theorem State.unstage_adds (a : Nat) (l : List Staged) (s : State) (hC : Covers caravanParts C := by rfl) :
    Adds C s (s.unstage a l) :=
  Adds.mono (D := caravanParts) ((State.raWindow_adds a s).trans (.foldr (State.unstageOne_adds a) l _)) hC

theorem State.unstage_laneRecord (n a : Nat) (l : List Staged) (s : State) : (s.unstage a l).laneRecord n = s.laneRecord n :=
  State.foldr_same (State.laneRecord n) (State.unstageOne_laneRecord n a) l (s.raWindow a)

theorem State.rewindRaw_adds (a : Nat) (gone : Staged → Bool) (s : State) (hC : Covers caravanParts C := by rfl) :
    Adds C s (s.rewindRaw a gone) :=
  Adds.mono (D := caravanParts) ((State.modAlloc_adds _ _ s).trans (State.unstage_adds _ _ _)) hC

theorem State.rewindRaw_laneRecord (n a : Nat) (gone : Staged → Bool) (s : State) :
    (s.rewindRaw a gone).laneRecord n = s.laneRecord n := State.unstage_laneRecord n a _ _

theorem State.unbindOmci_adds (l : Nat) (i : BurstItem) (s : State) (hC : Covers caravanParts C := by rfl) :
    Adds C s (s.unbindOmci l i) :=
  Adds.mono (D := caravanParts)
    (.ite ((State.modLane_adds _ _ s).trans (State.pushHead_adds _ _ _)) (State.modLane_adds _ _ s)) hC

theorem State.unbindOmci_laneRecord (n l : Nat) (i : BurstItem) (s : State) : (s.unbindOmci l i).laneRecord n = s.laneRecord n := by
  unfold State.unbindOmci
  split
  · exact State.laneRecord_modLane n l (fun x => { x with omciRest := x.omciRest.filter (fun p => p.no != i.packet.no) })
      (fun _ => rfl) s
  · exact State.laneRecord_modLane n l (fun x => { x with omciRest := some { i.packet with sent := i.first } })
      (fun _ => rfl) s

theorem State.unbindUp_adds (a : Nat) (i : BurstItem) (s : State) (hC : Covers caravanParts C := by rfl) :
    Adds C s (s.unbindUp a i) :=
  Adds.mono (D := caravanParts) (.ite (((State.refundUp_adds _ _ _ s).trans (State.modAlloc_adds _ _ _)).trans
    (State.pushHead_adds _ _ _)) ((State.refundUp_adds _ _ _ s).trans (State.modAlloc_adds _ _ _))) hC

theorem State.unbindUp_laneRecord (n a : Nat) (i : BurstItem) (s : State) : (s.unbindUp a i).laneRecord n = s.laneRecord n := by
  simp only [State.unbindUp]
  split <;> rfl

theorem State.unbind_adds (c : Caravan) (i : BurstItem) (s : State) (hC : Covers caravanParts C := by rfl) :
    Adds C s (s.unbind c i) := by
  unfold State.unbind
  split
  · exact State.unbindOmci_adds _ _ s hC
  · exact .ite (State.unbindOmci_adds _ _ s hC) (State.unbindUp_adds _ _ s hC)

theorem State.unbind_laneRecord (n : Nat) (c : Caravan) (i : BurstItem) (s : State) : (s.unbind c i).laneRecord n = s.laneRecord n := by
  unfold State.unbind
  split
  · exact State.unbindOmci_laneRecord n _ i s
  · split
    · exact State.unbindOmci_laneRecord n _ i s
    · exact State.unbindUp_laneRecord n _ i s

/-- A caravan is struck out of what waits. -/
def State.struck (c : Caravan) (s : State) : State :=
  let s1 := { s with line := { s.line with pending := s.line.pending.filter (fun x => x ≠ c) } }
  if c.adds then s1
  else { s1 with pool := { s1.pool with grantBad := Tab.modify 0 s1.pool.grantBad c.lane (· - 1) } }

theorem State.struck_adds (c : Caravan) (s : State) : Adds caravanParts s (s.struck c) := by
  unfold State.struck
  dsimp only
  split <;> exact adds_of_eq rfl rfl

theorem State.struck_laneRecord (n : Nat) (c : Caravan) (s : State) : (s.struck c).laneRecord n = s.laneRecord n := by
  unfold State.struck
  dsimp only
  split <;> rfl

/-- A struck caravan's items are undone. -/
def State.unbound (c : Caravan) (s : State) : State := c.items.foldr (fun i t => t.unbind c i) (s.struck c)

/-- The bytes of a caravan that was undone are counted for its index, whose flushes go on. -/
def State.backCounted (c : Caravan) (a : Nat) (s : State) : State :=
  let back := fun (l : List BurstItem) => (l.map (·.len)).sum
  let t1 := ((s.raWindow a).modAlloc a (fun x =>
    { x with winRewound := x.winRewound + back (c.items.filter (·.staged)) })).count (cvCnt a 6) (back c.items)
  (upQueues a).foldl (fun t q => t.flushWaiting q) t1

theorem State.unwind_eq (c : Caravan) (s : State) : s.unwind c =
    match c.index with
    | none => s.unbound c
    | some a => (s.unbound c).backCounted c a := rfl

theorem State.unbound_adds (c : Caravan) (s : State) : Adds caravanParts s (s.unbound c) :=
  (s.struck_adds c).trans (.foldr (fun i t => State.unbind_adds c i t) _ _)

theorem State.unbound_laneRecord (n : Nat) (c : Caravan) (s : State) : (s.unbound c).laneRecord n = s.laneRecord n :=
  (State.foldr_same (State.laneRecord n) (fun i t => State.unbind_laneRecord n c i t) _ _).trans (s.struck_laneRecord n c)

theorem State.backCounted_adds (c : Caravan) (a : Nat) (s : State) : Adds caravanParts s (s.backCounted c a) :=
  (((State.raWindow_adds a s).trans (State.modAlloc_adds _ _ _)).trans (State.count_adds _ _ _)).trans
    (.foldl (fun t q => State.flushWaiting_adds (C := caravanParts) q t) _ _)

theorem State.backCounted_laneRecord (n : Nat) (c : Caravan) (a : Nat) (s : State) : (s.backCounted c a).laneRecord n = s.laneRecord n := by
  unfold State.backCounted
  dsimp only
  rw [State.foldl_same (State.laneRecord n) (fun t q => (State.flushWaiting_adds (C := poolParts) q t).laneRecord n),
    (State.count_adds (C := reportParts) _ _ _).laneRecord n]
  rfl

theorem State.unwind_adds (c : Caravan) (s : State) (hC : Covers caravanParts C := by rfl) : Adds C s (s.unwind c) := by
  refine Adds.mono ?_ hC
  rw [State.unwind_eq]
  split
  · exact s.unbound_adds c
  · exact (s.unbound_adds c).trans (State.backCounted_adds _ _ _)

theorem State.unwind_laneRecord (n : Nat) (c : Caravan) (s : State) : (s.unwind c).laneRecord n = s.laneRecord n := by
  rw [State.unwind_eq]
  split
  · exact s.unbound_laneRecord n c
  · exact (State.backCounted_laneRecord n _ _ _).trans (s.unbound_laneRecord n c)

theorem State.cancel_adds (which : Caravan → Bool) (s : State) (hC : Covers caravanParts C := by rfl) :
    Adds C s (s.cancel which) :=
  (Adds.foldl (fun t a => State.rewindRaw_adds a _ t hC) _ s).trans (.foldr (fun c t => State.unwind_adds c t hC) _ _)

theorem State.cancel_laneRecord (n : Nat) (which : Caravan → Bool) (s : State) : (s.cancel which).laneRecord n = s.laneRecord n :=
  (State.foldr_same (State.laneRecord n) (fun c t => State.unwind_laneRecord n c t) _ _).trans
    (State.foldl_same (State.laneRecord n) (fun t a => State.rewindRaw_laneRecord n a _ t) _ s)

theorem State.cancelLane_adds (l : Nat) (s : State) (hC : Covers caravanParts C := by rfl) : Adds C s (s.cancelLane l) :=
  State.cancel_adds _ s hC

theorem State.cancelLane_laneRecord (n l : Nat) (s : State) : (s.cancelLane l).laneRecord n = s.laneRecord n :=
  State.cancel_laneRecord n _ s

/-! ### Ports that go down (R512) -/

theorem State.spEvent_adds (p k detail : Nat) (s : State) (hC : Covers reportParts C := by rfl) :
    Adds C s (s.spEvent p k detail) := State.raise_adds _ _ _ s hC

theorem State.txDone_adds (p : Nat) (x : TxFrame) (s : State) (hC : Covers writeParts C := by rfl) :
    Adds C s (s.txDone p x) :=
  Adds.mono (D := writeParts) (((State.modPort_adds _ _ s).trans (State.modQueue_adds _ _ _)).trans
    (State.freePacket_adds _ _ _)) hC

theorem State.endedEarly_adds (w : Nat) (s : State) (hC : Covers [.ports] C := by rfl) : Adds C s (s.endedEarly w) :=
  .ite (.refl _ s) (State.modPort_adds _ _ s hC)

theorem State.cutTx_adds (p : Nat) (own : Bool) (s : State) (hC : Covers writeParts C := by rfl) :
    Adds C s (s.cutTx p own) := by
  refine Adds.mono (D := writeParts) ?_ hC
  unfold State.cutTx
  split
  · exact .refl _ s
  next x _ =>
    have hCut : Adds writeParts s (((s.txDone p x).endedEarly x.packet.writer).queueDrop x.queue 1) :=
      ((State.txDone_adds p x s).trans (State.endedEarly_adds _ _)).trans (State.queueDrop_adds _ _ _)
    exact .ite (hCut.trans (State.inc_adds _ _)) (hCut.trans (State.emit_adds _ _))

theorem State.cutRx_adds (p : Nat) (s : State) (hC : Covers writeParts C := by rfl) : Adds C s (s.cutRx p) := by
  refine Adds.mono (D := writeParts) ?_ hC
  unfold State.cutRx
  split
  · exact .refl _ s
  · have hLost : Adds writeParts s ((s.loseRx p false).setRx p true {}) :=
      (State.loseRx_adds p false s).trans (State.setRx_adds _ _ _ _)
    dsimp only
    split
    · exact hLost
    · exact (hLost.trans (State.inc_adds _ _)).trans (State.queueDrop_adds _ _ _)
    · exact hLost.trans (State.inc_adds _ _)
    · exact hLost

theorem State.linkDown_adds (p : Nat) (s : State) (hC : Covers writeParts C := by rfl) : Adds C s (s.linkDown p) :=
  Adds.mono (D := writeParts) (((((State.cutTx_adds p true s).trans (State.cutRx_adds p _)).trans
    (.foldl (fun t c => State.flushPoint_adds _ t) _ _)).trans (State.modPort_adds _ _ _)).trans
    (State.spEvent_adds _ _ _ _)) hC

theorem State.port_modPort_same (p : Nat) (f : Port → Port) (s : State) : (s.modPort p f).port p = f (s.port p) :=
  Tab.get_modify_same _ _ _ _

theorem State.linkDown_link (p : Nat) (s : State) : ((s.linkDown p).port p).link = false := by
  have hEvent (u : State) : (u.spEvent p 0 0).port p = u.port p :=
    congrArg (fun x : Tab Port => Tab.get ({} : Port) x p) ((State.spEvent_adds (C := reportParts) p 0 0 u).within.ports rfl)
  unfold State.linkDown
  dsimp only
  rw [hEvent, State.port_modPort_same]
  rfl

end Sys2Proof.Machine
end

section
/-!
# Cold and partial resets

A cold reset is one record, so each reset of Table ST-1 is that record under what its pin or command adds; a partial
reset touches its domain's parts and reports.
-/
namespace Sys2Proof.Machine

-- One theorem after another: the stacks of many that wait at once would exceed the memory of the check.
set_option Elab.async false

variable {s : State} {C : List Part}

/-! ### Cold resets (Table ST-1) -/

theorem State.coldReset_left (por : Bool) (cause : Nat) (s : State) : coldLeft por s (s.coldReset por cause) :=
  ⟨rfl, rfl, rfl, rfl, rfl, rfl, rfl, rfl, rfl, rfl, rfl, rfl, rfl, rfl, rfl, rfl, rfl, rfl, rfl, rfl, rfl, rfl, rfl,
    rfl⟩

/-- What a reset adds to a cold device in its power block, its clocks and its pins leaves it cold. -/
theorem coldLeft_of_besides {por : Bool} {t u : State} (h : coldLeft por s t)
    (hFrame : u = { t with start := u.start, power := u.power, clk := u.clk, out := u.out })
    (hStart : u.start = { t.start with
      manager := u.start.manager, flashPresent := u.start.flashPresent, resetPin := u.start.resetPin }) : coldLeft por s u := by
  obtain ⟨h1, h2, h3, h4, h5, h6, h7, h8, h9, h10, h11, h12, h13, h14, h15, h16, h17, h18, h19, h20, h21, h22, h23,
    h24⟩ := h
  rw [hFrame]
  rw [hStart]
  exact ⟨h1, h2, h3, h4, h5, h6, h7, h8, h9, h10, h11, h12, h13, h14, h15, h16, h17, h18, h19, h20, h21, h22, h23, h24⟩

/-- The device when VAON comes. -/
def State.poweredOn (s : State) : State :=
  ((s.coldReset true causePor).latchRole).setPower (fun p =>
    { p with vaon := true, en := 0, pg := 0, seq := .up 0, fails := 0, delay := 1 })

theorem exec_powerOnReset_vin (h : s.cistern.vinOk = true) :
    exec .powerOnReset s = .next s.poweredOn.railsUp := congrArg Host.Outcome.next (if_pos h)

theorem exec_powerOnReset_noVin (h : s.cistern.vinOk = false) : exec .powerOnReset s = .next s.poweredOn :=
  congrArg Host.Outcome.next (if_neg (by simp [h]))

theorem State.poweredOn_left (s : State) : coldLeft true s s.poweredOn :=
  coldLeft_of_besides (s.coldReset_left true causePor) rfl rfl

theorem powerOnReset_completes (s : State) : completesWith .powerOnReset s (fun t =>
    coldLeft true s t ∧ t.start.resetCause = 1
    ∧ t.start.manager = s.start.roleStrap ∧ t.start.flashPresent = s.start.flashStrap
    ∧ t.power.vaon = true ∧ t.power.pg = 0 ∧ t.power.seq = .up 0 ∧ t.power.fails = 0 ∧ t.power.delay = 1
    ∧ t.power.en = (if s.cistern.vinOk then 1 else 0)) := by
  cases hVin : s.cistern.vinOk
  · exact ⟨_, exec_powerOnReset_noVin hVin, s.poweredOn_left, rfl, rfl, rfl, rfl, rfl, rfl, rfl, rfl, rfl⟩
  · exact ⟨_, exec_powerOnReset_vin hVin, coldLeft_of_besides s.poweredOn_left rfl rfl, rfl, rfl, rfl, rfl, rfl, rfl,
      rfl, rfl, rfl⟩

theorem powerOnResetAssert_completes (s : State) : completesWith .powerOnResetAssert s (fun t =>
    coldLeft true s t ∧ t.start.resetCause = 1
    ∧ t.start.manager = s.start.manager ∧ t.power.vaon = false ∧ t.power.en = 0 ∧ t.power.pg = 0
    ∧ t.power.seq = .off) :=
  ⟨_, rfl, coldLeft_of_besides (s.coldReset_left true causePor) rfl rfl, rfl, rfl, rfl, rfl, rfl, rfl⟩

/-- The device with RESET_N asserted. -/
def State.pinned (s : State) : State := (s.coldReset false causeResetN).setStart (fun k => { k with resetPin := false })

theorem exec_resetNAssert (hState : s.power.state ≠ .beached) (hRun : s.cistern.run = 0) :
    exec .resetNAssert s = .next (
      if decide (s.power.state = .moored) && decide (s.power.seq = .off) then
        (s.pinned.setPower (fun p => { p with seq := .mooredUp 2 })).railOn 2
      else s.pinned) :=
  congrArg Host.Outcome.next ((if_neg hState).trans (if_neg (by simp [hRun])))

theorem State.pinned_left (s : State) : coldLeft false s s.pinned :=
  coldLeft_of_besides (s.coldReset_left false causeResetN) rfl rfl

theorem resetNAssert_completes (hState : s.power.state ≠ .beached) (hRun : s.cistern.run = 0) :
    completesWith .resetNAssert s (fun t =>
      coldLeft false s t ∧ t.start.resetCause = 2 ∧ t.start.resetPin = false ∧ t.start.manager = s.start.manager
      ∧ (s.power.state ≠ .moored → t.power.en = s.power.en ∧ t.power.seq = s.power.seq)) := by
  refine ⟨_, exec_resetNAssert hState hRun, ?_⟩
  split
  next h =>
    have hMoored : s.power.state = .moored := of_decide_eq_true (Bool.and_eq_true _ _ ▸ h).1
    exact ⟨coldLeft_of_besides s.pinned_left rfl rfl, rfl, rfl, rfl, fun hNot => absurd hMoored hNot⟩
  next => exact ⟨s.pinned_left, rfl, rfl, rfl, fun _ => ⟨rfl, rfl⟩⟩

/-- The start goes on with the crystal where the rails are good. -/
theorem State.afterReset_frame (s : State) :
    s.afterReset.clk = { s.clk with oscOn := s.clk.oscOn || decide (s.power.seq = .on) }
    ∧ s.afterReset = { s with clk := s.afterReset.clk, out := s.afterReset.out } := by
  unfold State.afterReset
  dsimp only
  cases s.cistern.dgReady
  · by_cases h : s.power.seq = .on
    · simp [h, State.setClk]
    · simp [h]
  · by_cases h : s.power.seq = .on
    · simp [h, State.setClk, State.emit]
    · simp [h, State.emit]

theorem resetNRelease_completes (h : s.start.resetPin = false) : completesWith .resetNRelease s (fun t =>
    t.start = { s.start with resetPin := true, manager := s.start.roleStrap, flashPresent := s.start.flashStrap }
    ∧ t.clk = { s.clk with oscOn := s.clk.oscOn || decide (s.power.seq = .on) }
    ∧ t = { s with start := t.start, clk := t.clk, out := t.out }) := by
  obtain ⟨hClk, hFrame⟩ := (s.setStart (fun k => { k with resetPin := true })).latchRole.afterReset_frame
  refine ⟨_, congrArg Host.Outcome.next (if_neg (by simp [h])), ?_, hClk, ?_⟩
  · rw [hFrame]
    rfl
  · rw [hFrame]
    rfl

theorem hostCommandReset_completes (h : s.isManager = true) : completesWith (.hostCommandReset 0x52535430#32) s (fun t =>
    coldLeft false s t ∧ t.start.resetCause = 4 ∧ t.start.manager = true
    ∧ t.clk.oscOn = decide (s.power.seq = .on)) := by
  obtain ⟨hClk, hFrame⟩ := (s.coldReset false causeHost).afterReset_frame
  refine ⟨_, congrArg Host.Outcome.next (if_pos (by simp [h])), ?_, ?_, ?_, ?_⟩
  · exact coldLeft_of_besides (s.coldReset_left false causeHost) (by rw [hFrame]) (by rw [hFrame])
  · rw [hFrame]
    rfl
  · rw [hFrame]
    exact h
  · rw [hClk]
    exact Bool.false_or _

/-! ### Resets without effect (R957 to R959) -/

theorem exec_hostCommandReset_value {v : W32} (h : v ≠ 0x52535430#32) : exec (.hostCommandReset v) s = .next s :=
  congrArg Host.Outcome.next (if_neg (by simp [h]))

theorem exec_hostCommandReset_worker (v : W32) (h : s.isManager = false) : exec (.hostCommandReset v) s = .next s :=
  congrArg Host.Outcome.next (if_neg (by simp [h]))

theorem exec_resetNAssert_beached (h : s.power.state = .beached) : exec .resetNAssert s = .next s :=
  congrArg Host.Outcome.next (if_pos h)

theorem exec_resetNAssert_sequence (hState : s.power.state ≠ .beached) (hRun : s.cistern.run ≠ 0) :
    exec .resetNAssert s = .next { s with start := { s.start with deferred := true } } :=
  congrArg Host.Outcome.next ((if_neg hState).trans (if_pos hRun))

theorem exec_resetNRelease_released (h : s.start.resetPin = true) : exec .resetNRelease s = .next s :=
  congrArg Host.Outcome.next (if_pos h)

/-! ### Partial resets (R876, R877) -/

theorem exec_partialReset (d : ResetDomain) (h : s.start.fwState ≠ 0) :
    exec (.partialReset d) s = .next ((s.partial_ d).raise 103 (resetObject s.self d) (resetCode d)) :=
  congrArg Host.Outcome.next (if_neg h)

/-- What the reset of a lane, a port, a ring side or the E1 domain touches. -/
def domainParts : List Part := [.evt, .host, .ring, .log, .cnt, .out, .fresh, .start, .pool, .e1s, .line, .ports]

/-- A lane's reset: its caravans are cancelled, its burst cut, its fragments dropped. -/
def State.laneCleared (l : Nat) (s : State) : State := ((s.cancelLane l).cutBurst l).dropParts l

theorem State.cutBurst_adds (l : Nat) (s : State) (hC : Covers [.line, .out] C := by rfl) : Adds C s (s.cutBurst l) :=
  Adds.mono (D := [.line, .out]) (State.cutBurst_within l s).adds hC

theorem State.laneCleared_adds (l : Nat) (s : State) : Adds domainParts s (s.laneCleared l) :=
  ((State.cancelLane_adds l s).trans (State.cutBurst_adds l _)).trans (State.dropParts_adds l _)

theorem State.laneCleared_actOf (n l : Nat) (s : State) : (s.laneCleared l).actOf n = s.actOf n :=
  (State.dropParts_actOf n l _).trans (State.actOf_of_laneRecord ((State.cutBurst_laneRecord n l _).trans (s.cancelLane_laneRecord n l)))

theorem State.partial_lane (n : Lane) (s : State) : s.partial_ (.lane n) =
    (s.laneCleared n.val).modLane n.val (fun x => { x with sync := false, spans := [] }) := rfl

/-- A ring side's reset before what its links and diagnostics do: nothing in transit, no training, fresh lanes. -/
def State.sideCleared (d : Nat) (s : State) : State :=
  let s1 := (s.dropTransit d).modSide d (fun x =>
    { x with trained := false, lane0Bad := true, managerSeen := false })
  { s1 with ring := { s1.ring with
    lanes := Tab.set {} (Tab.set {} s1.ring.lanes (2 * d) {}) (2 * d + 1) {} } }

theorem State.partial_ring (d : Side) (s : State) : s.partial_ (.ring d) =
    (((s.sideCleared d.val).abortRing d.val).reinitWhere
      (fun n => Tab.get 0 (s.sideCleared d.val).ring.working n == d.val)).endDiag (s.obj 0xE (0x10 + d.val)) := rfl

theorem State.partial_adds (d : ResetDomain) (s : State) (h : d ≠ .cipher) : Adds domainParts s (s.partial_ d) := by
  cases d with
  | lane n => exact (s.laneCleared_adds n.val).trans (State.modLane_adds _ _ _)
  | ring d =>
    have hCleared : Adds domainParts s ((s.sideCleared d.val).abortRing d.val) := adds_of_eq rfl rfl
    exact (hCleared.trans (State.reinitWhere_adds _ _)).trans (State.endDiag_adds _ _)
  | port p => exact .ite ((State.linkDown_adds p.val s).trans (State.endDiag_adds _ _)) (State.endDiag_adds _ s)
  | e1 =>
    exact .foldl (fun t p => ((State.slipRestart_adds p t).trans (State.cesRestart_adds p _)).trans
      (State.endDiag_adds _ _)) _ s
  | cipher => exact absurd rfl h

theorem State.endDiag_actOf (n o : Nat) (s : State) : (s.endDiag o).actOf n = s.actOf n :=
  (State.endDiag_adds (C := stopParts) o s).actOf n

theorem State.partial_lane_kept (n : Lane) (s : State) :
    ((s.partial_ (.lane n)).lane n.val).sync = false ∧ (s.partial_ (.lane n)).actOf n.val = s.actOf n.val := by
  rw [State.partial_lane]
  refine ⟨?_, (State.actOf_modLane n.val n.val (fun x => { x with sync := false, spans := [] }) (fun _ => rfl) _).trans (s.laneCleared_actOf n.val n.val)⟩
  rw [State.lane_modLane_same]

theorem State.partial_port_down (p : PortNo) (s : State) : ((s.partial_ (.port p)).port p.val).link = false := by
  have hDiag (u : State) : (u.endDiag (s.obj 1 p.val)).port p.val = u.port p.val :=
    congrArg (fun x : Tab Port => Tab.get ({} : Port) x p.val) ((State.endDiag_adds (C := stopParts) _ u).within.ports rfl)
  simp only [State.partial_]
  split
  · rw [hDiag]
    exact s.linkDown_link p.val
  next h =>
    rw [hDiag]
    exact Bool.eq_false_iff.mpr h

/-- What a statement about a side's reset speaks of: its training, whether the manager was seen, and the join. -/
def State.training (d : Nat) (s : State) : Bool × Bool × JoinState :=
  ((s.side d).trained, (s.side d).managerSeen, s.ring.join)

theorem Sends.training {t u : State} (h : Sends t.ring u.ring) (d : Nat) : u.training d = t.training d := by
  have hTrained : (u.side d).trained = (t.side d).trained := (congrArg RingSide.trained (h.side d) :)
  have hSeen : (u.side d).managerSeen = (t.side d).managerSeen := (congrArg RingSide.managerSeen (h.side d) :)
  have hJoin : u.ring.join = t.ring.join := (congrArg Ring.join h.rest :)
  rw [State.training, hTrained, hSeen, hJoin]
  rfl

theorem State.sideCleared_training (d : Nat) (s : State) : (s.sideCleared d).training d = (false, false, s.ring.join) := by
  have hSide : (s.sideCleared d).side d = _ := State.side_modSide_same d
    (fun x => { x with trained := false, lane0Bad := true, managerSeen := false }) (s.dropTransit d)
  rw [State.training, hSide]
  rfl

theorem State.reinitLink_training (d dst c : Nat) (s : State) : (s.reinitLink dst c).training d = s.training d := by
  have hSends : Sends (s.modLink s.self dst c (fun l => { l with reinit := true })).ring (s.reinitLink dst c).ring :=
    (((Sends.refl _).inc _).raise _ _ _).dcc _ _
  exact (hSends.training (t := s.modLink s.self dst c (fun l => { l with reinit := true })) d).trans rfl

theorem State.reinitWhere_training (d : Nat) (p : Nat → Bool) (s : State) :
    (s.reinitWhere p).training d = s.training d :=
  State.foldl_same (State.training d) (fun t n => State.foldl_same (State.training d)
    (fun u c => State.reinitLink_training d n c u) _ t) _ s

theorem State.cesRestart_sends (p : Nat) (s : State) : Sends s.ring (s.cesRestart p).ring := by
  refine Sends.removeAll ?_ _ _ _
  exact Sends.refl s.ring

theorem State.cesRestore_sends (p : Nat) (s : State) : Sends s.ring (s.cesRestore p).ring :=
  (s.cesRestart_sends p).raise _ _ _

/-- The diagnostic operation of `o` is forgotten. -/
def State.undiag (o : Nat) (s : State) : State := s.setStart (fun k => { k with diags := Tab.set none k.diags o none })

theorem State.undiag_training (o d : Nat) (s : State) : (s.undiag o).training d = s.training d := rfl

theorem State.endDiag_eq (o : Nat) (s : State) : s.endDiag o =
    match objCls o with
    | 7 => if (s.undiag o).cesOn (objIdx o) then (s.undiag o).cesRestore (objIdx o) else s.undiag o
    | 0xE => (s.undiag o).modSide (objIdx o - 0x10) (fun x => { x with prbs := false })
    | _ => s.undiag o := rfl

/-- Ending PRBS leaves a side's training. -/
theorem State.prbsOff_training (d j : Nat) (s : State) :
    (s.modSide j (fun x => { x with prbs := false })).training d = s.training d := by
  have hTrained := Ring.modSides_other RingSide.trained j (fun x => { x with prbs := false }) (fun _ => rfl)
    s.ring.sides d
  have hSeen := Ring.modSides_other RingSide.managerSeen j (fun x => { x with prbs := false }) (fun _ => rfl)
    s.ring.sides d
  exact congrArg₂ (fun a b => (a, b, s.ring.join)) hTrained hSeen

/-- Ending a diagnostic operation moves a side's PRBS at most. -/
theorem State.endDiag_training (o d : Nat) (s : State) : (s.endDiag o).training d = s.training d := by
  rw [← s.undiag_training o d, State.endDiag_eq]
  split
  · split
    · exact ((s.undiag o).cesRestore_sends _).training d
    · rfl
  · exact State.prbsOff_training d _ _
  · rfl

theorem State.partial_ring_training (d : Side) (s : State) :
    (s.partial_ (.ring d)).training d.val = (false, false, s.ring.join) := by
  rw [State.partial_ring, State.endDiag_training, State.reinitWhere_training]
  exact s.sideCleared_training d.val

theorem State.partial_e1_frame (s : State) :
    (s.partial_ .e1).line = s.line ∧ (s.partial_ .e1).ports = s.ports := by
  have h : Adds [.evt, .host, .ring, .log, .cnt, .out, .fresh, .start, .pool, .e1s] s (s.partial_ .e1) :=
    .foldl (fun t p => ((State.slipRestart_adds p t).trans (State.cesRestart_adds p _)).trans
      (State.endDiag_adds _ _)) _ s
  exact ⟨h.within.line rfl, h.within.ports rfl⟩

/-- The cipher's reset: its engines are idle and its entropy start-up test is due. -/
def Cipher.restarted (c : Cipher) : Cipher :=
  { c with turn := 0, busy := [], health := {}, raw := [], entropyOk := false }

/-- Time passes until every burst in progress has ended. -/
def State.burstsEnd (s : State) : State := [0, 1, 2, 3].foldl (fun t l => t.burstEnd l) s

theorem State.partial_cipher (s : State) :
    s.partial_ .cipher = { s.burstsEnd with cipher := s.burstsEnd.cipher.restarted } := rfl

theorem State.burstEnd_adds (l : Nat) (s : State) : Adds passParts s (s.burstEnd l) := by
  unfold State.burstEnd
  split
  · exact .ite (State.until_adds _ s) (.refl _ s)
  · exact .refl _ s

theorem State.burstsEnd_adds (s : State) : Adds passParts s s.burstsEnd := .foldl (fun t l => State.burstEnd_adds l t) _ s

theorem State.partial_cipher_cipher (s : State) : (s.partial_ .cipher).cipher = s.cipher.restarted := by
  rw [State.partial_cipher, s.burstsEnd_adds.within.cipher rfl]

theorem State.partial_cipher_adds (s : State) : Adds (.cipher :: passParts) s (s.partial_ .cipher) := by
  rw [State.partial_cipher]
  exact (s.burstsEnd_adds.mono (C := .cipher :: passParts) rfl).trans (adds_of_eq rfl rfl)

/-- `s` with what the passage of time and a cipher reset change taken from `t`. -/
theorem Adds.passing_cipher {t : State} (h : Adds (.cipher :: passParts) s t) :
    t = { s.passing t with cipher := t.cipher } := h.within.eq_merge

theorem State.partial_cfg (d : ResetDomain) (s : State) : (s.partial_ d).cfg = s.cfg := by
  by_cases h : d = .cipher
  · rw [h]
    exact s.partial_cipher_adds.within.cfg rfl
  · exact (s.partial_adds d h).within.cfg rfl

/-- PARTIAL_RESET raised after a partial reset. -/
def State.resetTold (d : ResetDomain) (o : Nat) (s : State) : State := (s.partial_ d).raise 103 o (resetCode d)

section
variable (o : Nat) (s : State)

theorem State.resetTold_adds (d : ResetDomain) : Adds reportParts (s.partial_ d) (s.resetTold d o) :=
  State.raise_adds _ _ _ _

theorem State.resetTold_lane (n : Lane) : ((s.resetTold (.lane n) o).lane n.val).sync = false
    ∧ ((s.resetTold (.lane n) o).lane n.val).act = (s.lane n.val).act := by
  obtain ⟨hSync, hAct⟩ := s.partial_lane_kept n
  have hLane : (s.resetTold (.lane n) o).lane n.val = (s.partial_ (.lane n)).lane n.val :=
    congrArg (fun x : Line => (Tab.get {} x.lanes n.val : LaneState)) ((s.resetTold_adds o (.lane n)).within.line rfl)
  rw [hLane]
  exact ⟨hSync, hAct⟩

theorem State.resetTold_port (p : PortNo) : ((s.resetTold (.port p) o).port p.val).link = false := by
  have hPort : (s.resetTold (.port p) o).port p.val = (s.partial_ (.port p)).port p.val :=
    congrArg (fun x : Tab Port => (Tab.get {} x p.val : Port)) ((s.resetTold_adds o (.port p)).within.ports rfl)
  rw [hPort]
  exact s.partial_port_down p

theorem State.resetTold_ring (r : Side) : ((s.resetTold (.ring r) o).side r.val).trained = false
    ∧ ((s.resetTold (.ring r) o).side r.val).managerSeen = false
    ∧ (s.resetTold (.ring r) o).ring.join = s.ring.join := by
  have hTraining : (s.resetTold (.ring r) o).training r.val = (false, false, s.ring.join) :=
    ((State.raise_sends 103 o (resetCode (.ring r)) (s.partial_ (.ring r))).training r.val).trans
      (s.partial_ring_training r)
  obtain ⟨hTrained, hRest⟩ := Prod.mk.inj hTraining
  obtain ⟨hSeen, hJoin⟩ := Prod.mk.inj hRest
  exact ⟨hTrained, hSeen, hJoin⟩

theorem State.resetTold_e1 : (s.resetTold .e1 o).line = s.line ∧ (s.resetTold .e1 o).ports = s.ports := by
  obtain ⟨hLine, hPorts⟩ := s.partial_e1_frame
  have hTold := (s.resetTold_adds o .e1).within
  exact ⟨(hTold.line rfl).trans hLine, (hTold.ports rfl).trans hPorts⟩

theorem State.resetTold_domain {d : ResetDomain} (h : d ≠ .cipher) : Adds domainParts s (s.resetTold d o) :=
  (s.partial_adds d h).trans ((s.resetTold_adds o d).mono (C := domainParts) rfl)

theorem State.resetTold_cipher : (s.resetTold .cipher o).cipher = s.cipher.restarted
    ∧ Adds (.cipher :: passParts) s (s.resetTold .cipher o) :=
  ⟨((s.resetTold_adds o .cipher).within.cipher rfl).trans s.partial_cipher_cipher,
    s.partial_cipher_adds.trans ((s.resetTold_adds o .cipher).mono (C := .cipher :: passParts) rfl)⟩

end

theorem partialReset_completes (d : ResetDomain) (h : s.start.fwState ≠ 0) :
    completesWith (.partialReset d) s (fun t =>
      t.pends 103 ∧ t.cfg = s.cfg
      ∧ (∀ n, d = .lane n → (t.lane n.val).sync = false ∧ (t.lane n.val).act = (s.lane n.val).act)
      ∧ (∀ p, d = .port p → (t.port p.val).link = false)
      ∧ (∀ r, d = .ring r → (t.side r.val).trained = false ∧ (t.side r.val).managerSeen = false
        ∧ t.ring.join = s.ring.join)
      ∧ (d = .e1 → t.line = s.line ∧ t.ports = s.ports)
      ∧ (d ≠ .cipher → t.tide = s.tide ∧ t.clk = s.clk ∧ t.cipher = s.cipher ∧ t.power = s.power ∧ t.now = s.now)
      ∧ (d = .cipher → t.cipher = { s.cipher with turn := 0, busy := [], health := {}, raw := [], entropyOk := false }
        ∧ t = { s.passing t with cipher := t.cipher })) := by
  generalize hObj : resetObject s.self d = o
  have hExec : exec (.partialReset d) s = .next (s.resetTold d o) := by
    rw [← hObj]
    exact exec_partialReset d h
  refine ⟨_, hExec, State.raise_pends _ _ _ _, ((s.resetTold_adds o d).within.cfg rfl).trans (s.partial_cfg d),
    ?_, ?_, ?_, ?_, fun hd => ?_, ?_⟩
  · rintro n rfl
    exact s.resetTold_lane o n
  · rintro p rfl
    exact s.resetTold_port o p
  · rintro r rfl
    exact s.resetTold_ring o r
  · rintro rfl
    exact s.resetTold_e1 o
  · have hAll := (s.resetTold_domain o hd).within
    exact ⟨hAll.tide rfl, hAll.clk rfl, hAll.cipher rfl, hAll.power rfl, hAll.now rfl⟩
  · rintro rfl
    obtain ⟨hCipher, hAll⟩ := s.resetTold_cipher o
    exact ⟨hCipher, hAll.passing_cipher⟩

/-- Settles O15: each cold reset is `coldReset` under what its pin or command adds; a partial reset touches its domain
alone. -/
theorem resetCommands : Obligations.ResetCommands := by
  unfold Obligations.ResetCommands
  refine ⟨fun s => ⟨powerOnReset_completes s, powerOnResetAssert_completes s, resetNAssert_completes,
    resetNRelease_completes, hostCommandReset_completes⟩, fun s => ⟨fun v => exec_hostCommandReset_value,
    fun v => exec_hostCommandReset_worker v, exec_resetNAssert_beached, exec_resetNAssert_sequence,
    exec_resetNRelease_released⟩, fun s d => partialReset_completes d⟩

end Sys2Proof.Machine
end

section
/-!
# Power states: entry, exit and PWR_STATE_SET

The entry into MOORED and BEACHED step by step, the halt of the CP, a wake source, and the request that asks for a
power state.
-/
namespace Sys2Proof.Machine

-- One theorem after another: the stacks of many that wait at once would exceed the memory of the check.
set_option Elab.async false

variable {s : State} {C : List Part}

theorem State.setPower_adds (f : Power → Power) (s : State) (hC : Covers [.power] C := by rfl) :
    Adds C s (s.setPower f) := Adds.mono (D := [.power]) (adds_of_eq rfl rfl) hC

theorem State.railOff_adds (k : Nat) (s : State) (hC : Covers [.power] C := by rfl) : Adds C s (s.railOff k) :=
  State.setPower_adds (fun p => { p with en := putBit p.en k false }) s hC

/-! ### Entry (R722, R797, R798, R804) -/

theorem State.drained_adds (e : Entry) (s : State) (hC : Covers [.power] C := by rfl) : Adds C s (s.drained e) :=
  Adds.mono (D := [.power]) (adds_of_eq rfl rfl) hC

theorem State.enterNow_adds (e : Entry) (s : State) (hC : Covers [.power] C := by rfl) : Adds C s (s.enterNow e) :=
  .ite ((State.setPower_adds _ s hC).trans (State.drained_adds e _ hC)) (State.setPower_adds _ s hC)

theorem State.enterNow_entry (e : Entry) (s : State) : (s.enterNow e).power.entry = some e := by
  unfold State.enterNow
  dsimp only
  split <;> rfl

theorem State.enterNow_drains {e : Entry} (h : e.drainMs ≠ 0) (s : State) : (s.enterNow e).power.state = .draining := by
  unfold State.enterNow
  rw [if_neg h]
  rfl

theorem State.enterNow_halts {e : Entry} (h : e.drainMs = 0) (s : State) :
    s.enterNow e = (s.setPower (fun p => { p with state := .draining, entry := some e })).drained e := if_pos h

/-- What passes on the way to an entry's boundary, and the entry itself. -/
theorem State.enterAfter_passing (x : Nat) (e : Entry) (s : State) :
    (s.until x).enterNow e = s.passing ((s.until x).enterNow e) :=
  ((State.until_adds (C := passParts) x s).trans (State.enterNow_adds e _)).within.passing

theorem power_serves (h : s.power.state = .run ∨ s.power.state = .idle) :
    (decide (s.power.state ≠ .run) && decide (s.power.state ≠ .idle)) = false := by
  rcases h with h | h <;> simp [h]

theorem mooredEntry_completes {e : Entry} (hEntry : s.power.entry = some e) (hMoored : e.beached = false)
    (hState : s.power.state = .run ∨ s.power.state = .idle) : completesWith .mooredEntry s (fun t =>
      t.power.entry = some e ∧ (e.drainMs ≠ 0 → t.power.state = .draining)
      ∧ (e.drainMs = 0 → t.power.state = .halting ∧ t.power.pwrMode = 1 ∧ t.power.wakeEn = e.wake)
      ∧ t = s.passing t) := by
  have hExec : exec .mooredEntry s = .next ((s.until (e.at_ * frameTicks)).enterNow e) := by
    change execMooredEntry s = _
    unfold execMooredEntry
    rw [hEntry]
    exact congrArg Host.Outcome.next (if_neg (by rw [hMoored, power_serves hState]; decide))
  refine ⟨_, hExec, State.enterNow_entry _ _, fun hDrain => State.enterNow_drains hDrain _, fun hNone => ?_,
    State.enterAfter_passing _ _ _⟩
  rw [State.enterNow_halts hNone]
  exact ⟨rfl, if_neg (by rw [hMoored]; decide), rfl⟩

theorem beachedEntry_completes {e : Entry} (hEntry : s.power.entry = some e) (hBeached : e.beached = true)
    (hState : s.power.state = .run ∨ s.power.state = .idle) : completesWith .beachedEntry s (fun t =>
      t.power.state = .halting ∧ t.power.pwrMode = 2 ∧ t.power.wakeRec.valid = true ∧ t = s.passing t) := by
  have hExec : exec .beachedEntry s = .next ((s.until (e.at_ * frameTicks)).enterNow { e with drainMs := 0 }) := by
    change execBeachedEntry s = _
    unfold execBeachedEntry
    rw [hEntry]
    exact congrArg Host.Outcome.next (if_neg (by rw [hBeached, power_serves hState]; decide))
  have hPassing := State.enterAfter_passing (e.at_ * frameTicks) { e with drainMs := 0 } s
  rw [State.enterNow_halts rfl] at hExec hPassing
  exact ⟨_, hExec, rfl, if_pos hBeached, rfl, hPassing⟩

/-- The state at the end of a drain, whichever ends it. -/
theorem drained_holds (e : Entry) {u : State} (h : Adds passParts s u) :
    (u.drained e).power.state = .halting ∧ (u.drained e).power.drainLeft = s.pool.queued + s.pool.staged + s.pool.ring
    ∧ (u.drained e).power.wakeEn = e.wake ∧ (u.drained e).power.pwrMode = (if e.beached then 2 else 1)
    ∧ (u.drained e).power.wakeRec.valid = true ∧ (u.drained e).power.wakeRec.mask = e.wake
    ∧ (u.drained e).power.wakeRec.timer = e.timer
    ∧ (u.drained e).power.wakeRec.entryTide = (u.drained e).tide.word ∧ u.drained e = s.passing (u.drained e) :=
  ⟨rfl, congrArg Pool.left (h.within.pool rfl), rfl, rfl, rfl, rfl, rfl, rfl,
    (h.trans (State.drained_adds e u)).within.passing⟩

theorem drainEnd_completes {e : Entry} (hEntry : s.power.entry = some e) (hState : s.power.state = .draining) :
    completesWith .drainEnd s (fun t =>
      t.power.state = .halting ∧ t.power.drainLeft = s.pool.queued + s.pool.staged + s.pool.ring
      ∧ t.power.wakeEn = e.wake ∧ t.power.pwrMode = (if e.beached then 2 else 1)
      ∧ t.power.wakeRec.valid = true ∧ t.power.wakeRec.mask = e.wake ∧ t.power.wakeRec.timer = e.timer
      ∧ t.power.wakeRec.entryTide = t.tide.word ∧ t = s.passing t) := by
  have hExec : exec .drainEnd s = .next (if s.pool.left = 0 then s.drained e
      else (s.until (e.at_ * frameTicks + e.drainMs * msTicks)).drained e) := by
    change execDrainEnd s = _
    unfold execDrainEnd
    rw [hEntry]
    exact congrArg Host.Outcome.next (if_neg (not_not_intro hState))
  refine ⟨_, hExec, ?_⟩
  by_cases hLeft : s.pool.left = 0
  · rw [if_pos hLeft]
    exact drained_holds e (.refl _ s)
  · rw [if_neg hLeft]
    exact drained_holds e (State.until_adds _ s)

theorem exec_drainEnd_otherwise (h : s.power.state ≠ .draining) : exec .drainEnd s = .next s := by
  change execDrainEnd s = _
  unfold execDrainEnd
  cases s.power.entry with
  | none => rfl
  | some e => exact congrArg Host.Outcome.next (if_pos h)

/-! ### The halt (R795, R797, R804) -/

/-- What going dark touches. -/
def darkParts : List Part := [.evt, .host, .ring, .log, .cnt, .out, .clk, .tide, .line, .pool, .ports]

theorem State.rewindEvery_adds (s : State) (hC : Covers caravanParts C := by rfl) : Adds C s s.rewindEvery := by
  refine Adds.mono (D := caravanParts) ((State.cancel_adds _ s).trans (.foldl (fun t a => ?_) _ _)) hC
  exact (State.rewindRaw_adds a _ t).trans (.foldl (fun u q => State.flushWaiting_adds q u) _ _)

theorem State.lanesDark_adds (which : Nat → Bool) (s : State) (hC : Covers [.line] C := by rfl) :
    Adds C s (s.lanesDark which) :=
  .foldl (fun t l => .ite (State.modLane_adds l _ t hC) (.refl _ t)) _ s

theorem State.linkHold_adds (p : Nat) (s : State) (hC : Covers writeParts C := by rfl) : Adds C s (s.linkHold p) :=
  Adds.mono (D := writeParts) (.ite ((((State.cutTx_adds p false s).trans (State.cutRx_adds p _)).trans
    (State.modPort_adds _ _ _)).trans (State.spEvent_adds _ _ _ _)) (.refl _ s)) hC

theorem State.portsHold_adds (s : State) (hC : Covers writeParts C := by rfl) : Adds C s s.portsHold :=
  .foldl (fun t p => State.linkHold_adds p t hC) _ s

theorem State.ringDark_adds (s : State) (hC : Covers reportParts C := by rfl) : Adds C s s.ringDark := by
  refine Adds.mono (D := reportParts) ?_ hC
  unfold State.ringDark
  dsimp only
  have hLeft : Adds reportParts s (if !s.isManager && s.ring.join.joined then s.dcc 0 .leave else s) :=
    .ite (State.dcc_adds _ _ s) (.refl _ s)
  exact (hLeft.trans (State.releaseBypass_adds _)).trans (adds_of_eq rfl rfl)

theorem State.pcieLink_adds (up : Bool) (s : State) (hC : Covers reportParts C := by rfl) : Adds C s (s.pcieLink up) := by
  have hPut : Adds reportParts s { s with host := { s.host with pcieUp := up } } := adds_of_eq rfl rfl
  exact Adds.mono (D := reportParts) (.ite (.refl _ s) (hPut.trans (State.raise_adds _ _ _ _))) hC

theorem State.pcieLink_up (up : Bool) (s : State) : (s.pcieLink up).host.pcieUp = up := by
  unfold State.pcieLink
  split
  · assumption
  · exact (congrArg HostIf.pcieUp
      (Steady.raise (s := { s with host := { s.host with pcieUp := up } }) (.refl _) 584 0 0).rest :)

/-- The device before its clocks stop. -/
def State.silenced (s : State) : State :=
  let s0 := (List.range 4).foldl (fun t l => t.cutBurst l) (s.lanesDark (fun _ => true))
  let s1 := (((s0.portsHold).ringDark).rewindEvery.pulseLow)
  (List.range 16).foldl (fun t p => t.modPort p (fun x => { x with idle := true })) s1

theorem State.goDark_eq (s : State) : s.goDark = (s.silenced.clocksOff).pcieLink false := rfl

theorem State.silenced_adds (s : State) : Adds darkParts s s.silenced := by
  have hLanes : Adds darkParts s ((List.range 4).foldl (fun t l => t.cutBurst l) (s.lanesDark (fun _ => true))) :=
    (State.lanesDark_adds _ s).trans (.foldl (fun t l => State.cutBurst_adds l t) _ _)
  have hRest := (((hLanes.trans (State.portsHold_adds _)).trans (State.ringDark_adds _)).trans
    (State.rewindEvery_adds _)).trans (State.pulseLow_adds _)
  exact hRest.trans (.foldl (fun t p => State.modPort_adds p _ t) _ _)

theorem State.goDark_adds (s : State) : Adds darkParts s s.goDark := by
  rw [State.goDark_eq]
  exact (s.silenced_adds.trans (State.setClk_adds _ _)).trans (State.pcieLink_adds false _)

theorem State.goDark_clk (s : State) : s.goDark.clk = s.silenced.clocksOff.clk := by
  rw [State.goDark_eq, (State.pcieLink_adds (C := reportParts) false _).within.clk rfl]

theorem State.goDark_pcie (s : State) : s.goDark.host.pcieUp = false := by
  rw [State.goDark_eq, State.pcieLink_up]

/-- The halt's first power-down step, of MOORED or of BEACHED. -/
def State.halted (q : Seq) (s : State) : State := ((s.goDark).setPower (fun p => { p with seq := q })).railOff 5

theorem exec_cpWaitHalt_moored (hState : s.power.state = .halting) (hSeq : s.power.seq = .on)
    (hMode : s.power.pwrMode = 1) : exec (.cpWaitHalt false) s = .next (s.halted (.mooredDown 5)) :=
  congrArg Host.Outcome.next ((if_neg (by simp [hState, hSeq])).trans (if_pos hMode))

theorem exec_cpWaitHalt_beached (hState : s.power.state = .halting) (hSeq : s.power.seq = .on)
    (hMode : s.power.pwrMode = 2) : exec (.cpWaitHalt false) s = .next (s.halted (.down 5)) :=
  congrArg Host.Outcome.next ((if_neg (by simp [hState, hSeq])).trans
    ((if_neg (by rw [hMode]; decide)).trans (if_pos hMode)))

theorem State.halted_adds (q : Seq) (s : State) : Adds (.power :: darkParts) s (s.halted q) :=
  ((s.goDark_adds.mono (C := .power :: darkParts) rfl).trans (State.setPower_adds (fun p => { p with seq := q }) _)).trans
    (State.railOff_adds 5 _)

/-- The power block with the core rail dropped. -/
def Power.dropped (q : Seq) (p : Power) : Power := { p with seq := q, en := putBit p.en 5 false }

theorem State.goDark_power (s : State) : s.goDark.power = s.power := s.goDark_adds.within.power rfl

theorem State.halted_power (q : Seq) (s : State) : (s.halted q).power = s.goDark.power.dropped q := by
  unfold State.halted
  generalize s.goDark = u
  rfl

theorem State.halted_clk (q : Seq) (s : State) : (s.halted q).clk = s.silenced.clocksOff.clk := by
  rw [← State.goDark_clk]
  unfold State.halted
  generalize s.goDark = u
  rfl

theorem State.halted_pcie (q : Seq) (s : State) : (s.halted q).host.pcieUp = false := by
  rw [← State.goDark_pcie]
  unfold State.halted
  generalize s.goDark = u
  rfl

theorem Within.dark {t : State} (h : Within (.power :: darkParts) s t) : t = { s.reporting t with
    power := t.power, clk := t.clk, tide := t.tide, line := t.line, pool := t.pool, ports := t.ports } := h.eq_merge

/-- What the halt leaves, whichever power-down it starts. -/
theorem State.halted_holds (q : Seq) (s : State) :
    (s.halted q).power.seq = q ∧ (s.halted q).power.en = putBit s.power.en 5 false
    ∧ (s.halted q).clk.running = false ∧ (s.halted q).clk.rootLock = false ∧ (s.halted q).clk.oscOn = false
    ∧ (s.halted q).host.pcieUp = false ∧ (s.halted q).cfg = s.cfg
    ∧ s.halted q = { s.reporting (s.halted q) with
        power := (s.halted q).power, clk := (s.halted q).clk, tide := (s.halted q).tide, line := (s.halted q).line
        pool := (s.halted q).pool, ports := (s.halted q).ports } := by
  have hAll := (s.halted_adds q).within
  have hClk := s.halted_clk q
  have hPower := (s.halted_power q).trans (congrArg (Power.dropped q) s.goDark_power)
  exact ⟨(congrArg Power.seq hPower :), (congrArg Power.en hPower :), (congrArg Clocks.running hClk :), (congrArg Clocks.rootLock hClk :), (congrArg Clocks.oscOn hClk :),
    s.halted_pcie q, hAll.cfg rfl, hAll.dark⟩

/-! ### Wakes (R800, R801, R806) -/

/-- The wake pin, state by state. -/
theorem State.wake_pin (s : State) : s.wake 1 =
    match s.power.state with
    | .beached => s.wakeStart 1
    | .moored => if s.power.seq = .off && bit s.power.wakeEn 0 && true then s.mooredExit 1 else s
    | .halting =>
      if (decide (s.power.pwrMode = 2) && true) || (bit s.power.wakeEn 0 && true) then
        s.setPower (fun p => { p with wakePresent := some (min 1 (p.wakePresent.getD 1)) })
      else s
    | _ => s := rfl

theorem exec_pwWake (s : State) : exec (.pwWake 1) s = .next (s.wake 1) := rfl

theorem exec_pwWake_running (h : s.power.state = .run) : exec (.pwWake 1) s = .next s := by
  rw [exec_pwWake, State.wake_pin, h]

theorem exec_pwWake_halting (hState : s.power.state = .halting) (hMode : s.power.pwrMode = 2)
    (hNone : s.power.wakePresent = none) :
    exec (.pwWake 1) s = .next { s with power := { s.power with wakePresent := some 1 } } := by
  rw [exec_pwWake, State.wake_pin, hState]
  dsimp only
  rw [if_pos (by simp [hMode]), State.setPower, hNone]
  rfl

theorem exec_pwWake_moored (hState : s.power.state = .moored) (hSeq : s.power.seq = .off)
    (hBit : bit s.power.wakeEn 0 = true) (hRet : s.power.wakeRec.retVoid = false) :
    exec (.pwWake 1) s = .next (((s.setWake (fun w => { w with wakeCause := 1 })).setPower (fun p =>
      { p with seq := .mooredUp 2, wakePresent := none })).railOn 2) := by
  rw [exec_pwWake, State.wake_pin, hState]
  dsimp only
  rw [if_pos (by simp [hSeq, hBit])]
  exact congrArg Host.Outcome.next (if_neg (by rw [hRet]; decide))

theorem pwWake_moored (hState : s.power.state = .moored) (hSeq : s.power.seq = .off)
    (hBit : bit s.power.wakeEn 0 = true) (hRet : s.power.wakeRec.retVoid = false) :
    completesWith (.pwWake 1) s (fun t => t.power.state = .moored ∧ t.power.wakeRec.wakeCause = 1
      ∧ t.power.seq = .mooredUp 2 ∧ t = { s with power := t.power }) :=
  ⟨_, exec_pwWake_moored hState hSeq hBit hRet, hState, rfl, rfl, rfl⟩

/-! ### PWR_STATE_SET (R721 to R724, Table CB-4) -/

section
variable {q : Req} {st d w tm : Nat}

/-- The bounds of a request's fields (R723). -/
def powerFieldsOk (st d w tm : Nat) : Prop :=
  st ≤ 3 ∧ (st = 2 → d ≤ 1000 ∧ 1 ≤ w ∧ w ≤ 31 ∧ (bit w 4 = true → 1 ≤ tm ∧ tm ≤ 86400) ∧ (bit w 4 = false → tm = 0))
  ∧ (st ≠ 2 → d = 0 ∧ w = 0 ∧ tm = 0)

theorem powerFields_small (h : powerFieldsOk st d w tm) : d < 65536 ∧ w < 32 ∧ tm < 2 ^ 32 := by
  obtain ⟨_, hMoored, hOther⟩ := h
  by_cases hSt : st = 2
  · obtain ⟨hd, _, hw, hOn, hOff⟩ := hMoored hSt
    cases hBit : bit w 4
    · have := hOff hBit
      omega
    · have := hOn hBit
      omega
  · have := hOther hSt
    omega

/-- A request of PWR_STATE_SET. -/
def powerPayload (st d w tm : Nat) : List Byte := [0, BitVec.ofNat 8 st] ++ leBytes 2 d ++ leBytes 4 w ++ leBytes 4 tm

theorem powerPayload_fields (h : powerFieldsOk st d w tm) :
    (powerPayload st d w tm).length = 12 ∧ u8 (powerPayload st d w tm) 0 = 0 ∧ u8 (powerPayload st d w tm) 1 = st
    ∧ u16 (powerPayload st d w tm) 2 = d ∧ u8 (powerPayload st d w tm) 4 = w
    ∧ zeroAt (powerPayload st d w tm) 5 3 = true ∧ u32 (powerPayload st d w tm) 8 = tm := by
  obtain ⟨hd, hw, htm⟩ := powerFields_small h
  have hSt : st < 256 := lt_of_le_of_lt h.1 (by decide)
  have hWake : ∀ k : Fin 32, leBytes 4 k.val = [BitVec.ofNat 8 k.val, 0, 0, 0] := by decide
  have hWord : leBytes 4 w = [BitVec.ofNat 8 w, 0, 0, 0] := hWake ⟨w, hw⟩
  refine ⟨rfl, rfl, ?_, ?_, ?_, ?_, ?_⟩
  · exact (BitVec.toNat_ofNat st 8).trans (Nat.mod_eq_of_lt hSt)
  · exact leNat_field (a := [0, BitVec.ofNat 8 st]) 2 (leBytes 4 w ++ leBytes 4 tm)
      (by simp only [powerPayload, List.append_assoc]) rfl hd
  · exact (BitVec.toNat_ofNat w 8).trans (Nat.mod_eq_of_lt (hw.trans (by decide)))
  · unfold powerPayload
    rw [hWord]
    rfl
  · exact leNat_field (a := [0, BitVec.ofNat 8 st] ++ leBytes 2 d ++ leBytes 4 w) 4 []
      (by simp only [powerPayload, List.append_assoc, List.append_nil]) rfl htm

theorem pwrStateBody_own (hPay : q.payload = powerPayload st d w tm) (h : powerFieldsOk st d w tm) (t : State) :
    pwrStateBody q t = .go (State.atNode 0x0A00 q 0 (fun t => t.powerSet q)) := by
  obtain ⟨hLen, hNode, hSt, hDrain, hWake, hZero, hTimer⟩ := powerPayload_fields h
  obtain ⟨hLe, hMoored, hOther⟩ := h
  unfold pwrStateBody
  simp only [hPay, hLen, hNode, hSt, hDrain, hWake, hZero, hTimer]
  refine if_neg ?_
  by_cases hTwo : st = 2
  · obtain ⟨hd, hw1, hw2, hOn, hOff⟩ := hMoored hTwo
    cases hBit : bit w 4
    · simp [hTwo, hd, hw1, hw2, hOff hBit, within]
    · obtain ⟨h1, h2⟩ := hOn hBit
      simp [hTwo, hd, hw1, hw2, h1, h2, within]
  · obtain ⟨hd, hw, htm⟩ := hOther hTwo
    simp [hTwo, hd, hw, htm, hLe]

/-- Whether the device is free to change its power state to `st`. -/
def State.powerFree (s : State) (st : Nat) : Prop :=
  s.start.fwState = 2 ∧ s.start.unconfirmed = false ∧ s.start.write = none ∧ st ≠ s.power.state.code

theorem State.powerSet_eq (hPay : q.payload = powerPayload st d w tm) (h : powerFieldsOk st d w tm) (s : State) :
    s.powerSet q =
      if s.start.fwState ≠ 2 || s.start.unconfirmed || s.start.write.isSome then s.reply 0x0A00 q (.ignored 5)
      else if st = s.power.state.code then s.reply 0x0A00 q (.ignored 6)
      else if st ≤ 1 then (s.setPower (fun w => { w with idleReq := some (st == 1) })).await 0x0A00 q .powerMode
      else (s.reply 0x0A00 q .done).setPower (fun p => { p with
        entry := some { beached := st == 3, drainMs := d, wake := w, timer := tm, at_ := s.switchFrame } }) := by
  obtain ⟨_, _, hSt, hDrain, hWake, _, hTimer⟩ := powerPayload_fields h
  unfold State.powerSet
  simp only [hPay, hSt, hDrain, hWake, hTimer]

theorem pwrStateSet_completes (hAdmits : s.admits 0x0A00 q) (h : powerFieldsOk st d w tm)
    (hPay : q.payload = powerPayload st d w tm) : completesWith (.pwrStateSet q) s (fun t =>
      (¬ s.powerFree st → t.answers 0x0A00 q 3 [] ∧ t.power = s.power)
      ∧ (s.powerFree st → st ≤ 1 → t.awaits 0x0A00 q .powerMode
        ∧ t.power = { s.power with idleReq := some (st == 1) })
      ∧ (s.powerFree st → 2 ≤ st → t.answers 0x0A00 q 0 [] ∧ t.power = { s.power with
          entry := some { beached := st == 3, drainMs := d, wake := w, timer := tm, at_ := s.switchFrame } })
      ∧ t = { s.reporting t with power := t.power }) := by
  have hManager := State.admits_isManager hAdmits
  have hExec : exec (.pwrStateSet q) s = .next ((s.dropSeg 0x0A00 q).powerSet q) :=
    congrArg Host.Outcome.next ((State.serve_go hAdmits (pwrStateBody_own hPay h _)).trans
      (State.atNode_own hManager 0x0A00 q (fun t => t.powerSet q)))
  have hDrop := s.dropSeg_reports 0x0A00 q
  have hFree : (s.dropSeg 0x0A00 q).powerFree st = s.powerFree st :=
    State.dropSeg_same (fun t => t.powerFree st) (fun _ => rfl) _ _ s
  have hFrame : (s.dropSeg 0x0A00 q).switchFrame = s.switchFrame :=
    State.dropSeg_same State.switchFrame (fun _ => rfl) _ _ s
  refine ⟨_, hExec, ?_⟩
  rw [← hFree, ← hFrame, ← hDrop.power]
  generalize s.dropSeg 0x0A00 q = u at *
  rw [State.powerSet_eq hPay h]
  clear hExec hFree hFrame
  by_cases hHeld : u.start.fwState ≠ 2 || u.start.unconfirmed || u.start.write.isSome
  · have hNot : ¬ u.powerFree st := by
      rintro ⟨hState, hConfirmed, hWrite, _⟩
      simp [hState, hConfirmed, hWrite] at hHeld
    rw [if_pos hHeld]
    exact ⟨fun _ => ⟨State.answer_answers hManager _ _ _ _, (State.reply_reports _ _ _ _).power⟩,
      fun hIs => absurd hIs hNot, fun hIs => absurd hIs hNot,
      ((hDrop.trans (State.reply_reports _ _ _ _)).within.mono (D := .power :: reportParts) rfl).eq_merge⟩
  rw [if_neg hHeld]
  by_cases hSame : st = u.power.state.code
  · have hNot : ¬ u.powerFree st := fun hIs => hIs.2.2.2 hSame
    rw [if_pos hSame]
    exact ⟨fun _ => ⟨State.answer_answers hManager _ _ _ _, (State.reply_reports _ _ _ _).power⟩,
      fun hIs => absurd hIs hNot, fun hIs => absurd hIs hNot,
      ((hDrop.trans (State.reply_reports _ _ _ _)).within.mono (D := .power :: reportParts) rfl).eq_merge⟩
  rw [if_neg hSame]
  have hIs : u.powerFree st := by
    simp only [ne_eq, Bool.or_eq_true, decide_eq_true_eq, not_or, not_not, Bool.not_eq_true, Option.isSome_eq_false_iff,
      Option.isNone_iff_eq_none] at hHeld
    exact ⟨hHeld.1.1, hHeld.1.2, hHeld.2, hSame⟩
  have hDropped : Within (.power :: reportParts) s u := hDrop.within.mono rfl
  by_cases hLow : st ≤ 1
  · rw [if_pos hLow]
    refine ⟨fun hNot => absurd hIs hNot, fun _ _ => ⟨?_, rfl⟩, fun _ hHigh => by omega, ?_⟩
    · exact congrArg Mbx.waiting (State.box_modBox_same q.mbx.val _ _)
    · have hAwait := State.await_reports (u.setPower (fun w => { w with idleReq := some (st == 1) })) 0x0A00 q .powerMode
      exact ((hDropped.trans (State.setPower_adds _ u).within).trans (hAwait.within.mono rfl)).eq_merge
  · rw [if_neg hLow]
    have hReply := State.reply_reports u 0x0A00 q .done
    refine ⟨fun hNot => absurd hIs hNot, fun _ hLe => absurd hLe hLow, fun _ _ => ⟨?_, ?_⟩, ?_⟩
    · exact State.answer_answers hManager 0x0A00 q .done []
    · rw [State.setPower, hReply.power]
    · exact ((hDropped.trans (hReply.within.mono rfl)).trans (State.setPower_adds _ _).within).eq_merge

end

/-- Settles O19, state by state of the power block and outcome by outcome of the request. -/
theorem powerStateCommands : Obligations.PowerStateCommands := by
  unfold Obligations.PowerStateCommands
  refine ⟨fun s => ⟨fun e => mooredEntry_completes, fun e => beachedEntry_completes, fun e => drainEnd_completes,
    exec_drainEnd_otherwise, rfl, fun hState hSeq hMode => ⟨_, exec_cpWaitHalt_moored hState hSeq hMode, s.halted_holds _⟩,
    fun hState hSeq hMode => ?_, fun h => ⟨_, exec_pwWake_running h, rfl⟩,
    fun hState hMode hNone => ⟨_, exec_pwWake_halting hState hMode hNone, rfl⟩, pwWake_moored⟩,
    fun s q st d w tm hAdmits hSt hMoored hOther hPay => pwrStateSet_completes hAdmits ⟨hSt, hMoored, hOther⟩ hPay⟩
  obtain ⟨hQ, hEn, hRunning, _, _, _, _, hRest⟩ := s.halted_holds (.down 5)
  exact ⟨_, exec_cpWaitHalt_beached hState hSeq hMode, hQ, hEn, hRunning, hRest⟩

end Sys2Proof.Machine
end

section
/-!
# Ranging of workers and TIDE_SYNC

The round trips that a manager and a worker keep, the measurements that fail, and what a TIDE_SYNC brings: a joined
worker mirrors the manager's Tide state, a joining one takes its count.
-/
namespace Sys2Proof.Machine

-- One theorem after another: the stacks of many that wait at once would exceed the memory of the check.
set_option Elab.async false

variable {s : State} {n : NodeNo}

/-! ### Rangers (R48, R78) -/

theorem State.ranger_modRanger_same (k : Nat) (f : Ranger → Ranger) (s : State) :
    (s.modRanger k f).ranger k = f (s.ranger k) := Tab.get_modify_same _ _ _ _

theorem State.modRanger_adds {C : List Part} (k : Nat) (f : Ranger → Ranger) (s : State)
    (hC : Covers [.tide] C := by rfl) : Adds C s (s.modRanger k f) := Adds.mono (D := [.tide]) (adds_of_eq rfl rfl) hC

/-- `t` is `s` but for the rangers and what reporting changes. -/
def RangersMove (s t : State) : Prop := t = { s.reporting t with tide := { s.tide with rangers := t.tide.rangers } }

theorem rangersMove_of_adds {t : State} (h : Adds (.tide :: reportParts) s t)
    (hTide : t.tide = { s.tide with rangers := t.tide.rangers }) : RangersMove s t :=
  h.within.eq_merge.trans (congrArg (fun x : Tide => { s.reporting t with tide := x }) hTide)

/-! ### TS_REQ (R48) -/

/-- The state with the manager's round trip of one exchange. -/
def State.measured (k d rtt : Nat) (s : State) : State := s.modRanger k (Ranger.take d rtt)

theorem exec_tsReq_manager (side : Side) (rtt : Nat) (h : s.isManager = true) :
    exec (.tsReq n side rtt) s = .next (
      if (s.node n.val).member = 1 && ((s.measured n.val side.val rtt).ranger n.val).complete
          && !(s.ranger n.val).complete then (s.measured n.val side.val rtt).syncTo n.val
      else s.measured n.val side.val rtt) := congrArg Host.Outcome.next (if_pos h)

theorem tsReq_manager (side : Side) (rtt : Nat) (h : s.isManager = true) :
    completesWith (.tsReq n side rtt) s (fun t =>
      t.ranger n.val = (s.ranger n.val).take side.val rtt
      ∧ t = { s with tide := { s.tide with rangers := t.tide.rangers }, ring := t.ring }) := by
  refine ⟨_, exec_tsReq_manager side rtt h, ?_⟩
  split
  · exact ⟨State.ranger_modRanger_same n.val (Ranger.take side.val rtt) s, rfl⟩
  · exact ⟨State.ranger_modRanger_same n.val (Ranger.take side.val rtt) s, rfl⟩

/-- The state with the worker's offset and round trip of one exchange. -/
def State.offsetTaken (d rtt : Nat) (s : State) : State :=
  let s1 := ({ s with tide := s.tide.putOffset d rtt }).modRanger 0 (Ranger.take d rtt)
  { s1 with tide := { s1.tide with ranged := s1.tide.ranged || (s1.ranger 0).complete } }

theorem exec_tsReq_worker (side : Side) (rtt : Nat) (h : s.isManager = false) (hn : n.val = s.ring.node) :
    exec (.tsReq n side rtt) s = .next (s.offsetTaken side.val rtt) :=
  congrArg Host.Outcome.next ((if_neg (by simp [h])).trans (if_pos hn))

theorem Tide.putOffset_rangers (d rtt : Nat) (t : Tide) : (t.putOffset d rtt).rangers = t.rangers := by
  unfold Tide.putOffset
  split <;> rfl

theorem State.offsetTaken_ranger (d rtt : Nat) (s : State) :
    (s.offsetTaken d rtt).ranger 0 = (s.ranger 0).take d rtt := by
  refine (State.ranger_modRanger_same 0 (Ranger.take d rtt) { s with tide := s.tide.putOffset d rtt }).trans ?_
  rw [State.ranger, Tide.putOffset_rangers]
  rfl

theorem State.offsetTaken_ranged (d rtt : Nat) (h : ((s.ranger 0).take d rtt).complete = true) :
    (s.offsetTaken d rtt).tide.ranged = true := by
  rw [← State.offsetTaken_ranger] at h
  unfold State.offsetTaken at h ⊢
  exact Bool.or_eq_true_iff.mpr (.inr h)

theorem tsReq_worker_east (rtt : Nat) (h : s.isManager = false) (hn : n.val = s.ring.node) :
    completesWith (.tsReq n 0 rtt) s (fun t =>
      t.tide.offEast = rtt / 2 ∧ (t.ranger 0).rttEast = rtt
      ∧ (15 ≤ (s.ranger 0).nEast → 16 ≤ (s.ranger 0).nWest → t.tide.ranged = true)
      ∧ t = { s with tide := { s.tide with
          offEast := t.tide.offEast, rangers := t.tide.rangers, ranged := t.tide.ranged } }) :=
  ⟨_, exec_tsReq_worker 0 rtt h hn, rfl, (congrArg Ranger.rttEast (s.offsetTaken_ranger 0 rtt) :),
    fun hEast hWest => State.offsetTaken_ranged 0 rtt (by simp [Ranger.complete, Ranger.take, hEast, hWest]), rfl⟩

theorem tsReq_worker_west (rtt : Nat) (h : s.isManager = false) (hn : n.val = s.ring.node) :
    completesWith (.tsReq n 1 rtt) s (fun t =>
      t.tide.offWest = rtt / 2 ∧ (t.ranger 0).rttWest = rtt
      ∧ (16 ≤ (s.ranger 0).nEast → 15 ≤ (s.ranger 0).nWest → t.tide.ranged = true)
      ∧ t = { s with tide := { s.tide with
          offWest := t.tide.offWest, rangers := t.tide.rangers, ranged := t.tide.ranged } }) :=
  ⟨_, exec_tsReq_worker 1 rtt h hn, rfl, (congrArg Ranger.rttWest (s.offsetTaken_ranger 1 rtt) :),
    fun hEast hWest => State.offsetTaken_ranged 1 rtt (by simp [Ranger.complete, Ranger.take, hEast, hWest]), rfl⟩

/-! ### Re-measurement (R50, R78) -/

/-- A side's round trip that agrees with the one before is taken. -/
theorem Ranger.remeasure_east_agrees {e : Nat} {r : Ranger} (h : differs e r.rttEast = false) :
    r.remeasure 0 e = { r with rttEast := e, diffEast := 0, retryEast := false, nEast := r.nEast + 1 } := by
  unfold Ranger.remeasure
  simp only [if_true, h, Bool.false_eq_true, if_false]
  rfl

theorem Ranger.remeasure_west_agrees {w : Nat} {r : Ranger} (h : differs w r.rttWest = false) :
    r.remeasure 1 w = { r with rttWest := w, diffWest := 0, retryWest := false, nWest := r.nWest + 1 } := by
  unfold Ranger.remeasure
  simp only [one_ne_zero, h, Bool.false_eq_true, if_false]
  rfl

/-- Both sides' round trips agree with those before. -/
def Ranger.agreed (e w : Nat) (r : Ranger) : Ranger :=
  { rttEast := e, rttWest := w, diffEast := 0, diffWest := 0, retryEast := false
    retryWest := false, nEast := r.nEast + 1, nWest := r.nWest + 1 }

theorem Ranger.remeasure_agrees {e w : Nat} {r : Ranger} (hEast : differs e r.rttEast = false)
    (hWest : differs w r.rttWest = false) : (r.remeasure 0 e).remeasure 1 w = r.agreed e w := by
  rw [Ranger.remeasure_east_agrees hEast]
  exact Ranger.remeasure_west_agrees hWest

/-- The third difference on the east side leaves its round trip, whatever the west side shows. -/
theorem Ranger.remeasure_east_fails {e w : Nat} {r : Ranger} (h : differs e r.rttEast = true) (hThird : 2 ≤ r.diffEast) :
    ((r.remeasure 0 e).remeasure 1 w).rttEast = r.rttEast ∧ ((r.remeasure 0 e).remeasure 1 w).failed 0 = true := by
  have hEast : r.remeasure 0 e = { r with diffEast := r.diffEast + 1 } := by
    unfold Ranger.remeasure
    simp only [if_true, h]
    exact if_pos (by omega)
  have hWest (q : Ranger) : (q.remeasure 1 w).rttEast = q.rttEast ∧ (q.remeasure 1 w).diffEast = q.diffEast := by
    unfold Ranger.remeasure
    simp only [one_ne_zero, if_false]
    generalize (if differs w q.rttWest = true then q.diffWest + 1 else 0) = count
    split
    · exact ⟨rfl, rfl⟩
    · exact ⟨rfl, rfl⟩
  rw [hEast]
  obtain ⟨hRtt, hDiff⟩ := hWest { r with diffEast := r.diffEast + 1 }
  refine ⟨hRtt, ?_⟩
  unfold Ranger.failed
  rw [if_pos rfl, hDiff]
  exact decide_eq_true (Nat.succ_le_succ hThird)

/-- What a re-measurement makes of a ranger. -/
def State.remeasured (k e w : Nat) (s : State) : Ranger := ((s.ranger k).remeasure 0 e).remeasure 1 w

theorem exec_workerRemeasure_manager (e w : Nat) (h : s.isManager = true) :
    exec (.workerRemeasure n e w) s = .next ([0, 1].foldl
      (fun t d => if (s.remeasured n.val e w).failed d then t.rangeFail n.val d else t)
      (s.modRanger n.val (fun _ => s.remeasured n.val e w))) := by
  change execWorkerRemeasure n e w s = _
  unfold execWorkerRemeasure State.remeasured
  simp only [h, if_true]

theorem exec_workerRemeasure_worker (e w : Nat) (h : s.isManager = false) (hn : n.val = s.ring.node) :
    exec (.workerRemeasure n e w) s = .next ((s.modRanger 0 (fun _ => s.remeasured 0 e w)).reoffset (fun t =>
      (t.putOffset 0 (s.remeasured 0 e w).rttEast).putOffset 1 (s.remeasured 0 e w).rttWest)) := by
  change execWorkerRemeasure n e w s = _
  unfold execWorkerRemeasure State.remeasured
  simp only [h, Bool.false_eq_true, if_false, hn, ne_eq, not_true_eq_false]

theorem workerRemeasure_agrees (e w : Nat) (h : s.isManager = true) (hEast : differs e (s.ranger n.val).rttEast = false)
    (hWest : differs w (s.ranger n.val).rttWest = false) : completesWith (.workerRemeasure n e w) s (fun t =>
      t.ranger n.val = (s.ranger n.val).agreed e w
      ∧ t = { s with tide := { s.tide with rangers := t.tide.rangers } }) := by
  have hRanger : s.remeasured n.val e w = (s.ranger n.val).agreed e w := Ranger.remeasure_agrees hEast hWest
  refine ⟨_, exec_workerRemeasure_manager e w h, ?_⟩
  rw [hRanger]
  exact ⟨State.ranger_modRanger_same n.val (fun _ => (s.ranger n.val).agreed e w) s, rfl⟩

/-- Both sides that failed are told. -/
def State.failuresTold (n : Nat) (r : Ranger) (s : State) : State :=
  [0, 1].foldl (fun t d => if r.failed d then t.rangeFail n d else t) s

/-- What a failed side leaves: its retry is due and TIDE_RANGE is raised. -/
theorem State.rangeFail_moves (k d : Nat) (s : State) : RangersMove s (s.rangeFail k d) :=
  rangersMove_of_adds ((State.modRanger_adds _ _ s).trans (State.raise_adds _ _ _ _)) rfl

theorem State.rangeFail_east (k : Nat) (s : State) :
    (s.rangeFail k 0).ranger k = { s.ranger k with retryEast := true } :=
  State.ranger_modRanger_same k (fun r => { r with retryEast := true }) s

theorem State.rangeFail_west (k : Nat) (s : State) :
    (s.rangeFail k 1).ranger k = { s.ranger k with retryWest := true } :=
  State.ranger_modRanger_same k (fun r => { r with retryWest := true }) s

theorem State.rangeFail_pends (k d : Nat) (s : State) : (s.rangeFail k d).pends 38 := State.raise_pends _ _ _ _

theorem RangersMove.trans {t u : State} (h : RangersMove s t) (k : RangersMove t u) : RangersMove s u := by
  unfold RangersMove at h k ⊢
  rw [k, h]
  rfl

theorem workerRemeasure_fails (e w : Nat) (h : s.isManager = true) (hEast : differs e (s.ranger n.val).rttEast = true)
    (hThird : 2 ≤ (s.ranger n.val).diffEast) : completesWith (.workerRemeasure n e w) s (fun t =>
      (t.ranger n.val).retryEast = true ∧ (t.ranger n.val).rttEast = (s.ranger n.val).rttEast ∧ t.pends 38
      ∧ RangersMove s t) := by
  obtain ⟨hRtt, hFails⟩ := Ranger.remeasure_east_fails (w := w) hEast hThird
  have hExec := exec_workerRemeasure_manager (n := n) e w h
  have hPut := State.ranger_modRanger_same n.val (fun _ => s.remeasured n.val e w) s
  have hMoves : RangersMove s (s.modRanger n.val (fun _ => s.remeasured n.val e w)) := rfl
  change (s.remeasured n.val e w).rttEast = _ at hRtt
  change (s.remeasured n.val e w).failed 0 = true at hFails
  generalize s.remeasured n.val e w = r at *
  generalize s.modRanger n.val (fun _ => r) = u at *
  have hOne : (u.rangeFail n.val 0).ranger n.val = { r with retryEast := true } := by
    rw [State.rangeFail_east, hPut]
  have hFold : [0, 1].foldl (fun t d => if r.failed d then t.rangeFail n.val d else t) u
      = if r.failed 1 then (u.rangeFail n.val 0).rangeFail n.val 1 else u.rangeFail n.val 0 := by
    simp only [List.foldl_cons, List.foldl_nil, hFails, if_true]
  refine ⟨_, hExec.trans (congrArg Host.Outcome.next hFold), ?_⟩
  have hFirst := hMoves.trans (u.rangeFail_moves n.val 0)
  split
  · dsimp only
    rw [State.rangeFail_west, hOne]
    exact ⟨rfl, hRtt, State.rangeFail_pends _ _ _, hFirst.trans (State.rangeFail_moves _ _ _)⟩
  · dsimp only
    rw [hOne]
    exact ⟨rfl, hRtt, State.rangeFail_pends _ _ _, hFirst⟩

theorem slewRemain_zero (ppm el : Nat) : slewRemain 0 ppm el = 0 := by simp [slewRemain]

theorem workerRemeasure_worker (e w : Nat) (h : s.isManager = false) (hn : n.val = s.ring.node)
    (hEast : differs e (s.ranger 0).rttEast = false) (hWest : differs w (s.ranger 0).rttWest = false)
    (hCorr : s.tide.corr = 0) : completesWith (.workerRemeasure n e w) s (fun t =>
      t.tide.offEast = e / 2 ∧ t.tide.offWest = w / 2 ∧ t.tide.corrAt = s.now
      ∧ t.tide.corr = (t.tide.timingOffset : Int) - (s.tide.timingOffset : Int)
      ∧ t.tide.frame = s.tide.frame ∧ t.tide.tick = s.tide.tick
      ∧ t = { s with tide := t.tide }) := by
  have hRanger : s.remeasured 0 e w = (s.ranger 0).agreed e w := Ranger.remeasure_agrees hEast hWest
  have hExec := exec_workerRemeasure_worker e w h hn
  rw [hRanger] at hExec
  refine ⟨_, hExec, rfl, rfl, rfl, ?_, rfl, rfl, rfl⟩
  unfold State.reoffset State.correction
  dsimp only
  change slewRemain s.tide.corr s.cfg.tide.slewPpm (s.now - s.tide.corrAt) + _ = _
  rw [hCorr, slewRemain_zero, Int.zero_add]
  rfl

/-! ### Measurements without an answer, and retries (R78, R79) -/

theorem rangingReplyTimeout_completes (side : Side) (h : s.isManager = true) :
    completesWith (.rangingReplyTimeout n side) s (fun t =>
      (if side = 0 then (t.ranger n.val).retryEast else (t.ranger n.val).retryWest) = true ∧ t.pends 38
      ∧ RangersMove s t) := by
  refine ⟨_, congrArg Host.Outcome.next (if_pos h), ?_, State.rangeFail_pends _ _ _, State.rangeFail_moves _ _ _⟩
  fin_cases side
  · exact (congrArg Ranger.retryEast (State.rangeFail_east n.val s) :)
  · exact (congrArg Ranger.retryWest (State.rangeFail_west n.val s) :)

theorem dccPushOn_room (d : Nat) (k : DccKeys) (self dst frame : Nat) (body : DccBody) {r : Ring}
    (h : (Tab.get {} r.peers dst : Peer).unacked.length < 8) :
    dccPushOn d k self dst frame body r = dccPut d true (r.numbered k self dst frame body).wire
      (r.putPeer dst ((Tab.get {} r.peers dst : Peer).sent (r.numbered k self dst frame body))) := if_neg (not_le.mpr h)

theorem State.dccOn_unacked (d : Nat) (body : DccBody) {dst : Nat} {s : State}
    (h : (Tab.get {} s.ring.peers dst : Peer).unacked.length < 8) :
    (Tab.get {} (s.dccOn d dst body).ring.peers dst : Peer).unacked = (Tab.get {} s.ring.peers dst : Peer).unacked
      ++ [s.ring.numbered s.dccKeys s.self dst s.tide.frame body] := by
  unfold State.dccOn
  dsimp only
  rw [dccPushOn_room d _ _ _ _ _ h, dccPut_peers, Ring.peer_putPeer_same]
  rfl

theorem exec_rangingRetry (side : Side) (h : s.isManager = true)
    (hEast : (s.ranger n.val).retryEast = decide (side = 0)) (hWest : (s.ranger n.val).retryWest = decide (side = 1)) :
    exec (.rangingRetry n) s = .next (s.dccOn side.val n.val .tsReq) := by
  change execRangingRetry n s = _
  unfold execRangingRetry
  dsimp only
  rw [if_pos h, hEast, hWest]
  fin_cases side
  · rfl
  · rfl

theorem rangingRetry_completes (side : Side) (h : s.isManager = true)
    (hEast : (s.ranger n.val).retryEast = decide (side = 0)) (hWest : (s.ranger n.val).retryWest = decide (side = 1))
    (hRoom : (Tab.get {} s.ring.peers n.val : Peer).unacked.length < 8) :
    completesWith (.rangingRetry n) s (fun t =>
      t = s.dccOn side.val n.val .tsReq
      ∧ (let u := (Tab.get {} t.ring.peers n.val : Peer).unacked
         u.length = (Tab.get {} s.ring.peers n.val : Peer).unacked.length + 1
         ∧ ∀ x, u.getLast? = some x → x.msg.dst = n ∧ x.msg.body = .tsReq)) := by
  refine ⟨_, exec_rangingRetry side h hEast hWest, rfl, ?_⟩
  dsimp only
  rw [State.dccOn_unacked _ _ hRoom]
  refine ⟨List.length_append, fun x hx => ?_⟩
  rw [List.getLast?_concat, Option.some.injEq] at hx
  rw [← hx]
  exact ⟨Fin.ofNat_val_eq_self n, rfl⟩

end Sys2Proof.Machine
end

section
/-!
# TIDE_SYNC

What the manager sends to every joined worker, what a joined worker mirrors, and how a joining one takes Tide.
-/
namespace Sys2Proof.Machine

-- One theorem after another: the stacks of many that wait at once would exceed the memory of the check.
set_option Elab.async false

variable {s : State} {C : List Part}

/-! ### The manager's TIDE_SYNC (R47) -/

theorem State.joinedNodes_nodup (s : State) : s.joinedNodes.Nodup := List.nodup_range.filter _

theorem State.joinedNodes_lt {n : Nat} (h : n ∈ s.joinedNodes) : n < 16 := List.mem_range.mp (List.mem_filter.mp h).1

/-- The body of the manager's TIDE_SYNC. -/
def State.syncBody (s : State) : DccBody := .tideSync s.cipher.bootNonce s.tide.frame s.tide.state.code s.tide.anchor

theorem State.syncTo_body (n : Nat) (s : State) : (s.syncTo n).syncBody = s.syncBody := rfl

/-- Whether `r` holds, for the peer `n`, what one more message `b` makes of the peer `p`. -/
def Tells (n : Nat) (b : DccBody) (p : Peer) (r : Ring) : Prop :=
  (p.unacked.length < 8 → ∀ x, (Tab.get {} r.peers n : Peer).unacked.getLast? = some x → x.msg.dst.val = n ∧ x.msg.body = b)
  ∧ (8 ≤ p.unacked.length → (Tab.get {} r.peers n : Peer).queue = p.queue ++ [b])

theorem Tells.of_peers {n : Nat} {b : DccBody} {p : Peer} {r k : Ring} (h : Tells n b p r)
    (hPeers : Tab.get {} k.peers n = (Tab.get {} r.peers n : Peer)) : Tells n b p k := by
  unfold Tells
  rw [hPeers]
  exact h

theorem dccPush_tells (k : DccKeys) (self frame : Nat) (b : DccBody) {n : Nat} (hn : n < 16) (r : Ring) :
    Tells n b (Tab.get {} r.peers n) (dccPush k self n frame b r) := by
  by_cases hFull : 8 ≤ (Tab.get {} r.peers n : Peer).unacked.length
  · refine ⟨fun hRoom => absurd hRoom (not_lt.mpr hFull), fun _ => ?_⟩
    rw [dccPush_full k self n frame b hFull, Ring.peer_putPeer_same]
    rfl
  · have hRoom := not_le.mp hFull
    refine ⟨fun _ x hx => ?_, fun hLe => absurd hLe hFull⟩
    rw [dccPush_room k self n frame b hRoom, dccPut_peers, Ring.peer_putPeer_same, Peer.sent, List.getLast?_concat,
      Option.some.injEq] at hx
    rw [← hx]
    exact ⟨Nat.mod_eq_of_lt hn, rfl⟩

theorem dccPush_other (k : DccKeys) (self frame : Nat) (b : DccBody) {n j : Nat} (hj : j ≠ n) (r : Ring) :
    (Tab.get {} (dccPush k self n frame b r).peers j : Peer) = Tab.get {} r.peers j := by
  by_cases hFull : 8 ≤ (Tab.get {} r.peers n : Peer).unacked.length
  · rw [dccPush_full k self n frame b hFull, Ring.peer_putPeer_other _ r hj]
  · rw [dccPush_room k self n frame b (not_le.mp hFull), dccPut_peers, Ring.peer_putPeer_other _ r hj]

theorem State.syncTo_other {n j : Nat} (hj : j ≠ n) (s : State) :
    (Tab.get {} (s.syncTo n).ring.peers j : Peer) = Tab.get {} s.ring.peers j := dccPush_other _ _ _ _ hj _

/-- Nodes to which nothing is sent keep their peer. -/
theorem State.syncs_other {j : Nat} (l : List Nat) (hj : j ∉ l) (s : State) :
    (Tab.get {} (l.foldl (fun t n => t.syncTo n) s).ring.peers j : Peer) = Tab.get {} s.ring.peers j := by
  induction l generalizing s with
  | nil => rfl
  | cons n l ih =>
    rw [List.mem_cons, not_or] at hj
    exact (ih hj.2 (s.syncTo n)).trans (State.syncTo_other hj.1 s)

theorem State.syncs_tell (l : List Nat) (hNodup : l.Nodup) (s : State) :
    ∀ n ∈ l, n < 16 → Tells n s.syncBody (Tab.get {} s.ring.peers n) (l.foldl (fun t n => t.syncTo n) s).ring := by
  induction l generalizing s with
  | nil => exact fun n hn => absurd hn List.not_mem_nil
  | cons m l ih =>
    obtain ⟨hFresh, hRest⟩ := List.nodup_cons.mp hNodup
    intro n hn hLt
    rcases List.mem_cons.mp hn with hEq | hLater
    · rw [hEq] at hLt ⊢
      have hSent : Tells m s.syncBody (Tab.get {} s.ring.peers m) (s.syncTo m).ring := dccPush_tells _ _ _ _ hLt _
      exact hSent.of_peers (State.syncs_other l hFresh (s.syncTo m))
    · have hNe : n ≠ m := fun hEq => hFresh (hEq ▸ hLater)
      have hLaterTells := ih hRest (s.syncTo m) n hLater hLt
      rwa [State.syncTo_body, State.syncTo_other hNe] at hLaterTells

theorem tideSync_manager (nonce : BitVec 64) (frame : Nat) (c : Fin 4) (a : Lane) (h : s.isManager = true) :
    completesWith (.tideSync nonce frame c a) s (fun t =>
      (∀ n ∈ s.joinedNodes, ∀ p : Peer, p = Tab.get {} s.ring.peers n → Tells n s.syncBody p t.ring)
      ∧ t = { s with ring := t.ring }) := by
  have hExec : exec (.tideSync nonce frame c a) s = .next (s.joinedNodes.foldl (fun t n => t.syncTo n) s) :=
    congrArg Host.Outcome.next ((if_pos h).trans (if_pos h))
  have hAll : Adds [.ring] s (s.joinedNodes.foldl (fun t n => t.syncTo n) s) := .foldl (fun t n => State.syncTo_adds n t) _ s
  refine ⟨_, hExec, fun n hn p hp => ?_, hAll.within.eq_merge⟩
  rw [hp]
  exact State.syncs_tell _ s.joinedNodes_nodup s n hn (State.joinedNodes_lt hn)

/-! ### A worker mirrors the manager's Tide (R53) -/

/-- The anchor lane noted. -/
def State.anchorAt (a : Nat) (s : State) : State := { s with tide := { s.tide with anchor := a } }

/-- SLEWING and UNANCHORED as a worker enters them. -/
def State.mirrorSlew (s : State) : State :=
  (({ s with tide := { s.tide with state := .slewing, error := 0, errAt := s.now }.holdClear }).setClk
    (fun c => { c with steered := true })).raise 34 0 0

def State.mirrorUnanchored (s : State) : State :=
  (({ s with tide := { s.tide with state := .unanchored, error := 0 }.holdClear }).setClk (fun c =>
    { c with steered := false, refSrc := false })).pulseHold

theorem State.mirror_eq (code a : Nat) (s : State) : s.mirror code a =
    if code = s.tide.state.code then s.anchorAt a
    else match code with
      | 1 => (s.anchorAt a).enterAnchored
      | 2 => (s.anchorAt a).enterHoldover
      | 3 => (s.anchorAt a).mirrorSlew
      | _ => (s.anchorAt a).mirrorUnanchored := rfl

/-- From `s` a worker has entered the Tide state `code` of the manager, and nothing else of Tide that is stated moves. -/
structure Mirrored (code : Nat) (s t : State) : Prop where
  state : t.tide.state.code = code
  anchor : t.tide.anchor = s.tide.anchor
  frame : t.tide.frame = s.tide.frame
  tick : t.tide.tick = s.tide.tick
  error : code ≠ 2 → t.tide.error = 0
  held : code = 2 → t.tide.limitRaised = false
  anchored : code = 1 → t.pends 32
  holdover : code = 2 → t.pends 33
  slews : code = 3 → t.pends 34
  steered : t.clk.steered = decide (code = 1 ∨ code = 3)
  adds : Adds anchorParts s t
  join : t.ring.join = s.ring.join

theorem State.raise_join (src obj detail : Nat) (s : State) : (s.raise src obj detail).ring.join = s.ring.join :=
  (congrArg Ring.join (State.raise_sends src obj detail s).rest :)

theorem State.anchorRoot_join (s : State) : s.anchorRoot.ring.join = s.ring.join := by
  unfold State.anchorRoot
  dsimp only
  split
  · rw [State.raise_join, (State.relock_within _).ring rfl]
    rfl
  · rfl

theorem State.enterAnchored_mirrored (s : State) : Mirrored 1 s s.enterAnchored where
  state := by
    rw [State.enterAnchored_tide]
    rfl
  anchor := by
    rw [State.enterAnchored_tide]
    rfl
  frame := by
    rw [State.enterAnchored_tide]
    rfl
  tick := by
    rw [State.enterAnchored_tide]
    rfl
  error := fun _ => by
    rw [State.enterAnchored_tide]
    rfl
  held := fun h => absurd h (by decide)
  anchored := fun _ => s.enterAnchored_pends
  holdover := fun h => absurd h (by decide)
  slews := fun h => absurd h (by decide)
  steered := by
    rw [State.enterAnchored_clk]
    exact s.anchorRoot_clk.1
  adds := s.enterAnchored_adds
  join := by
    rw [State.enterAnchored_eq, State.raise_join]
    exact s.anchorRoot_join

theorem State.pulseHold_ring (s : State) : s.pulseHold.ring = s.ring :=
  (State.pulseHold_adds (C := [.tide, .out]) s).within.ring rfl

theorem State.pulseHold_clk (s : State) : s.pulseHold.clk = s.clk :=
  (State.pulseHold_adds (C := [.tide, .out]) s).within.clk rfl

theorem State.enterHoldover_besidePulse (s : State) : s.enterHoldover.tide.besidePulse = s.heldOver.tide.besidePulse := by
  rw [State.enterHoldover_eq, State.pulseHold_besidePulse, State.raise_tide]

theorem State.enterHoldover_mirrored (s : State) : Mirrored 2 s s.enterHoldover where
  state := (congrArg (fun x : Tide => x.state.code) s.enterHoldover_besidePulse :)
  anchor := (congrArg Tide.anchor s.enterHoldover_besidePulse :)
  frame := (congrArg Tide.frame s.enterHoldover_besidePulse :)
  tick := (congrArg Tide.tick s.enterHoldover_besidePulse :)
  error := fun h => absurd rfl h
  held := fun _ => (congrArg Tide.limitRaised s.enterHoldover_besidePulse :)
  anchored := fun h => absurd h (by decide)
  holdover := fun _ => by
    rw [State.enterHoldover_eq]
    exact (State.pulseHold_adds (C := [.tide, .out]) _).pending 33 (State.raise_pends _ _ _ _)
  slews := fun h => absurd h (by decide)
  steered := by
    rw [State.enterHoldover_eq, State.pulseHold_clk, State.raise_clk]
    rfl
  adds := s.enterHoldover_adds
  join := (congrArg Ring.join s.enterHoldover_sends.rest :)

theorem State.mirrorSlew_mirrored (s : State) : Mirrored 3 s s.mirrorSlew where
  state := rfl
  anchor := rfl
  frame := rfl
  tick := rfl
  error := fun _ => rfl
  held := fun h => absurd h (by decide)
  anchored := fun h => absurd h (by decide)
  holdover := fun h => absurd h (by decide)
  slews := fun _ => State.raise_pends _ _ _ _
  steered := rfl
  adds := by
    have hEntered : Adds anchorParts s ({ s with tide :=
        { s.tide with state := .slewing, error := 0, errAt := s.now }.holdClear }) := adds_of_eq rfl rfl
    exact (hEntered.trans (State.setClk_adds _ _)).trans (State.raise_adds _ _ _ _)
  join := State.raise_join _ _ _ _

/-- UNANCHORED as it is entered, before the pulse is held. -/
def State.unanchored (s : State) : State :=
  ({ s with tide := { s.tide with state := .unanchored, error := 0 }.holdClear }).setClk (fun c =>
    { c with steered := false, refSrc := false })

theorem State.mirrorUnanchored_besidePulse (s : State) :
    s.mirrorUnanchored.tide.besidePulse = s.unanchored.tide.besidePulse := State.pulseHold_besidePulse s.unanchored

theorem State.mirrorUnanchored_mirrored (s : State) : Mirrored 0 s s.mirrorUnanchored where
  state := (congrArg (fun x : Tide => x.state.code) s.mirrorUnanchored_besidePulse :)
  anchor := (congrArg Tide.anchor s.mirrorUnanchored_besidePulse :)
  frame := (congrArg Tide.frame s.mirrorUnanchored_besidePulse :)
  tick := (congrArg Tide.tick s.mirrorUnanchored_besidePulse :)
  error := fun _ => (congrArg Tide.error s.mirrorUnanchored_besidePulse :)
  held := fun h => absurd h (by decide)
  anchored := fun h => absurd h (by decide)
  holdover := fun h => absurd h (by decide)
  slews := fun h => absurd h (by decide)
  steered := (congrArg Clocks.steered s.unanchored.pulseHold_clk :)
  adds := by
    have hEntered : Adds anchorParts s s.unanchored := adds_of_eq rfl rfl
    exact hEntered.trans (State.pulseHold_adds _)
  join := congrArg Ring.join s.unanchored.pulseHold_ring

theorem State.anchorAt_adds (a : Nat) (s : State) (hC : Covers [.tide] C := by rfl) : Adds C s (s.anchorAt a) :=
  Adds.mono (D := [.tide]) (adds_of_eq rfl rfl) hC

theorem State.mirror_same {code : Nat} (a : Nat) (h : code = s.tide.state.code) : s.mirror code a = s.anchorAt a :=
  if_pos h

/-- Another state than the one that holds is entered with the anchor lane noted. -/
theorem State.mirror_mirrored (c : Fin 4) (a : Nat) (h : c.val ≠ s.tide.state.code) :
    Mirrored c.val (s.anchorAt a) (s.mirror c.val a) := by
  rw [State.mirror_eq, if_neg h]
  fin_cases c
  · exact (s.anchorAt a).mirrorUnanchored_mirrored
  · exact (s.anchorAt a).enterAnchored_mirrored
  · exact (s.anchorAt a).enterHoldover_mirrored
  · exact (s.anchorAt a).mirrorSlew_mirrored

section
variable {nonce : BitVec 64} {c : Fin 4} {a : Lane} (frame : Nat)

theorem exec_tideSync_joined (h : s.isManager = false) (hJoined : s.ring.join.joined = true)
    (hNonce : nonce = s.ring.join.mgrNonce) : exec (.tideSync nonce frame c a) s = .next (s.mirror c.val a.val) := by
  have hNot : ¬ s.isManager = true := by simp [h]
  exact congrArg Host.Outcome.next ((if_neg hNot).trans ((if_neg hNot).trans ((if_pos hJoined).trans (if_pos hNonce))))

theorem exec_tideSync_same (h : s.isManager = false) (hJoined : s.ring.join.joined = true)
    (hNonce : nonce = s.ring.join.mgrNonce) (hSame : c.val = s.tide.state.code) :
    exec (.tideSync nonce frame c a) s = .next { s with tide := { s.tide with anchor := a.val } } :=
  (exec_tideSync_joined frame h hJoined hNonce).trans (congrArg Host.Outcome.next (State.mirror_same a.val hSame))

theorem exec_tideSync_reset (h : s.isManager = false) (hJoined : s.ring.join.joined = true)
    (hNonce : nonce ≠ s.ring.join.mgrNonce) : exec (.tideSync nonce frame c a) s = .next s.ringReset := by
  have hNot : ¬ s.isManager = true := by simp [h]
  exact congrArg Host.Outcome.next ((if_neg hNot).trans ((if_neg hNot).trans ((if_pos hJoined).trans (if_neg hNonce))))

theorem exec_tideSync_idle (h : s.isManager = false) (hJoined : s.ring.join.joined = false)
    (hStep : s.ring.join.step ≠ 5 ∨ s.tide.ranged = false) : exec (.tideSync nonce frame c a) s = .next s := by
  have hNot : ¬ s.isManager = true := by simp [h]
  refine congrArg Host.Outcome.next ((if_neg hNot).trans ((if_neg hNot).trans ((if_neg (by simp [hJoined])).trans (if_neg ?_))))
  rcases hStep with hStep | hRanged
  · simp [hStep]
  · simp [hRanged]

theorem exec_tideSync_joins (h : s.isManager = false) (hJoined : s.ring.join.joined = false)
    (hStep : s.ring.join.step = 5) (hRanged : s.tide.ranged = true) :
    exec (.tideSync nonce frame c a) s = .next ((s.takeTide nonce frame).mirror c.val a.val) := by
  have hNot : ¬ s.isManager = true := by simp [h]
  exact congrArg Host.Outcome.next ((if_neg hNot).trans ((if_neg hNot).trans ((if_neg (by simp [hJoined])).trans
    (if_pos (by simp [hStep, hRanged])))))

theorem tideSync_mirrors (h : s.isManager = false) (hJoined : s.ring.join.joined = true)
    (hNonce : nonce = s.ring.join.mgrNonce) (hOther : c.val ≠ s.tide.state.code) :
    completesWith (.tideSync nonce frame c a) s (fun t =>
      t.tide.state.code = c.val ∧ t.tide.anchor = a.val ∧ t.tide.frame = s.tide.frame ∧ t.tide.tick = s.tide.tick
      ∧ (c.val ≠ 2 → t.tide.error = 0) ∧ (c.val = 1 → t.pends 32) ∧ (c.val = 3 → t.pends 34)
      ∧ (c.val = 2 → t.pends 33 ∧ t.tide.limitRaised = false)
      ∧ t.clk.steered = decide (c.val = 1 ∨ c.val = 3)
      ∧ t = { s.reporting t with tide := t.tide, clk := t.clk, line := t.line, fresh := t.fresh }) := by
  have m := State.mirror_mirrored c a.val hOther
  exact ⟨_, exec_tideSync_joined frame h hJoined hNonce, m.state, m.anchor, m.frame, m.tick, m.error, m.anchored,
    m.slews, fun hTwo => ⟨m.holdover hTwo, m.held hTwo⟩, m.steered, ((State.anchorAt_adds _ s).trans m.adds).within.eq_merge⟩

end

/-! ### A joining worker takes Tide (R48, R77) -/

theorem State.wheelStep_ring (s : State) : s.wheelStep.ring = s.ring :=
  (State.wheelStep_adds (C := [.pool]) s).within.ring rfl

/-- How far the worker's join has come, and under which nonce. -/
def State.joinState (s : State) : JoinState := s.ring.join

theorem State.raise_joinState (src obj detail : Nat) (s : State) : (s.raise src obj detail).joinState = s.joinState :=
  State.raise_join src obj detail s

theorem State.takeSnapshot_join (asker : Option Nat) (s : State) :
    (s.takeSnapshot asker).joinState = s.joinState := by
  unfold State.takeSnapshot
  dsimp only
  split
  · rfl
  · split
    · exact State.raise_joinState _ _ _ _
    · rfl

theorem State.raiseIf_join {c : Prop} [Decidable c] (src obj detail : Nat) (s : State) :
    (if c then s.raise src obj detail else s).joinState = s.joinState := by
  split
  · exact State.raise_joinState _ _ _ _
  · rfl

theorem State.fireAlarm_join (k : Nat) (late : Bool) (s : State) : (s.fireAlarm k late).joinState = s.joinState := by
  unfold State.fireAlarm
  dsimp only
  split
  · rw [State.takeSnapshot_join, State.raiseIf_join, State.raiseIf_join]
    rfl
  · rw [State.raiseIf_join, State.raiseIf_join]
    rfl

theorem State.alarmStep_join (old : Nat) (s : State) (k : Nat) : (s.alarmStep old k).joinState = s.joinState := by
  unfold State.alarmStep
  dsimp only
  split
  · rfl
  · split
    · split
      · exact State.fireAlarm_join _ _ _
      · rfl
    · split
      · rfl
      · rfl

theorem State.alarmsStep_join (old : Nat) (s : State) : (s.alarmsStep old).joinState = s.joinState :=
  List.foldlRecOn (motive := fun (t : State) => t.joinState = s.joinState) _ _ rfl
    (fun t ht k _ => (State.alarmStep_join old t k).trans ht)

theorem State.putGate_joinState (p : Nat) (g : Gate) (s : State) : (s.putGate p g).joinState = s.joinState :=
  congrArg Ring.join ((State.putGate_adds (C := [.sched]) p g s).within.ring rfl)

theorem State.gatesStep_join (s : State) : s.gatesStep.joinState = s.joinState := by
  refine List.foldlRecOn (motive := fun (t : State) => t.joinState = s.joinState) _ _ rfl (fun t ht p _ => ?_)
  dsimp only
  rw [← ht]
  split
  · split
    · rw [State.raise_joinState, State.putGate_joinState]
    · rw [State.putGate_joinState]
  · rw [State.putGate_joinState]

theorem State.setJoin_adds (f : JoinState → JoinState) (s : State) (hC : Covers [.ring] C := by rfl) :
    Adds C s (s.setJoin f) := Adds.mono (D := [.ring]) (adds_of_eq rfl rfl) hC

/-- The Tide word of a joining worker and its step of the join. -/
def State.tideTaken (nonce : BitVec 64) (f k : Nat) (s : State) : State :=
  (s.putTide f k).setJoin (fun j => { j with mgrNonce := nonce, step := 6 })

/-- What a new Tide means to its users on a worker that joins. -/
def State.usersLoad (old : Nat) (s : State) : State := (((s.alarmsStep old).gatesStep).wheelStep).pulseLoad

theorem State.takeTide_eq (nonce : BitVec 64) (frame : Nat) (s : State) : s.takeTide nonce frame =
    (s.tideTaken nonce (frame + s.tide.timingOffset / frameTicks) s.tide.timingOffset).usersLoad s.tide.ticks := rfl

/-- What taking Tide touches. -/
def tideTakenParts : List Part :=
  [.evt, .host, .ring, .log, .cnt, .out, .now, .bnd, .power, .tide, .line, .e1s, .craft, .fresh, .clk, .pool, .sched, .snap]

theorem State.tideTaken_adds (nonce : BitVec 64) (f k : Nat) (s : State) :
    Adds tideTakenParts s (s.tideTaken nonce f k) := (State.putTide_adds _ _ s).trans (State.setJoin_adds _ _)

theorem State.usersLoad_adds (old : Nat) (s : State) : Adds tideTakenParts s (s.usersLoad old) :=
  (((State.alarmsStep_adds _ s).trans (State.gatesStep_adds _)).trans (State.wheelStep_adds _)).trans
    (State.pulseLoad_adds _)

/-- Tide but for its alarms and its pulse. -/
def Tide.besideUsers (t : Tide) : Tide := { t with alarms := [], pulse := {} }

theorem Tide.besideUsers_of_pulse {t u : Tide} (h : t.besidePulse = u.besidePulse) : t.besideUsers = u.besideUsers :=
  (congrArg Tide.besideUsers h :)

theorem Tide.besideUsers_of_alarms {t u : Tide} (h : t.besideAlarms = u.besideAlarms) : t.besideUsers = u.besideUsers :=
  (congrArg Tide.besideUsers h :)

theorem State.usersLoad_besideUsers (old : Nat) (s : State) : (s.usersLoad old).tide.besideUsers = s.tide.besideUsers := by
  rw [State.usersLoad, Tide.besideUsers_of_pulse (State.pulseLoad_besidePulse _),
    (State.wheelStep_adds (C := [.pool]) _).within.tide rfl, (State.gatesStep_adds (C := gateParts) _).within.tide rfl,
    Tide.besideUsers_of_alarms (State.alarmsStep_besideAlarms _ _)]

theorem State.usersLoad_joinState (old : Nat) (s : State) : (s.usersLoad old).joinState = s.joinState := by
  have hLoad (u : State) : u.pulseLoad.joinState = u.joinState :=
    congrArg Ring.join ((State.pulseLoad_adds (C := [.tide]) u).within.ring rfl)
  have hWheel (u : State) : u.wheelStep.joinState = u.joinState := congrArg Ring.join u.wheelStep_ring
  rw [State.usersLoad, hLoad, hWheel, State.gatesStep_join, State.alarmsStep_join]

theorem State.tideTaken_join (nonce : BitVec 64) (f k : Nat) (s : State) :
    (s.tideTaken nonce f k).joinState.step = 6 ∧ (s.tideTaken nonce f k).joinState.mgrNonce = nonce := ⟨rfl, rfl⟩

theorem State.tideTaken_tide (nonce : BitVec 64) (f k : Nat) (s : State) :
    (s.tideTaken nonce f k).tide = (s.putTide f k).tide := by
  rw [State.tideTaken, (State.setJoin_adds (C := [.ring]) _ _).within.tide rfl]

/-- A worker that has taken Tide: its word, its step of the join and the manager's nonce. -/
theorem State.taken_holds (nonce : BitVec 64) (f k old : Nat) (s : State) :
    ((s.tideTaken nonce f k).usersLoad old).joinState.step = 6
    ∧ ((s.tideTaken nonce f k).usersLoad old).joinState.mgrNonce = nonce
    ∧ ((s.tideTaken nonce f k).usersLoad old).tide.frame = f % frameWrap
    ∧ ((s.tideTaken nonce f k).usersLoad old).tide.tick = k % frameTicks := by
  obtain ⟨hFrame, hTick⟩ := s.putTide_word f k
  obtain ⟨hStep, hNonce⟩ := s.tideTaken_join nonce f k
  have hUsers := State.usersLoad_besideUsers old (s.tideTaken nonce f k)
  rw [State.tideTaken_tide] at hUsers
  rw [State.usersLoad_joinState]
  generalize ((s.tideTaken nonce f k).usersLoad old).tide = x at *
  generalize (s.putTide f k).tide = y at *
  exact ⟨hStep, hNonce, (congrArg Tide.frame hUsers :).trans hFrame, (congrArg Tide.tick hUsers :).trans hTick⟩

theorem tideSync_joins {nonce : BitVec 64} (frame : Nat) {c : Fin 4} {a : Lane} (h : s.isManager = false)
    (hJoined : s.ring.join.joined = false) (hStep : s.ring.join.step = 5) (hRanged : s.tide.ranged = true) :
    completesWith (.tideSync nonce frame c a) s (fun t =>
      t.ring.join.step = 6 ∧ t.ring.join.mgrNonce = nonce ∧ t.tide.anchor = a.val ∧ t.tide.state.code = c.val
      ∧ t.tide.frame = (frame + s.tide.timingOffset / frameTicks) % frameWrap
      ∧ t.tide.tick = s.tide.timingOffset % frameTicks
      ∧ t = { s.passing t with fresh := t.fresh, clk := t.clk, pool := t.pool, sched := t.sched, snap := t.snap }) := by
  have hExec := exec_tideSync_joins (nonce := nonce) (c := c) (a := a) frame h hJoined hStep hRanged
  rw [State.takeTide_eq] at hExec
  refine ⟨_, hExec, ?_⟩
  generalize frame + s.tide.timingOffset / frameTicks = f
  generalize s.tide.timingOffset = k
  generalize s.tide.ticks = old
  obtain ⟨hSix, hNonce, hFrame, hTick⟩ := s.taken_holds nonce f k old
  have hTaken := (s.tideTaken_adds nonce f k).trans (State.usersLoad_adds old _)
  clear hExec
  generalize (s.tideTaken nonce f k).usersLoad old = u at *
  by_cases hSame : c.val = u.tide.state.code
  · rw [State.mirror_same a.val hSame]
    exact ⟨hSix, hNonce, rfl, hSame.symm, hFrame, hTick, (hTaken.trans (State.anchorAt_adds _ u)).within.eq_merge⟩
  · have m := State.mirror_mirrored c a.val hSame
    have hJoin : (u.mirror c.val a.val).ring.join = u.ring.join := m.join
    rw [hJoin]
    exact ⟨hSix, hNonce, m.anchor, m.state, m.frame.trans hFrame, m.tick.trans hTick,
      ((hTaken.trans (State.anchorAt_adds _ u)).trans (m.adds.mono (C := tideTakenParts) rfl)).within.eq_merge⟩

/-- Settles O14: ranging side by side, TIDE_SYNC for the manager, the joined worker and the joining one. -/
theorem rangingAndTideSync : Obligations.RangingAndTideSync := by
  unfold Obligations.RangingAndTideSync
  exact ⟨fun s n => ⟨tsReq_manager 0, tsReq_manager 1, tsReq_worker_east, tsReq_worker_west, workerRemeasure_agrees,
      workerRemeasure_fails, workerRemeasure_worker, rangingReplyTimeout_completes, rangingRetry_completes⟩,
    fun s nonce frame c a => ⟨tideSync_manager nonce frame c a, exec_tideSync_same frame, tideSync_mirrors frame,
      exec_tideSync_reset frame, tideSync_joins frame, exec_tideSync_idle frame⟩⟩

end Sys2Proof.Machine
end

section
/-!
# The states of Tide

How a manager enters ANCHORED, HOLDOVER and SLEWING, decides on a step and takes it, and moves its anchor lane.
-/
namespace Sys2Proof.Machine

-- One theorem after another: the stacks of many that wait at once would exceed the memory of the check.
set_option Elab.async false

variable {s t : State} {C : List Part}

/-! ### The users of Tide (Table TD-3) -/

theorem State.syncAll_tide (s : State) : s.syncAll.tide = s.tide := (State.syncAll_adds (C := [.ring]) s).within.tide rfl
theorem State.syncAll_clk (s : State) : s.syncAll.clk = s.clk := (State.syncAll_adds (C := [.ring]) s).within.clk rfl

/-- What a step of Tide does to its users touches. -/
def stepParts : List Part := [.evt, .host, .ring, .log, .cnt, .out, .tide, .e1s, .fresh, .pool, .sched, .snap]

theorem State.usersLoad_step (old : Nat) (s : State) (hC : Covers stepParts C := by rfl) : Adds C s (s.usersLoad old) :=
  Adds.mono (D := stepParts) ((((State.alarmsStep_adds _ s).trans (State.gatesStep_adds _)).trans
    (State.wheelStep_adds _)).trans (State.pulseLoad_adds _)) hC

theorem State.reanchor_adds (old : Nat) (s : State) (hC : Covers stepParts C := by rfl) : Adds C s (s.reanchor old) :=
  Adds.mono (D := stepParts) ((((((State.alarmsStep_adds old s).trans (State.gatesStep_adds _)).trans
    (State.wheelStep_adds _)).trans (State.e1Step_adds _)).trans (State.pulseStep_adds _ _)).trans
    (State.syncAll_adds _)) hC

theorem State.reanchor_besideUsers (old : Nat) (s : State) : (s.reanchor old).tide.besideUsers = s.tide.besideUsers := by
  rw [State.reanchor, State.syncAll_tide, Tide.besideUsers_of_pulse (State.pulseStep_besidePulse _ _),
    (State.e1Step_adds (C := e1StepParts) _).within.tide rfl, (State.wheelStep_adds (C := [.pool]) _).within.tide rfl,
    (State.gatesStep_adds (C := gateParts) _).within.tide rfl,
    Tide.besideUsers_of_alarms (State.alarmsStep_besideAlarms _ _)]

/-! ### ANCHORED at the first load (R32, R76) -/

/-- What may change beside what the passage of time does when Tide is loaded or steps. -/
def loadParts : List Part :=
  [.evt, .host, .ring, .log, .cnt, .out, .now, .bnd, .power, .tide, .line, .e1s, .craft, .fresh, .clk, .pool, .sched, .snap]

theorem Within.load (h : Within loadParts s t) : t = { s.passing t with
    fresh := t.fresh, clk := t.clk, pool := t.pool, sched := t.sched, snap := t.snap } := h.eq_merge

/-- Tide after its first load. -/
def State.loaded (count : Nat) (s : State) : State :=
  (((s.putTide count 0).enterAnchored).usersLoad s.tide.ticks).syncAll

theorem exec_tideAnchored (count : Nat) (h : s.isManager = true) (hState : s.tide.state = .unanchored) :
    exec (.tideAnchored count) s = .next (s.loaded count) := congrArg Host.Outcome.next (if_neg (by simp [h, hState]))

theorem State.loaded_adds (count : Nat) (s : State) : Adds loadParts s (s.loaded count) :=
  (((State.putTide_adds count 0 s).trans (State.enterAnchored_adds _)).trans (State.usersLoad_step _ _)).trans
    (State.syncAll_adds _)

theorem State.loaded_clk (count : Nat) (s : State) : (s.loaded count).clk = (s.putTide count 0).anchorRoot.clk := by
  rw [State.loaded, State.syncAll_clk, (State.usersLoad_step (C := stepParts) _ _).within.clk rfl, State.enterAnchored_clk]

theorem State.loaded_besideUsers (count : Nat) (s : State) :
    (s.loaded count).tide.besideUsers = (s.putTide count 0).tide.anchored.besideUsers := by
  rw [State.loaded, State.syncAll_tide, State.usersLoad_besideUsers, State.enterAnchored_tide]

theorem State.loaded_pends (count : Nat) (s : State) : (s.loaded count).pends 32 :=
  ((State.usersLoad_step (C := stepParts) _ _).trans (State.syncAll_adds _)).pending 32
    (s.putTide count 0).enterAnchored_pends

theorem tideAnchored_completes (count : Nat) (h : s.isManager = true) (hState : s.tide.state = .unanchored) :
    completesWith (.tideAnchored count) s (fun t =>
      t.tide.state = .anchored ∧ t.tide.frame = count % 2 ^ 44 ∧ t.tide.tick = 0 ∧ t.tide.stepCnt = s.tide.stepCnt
      ∧ t.clk.steered = true ∧ t.clk.refSrc = s.clk.refFailed ∧ t.pends 32
      ∧ (s.clk.refFailed = false ∨ s.clk.refSrc = true →
          t.clk = { s.clk with steered := true, refSrc := s.clk.refFailed })
      ∧ t = { s.passing t with fresh := t.fresh, clk := t.clk, pool := t.pool, sched := t.sched, snap := t.snap }) := by
  have hUsers := s.loaded_besideUsers count
  have hClk := s.loaded_clk count
  have hPut : (s.putTide count 0).clk = s.clk := (State.putTide_adds (C := passParts) count 0 s).within.clk rfl
  obtain ⟨hSteered, hSrc, hStays⟩ := (s.putTide count 0).anchorRoot_clk
  rw [hPut] at hSrc hStays
  rw [← hClk] at hSteered hSrc hStays
  obtain ⟨hFrame, hTick⟩ := s.putTide_word count 0
  have hSteady := s.putTide_steady count 0
  refine ⟨_, exec_tideAnchored count h hState, ?_⟩
  have hPends := s.loaded_pends count
  have hAdds := (s.loaded_adds count).within.load
  clear hClk hPut
  generalize s.loaded count = u at *
  generalize (s.putTide count 0).tide = x at *
  exact ⟨(congrArg Tide.state hUsers :), (congrArg Tide.frame hUsers :).trans hFrame,
    (congrArg Tide.tick hUsers :).trans hTick, (congrArg Tide.stepCnt hUsers :).trans (congrArg Tide.stepCnt hSteady :),
    hSteered, hSrc, hPends, hStays, hAdds⟩

/-! ### HOLDOVER and its end (R34, R36, R41, R73, R969) -/

theorem exec_tideHoldover (hUn : s.tide.state ≠ .unanchored) (hHeld : s.tide.state ≠ .holdover)
    (hManager : s.isManager = true → s.eligibleLanes s.tide.anchor = [])
    (hWorker : s.isManager = false → s.timingLost = true) : exec .tideHoldover s = .next s.enterHoldover := by
  refine congrArg Host.Outcome.next ((if_neg (by simp [hUn, hHeld])).trans ?_)
  cases h : s.isManager
  · exact (if_neg (by simp)).trans (if_neg (by simp [hWorker h]))
  · exact (if_neg (by simp [hManager h])).trans (if_neg (by simp))

theorem State.enterHoldover_clk (s : State) : s.enterHoldover.clk = { s.clk with steered := false } := by
  rw [State.enterHoldover_eq, State.pulseHold_clk, State.raise_clk]
  rfl

theorem Tide.ticks_of_word {t u : Tide} (hFrame : t.frame = u.frame) (hTick : t.tick = u.tick) : t.ticks = u.ticks := by
  unfold Tide.ticks
  rw [hFrame, hTick]

theorem tideHoldover_completes (hUn : s.tide.state ≠ .unanchored) (hHeld : s.tide.state ≠ .holdover)
    (hManager : s.isManager = true → s.eligibleLanes s.tide.anchor = [])
    (hWorker : s.isManager = false → s.timingLost = true) : completesWith .tideHoldover s (fun t =>
      t.tide.state = .holdover ∧ t.tide.holdAcc = 0 ∧ t.tide.holdRun = some s.now ∧ t.tide.deciding = false
      ∧ t.tide.stepAt = none ∧ t.tide.ticks = s.tide.ticks ∧ t.clk = { s.clk with steered := false } ∧ t.pends 33
      ∧ t = { s.reporting t with clk := t.clk, tide := t.tide }) := by
  have hPulse := s.enterHoldover_besidePulse
  have m := s.enterHoldover_mirrored
  exact ⟨_, exec_tideHoldover hUn hHeld hManager hWorker, s.enterHoldover_state, (congrArg Tide.holdAcc hPulse :),
    (congrArg Tide.holdRun hPulse :), (congrArg Tide.deciding hPulse :), (congrArg Tide.stepAt hPulse :),
    Tide.ticks_of_word m.frame m.tick, s.enterHoldover_clk, m.holdover rfl,
    (s.enterHoldover_adds (C := holdParts)).within.eq_merge⟩

theorem tideSlewDone_completes (h : s.tide.state = .slewing) : completesWith .tideSlewDone s (fun t =>
    t.tide.state = .anchored ∧ t.tide.error = 0 ∧ t.tide.ticks = s.tide.ticks ∧ t.pends 32
    ∧ t = { s.reporting t with fresh := t.fresh, clk := t.clk, tide := t.tide, line := t.line }) := by
  have m := s.enterAnchored_mirrored
  refine ⟨_, congrArg Host.Outcome.next (if_pos h), ?_, m.error (by decide), Tide.ticks_of_word m.frame m.tick,
    m.anchored rfl, m.adds.within.eq_merge⟩
  rw [State.enterAnchored_tide]
  rfl

theorem tideAbandonPending_completes (hDeciding : s.tide.deciding = true) (hState : s.tide.state = .holdover) :
    completesWith .tideAbandonPending s (fun t =>
      t.tide = { s.tide with deciding := false, stepAt := none, holdRun := some s.now }
      ∧ t.clk = { s.clk with steered := false } ∧ t = { s with tide := t.tide, clk := t.clk }) :=
  ⟨_, congrArg Host.Outcome.next ((if_neg (by simp [hDeciding])).trans (if_pos hState)), rfl, rfl, rfl⟩

theorem tideHoldLimit_completes (hState : s.tide.state = .holdover) (hRaised : s.tide.limitRaised = false) :
    completesWith .tideHoldLimit s (fun t =>
      t.tide = { s.tide with limitRaised := true } ∧ t.pends 37 ∧ t = { s.reporting t with tide := t.tide }) := by
  have hNoted : Adds (.tide :: reportParts) s { s with tide := { s.tide with limitRaised := true } } := adds_of_eq rfl rfl
  have hTold := hNoted.trans (State.raise_adds (C := .tide :: reportParts) 37 0 0 _)
  exact ⟨_, congrArg Host.Outcome.next (if_pos (by simp [hState, hRaised])), rfl, State.raise_pends _ _ _ _,
    hTold.within.eq_merge⟩

/-! ### The anchor lane (R44, R45) -/

theorem State.moveAnchor_holds (l : Nat) (s : State) :
    (s.moveAnchor l).tide.anchor = l ∧ (s.moveAnchor l).tide.deciding = true ∧ (s.moveAnchor l).tide.stepAt = none
    ∧ (s.moveAnchor l).tide.ticks = s.tide.ticks ∧ (s.moveAnchor l).pends 36
    ∧ s.moveAnchor l = { s.reporting (s.moveAnchor l) with clk := (s.moveAnchor l).clk, tide := (s.moveAnchor l).tide } := by
  have hMoved : Adds [.tide, .clk] s
      { s with tide := { s.tide with anchor := l, deciding := true, stepAt := none }.holdStop s.now
               clk := { s.clk with steered := true } } := adds_of_eq rfl rfl
  have hTold : Adds holdParts s (s.moveAnchor l) := (hMoved.mono (C := holdParts) rfl).trans (State.raise_adds _ _ _ _)
  exact ⟨rfl, rfl, rfl, rfl, State.raise_pends _ _ _ _, hTold.within.eq_merge⟩

theorem tideAnchorMove_completes {l : Nat} {rest : List Nat} (hState : s.tide.state ≠ .unanchored)
    (hLanes : s.eligibleLanes s.tide.anchor = l :: rest) : completesWith .tideAnchorMove s (fun t =>
      t.tide.anchor = l ∧ t.tide.deciding = true ∧ t.tide.stepAt = none ∧ t.tide.ticks = s.tide.ticks ∧ t.pends 36
      ∧ t = { s.reporting t with clk := t.clk, tide := t.tide }) := by
  refine ⟨_, ?_, s.moveAnchor_holds l⟩
  change execTideAnchorMove s = _
  unfold execTideAnchorMove
  rw [if_neg hState, hLanes]

theorem tideAnchorReturn_completes (hState : s.tide.state ≠ .unanchored) (hAnchor : s.tide.anchor ≠ 0)
    (hLane : s.laneUp 0 = true) : completesWith .tideAnchorReturn s (fun t =>
      t.tide.anchor = 0 ∧ t.tide.deciding = true ∧ t.tide.ticks = s.tide.ticks ∧ t.pends 36
      ∧ t = { s.reporting t with clk := t.clk, tide := t.tide }) := by
  obtain ⟨hZero, hDeciding, _, hRest⟩ := s.moveAnchor_holds 0
  exact ⟨_, congrArg Host.Outcome.next (if_neg (by simp [hState, hAnchor, hLane])), hZero, hDeciding, hRest⟩

/-! ### The decision on a re-acquired lane (R35, R36, R39) -/

theorem Line.stepAt_least (l : Line) (pos : Nat) (e : Int) :
    ∃ n : Nat, l.stepAt pos e = (n % 2 ^ 44, ((n * 777600 : Nat) - e).toNat)
      ∧ pos + 4 * 777600 ≤ n * 777600 ∧ (l.lastEnd : Int) + e ≤ (n * 777600 : Nat)
      ∧ ∀ m : Nat, pos + 4 * 777600 ≤ m * 777600 → (l.lastEnd : Int) + e ≤ (m * 777600 : Nat) → n ≤ m := by
  refine ⟨max (ceilDiv (pos + 4 * frameTicks) frameTicks) (ceilDiv ((l.lastEnd : Int) + e).toNat frameTicks), rfl, ?_⟩
  generalize l.lastEnd = last
  simp only [ceilDiv, frameTicks]
  refine ⟨by omega, by omega, fun m hFirst hFree => by omega⟩

/-- The step announced to workers. -/
def State.announce (l : List Nat) (x : Nat × Nat) (s : State) : State :=
  l.foldl (fun t k => t.dcc k (.stepAnnounce x.2 x.1)) s

theorem State.announce_adds (l : List Nat) (x : Nat × Nat) (s : State) : Adds [.ring] s (s.announce l x) := by
  refine .foldl (fun t k => ?_) l s
  have hTold : Adds [.ring] t (t.dcc k (.stepAnnounce x.2 x.1)) := adds_of_eq rfl rfl
  exact hTold

/-- SLEWING with error `e`, and a step decided on. -/
def State.slews (e : Int) (s : State) : State :=
  ({ s with clk := { s.clk with steered := true }
            tide := { s.tide with state := .slewing, deciding := false, error := e, errAt := s.now }.holdClear }).raise 34 0 0

def State.decided (x : Nat × Nat) (s : State) : State :=
  { s with clk := { s.clk with steered := true }
           tide := { s.tide with deciding := false, stepAt := some x }.holdStop s.now }

theorem exec_tideReacquireDecision (frame tick : Nat) (h : s.isManager = true) (hDeciding : s.tide.deciding = true)
    (hNone : s.tide.stepAt = none) : exec (.tideReacquireDecision frame tick) s = .next (
      let e := tideError (spanTicks frame tick) s.tide.ticks
      if e.natAbs ≤ 777600 then s.slews e
      else (s.decided (s.line.stepAt (spanTicks frame tick) e)).announce s.joinedNodes
        (s.line.stepAt (spanTicks frame tick) e)) :=
  congrArg Host.Outcome.next (if_neg (by simp [h, hDeciding, hNone]))

theorem State.slews_adds (e : Int) (s : State) : Adds holdParts s (s.slews e) := by
  have hSet : Adds holdParts s { s with
      clk := { s.clk with steered := true }
      tide := { s.tide with state := .slewing, deciding := false, error := e, errAt := s.now }.holdClear } :=
    adds_of_eq rfl rfl
  exact hSet.trans (State.raise_adds _ _ _ _)

theorem State.decided_adds (x : Nat × Nat) (s : State) : Adds holdParts s (s.decided x) := adds_of_eq rfl rfl

theorem tideReacquireDecision_completes (frame tick : Nat) (h : s.isManager = true) (hDeciding : s.tide.deciding = true)
    (hNone : s.tide.stepAt = none) : completesWith (.tideReacquireDecision frame tick) s (fun t =>
      (let e := tideError (spanTicks frame tick) s.tide.ticks
       if e.natAbs ≤ 777600 then t.tide.state = .slewing ∧ t.tide.error = e ∧ t.tide.errAt = s.now ∧ t.pends 34
       else t.tide.state = s.tide.state ∧ ∃ n : Nat, t.tide.stepAt = some (n % 2 ^ 44, ((n * 777600 : Nat) - e).toNat)
         ∧ spanTicks frame tick + 4 * 777600 ≤ n * 777600 ∧ (s.line.lastEnd : Int) + e ≤ (n * 777600 : Nat)
         ∧ ∀ m : Nat, spanTicks frame tick + 4 * 777600 ≤ m * 777600 → (s.line.lastEnd : Int) + e ≤ (m * 777600 : Nat) →
           n ≤ m)
      ∧ t.tide.deciding = false ∧ t.tide.ticks = s.tide.ticks ∧ t.clk = { s.clk with steered := true }
      ∧ t = { s.reporting t with clk := t.clk, tide := t.tide }) := by
  have hExec := exec_tideReacquireDecision frame tick h hDeciding hNone
  dsimp only at hExec ⊢
  generalize tideError (spanTicks frame tick) s.tide.ticks = e at *
  generalize spanTicks frame tick = pos at *
  by_cases hSlew : e.natAbs ≤ 777600
  · rw [if_pos hSlew] at hExec
    refine ⟨_, hExec, ?_⟩
    beta_reduce
    rw [if_pos hSlew]
    exact ⟨⟨rfl, rfl, rfl, State.raise_pends _ _ _ _⟩, rfl, rfl, rfl, (s.slews_adds e).within.eq_merge⟩
  · rw [if_neg hSlew] at hExec
    obtain ⟨n, hAt, hFirst, hFree, hLeast⟩ := s.line.stepAt_least pos e
    rw [hAt] at hExec
    refine ⟨_, hExec, ?_⟩
    beta_reduce
    rw [if_neg hSlew]
    have hTold := (s.decided (n % 2 ^ 44, ((n * 777600 : Nat) - e).toNat)).announce_adds s.joinedNodes
      (n % 2 ^ 44, ((n * 777600 : Nat) - e).toNat)
    have hAll := ((s.decided_adds _).trans (hTold.mono (C := holdParts) rfl)).within
    have hTide := hTold.within.tide rfl
    exact ⟨⟨(congrArg Tide.state hTide :), n, (congrArg Tide.stepAt hTide :), hFirst, hFree, hLeast⟩,
      (congrArg Tide.deciding hTide :), (congrArg Tide.ticks hTide :), hTold.within.clk rfl, hAll.eq_merge⟩

/-! ### The step (R39, R40, R52) -/

/-- Tide after a step, before its users follow. -/
def Tide.stepped (t : Tide) : Tide :=
  { t with state := .anchored, stepAt := none, announced := none, error := 0, corr := 0
           stepCnt := (t.stepCnt + 1) % 16 }.holdClear

/-- The step told, with ANCHORED where it ends HOLDOVER. -/
def State.stepTold (held : Bool) (s : State) : State :=
  let s3 := (s.anchorRoot.setTide Tide.stepped).raise 35 0 0
  if held then s3.raise 32 0 0 else s3

theorem State.applyStep_eq (count tick : Nat) (s : State) : s.applyStep count tick =
    ((s.putTide count tick).stepTold (decide (s.tide.state = .holdover))).reanchor s.tide.ticks := rfl

theorem State.stepTold_adds (held : Bool) (s : State) (hC : Covers anchorParts C := by rfl) :
    Adds C s (s.stepTold held) := by
  have hTold : Adds anchorParts s ((s.anchorRoot.setTide Tide.stepped).raise 35 0 0) :=
    ((State.anchorRoot_adds s).trans (State.setTide_adds _ _)).trans (State.raise_adds _ _ _ _)
  exact Adds.mono (D := anchorParts) (.ite (hTold.trans (State.raise_adds _ _ _ _)) hTold) hC

theorem State.stepTold_tide (held : Bool) (s : State) : (s.stepTold held).tide = s.tide.stepped := by
  have hTide : ((s.anchorRoot.setTide Tide.stepped).raise 35 0 0).tide = s.tide.stepped := by
    rw [State.raise_tide, State.setTide, State.anchorRoot_tide]
  unfold State.stepTold
  dsimp only
  split
  · rw [State.raise_tide, hTide]
  · exact hTide

theorem State.stepTold_pends (held : Bool) (s : State) : (s.stepTold held).pends 35 := by
  unfold State.stepTold
  dsimp only
  split
  · exact State.raise_pends_of _ _ _ _ _ (State.raise_pends _ _ _ _)
  · exact State.raise_pends _ _ _ _

theorem State.applyStep_adds (count tick : Nat) (s : State) : Adds loadParts s (s.applyStep count tick) := by
  rw [State.applyStep_eq]
  exact ((State.putTide_adds count tick s).trans (State.stepTold_adds _ _)).trans (State.reanchor_adds _ _)

theorem State.applyStep_besideUsers (count tick : Nat) (s : State) :
    (s.applyStep count tick).tide.besideUsers = (s.putTide count tick).tide.stepped.besideUsers := by
  rw [State.applyStep_eq, State.reanchor_besideUsers, State.stepTold_tide]

theorem State.applyStep_pends (count tick : Nat) (s : State) : (s.applyStep count tick).pends 35 := by
  rw [State.applyStep_eq]
  exact (State.reanchor_adds (C := stepParts) _ _).pending 35 (State.stepTold_pends _ _)

/-- What a step leaves of Tide, from its word and from what the passage of time leaves. -/
structure Stepped (count stepCnt : Nat) (t : Tide) : Prop where
  state : t.state = .anchored
  frame : t.frame = count % 2 ^ 44
  tick : t.tick = 0
  stepAt : t.stepAt = none
  announced : t.announced = none
  stepCnt : t.stepCnt = (stepCnt + 1) % 16

theorem stepped_of_besideUsers {count stepCnt : Nat} {t u : Tide} (hUsers : t.besideUsers = u.stepped.besideUsers)
    (hFrame : u.frame = count % 2 ^ 44) (hTick : u.tick = 0) (hCount : u.stepCnt = stepCnt) :
    Stepped count stepCnt t where
  state := (congrArg Tide.state hUsers :)
  frame := (congrArg Tide.frame hUsers :).trans hFrame
  tick := (congrArg Tide.tick hUsers :).trans hTick
  stepAt := (congrArg Tide.stepAt hUsers :)
  announced := (congrArg Tide.announced hUsers :)
  stepCnt := hCount ▸ (congrArg Tide.stepCnt hUsers :)

theorem Tide.stepCnt_of_steady {t u : Tide} (h : t.steady = u.steady) : t.stepCnt = u.stepCnt :=
  (congrArg Tide.stepCnt h :)

theorem State.applyStep_stepped (count : Nat) (s : State) :
    Stepped count s.tide.stepCnt (s.applyStep count 0).tide := by
  obtain ⟨hFrame, hTick⟩ := s.putTide_word count 0
  exact stepped_of_besideUsers (s.applyStep_besideUsers count 0) hFrame hTick
    (Tide.stepCnt_of_steady (s.putTide_steady count 0))

theorem State.stepAfter_stepped (x count : Nat) (s : State) :
    Stepped count s.tide.stepCnt ((s.until x).applyStep count 0).tide := by
  rw [← Tide.stepCnt_of_steady (s.until_steady x)]
  exact (s.until x).applyStep_stepped count

theorem State.stepAfter_within (x count : Nat) (s : State) : Within loadParts s ((s.until x).applyStep count 0) :=
  ((State.until_adds (C := loadParts) x s).trans ((s.until x).applyStep_adds count 0)).within

theorem exec_tideStep {count at_ : Nat} (h : s.isManager = true) (hAt : s.tide.stepAt = some (count, at_))
    (hNone : s.line.pending = []) : exec (.tideStep count) s = .next ((s.until at_).applyStep count 0) := by
  change execTideStep count s = _
  unfold execTideStep
  rw [hAt]
  exact congrArg Host.Outcome.next (if_pos (by simp [h, hNone]))

theorem exec_workerStepAnnounce {count at_ : Nat} (h : s.isManager = false)
    (hAt : s.tide.announced = some (count, at_)) :
    exec (.workerStepAnnounce count) s = .next ((s.until at_).applyStep count 0) := by
  change execWorkerStepAnnounce count s = _
  unfold execWorkerStepAnnounce
  rw [hAt]
  exact congrArg Host.Outcome.next (if_neg (by simp [h]))

theorem tideStep_completes {count at_ : Nat} (h : s.isManager = true) (hAt : s.tide.stepAt = some (count, at_))
    (hNone : s.line.pending = []) : completesWith (.tideStep count) s (fun t =>
      t.tide.state = .anchored ∧ t.tide.frame = count % 2 ^ 44 ∧ t.tide.tick = 0 ∧ t.tide.stepAt = none
      ∧ t.tide.stepCnt = (s.tide.stepCnt + 1) % 16 ∧ t.pends 35
      ∧ t = { s.passing t with fresh := t.fresh, clk := t.clk, pool := t.pool, sched := t.sched, snap := t.snap }) := by
  have m := s.stepAfter_stepped at_ count
  exact ⟨_, exec_tideStep h hAt hNone, m.state, m.frame, m.tick, m.stepAt, m.stepCnt, State.applyStep_pends _ _ _,
    (s.stepAfter_within at_ count).load⟩

theorem workerStepAnnounce_completes {count at_ : Nat} (h : s.isManager = false)
    (hAt : s.tide.announced = some (count, at_)) : completesWith (.workerStepAnnounce count) s (fun t =>
      t.tide.state = .anchored ∧ t.tide.frame = count % 2 ^ 44 ∧ t.tide.announced = none
      ∧ t.tide.tick = 0 ∧ t.tide.stepCnt = (s.tide.stepCnt + 1) % 16 ∧ t.pends 35
      ∧ t = { s.passing t with fresh := t.fresh, clk := t.clk, pool := t.pool, sched := t.sched, snap := t.snap }) := by
  have m := s.stepAfter_stepped at_ count
  exact ⟨_, exec_workerStepAnnounce h hAt, m.state, m.frame, m.announced, m.tick, m.stepCnt, State.applyStep_pends _ _ _,
    (s.stepAfter_within at_ count).load⟩

/-! ### Events in states in which they have nothing to do -/

theorem exec_tideAnchored_again (count : Nat) (h : s.tide.state ≠ .unanchored) :
    exec (.tideAnchored count) s = .next s := congrArg Host.Outcome.next (if_pos (by simp [h]))

theorem exec_tideSlewDone_otherwise (h : s.tide.state ≠ .slewing) : exec .tideSlewDone s = .next s :=
  congrArg Host.Outcome.next (if_neg h)

theorem exec_tideHoldLimit_otherwise (h : s.tide.state ≠ .holdover) : exec .tideHoldLimit s = .next s :=
  congrArg Host.Outcome.next (if_neg (by simp [h]))

theorem exec_tideStep_otherwise (count : Nat) (h : ∀ at_, s.tide.stepAt ≠ some (count, at_)) :
    exec (.tideStep count) s = .next s := by
  change execTideStep count s = _
  unfold execTideStep
  cases hAt : s.tide.stepAt with
  | none => rfl
  | some x =>
    have hNe : x.1 ≠ count := fun hEq => h x.2 (by rw [hAt, ← hEq])
    exact congrArg Host.Outcome.next (if_neg (by simp [hNe]))

theorem exec_workerStepAnnounce_otherwise (count : Nat) (h : ∀ at_, s.tide.announced ≠ some (count, at_)) :
    exec (.workerStepAnnounce count) s = .next s := by
  change execWorkerStepAnnounce count s = _
  unfold execWorkerStepAnnounce
  cases hAt : s.tide.announced with
  | none => rfl
  | some x =>
    have hNe : x.1 ≠ count := fun hEq => h x.2 (by rw [hAt, ← hEq])
    exact congrArg Host.Outcome.next (if_pos (by simp [hNe]))

theorem exec_tideAnchorReturn_zero (h : s.tide.anchor = 0) : exec .tideAnchorReturn s = .next s :=
  congrArg Host.Outcome.next (if_pos (by simp [h]))

/-- Settles O11, event by event. -/
theorem tideStateCommands : Obligations.TideStateCommands := by
  unfold Obligations.TideStateCommands
  exact ⟨fun s => ⟨tideAnchored_completes, tideHoldover_completes, tideReacquireDecision_completes,
      tideSlewDone_completes, fun count at_ => tideStep_completes, fun count at_ => workerStepAnnounce_completes,
      tideAbandonPending_completes, fun l rest => tideAnchorMove_completes, tideAnchorReturn_completes,
      tideHoldLimit_completes⟩,
    fun s => ⟨exec_tideAnchored_again, exec_tideSlewDone_otherwise, exec_tideHoldLimit_otherwise,
      exec_tideStep_otherwise, exec_workerStepAnnounce_otherwise, exec_tideAnchorReturn_zero⟩⟩

end Sys2Proof.Machine
end

section
/-!
# Caravans: what fits, what adds up, what is staged

The arithmetic of fragments; a caravan that is filled never gains space, so its words add up; staging stops at the
limit.
-/
namespace Sys2Proof.Machine

-- One theorem after another: the stacks of many that wait at once would exceed the memory of the check.
set_option Elab.async false

variable {C : List Part}

/-! ### Fragments (R199, R200, R250) -/

theorem fitBytes_fits (grp : Bool) (left space : Nat) (h : 0 < left) :
    fitBytes grp left space ≤ left
    ∧ (fitBytes grp left space ≠ 0 → xgemWords grp (fitBytes grp left space) ≤ space)
    ∧ (fitBytes grp left space ≠ 0 → fitBytes grp left space < left → minSpace grp ≤ space)
    ∧ (fitBytes grp left space ≠ 0 → minSpace grp ≤ space → xgemWords grp (fitBytes grp left space) + 1 ≠ space) := by
  have hMin : hdrWords grp < minSpace grp := by cases grp <;> decide
  unfold fitBytes xgemWords ceilDiv
  dsimp only
  generalize hdrWords grp = hdr at *
  generalize minSpace grp = least at *
  split
  · split
    · split
      · omega
      · omega
    · omega
  · split
    · omega
    · omega

/-! ### Filling a caravan -/

/-- What waits for launch. -/
def State.launches (s : State) : List Caravan := s.line.pending

/-- From `f` to `g` filling has gone on: nothing is added to what waits for launch, and no space is gained. -/
structure Filled (f g : Fill) : Prop where
  pending : g.st.launches = f.st.launches
  space : g.space ≤ f.space

theorem Filled.refl (f : Fill) : Filled f f := ⟨rfl, le_refl _⟩

theorem Filled.trans {f g k : Fill} (a : Filled f g) (b : Filled g k) : Filled f k :=
  ⟨b.pending.trans a.pending, b.space.trans a.space⟩

theorem Adds.launches {s t : State} (h : Adds C s t) (hC : C.contains .line = false := by rfl) :
    t.launches = s.launches := congrArg Line.pending (h.within.line hC)

theorem State.dropOver_adds (q : Nat) (l : List Packet) (s : State) (hC : Covers poolParts C := by rfl) :
    Adds C s (State.dropOver q l s) := by
  induction l generalizing s with
  | nil => exact .refl _ s
  | cons p l ih =>
    exact .ite ((((State.modQueue_adds _ _ s).trans (State.freePacket_adds _ _ _)).trans
      (State.queueDrop_adds _ _ _) |>.mono hC).trans (ih _)) (.refl _ s)

theorem State.dropOvers_adds (a : Nat) (s : State) (hC : Covers poolParts C := by rfl) : Adds C s (s.dropOvers a) :=
  .foldl (fun t q => State.dropOver_adds q _ t hC) _ s

theorem State.takeSeq_launches (g : Option Nat) (s : State) : (s.takeSeq g).2.launches = s.launches := by
  unfold State.takeSeq
  split
  · rfl
  · exact (State.count_adds (C := reportParts) _ _ _).launches

theorem Fill.bind_filled (grp : Option Nat) (k : Bind) (n : Nat) (p : Packet) (f : Fill) : Filled f (f.bind grp k n p) :=
  ⟨State.takeSeq_launches grp _, Nat.sub_le _ _⟩

theorem Fill.keepRest_filled (a : Nat) (k : Bind) (n : Nat) (p : Packet) (f : Fill) :
    Filled f (f.keepRest a k n p) := by
  unfold Fill.keepRest
  split
  · exact ⟨rfl, le_refl _⟩
  · exact ⟨rfl, le_refl _⟩

theorem Fill.stop_filled (f : Fill) : Filled f { f with stop := true } := ⟨rfl, le_refl _⟩

theorem Fill.rest_filled (a : Nat) (grp : Option Nat) (f : Fill) : Filled f (f.rest a grp) := by
  unfold Fill.rest
  split
  · exact .refl f
  · dsimp only
    split
    · exact f.stop_filled
    · exact (Fill.bind_filled _ _ _ _ f).trans (Fill.keepRest_filled _ _ _ _ _)

/-- A fill whose device has moved, without a change of what waits for launch. -/
theorem Fill.st_filled (f : Fill) {s : State} (h : s.launches = f.st.launches) : Filled f { f with st := s } :=
  ⟨h, le_refl _⟩

theorem Fill.number_filled (p : Packet) (f : Fill) : Filled f (f.number p).2 := ⟨rfl, le_refl _⟩

theorem State.keyDrop_launches (l q : Nat) (p : Packet) (s : State) : (s.keyDrop l q p).launches = s.launches :=
  (((State.freePacket_adds (C := poolParts) q p s).trans (State.inc_adds _ _)).trans
    (State.raiseWin_adds _ _ _ _ _ _)).launches

theorem State.chargeDrr_adds (a ptr : Nat) (deltas : List (Nat × Int)) (s : State)
    (hC : Covers [.pool, .sched] C := by rfl) : Adds C s (s.chargeDrr a ptr deltas) := by
  have hCharged : Adds [.pool, .sched] s
      (deltas.foldl (fun t d => t.modQueue d.1 (fun x => { x with deficit := x.deficit + d.2 })) s) :=
    .foldl (fun t d => State.modQueue_adds _ _ t) _ s
  exact Adds.mono (D := [.pool, .sched]) (hCharged.trans (adds_of_eq rfl rfl)) hC

theorem State.chargeDrr_launches (a ptr : Nat) (deltas : List (Nat × Int)) (s : State) :
    (s.chargeDrr a ptr deltas).launches = s.launches := (State.chargeDrr_adds (C := [.pool, .sched]) a ptr deltas s).launches

theorem Fill.keyDrop_filled (l q : Nat) (p : Packet) {f : Fill} {s : State} (h : s.launches = f.st.launches) :
    Filled f { f with st := s.keyDrop l q p } := f.st_filled ((State.keyDrop_launches l q p s).trans h)

theorem State.popHead_launches (q : Nat) (s : State) : (s.popHead q).launches = s.launches := rfl

/-- One packet is bound under a number: its DRR changes are charged, its bytes bound, its remainder kept. -/
theorem Fill.bound_filled (a : Nat) (grp : Option Nat) (k : Bind) (n ptr : Nat) (deltas : List (Nat × Int)) (p : Packet)
    {f : Fill} {s : State} (h : s.launches = f.st.launches) :
    Filled f (((Fill.number p { f with st := s.chargeDrr a ptr deltas }).2.bind grp k n
      (Fill.number p { f with st := s.chargeDrr a ptr deltas }).1).keepRest a k n
      (Fill.number p { f with st := s.chargeDrr a ptr deltas }).1) :=
  (((f.st_filled ((State.chargeDrr_launches a ptr deltas s).trans h)).trans (Fill.number_filled p _)).trans
    (Fill.bind_filled _ _ _ _ _)).trans (Fill.keepRest_filled _ _ _ _ _)

theorem Fill.staged_filled (a l : Nat) (grp : Option Nat) (xs : List Staged) (f : Fill) :
    Filled f (f.staged a l grp xs) := by
  induction xs generalizing f with
  | nil => exact .refl f
  | cons x xs ih =>
    simp only [Fill.staged]
    split
    · exact f.stop_filled
    · split
      · refine (Fill.keyDrop_filled l x.queue x.packet ?_).trans (ih _)
        rfl
      · refine (Fill.bound_filled a grp _ _ _ _ _ ?_).trans (ih _)
        rfl

theorem Fill.closed_filled (f : Fill) {s : State} (h : s.launches = f.st.launches) :
    Filled f { f with st := s, stop := true } := ⟨h, le_refl _⟩

theorem State.dropOvers_launches (a : Nat) (s : State) : (s.dropOvers a).launches = s.launches :=
  (State.dropOvers_adds (C := poolParts) a s).launches

theorem Fill.sched_filled (a l : Nat) (grp : Option Nat) (fuel : Nat) (f : Fill) : Filled f (f.sched a l grp fuel) := by
  induction fuel generalizing f with
  | zero => exact .refl f
  | succ fuel ih =>
    have hDropped := State.dropOvers_launches a f.st
    have hStop : Filled f { f with st := f.st.dropOvers a, stop := true } := f.closed_filled hDropped
    have hHead (q : Nat) : ((f.st.dropOvers a).popHead q).launches = f.st.launches :=
      (State.popHead_launches q _).trans hDropped
    simp only [Fill.sched]
    split
    · exact .refl f
    · split
      · exact hStop
      · split
        · exact hStop
        · split
          · exact hStop
          · split
            · exact (Fill.keyDrop_filled l _ _ (hHead _)).trans (ih _)
            · exact (Fill.bound_filled a grp _ _ _ _ _ (hHead _)).trans (ih _)

theorem State.unstage_launches (a : Nat) (l : List Staged) (s : State) : (s.unstage a l).launches = s.launches := by
  rw [State.unstage_eq]
  refine State.foldr_same State.launches (fun x t => ?_) l (s.raWindow a)
  rw [State.unstageOne, (State.count_adds (C := reportParts) _ _ _).launches]
  rfl

theorem State.rewindRaw_launches (a : Nat) (gone : Staged → Bool) (s : State) :
    (s.rewindRaw a gone).launches = s.launches := State.unstage_launches a _ _

theorem Fill.index_filled (a l : Nat) (f : Fill) : Filled f (f.index a l) := by
  unfold Fill.index
  dsimp only
  split
  · exact f.st_filled (State.rewindRaw_launches _ _ _)
  · generalize (f.st.groupAt a).map (·.1) = grp
    have hStaged := (Fill.rest_filled a grp f).trans (Fill.staged_filled a l grp (((f.rest a grp).st.alloc a).staged) _)
    exact (hStaged.trans (Fill.sched_filled a l grp _ _)).trans (Fill.st_filled _ (State.rewindRaw_launches _ _ _))

theorem Fill.bindOmci_filled (l n : Nat) (p : Packet) (f : Fill) : Filled f (f.bindOmci l n p) :=
  ⟨rfl, Nat.sub_le _ _⟩

theorem Fill.omciRest_filled (l : Nat) (f : Fill) : Filled f (f.omciRest l) := by
  unfold Fill.omciRest
  split
  · exact .refl f
  · dsimp only
    split
    · exact f.stop_filled
    · exact Fill.bindOmci_filled _ _ _ _

theorem Fill.omciQueue_filled (l : Nat) (ps : List Packet) (f : Fill) : Filled f (Fill.omciQueue l ps f) := by
  induction ps generalizing f with
  | nil => exact .refl f
  | cons p ps ih =>
    simp only [Fill.omciQueue]
    split
    · exact f.stop_filled
    · exact (((f.st_filled (s := f.st.popHead (Sys2Proof.Machine.omciQueue l)) rfl).trans
        (Fill.number_filled p _)).trans (Fill.bindOmci_filled _ _ _ _)).trans (ih _)

theorem Fill.omci_filled (l : Nat) (f : Fill) : Filled f (f.omci l) := by
  unfold Fill.omci
  split
  · exact .refl f
  · exact (Fill.omciRest_filled l f).trans (Fill.omciQueue_filled l _ _)

/-- A grant that has been filled holds no more space than it gave, and leaves what waits for launch. -/
theorem State.fillGrant_filled (l : Nat) (idx : Option Nat) (own : Bool) (space : Nat) (s : State) :
    Filled { st := s, space := space, items := [], stop := false } (s.fillGrant l idx own space) := by
  have hOwn : Filled { st := s, space := space, items := [], stop := false }
      (if own then Fill.omci l { st := s, space := space, items := [], stop := false }
       else { st := s, space := space, items := [], stop := false }) := by
    split
    · exact Fill.omci_filled l _
    · exact .refl _
  unfold State.fillGrant
  dsimp only
  split
  · exact hOwn
  · split
    · exact hOwn.trans (Fill.index_filled _ l _)
    · exact hOwn

/-! ### The words of a committed caravan (R201, R224) -/

/-- What an allocation structure may do to what waits for launch: nothing, or one caravan whose words add up. -/
def Commits (l : Nat) (a : AllocStruct) (s t : State) : Prop :=
  t.launches = s.launches
  ∨ ∃ c, t.launches = s.launches ++ [c] ∧ c.lane = l ∧ c.alloc = a.allocId
      ∧ c.grant = grantWords s.is25 a.grantSize ∧ c.data + c.idle = c.grant - c.ovh

/-- A caravan joins those that wait for launch. -/
def State.commits (c : Caravan) (l : Nat) (p : Place) (s : State) : State :=
  let s1 := { s with line := { s.line with pending := s.line.pending ++ [c] } }
  let s2 := s1.modLane l (fun x => { x with lastEnd := some (p.stop, p.trim) })
  if c.adds then s2
  else { s2 with pool := { s2.pool with grantBad := Tab.modify 0 s2.pool.grantBad l (· + 1) } }

theorem State.commits_launches (c : Caravan) (l : Nat) (p : Place) (s : State) :
    (s.commits c l p).launches = s.launches ++ [c] := by
  unfold State.commits
  dsimp only
  split <;> rfl

/-- A committed caravan stands last among those that wait, and what follows its commit leaves them. -/
theorem commits_of_filled {l : Nat} {a : AllocStruct} {s : State} {p : Place} {c : Caravan} {f : Fill} {t : State}
    {space : Nat} (hFilled : Filled { st := s, space := space, items := [], stop := false } f) (hLane : c.lane = l)
    (hAlloc : c.alloc = a.allocId) (hGrant : c.grant = grantWords s.is25 a.grantSize) (hSpace : space = c.grant - c.ovh)
    (hData : c.data = space - f.space) (hIdle : c.idle = f.space)
    (hAfter : Adds poolParts (f.st.commits c l p) t) : Commits l a s t := by
  refine .inr ⟨c, ?_, hLane, hAlloc, hGrant, ?_⟩
  · rw [hAfter.launches, State.commits_launches, hFilled.pending]
  · rw [hData, hIdle, ← hSpace]
    exact Nat.sub_add_cancel hFilled.space

theorem State.commitGrant_commits (l : Nat) (a : AllocStruct) (g : Grant) (p : Place) (s : State) :
    Commits l a s (s.commitGrant l a g p) := by
  unfold State.commitGrant
  extract_lets r25 w ovh o5 idx own f c st line s1 s2 pool s3
  have hFilled : Filled { st := s, space := w - ovh, items := [], stop := false } f := State.fillGrant_filled _ _ _ _ s
  have hSpace : w - ovh = c.grant - c.ovh := rfl
  refine commits_of_filled (p := p) (c := c) hFilled rfl rfl rfl hSpace rfl rfl ?_
  change Adds poolParts s3 _
  clear_value s3
  clear_value idx
  cases idx with
  | none => exact .ite (State.raiseWin_adds _ _ _ _ _ s3) (.refl _ s3)
  | some i => exact .foldl (fun t q => State.flushWaiting_adds q t) _ s3

theorem Commits.of_same {l : Nat} {a : AllocStruct} {s t u : State} (h : Commits l a t u)
    (hLaunches : t.launches = s.launches) (hRate : t.is25 = s.is25) : Commits l a s u := by
  unfold Commits at h ⊢
  rwa [hLaunches, hRate] at h

theorem Commits.ite {l : Nat} {a : AllocStruct} {s t u : State} {c : Prop} [Decidable c] (ht : Commits l a s t)
    (hu : Commits l a s u) : Commits l a s (if c then t else u) := by
  split
  · exact ht
  · exact hu

theorem State.missed_launches (l : Nat) (s : State) : (s.missed l).launches = s.launches :=
  (State.inc_adds (C := reportParts) (lnCnt l 19) s).launches

theorem State.raise_launches (src obj detail : Nat) (s : State) : (s.raise src obj detail).launches = s.launches :=
  (State.raise_adds (C := reportParts) src obj detail s).launches

theorem State.placeGrant_commits (l : Nat) (a : AllocStruct) (g : Grant) (launch trim psbu first : Nat)
    (cont fec : Bool) (s : State) : Commits l a s (s.placeGrant l a g launch trim psbu first cont fec) := by
  unfold State.placeGrant
  dsimp only
  exact .ite (.inl ((State.raise_launches _ _ _ _).trans (s.missed_launches l)))
    (State.commitGrant_commits l a g _ s)

theorem State.serveGrant_commits (l : Nat) (a : AllocStruct) (g : Grant) (s : State) :
    Commits l a s (s.serveGrant l a g) := by
  have hNoted : (s.noteGrant l a.frame).launches = s.launches := rfl
  have hMissed := ((s.noteGrant l a.frame).missed_launches l).trans hNoted
  unfold State.serveGrant
  dsimp only
  refine .ite (.inl ?_) (.ite (.inl ?_) ?_)
  · exact (State.raise_launches _ _ _ _).trans ((State.raise_launches _ _ _ _).trans hMissed)
  · exact (State.raise_launches _ _ _ _).trans hMissed
  · split
    · refine .inl (Eq.trans ?_ hNoted)
      exact ((State.inc_adds (lnCnt l 20) (s.noteGrant l a.frame)).trans
        (State.raiseWin_adds (C := reportParts) _ _ _ _ _ _)).launches
    · split
      · split
        · exact .inl hMissed
        · exact (State.placeGrant_commits _ _ _ _ _ _ _ _ _ _).of_same hNoted rfl
      · exact (State.placeGrant_commits _ _ _ _ _ _ _ _ _ _).of_same hNoted rfl

theorem allocationStructure_commits {s t : State} {l : Lane} {a : AllocStruct}
    (h : exec (.allocationStructure l a) s = .next t) :
    t.line.pending = s.line.pending
    ∨ ∃ c, t.line.pending = s.line.pending ++ [c] ∧ c.lane = l.val ∧ c.alloc = a.allocId
        ∧ c.grant = grantWords s.is25 a.grantSize ∧ c.data + c.idle = c.grant - c.ovh := by
  change Commits l.val a s t
  have hNext : execAllocationStructure l a s = .next t := h
  unfold execAllocationStructure at hNext
  rw [Host.Outcome.next.injEq] at hNext
  rw [← hNext]
  dsimp only
  split
  · exact .inl rfl
  · split
    · refine .inl ?_
      exact ((State.inc_adds (lnCnt l.val 24) s).trans (State.raiseWin_adds (C := reportParts) _ _ _ _ _ _)).launches
    · split
      · exact .inl rfl
      · split
        · exact .inl rfl
        · exact (State.serveGrant_commits _ _ _ _).of_same rfl rfl

/-! ### Staging (R204) -/

theorem State.alloc_modAlloc_same (a : Nat) (f : AllocState → AllocState) (s : State) :
    (s.modAlloc a f).alloc a = f (s.alloc a) := Tab.get_modify_same _ _ _ _

theorem Adds.alloc {s t : State} (h : Adds C s t) (a : Nat) (hC : C.contains .line = false := by rfl) :
    t.alloc a = s.alloc a := congrArg (fun x : Line => (Tab.get {} x.allocs a : AllocState)) (h.within.line hC)

/-- Staging for an allocation goes on: no more is staged than its limit, or than before; the limit stays. -/
structure Staging (a : Nat) (s t : State) : Prop where
  bytes : (t.alloc a).stagedBytes ≤ max (s.alloc a).stagedBytes (s.stageLimit a)
  limit : t.stageLimit a = s.stageLimit a

theorem Staging.refl (a : Nat) (s : State) : Staging a s s := ⟨le_max_left _ _, rfl⟩

theorem Staging.trans {a : Nat} {s t u : State} (h : Staging a s t) (k : Staging a t u) : Staging a s u where
  bytes := by
    have hMore := k.bytes
    rw [h.limit] at hMore
    exact hMore.trans (max_le h.bytes (le_max_right _ _))
  limit := k.limit.trans h.limit

/-- What leaves the lines' allocations and the configuration stages nothing. -/
theorem Adds.staging {s t : State} (h : Adds C s t) (a : Nat) (hLine : C.contains .line = false := by rfl)
    (hCfg : C.contains .cfg = false := by rfl) : Staging a s t where
  bytes := by rw [h.alloc a hLine]; exact le_max_left _ _
  limit := by
    have hConfig : t.cfg = s.cfg := h.within.cfg hCfg
    rw [State.stageLimit, State.stageLimit, h.alloc a hLine, hConfig]

theorem State.raWindow_staging (a : Nat) (s : State) : Staging a s (s.raWindow a) := by
  have hAlloc : (s.raWindow a).alloc a = _ := State.alloc_modAlloc_same _ _ _
  constructor
  · rw [hAlloc]
    refine le_trans (le_of_eq ?_) (le_max_left _ _)
    split <;> rfl
  · rw [State.stageLimit, State.stageLimit, hAlloc]
    have hCfg : (s.raWindow a).cfg = s.cfg := rfl
    rw [hCfg]
    split <;> rfl

/-- A packet is staged: it leaves its queue's head, and stands last among those staged. -/
def State.stagePacket (a : Nat) (x : Staged) (s : State) : State :=
  (((s.popHead x.queue).toStaged x.packet.cells).modAlloc a (fun y =>
    { y with staged := y.staged ++ [x], winStaged := y.winStaged + x.packet.total })).count (cvCnt a 5) x.packet.total

theorem AllocState.stagedBytes_append (x : AllocState) (y : Staged) (n : Nat) :
    ({ x with staged := x.staged ++ [y], winStaged := n } : AllocState).stagedBytes = x.stagedBytes + y.packet.total := by
  simp [AllocState.stagedBytes]

theorem State.stagePacket_staging (a : Nat) (x : Staged) (s : State)
    (h : (s.alloc a).stagedBytes + x.packet.total ≤ s.stageLimit a) : Staging a s (s.stagePacket a x) := by
  refine Staging.trans ?_ ((State.count_adds (C := reportParts) _ _ _).staging a)
  have hAlloc := State.alloc_modAlloc_same a (fun y : AllocState =>
    { y with staged := y.staged ++ [x], winStaged := y.winStaged + x.packet.total })
    ((s.popHead x.queue).toStaged x.packet.cells)
  have hBefore : ((s.popHead x.queue).toStaged x.packet.cells).alloc a = s.alloc a := rfl
  rw [hBefore] at hAlloc
  constructor
  · rw [hAlloc, AllocState.stagedBytes_append]
    exact h.trans (le_max_right _ _)
  · rw [State.stageLimit, State.stageLimit, hAlloc]
    rfl

theorem State.stageLoop_staging (a fuel : Nat) (s : State) : Staging a s (s.stageLoop a fuel) := by
  induction fuel generalizing s with
  | zero => exact .refl a s
  | succ fuel ih =>
    have hDropped : Staging a s (s.dropOvers a) := (State.dropOvers_adds (C := poolParts) a s).staging a
    simp only [State.stageLoop]
    generalize s.dropOvers a = s0 at hDropped ⊢
    split
    · exact hDropped
    · split
      · exact hDropped
      · split
        · exact hDropped
        · next k _ _ p _ _ hRoom =>
          have hFits : (s0.alloc a).stagedBytes + p.total ≤ s0.stageLimit a := by
            rw [not_or, not_lt] at hRoom
            exact hRoom.2
          refine (hDropped.trans (State.stagePacket_staging a
            { queue := k.queue, packet := p, frame := s0.bnd, tier := k.tier, ptr := k.ptr, deltas := k.deltas }
            s0 hFits)).trans (ih _)

theorem runAheadStage_staging {s t : State} {a : Fin 128} (h : exec (.runAheadStage a) s = .next t) :
    Staging a.val s t := by
  have hNext : execRunAheadStage a s = .next t := h
  unfold execRunAheadStage at hNext
  rw [Host.Outcome.next.injEq] at hNext
  rw [← hNext]
  split
  · exact .refl _ s
  · exact (State.raWindow_staging _ s).trans (State.stageLoop_staging _ _ _)

/-- Settles O26: a fragment is cut only where both parts fit; a caravan's data and idle words fill its grant, because
filling gains no space; and each packet staged was tested against the limit. -/
theorem caravanArithmetic : Obligations.CaravanArithmetic := by
  unfold Obligations.CaravanArithmetic
  refine ⟨fitBytes_fits, fun s t l a h => allocationStructure_commits h, fun s t a h => ?_⟩
  exact (runAheadStage_staging h).bytes

end Sys2Proof.Machine
end

section
/-!
# E1 ports: the slip buffer, defects and timing

Each operation of an E1 port, and those made of them, by what it makes of the port: no other port moves.
-/
namespace Sys2Proof.Machine

-- One theorem after another: the stacks of many that wait at once would exceed the memory of the check.
set_option Elab.async false

variable {C D : List Part} {s t u : State} {p : Nat} {x y : E1}

/-! ### What moves a port -/

theorem State.e1_modE1_same (p : Nat) (f : E1 → E1) (s : State) : (s.modE1 p f).e1 p = f (s.e1 p) :=
  Tab.get_modify_same _ _ _ _

theorem State.e1_modE1_other {p j : Nat} (hj : j ≠ p) (f : E1 → E1) (s : State) : (s.modE1 p f).e1 j = s.e1 j :=
  Tab.get_modify_other _ _ _ hj

/-- From `s` to `t` only E1 port `p` has moved, to `x`, beside what is in `C`. -/
structure PortTurns (p : Nat) (x : E1) (C : List Part) (s t : State) : Prop where
  adds : Adds C s t
  same : t.e1 p = x
  other : ∀ j, j ≠ p → t.e1 j = s.e1 j

theorem PortTurns.refl (p : Nat) (C : List Part) (s : State) : PortTurns p (s.e1 p) C s s := ⟨.refl C s, rfl, fun _ _ => rfl⟩

theorem PortTurns.trans (h : PortTurns p x C s t) (k : PortTurns p y C t u) : PortTurns p y C s u :=
  ⟨h.adds.trans k.adds, k.same, fun j hj => (k.other j hj).trans (h.other j hj)⟩

theorem Adds.e1 (h : Adds D s t) (j : Nat) (hD : D.contains .e1s = false := by rfl) : t.e1 j = s.e1 j :=
  congrArg (fun l : Tab E1 => (Tab.get {} l j : E1)) (h.within.e1s hD)

/-- What follows and leaves the E1 ports. -/
theorem PortTurns.then (h : PortTurns p x C s t) (k : Adds D t u) (hD : D.contains .e1s = false := by rfl)
    (hC : Covers D C := by rfl) : PortTurns p x C s u :=
  ⟨h.adds.trans (k.mono hC), (k.e1 p hD).trans h.same, fun j hj => (k.e1 j hD).trans (h.other j hj)⟩

theorem State.modE1_turns (p : Nat) (f : E1 → E1) (s : State) (hC : Covers [.e1s] C := by rfl) :
    PortTurns p (f (s.e1 p)) C s (s.modE1 p f) :=
  ⟨State.modE1_adds p f s hC, State.e1_modE1_same p f s, fun _ hj => State.e1_modE1_other hj f s⟩

/-- The port moves on. -/
theorem PortTurns.mod (h : PortTurns p x C s t) (f : E1 → E1) (hC : Covers [.e1s] C := by rfl) :
    PortTurns p (f x) C s (t.modE1 p f) := by
  have hMod := State.modE1_turns p f t hC
  rw [h.same] at hMod
  exact h.trans hMod

theorem PortTurns.ite {c : Prop} [Decidable c] (ht : PortTurns p x C s t) (hu : PortTurns p x C s u) :
    PortTurns p x C s (if c then t else u) := by
  split
  · exact ht
  · exact hu

theorem PortTurns.congr (h : PortTurns p x C s t) (hx : x = y) : PortTurns p y C s t := hx ▸ h

/-- What a port's operations touch, with the clock multiplexers. -/
def e1Parts : List Part := [.evt, .host, .ring, .log, .cnt, .out, .e1s]
def defectParts : List Part := [.evt, .host, .ring, .log, .cnt, .out, .e1s, .fresh]
def timingParts : List Part := [.evt, .host, .ring, .log, .cnt, .out, .e1s, .fresh, .clk]

theorem State.e1Event_pends (p k detail : Nat) (s : State) : (State.e1Event p k detail s).pends (512 + 4 * p + k) :=
  State.raise_pends _ _ _ _

theorem State.e1Slip_pends (p i : Nat) (s : State) : (s.e1Slip p i).pends (512 + 4 * p + 1) :=
  State.e1Event_pends p 1 0 _

/-- The slip buffer restarts. -/
theorem PortTurns.slipRestart (h : PortTurns p x C s t) (hC : Covers [.e1s, .fresh] C := by rfl) :
    PortTurns p { x with slip := [freeFrame t.fresh] } C s (t.slipRestart p) := by
  refine ⟨h.adds.trans (State.slipRestart_adds p t hC), ?_, fun j hj => ?_⟩
  · rw [← h.same]
    exact State.e1_modE1_same p (fun x => { x with slip := [freeFrame t.fresh] }) t
  · exact (State.e1_modE1_other hj (fun x => { x with slip := [freeFrame t.fresh] }) t).trans (h.other j hj)

/-! ### The slip buffer (R536, R537) -/

theorem framer_counts (p : Nat) (l : List Nat) (s : State) (hC : Covers reportParts C := by rfl) :
    Adds C s (l.foldl (fun t k => t.inc (e1Cnt p k)) s) := .foldl (fun t _ => State.inc_adds _ t hC) l s

theorem State.framer_turns (p : Nat) (f : List Byte) (s : State) :
    PortTurns p ((s.framer p f).e1 p) e1Parts s (s.framer p f) ∧ ((s.framer p f).e1 p).slip = (s.e1 p).slip := by
  unfold State.framer
  dsimp only
  split
  · exact ⟨.refl p _ s, rfl⟩
  · have hTurns := (State.modE1_turns (C := e1Parts) p (framerNext f) s).then (D := reportParts)
      (framer_counts p (framerErrors (s.e1Crc4 p && !(s.e1 p).defects.getLsbD 5) (s.e1 p) (f.getD 0 0)) _)
    refine ⟨hTurns.congr hTurns.same.symm, ?_⟩
    rw [hTurns.same]
    rfl

theorem slipBufferWrite_completes {p : E1No} (hRuns : s.e1Runs p.val = true) (f : List Byte) :
    completesWith (.slipBufferWrite p f) s (fun t =>
      t.e1 p.val = { (s.framer p.val f).e1 p.val with
        slip := (s.e1 p.val).slip.drop ((s.e1 p.val).slip.length - 1) ++ [f] }
      ∧ (2 ≤ (s.e1 p.val).slip.length → t.pends (512 + 4 * p.val + 1))
      ∧ (∀ j, j ≠ p.val → t.e1 j = s.e1 j) ∧ t = { s.reporting t with e1s := t.e1s }) := by
  have hStops : ¬ (!s.e1Runs p.val) = true := by rw [hRuns]; exact Bool.false_ne_true
  obtain ⟨hFramer, hSlip⟩ := s.framer_turns p.val f
  have hWritten := hFramer.mod (fun x => { x with slip := x.slip.drop (x.slip.length - 1) ++ [f] })
  rw [hSlip] at hWritten
  refine ⟨_, congrArg Host.Outcome.next (if_neg hStops), ?_⟩
  dsimp only
  generalize (s.framer p.val f).e1 p.val = y at hWritten ⊢
  generalize State.modE1 p.val _ (s.framer p.val f) = s1 at hWritten ⊢
  have hTurns := PortTurns.ite (c := 2 ≤ (s.e1 p.val).slip.length)
    (hWritten.then (State.e1Slip_adds (C := reportParts) p.val 5 s1)) hWritten
  refine ⟨hTurns.same, fun hFull => ?_, hTurns.other, hTurns.adds.within.eq_merge⟩
  rw [if_pos hFull]
  exact State.e1Slip_pends p.val 5 s1

theorem E1.gathers_eq (on : Bool) (f : List Byte) (x : E1) : x.gathers on f = x.gather ++ (if on then [f] else []) := by
  unfold E1.gathers
  cases on
  · exact (List.append_nil _).symm
  · rfl

theorem slipBufferRead_completes {p : E1No} (hRuns : s.e1Runs p.val = true) :
    completesWith (.slipBufferRead p) s (fun t =>
      let s0 := s.until s.tide.boundaryAt
      (∀ f r, (s0.e1 p.val).slip = f :: r → t.e1 p.val = { s0.e1 p.val with
          slip := r, lastRead := f, gather := (s0.e1 p.val).gather ++ (if s0.cesOn p.val then [f] else []) })
      ∧ ((s0.e1 p.val).slip = [] → t.pends (512 + 4 * p.val + 1)
        ∧ t.e1 p.val = { s0.e1 p.val with
          gather := (s0.e1 p.val).gather ++ (if s0.cesOn p.val then [(s0.e1 p.val).lastRead] else []) })
      ∧ (∀ j, j ≠ p.val → t.e1 j = s0.e1 j) ∧ t = s.passing t) := by
  have hStops : ¬ (!s.e1Runs p.val) = true := by rw [hRuns]; exact Bool.false_ne_true
  have hUntil := State.until_adds (C := passParts) s.tide.boundaryAt s
  refine ⟨_, congrArg Host.Outcome.next (if_neg hStops), ?_⟩
  dsimp only
  generalize s.until s.tide.boundaryAt = s0 at hUntil ⊢
  generalize s0.cesOn p.val = on
  split
  next f r hSlip =>
    have hTurns := State.modE1_turns (C := passParts) p.val
      (fun x => { x with slip := r, lastRead := f, gather := x.gathers on f }) s0
    refine ⟨fun g l hCons => ?_, fun hNone => absurd (hSlip.symm.trans hNone) (List.cons_ne_nil f r), hTurns.other,
      (hUntil.trans hTurns.adds).within.passing⟩
    obtain ⟨rfl, rfl⟩ := List.cons.inj (hSlip.symm.trans hCons)
    rw [← E1.gathers_eq]
    exact hTurns.same
  next hSlip =>
    have hTurns := (State.modE1_turns (C := passParts) p.val
      (fun x => { x with gather := x.gathers on x.lastRead }) s0).then (State.e1Slip_adds (C := reportParts) p.val 5 _)
    refine ⟨fun g l hCons => absurd (hSlip.symm.trans hCons) (List.cons_ne_nil g l).symm, fun _ => ⟨State.e1Slip_pends _ _ _, ?_⟩, hTurns.other, (hUntil.trans hTurns.adds).within.passing⟩
    rw [← E1.gathers_eq]
    exact hTurns.same

/-! ### Defects (R529, R533, R534, R555) -/

/-- The defects once bit `k` is set or cleared. -/
def defectsWith (k : Nat) (on : Bool) (v : BitVec 6) : BitVec 6 :=
  if on then v ||| BitVec.twoPow 6 k else v &&& ~~~ (BitVec.twoPow 6 k)

theorem defectsWith_same {k : Nat} (hk : k < 6) (on : Bool) (v : BitVec 6) : (defectsWith k on v).getLsbD k = on := by
  cases on <;> simp [defectsWith, hk]

theorem defectsWith_other {j k : Nat} (hj : j ≠ k) (on : Bool) (v : BitVec 6) :
    (defectsWith k on v).getLsbD j = v.getLsbD j := by
  have hkj : ¬ k = j := fun h => hj h.symm
  cases on
  · by_cases hLt : j < 6
    · simp [defectsWith, hj, hLt]
    · rw [BitVec.getLsbD_of_ge _ _ (Nat.le_of_not_lt hLt), BitVec.getLsbD_of_ge _ _ (Nat.le_of_not_lt hLt)]
  · simp [defectsWith, BitVec.getLsbD_twoPow, hkj]

theorem defectsWith_eq {k : Nat} {on : Bool} {v : BitVec 6} (hk : k < 6) (h : v.getLsbD k = on) : defectsWith k on v = v := by
  refine BitVec.eq_of_getLsbD_eq fun j _ => ?_
  by_cases hj : j = k
  · rw [hj, defectsWith_same hk, h]
  · exact defectsWith_other hj on v

theorem defectPos_lt (d : E1Defect) : defectPos d < 6 := by cases d <;> decide

theorem State.e1Mark_pends {d : E1Defect} {on : Bool} (h : (s.e1 p).defects.getLsbD (defectPos d) ≠ on) :
    (s.e1Mark p d on).pends (512 + 4 * p) := by
  rw [State.e1Mark, if_neg h]
  exact State.e1Event_pends p 0 _ _

theorem State.e1Mark_turns (p : Nat) (d : E1Defect) (on : Bool) (s : State) (hC : Covers e1Parts C := by rfl) :
    PortTurns p { s.e1 p with defects := defectsWith (defectPos d) on (s.e1 p).defects } C s (s.e1Mark p d on) := by
  unfold State.e1Mark
  split
  next h =>
    rw [defectsWith_eq (defectPos_lt d) h]
    exact .refl p C s
  next =>
    have hTurns := (State.modE1_turns (C := e1Parts) p (fun x => { x with
      defects := if on then x.defects ||| BitVec.twoPow 6 (defectPos d)
                 else x.defects &&& ~~~ (BitVec.twoPow 6 (defectPos d)) }) s).then
      (State.e1Event_adds (C := reportParts) p 0 (defectPos d + 1) _)
    exact ⟨hTurns.adds.mono hC, hTurns.same, hTurns.other⟩

theorem PortTurns.mark (h : PortTurns p x C s t) (d : E1Defect) (on : Bool) (hC : Covers e1Parts C := by rfl) :
    PortTurns p { x with defects := defectsWith (defectPos d) on x.defects } C s (t.e1Mark p d on) := by
  have hMark := State.e1Mark_turns p d on t hC
  rw [h.same] at hMark
  exact h.trans hMark

/-- A defect's bit follows its declaration, and nothing else of the defects moves. -/
def Marked (k : Nat) (on : Bool) (v w : BitVec 6) : Prop :=
  w.getLsbD k = on ∧ ∀ j, j ≠ k → w.getLsbD j = v.getLsbD j

theorem defectsWith_marked {k : Nat} (hk : k < 6) (on : Bool) (v : BitVec 6) : Marked k on v (defectsWith k on v) :=
  ⟨defectsWith_same hk on v, fun _ hj => defectsWith_other hj on v⟩

/-- From `s` to `t` a defect of port `p` has been declared or cleared, with its event. -/
structure DefectTurns (p : Nat) (d : E1Defect) (on : Bool) (s t : State) : Prop where
  turns : PortTurns p (t.e1 p) defectParts s t
  marked : (t.e1 p).defects = defectsWith (defectPos d) on (s.e1 p).defects
  pends : t.pends (512 + 4 * p)

/-- What follows the mark and leaves it. -/
theorem defectTurns {d : E1Defect} {on : Bool} (h : PortTurns p x defectParts s t)
    (hMarked : x.defects = defectsWith (defectPos d) on (s.e1 p).defects) (hPends : t.pends (512 + 4 * p)) :
    DefectTurns p d on s t :=
  ⟨h.congr h.same.symm, by rw [h.same, hMarked], hPends⟩

theorem e1Defect_turns {p : E1No} (d : E1Defect) (on : Bool) (hRuns : s.e1Runs p.val = true)
    (hFramed : (s.e1Cfg p.val).framed = true) (hCrc : (s.e1Cfg p.val).crc4 ≠ 0)
    (hNew : (s.e1 p.val).defects.getLsbD (defectPos d) ≠ on) :
    completesWith (.e1Defect p d on) s (DefectTurns p.val d on s) := by
  have hMark := State.e1Mark_turns (C := defectParts) p.val d on s
  have hPends := State.e1Mark_pends (d := d) hNew
  have hActs : ¬ (!s.e1Runs p.val || (s.e1 p.val).defects.getLsbD (defectPos d) == on) = true := by
    rw [hRuns, beq_eq_false_iff_ne.mpr hNew]
    exact Bool.false_ne_true
  have hUnframed : ¬ (!(s.e1Cfg p.val).framed) = true := by rw [hFramed]; exact Bool.false_ne_true
  have hPlain : ¬ (!(s.e1Cfg p.val).framed || (s.e1Cfg p.val).crc4 == 0) = true := by
    rw [hFramed, beq_eq_false_iff_ne.mpr hCrc]
    exact Bool.false_ne_true
  refine ⟨_, congrArg Host.Outcome.next (if_neg hActs), ?_⟩
  dsimp only
  generalize s.e1Mark p.val d on = s1 at hMark hPends ⊢
  have hKept : DefectTurns p.val d on s s1 := defectTurns hMark rfl hPends
  have hCount (k : Nat) : DefectTurns p.val d on s (s1.inc (e1Cnt p.val k)) :=
    defectTurns (hMark.then (State.inc_adds (C := reportParts) _ s1)) rfl
      ((State.inc_adds (C := reportParts) _ s1).pending _ hPends)
  have hMod {f : E1 → E1} (hf : ∀ x, (f x).defects = x.defects) : DefectTurns p.val d on s (s1.modE1 p.val f) :=
    defectTurns (hMark.mod f) (hf _) hPends
  have hRestart {f : E1 → E1} (hf : ∀ x, (f x).defects = x.defects) :
      DefectTurns p.val d on s ((s1.modE1 p.val f).slipRestart p.val) :=
    defectTurns (hMark.mod f).slipRestart (hf _) hPends
  cases d with
  | los =>
    dsimp only
    cases on
    · exact hKept
    · exact hCount 4
  | rclkLoss =>
    dsimp only
    cases on
    · exact hRestart (fun _ => rfl)
    · exact hMod (fun _ => rfl)
  | lof =>
    dsimp only
    rw [if_neg hUnframed]
    cases on
    · exact hRestart (fun _ => rfl)
    · exact hCount 3
  | ais => exact hKept
  | rai =>
    dsimp only
    rw [if_neg hUnframed]
    exact hKept
  | lomf =>
    dsimp only
    rw [if_neg hPlain]
    cases on
    · exact hMod (fun _ => rfl)
    · exact hKept

theorem e1Defect_ignored {p : E1No} {d : E1Defect} {on : Bool}
    (h : s.e1Runs p.val = false ∨ (s.e1 p.val).defects.getLsbD (defectPos d) = on) :
    exec (.e1Defect p d on) s = .next s := by
  refine congrArg Host.Outcome.next (if_pos ?_)
  rcases h with hStops | hSame
  · rw [hStops]
    rfl
  · rw [hSame, beq_self_eq_true, Bool.or_true]

/-! ### Timing (R533 to R535, R538) -/

theorem State.muxRequest_adds (key : Nat) (toB : Bool) (s : State) (hC : Covers [.clk] C := by rfl) :
    Adds C s (s.muxRequest key toB) := Adds.mono (D := [.clk]) (adds_of_eq rfl rfl) hC

/-- A change of a port's transmit timing. -/
structure Retimed (p : Nat) (toB : Bool) (s t : State) : Prop where
  turns : PortTurns p (t.e1 p) timingParts s t
  port : ∃ l, t.e1 p = { s.e1 p with slip := l }
  clk : t.clk = (s.muxRequest (6 + p) toB).clk
  defect : t.pends (512 + 4 * p)
  slip : t.pends (512 + 4 * p + 1)

theorem State.e1Timing_retimed (p : Nat) (toB : Bool) (s : State) : Retimed p toB s (s.e1Timing p toB) := by
  unfold State.e1Timing
  have hTurns : PortTurns p (s.e1 p) timingParts s (s.muxRequest (6 + p) toB) :=
    (PortTurns.refl p _ s).then (State.muxRequest_adds (C := [.clk]) (6 + p) toB s)
  have hRestart := hTurns.slipRestart
  have hClk : ((s.muxRequest (6 + p) toB).slipRestart p).clk = (s.muxRequest (6 + p) toB).clk := rfl
  generalize (s.muxRequest (6 + p) toB).slipRestart p = s1 at hRestart hClk ⊢
  generalize (if toB = true then 9 else 8) = detail
  have hSlip := State.e1Slip_adds (C := reportParts) p 6 s1
  have hEvent := State.e1Event_adds (C := reportParts) p 0 detail (s1.e1Slip p 6)
  have hAll := hRestart.then (hSlip.trans hEvent)
  exact { turns := hAll.congr hAll.same.symm, port := ⟨_, hAll.same⟩
          clk := ((hSlip.trans hEvent).within.clk rfl).trans hClk
          defect := State.e1Event_pends p 0 _ _
          slip := hEvent.pending _ (State.e1Slip_pends p 6 s1) }

/-- Of the clocks only the multiplexers have moved. -/
theorem Within.muxed (h : Within timingParts s t) (hClk : t.clk = { s.clk with muxes := t.clk.muxes }) :
    t = { s.reporting t with e1s := t.e1s, fresh := t.fresh, clk := { s.clk with muxes := t.clk.muxes } } :=
  h.eq_merge.trans (congrArg (fun c => { s.reporting t with e1s := t.e1s, fresh := t.fresh, clk := c }) hClk)

theorem rclkLoss_completes {p : E1No} (hRuns : s.e1Runs p.val = true) (hHeard : (s.e1 p.val).rclkLost = false) :
    completesWith (.rclkLoss p) s (fun t =>
      (t.e1 p.val).rclkLost = true ∧ (t.e1 p.val).defects.getLsbD 1 = true
      ∧ ((s.e1 p.val).defects.getLsbD 1 = false ∨ (s.e1Cfg p.val).loopTx = true → t.pends (512 + 4 * p.val))
      ∧ ((s.e1Cfg p.val).loopTx = true → t.pends (512 + 4 * p.val + 1)
        ∧ t.clk.muxes = (s.muxRequest (6 + p.val) false).clk.muxes)
      ∧ t = { s.reporting t with e1s := t.e1s, fresh := t.fresh, clk := { s.clk with muxes := t.clk.muxes } }) := by
  have hActs : ¬ (!s.e1Runs p.val || (s.e1 p.val).rclkLost) = true := by
    rw [hRuns, hHeard]
    exact Bool.false_ne_true
  have hLost := State.modE1_turns (C := timingParts) p.val (fun x => { x with rclkLost := true }) s
  have hSame : ((s.modE1 p.val (fun x => { x with rclkLost := true })).e1 p.val).defects = (s.e1 p.val).defects :=
    by rw [hLost.same]
  have hMark := hLost.mark .rclkLoss true
  have hClk := ((State.modE1_adds (C := e1Parts) p.val (fun x => { x with rclkLost := true }) s).trans
    (State.e1Mark_turns (C := e1Parts) p.val .rclkLoss true _).adds).within.clk rfl
  have hPends : (s.e1 p.val).defects.getLsbD 1 = false →
      ((s.modE1 p.val (fun x => { x with rclkLost := true })).e1Mark p.val .rclkLoss true).pends (512 + 4 * p.val) := by
    intro hClear
    refine State.e1Mark_pends (d := .rclkLoss) ?_
    rw [hSame]
    exact hClear ▸ Bool.false_ne_true
  refine ⟨_, congrArg Host.Outcome.next (if_neg hActs), ?_⟩
  dsimp only
  generalize (s.modE1 p.val (fun x => { x with rclkLost := true })).e1Mark p.val .rclkLoss true = s1 at hMark hClk hPends ⊢
  have hBit : (s1.e1 p.val).defects.getLsbD 1 = true := by
    rw [hMark.same]
    exact defectsWith_same (by decide) true _
  have hRclk : (s1.e1 p.val).rclkLost = true := by rw [hMark.same]
  cases hLoop : (s.e1Cfg p.val).loopTx with
  | false =>
    rw [if_neg Bool.false_ne_true]
    refine ⟨hRclk, hBit, fun h => hPends (h.resolve_right Bool.false_ne_true), nofun, hMark.adds.within.muxed ?_⟩
    rw [hClk]
  | true =>
    rw [if_pos rfl]
    obtain ⟨hTurns, ⟨l, hPort⟩, hMux, hDefect, hSlip⟩ := s1.e1Timing_retimed p.val false
    have hMuxed : (s1.e1Timing p.val false).clk = (s.muxRequest (6 + p.val) false).clk := by
      rw [hMux]
      unfold State.muxRequest
      rw [hClk]
    refine ⟨?_, ?_, fun _ => hDefect, fun _ => ⟨hSlip, congrArg Clocks.muxes hMuxed⟩,
      (hMark.trans hTurns).adds.within.muxed ?_⟩
    · rw [hPort]
      exact hRclk
    · rw [hPort]
      exact hBit
    · rw [hMuxed]
      rfl

theorem rclkLoss_ignored {p : E1No} (h : s.e1Runs p.val = false ∨ (s.e1 p.val).rclkLost = true) :
    exec (.rclkLoss p) s = .next s := by
  refine congrArg Host.Outcome.next (if_pos ?_)
  rcases h with hStops | hLost
  · rw [hStops]
    rfl
  · rw [hLost, Bool.or_true]

/-- What a return of a port's timing at a boundary touches. -/
def returnTimingParts : List Part :=
  [.evt, .host, .ring, .log, .cnt, .out, .now, .bnd, .power, .tide, .line, .e1s, .craft, .fresh, .clk]

theorem Within.muxedPassing (h : Within returnTimingParts s t) (hClk : t.clk = { s.clk with muxes := t.clk.muxes }) :
    t = { s.passing t with fresh := t.fresh, clk := { s.clk with muxes := t.clk.muxes } } :=
  h.eq_merge.trans (congrArg (fun c => { s.passing t with fresh := t.fresh, clk := c }) hClk)

theorem rclkReturn_completes {p : E1No} (hRuns : s.e1Runs p.val = true) (hLoop : (s.e1Cfg p.val).loopTx = true)
    (hSel : (Tab.get {} s.clk.muxes (6 + p.val) : ClkMux).selB = false) :
    completesWith (.rclkReturn p) s (fun t =>
      (t.e1 p.val).rclkLost = false ∧ (t.e1 p.val).defects.getLsbD 1 = false
      ∧ t.clk.muxes = (s.muxRequest (6 + p.val) true).clk.muxes
      ∧ t.pends (512 + 4 * p.val) ∧ t.pends (512 + 4 * p.val + 1)
      ∧ t = { s.passing t with fresh := t.fresh, clk := { s.clk with muxes := t.clk.muxes } }) := by
  have hActs : ¬ (!s.e1Runs p.val || !(s.e1Cfg p.val).loopTx || (Tab.get {} s.clk.muxes (6 + p.val) : ClkMux).selB) = true := by
    rw [hRuns, hLoop, hSel]
    exact Bool.false_ne_true
  have hUntil := State.until_adds (C := passParts) s.tide.boundaryAt s
  refine ⟨_, congrArg Host.Outcome.next (if_neg hActs), ?_⟩
  dsimp only
  generalize s.until s.tide.boundaryAt = s0 at hUntil ⊢
  have hHeard := (State.modE1_turns (C := e1Parts) p.val (fun x => { x with rclkLost := false }) s0).mark .rclkLoss false
  generalize (s0.modE1 p.val (fun x => { x with rclkLost := false })).e1Mark p.val .rclkLoss false = s1 at hHeard ⊢
  have hClk : s1.clk = s.clk := (hHeard.adds.within.clk rfl).trans (hUntil.within.clk rfl)
  obtain ⟨hTurns, ⟨l, hPort⟩, hMux, hDefect, hSlip⟩ := s1.e1Timing_retimed p.val true
  have hMuxed : (s1.e1Timing p.val true).clk = (s.muxRequest (6 + p.val) true).clk := by
    rw [hMux]
    unfold State.muxRequest
    rw [hClk]
  have hAll : Adds returnTimingParts s (s1.e1Timing p.val true) :=
    ((hUntil.mono (C := returnTimingParts) rfl).trans (hHeard.adds.mono rfl)).trans (hTurns.adds.mono rfl)
  refine ⟨?_, ?_, congrArg Clocks.muxes hMuxed, hDefect, hSlip,
    hAll.within.muxedPassing ?_⟩
  · rw [hPort, hHeard.same]
  · rw [hPort, hHeard.same]
    exact defectsWith_same (by decide) false _
  · rw [hMuxed]
    rfl

theorem rclkReturn_ignored {p : E1No} (h : s.e1Runs p.val = false ∨ (s.e1Cfg p.val).loopTx = false) :
    exec (.rclkReturn p) s = .next s := by
  refine congrArg Host.Outcome.next (if_pos ?_)
  rcases h with hStops | hLoop
  · rw [hStops]
    rfl
  · rw [hLoop, Bool.not_false, Bool.or_true, Bool.true_or]

/-! ### The CRC-4 search (R529) -/

theorem crc4SearchTimeout_completes {p : E1No} (hRuns : s.e1Runs p.val = true) (hFramed : (s.e1Cfg p.val).framed = true)
    (hAuto : (s.e1Cfg p.val).crc4 = 2) :
    completesWith (.crc4SearchTimeout p) s (fun t =>
      (t.e1 p.val).crc4On = false ∧ (t.e1 p.val).defects.getLsbD 5 = false
      ∧ t.e1 p.val = { s.e1 p.val with crc4On := false, defects := (t.e1 p.val).defects }
      ∧ (∀ k, k ≠ 5 → (t.e1 p.val).defects.getLsbD k = (s.e1 p.val).defects.getLsbD k) ∧ t.pends (512 + 4 * p.val)
      ∧ (∀ j, j ≠ p.val → t.e1 j = s.e1 j) ∧ t = { s.reporting t with e1s := t.e1s }) := by
  have hActs : ¬ (!s.e1Runs p.val || !(s.e1Cfg p.val).framed || (s.e1Cfg p.val).crc4 != 2) = true := by
    rw [hRuns, hFramed, hAuto]
    decide
  have hOff := (State.modE1_turns (C := e1Parts) p.val (fun x => { x with crc4On := false }) s).then
    (State.e1Event_adds (C := reportParts) p.val 0 7 _)
  have hPends := State.e1Event_pends p.val 0 7 (s.modE1 p.val (fun x => { x with crc4On := false }))
  refine ⟨_, congrArg Host.Outcome.next (if_neg hActs), ?_⟩
  generalize (s.modE1 p.val (fun x => { x with crc4On := false })).e1Event p.val 0 7 = s1 at hOff hPends ⊢
  have hAll := hOff.mark .lomf false
  refine ⟨by rw [hAll.same], ?_, by rw [hAll.same], fun k hk => ?_,
    (State.e1Mark_turns (C := e1Parts) p.val .lomf false s1).adds.pending _ hPends, hAll.other, hAll.adds.within.eq_merge⟩
  · rw [hAll.same]
    exact defectsWith_same (by decide) false _
  · rw [hAll.same]
    exact defectsWith_other hk false _

theorem crc4SearchTimeout_ignored {p : E1No} (h : s.e1Runs p.val = false ∨ (s.e1Cfg p.val).crc4 ≠ 2) :
    exec (.crc4SearchTimeout p) s = .next s := by
  refine congrArg Host.Outcome.next (if_pos ?_)
  rcases h with hStops | hCrc
  · rw [hStops]
    rfl
  · rw [bne_iff_ne.mpr hCrc, Bool.or_true]

end Sys2Proof.Machine
end

section
/-!
# Circuits: packets made, held and played

A circuit's packet is made, placed in the jitter buffer, and played or replaced, each step by what it makes of the port
and of the two queues.
-/
namespace Sys2Proof.Machine

-- One theorem after another: the stacks of many that wait at once would exceed the memory of the check.
set_option Elab.async false

variable {C D : List Part} {s t u : State} {p : Nat}

/-! ### What answers and the passage of time leave of the ring -/

/-- The ring without the messages that it is to send, the relayed requests and the mirrors. -/
def RingSide.lasting (x : RingSide) : RingSide := { x with dccTx := [], mirror := 0 }

def Ring.lasting (r : Ring) : Ring := { r with sides := [], peers := [], relayed := [] }

/-- From `r` to `k` messages have been sent, relayed requests answered and mirrors refreshed, and nothing else. -/
structure Lasts (r k : Ring) : Prop where
  rest : k.lasting = r.lasting
  side : ∀ d, (Tab.get {} k.sides d : RingSide).lasting = (Tab.get {} r.sides d : RingSide).lasting

theorem Lasts.refl (r : Ring) : Lasts r r := ⟨rfl, fun _ => rfl⟩

theorem Lasts.trans {r k l : Ring} (a : Lasts r k) (b : Lasts k l) : Lasts r l :=
  ⟨b.rest.trans a.rest, fun d => (b.side d).trans (a.side d)⟩

theorem Lasts.foldl {α : Type} {f : State → α → State} (h : ∀ t x, Lasts t.ring (f t x).ring) (l : List α) (s : State) :
    Lasts s.ring (l.foldl f s).ring := by
  induction l generalizing s with
  | nil => exact .refl _
  | cons x l ih => exact (h s x).trans (ih _)

theorem Sends.lasts {r k : Ring} (h : Sends r k) : Lasts r k :=
  ⟨congrArg (fun x : Ring => { x with relayed := [] }) h.rest, fun d => congrArg (fun x : RingSide => { x with mirror := 0 }) (h.side d)⟩

theorem Lasts.node {r k : Ring} (h : Lasts r k) : k.node = r.node := (congrArg Ring.node h.rest :)

theorem State.raise_lasts (src obj detail : Nat) (s : State) : Lasts s.ring (s.raise src obj detail).ring :=
  ((Sends.refl s.ring).raise _ _ _).lasts

theorem State.relayBack_lasts (opc : Nat) (seq : BitVec 16) (m : MbxNo) (st : Status) (b : List Byte) (s : State) :
    Lasts s.ring (s.relayBack opc seq m st b).ring := by
  have hAnswered (l : List (Nat × Nat × Nat)) : Lasts s.ring ({ s with ring := { s.ring with relayed := l } } : State).ring :=
    ⟨rfl, fun _ => rfl⟩
  exact (hAnswered _).trans ((Sends.refl _).dcc 0 (.relayRsp opc seq m st.wire b)).lasts

theorem State.answer_lasts (opc : Nat) (q : Req) (st : Status) (b : List Byte) (s : State) :
    Lasts s.ring (s.answer opc q st b).ring := by
  have hRelayed := State.relayBack_lasts opc q.seq q.mbx st b (s.modBox q.mbx.val (fun b => { b with waiting := none }))
  have hAnswered (h : HostIf) (o : List Emission) (i j : Nat) :
      Lasts s.ring (((({ s with host := h, out := o } : State).inc i).inc j).answerEvents q.mbx.val st).ring :=
    ((((Sends.refl s.ring).inc (s := { s with host := h, out := o }) i).inc j).answerEvents q.mbx.val st).lasts
  simp only [State.answer]
  split
  · exact hRelayed
  · exact hAnswered _ _ _ _

theorem State.answerOn_lasts (w : Wait) (st : Status) (b : List Byte) (s : State) :
    Lasts s.ring (s.answerOn w st b).ring := by
  unfold State.answerOn
  refine Lasts.foldl (fun u m => ?_) (List.range 34) s
  split
  · split
    · exact State.answer_lasts _ _ _ _ _
    · exact .refl _
  · exact .refl _

theorem State.modSide_lasts (d : Nat) (f : RingSide → RingSide) (hf : ∀ x, (f x).lasting = x.lasting) (s : State) :
    Lasts s.ring (s.modSide d f).ring := ⟨rfl, Ring.modSides_other RingSide.lasting d f hf s.ring.sides⟩

theorem RingSide.mirrored_lasting (m : W32) (x : RingSide) : ({ x with mirror := m } : RingSide).lasting = x.lasting := rfl

/-- The mirror of a side's status. -/
def State.sideMirrored (s : State) (d : Nat) : State :=
  s.modSide d (fun x => { x with mirror := BitVec.ofNat 32 (s.ringStatus d) })

theorem State.sideMirrored_lasts (d : Nat) (s : State) : Lasts s.ring (s.sideMirrored d).ring := by
  unfold State.sideMirrored
  refine State.modSide_lasts d _ ?_ s
  exact fun x => RingSide.mirrored_lasting _ x

theorem State.mirrorSides_lasts (l : List Nat) (s : State) : Lasts s.ring (l.foldl State.sideMirrored s).ring :=
  Lasts.foldl (fun t d => t.sideMirrored_lasts d) l s

theorem State.mirrorLanes_ring (l : List Nat) (s : State) : (l.foldl (fun (t : State) l =>
    t.modLane l (fun x => { x with mirror := BitVec.ofNat 32 (t.lnStatus l) })) s).ring = s.ring := by
  refine State.foldl_same State.ring (fun u k => ?_) l s
  generalize BitVec.ofNat 32 (u.lnStatus k) = m
  rfl

theorem State.mirrorE1s_ring (l : List Nat) (s : State) : (l.foldl (fun (t : State) p =>
    t.modE1 p (fun x => { x with mirror := BitVec.ofNat 32 (t.e1Status p) })) s).ring = s.ring := by
  refine State.foldl_same State.ring (fun u p => ?_) l s
  generalize BitVec.ofNat 32 (u.e1Status p) = m
  rfl

theorem State.refresh_lasts (s : State) : Lasts s.ring s.refresh.ring := by
  rw [State.refresh]
  dsimp only
  rw [State.mirrorE1s_ring, ← State.mirrorLanes_ring (List.range 4) s]
  exact State.mirrorSides_lasts _ _

theorem State.idleChange_lasts (s : State) : Lasts s.ring s.idleChange.ring := by
  unfold State.idleChange
  split
  · exact .refl _
  · refine Lasts.trans ?_ (State.answerOn_lasts _ _ _ _)
    refine Lasts.trans ?_ (State.raise_lasts _ _ _ _)
    exact .refl _

theorem State.laneIdleCheck_lasts (l : Nat) (s : State) : Lasts s.ring (s.laneIdleCheck l).ring := by
  unfold State.laneIdleCheck
  dsimp only
  split
  · refine Lasts.trans ?_ (State.raise_lasts _ _ _ _)
    exact .refl _
  · exact .refl _

theorem State.boundary_lasts (s : State) : Lasts s.ring s.boundary.ring := by
  have hLanes (t : State) : Lasts t.ring ((List.range 4).foldl State.laneIdleCheck t).ring :=
    .foldl (fun u l => u.laneIdleCheck_lasts l) _ t
  have hE1s (t : State) : ((List.range 8).foldl State.e1Boundary t).ring = t.ring :=
    State.foldl_same (fun u => u.ring) (fun u p => (u.e1Boundary_within p).ring rfl) _ t
  have hTiming (t : State) : t.timingTake.ring = t.ring := t.timingTake_within.ring rfl
  rw [State.boundary]
  refine Lasts.trans ?_ (State.refresh_lasts _)
  rw [hTiming, hE1s]
  exact (s.idleChange_lasts).trans (hLanes _)

theorem State.until_lasts (x : Nat) (s : State) : Lasts s.ring (s.until x).ring := by
  rcases State.until_cases x s with h | ⟨d, h | h⟩
  · rw [h]
    exact .refl _
  · rw [h]
    exact .refl _
  · rw [h]
    refine Lasts.trans ?_ (State.boundary_lasts _)
    exact .refl _

theorem State.until_node (x : Nat) (s : State) : (s.until x).ring.node = s.ring.node := (s.until_lasts x).node

theorem Sends.node {r k : Ring} (h : Sends r k) : k.node = r.node := (congrArg Ring.node h.rest :)

/-- `t` is the same device in the same configuration: the settings of its circuits are those of `s`. -/
structure SameDevice (s t : State) : Prop where
  start : t.start = s.start
  cfg : t.cfg = s.cfg
  node : t.ring.node = s.ring.node

theorem SameDevice.trans (h : SameDevice s t) (k : SameDevice t u) : SameDevice s u :=
  ⟨k.start.trans h.start, k.cfg.trans h.cfg, k.node.trans h.node⟩

theorem SameDevice.self (h : SameDevice s t) : t.self = s.self := by
  rw [State.self, State.self, h.start, h.node]

theorem SameDevice.e1Cfg (h : SameDevice s t) (p : Nat) : t.e1Cfg p = s.e1Cfg p := by
  rw [State.e1Cfg, State.e1Cfg, State.obj, State.obj, h.self, h.cfg]

theorem SameDevice.cesCfg (h : SameDevice s t) (p : Nat) : t.cesCfg p = s.cesCfg p := by
  rw [State.cesCfg, State.cesCfg, State.obj, State.obj, h.self, h.cfg]

theorem Adds.sameDevice (h : Adds D s t) (hNode : t.ring.node = s.ring.node) (hStart : D.contains .start = false := by rfl)
    (hCfg : D.contains .cfg = false := by rfl) : SameDevice s t :=
  ⟨h.within.start hStart, h.within.cfg hCfg, hNode⟩

theorem State.until_sameDevice (x : Nat) (s : State) : SameDevice s (s.until x) :=
  (State.until_adds (C := passParts) x s).sameDevice (State.until_node x s)

theorem State.inc_sameDevice (i : Nat) (s : State) : SameDevice s (s.inc i) :=
  (State.inc_adds (C := reportParts) i s).sameDevice ((Sends.refl s.ring).inc i).node

/-! ### A packet is made (R541, R542) -/

/-- On the manager a packet that its upstream queue takes and R314 allows is linked to it. -/
theorem offerUp_links {q cls : Nat} {k : Packet} (hManager : s.isManager = true) (hRecount : s.pool.recount = false)
    (hOpen : s.shut q = false) (hTake : s.mayTake q k.owner k.cells = .ok) : (s.offerUp q cls k).1 = s.link q k := by
  rw [State.offerUp, if_pos hManager, State.offer_granted hRecount hOpen hTake]

theorem shut_upstream {q : Nat} (hIntake : s.intakeStopped = false) (hPort : s.egressTakes q = true)
    (hUp : 2048 ≤ q → s.cfg.upEnabled q = true) : s.shut q = false := by
  have hEnabled : (decide (2048 ≤ q) && !s.cfg.upEnabled q) = false := by
    by_cases h : 2048 ≤ q
    · rw [hUp h, Bool.not_true, Bool.and_false]
    · rw [decide_eq_false h, Bool.false_and]
  rw [State.shut, hIntake, hPort, hEnabled]
  rfl

/-- What counting leaves of what decides on a packet. -/
theorem inc_offers (hManager : s.isManager = true) (i : Nat) :
    (s.inc i).isManager = true ∧ (s.inc i).pool = s.pool ∧ (∀ q, (s.inc i).shut q = s.shut q)
    ∧ ∀ q owner n, (s.inc i).mayTake q owner n = s.mayTake q owner n := by
  have hAdds := State.inc_adds (C := reportParts) i s
  have hReasm : (s.inc i).ring.reasm = s.ring.reasm := (congrArg Ring.reasm ((Sends.refl s.ring).inc i).rest :)
  have hFrame : s.inc i = s.reporting (s.inc i) := hAdds.within.reporting
  refine ⟨?_, hAdds.within.pool rfl, fun q => ?_, fun q owner n => ?_⟩
  · rw [hFrame]
    exact hManager
  · rw [hFrame]
    rfl
  · rw [hFrame]
    exact State.mayTake_of_reasm hManager hReasm q owner n

/-- The packet that a circuit makes next. -/
def State.cesNext (p : Nat) (s : State) : Packet :=
  let c := s.cesCfg p
  let x := s.e1 p
  let framed := (s.e1Cfg p).framed
  let l := defectL x.defects
  let pay := if l then List.replicate (payloadLen framed c) 0xFF#8
    else if framed then (x.gather.take c.pktFrames).flatMap (selectSlots c.tsMask) else (x.gather.take c.pktFrames).flatten
  mkPacket (cesPacket framed c x.txSeq l x.lops pay) false (s.cfg.ownerOf (s.obj 8 p))

theorem cesPacketise_completes {p : E1No} (hRuns : s.e1Runs p.val = true) (hOn : s.cesOn p.val = true)
    (hFull : (s.cesCfg p.val).pktFrames ≤ (s.e1 p.val).gather.length) : completesWith (.cesPacketise p) s (fun t =>
      t.e1 p.val = { s.e1 p.val with
        gather := (s.e1 p.val).gather.drop (s.cesCfg p.val).pktFrames, txSeq := ((s.e1 p.val).txSeq + 1) % 65536 }
      ∧ (∀ j, j ≠ p.val → t.e1 j = s.e1 j)
      ∧ (let q := (s.cesCfg p.val).upQueue
         let k := s.cesNext p.val
         s.isManager = true → s.pool.recount = false → s.intakeStopped = false → s.egressTakes q = true →
         (2048 ≤ q → s.cfg.upEnabled q = true) → s.mayTake q k.owner k.cells = .ok →
         (t.queue q).pkts = (s.queue q).pkts ++ [k])
      ∧ t = { s.reporting t with e1s := t.e1s, pool := t.pool }) := by
  have hActs : ¬ (!s.e1Runs p.val || !s.cesOn p.val
      || decide ((s.e1 p.val).gather.length < (s.cesCfg p.val).pktFrames)) = true := by
    rw [hRuns, hOn, decide_eq_false (Nat.not_lt.mpr hFull)]
    exact Bool.false_ne_true
  refine ⟨_, congrArg Host.Outcome.next (if_neg hActs), ?_⟩
  dsimp only
  generalize hNext : mkPacket _ false _ = k
  have hMade : k = s.cesNext p.val := hNext.symm
  have hMod := State.modE1_turns (C := playParts) p.val (fun x =>
    { x with gather := x.gather.drop (s.cesCfg p.val).pktFrames, txSeq := (x.txSeq + 1) % 65536 }) s
  have hManager : (s.modE1 p.val (fun x =>
    { x with gather := x.gather.drop (s.cesCfg p.val).pktFrames, txSeq := (x.txSeq + 1) % 65536 })).isManager = s.isManager := rfl
  have hPool : (s.modE1 p.val (fun x =>
    { x with gather := x.gather.drop (s.cesCfg p.val).pktFrames, txSeq := (x.txSeq + 1) % 65536 })).pool = s.pool := rfl
  have hShut (q : Nat) : (s.modE1 p.val (fun x =>
    { x with gather := x.gather.drop (s.cesCfg p.val).pktFrames, txSeq := (x.txSeq + 1) % 65536 })).shut q = s.shut q := rfl
  have hTakes (q owner n : Nat) : (s.modE1 p.val (fun x =>
    { x with gather := x.gather.drop (s.cesCfg p.val).pktFrames, txSeq := (x.txSeq + 1) % 65536 })).mayTake q owner n
      = s.mayTake q owner n := rfl
  generalize State.modE1 p.val (fun x =>
    { x with gather := x.gather.drop (s.cesCfg p.val).pktFrames, txSeq := (x.txSeq + 1) % 65536 }) s = s1
    at hMod hManager hPool hShut hTakes ⊢
  have hAll := (hMod.then (State.inc_adds (C := reportParts) (e1Cnt p.val 8) s1)).then
    (State.offerUp_adds (C := poolParts) (s.cesCfg p.val).upQueue 1 k (s1.inc (e1Cnt p.val 8)))
  refine ⟨hAll.same, hAll.other, fun hM hRecount hIntake hPort hUp hTake => ?_, hAll.adds.within.eq_merge⟩
  obtain ⟨hIncM, hIncPool, hIncShut, hIncTake⟩ := inc_offers (hManager.trans hM) (e1Cnt p.val 8)
  rw [← hMade] at hTake ⊢
  have hClosed : s1.shut (s.cesCfg p.val).upQueue = false := (hShut _).trans (shut_upstream hIntake hPort hUp)
  have hLinked := offerUp_links (cls := 1) hIncM ((congrArg Pool.recount (hIncPool.trans hPool)).trans hRecount)
    ((hIncShut _).trans hClosed) (((hIncTake _ _ _).trans (hTakes _ _ _)).trans hTake)
  rw [hLinked, State.link_pkts]
  exact congrArg (fun x : Pool => (Tab.get {} x.queues (s.cesCfg p.val).upQueue : Queue).pkts ++ [k]) (hIncPool.trans hPool)

theorem cesPacketise_ignored {p : E1No} (h : s.e1Runs p.val = false ∨ s.cesOn p.val = false
    ∨ (s.e1 p.val).gather.length < (s.cesCfg p.val).pktFrames) : exec (.cesPacketise p) s = .next s := by
  refine congrArg Host.Outcome.next (if_pos ?_)
  rcases h with hStops | hOff | hFew
  · rw [hStops]
    rfl
  · rw [hOff, Bool.not_false, Bool.or_true, Bool.true_or]
  · rw [decide_eq_true hFew, Bool.or_true]

/-! ### A packet arrives (R545, R548) -/

theorem State.freePacket_pkts (q j : Nat) (k : Packet) (s : State) : ((s.freePacket q k).queue j).pkts = (s.queue j).pkts := by
  have hSettles := State.settle_settles q (s.freeQueued k.cells)
  by_cases h : j = q
  · subst h
    have hPkts := congrArg Queue.pkts hSettles.same
    exact hPkts
  · exact congrArg Queue.pkts (hSettles.other j h)

theorem Adds.queue (h : Adds D s t) (j : Nat) (hD : D.contains .pool = false := by rfl) : t.queue j = s.queue j :=
  congrArg (fun x : Pool => (Tab.get {} x.queues j : Queue)) (h.within.pool hD)

theorem State.pop_pkts {q : Nat} {k : Packet} {r : List Packet} (h : (s.queue q).pkts = k :: r) :
    ((s.modQueue q (fun x => { x with pkts := x.pkts.drop 1 })).queue q).pkts = r := by
  rw [State.queue_modQueue_same, h]
  rfl

/-- From `s` to `t` the head packet has left the circuit's arrival queue, and only port `p` has moved. -/
structure Takes (p : Nat) (r : List Packet) (s t : State) : Prop where
  adds : Adds playParts s t
  pkts : (t.queue (1200 + p)).pkts = r
  other : ∀ j, j ≠ p → t.e1 j = s.e1 j

/-- What follows and leaves the queues. -/
theorem Takes.then {r : List Packet} {x : E1} (h : Takes p r s t) (k : PortTurns p x e1Parts t u) : Takes p r s u where
  adds := h.adds.trans (k.adds.mono rfl)
  pkts := by rw [k.adds.queue]; exact h.pkts
  other := fun j hj => (k.other j hj).trans (h.other j hj)

theorem Adds.turns (h : Adds reportParts s t) (p : Nat) : PortTurns p (s.e1 p) e1Parts s t :=
  (PortTurns.refl p e1Parts s).then h

section
variable {k : Packet} {r : List Packet} (h : (s.queue (1200 + p)).pkts = k :: r)
include h

theorem State.cesDiscard_takes (l : Packet) (i : Nat) : Takes p r s (s.cesDiscard p l i) := by
  have hPop := State.modQueue_adds (C := poolParts) (1200 + p) (fun q => { q with pkts := q.pkts.drop 1 }) s
  have hPopped := State.pop_pkts h
  unfold State.cesDiscard
  generalize s.modQueue (1200 + p) (fun q => { q with pkts := q.pkts.drop 1 }) = s1 at hPop hPopped ⊢
  have hFree := State.freePacket_adds (C := poolParts) (1200 + p) l s1
  have hCount := State.inc_adds (C := reportParts) (e1Cnt p i) (s1.freePacket (1200 + p) l)
  have hAll := (hPop.trans hFree).trans (hCount.mono rfl)
  refine ⟨hAll.mono rfl, ?_, fun j _ => hAll.e1 j⟩
  rw [hCount.queue, State.freePacket_pkts]
  exact hPopped

theorem State.cesHold_takes (base : Nat) (l : Packet) : Takes p r s (s.cesHold p base l) := by
  have hPop := State.modQueue_adds (C := poolParts) (1200 + p) (fun q => { q with pkts := q.pkts.drop 1 }) s
  have hPopped := State.pop_pkts h
  have hNe : 1200 + p ≠ 1208 + p := by omega
  unfold State.cesHold
  dsimp only
  generalize s.cesCfg p = c
  generalize s.modQueue (1200 + p) (fun q => { q with pkts := q.pkts.drop 1 }) = s1 at hPop hPopped ⊢
  have hHeld := State.modQueue_adds (C := poolParts) (1208 + p) (fun q => { q with pkts := insertSeq c base l q.pkts }) s1
  have hKeeps := congrArg Queue.pkts (State.queue_modQueue_other hNe (fun q => { q with pkts := insertSeq c base l q.pkts }) s1)
  generalize s1.modQueue (1208 + p) (fun q => { q with pkts := insertSeq c base l q.pkts }) = s2 at hHeld hKeeps ⊢
  have hCount := State.inc_adds (C := reportParts) (e1Cnt p 9) s2
  have hAll := (hPop.trans hHeld).trans (hCount.mono rfl)
  refine ⟨hAll.mono rfl, ?_, fun j _ => hAll.e1 j⟩
  rw [hCount.queue, hKeeps]
  exact hPopped

end

/-- The jitter buffer once a packet has its place. -/
theorem State.cesHold_buffer (p base : Nat) (l : Packet) (s : State) :
    ((s.cesHold p base l).queue (1208 + p)).pkts = insertSeq (s.cesCfg p) base l (s.queue (1208 + p)).pkts := by
  have hNe : 1208 + p ≠ 1200 + p := by omega
  unfold State.cesHold
  dsimp only
  rw [(State.inc_adds (C := reportParts) (e1Cnt p 9) _).queue, State.queue_modQueue_same,
    State.queue_modQueue_other hNe]

theorem State.cesHold_e1 (p base j : Nat) (l : Packet) (s : State) : (s.cesHold p base l).e1 j = s.e1 j :=
  (State.inc_adds (C := reportParts) (e1Cnt p 9) _).e1 j

/-- What an arrival tells of a port: whether it plays, from which SEQ on, and the packet's two bits. -/
def E1.heard (x : E1) : Bool × Nat × Bool × Bool := (x.playing, x.nextSeq, x.rRx, x.lRx)

theorem State.jbMargin_turns (p depth : Nat) (m : Int) (s : State) :
    PortTurns p ((s.jbMargin p depth m).e1 p) e1Parts s (s.jbMargin p depth m)
    ∧ ((s.jbMargin p depth m).e1 p).heard = (s.e1 p).heard := by
  unfold State.jbMargin
  extract_lets ms low x s1
  have hNoted := State.modE1_turns (C := e1Parts) p (fun x => { x with margins := ms, sinceSlip := x.sinceSlip + 1 }) s
  have hKept : ∀ {y : E1} {u : State}, PortTurns p y e1Parts s u → y.heard = (s.e1 p).heard →
      PortTurns p (u.e1 p) e1Parts s u ∧ (u.e1 p).heard = (s.e1 p).heard :=
    fun hu hy => ⟨hu.congr hu.same.symm, by rw [hu.same, hy]⟩
  split
  · exact hKept hNoted rfl
  · split
    · exact hKept ((hNoted.mod E1.repeatFrame).then (State.e1Slip_adds (C := reportParts) p 7 _)) rfl
    · split
      · exact hKept ((hNoted.mod E1.dropFrame).then (State.e1Slip_adds (C := reportParts) p 7 _)) rfl
      · exact hKept hNoted rfl

theorem State.cesRestart_turns (p : Nat) (s : State) : PortTurns p ((s.cesRestart p).e1 p) playParts s (s.cesRestart p) := by
  unfold State.cesRestart
  dsimp only
  have hAll := (State.modE1_turns (C := playParts) p (fun x => { x with
    playing := false, margins := [], sinceSlip := 64
    lostRun := 0, playRun := 0, played := [], txq := [], skip := false }) s).then
    (State.removeAll_adds (C := poolParts) (1208 + p) (s.queue (1208 + p)).pkts [] _)
  exact hAll.congr hAll.same.symm

theorem State.cesRestart_arrivals (p : Nat) (s : State) : (s.cesRestart p).queue (1200 + p) = s.queue (1200 + p) := by
  have hNe : 1200 + p ≠ 1208 + p := by omega
  unfold State.cesRestart
  dsimp only
  rw [State.removeAll_other hNe]
  rfl

theorem State.cesPlace_takes {k : Packet} {r : List Packet} (h : (s.queue (1200 + p)).pkts = k :: r) (l : Packet) :
    Takes p r s (s.cesPlace p l) := by
  unfold State.cesPlace
  dsimp only
  split
  · exact State.cesDiscard_takes h l _
  · split
    · exact State.cesDiscard_takes h l _
    · split
      · have hRestart := s.cesRestart_turns p
        have hArrivals := (congrArg Queue.pkts (s.cesRestart_arrivals p)).trans h
        generalize s.cesRestart p = s1 at hRestart hArrivals ⊢
        obtain ⟨hAdds, hPkts, hOther⟩ := State.cesHold_takes hArrivals (pktSeq (s.cesCfg p) l.bytes) l
        have hHeld : Takes p r s (s1.cesHold p (pktSeq (s.cesCfg p) l.bytes) l) :=
          ⟨hRestart.adds.trans hAdds, hPkts, fun j hj => (hOther j hj).trans (hRestart.other j hj)⟩
        have hTold := ((State.inc_adds (C := reportParts) (e1Cnt p 15) (s1.cesHold p (pktSeq (s.cesCfg p) l.bytes) l)).trans
          (State.e1Event_adds p 3 0 _)).turns p
        exact (hHeld.then hTold).then (State.modE1_turns p _ _)
      · split
        · exact State.cesDiscard_takes h l _
        · exact (State.cesHold_takes h _ l).then (State.jbMargin_turns p _ _ _).1

/-- What an arrival on a circuit does. -/
structure Arrives (p : Nat) (k : Packet) (r : List Packet) (s t : State) : Prop where
  takes : Takes p r s t
  refused : s.cesOn p = false ∨ cesAccepts (s.e1Cfg p).framed (s.cesCfg p) k.bytes = false →
    t.e1 p = s.e1 p ∧ (t.queue (1208 + p)).pkts = (s.queue (1208 + p)).pkts
  begins : s.cesOn p = true → cesAccepts (s.e1Cfg p).framed (s.cesCfg p) k.bytes = true → (s.e1 p).playing = false →
    (t.e1 p).heard = (true, pktSeq (s.cesCfg p) k.bytes, pktR (s.cesCfg p) k.bytes, pktL (s.cesCfg p) k.bytes)
    ∧ (t.queue (1208 + p)).pkts
      = insertSeq (s.cesCfg p) (pktSeq (s.cesCfg p) k.bytes) k (s.queue (1208 + p)).pkts

/-- A packet that leaves the arrival queue for FREE leaves the port and its jitter buffer. -/
theorem pop_refused (i : Nat) (k : Packet) (s : State) :
    ((s.cesDiscard p k i).queue (1208 + p)).pkts = (s.queue (1208 + p)).pkts ∧ (s.cesDiscard p k i).e1 p = s.e1 p := by
  have hNe : 1208 + p ≠ 1200 + p := by omega
  unfold State.cesDiscard
  have hCount := State.inc_adds (C := reportParts) (e1Cnt p i)
    ((s.modQueue (1200 + p) (fun q => { q with pkts := q.pkts.drop 1 })).freePacket (1200 + p) k)
  constructor
  · rw [hCount.queue, State.freePacket_pkts, State.queue_modQueue_other hNe]
  · rw [hCount.e1, (State.freePacket_adds (C := poolParts) _ _ _).e1]
    rfl

/-- The packet's two bits are noted. -/
def State.bitsNoted (p : Nat) (k : Packet) (s : State) : State :=
  let c := s.cesCfg p
  let r := pktR c k.bytes
  let s0 := s.modE1 p (fun x => { x with rRx := r, lRx := pktL c k.bytes })
  if r then s0.inc (e1Cnt p 16) else s0

theorem State.bitsNoted_turns (p : Nat) (k : Packet) (s : State) :
    PortTurns p { s.e1 p with rRx := pktR (s.cesCfg p) k.bytes, lRx := pktL (s.cesCfg p) k.bytes } e1Parts s
      (s.bitsNoted p k) := by
  have hMod := State.modE1_turns (C := e1Parts) p (fun x =>
    { x with rRx := pktR (s.cesCfg p) k.bytes, lRx := pktL (s.cesCfg p) k.bytes }) s
  exact .ite (hMod.then (State.inc_adds (C := reportParts) _ _)) hMod

theorem State.bitsNoted_sameDevice (p : Nat) (k : Packet) (s : State) : SameDevice s (s.bitsNoted p k) := by
  unfold State.bitsNoted
  dsimp only
  split
  · refine SameDevice.trans ?_ (State.inc_sameDevice _ _)
    exact ⟨rfl, rfl, rfl⟩
  · exact ⟨rfl, rfl, rfl⟩

/-- The circuit begins to play from a packet's SEQ. -/
def E1.begins (seq start : Nat) (x : E1) : E1 := { x with playing := true, nextSeq := seq, start := start }

/-- What the circuit makes of the head packet of its arrival queue. -/
def State.arrival (p : Nat) (k : Packet) (s : State) : State :=
  let c := s.cesCfg p
  if !s.cesOn p then (s.modQueue (1200 + p) (fun q => { q with pkts := q.pkts.drop 1 })).freePacket (1200 + p) k
  else if !cesAccepts (s.e1Cfg p).framed c k.bytes then s.cesDiscard p k 13
  else if (s.e1 p).playing then (s.bitsNoted p k).cesPlace p k
  else
    (((s.bitsNoted p k).cesHold p (pktSeq c k.bytes) k).modE1 p
      (E1.begins (pktSeq c k.bytes) (s.boundaryAfter c.jbDepth))).jbMargin p c.jbDepth
        (s.ticksTo (s.boundaryAfter c.jbDepth))

theorem exec_cesPacketArrival {p : E1No} {k : Packet} {r : List Packet} (hClocked : s.clocked 6 = true)
    (hHold : s.clk.rootHold = false) (h : (s.queue (1200 + p.val)).pkts = k :: r) :
    exec (.cesPacketArrival p) s = .next (s.arrival p.val k) := by
  have hActs : ¬ (!s.clocked 6 || s.clk.rootHold) = true := by
    rw [hClocked, hHold]
    exact Bool.false_ne_true
  change Host.Outcome.next _ = _
  rw [Host.Outcome.next.injEq]
  split
  next hNone => rw [h] at hNone; exact absurd hNone (List.cons_ne_nil k r)
  next l m hCons =>
    obtain ⟨rfl, rfl⟩ := List.cons.inj (h.symm.trans hCons)
    exact if_neg hActs

theorem State.arrival_arrives {k : Packet} {r : List Packet} (h : (s.queue (1200 + p)).pkts = k :: r) :
    Arrives p k r s (s.arrival p k) := by
  unfold State.arrival
  dsimp only
  cases hOn : s.cesOn p with
  | false =>
    rw [if_pos Bool.not_false]
    have hNe : 1208 + p ≠ 1200 + p := by omega
    have hPop := State.modQueue_adds (C := poolParts) (1200 + p) (fun q => { q with pkts := q.pkts.drop 1 }) s
    have hPopped := State.pop_pkts h
    have hKeeps := State.queue_modQueue_other hNe (fun q => { q with pkts := q.pkts.drop 1 }) s
    generalize s.modQueue (1200 + p) (fun q => { q with pkts := q.pkts.drop 1 }) = s1 at hPop hPopped hKeeps ⊢
    have hAll := hPop.trans (State.freePacket_adds (1200 + p) k s1)
    refine ⟨⟨hAll.mono rfl, ?_, fun j _ => hAll.e1 j⟩, fun _ => ⟨hAll.e1 p, ?_⟩, fun hOpen => absurd (hOn.symm.trans hOpen) Bool.false_ne_true⟩
    · rw [State.freePacket_pkts]
      exact hPopped
    · rw [State.freePacket_pkts, hKeeps]
  | true =>
    rw [if_neg (by decide)]
    cases hAccepts : cesAccepts (s.e1Cfg p).framed (s.cesCfg p) k.bytes with
    | false =>
      rw [if_pos Bool.not_false]
      obtain ⟨hBuffer, hPort⟩ := pop_refused (p := p) 13 k s
      exact ⟨State.cesDiscard_takes h k 13, fun _ => ⟨hPort, hBuffer⟩,
        fun _ hOpen => absurd (hAccepts.symm.trans hOpen) Bool.false_ne_true⟩
    | true =>
      rw [if_neg (by decide)]
      have hNoted := s.bitsNoted_turns p k
      have hDevice := s.bitsNoted_sameDevice p k
      have hRefused : s.cesOn p = false ∨ cesAccepts (s.e1Cfg p).framed (s.cesCfg p) k.bytes = false → False := by
        rintro (hOff | hOff)
        · exact Bool.false_ne_true (hOff.symm.trans hOn)
        · exact Bool.false_ne_true (hOff.symm.trans hAccepts)
      generalize s.bitsNoted p k = s1 at hNoted hDevice ⊢
      have hHead : (s1.queue (1200 + p)).pkts = k :: r := by rw [hNoted.adds.queue]; exact h
      have hFrom {t : State} (hTakes : Takes p r s1 t) : Takes p r s t :=
        ⟨(hNoted.adds.mono (C := playParts) rfl).trans hTakes.adds, hTakes.pkts, fun j hj => (hTakes.other j hj).trans (hNoted.other j hj)⟩
      cases hPlays : (s.e1 p).playing with
      | true =>
        rw [if_pos rfl]
        exact ⟨hFrom (State.cesPlace_takes hHead k), fun hOff => (hRefused hOff).elim,
          fun _ _ hIdle => absurd (hIdle.symm.trans hPlays) Bool.false_ne_true⟩
      | false =>
        rw [if_neg Bool.false_ne_true]
        have hHeld := State.cesHold_takes hHead (pktSeq (s.cesCfg p) k.bytes) k
        have hBuffer := s1.cesHold_buffer p (pktSeq (s.cesCfg p) k.bytes) k
        have hPort := (s1.cesHold_e1 p (pktSeq (s.cesCfg p) k.bytes) p k).trans hNoted.same
        generalize s1.cesHold p (pktSeq (s.cesCfg p) k.bytes) k = s2 at hHeld hBuffer hPort ⊢
        have hBegins := State.modE1_turns (C := e1Parts) p
          (E1.begins (pktSeq (s.cesCfg p) k.bytes) (s.boundaryAfter (s.cesCfg p).jbDepth)) s2
        rw [hPort] at hBegins
        generalize State.modE1 p _ s2 = s3 at hBegins ⊢
        obtain ⟨hMargin, hHeard⟩ := s3.jbMargin_turns p (s.cesCfg p).jbDepth (s.ticksTo (s.boundaryAfter (s.cesCfg p).jbDepth))
        refine ⟨hFrom ((hHeld.then hBegins).then hMargin), fun hOff => (hRefused hOff).elim, fun _ _ _ => ⟨?_, ?_⟩⟩
        · rw [hHeard, hBegins.same]
          rfl
        · rw [hMargin.adds.queue, hBegins.adds.queue, hBuffer, hDevice.cesCfg, hNoted.adds.queue]

theorem cesPacketArrival_completes {p : E1No} {k : Packet} {r : List Packet} (hClocked : s.clocked 6 = true)
    (hHold : s.clk.rootHold = false) (h : (s.queue (1200 + p.val)).pkts = k :: r) :
    completesWith (.cesPacketArrival p) s (fun t =>
      (t.queue (1200 + p.val)).pkts = r ∧ (∀ j, j ≠ p.val → t.e1 j = s.e1 j)
      ∧ (s.cesOn p.val = false ∨ cesAccepts (s.e1Cfg p.val).framed (s.cesCfg p.val) k.bytes = false →
        t.e1 p.val = s.e1 p.val ∧ (t.queue (1208 + p.val)).pkts = (s.queue (1208 + p.val)).pkts)
      ∧ (s.cesOn p.val = true → cesAccepts (s.e1Cfg p.val).framed (s.cesCfg p.val) k.bytes = true →
        (s.e1 p.val).playing = false →
        (t.e1 p.val).playing = true ∧ (t.e1 p.val).nextSeq = pktSeq (s.cesCfg p.val) k.bytes
        ∧ (t.e1 p.val).rRx = pktR (s.cesCfg p.val) k.bytes ∧ (t.e1 p.val).lRx = pktL (s.cesCfg p.val) k.bytes
        ∧ (t.queue (1208 + p.val)).pkts
          = insertSeq (s.cesCfg p.val) (pktSeq (s.cesCfg p.val) k.bytes) k (s.queue (1208 + p.val)).pkts)
      ∧ t = { s.reporting t with e1s := t.e1s, pool := t.pool }) := by
  obtain ⟨hTakes, hRefused, hBegins⟩ := State.arrival_arrives h
  refine ⟨_, exec_cesPacketArrival hClocked hHold h, hTakes.pkts, hTakes.other, hRefused, fun hOn hAccepts hIdle => ?_,
    hTakes.adds.within.eq_merge⟩
  obtain ⟨hHeard, hBuffer⟩ := hBegins hOn hAccepts hIdle
  simp only [E1.heard, Prod.mk.injEq] at hHeard
  obtain ⟨hPlays, hSeq, hR, hL⟩ := hHeard
  exact ⟨hPlays, hSeq, hR, hL, hBuffer⟩

theorem cesPacketArrival_ignored {p : E1No} (h : s.clocked 6 = false ∨ (s.queue (1200 + p.val)).pkts = []) :
    exec (.cesPacketArrival p) s = .next s := by
  change Host.Outcome.next _ = _
  rw [Host.Outcome.next.injEq]
  split
  · rfl
  next k r hCons =>
    refine if_pos ?_
    rw [h.resolve_right (by rw [hCons]; exact List.cons_ne_nil k r)]
    rfl

end Sys2Proof.Machine
end

section
/-!
# Circuits: playout

At a start instant the packet whose turn it is plays, or FILL in its place, and the next one's turn comes.
-/
namespace Sys2Proof.Machine

-- One theorem after another: the stacks of many that wait at once would exceed the memory of the check.
set_option Elab.async false

variable {s t u : State} {p : Nat}

/-- Where a port stands in its circuit's sequence: the next SEQ, its start, and the runs of lost and played packets. -/
def E1.turn (x : E1) : Nat × Nat × Nat × Nat := (x.nextSeq, x.start, x.lostRun, x.playRun)

/-- The frames of a packet start to play where a port has none left to send: the first is sent, the others wait. -/
def Plays (p : Nat) (fs : List (List Byte)) (x : E1) (t : State) : Prop :=
  x.skip = false → x.txq = [] → fs.headD [] ≠ [] → .e1 p (fs.headD []) ∈ t.out ∧ (t.e1 p).txq = fs.tail

theorem State.e1Send_e1 (p : Nat) (f : List Byte) (s : State) :
    ((s.e1Send p f).e1 p).turn = (s.e1 p).turn ∧ ((s.e1Send p f).e1 p).txq = (s.e1 p).txq := by
  have hMod := State.e1_modE1_same p (fun x : E1 => { x with
    lastPlayed := f
    txCrc := if (s.e1Cfg p).framed then crc4 x.txCrc (e1Slots p s.bnd (s.cesCfg p).tsMask 31 f) else x.txCrc }) s
  have hSame : (s.e1Send p f).e1 p = _ := Eq.trans (by unfold State.e1Send; dsimp only; split <;> rfl) hMod
  rw [hSame]
  exact ⟨rfl, rfl⟩

theorem State.e1Send_sends {f : List Byte} (h : f ≠ []) (s : State) : .e1 p f ∈ (s.e1Send p f).out := by
  have hFull : ¬ f.isEmpty = true := by rwa [List.isEmpty_iff]
  unfold State.e1Send
  dsimp only
  rw [if_neg hFull]
  exact List.mem_cons_self

theorem State.playFrames_plays (p : Nat) (fs : List (List Byte)) (s : State) :
    Adds e1Parts s (s.playFrames p fs) ∧ ((s.playFrames p fs).e1 p).turn = (s.e1 p).turn
    ∧ Plays p fs (s.e1 p) (s.playFrames p fs) := by
  unfold State.playFrames
  dsimp only
  split
  next hBusy =>
    have hMod := State.modE1_turns (C := e1Parts) p
      (fun y => { y with txq := y.txq ++ fs.drop (b2n y.skip), skip := false }) s
    refine ⟨hMod.adds, by rw [hMod.same]; rfl, fun hSkip hQueue _ => ?_⟩
    rw [hSkip, hQueue] at hBusy
    exact absurd hBusy Bool.false_ne_true
  next =>
    have hMod := State.modE1_turns (C := e1Parts) p (fun y => { y with txq := fs.tail }) s
    generalize s.modE1 p (fun y => { y with txq := fs.tail }) = s1 at hMod ⊢
    obtain ⟨hTurn, hQueue⟩ := s1.e1Send_e1 p (fs.headD [])
    have hSend : Adds e1Parts s1 (s1.e1Send p (fs.headD [])) := (State.e1Send_within p _ s1).adds
    refine ⟨hMod.adds.trans hSend, ?_, fun _ _ hFrame => ⟨State.e1Send_sends hFrame s1, ?_⟩⟩
    · rw [hTurn, hMod.same]
      rfl
    · rw [hQueue, hMod.same]

theorem State.cesLops_keeps (p : Nat) (s : State) :
    Adds e1Parts s (s.cesLops p) ∧ ((s.cesLops p).e1 p).turn = (s.e1 p).turn
    ∧ ((s.cesLops p).e1 p).txq = (s.e1 p).txq ∧ KeepsOut s (s.cesLops p) := by
  have hMoved {f : E1 → E1} (k : Nat) (hf : ∀ x, (f x).turn = x.turn ∧ (f x).txq = x.txq) :
      Adds e1Parts s ((s.modE1 p f).e1Event p 3 k) ∧ (((s.modE1 p f).e1Event p 3 k).e1 p).turn = (s.e1 p).turn
      ∧ (((s.modE1 p f).e1Event p 3 k).e1 p).txq = (s.e1 p).txq ∧ KeepsOut s ((s.modE1 p f).e1Event p 3 k) := by
    have hTurns := (State.modE1_turns (C := e1Parts) p f s).then (State.e1Event_adds (C := reportParts) p 3 k _)
    refine ⟨hTurns.adds, ?_, ?_, State.raise_keepsOut _ _ _ (s.modE1 p f)⟩
    · rw [hTurns.same]
      exact (hf _).1
    · rw [hTurns.same]
      exact (hf _).2
  unfold State.cesLops
  dsimp only
  split
  · exact hMoved 1 (fun _ => ⟨rfl, rfl⟩)
  · split
    · exact hMoved 2 (fun _ => ⟨rfl, rfl⟩)
    · exact ⟨.refl _ s, rfl, rfl, fun _ h => h⟩

/-- Frames play, and the circuit enters or leaves LOPS. -/
theorem State.played_plays (p : Nat) (fs : List (List Byte)) (s : State) :
    Adds e1Parts s ((s.playFrames p fs).cesLops p) ∧ (((s.playFrames p fs).cesLops p).e1 p).turn = (s.e1 p).turn
    ∧ Plays p fs (s.e1 p) ((s.playFrames p fs).cesLops p) := by
  obtain ⟨hAdds, hTurn, hPlays⟩ := s.playFrames_plays p fs
  generalize s.playFrames p fs = s1 at hAdds hTurn hPlays ⊢
  obtain ⟨hLopsAdds, hLopsTurn, hLopsQueue, hOut⟩ := s1.cesLops_keeps p
  refine ⟨hAdds.trans hLopsAdds, hLopsTurn.trans hTurn, fun hSkip hQueue hFrame => ?_⟩
  obtain ⟨hSent, hRest⟩ := hPlays hSkip hQueue hFrame
  exact ⟨hOut _ hSent, hLopsQueue.trans hRest⟩

/-- What a start instant makes of a port that stood at `x`: the turn goes on and the frames play. -/
structure Instant (p : Nat) (c : CesCfg) (x : E1) (lost played : Nat) (fs : List (List Byte)) (s t : State) : Prop where
  adds : Adds e1Parts s t
  turn : (t.e1 p).turn = ((x.nextSeq + 1) % 65536, x.start + c.pktFrames, lost, played)
  plays : Plays p fs x t

theorem State.cesLost_instant (p : Nat) (s : State) :
    Instant p (s.cesCfg p) (s.e1 p) ((s.e1 p).lostRun + 1) 0
      (cesFill (s.e1Cfg p).framed (s.cesCfg p) (s.e1 p).lastPlayed) s (s.cesLost p) := by
  unfold State.cesLost
  extract_lets c fill s1
  have hMod := State.modE1_turns (C := e1Parts) p
    (fun y => { y.nextPacket c with lostRun := y.lostRun + 1, playRun := 0 }) s
  have hTold := (hMod.then (State.inc_adds (C := reportParts) (e1Cnt p 10) _)).then
    (State.raiseWin_adds (C := reportParts) 8000 (512 + 4 * p + 2) 0 (s.obj 7 p) 0 s1)
  generalize s1.raiseWin 8000 (512 + 4 * p + 2) 0 (s.obj 7 p) 0 = s2 at hTold ⊢
  obtain ⟨hAdds, hTurn, hPlays⟩ := s2.played_plays p fill
  refine ⟨hTold.adds.trans hAdds, ?_, fun hSkip hQueue hFrame => hPlays ?_ ?_ hFrame⟩
  · rw [hTurn, hTold.same]
    rfl
  · rw [hTold.same]
    exact hSkip
  · rw [hTold.same]
    exact hQueue

theorem State.cesPlay_instant (p : Nat) (b : List Byte) (s : State) :
    Instant p (s.cesCfg p) (s.e1 p) 0 ((s.e1 p).playRun + 1) (cesFrames (s.e1Cfg p).framed (s.cesCfg p) b) s
      (s.cesPlay p b) := by
  unfold State.cesPlay
  extract_lets c
  have hMod := State.modE1_turns (C := e1Parts) p
    (fun y => { y.nextPacket c with playRun := y.playRun + 1, lostRun := 0
                                    played := y.nextSeq :: (y.nextPacket c).played }) s
  generalize State.modE1 p _ s = s1 at hMod ⊢
  obtain ⟨hAdds, hTurn, hPlays⟩ := s1.played_plays p (cesFrames (s.e1Cfg p).framed c b)
  refine ⟨hMod.adds.trans hAdds, ?_, fun hSkip hQueue hFrame => hPlays ?_ ?_ hFrame⟩
  · rw [hTurn, hMod.same]
    rfl
  · rw [hMod.same]
    exact hSkip
  · rw [hMod.same]
    exact hQueue

theorem Instant.congr {c d : CesCfg} {x : E1} {lost played : Nat} {fs gs : List (List Byte)}
    (h : Instant p c x lost played fs s t) (hc : c = d) (hf : fs = gs) : Instant p d x lost played gs s t := hc ▸ hf ▸ h

theorem State.eccRead_node (e : Ecc) (obj : Nat) (s : State) : (s.eccRead e obj).ring.node = s.ring.node := by
  unfold State.eccRead
  split
  · rfl
  · exact (((Sends.refl s.ring).inc _).raiseWin _ _ _ _ _).node
  · exact (((Sends.refl s.ring).inc _).raise _ _ _).node

/-- The head packet of the jitter buffer is read and leaves it. -/
def State.playoutRead (p obj : Nat) (e : Ecc) (k : Packet) (r : List Packet) (s : State) : State :=
  (s.eccRead e obj).removeAll (1208 + p) [k] r

theorem State.playoutRead_adds (p obj : Nat) (e : Ecc) (k : Packet) (r : List Packet) (s : State) :
    Adds poolParts s (s.playoutRead p obj e k r) :=
  (State.eccRead_adds e obj s).trans (State.removeAll_adds (1208 + p) [k] r _)

theorem State.playoutRead_pkts (p obj : Nat) (e : Ecc) (k : Packet) (r : List Packet) (s : State) :
    ((s.playoutRead p obj e k r).queue (1208 + p)).pkts = r := by
  have hQueue := congrArg Queue.pkts (State.removeAll_queue (1208 + p) [k] r (s.eccRead e obj))
  exact hQueue

theorem State.playoutRead_sameDevice (p obj : Nat) (e : Ecc) (k : Packet) (r : List Packet) (s : State) :
    SameDevice s (s.playoutRead p obj e k r) := by
  refine (State.playoutRead_adds p obj e k r s).sameDevice ?_
  exact ((Sends.refl _).removeAll _ _ _).node.trans (State.eccRead_node e obj s)

/-- What a start instant makes of the buffer's head packet, which may not be the one whose turn it is. -/
def State.playHead (p obj : Nat) (e : Ecc) (k : Packet) (r : List Packet) (s : State) : State :=
  if pktSeq (s.cesCfg p) k.bytes = (s.e1 p).nextSeq then
    let s1 := s.playoutRead p obj e k r
    let k1 := k.ecc e
    if k1.checkOk && !k1.bad && !k1.trunc then s1.cesPlay p k1.bytes else s1.cesLost p
  else s.cesLost p

/-- What a start instant leaves, whichever packet there is: the next turn, and what it touches. -/
structure TurnTaken (p : Nat) (c : CesCfg) (s t : State) : Prop where
  adds : Adds playParts s t
  seq : (t.e1 p).nextSeq = ((s.e1 p).nextSeq + 1) % 65536
  start : (t.e1 p).start = (s.e1 p).start + c.pktFrames

theorem Instant.taken {c : CesCfg} {x : E1} {lost played : Nat} {fs : List (List Byte)} (h : Instant p c x lost played fs t u)
    (hBefore : Adds playParts s t) (hx : s.e1 p = x) : TurnTaken p c s u := by
  have hTurn := h.turn
  simp only [E1.turn, Prod.mk.injEq] at hTurn
  obtain ⟨hSeq, hStart, _, _⟩ := hTurn
  rw [hx.symm] at hSeq hStart
  exact ⟨hBefore.trans (h.adds.mono rfl), hSeq, hStart⟩

theorem State.playHead_taken (p obj : Nat) (e : Ecc) (k : Packet) (r : List Packet) (s : State) :
    TurnTaken p (s.cesCfg p) s (s.playHead p obj e k r) := by
  have hRead := s.playoutRead_adds p obj e k r
  have hDevice := s.playoutRead_sameDevice p obj e k r
  unfold State.playHead
  dsimp only
  generalize s.playoutRead p obj e k r = s1 at hRead hDevice ⊢
  have hPort : s.e1 p = s1.e1 p := (hRead.e1 p).symm
  split
  · rw [← hDevice.cesCfg]
    split
    · exact (s1.cesPlay_instant p _).taken (hRead.mono rfl) hPort
    · exact (s1.cesLost_instant p).taken (hRead.mono rfl) hPort
  · exact (s.cesLost_instant p).taken (.refl _ s) rfl

theorem Packet.ecc_of_correctable {e : Ecc} (h : e ≠ .uncorrectable) (k : Packet) : k.ecc e = k := if_neg h

/-- A good packet whose turn it is plays and leaves the buffer. -/
theorem State.playHead_plays {obj : Nat} {e : Ecc} {k : Packet} (r : List Packet)
    (hTurn : pktSeq (s.cesCfg p) k.bytes = (s.e1 p).nextSeq) (hCheck : k.checkOk = true) (hBad : k.bad = false)
    (hTrunc : k.trunc = false) (hEcc : e ≠ .uncorrectable) :
    ((s.playHead p obj e k r).queue (1208 + p)).pkts = r
    ∧ ((s.playHead p obj e k r).e1 p).playRun = (s.e1 p).playRun + 1 ∧ ((s.playHead p obj e k r).e1 p).lostRun = 0
    ∧ Plays p (cesFrames (s.e1Cfg p).framed (s.cesCfg p) k.bytes) (s.e1 p) (s.playHead p obj e k r) := by
  have hRead := s.playoutRead_adds p obj e k r
  have hDevice := s.playoutRead_sameDevice p obj e k r
  have hPkts := s.playoutRead_pkts p obj e k r
  have hGood : (k.checkOk && !k.bad && !k.trunc) = true := by
    rw [hCheck, hBad, hTrunc]
    rfl
  unfold State.playHead
  dsimp only
  rw [if_pos hTurn, Packet.ecc_of_correctable hEcc, if_pos hGood]
  generalize s.playoutRead p obj e k r = s1 at hRead hDevice hPkts ⊢
  have hInstant := s1.cesPlay_instant p k.bytes
  rw [hDevice.cesCfg, hDevice.e1Cfg, hRead.e1 p] at hInstant
  have hRuns := hInstant.turn
  simp only [E1.turn, Prod.mk.injEq] at hRuns
  obtain ⟨_, _, hLost, hPlayed⟩ := hRuns
  exact ⟨by rw [hInstant.adds.queue]; exact hPkts, hPlayed, hLost, hInstant.plays⟩

/-- What a start instant does: the turn of an empty buffer is lost, the head packet of another plays or not. -/
def State.playInstant (p obj : Nat) (e : Ecc) (s : State) : State :=
  match (s.queue (1208 + p)).pkts with
  | [] => s.cesLost p
  | k :: r => s.playHead p obj e k r

theorem State.playInstant_taken (p obj : Nat) (e : Ecc) (s : State) : TurnTaken p (s.cesCfg p) s (s.playInstant p obj e) := by
  unfold State.playInstant
  split
  · exact (s.cesLost_instant p).taken (.refl _ s) rfl
  · exact s.playHead_taken p obj e _ _

theorem State.playInstant_empty (h : (s.queue (1208 + p)).pkts = []) (obj : Nat) (e : Ecc) :
    s.playInstant p obj e = s.cesLost p := by rw [State.playInstant, h]

theorem State.playInstant_head {k : Packet} {r : List Packet} (h : (s.queue (1208 + p)).pkts = k :: r) (obj : Nat) (e : Ecc) :
    s.playInstant p obj e = s.playHead p obj e k r := by rw [State.playInstant, h]

theorem exec_playout (r : CellRead E1No Ecc) (s : State) :
    exec (.playoutStartInstant r) s = execPlayoutStartInstant r s := rfl

theorem exec_playoutStartInstant {p : E1No} (e : Ecc) (hRuns : s.e1Runs p.val = true) (hOn : s.cesOn p.val = true)
    (hPlays : (s.e1 p.val).playing = true) : exec (.playoutStartInstant ⟨p, e⟩) s
      = .next ((s.until (s.playAt p.val)).playInstant p.val (s.obj 8 p.val) e) := by
  have hActs : ¬ (!s.e1Runs p.val || !s.cesOn p.val || !(s.e1 p.val).playing) = true := by
    rw [hRuns, hOn, hPlays]
    exact Bool.false_ne_true
  rw [exec_playout]
  unfold execPlayoutStartInstant
  -- The instant stays a name: written out, the kernel would evaluate the passage of time.
  extract_lets q s0
  split
  · contradiction
  · change _ = Host.Outcome.next (s0.playInstant p.val (s.obj 8 p.val) e)
    split
    next hEmpty => exact congrArg Host.Outcome.next (State.playInstant_empty hEmpty _ _).symm
    next k r hHead => exact congrArg Host.Outcome.next (State.playInstant_head hHead _ _).symm

/-- What a start instant has done, come to in `s0`. -/
structure PlayedOut (p : Nat) (e : Ecc) (c : CesCfg) (framed : Bool) (s s0 t : State) : Prop where
  seq : (t.e1 p).nextSeq = ((s0.e1 p).nextSeq + 1) % 65536
  start : (t.e1 p).start = (s0.e1 p).start + c.pktFrames
  lost : (s0.queue (1208 + p)).pkts = [] → (t.e1 p).lostRun = (s0.e1 p).lostRun + 1 ∧ (t.e1 p).playRun = 0
    ∧ Plays p (cesFill framed c (s0.e1 p).lastPlayed) (s0.e1 p) t
  played : ∀ k r, (s0.queue (1208 + p)).pkts = k :: r → pktSeq c k.bytes = (s0.e1 p).nextSeq → k.checkOk = true →
      k.bad = false → k.trunc = false → e ≠ .uncorrectable →
    (t.queue (1208 + p)).pkts = r ∧ (t.e1 p).playRun = (s0.e1 p).playRun + 1 ∧ (t.e1 p).lostRun = 0
    ∧ Plays p (cesFrames framed c k.bytes) (s0.e1 p) t
  frame : t = { s.passing t with pool := t.pool }

theorem State.playInstant_playedOut {s0 : State} (hBefore : Adds passParts s s0) (hDevice : SameDevice s s0) (p obj : Nat)
    (e : Ecc) : PlayedOut p e (s.cesCfg p) (s.e1Cfg p).framed s s0 (s0.playInstant p obj e) := by
  obtain ⟨hAdds, hSeq, hStart⟩ := s0.playInstant_taken p obj e
  rw [hDevice.cesCfg] at hStart
  have hFrame : Adds [.evt, .host, .ring, .log, .cnt, .out, .now, .bnd, .power, .tide, .line, .e1s, .craft, .pool] s
      (s0.playInstant p obj e) := (Adds.mono hBefore (by rfl)).trans (Adds.mono hAdds (by rfl))
  refine ⟨hSeq, hStart, fun hEmpty => ?_, fun k r hHead hTurn hCheck hBad hTrunc hEcc => ?_, hFrame.within.eq_merge⟩
  · rw [State.playInstant_empty hEmpty]
    have hInstant := s0.cesLost_instant p
    rw [hDevice.cesCfg, hDevice.e1Cfg] at hInstant
    have hRuns := hInstant.turn
    simp only [E1.turn, Prod.mk.injEq] at hRuns
    obtain ⟨_, _, hLost, hPlayed⟩ := hRuns
    exact ⟨hLost, hPlayed, hInstant.plays⟩
  · rw [State.playInstant_head hHead]
    have hPlay := State.playHead_plays (obj := obj) r ((congrArg (pktSeq · k.bytes) (hDevice.cesCfg p)).trans hTurn)
      hCheck hBad hTrunc hEcc
    rw [hDevice.cesCfg, hDevice.e1Cfg] at hPlay
    exact hPlay

theorem playoutStartInstant_completes {p : E1No} (e : Ecc) (hRuns : s.e1Runs p.val = true) (hOn : s.cesOn p.val = true)
    (hPlays : (s.e1 p.val).playing = true) : completesWith (.playoutStartInstant ⟨p, e⟩) s
      (PlayedOut p.val e (s.cesCfg p.val) (s.e1Cfg p.val).framed s (s.until (s.playAt p.val))) :=
  ⟨_, exec_playoutStartInstant e hRuns hOn hPlays,
    State.playInstant_playedOut (State.until_adds _ s) (s.until_sameDevice _) p.val (s.obj 8 p.val) e⟩

theorem playoutStartInstant_ignored {p : E1No} (e : Ecc)
    (h : s.e1Runs p.val = false ∨ s.cesOn p.val = false ∨ (s.e1 p.val).playing = false) :
    exec (.playoutStartInstant ⟨p, e⟩) s = .next s := by
  refine congrArg Host.Outcome.next (if_pos ?_)
  rcases h with hStops | hOff | hIdle
  · rw [hStops]
    rfl
  · rw [hOff, Bool.not_false, Bool.or_true, Bool.true_or]
  · rw [hIdle, Bool.not_false, Bool.or_true]

/-- Settles O37: each command of an E1 port and of its circuit, by what it makes of the port and the two queues. -/
theorem e1Commands : Obligations.E1Commands := by
  unfold Obligations.E1Commands
  refine ⟨fun s p => ⟨fun f hRuns => slipBufferWrite_completes hRuns f, fun hRuns => slipBufferRead_completes hRuns,
    fun f hStops => ?_, fun d on hRuns hFramed hCrc hNew => ?_, fun d on h => e1Defect_ignored h,
    fun hRuns hHeard => rclkLoss_completes hRuns hHeard, fun h => rclkLoss_ignored h,
    fun hRuns hLoop hSel => rclkReturn_completes hRuns hLoop hSel, fun h => rclkReturn_ignored h,
    fun hRuns hFramed hAuto => crc4SearchTimeout_completes hRuns hFramed hAuto, fun h => crc4SearchTimeout_ignored h⟩,
    fun s p => ⟨fun hRuns hOn hFull => cesPacketise_completes hRuns hOn hFull, fun h => cesPacketise_ignored h,
    fun k r hClocked hHold h => cesPacketArrival_completes hClocked hHold h, fun h => cesPacketArrival_ignored h,
    fun e hRuns hOn hPlays => ?_, fun e h => playoutStartInstant_ignored e h⟩⟩
  · have hStopped : (!s.e1Runs p.val) = true := by rw [hStops]; rfl
    exact ⟨congrArg Host.Outcome.next (if_pos hStopped), congrArg Host.Outcome.next (if_pos hStopped)⟩
  · obtain ⟨t, hExec, hTurns, hMarked, hPends⟩ := e1Defect_turns d on hRuns hFramed hCrc hNew
    obtain ⟨hBit, hOthers⟩ := defectsWith_marked (defectPos_lt d) on (s.e1 p.val).defects
    rw [← hMarked] at hBit hOthers
    exact ⟨t, hExec, hBit, hOthers, hPends, hTurns.other, hTurns.adds.within.eq_merge⟩
  · obtain ⟨t, hExec, hSeq, hStart, hLost, hPlayed, hFrame⟩ := playoutStartInstant_completes e hRuns hOn hPlays
    exact ⟨t, hExec, hSeq, hStart, hLost, hPlayed, hFrame⟩

end Sys2Proof.Machine
end

section
/-!
# Gates, the calendar wheel, replication and egress service

A port's gates move alone; a queue leaves the wheel or the park alone; a group's packet is copied and freed; an egress
start takes a queue of its own port.
-/
namespace Sys2Proof.Machine

-- One theorem after another: the stacks of many that wait at once would exceed the memory of the check.
set_option Elab.async false

variable {C D : List Part} {s t u : State}

/-! ### Gates (R363, R364, R977) -/

theorem State.gate_modGate_same (p : Nat) (f : Gate → Gate) (s : State) : (s.modGate p f).gate p = f (s.gate p) :=
  Tab.get_modify_same _ _ _ _

theorem State.gate_modGate_other {p j : Nat} (hj : j ≠ p) (f : Gate → Gate) (s : State) : (s.modGate p f).gate j = s.gate j :=
  Tab.get_modify_other _ _ _ hj

theorem State.endTurn_gate (q j : Nat) (s : State) : (s.endTurn q).gate j = s.gate j := by
  unfold State.endTurn
  dsimp only
  generalize (if q < 128 then q / 8 else 16 + (q - 2048) / 16) = k
  split <;> rfl

theorem State.putGate_gate (p : Nat) (g : Gate) (s : State) :
    (s.putGate p g).gate p = g ∧ ∀ j, j ≠ p → (s.putGate p g).gate j = s.gate j := by
  have hFold (j : Nat) : (s.putGate p g).gate j = (s.modGate p (fun _ => g)).gate j := by
    refine State.foldl_same (fun u => u.gate j) (fun u c => ?_) (List.range 8) _
    split
    · rfl
    · exact State.endTurn_gate _ _ _
  exact ⟨(hFold p).trans (State.gate_modGate_same p _ s), fun j hj => (hFold j).trans (State.gate_modGate_other hj _ s)⟩

theorem Adds.gate (h : Adds D s t) (j : Nat) (hD : D.contains .sched = false := by rfl) : t.gate j = s.gate j :=
  congrArg (fun x : Sched => (Tab.get {} x.gates j : Gate)) (h.within.sched hD)

/-- What an instant in the scheduler touches. -/
def gateInstantParts : List Part :=
  [.evt, .host, .ring, .log, .cnt, .out, .now, .bnd, .power, .tide, .line, .e1s, .craft, .sched]

/-- The swap at its instant. -/
def State.gateSwapped (p : Nat) (a : GateCfg) (w : Nat) (s : State) : State :=
  ((s.until w).putGate p (Gate.swapped a (s.until w).tide.ticks)).raise 290 (s.obj 6 p) 0

theorem exec_gateSwap {p : PortNo} {a : GateCfg} {w : Nat} (h : (s.gate p.val).admin = some (a, w))
    (hHold : s.clk.rootHold = false) : exec (.gateSwap p) s = .next (s.gateSwapped p.val a w) := by
  have hActs : ¬ s.clk.rootHold = true := by rw [hHold]; exact Bool.false_ne_true
  change Host.Outcome.next _ = _
  rw [Host.Outcome.next.injEq]
  split
  next hNone => exact absurd (h.symm.trans hNone) (Option.some_ne_none _)
  next hSome =>
    obtain ⟨rfl, rfl⟩ := Prod.mk.inj (Option.some.inj (h.symm.trans hSome))
    exact if_neg hActs

theorem gateSwap_completes {p : PortNo} {a : GateCfg} {w : Nat} (h : (s.gate p.val).admin = some (a, w))
    (hHold : s.clk.rootHold = false) : completesWith (.gateSwap p) s (fun t =>
      (t.gate p.val).oper = (if a.entries.isEmpty then none else some a) ∧ (t.gate p.val).admin = none
      ∧ (t.gate p.val).mask = gateMask (t.gate p.val).oper t.tide.ticks ∧ t.pends 290
      ∧ (∀ j, j ≠ p.val → t.gate j = s.gate j)
      ∧ t = { s.passing t with sched := t.sched }) := by
  have hUntil := State.until_adds (C := passParts) w s
  refine ⟨_, exec_gateSwap h hHold, ?_⟩
  unfold State.gateSwapped
  generalize s.until w = s1 at hUntil ⊢
  obtain ⟨hGate, hOthers⟩ := State.putGate_gate p.val (Gate.swapped a s1.tide.ticks) s1
  have hPut := State.putGate_adds (C := [.sched]) p.val (Gate.swapped a s1.tide.ticks) s1
  have hRaise := State.raise_adds (C := reportParts) 290 (s.obj 6 p.val) 0 (s1.putGate p.val (Gate.swapped a s1.tide.ticks))
  have hAll : Adds gateInstantParts s _ := ((hUntil.mono (C := gateInstantParts) rfl).trans (hPut.mono rfl)).trans (hRaise.mono rfl)
  have hTide := (hRaise.within.tide rfl).trans (hPut.within.tide rfl)
  have hSame := (hRaise.gate p.val).trans hGate
  generalize (s1.putGate p.val (Gate.swapped a s1.tide.ticks)) = s2 at hPut hRaise hOthers hAll hTide hSame ⊢
  have hPends := State.raise_pends s2 290 (s.obj 6 p.val) 0
  generalize s2.raise 290 (s.obj 6 p.val) 0 = t at hRaise hAll hTide hSame hPends ⊢
  refine ⟨by rw [hSame]; rfl, by rw [hSame]; rfl, by rw [hSame, hTide]; rfl, hPends,
    fun j hj => (hRaise.gate j).trans ((hOthers j hj).trans (hUntil.gate j)), hAll.within.eq_merge⟩

theorem gateSwap_ignored {p : PortNo} (h : (s.gate p.val).admin = none ∨ s.clk.rootHold = true) :
    exec (.gateSwap p) s = .next s := by
  change Host.Outcome.next _ = _
  rw [Host.Outcome.next.injEq]
  split
  · rfl
  next hAdmin => exact if_pos (h.resolve_left (by rw [hAdmin]; exact Option.some_ne_none _))

/-- The instant at which a port's gates change: now, when they are not those of their entry, else the next entry's. -/
def State.gateInstant (p : Nat) (s : State) : State :=
  if gateMask (s.gate p).oper s.tide.ticks = (s.gate p).mask then
    s.until (s.tide.ticks + gateNext (s.gate p).oper s.tide.ticks) else s

theorem State.gateInstant_adds (p : Nat) (s : State) : Adds passParts s (s.gateInstant p) :=
  .ite (State.until_adds _ s) (.refl _ s)

theorem gateChange_completes (p : PortNo) (s : State) : completesWith (.gateChange p) s (fun t =>
      t.gate p.val = { s.gate p.val with mask := gateMask (s.gate p.val).oper t.tide.ticks }
      ∧ (∀ j, j ≠ p.val → t.gate j = s.gate j)
      ∧ (gateMask (s.gate p.val).oper s.tide.ticks ≠ (s.gate p.val).mask → t = { s with sched := t.sched })
      ∧ t = { s.passing t with sched := t.sched }) := by
  have hExec : exec (.gateChange p) s = .next ((s.gateInstant p.val).putGate p.val
      { s.gate p.val with mask := gateMask (s.gate p.val).oper (s.gateInstant p.val).tide.ticks }) := rfl
  have hNow (h : gateMask (s.gate p.val).oper s.tide.ticks ≠ (s.gate p.val).mask) : s.gateInstant p.val = s := if_neg h
  have hTime := s.gateInstant_adds p.val
  refine ⟨_, hExec, ?_⟩
  generalize s.gateInstant p.val = s1 at hNow hTime ⊢
  obtain ⟨hGate, hOthers⟩ := State.putGate_gate p.val
    { s.gate p.val with mask := gateMask (s.gate p.val).oper s1.tide.ticks } s1
  have hPut := State.putGate_adds (C := [.sched]) p.val
    { s.gate p.val with mask := gateMask (s.gate p.val).oper s1.tide.ticks } s1
  generalize s1.putGate p.val { s.gate p.val with mask := gateMask (s.gate p.val).oper s1.tide.ticks } = t
    at hGate hOthers hPut ⊢
  have hAll : Adds gateInstantParts s t := (hTime.mono (C := gateInstantParts) rfl).trans (hPut.mono rfl)
  refine ⟨by rw [hGate, hPut.within.tide rfl], fun j hj => (hOthers j hj).trans (hTime.gate j), fun h => ?_,
    hAll.within.eq_merge⟩
  rw [hNow h] at hPut
  exact hPut.within.eq_merge

/-! ### The calendar wheel (R359 to R361) -/

/-- Of the pool only the queues have moved, beside what passes with time. -/
theorem Within.queuesPassing (h : Within [.evt, .host, .ring, .log, .cnt, .out, .now, .bnd, .power, .tide, .line, .e1s, .craft, .pool] s t)
    (hPool : t.pool = { s.pool with queues := t.pool.queues }) :
    t = { s.passing t with pool := { s.pool with queues := t.pool.queues } } :=
  h.eq_merge.trans (congrArg (fun x => { s.passing t with pool := x }) hPool)

theorem calendarRelease_completes (q : Fin 128) (s : State) : completesWith (.calendarRelease q) s (fun t =>
      t.queue q.val = (if (s.queue q.val).parked || s.clk.rootHold then s.queue q.val
        else { s.queue q.val with release := none })
      ∧ (∀ j, j ≠ q.val → t.queue j = s.queue j)
      ∧ t = { s.passing t with pool := { s.pool with queues := t.pool.queues } }) := by
  have hStays : s = { s.passing s with pool := { s.pool with queues := s.pool.queues } } := rfl
  refine ⟨_, rfl, ?_⟩
  split
  next hRelease =>
    refine ⟨?_, fun _ _ => rfl, hStays⟩
    split
    · rfl
    · rw [← hRelease]
  next r _ =>
    by_cases hWaits : ((s.queue q.val).parked || s.clk.rootHold) = true
    · rw [if_pos hWaits, if_pos hWaits]
      exact ⟨rfl, fun _ _ => rfl, hStays⟩
    · rw [if_neg hWaits, if_neg hWaits]
      have hTime := State.untilNow_adds (C := passParts) (some r) s
      generalize s.untilNow (some r) = s1 at hTime ⊢
      have hPool := hTime.within.pool rfl
      have hMod := State.modQueue_adds (C := [.pool]) q.val (fun x => { x with release := none }) s1
      refine ⟨?_, fun j hj => ?_, Within.queuesPassing ((hTime.within.mono rfl).trans (hMod.within.mono rfl)) ?_⟩
      · rw [State.queue_modQueue_same, hTime.queue]
      · rw [State.queue_modQueue_other hj, hTime.queue]
      · rw [← hPool]
        rfl

/-- A parked queue whose remaining wait is within the horizon moves onto the wheel. -/
def State.unpark (s : State) (q : Nat) : State :=
  if (s.queue q).parked && (s.queue q).release.any (fun r => decide (r ≤ s.now + 4194304)) then
    s.modQueue q (fun x => { x with parked := false }) else s

theorem exec_calendarUnpark (s : State) : exec .calendarUnpark s = .next (if s.clk.rootHold then s
    else (List.range 128).foldl State.unpark (s.until (ceilDiv s.tide.ticks 4194304 * 4194304))) := by
  refine congrArg Host.Outcome.next (if_congr Iff.rfl rfl
    (congrArg (fun f => List.foldl f _ (List.range 128)) (funext fun t => funext fun q => ?_)))
  unfold State.unpark
  split
  next r hRelease => rw [hRelease, Option.any_some]
  next hRelease => rw [hRelease, Option.any_none, Bool.and_false, if_neg Bool.false_ne_true]

/-- A queue once the wheel has come to slot 0. -/
def Queue.unparked (now : Nat) (x : Queue) : Queue :=
  if x.parked && x.release.any (fun r => decide (r ≤ now + 4194304)) then { x with parked := false } else x

theorem State.unpark_queue (t : State) (q j : Nat) :
    (t.unpark q).queue j = if j = q then (t.queue q).unparked t.now else t.queue j := by
  unfold State.unpark Queue.unparked
  by_cases hj : j = q
  · subst hj
    rw [if_pos rfl]
    split
    · exact State.queue_modQueue_same _ _ t
    · rfl
  · rw [if_neg hj]
    split
    · exact State.queue_modQueue_other hj _ t
    · rfl

theorem State.unpark_now (t : State) (q : Nat) : (t.unpark q).now = t.now := by
  unfold State.unpark
  split <;> rfl

theorem State.unpark_frame (t : State) (q : Nat) : t.unpark q = { t with pool := { t.pool with queues := (t.unpark q).pool.queues } } := by
  unfold State.unpark
  split <;> rfl

theorem State.unpark_adds (t : State) (q : Nat) : Adds [.pool] t (t.unpark q) := .ite (State.modQueue_adds _ _ t) (.refl _ t)

theorem unparks_now (l : List Nat) (t : State) : (l.foldl State.unpark t).now = t.now :=
  State.foldl_same State.now State.unpark_now l t

theorem unparks_queue {l : List Nat} (hl : l.Nodup) (t : State) (j : Nat) :
    (l.foldl State.unpark t).queue j = if j ∈ l then (t.queue j).unparked t.now else t.queue j := by
  induction l generalizing t with
  | nil => rw [if_neg List.not_mem_nil]; rfl
  | cons q l ih =>
    obtain ⟨hNew, hRest⟩ := List.nodup_cons.mp hl
    rw [List.foldl_cons, ih hRest, State.unpark_queue, State.unpark_now]
    by_cases hj : j = q
    · subst hj
      rw [if_neg hNew, if_pos rfl, if_pos List.mem_cons_self]
    · simp only [hj, List.mem_cons, false_or, if_false]

theorem unparks_frame (l : List Nat) (t : State) :
    l.foldl State.unpark t = { t with pool := { t.pool with queues := (l.foldl State.unpark t).pool.queues } } := by
  induction l generalizing t with
  | nil => rfl
  | cons q l ih =>
    rw [List.foldl_cons, ih (t.unpark q), State.unpark_frame t q]

theorem calendarUnpark_completes (s : State) : completesWith .calendarUnpark s (fun t =>
      (∀ q, t.queue q = if decide (q < 128) && (s.queue q).parked
          && (s.queue q).release.any (fun r => decide (r ≤ t.now + 4194304)) && !s.clk.rootHold
        then { s.queue q with parked := false } else s.queue q)
      ∧ t = { s.passing t with pool := { s.pool with queues := t.pool.queues } }) := by
  refine ⟨_, exec_calendarUnpark s, ?_⟩
  cases s.clk.rootHold with
  | true =>
    rw [if_pos rfl]
    refine ⟨fun q => ?_, rfl⟩
    rw [Bool.not_true, Bool.and_false, if_neg Bool.false_ne_true]
  | false =>
    rw [if_neg Bool.false_ne_true]
    have hTime := State.until_adds (C := passParts) (ceilDiv s.tide.ticks 4194304 * 4194304) s
    generalize s.until (ceilDiv s.tide.ticks 4194304 * 4194304) = s1 at hTime ⊢
    have hQueues := unparks_queue (List.nodup_range (n := 128)) s1
    have hNow := unparks_now (List.range 128) s1
    have hFrame := congrArg State.pool (unparks_frame (List.range 128) s1)
    have hMoved := Adds.foldl (C := [.pool]) (fun t q => State.unpark_adds t q) (List.range 128) s1
    generalize (List.range 128).foldl State.unpark s1 = t at hQueues hNow hFrame hMoved ⊢
    refine ⟨fun q => ?_, Within.queuesPassing ((hTime.within.mono rfl).trans (hMoved.within.mono rfl)) ?_⟩
    · rw [hQueues q, hTime.queue, hNow, Queue.unparked]
      by_cases hq : q < 128
      · rw [if_pos (List.mem_range.mpr hq), decide_eq_true hq, Bool.true_and, Bool.not_false, Bool.and_true]
      · rw [if_neg (fun h => hq (List.mem_range.mp h)), decide_eq_false hq, Bool.false_and, Bool.false_and, Bool.false_and,
          if_neg Bool.false_ne_true]
    · rw [← hTime.within.pool rfl]
      exact hFrame

/-! ### Replication (R386 to R389) -/

theorem State.copyTo_adds (g q : Nat) (p : Packet) (s : State) (hC : Covers poolParts C := by rfl) :
    Adds C s (s.copyTo g q p) := by
  have hOffer := State.offer_adds q p s hC
  have hRefused := hOffer.trans (((State.inc_adds (C := poolParts) (0x4000 + g) (s.offer q p).1).trans
    (State.raiseWin_adds 8000 294 0 (s.obj 0xC g) 0 _)).mono hC)
  unfold State.copyTo
  dsimp only
  split
  · exact hRefused
  · exact hRefused
  · exact hOffer

/-- A copy that its queue takes is linked. -/
theorem State.copyTo_granted {q : Nat} {p : Packet} (hRecount : s.pool.recount = false) (hOpen : s.shut q = false)
    (hTake : s.mayTake q p.owner p.cells = .ok) (g : Nat) : s.copyTo g q p = s.link q p := by
  unfold State.copyTo
  rw [State.offer_granted hRecount hOpen hTake]

/-- The queues of this device's members of a group, and the nodes that its copies go to. -/
def localQueues (c : McastCfg) : List Nat :=
  (List.range 16).flatMap (fun p => (c.members.filter (fun m => m.1 == p)).map (fun m => 8 * p + m.2))

def State.copyNodes (s : State) (c : McastCfg) : List Nat :=
  if s.isManager then (List.range 16).filter (fun n => n != 0 && bit c.nodeMask n) else []

theorem localQueues_one {c : McastCfg} {p k : Nat} (h : c.members = [(p, k)]) (hp : p < 16) : localQueues c = [8 * p + k] := by
  unfold localQueues
  rw [h]
  interval_cases p <;> rfl

theorem State.copyNodes_none {c : McastCfg} (h : c.nodeMask = 0) (s : State) : s.copyNodes c = [] := by
  unfold State.copyNodes
  rw [h]
  split
  · decide
  · rfl

/-- The copies of a group's packet. -/
def State.copies (g : Nat) (p : Packet) (qs nodes : List Nat) (ringClass : Nat) (s : State) : State :=
  nodes.foldl (fun t n => t.copyTo g (t.ringQueue n ringClass) { p with dest := 1536 + g })
    (qs.foldl (fun t q => t.copyTo g q p) s)

theorem State.copies_adds (g : Nat) (p : Packet) (qs nodes : List Nat) (ringClass : Nat) (s : State) :
    Adds poolParts s (s.copies g p qs nodes ringClass) :=
  (Adds.foldl (fun t q => t.copyTo_adds g q p) qs s).trans (.foldl (fun t _ => t.copyTo_adds _ _ _) nodes _)

theorem State.copies_one (g q ringClass : Nat) (p : Packet) (s : State) : s.copies g p [q] [] ringClass = s.copyTo g q p := rfl

theorem State.eccRead_none (obj : Nat) (s : State) : s.eccRead .none obj = s := rfl

/-- A group's head packet `x` is read, copied to each member and freed. -/
def State.replicated (g : Nat) (e : Ecc) (x : Packet) (l : List Packet) (s : State) : State :=
  ((s.eccRead e (s.obj 2 (1536 + g))).copies g { x.ecc e with owner := s.cfg.ownerOf (s.obj 0xC g) }
    (localQueues (s.cfg.mcast (s.obj 0xC g))) (s.copyNodes (s.cfg.mcast (s.obj 0xC g)))
    (s.cfg.mcast (s.obj 0xC g)).ringClass).removeAll (1536 + g) [x] l

theorem exec_mcastReplicate {r : CellRead (Fin 256) Ecc} {x : Packet} {l : List Packet}
    (h : (s.queue (1536 + r.on.val)).pkts = x :: l) (hRecount : s.pool.recount = false) (hHold : s.clk.rootHold = false)
    (hWritten : x.writer = 0) : exec (.mcastReplicate r) s = .next (s.replicated r.on.val r.ecc x l) := by
  have hActs : ¬ (s.pool.recount || s.clk.rootHold || x.writer != 0) = true := by
    rw [hRecount, hHold, hWritten]
    decide
  change execMcastReplicate r s = _
  unfold execMcastReplicate
  extract_lets g c
  rw [Host.Outcome.next.injEq]
  split
  next hNone => exact absurd (h.symm.trans hNone) (List.cons_ne_nil x l)
  next y m hCons =>
    obtain ⟨rfl, rfl⟩ := List.cons.inj (h.symm.trans hCons)
    exact if_neg hActs

theorem exec_mcastReplicate_on {g : Fin 256} {x : Packet} {l : List Packet} (e : Ecc)
    (h : (s.queue (1536 + g.val)).pkts = x :: l) (hRecount : s.pool.recount = false) (hHold : s.clk.rootHold = false)
    (hWritten : x.writer = 0) : exec (.mcastReplicate ⟨g, e⟩) s = .next (s.replicated g.val e x l) :=
  exec_mcastReplicate (r := ⟨g, e⟩) h hRecount hHold hWritten

theorem State.replicated_frees (g : Nat) (e : Ecc) (x : Packet) (l : List Packet) (s : State) :
    ((s.replicated g e x l).queue (1536 + g)).pkts = l ∧ Adds poolParts s (s.replicated g e x l) := by
  unfold State.replicated
  have hRead := State.eccRead_adds (C := poolParts) e (s.obj 2 (1536 + g)) s
  generalize s.eccRead e (s.obj 2 (1536 + g)) = s1 at hRead ⊢
  have hCopies := s1.copies_adds g { x.ecc e with owner := s.cfg.ownerOf (s.obj 0xC g) }
    (localQueues (s.cfg.mcast (s.obj 0xC g))) (s.copyNodes (s.cfg.mcast (s.obj 0xC g)))
    (s.cfg.mcast (s.obj 0xC g)).ringClass
  generalize State.copies g _ _ _ _ s1 = s2 at hCopies ⊢
  have hPkts := congrArg Queue.pkts (s2.removeAll_queue (1536 + g) [x] l)
  exact ⟨hPkts, (hRead.trans hCopies).trans (State.removeAll_adds _ _ _ s2)⟩

theorem Adds.poolFrame (h : Adds poolParts s t) : t = { s.reporting t with pool := t.pool } := h.within.eq_merge

theorem mcastReplicate_frees {g : Fin 256} {x : Packet} {l : List Packet} (e : Ecc)
    (h : (s.queue (1536 + g.val)).pkts = x :: l) (hRecount : s.pool.recount = false) (hHold : s.clk.rootHold = false)
    (hWritten : x.writer = 0) : completesWith (.mcastReplicate ⟨g, e⟩) s (fun t =>
      (t.queue (1536 + g.val)).pkts = l ∧ t = { s.reporting t with pool := t.pool }) := by
  obtain ⟨hPkts, hAdds⟩ := s.replicated_frees g.val e x l
  refine ⟨_, exec_mcastReplicate_on e h hRecount hHold hWritten, ?_⟩
  generalize s.replicated g.val e x l = t at hPkts hAdds ⊢
  exact ⟨hPkts, hAdds.poolFrame⟩

theorem Packet.cells_owner (x : Packet) (o : Nat) : ({ x with owner := o } : Packet).cells = x.cells := rfl

/-- A group of one member of this device and of no other node: the packet is linked to the member's queue. -/
theorem State.replicated_one {g p c : Nat} {x : Packet} (l : List Packet)
    (hMembers : (s.cfg.mcast (s.obj 0xC g)).members = [(p, c)]) (hp : p < 16) (hc : c < 8)
    (hNodes : (s.cfg.mcast (s.obj 0xC g)).nodeMask = 0) (hRecount : s.pool.recount = false)
    (hOpen : s.shut (8 * p + c) = false)
    (hTake : s.mayTake (8 * p + c) (s.cfg.ownerOf (s.obj 0xC g)) x.cells = .ok) :
    ((s.replicated g .none x l).queue (8 * p + c)).pkts
      = (s.queue (8 * p + c)).pkts ++ [{ x with owner := s.cfg.ownerOf (s.obj 0xC g) }] := by
  have hNe : 8 * p + c ≠ 1536 + g := by omega
  obtain ⟨y, hCopied⟩ : ∃ y : Packet, y = { x with owner := s.cfg.ownerOf (s.obj 0xC g) } := ⟨_, rfl⟩
  have hOwner : y.owner = s.cfg.ownerOf (s.obj 0xC g) := by rw [hCopied]
  have hCells : y.cells = x.cells := by rw [hCopied, Packet.cells_owner]
  rw [← hOwner, ← hCells] at hTake
  have hOne : s.replicated g .none x l = (s.copyTo g (8 * p + c) y).removeAll (1536 + g) [x] l := by
    unfold State.replicated
    rw [localQueues_one hMembers hp, State.copyNodes_none hNodes, Packet.ecc_of_correctable (by decide),
      State.eccRead_none, ← hCopied, State.copies_one]
  rw [hOne, State.copyTo_granted hRecount hOpen hTake, State.removeAll_other hNe, State.link_pkts, hCopied]

theorem mcastReplicate_copies {g : Fin 256} {x : Packet} {l : List Packet} {p c : Nat}
    (h : (s.queue (1536 + g.val)).pkts = x :: l) (hRecount : s.pool.recount = false) (hHold : s.clk.rootHold = false)
    (hWritten : x.writer = 0) (hMembers : (s.cfg.mcast (s.obj 0xC g.val)).members = [(p, c)]) (hp : p < 16) (hc : c < 8)
    (hNodes : (s.cfg.mcast (s.obj 0xC g.val)).nodeMask = 0) (hIntake : s.intakeStopped = false)
    (hPort : s.egressTakes (8 * p + c) = true)
    (hTake : s.mayTake (8 * p + c) (s.cfg.ownerOf (s.obj 0xC g.val)) x.cells = .ok) :
    completesWith (.mcastReplicate ⟨g, .none⟩) s (fun t =>
      (t.queue (8 * p + c)).pkts = (s.queue (8 * p + c)).pkts ++ [{ x with owner := s.cfg.ownerOf (s.obj 0xC g.val) }]
      ∧ (t.queue (1536 + g.val)).pkts = l
      ∧ t = { s.reporting t with pool := t.pool }) := by
  have hOpen : s.shut (8 * p + c) = false := shut_upstream hIntake hPort (fun h => by omega)
  obtain ⟨hPkts, hAdds⟩ := s.replicated_frees g.val .none x l
  exact ⟨_, exec_mcastReplicate_on .none h hRecount hHold hWritten,
    State.replicated_one l hMembers hp hc hNodes hRecount hOpen hTake, hPkts, hAdds.poolFrame⟩

theorem mcastReplicate_ignored {r : CellRead (Fin 256) Ecc}
    (h : (s.queue (1536 + r.on.val)).pkts = [] ∨ s.pool.recount = true ∨ s.clk.rootHold = true) :
    exec (.mcastReplicate r) s = .next s := by
  change execMcastReplicate r s = _
  unfold execMcastReplicate
  extract_lets g c
  rw [Host.Outcome.next.injEq]
  split
  · rfl
  next x l hCons =>
    refine if_pos ?_
    rcases h.resolve_left (by rw [hCons]; exact List.cons_ne_nil x l) with hRecount | hHold
    · rw [hRecount]
      rfl
    · rw [hHold, Bool.or_true, Bool.true_or]

/-! ### Egress service (R355 to R357, R369, R974) -/

theorem drrWrap_queues (l : List DrrQ) : (drrWrap l).map (·.q) = l.map (·.q) := by
  unfold drrWrap
  rw [List.map_map]
  refine congrArg (List.map · l) (funext fun x => ?_)
  dsimp only [Function.comp_apply]
  split <;> rfl

theorem drrTurn_queues (q : Nat) (l : List DrrQ) : (drrTurn q l).map (·.q) = l.map (·.q) := by
  unfold drrTurn
  rw [List.map_map]
  refine congrArg (List.map · l) (funext fun x => ?_)
  dsimp only [Function.comp_apply]
  split <;> rfl

/-- A selection chooses a queue of its group. -/
theorem drrPick_mem {fuel ptr q : Nat} {l : List DrrQ} (h : (drrPick fuel ptr l).1 = some q) : q ∈ l.map (·.q) := by
  have hTurned (y : DrrQ) (c : Prop) [Decidable c] (l : List DrrQ) :
      (drrTurn y.q (if c then drrWrap l else l)).map (·.q) = l.map (·.q) := by
    rw [drrTurn_queues]
    split
    · exact drrWrap_queues l
    · rfl
  induction fuel generalizing ptr l with
  | zero => exact nomatch h
  | succ fuel ih =>
    simp only [drrPick] at h
    split at h
    next x hFind =>
      split at h
      · rw [Option.some.injEq] at h
        exact h ▸ List.mem_map_of_mem (List.mem_of_find?_eq_some hFind)
      · split at h
        · exact nomatch h
        · have hMem := ih h
          rwa [hTurned] at hMem
    next =>
      split at h
      · exact nomatch h
      · have hMem := ih h
        rwa [hTurned] at hMem

theorem State.dropHead_adds (q : Nat) (p : Packet) (b : Bool) (s : State) (hC : Covers poolParts C := by rfl) :
    Adds C s (s.dropHead q p b) := by
  have hFreed := ((State.modQueue_adds (C := poolParts) q (fun x => { x with pkts := x.pkts.drop 1 }) s).trans
    (State.freePacket_adds q p _)).mono hC
  have hReport {u : State} (h : Adds reportParts ((s.modQueue q (fun x => { x with pkts := x.pkts.drop 1 })).freePacket q p) u) :
      Adds C s u := hFreed.trans ((h.mono (C := poolParts) rfl).mono hC)
  exact .ite (hReport ((State.inc_adds _ _).trans (State.raiseWin_adds _ _ _ _ _ _))) (hReport (State.queueDrop_adds _ _ _))

theorem State.dropHeads_adds (q : Nat) (l : List Packet) (s : State) (hC : Covers poolParts C := by rfl) :
    Adds C s (State.dropHeads q l s) := by
  induction l generalizing s with
  | nil => exact .refl _ s
  | cons p l ih =>
    simp only [State.dropHeads]
    split
    · exact (State.dropHead_adds q p _ s hC).trans (ih _)
    · exact .refl _ s

theorem State.shape_adds (q : Nat) (s : State) (hC : Covers [.pool] C := by rfl) : Adds C s (s.shape q) := by
  unfold State.shape
  split
  · exact .refl _ s
  · exact .ite (.refl _ s) (State.modQueue_adds _ _ s hC)

/-- A port's queues once heads that may never be sent are discarded and the others shaped. -/
def State.readied (p : Nat) (s : State) : State :=
  (List.range 8).foldl (fun t c => (State.dropHeads (8 * p + c) (t.queue (8 * p + c)).pkts t).shape (8 * p + c)) s

theorem State.readied_adds (p : Nat) (s : State) : Adds poolParts s (s.readied p) :=
  .foldl (fun t _ => (State.dropHeads_adds _ _ t).trans (State.shape_adds _ _)) _ s

theorem State.putDeficits_adds (l : List DrrQ) (s : State) (hC : Covers [.pool] C := by rfl) : Adds C s (s.putDeficits l) :=
  .foldl (fun t _ => State.modQueue_adds _ _ t hC) l s

theorem Adds.port (h : Adds D s t) (j : Nat) (hD : D.contains .ports = false := by rfl) : t.port j = s.port j :=
  congrArg (fun l : Tab Port => (Tab.get {} l j : Port)) (h.within.ports hD)

theorem State.port_modPort_other {p j : Nat} (hj : j ≠ p) (f : Port → Port) (s : State) : (s.modPort p f).port j = s.port j :=
  Tab.get_modify_other _ _ _ hj

/-- What an egress start touches, beside the round robin's pointer. -/
def egressParts : List Part := [.evt, .host, .ring, .log, .cnt, .out, .pool, .ports]

/-- From `s` to `t` the head packet of queue `q` has started at port `p`. -/
structure Starts (p q : Nat) (h : Packet) (r : List Packet) (s t : State) : Prop where
  tx : (t.port p).tx = some { queue := q, packet := h, charged := s.headLen q h }
  sending : (t.queue q).sending = true
  pkts : (t.queue q).pkts = h :: r
  other : ∀ j, j ≠ p → t.port j = s.port j
  adds : Adds egressParts s t

theorem State.startFrame_starts {q : Nat} {h : Packet} {r : List Packet} (hHead : (s.queue q).pkts = h :: r) (p : Nat) :
    Starts p q h r s (s.startFrame p q) := by
  have hFrame : s.startFrame p q = (s.modQueue q (fun x => { x with
      sending := true, bktA := (s.egrBucket q).debit (s.cfg.shaper (s.obj 2 q)).rateA (s.headLen q h) })).modPort p (fun x =>
        { x with tx := some { queue := q, packet := h, charged := s.headLen q h } }) := by
    unfold State.startFrame
    rw [hHead]
  have hQueue := State.queue_modQueue_same q (fun x => { x with
      sending := true, bktA := (s.egrBucket q).debit (s.cfg.shaper (s.obj 2 q)).rateA (s.headLen q h) }) s
  have hMod := State.modQueue_adds (C := egressParts) q (fun x => { x with
      sending := true, bktA := (s.egrBucket q).debit (s.cfg.shaper (s.obj 2 q)).rateA (s.headLen q h) }) s
  rw [hFrame]
  have hPorts (j : Nat) : (s.modQueue q (fun x => { x with
      sending := true, bktA := (s.egrBucket q).debit (s.cfg.shaper (s.obj 2 q)).rateA (s.headLen q h) })).port j = s.port j := rfl
  generalize s.modQueue q _ = s1 at hQueue hMod hPorts ⊢
  have hStart := State.modPort_adds (C := [.ports]) p
    (fun x => { x with tx := some { queue := q, packet := h, charged := s.headLen q h } }) s1
  have hTx := State.port_modPort_same p
    (fun x => { x with tx := some { queue := q, packet := h, charged := s.headLen q h } }) s1
  refine ⟨congrArg Port.tx hTx, ?_, ?_, fun j hj => (State.port_modPort_other hj _ s1).trans (hPorts j),
    hMod.trans (hStart.mono rfl)⟩
  · rw [hStart.queue, hQueue]
  · rw [hStart.queue, hQueue]
    exact hHead

theorem State.startFrame_idle {q : Nat} (h : (s.queue q).pkts = []) (p : Nat) : s.startFrame p q = s := by
  unfold State.startFrame
  rw [h]

/-- From `s` to `t` nothing but port `p` may have started a packet, the head of one of its own queues. -/
structure Begins (p : Nat) (s t : State) : Prop where
  own : ∀ x, (s.port p).tx = none → (t.port p).tx = some x →
    x.queue / 8 = p ∧ (t.queue x.queue).sending = true ∧ (t.queue x.queue).pkts.head? = some x.packet
  other : ∀ j, j ≠ p → t.port j = s.port j
  adds : Adds egressParts s t

/-- What starts no packet. -/
theorem Adds.begins (h : Adds poolParts s t) (p : Nat) : Begins p s t where
  own := fun x hIdle hTx => by
    rw [h.port p, hIdle] at hTx
    exact nomatch hTx
  other := fun j _ => h.port j
  adds := h.mono rfl

theorem State.startFrame_begins {p q : Nat} (hq : q / 8 = p) (s : State) : Begins p s (s.startFrame p q) := by
  cases hHead : (s.queue q).pkts with
  | nil =>
    rw [State.startFrame_idle hHead]
    exact (Adds.refl _ s).begins p
  | cons h r =>
    obtain ⟨hTx, hSending, hPkts, hOther, hAdds⟩ := State.startFrame_starts hHead p
    refine ⟨fun x _ hStarted => ?_, hOther, hAdds⟩
    rw [hTx, Option.some.injEq] at hStarted
    subst hStarted
    exact ⟨hq, hSending, congrArg List.head? hPkts⟩

theorem Begins.after {p : Nat} (h : Begins p t u) (hBefore : Adds poolParts s t) : Begins p s u where
  own := fun x hIdle => h.own x ((congrArg Port.tx (hBefore.port p)).trans hIdle)
  other := fun j hj => (h.other j hj).trans (hBefore.port j)
  adds := (hBefore.mono (C := egressParts) rfl).trans h.adds

/-- The strict class that may start, the highest first. -/
def State.strictClass (p : Nat) (s : State) : Option Nat :=
  ((List.range (s.cfg.schedOf (s.obj 1 p)).nstrict).map (fun i => 7 - i)).find? (fun c => s.eligible p c)

theorem State.strictClass_lt {p c : Nat} (h : s.strictClass p = some c) : (8 * p + c) / 8 = p := by
  have hMem := List.mem_of_find?_eq_some h
  rw [List.mem_map] at hMem
  obtain ⟨i, _, rfl⟩ := hMem
  omega

/-- The round robin's pointer moves. -/
def State.putPtr (p n : Nat) (s : State) : State := { s with sched := { s.sched with drrPtr := Tab.set 0 s.sched.drrPtr p n } }

/-- The round robin's choice of a port. -/
def State.drrChoice (fuel p : Nat) (s : State) : Option Nat × Nat × List DrrQ :=
  drrPick fuel (Tab.get 0 s.sched.drrPtr p) (s.egressGroup p)

theorem State.drrChoice_own {fuel p q : Nat} (h : (s.drrChoice fuel p).1 = some q) : q / 8 = p := by
  have hMem := drrPick_mem h
  unfold State.egressGroup at hMem
  rw [List.map_map, List.mem_map] at hMem
  obtain ⟨c, hc, rfl⟩ := hMem
  rw [List.mem_range] at hc
  dsimp only [Function.comp_apply]
  omega

/-- What an egress start makes of a port that may start: the highest eligible strict class, or the DRR choice. -/
def State.egress (fuel p : Nat) (s : State) : State :=
  match s.strictClass p with
  | some c => s.startFrame p (8 * p + c)
  | none =>
    match (s.drrChoice fuel p).1 with
    | none => s.putPtr p (s.drrChoice fuel p).2.1
    | some q => ((s.putPtr p (s.drrChoice fuel p).2.1).putDeficits (s.drrChoice fuel p).2.2).startFrame p q

theorem State.egress_strict {p c : Nat} (h : s.strictClass p = some c) (fuel : Nat) : s.egress fuel p = s.startFrame p (8 * p + c) := by
  rw [State.egress, h]

theorem State.egress_none {fuel p : Nat} (h : s.strictClass p = none) (hChoice : (s.drrChoice fuel p).1 = none) :
    s.egress fuel p = s.putPtr p (s.drrChoice fuel p).2.1 := by rw [State.egress, h, hChoice]

theorem State.egress_drr {fuel p q : Nat} (h : s.strictClass p = none) (hChoice : (s.drrChoice fuel p).1 = some q) :
    s.egress fuel p = ((s.putPtr p (s.drrChoice fuel p).2.1).putDeficits (s.drrChoice fuel p).2.2).startFrame p q := by
  rw [State.egress, h, hChoice]

theorem exec_egressStart {p : PortNo} (hLink : (s.port p.val).link = true) (hIdle : (s.port p.val).tx = none)
    (hRecount : s.pool.recount = false) (hHold : s.clk.rootHold = false) :
    exec (.egressStart p) s = .next ((s.readied p.val).egress drrFuel p.val) := by
  have hActs : ¬ (!(s.port p.val).link || (s.port p.val).tx.isSome || s.pool.recount || s.clk.rootHold) = true := by
    rw [hLink, hIdle, hRecount, hHold]
    exact Bool.false_ne_true
  change execEgressStart p s = _
  unfold execEgressStart
  extract_lets x s1 n strict r sched s2
  rw [Host.Outcome.next.injEq, if_neg hActs]
  have hStrict : s1.strictClass p.val = strict := rfl
  clear_value strict
  cases strict with
  | some c => exact (State.egress_strict (s := s1) hStrict drrFuel).symm
  | none =>
    have hChoice : s1.drrChoice drrFuel p.val = r := rfl
    clear_value r
    obtain ⟨choice, ptr, deficits⟩ := r
    cases choice with
    | none =>
      refine ((State.egress_none (s := s1) hStrict (congrArg Prod.fst hChoice)).trans ?_).symm
      rw [hChoice]
      rfl
    | some q =>
      refine ((State.egress_drr (s := s1) hStrict (congrArg Prod.fst hChoice)).trans ?_).symm
      rw [hChoice]
      rfl

theorem egressStart_ignored {p : PortNo} (h : (s.port p.val).link = false ∨ (s.port p.val).tx.isSome = true
    ∨ s.pool.recount = true ∨ s.clk.rootHold = true) : exec (.egressStart p) s = .next s := by
  refine congrArg Host.Outcome.next (if_pos ?_)
  rcases h with hDown | hBusy | hRecount | hHold
  · rw [hDown]
    rfl
  · rw [hBusy, Bool.or_true, Bool.true_or, Bool.true_or]
  · rw [hRecount, Bool.or_true, Bool.true_or]
  · rw [hHold, Bool.or_true]

/-- An egress start leaves the gates and the policers. -/
structure EgressFrame (p : Nat) (s t : State) : Prop where
  own : ∀ x, (s.port p).tx = none → (t.port p).tx = some x →
    x.queue / 8 = p ∧ (t.queue x.queue).sending = true ∧ (t.queue x.queue).pkts.head? = some x.packet
  other : ∀ j, j ≠ p → t.port j = s.port j
  within : Within [.evt, .host, .ring, .log, .cnt, .out, .pool, .ports, .sched] s t
  sched : t.sched = { s.sched with drrPtr := t.sched.drrPtr }

theorem Begins.frame {p : Nat} (h : Begins p s t) : EgressFrame p s t :=
  ⟨h.own, h.other, h.adds.within.mono rfl, by rw [h.adds.within.sched rfl]⟩

theorem State.egress_frame {p : Nat} (hBefore : Adds poolParts s t) (fuel : Nat) : EgressFrame p s (t.egress fuel p) := by
  unfold State.egress
  split
  next c hStrict => exact ((t.startFrame_begins (State.strictClass_lt hStrict)).after hBefore).frame
  next =>
    have hSched : (t.putPtr p (t.drrChoice fuel p).2.1).sched = { s.sched with
        drrPtr := (t.putPtr p (t.drrChoice fuel p).2.1).sched.drrPtr } := by
      rw [← hBefore.within.sched rfl]
      rfl
    have hPtr : Within [.sched] t (t.putPtr p (t.drrChoice fuel p).2.1) := within_of_eq_merge rfl
    have hPort (j : Nat) : (t.putPtr p (t.drrChoice fuel p).2.1).port j = s.port j := hBefore.port j
    split
    · refine ⟨fun x hIdle hTx => ?_, fun j _ => hPort j, (hBefore.within.mono rfl).trans (hPtr.mono rfl), hSched⟩
      rw [hPort, hIdle] at hTx
      exact nomatch hTx
    next q hChoice =>
      have hOwn := State.drrChoice_own hChoice
      generalize t.putPtr p (t.drrChoice fuel p).2.1 = u at hSched hPtr hPort ⊢
      obtain ⟨hTx, hOther, hAdds⟩ := ((u.putDeficits (t.drrChoice fuel p).2.2).startFrame_begins hOwn).after
        (u.putDeficits_adds (t.drrChoice fuel p).2.2)
      refine ⟨fun x hIdle => hTx x ((congrArg Port.tx (hPort p)).trans hIdle), fun j hj => (hOther j hj).trans (hPort j),
        ((hBefore.within.mono rfl).trans (hPtr.mono rfl)).trans (hAdds.within.mono rfl), ?_⟩
      rw [hAdds.within.sched rfl]
      exact hSched

theorem egressStart_completes (p : PortNo) (s : State) : completesWith (.egressStart p) s (EgressFrame p.val s) := by
  by_cases hActs : (!(s.port p.val).link || (s.port p.val).tx.isSome || s.pool.recount || s.clk.rootHold) = true
  · exact ⟨s, congrArg Host.Outcome.next (if_pos hActs), ((Adds.refl _ s).begins p.val).frame⟩
  · rw [Bool.not_eq_true, Bool.or_eq_false_iff, Bool.or_eq_false_iff, Bool.or_eq_false_iff] at hActs
    obtain ⟨⟨⟨hLink, hIdle⟩, hRecount⟩, hHold⟩ := hActs
    rw [Bool.not_eq_false'] at hLink
    rw [Option.isSome_eq_false_iff, Option.isNone_iff_eq_none] at hIdle
    exact ⟨_, exec_egressStart hLink hIdle hRecount hHold, State.egress_frame (s.readied_adds p.val) _⟩

theorem egressStart_strict {p : PortNo} {c : Nat} {h : Packet} {r : List Packet} (hLink : (s.port p.val).link = true)
    (hIdle : (s.port p.val).tx = none) (hRecount : s.pool.recount = false) (hHold : s.clk.rootHold = false)
    (hStrict : (s.readied p.val).strictClass p.val = some c)
    (hHead : ((s.readied p.val).queue (8 * p.val + c)).pkts = h :: r) : completesWith (.egressStart p) s (fun t =>
      (t.port p.val).tx = some { queue := 8 * p.val + c, packet := h, charged := (s.readied p.val).headLen (8 * p.val + c) h }
      ∧ (t.queue (8 * p.val + c)).sending = true ∧ (t.queue (8 * p.val + c)).pkts = h :: r
      ∧ t = { s.reporting t with pool := t.pool, sched := t.sched, ports := t.ports }) := by
  have hReadied := s.readied_adds p.val
  refine ⟨_, exec_egressStart hLink hIdle hRecount hHold, ?_⟩
  generalize s.readied p.val = s1 at hReadied hStrict hHead ⊢
  obtain ⟨hTx, hSending, hPkts, _, hAdds⟩ := State.startFrame_starts hHead p.val
  rw [State.egress_strict hStrict]
  have hAll : Adds [.evt, .host, .ring, .log, .cnt, .out, .pool, .ports, .sched] s (s1.startFrame p.val (8 * p.val + c)) :=
    (Adds.mono hReadied (by rfl)).trans (Adds.mono hAdds (by rfl))
  exact ⟨hTx, hSending, hPkts, hAll.within.eq_merge⟩

/-- Settles O34: gates, wheel and groups move one at a time, and whichever queue an egress start takes is the port's
own, because both a strict class and the round robin's group are. -/
theorem schedulingCommands : Obligations.SchedulingCommands := by
  unfold Obligations.SchedulingCommands
  refine ⟨fun s => ⟨fun p a w h hHold => gateSwap_completes h hHold, fun p h => gateSwap_ignored h,
    fun p => gateChange_completes p s, fun q => calendarRelease_completes q s, calendarUnpark_completes s,
    fun g x r p c h hRecount hHold hWritten hMembers hp hc hNodes hIntake hPort hTake =>
      mcastReplicate_copies h hRecount hHold hWritten hMembers hp hc hNodes hIntake hPort hTake,
    fun g x r e h hRecount hHold hWritten => mcastReplicate_frees e h hRecount hHold hWritten,
    fun g e h => mcastReplicate_ignored (r := ⟨g, e⟩) h⟩, fun s p => ?_⟩
  refine ⟨fun c h r hLink hIdle hRecount hHold hStrict hHead => egressStart_strict hLink hIdle hRecount hHold hStrict hHead,
    ?_, fun h => egressStart_ignored h⟩
  obtain ⟨t, hExec, hOwn, hOther, hWithin, hSched⟩ := egressStart_completes p s
  refine ⟨t, hExec, hOwn, hOther, hWithin.eq_merge.trans ?_⟩
  exact congrArg (fun x => { s.reporting t with pool := t.pool, ports := t.ports, sched := x }) hSched

end Sys2Proof.Machine
end

section
/-!
# What a change of a lane's state leaves alone

A lane that leaves a state drops what it had bound, leaves its groups and forgets its keys. None of that moves another
field of a lane than the steps name: `LaneKept F C` says that the parts in `C` alone may differ and that `F` of every
lane stays.
-/
namespace Sys2Proof.Machine

-- One theorem after another: the stacks of many that wait at once would exceed the memory of the check.
set_option Elab.async false

/-- Lane `n` without the transmitter's state and what a cancelled caravan may touch. -/
def State.stillOf (n : Nat) (s : State) : LaneState := (s.lane n).still

/-- A field that `still` keeps, of a lane that is still the same. -/
theorem State.lane_of_still {α : Type} (F : LaneState → α) (hF : ∀ x, F x.still = F x) {s t : State} {n : Nat}
    (h : t.stillOf n = s.stillOf n) : F (t.lane n) = F (s.lane n) :=
  (hF _).symm.trans ((congrArg F h).trans (hF _))

/-- `t` is `s` but for the parts in `C`, what is pending stays pending, and `F` of every lane and the record of the
lanes in O7 stay. -/
structure LaneKept {α : Type} (F : LaneState → α) (C : List Part) (s t : State) : Prop where
  adds : Adds C s t
  lane : ∀ n, F (t.lane n) = F (s.lane n)
  o7 : t.line.o7Store = s.line.o7Store

variable {α β : Type} {F : LaneState → α} {C D : List Part} {s t u : State}

theorem LaneKept.refl (s : State) : LaneKept F C s s := ⟨.refl C s, fun _ => rfl, rfl⟩

theorem LaneKept.trans (h : LaneKept F C s t) (k : LaneKept F C t u) : LaneKept F C s u :=
  ⟨h.adds.trans k.adds, fun n => (k.lane n).trans (h.lane n), k.o7.trans h.o7⟩

theorem LaneKept.mono (h : LaneKept F D s t) (hC : Covers D C) : LaneKept F C s t := ⟨h.adds.mono hC, h.lane, h.o7⟩

theorem LaneKept.ite {c : Prop} [Decidable c] (ht : LaneKept F C s t) (hu : LaneKept F C s u) :
    LaneKept F C s (if c then t else u) := by
  split
  · exact ht
  · exact hu

theorem LaneKept.foldl {ι : Type} {f : State → ι → State} (h : ∀ t x, LaneKept F C t (f t x)) (l : List ι) (s : State) :
    LaneKept F C s (l.foldl f s) := by
  induction l generalizing s with
  | nil => exact .refl s
  | cons x l ih => exact (h s x).trans (ih (f s x))

/-- Less of each lane stays too. -/
theorem LaneKept.map (h : LaneKept F C s t) (G : LaneState → β) (g : α → β) (hG : ∀ x, G x = g (F x)) : LaneKept G C s t :=
  ⟨h.adds, fun n => (hG _).trans ((congrArg g (h.lane n)).trans (hG _).symm), h.o7⟩

/-- What does not touch the line leaves every lane alone. -/
theorem Adds.laneKept (h : Adds D s t) (hLine : D.contains .line = false := by rfl) (hC : Covers D C := by rfl) :
    LaneKept F C s t := ⟨h.mono hC, fun n => congrArg F (h.lane n hLine), congrArg Line.o7Store (h.within.line hLine)⟩

theorem State.modLane_laneKept (l : Nat) (f : LaneState → LaneState) (hf : ∀ x, F (f x) = F x) (s : State)
    (hC : Covers [.line] C := by rfl) : LaneKept F C s (s.modLane l f) :=
  ⟨State.modLane_adds l f s hC, State.lane_modLane_kept F l f hf s, rfl⟩

theorem State.modAlloc_laneKept (a : Nat) (f : AllocState → AllocState) (s : State) (hC : Covers [.line] C := by rfl) :
    LaneKept F C s (s.modAlloc a f) := ⟨State.modAlloc_adds a f s hC, fun _ => rfl, rfl⟩

theorem State.modGroup_laneKept (g : Nat) (f : GroupState → GroupState) (s : State) (hC : Covers [.line] C := by rfl) :
    LaneKept F C s (s.modGroup g f) := ⟨Adds.mono (D := [.line]) (adds_of_eq rfl rfl) hC, fun _ => rfl, rfl⟩

theorem State.modJoinLane_laneKept (l : Nat) (f : JoinLane → JoinLane) (s : State) (hC : Covers [.line] C := by rfl) :
    LaneKept F C s (s.modJoinLane l f) := ⟨Adds.mono (D := [.line]) (adds_of_eq rfl rfl) hC, fun _ => rfl, rfl⟩

theorem State.raise_laneKept (src obj detail : Nat) (s : State) (hC : Covers reportParts C := by rfl) :
    LaneKept F C s (s.raise src obj detail) := (State.raise_adds (C := reportParts) src obj detail s).laneKept rfl hC

theorem State.inc_laneKept (i : Nat) (s : State) (hC : Covers reportParts C := by rfl) : LaneKept F C s (s.inc i) :=
  (State.inc_adds (C := reportParts) i s).laneKept rfl hC

theorem State.count_laneKept (i n : Nat) (s : State) (hC : Covers reportParts C := by rfl) : LaneKept F C s (s.count i n) :=
  (State.count_adds (C := reportParts) i n s).laneKept rfl hC

theorem State.emit_laneKept (e : Emission) (s : State) (hC : Covers [.out] C := by rfl) : LaneKept F C s (s.emit e) :=
  (State.emit_adds (C := [.out]) e s).laneKept rfl hC

/-! ### Control messages of the groups (R266, R267, R269) -/

/-- What a change of a lane's state touches: the line, cells, the line engines and their keys, and admission's next
re-run. -/
def departParts : List Part := [.evt, .host, .ring, .log, .cnt, .out, .line, .pool, .cipher, .adm]

theorem State.dispatch_adds (n : Nat) (s : State) (hC : Covers [.cipher] C := by rfl) : Adds C s (s.dispatch n) :=
  Adds.mono (D := [.cipher]) (adds_of_eq rfl rfl) hC

theorem State.putCtrl_laneKept (m : CtrlMsg) (s : State) : LaneKept F departParts s (s.putCtrl m) := by
  unfold State.putCtrl
  split
  · exact .refl s
  next l _ =>
    exact LaneKept.trans (.ite (.refl s) ((State.dispatch_adds (C := [.cipher]) _ s).laneKept)) (State.emit_laneKept _ _)

theorem State.sendCtrl_laneKept (g : Nat) (b : CtrlBody) (s : State) : LaneKept F departParts s (s.sendCtrl g b) :=
  (State.modGroup_laneKept _ _ s).trans (State.putCtrl_laneKept _ _)

theorem State.sendGroupState_laneKept (g : Nat) (s : State) : LaneKept F departParts s (s.sendGroupState g) :=
  State.sendCtrl_laneKept _ _ s

/-! ### A lane leaves its groups (R271 to R275) -/

theorem State.dropRest_laneKept (a : Nat) (s : State) : LaneKept F departParts s (s.dropRest a) := by
  unfold State.dropRest
  split
  · exact .refl s
  next r _ =>
    exact ((State.modAlloc_laneKept _ _ s).trans ((State.freePacket_adds (C := poolParts) _ _ _).laneKept)).trans
      ((State.queueDrop_adds (C := reportParts) _ _ _).laneKept)

theorem State.leaveGroup_laneKept (l reason g : Nat) (s : State) : LaneKept F departParts s (s.leaveGroup l reason g) := by
  have hSent := ((State.modGroup_laneKept (F := F) (C := departParts) g (fun x => { x with lanes := putBit x.lanes l false }) s).trans
    (State.inc_laneKept (blCnt g 7) _)).trans (State.sendCtrl_laneKept g (.laneDown l reason) _)
  exact .ite (.refl s) ((hSent.trans (.ite (State.raise_laneKept _ _ _ _) (.refl _))).trans (State.sendGroupState_laneKept g _))

theorem State.groupDown_laneKept (l g : Nat) (s : State) : LaneKept F departParts s (s.groupDown l g) :=
  .ite (.refl s) (((State.modGroup_laneKept g (fun x => { x with up := false }) s).trans (State.raise_laneKept _ _ _ _)).trans
    (State.dropRest_laneKept _ _))

theorem State.cancel_laneKept (which : Caravan → Bool) (s : State) :
    LaneKept LaneState.still departParts s (s.cancel which) :=
  ⟨State.cancel_adds which s, fun n => congrArg Prod.fst (State.cancel_laneRecord n which s),
    congrArg Prod.snd (State.cancel_laneRecord 0 which s)⟩

theorem State.cancelLane_laneKept (l : Nat) (s : State) : LaneKept LaneState.still departParts s (s.cancelLane l) :=
  State.cancel_laneKept _ s

theorem State.recheck_laneKept (s : State) : LaneKept F departParts s s.recheck :=
  (State.recheck_adds (C := [.adm]) s).laneKept

theorem State.laneLeave_laneKept (l reason : Nat) (s : State) :
    LaneKept LaneState.still departParts s (s.laneLeave l reason) := by
  have hDown := LaneKept.trans (State.modJoinLane_laneKept (F := LaneState.still) (C := departParts) l
    (fun x => { x with upAcked := false, upSent := false, inGroup := false }) s)
    (.foldl (fun t g => State.groupDown_laneKept l g t) (s.groupsOf l) _)
  exact .ite hDown (((((hDown.trans (State.cancelLane_laneKept l _)).trans (State.modJoinLane_laneKept l _ _)).trans
    (.foldl (fun t g => State.leaveGroup_laneKept l reason g t) _ _)).trans (State.raise_laneKept _ _ _ _)).trans
      (State.recheck_laneKept _))

theorem State.announceLane_laneKept (l : Nat) (s : State) : LaneKept F departParts s (s.announceLane l) :=
  .ite (.refl s) (LaneKept.trans (.foldl (fun t g => State.sendCtrl_laneKept g (.laneUp l) t) _ s)
    (State.modJoinLane_laneKept _ _ _))

/-! ### A lane leaves an index, and its partly sent OMCI message is freed (R215, R216, R229) -/

theorem State.rewindAll_laneKept (a : Nat) (s : State) : LaneKept LaneState.still departParts s (s.rewindAll a) :=
  LaneKept.trans ⟨State.rewindRaw_adds a _ s, fun n => congrArg Prod.fst (State.rewindRaw_laneRecord n a _ s),
      congrArg Prod.snd (State.rewindRaw_laneRecord 0 a _ s)⟩
    (.foldl (fun t q => (State.flushWaiting_adds (C := poolParts) q t).laneKept) _ _)

theorem State.leaveIndex_laneKept (a l : Nat) (s : State) : LaneKept LaneState.still departParts s (s.leaveIndex a l) := by
  have hGrants := State.modAlloc_laneKept (F := LaneState.still) (C := departParts) a
    (fun x => { x with grants := Tab.set [] x.grants l [] }) s
  exact .ite hGrants ((hGrants.trans (State.rewindAll_laneKept a _)).trans (State.dropRest_laneKept a _))

theorem State.dropOmci_laneKept (l : Nat) (s : State) : LaneKept LaneState.still departParts s (s.dropOmci l) := by
  unfold State.dropOmci
  split
  · exact .refl s
  next p _ =>
    exact ((State.modLane_laneKept l (fun x => { x with omciRest := none }) (fun _ => rfl) s).trans
      ((State.freePacket_adds (C := poolParts) _ _ _).laneKept)).trans ((State.queueDrop_adds (C := reportParts) _ _ _).laneKept)

/-! ### Keys (R135, R152, R588) -/

theorem State.modBank_adds (slot b : Nat) (f : Bank → Bank) (s : State) (hC : Covers [.cipher] C := by rfl) :
    Adds C s (s.modBank slot b f) := Adds.mono (D := [.cipher]) (adds_of_eq rfl rfl) hC

theorem State.underive_adds (l : Nat) (s : State) (hC : Covers [.cipher] C := by rfl) : Adds C s (s.underive l) :=
  Adds.mono (D := [.cipher]) (adds_of_eq rfl rfl) hC

theorem State.rederive_adds (l : Nat) (s : State) (hC : Covers [.cipher] C := by rfl) : Adds C s (s.rederive l) :=
  Adds.mono (D := [.cipher]) (adds_of_eq rfl rfl) hC

/-! ### Changes of the activation state (R130 to R136, R177) -/

theorem State.stillOf_modLane_same (l : Nat) (f : LaneState → LaneState) (s : State) :
    (s.modLane l f).stillOf l = (f (s.lane l)).still := congrArg LaneState.still (State.lane_modLane_same l f s)

/-- The lane in its new state, its transmitter following, with the event. -/
def State.actMoved (l : Nat) (a : Act) (s : State) : State :=
  ((s.modLane l (fun x => { x with act := a, actFrame := s.tide.frame })).syncTx l).actEvent l 0 0

/-- The same for the entry to O5.1, from which the lane is idle. -/
def State.o5Entered (l : Nat) (s : State) : State :=
  { s with line := { s.line with laneIdle := Tab.set 0 s.line.laneIdle l s.bnd } }

theorem State.setAct_eq (l : Nat) (a : Act) (s : State) : s.setAct l a =
    if (s.lane l).act = a then s
    else if a = .o5 then ((s.actMoved l a).o5Entered l).announceLane l
    else if (s.lane l).act = .o5 then (s.actMoved l a).laneLeave l downLos
    else s.actMoved l a := rfl

/-- Whatever becomes of the lanes: the parts that may differ, and the record of the lanes in O7. -/
def LaneState.any (_ : LaneState) : Unit := ()

theorem LaneKept.toAny (h : LaneKept F C s t) : LaneKept LaneState.any C s t := h.map LaneState.any (fun _ => ()) (fun _ => rfl)

theorem State.syncTx_laneKept (l : Nat) (s : State) : LaneKept LaneState.still departParts s (s.syncTx l) :=
  State.modLane_laneKept l (fun x => { x with txDis := !s.txMay l }) (fun _ => rfl) s

theorem State.actMoved_keeps (l : Nat) (a : Act) (s : State) : LaneKept LaneState.any departParts s (s.actMoved l a) :=
  ((State.modLane_laneKept l (fun x => { x with act := a, actFrame := s.tide.frame }) (fun _ => rfl) s).trans
    (State.syncTx_laneKept l _).toAny).trans (State.raise_laneKept _ _ _ _)

theorem State.actMoved_still (l : Nat) (a : Act) (s : State) :
    (s.actMoved l a).stillOf l = { s.stillOf l with act := a } := by
  have hEvent (u : State) : (u.actEvent l 0 0).stillOf l = u.stillOf l :=
    (State.raise_laneKept (F := LaneState.still) (C := reportParts) _ _ _ u).lane l
  have hTx (u : State) : (u.syncTx l).stillOf l = u.stillOf l := (State.syncTx_laneKept l u).lane l
  rw [State.actMoved, hEvent, hTx, State.stillOf_modLane_same]
  rfl

theorem State.o5Entered_laneKept (l : Nat) (s : State) : LaneKept F departParts s (s.o5Entered l) :=
  ⟨adds_of_eq rfl rfl, fun _ => rfl, rfl⟩

theorem State.setAct_keeps (l : Nat) (a : Act) (s : State) : LaneKept LaneState.any departParts s (s.setAct l a) := by
  have hMoved := s.actMoved_keeps l a
  rw [State.setAct_eq]
  exact .ite (.refl s) (.ite ((hMoved.trans (State.o5Entered_laneKept l _)).trans (State.announceLane_laneKept l _))
    (.ite (hMoved.trans (State.laneLeave_laneKept l downLos _).toAny) hMoved))

theorem State.setAct_adds (l : Nat) (a : Act) (s : State) : Adds departParts s (s.setAct l a) := (s.setAct_keeps l a).adds

theorem State.setAct_still (l : Nat) (a : Act) (s : State) : (s.setAct l a).stillOf l = { s.stillOf l with act := a } := by
  have hMoved := s.actMoved_still l a
  rw [State.setAct_eq]
  split
  next h =>
    subst h
    rfl
  next =>
    split
    · exact (((State.o5Entered_laneKept l _).trans (State.announceLane_laneKept l _)).lane l).trans hMoved
    · split
      · exact ((State.laneLeave_laneKept l downLos _).lane l).trans hMoved
      · exact hMoved

/-- What R135 forgets of a lane. -/
def LaneState.forgotten (x : LaneState) : LaneState :=
  { x with onuId := none, eqd := {}, eqdOld := {}, eqdFrom := none, allocs := [], upq := [], keyUp := 0, lastEnd := none }

/-- The keys of a lane are forgotten. -/
def State.keysForgotten (l : Nat) (s : State) : State :=
  ((s.modBank l 0 (fun _ => {})).modBank l 1 (fun _ => {})).underive l

theorem State.keysForgotten_laneKept (l : Nat) (s : State) : LaneKept F departParts s (s.keysForgotten l) :=
  (((State.modBank_adds (C := [.cipher]) _ _ _ s).trans (State.modBank_adds _ _ _ _)).trans (State.underive_adds _ _)).laneKept

theorem State.forgetLane_eq (l : Nat) (s : State) : s.forgetLane l =
    (s.laneIndices l).foldl (fun t a => t.leaveIndex a l)
      ((((s.cancelLane l).dropOmci l).modLane l LaneState.forgotten).keysForgotten l) := rfl

theorem State.forgetLane_keeps (l : Nat) (s : State) : LaneKept LaneState.any departParts s (s.forgetLane l) := by
  rw [State.forgetLane_eq]
  exact (((((State.cancelLane_laneKept l s).trans (State.dropOmci_laneKept l _)).toAny).trans
    (State.modLane_laneKept l LaneState.forgotten (fun _ => rfl) _)).trans (State.keysForgotten_laneKept l _)).trans
      (.foldl (fun t a => (State.leaveIndex_laneKept a l t).toAny) _ _)

theorem State.forgetLane_adds (l : Nat) (s : State) : Adds departParts s (s.forgetLane l) := (s.forgetLane_keeps l).adds

theorem State.forgetLane_still (l : Nat) (s : State) : (s.forgetLane l).stillOf l = (s.stillOf l).forgotten := by
  have hLeft (u : State) : ((s.laneIndices l).foldl (fun t a => t.leaveIndex a l) u).stillOf l = u.stillOf l :=
    (LaneKept.foldl (fun t a => State.leaveIndex_laneKept a l t) (s.laneIndices l) u).lane l
  have hKeys (u : State) : (u.keysForgotten l).stillOf l = u.stillOf l := (State.keysForgotten_laneKept l u).lane l
  have hFreed : ((s.cancelLane l).dropOmci l).stillOf l = s.stillOf l :=
    ((State.cancelLane_laneKept l s).trans (State.dropOmci_laneKept l _)).lane l
  rw [State.forgetLane_eq, hLeft, hKeys, State.stillOf_modLane_same, ← hFreed]
  rfl

/-- The state that the entry to O1 leaves a lane in (R135). -/
def LaneState.o1Of (x : LaneState) : Act := if x.sync && !x.los then .o12 else .o11

theorem State.toO1_adds (l : Nat) (s : State) : Adds departParts s (s.toO1 l) := by
  have hIn := (s.forgetLane_adds l).trans (State.setAct_adds l .o11 _)
  exact .ite (hIn.trans (State.setAct_adds l .o12 _)) hIn

theorem State.toO1_still (l : Nat) (s : State) :
    (s.toO1 l).stillOf l = { (s.stillOf l).forgotten with act := (s.lane l).o1Of } := by
  have hIn : ((s.forgetLane l).setAct l .o11).stillOf l = { (s.stillOf l).forgotten with act := .o11 } := by
    rw [State.setAct_still, State.forgetLane_still]
  simp only [State.toO1, LaneState.o1Of]
  split
  · rw [State.setAct_still, hIn]
  · exact hIn

/-- What LOS or the loss of synchronisation makes of a lane in state `a` (R177, Table LN-11). -/
def LaneState.lostFrom (a : Act) (x : LaneState) : LaneState :=
  match a with
  | .o5 => { x with act := .o6 }
  | .o12 => { x with act := .o11 }
  | .o23 => { x with act := .o11 }
  | .o4 => { x.forgotten with act := x.o1Of }
  | _ => x

theorem State.lineLost_adds (l : Nat) (s : State) : Adds departParts s (s.lineLost l) := by
  have hFreed := (State.cancelLane_laneKept l s).adds
  unfold State.lineLost
  dsimp only
  split
  · exact hFreed.trans (State.setAct_adds _ _ _)
  · exact hFreed.trans (State.setAct_adds _ _ _)
  · exact hFreed.trans (State.setAct_adds _ _ _)
  · exact hFreed.trans (State.toO1_adds _ _)
  · exact hFreed

theorem State.lineLost_still (l : Nat) (s : State) : (s.lineLost l).stillOf l = (s.stillOf l).lostFrom (s.lane l).act := by
  have hFreed : (s.cancelLane l).stillOf l = s.stillOf l := (State.cancelLane_laneKept l s).lane l
  have hMoved (a : Act) : ((s.cancelLane l).setAct l a).stillOf l = { s.stillOf l with act := a } := by
    rw [State.setAct_still, hFreed]
  unfold State.lineLost
  cases (s.lane l).act with
  | o5 => exact hMoved .o6
  | o12 => exact hMoved .o11
  | o23 => exact hMoved .o11
  | o4 =>
    rw [State.toO1_still, hFreed,
      (State.lane_of_still LaneState.o1Of (fun _ => rfl) hFreed : ((s.cancelLane l).lane l).o1Of = (s.lane l).o1Of)]
    rfl
  | _ => exact hFreed

end Sys2Proof.Machine
end

section
/-!
# Loss of the signal and of synchronisation, and the two timers (R129 to R132, R164, R177)
-/
namespace Sys2Proof.Machine

-- One theorem after another: the stacks of many that wait at once would exceed the memory of the check.
set_option Elab.async false

variable {C : List Part} {s t : State}

theorem Adds.departFrame (h : Adds departParts s t) :
    t = { s.reporting t with line := t.line, pool := t.pool, cipher := t.cipher, adm := t.adm } := h.within.eq_merge

theorem Adds.lineFrame (h : Adds [.evt, .host, .ring, .log, .cnt, .out, .line] s t) : t = { s.reporting t with line := t.line } :=
  h.within.eq_merge

theorem State.lnEvent_adds (l k detail : Nat) (s : State) (hC : Covers reportParts C := by rfl) :
    Adds C s (s.lnEvent l k detail) := State.raise_adds _ _ _ s hC

theorem State.actEvent_adds (l k detail : Nat) (s : State) (hC : Covers reportParts C := by rfl) :
    Adds C s (s.actEvent l k detail) := State.raise_adds _ _ _ s hC

theorem State.lnEvent_lane (l k detail n : Nat) (s : State) : (s.lnEvent l k detail).lane n = s.lane n :=
  (State.lnEvent_adds (C := reportParts) l k detail s).lane n

theorem State.actEvent_lane (l k detail n : Nat) (s : State) : (s.actEvent l k detail).lane n = s.lane n :=
  (State.actEvent_adds (C := reportParts) l k detail s).lane n

theorem State.inc_lane (i n : Nat) (s : State) : (s.inc i).lane n = s.lane n := (State.inc_adds (C := reportParts) i s).lane n

theorem State.lnEvent_pends (l k detail : Nat) (s : State) : (s.lnEvent l k detail).pends (128 + 16 * l + k) :=
  State.raise_pends s _ _ _

theorem State.actEvent_pends (l k detail : Nat) (s : State) : (s.actEvent l k detail).pends (192 + 8 * l + k) :=
  State.raise_pends s _ _ _

/-! ### What a lane that has lost its line is left with -/

theorem LaneState.lostFrom_los (a : Act) (x : LaneState) : (x.lostFrom a).los = x.los := by cases a <;> rfl
theorem LaneState.lostFrom_sync (a : Act) (x : LaneState) : (x.lostFrom a).sync = x.sync := by cases a <;> rfl
theorem LaneState.lostFrom_parts (a : Act) (x : LaneState) : (x.lostFrom a).parts = x.parts := by cases a <;> rfl

theorem State.loseSync_adds (l : Nat) (s : State) : Adds departParts s (s.loseSync l) :=
  .ite (.refl _ s) ((((State.modLane_adds _ _ s).trans (State.inc_adds _ _)).trans (State.lnEvent_adds _ _ _ _)).trans
    (State.dropParts_adds _ _))

/-- A synchronised lane loses its synchronisation and what it was reassembling. -/
theorem State.loseSync_lane (l : Nat) (s : State) (h : (s.lane l).sync = true) :
    (s.loseSync l).lane l = { s.lane l with sync := false, parts := [] } := by
  rw [State.loseSync, if_neg (by simp [h]), State.dropParts_lane, State.lnEvent_lane, State.inc_lane, State.lane_modLane_same]

theorem State.loseSync_of_lost (l : Nat) (s : State) (h : (s.lane l).sync = false) : s.loseSync l = s :=
  if_pos (by simp [h])

/-- Without synchronisation a lane is as it was, apart from its fragments. -/
theorem State.loseSync_fields (l : Nat) (s : State) : ((s.loseSync l).lane l).act = (s.lane l).act
    ∧ ((s.loseSync l).lane l).los = (s.lane l).los ∧ ((s.loseSync l).lane l).sync = false := by
  cases h : (s.lane l).sync with
  | true =>
    rw [State.loseSync_lane l s h]
    exact ⟨rfl, rfl, rfl⟩
  | false =>
    rw [State.loseSync_of_lost l s h]
    exact ⟨rfl, rfl, h⟩

theorem State.loseSync_pends (l : Lane) (s : State) (h : (s.lane l.val).sync = true) :
    (s.loseSync l.val).pends (128 + 16 * l.val + 1) := by
  rw [State.loseSync, if_neg (by simp [h])]
  exact (State.dropParts_adds (C := departParts) _ _).pending _ (State.lnEvent_pends _ _ _ _)

/-- A lane without synchronisation that loses its line: where its state goes, and what stays. -/
structure LostLine (l : Nat) (s t : State) : Prop where
  adds : Adds departParts s t
  los : (t.lane l).los = (s.lane l).los
  parts : (t.lane l).parts = (s.lane l).parts
  sync : (t.lane l).sync = (s.lane l).sync
  ofO5 : (s.lane l).act = .o5 → (t.lane l).act = .o6
  ofO1 : (s.lane l).act = .o12 ∨ (s.lane l).act = .o23 → (t.lane l).act = .o11
  ofO4 : (s.lane l).act = .o4 → (t.lane l).act = .o11 ∧ (t.lane l).onuId = none

theorem State.lineLost_lost (l : Nat) (s : State) (h : (s.lane l).sync = false) : LostLine l s (s.lineLost l) := by
  have hStill := s.lineLost_still l
  have hAct (a : Act) (e : (s.lane l).act = a) : ((s.lineLost l).lane l).act = ((s.stillOf l).lostFrom a).act :=
    (congrArg LaneState.act hStill :).trans (by rw [e])
  have hO1 : (s.stillOf l).o1Of = .o11 := by
    have hSync : (s.stillOf l).sync = false := h
    rw [LaneState.o1Of, hSync]
    rfl
  refine ⟨s.lineLost_adds l, (congrArg LaneState.los hStill :).trans (LaneState.lostFrom_los _ _),
    (congrArg LaneState.parts hStill :).trans (LaneState.lostFrom_parts _ _),
    (congrArg LaneState.sync hStill :).trans (LaneState.lostFrom_sync _ _), fun e => hAct _ e, ?_, fun e => ⟨(hAct _ e).trans hO1, ?_⟩⟩
  · rintro (e | e)
    · exact hAct _ e
    · exact hAct _ e
  · rw [e] at hStill
    exact (congrArg LaneState.onuId hStill :)

/-! ### LN_LOS and LN_LODS -/

/-- LOS is declared or ends, with its event. -/
def State.losTold (l : Nat) (d : Bool) (s : State) : State := (s.modLane l (fun x => { x with los := d })).lnEvent l 0 0

theorem State.losTold_lane (l : Nat) (d : Bool) (s : State) : (s.losTold l d).lane l = { s.lane l with los := d } := by
  rw [State.losTold, State.lnEvent_lane, State.lane_modLane_same]

theorem State.losTold_pends (l : Lane) (d : Bool) (s : State) : (s.losTold l.val d).pends (128 + 16 * l.val) :=
  State.lnEvent_pends l.val 0 0 _

theorem exec_lnLos_on {l : Lane} (hAct : (s.lane l.val).act ≠ .off) (hLos : (s.lane l.val).los = false) :
    exec (.lnLos l true) s =
      .next ((((s.losTold l.val true).inc (lnCnt l.val 22)).loseSync l.val).lineLost l.val) :=
  congrArg Host.Outcome.next (if_neg (by simp [hAct, hLos]))

theorem lnLos_on {l : Lane} (hAct : (s.lane l.val).act ≠ .off) (hLos : (s.lane l.val).los = false) :
    completesWith (.lnLos l true) s (fun t =>
      (t.lane l.val).los = true ∧ t.pends (128 + 16 * l.val)
      ∧ ((s.lane l.val).act = .o5 → (t.lane l.val).act = .o6)
      ∧ ((s.lane l.val).act = .o12 ∨ (s.lane l.val).act = .o23 → (t.lane l.val).act = .o11)
      ∧ ((s.lane l.val).act = .o4 → (t.lane l.val).act = .o11 ∧ (t.lane l.val).onuId = none)
      ∧ t = { s.reporting t with line := t.line, pool := t.pool, cipher := t.cipher, adm := t.adm }) := by
  refine ⟨_, exec_lnLos_on hAct hLos, ?_⟩
  have hTold : Adds departParts s (s.losTold l.val true) := (State.modLane_adds _ _ s).trans (State.lnEvent_adds _ _ _ _)
  have hLane : ((s.losTold l.val true).inc (lnCnt l.val 22)).lane l.val = { s.lane l.val with los := true } :=
    (State.inc_lane _ _ _).trans (State.losTold_lane _ _ s)
  have hInc : Adds departParts (s.losTold l.val true) ((s.losTold l.val true).inc (lnCnt l.val 22)) := State.inc_adds _ _
  generalize (s.losTold l.val true).inc (lnCnt l.val 22) = u at hLane hInc ⊢
  obtain ⟨hAct', hLos', hSync'⟩ := State.loseSync_fields l.val u
  have hLost := State.lineLost_lost l.val (u.loseSync l.val) hSync'
  rw [hLane] at hAct' hLos'
  have hLater := hInc.trans ((u.loseSync_adds l.val).trans hLost.adds)
  refine ⟨hLost.los.trans hLos', hLater.pending _ (State.losTold_pends l true s), fun e => hLost.ofO5 (hAct'.trans e),
    fun e => hLost.ofO1 (e.imp hAct'.trans hAct'.trans), fun e => hLost.ofO4 (hAct'.trans e), (hTold.trans hLater).departFrame⟩

theorem lnLos_off {l : Lane} (hAct : (s.lane l.val).act ≠ .off) (hLos : (s.lane l.val).los = true) :
    completesWith (.lnLos l false) s (fun t =>
      t.lane l.val = { s.lane l.val with los := false } ∧ t.pends (128 + 16 * l.val)
      ∧ t = { s.reporting t with line := t.line }) :=
  ⟨s.losTold l.val false, congrArg Host.Outcome.next (if_neg (by simp [hAct, hLos])), State.losTold_lane _ _ s,
    State.losTold_pends l false s, Adds.lineFrame ((State.modLane_adds _ _ s).trans (State.lnEvent_adds _ _ _ _))⟩

theorem lnLods_lost {l : Lane} (h : (s.lane l.val).sync = true) :
    completesWith (.lnLods l) s (fun t =>
      (t.lane l.val).sync = false ∧ (t.lane l.val).parts = [] ∧ t.pends (128 + 16 * l.val + 1)
      ∧ ((s.lane l.val).act = .o5 → (t.lane l.val).act = .o6)
      ∧ ((s.lane l.val).act = .o12 ∨ (s.lane l.val).act = .o23 → (t.lane l.val).act = .o11)
      ∧ t = { s.reporting t with line := t.line, pool := t.pool, cipher := t.cipher, adm := t.adm }) := by
  refine ⟨(s.loseSync l.val).lineLost l.val, congrArg Host.Outcome.next (if_neg (by simp [h])), ?_⟩
  obtain ⟨hAct, _, hSync⟩ := State.loseSync_fields l.val s
  have hLost := State.lineLost_lost l.val (s.loseSync l.val) hSync
  have hParts : ((s.loseSync l.val).lane l.val).parts = [] := (congrArg LaneState.parts (State.loseSync_lane l.val s h) :)
  exact ⟨hLost.sync.trans hSync, hLost.parts.trans hParts, hLost.adds.pending _ (State.loseSync_pends l s h),
    fun e => hLost.ofO5 (hAct.trans e), fun e => hLost.ofO1 (e.imp hAct.trans hAct.trans),
    ((s.loseSync_adds l.val).trans hLost.adds).departFrame⟩

/-! ### TO1_EXPIRY and TO2_EXPIRY -/

/-- A timer's event and the way to O1. -/
theorem State.timedOut (l : Lane) (k : Nat) (s : State) :
    (((s.actEvent l.val k 0).toO1 l.val).lane l.val).onuId = none
    ∧ ((s.actEvent l.val k 0).toO1 l.val).pends (192 + 8 * l.val + k)
    ∧ (((s.actEvent l.val k 0).toO1 l.val).lane l.val).act =
        (if (s.lane l.val).sync && !(s.lane l.val).los then .o12 else .o11)
    ∧ (s.actEvent l.val k 0).toO1 l.val = { s.reporting ((s.actEvent l.val k 0).toO1 l.val) with
        line := ((s.actEvent l.val k 0).toO1 l.val).line, pool := ((s.actEvent l.val k 0).toO1 l.val).pool
        cipher := ((s.actEvent l.val k 0).toO1 l.val).cipher, adm := ((s.actEvent l.val k 0).toO1 l.val).adm } := by
  have hStill := State.toO1_still l.val (s.actEvent l.val k 0)
  have hAdds := State.toO1_adds l.val (s.actEvent l.val k 0)
  have hEvent : Adds departParts s (s.actEvent l.val k 0) := State.actEvent_adds _ _ _ s
  have hPends := hAdds.pending _ (State.actEvent_pends l.val k 0 s)
  rw [State.actEvent_lane] at hStill
  generalize (s.actEvent l.val k 0).toO1 l.val = t at hStill hAdds hPends ⊢
  exact ⟨(congrArg LaneState.onuId hStill :), hPends, (congrArg LaneState.act hStill :), (hEvent.trans hAdds).departFrame⟩

end Sys2Proof.Machine
end

section
/-!
# Downstream frames (R125 to R129, R246 to R262, Table LN-2)

Whatever the XGEM frames of a downstream frame do, to the pool, to a group that resequences, to the keys, a lane keeps
its activation state, its synchronisation and the count of its last frame.
-/
namespace Sys2Proof.Machine

-- One theorem after another: the stacks of many that wait at once would exceed the memory of the check.
set_option Elab.async false

variable {α : Type} {F : LaneState → α} {C : List Part} {s t : State}

/-! ### Packets that leave reassembly -/

/-- What XGEM frames touch. -/
def xgemParts : List Part := [.evt, .host, .ring, .log, .cnt, .out, .line, .pool, .sched, .cipher]

theorem State.police_adds (k len : Nat) (input : Colour) (s : State)
    (hC : Covers [.evt, .host, .ring, .log, .cnt, .out, .sched] C := by rfl) : Adds C s (s.police k len input).1 := by
  refine Adds.mono (D := [.evt, .host, .ring, .log, .cnt, .out, .sched]) ?_ hC
  unfold State.police
  dsimp only
  split
  · exact .refl _ s
  · have hMet (x : Sched) : Adds [.evt, .host, .ring, .log, .cnt, .out, .sched] s { s with sched := x } := adds_of_eq rfl rfl
    exact (hMet _).trans ((State.inc_adds _ _).trans (State.count_adds _ _ _))

theorem State.enterDown_adds (id : Nat) (frame : List Byte) (s : State) :
    Adds [.evt, .host, .ring, .log, .cnt, .out, .sched, .pool] s (s.enterDown id frame) := by
  have hMet := State.police_adds (C := [.evt, .host, .ring, .log, .cnt, .out, .sched, .pool]) (s.cfg.xgem id).policer
    frame.length .green s
  unfold State.enterDown
  dsimp only
  split
  · exact .refl _ s
  · split
    · exact hMet.trans (State.raiseWin_adds _ _ _ _ _ _)
    · exact .ite hMet (.ite (hMet.trans (State.offer_adds _ _ _)) (hMet.trans (State.offer_adds _ _ _)))

theorem State.enterDown_laneKept (id : Nat) (frame : List Byte) (s : State) : LaneKept F xgemParts s (s.enterDown id frame) :=
  (s.enterDown_adds id frame).laneKept

/-! ### Resequencing (R246 to R262) -/

theorem State.tagErr_laneKept (g : Nat) (s : State) : LaneKept F xgemParts s (s.tagErr g) :=
  ((State.inc_adds (C := reportParts) _ s).trans (State.raiseWin_adds _ _ _ _ _ _)).laneKept

theorem State.poolLow_laneKept (s : State) : LaneKept F xgemParts s s.poolLow := (State.poolLow_adds (C := poolParts) s).laneKept

theorem State.assemble_laneKept (g : Nat) (f : HeldFrag) (s : State) : LaneKept F xgemParts s (s.assemble g f) := by
  unfold State.assemble
  dsimp only
  split
  · exact .refl s
  · have hStart := LaneKept.trans (State.modGroup_laneKept (F := F) (C := xgemParts) g (fun x => { x with drop := false }) s)
      (LaneKept.ite (c := (f.first && (s.group g).building.isSome) = true) (State.tagErr_laneKept g _) (.refl _))
    split
    · exact hStart
    · exact .ite ((hStart.trans (State.modGroup_laneKept _ _ _)).trans (State.tagErr_laneKept _ _))
        (.ite (((hStart.trans (State.modGroup_laneKept _ _ _)).trans (State.inc_laneKept _ _)).trans
          (State.enterDown_laneKept _ _ _)) (hStart.trans (State.modGroup_laneKept _ _ _)))

theorem State.releaseHeld_laneKept (g fuel : Nat) (s : State) : LaneKept F xgemParts s (s.releaseHeld g fuel) := by
  induction fuel generalizing s with
  | zero => exact .refl s
  | succ fuel ih =>
    unfold State.releaseHeld
    split
    · exact .refl s
    · dsimp only
      split
      · exact .refl s
      next f _ =>
        exact ((((State.modGroup_laneKept _ _ s).trans ((State.freeQueued_adds (C := [.pool]) _ _).laneKept)).trans
          (State.poolLow_laneKept _)).trans (State.assemble_laneKept _ _ _)).trans (ih _)

theorem State.releaseFrom_laneKept (g : Nat) (s : State) : LaneKept F xgemParts s (s.releaseFrom g) :=
  (State.releaseHeld_laneKept _ _ s).trans (State.modGroup_laneKept _ _ _)

theorem State.freeFrags_laneKept (g : Nat) (s : State) : LaneKept F xgemParts s (s.freeFrags g) :=
  ((State.freeQueued_adds (C := [.pool]) _ s).laneKept).trans (State.poolLow_laneKept _)

theorem State.windowExpire_laneKept (g : Nat) (s : State) : LaneKept F xgemParts s (s.windowExpire g) := by
  unfold State.windowExpire
  dsimp only
  split
  · exact .refl s
  · have hLost := LaneKept.trans ((State.modGroup_laneKept (F := F) (C := xgemParts) g
      (fun x => { x with building := none, timer := none }) s).trans (State.inc_laneKept (blCnt g 3) _))
      ((State.raiseWin_adds (C := reportParts) 8000 245 0 0 g _).laneKept)
    split
    · exact ((((hLost.trans (State.modGroup_laneKept _ _ _)).trans ((State.freeQueued_adds (C := [.pool]) _ _).laneKept)).trans
        (State.poolLow_laneKept _)).trans (State.releaseFrom_laneKept _ _))
    · exact (hLost.trans (State.freeFrags_laneKept _ _)).trans (State.modGroup_laneKept _ _ _)

theorem State.holdFrag_laneKept (g : Nat) (f : HeldFrag) (s : State) : LaneKept F xgemParts s (s.holdFrag g f) :=
  .ite (.refl s) (.ite (.refl s) (((State.modGroup_laneKept _ _ s).trans
    ((State.takeQueued_adds (C := [.pool]) _ _).laneKept)).trans (State.poolLow_laneKept _)))

theorem State.placeFrag_laneKept (g : Nat) (f : HeldFrag) (s : State) : LaneKept F xgemParts s (s.placeFrag g f) := by
  unfold State.placeFrag
  dsimp only
  split
  · exact .refl s
  · exact .ite (((State.modGroup_laneKept _ _ s).trans (State.assemble_laneKept _ _ _)).trans (State.releaseFrom_laneKept _ _))
      (.ite (State.inc_laneKept _ s) (State.holdFrag_laneKept _ _ s))

theorem State.fragment_laneKept (g : Nat) (f : HeldFrag) (s : State) : LaneKept F xgemParts s (s.fragment g f) := by
  have hSeen := State.inc_laneKept (F := F) (C := xgemParts) (blCnt g 1) s
  unfold State.fragment
  dsimp only
  split
  · exact .ite ((hSeen.trans (State.modGroup_laneKept _ _ _)).trans (State.placeFrag_laneKept _ _ _)) hSeen
  · exact .ite ((((hSeen.trans (State.inc_laneKept _ _)).trans (State.raise_laneKept _ _ _ _)).trans
      (State.windowExpire_laneKept _ _)).trans (State.placeFrag_laneKept _ _ _)) (hSeen.trans (State.placeFrag_laneKept _ _ _))

theorem State.bondedXgem_laneKept (id : Nat) (lf : Bool) (payload : List Byte) (s : State) :
    LaneKept F xgemParts s (s.bondedXgem id lf payload) :=
  .ite (State.tagErr_laneKept _ s) (State.fragment_laneKept _ _ s)

/-! ### One XGEM frame -/

/-- What a downstream frame's XGEM frames leave alone of a lane. -/
def LaneState.core (x : LaneState) : Act × Bool × Bool × Option Nat := (x.act, x.sync, x.los, x.lastDs)

theorem State.setPart_laneKept (l port : Nat) (p : Option (List Byte × Bool)) (s : State) :
    LaneKept LaneState.core xgemParts s (s.setPart l port p) :=
  State.modLane_laneKept l (fun x => { x with parts := Tab.set none x.parts port p }) (fun _ => rfl) s

theorem State.breakPart_laneKept (l : Nat) (x : XgemFrame) (s : State) : LaneKept LaneState.core xgemParts s (s.breakPart l x) :=
  State.setPart_laneKept _ _ _ s

theorem State.xgemPayload_laneKept (l : Nat) (x : XgemFrame) (data : List Byte) (s : State) :
    LaneKept LaneState.core xgemParts s (s.xgemPayload l x data) := by
  unfold State.xgemPayload
  split
  · exact State.bondedXgem_laneKept _ _ _ s
  · split
    · exact .ite (State.setPart_laneKept _ _ _ s) (.refl s)
    · exact .ite (State.setPart_laneKept _ _ _ s) (.ite (State.setPart_laneKept _ _ _ s)
        ((State.setPart_laneKept _ _ _ s).trans (State.enterDown_laneKept _ _ _)))

theorem State.followKey_laneKept (l slot : Nat) (x : XgemFrame) (s : State) :
    LaneKept LaneState.core xgemParts s (s.followKey l slot x) :=
  .ite (State.modLane_laneKept l (fun y => { y with keyUp := x.keyIndex - 1 }) (fun _ => rfl) s) (.refl s)

theorem State.xgemKey_laneKept (l n : Nat) (x : XgemFrame) (s : State) :
    LaneKept LaneState.core xgemParts s (s.xgemKey l n x).1 := by
  unfold State.xgemKey
  dsimp only
  split
  · exact .refl s
  · split
    · have hBroken := (State.inc_laneKept (F := LaneState.core) (C := xgemParts) (lnCnt l 8) s).trans
        (State.breakPart_laneKept l x _)
      dsimp only
      exact .ite (hBroken.trans ((State.raiseWin_adds (C := reportParts) _ _ _ _ _ _).laneKept)) hBroken
    · exact (((State.modBank_adds (C := [.cipher]) _ _ _ s).laneKept).trans (State.followKey_laneKept _ _ _ _)).trans
        ((State.dispatch_adds (C := [.cipher]) _ _).laneKept)

theorem State.xgemFrame_laneKept (l n : Nat) (x : XgemFrame) (s : State) :
    LaneKept LaneState.core xgemParts s (s.xgemFrame l n x) := by
  have hCounted : LaneKept LaneState.core xgemParts s (if x.fecOk then s else s.inc (lnCnt l 7)) :=
    .ite (.refl s) (State.inc_laneKept _ s)
  have hKey := State.xgemKey_laneKept l n x s
  unfold State.xgemFrame
  dsimp only
  refine .ite (hCounted.trans (State.inc_laneKept _ _)) (.ite hCounted (.ite (hCounted.trans (State.breakPart_laneKept _ _ _))
    (.ite (State.inc_laneKept _ s) ?_)))
  split
  · exact hKey
  · exact .ite hKey (hKey.trans (State.xgemPayload_laneKept _ _ _ _))

theorem State.xgemFrames_laneKept (l n : Nat) (x : List XgemFrame) (s : State) :
    LaneKept LaneState.core xgemParts s (s.xgemFrames l n x) := by
  induction x generalizing n s with
  | nil => exact .refl s
  | cons x xs ih => exact (State.xgemFrame_laneKept l n x s).trans (ih (n + 1) _)

end Sys2Proof.Machine
end

section
/-!
# A downstream frame that a lane takes (R125, R129, R136, R177)
-/
namespace Sys2Proof.Machine

-- One theorem after another: the stacks of many that wait at once would exceed the memory of the check.
set_option Elab.async false

variable {C : List Part} {s t : State}

/-! ### Synchronisation is gained -/

theorem State.lockRegained_adds (s : State) (hC : Covers [.tide, .clk] C := by rfl) : Adds C s s.lockRegained := by
  refine Adds.mono (D := [.tide, .clk]) ?_ hC
  unfold State.lockRegained
  split
  · exact adds_of_eq rfl rfl
  · exact .refl _ s

theorem State.lockRegained_ticks (s : State) : s.lockRegained.tide.ticks = s.tide.ticks := by
  unfold State.lockRegained
  split <;> rfl

/-- A lane is synchronised, with its event. -/
def State.syncTold (l : Nat) (s : State) : State := (s.modLane l (fun x => { x with sync := true })).lnEvent l 2 0

theorem State.gainSync_of_lost (l : Nat) (s : State) (h : (s.lane l).sync = false) : s.gainSync l =
    if s.isManager && s.tide.anchor == l then (s.syncTold l).lockRegained else s.syncTold l := if_neg (by simp [h])

theorem State.syncTold_adds (l : Nat) (s : State) (hC : Covers [.evt, .host, .ring, .log, .cnt, .out, .line] C := by rfl) :
    Adds C s (s.syncTold l) :=
  Adds.mono (D := [.evt, .host, .ring, .log, .cnt, .out, .line]) ((State.modLane_adds _ _ s).trans (State.lnEvent_adds _ _ _ _)) hC

/-- What a frame touches. -/
def downParts : List Part :=
  [.evt, .host, .ring, .log, .cnt, .out, .clk, .tide, .line, .pool, .sched, .cipher, .adm]

/-- From `s` to `t` lane `l` has gained synchronisation, if it had none. -/
structure GainsSync (l : Nat) (s t : State) : Prop where
  adds : Adds downParts s t
  ticks : t.tide.ticks = s.tide.ticks
  core : (t.lane l).core = ((s.lane l).act, true, (s.lane l).los, (s.lane l).lastDs)
  told : (s.lane l).sync = false → t.pends (128 + 16 * l + 2)

theorem State.syncTold_gains (l : Nat) (s : State) : GainsSync l s (s.syncTold l) where
  adds := s.syncTold_adds l
  ticks := congrArg Tide.ticks ((s.syncTold_adds (C := [.evt, .host, .ring, .log, .cnt, .out, .line]) l).within.tide rfl)
  core := by
    rw [State.syncTold, State.lnEvent_lane, State.lane_modLane_same]
    rfl
  told _ := State.lnEvent_pends l 2 0 _

theorem State.gainSync_gains (l : Nat) (s : State) : GainsSync l s (s.gainSync l) := by
  cases h : (s.lane l).sync with
  | true =>
    rw [State.gainSync, if_pos h]
    exact ⟨.refl _ s, rfl, by rw [LaneState.core, h], fun e => absurd (h.symm.trans e) (by decide)⟩
  | false =>
    have hTold := s.syncTold_gains l
    rw [State.gainSync_of_lost l s h]
    split
    · have hLock := State.lockRegained_adds (C := [.tide, .clk]) (s.syncTold l)
      exact ⟨hTold.adds.trans (hLock.mono rfl), (State.lockRegained_ticks _).trans hTold.ticks,
        (congrArg LaneState.core (hLock.lane l)).trans hTold.core, fun e => hLock.pending _ (hTold.told e)⟩
    · exact hTold

/-! ### What is counted of a frame -/

/-- What a lane keeps of a frame. -/
def State.frameNoted (f : DsFrame) (s : State) : State :=
  s.modLane f.lane.val (fun x =>
    { x with lastDs := some f.count, skew := f.skew
             skewRun := if skewLimit < f.skew.natAbs then x.skewRun + 1 else 0 })

/-- What is counted of a frame. -/
def State.frameCounted (r25 : Bool) (f : DsFrame) (s : State) : State :=
  ((((s.inc (lnCnt f.lane.val 0)).fecSeen f.lane.val (codewords r25) f.corrSym f.uncorr).count
    (lnCnt f.lane.val 4) f.psbdErr).count (lnCnt f.lane.val 5) f.hdrErr)

theorem State.frameNoted_adds (f : DsFrame) (s : State) (hC : Covers [.line] C := by rfl) : Adds C s (s.frameNoted f) :=
  State.modLane_adds _ _ s hC

theorem State.fecSeen_laneKept (l codewords corrected uncorrectable : Nat) (s : State)
    (hC : Covers [.evt, .host, .ring, .log, .cnt, .out, .line] C := by rfl) :
    LaneKept LaneState.core C s (s.fecSeen l codewords corrected uncorrectable) :=
  LaneKept.mono (D := [.evt, .host, .ring, .log, .cnt, .out, .line])
    ((((State.modLane_laneKept l (fun x => { x with winCw := x.winCw + codewords, winCorr := x.winCorr + corrected,
                                                     winUncorr := x.winUncorr + uncorrectable }) (fun _ => rfl) s).trans
      (State.count_laneKept _ _ _)).trans (State.count_laneKept _ _ _)).trans (State.count_laneKept _ _ _)) hC

theorem State.frameCounted_laneKept (r25 : Bool) (f : DsFrame) (s : State) :
    LaneKept LaneState.core [.evt, .host, .ring, .log, .cnt, .out, .line] s (s.frameCounted r25 f) :=
  (((State.inc_laneKept _ s).trans (State.fecSeen_laneKept _ _ _ _ _)).trans (State.count_laneKept _ _ _)).trans
    (State.count_laneKept _ _ _)

/-! ### A synchronised lane leaves O1.1 and O6 (R130, R132) -/

/-- The state of a synchronised lane with signal. -/
def Act.synced : Act → Act
  | .o11 => .o12
  | .o6 => .o5
  | a => a

theorem State.syncAct_adds (l : Nat) (s : State) : Adds departParts s (s.syncAct l) := by
  unfold State.syncAct
  split
  · exact .refl _ s
  · split
    · exact State.setAct_adds _ _ s
    · exact State.setAct_adds _ _ s
    · exact .refl _ s

theorem State.syncAct_core (l : Nat) (s : State) : ((s.syncAct l).lane l).core =
    (if (s.lane l).los then (s.lane l).act else (s.lane l).act.synced, (s.lane l).sync, (s.lane l).los, (s.lane l).lastDs) := by
  have hMoved (a : Act) : ((s.setAct l a).lane l).core = (a, (s.lane l).sync, (s.lane l).los, (s.lane l).lastDs) :=
    (congrArg LaneState.core (State.setAct_still l a s) :)
  unfold State.syncAct
  by_cases hLos : (s.lane l).los = true
  · rw [if_pos hLos, if_pos hLos]
    rfl
  · rw [if_neg hLos, if_neg hLos]
    cases h : (s.lane l).act with
    | o11 => exact hMoved .o12
    | o6 => exact hMoved .o5
    | _ => exact congrArg (fun a => (a, (s.lane l).sync, (s.lane l).los, (s.lane l).lastDs)) h

/-! ### DOWNSTREAM_FRAME -/

/-- The device when the frame's XGEM frames come. -/
def State.frameTaken (f : DsFrame) (s : State) : State :=
  ((((s.gainSync f.lane.val).frameNoted f).frameCounted s.is25 f).syncAct f.lane.val)

/-- A frame that its lane takes. -/
theorem exec_downstreamFrame {f : DsFrame} (hSync : f.inSync = true) (hAct : (s.lane f.lane.val).act ≠ .off)
    (hHold : bit s.clk.laneHold f.lane.val = false) (hRoot : s.clk.rootHold = false) :
    exec (.downstreamFrame f) s = .next ((s.frameTaken f).xgemFrames f.lane.val (f.count * 2 ^ 16) f.xgem) :=
  congrArg Host.Outcome.next ((if_neg (by simp [hSync, hAct, hHold])).trans (if_neg (by simp [hRoot])))

theorem State.frameCounted_core (f : DsFrame) (s : State) : ((((s.gainSync f.lane.val).frameNoted f).frameCounted s.is25 f).lane f.lane.val).core =
    ((s.lane f.lane.val).act, true, (s.lane f.lane.val).los, some f.count) := by
  have hGained := (s.gainSync_gains f.lane.val).core
  rw [(State.frameCounted_laneKept s.is25 f _).lane, State.frameNoted, State.lane_modLane_same]
  generalize (s.gainSync f.lane.val).lane f.lane.val = x at hGained ⊢
  rw [LaneState.core, Prod.mk.injEq, Prod.mk.injEq, Prod.mk.injEq] at hGained
  obtain ⟨hAct, hSync, hLos, _⟩ := hGained
  rw [LaneState.core, hAct, hSync, hLos]

theorem State.frameTaken_core (f : DsFrame) (s : State) : ((s.frameTaken f).lane f.lane.val).core =
    (if (s.lane f.lane.val).los then (s.lane f.lane.val).act else (s.lane f.lane.val).act.synced, true,
      (s.lane f.lane.val).los, some f.count) := by
  have hCounted := s.frameCounted_core f
  rw [State.frameTaken, State.syncAct_core]
  generalize (((s.gainSync f.lane.val).frameNoted f).frameCounted s.is25 f).lane f.lane.val = x at hCounted ⊢
  rw [LaneState.core, Prod.mk.injEq, Prod.mk.injEq, Prod.mk.injEq] at hCounted
  obtain ⟨hAct, hSync, hLos, hLast⟩ := hCounted
  rw [hAct, hSync, hLos, hLast]

/-- What follows the gain of synchronisation. -/
theorem State.frameTaken_laterAdds (f : DsFrame) (s : State) :
    Adds departParts (s.gainSync f.lane.val) (s.frameTaken f) :=
  Adds.trans (C := departParts) (Adds.trans (C := departParts) (State.frameNoted_adds f _)
    ((State.frameCounted_laneKept s.is25 f _).adds.mono rfl)) (State.syncAct_adds _ _)

theorem downstreamFrame_takes {f : DsFrame} (hSync : f.inSync = true) (hAct : (s.lane f.lane.val).act ≠ .off)
    (hHold : bit s.clk.laneHold f.lane.val = false) (hRoot : s.clk.rootHold = false) :
    completesWith (.downstreamFrame f) s (fun t =>
      (t.lane f.lane.val).sync = true ∧ (t.lane f.lane.val).lastDs = some f.count
      ∧ ((s.lane f.lane.val).sync = false → t.pends (128 + 16 * f.lane.val + 2))
      ∧ ((s.lane f.lane.val).act = .o6 → (s.lane f.lane.val).los = false → (t.lane f.lane.val).act = .o5)
      ∧ ((s.lane f.lane.val).act = .o11 → (s.lane f.lane.val).los = false → (t.lane f.lane.val).act = .o12)
      ∧ ((s.lane f.lane.val).act = .o5 → (t.lane f.lane.val).act = .o5)
      ∧ t.cfg = s.cfg ∧ t.tide.ticks = s.tide.ticks
      ∧ t = { s.reporting t with
          clk := t.clk, tide := t.tide, line := t.line, pool := t.pool, sched := t.sched, cipher := t.cipher, adm := t.adm }) := by
  refine ⟨_, exec_downstreamFrame hSync hAct hHold hRoot, ?_⟩
  have hGained := s.gainSync_gains f.lane.val
  have hLater := s.frameTaken_laterAdds f
  have hFrames := State.xgemFrames_laneKept f.lane.val (f.count * 2 ^ 16) f.xgem (s.frameTaken f)
  have hCore := (hFrames.lane f.lane.val).trans (s.frameTaken_core f)
  generalize (s.frameTaken f).xgemFrames f.lane.val (f.count * 2 ^ 16) f.xgem = t at hFrames hCore ⊢
  rw [LaneState.core, Prod.mk.injEq, Prod.mk.injEq, Prod.mk.injEq] at hCore
  obtain ⟨hAct', hSync', _, hLast'⟩ := hCore
  have hAfter : Adds downParts (s.gainSync f.lane.val) t :=
    Adds.trans (C := downParts) (hLater.mono rfl) (hFrames.adds.mono rfl)
  have hAll : Adds downParts s t := hGained.adds.trans hAfter
  have hTide : t.tide = (s.gainSync f.lane.val).tide := (hFrames.adds.within.tide rfl).trans (hLater.within.tide rfl)
  refine ⟨hSync', hLast', fun e => hAfter.pending _ (hGained.told e), fun e hLos => ?_, fun e hLos => ?_, fun e => ?_,
    hAll.within.cfg rfl, (congrArg Tide.ticks hTide).trans hGained.ticks, hAll.within.eq_merge⟩
  · rw [hAct', hLos, e]
    rfl
  · rw [hAct', hLos, e]
    rfl
  · rw [hAct', e]
    exact ite_self _

end Sys2Proof.Machine
end

section
/-!
# The monitoring of the line, and the rogue-burst guard (R155 to R157, R165 to R171, R180, R181)
-/
namespace Sys2Proof.Machine

-- One theorem after another: the stacks of many that wait at once would exceed the memory of the check.
set_option Elab.async false

variable {C : List Part} {s t : State}

/-! ### SD_SF_WINDOW -/

theorem State.fecSeen_lane (l codewords corrected uncorrectable : Nat) (s : State) :
    (s.fecSeen l codewords corrected uncorrectable).lane l = { s.lane l with
      winCw := (s.lane l).winCw + codewords, winCorr := (s.lane l).winCorr + corrected
      winUncorr := (s.lane l).winUncorr + uncorrectable } := by
  have hCount (i n : Nat) (u : State) : (u.count i n).lane l = u.lane l := (State.count_adds (C := reportParts) i n u).lane l
  unfold State.fecSeen
  dsimp only
  rw [hCount, hCount, hCount, State.lane_modLane_same]

/-- The window's figures, and a window that begins. -/
def State.windowJudged (l : Nat) (sd sf : Bool) (s : State) : State :=
  s.modLane l (fun x => { x with sd := sd, sf := sf, winCw := 0, winCorr := 0, winUncorr := 0 })

/-- A change of a lane's SD or SF is told by event `k`. -/
def State.changeTold (l k : Nat) (old new : Bool) (s : State) : State := if new = old then s else s.lnEvent l k 0

theorem State.changeTold_adds (l k : Nat) (old new : Bool) (s : State) (hC : Covers reportParts C := by rfl) :
    Adds C s (s.changeTold l k old new) := .ite (.refl _ s) (State.lnEvent_adds _ _ _ s hC)

theorem State.changeTold_lane (l k : Nat) (old new : Bool) (n : Nat) (s : State) :
    (s.changeTold l k old new).lane n = s.lane n := (State.changeTold_adds (C := reportParts) l k old new s).lane n

theorem State.changeTold_pends (l k : Nat) {old new : Bool} (h : new ≠ old) (s : State) :
    (s.changeTold l k old new).pends (128 + 16 * l + k) := by
  rw [State.changeTold, if_neg h]
  exact State.lnEvent_pends _ _ _ s

theorem LaneState.degraded_iff (x : LaneState) (thr : Nat) :
    x.degraded thr = true ↔ 0 < x.winCw ∧ x.winCw * 1984 ≤ x.winCorr * 10 ^ thr := by
  simp [LaneState.degraded, Nat.mul_assoc]

/-- A window that ends with the figures `sd` and `sf`, its changes told. -/
def State.windowEnded (l n corr unc : Nat) (sd sf : Bool) (s : State) : State :=
  ((((s.fecSeen l n corr unc).windowJudged l sd sf).changeTold l 3 (s.lane l).sd sd).changeTold l 4 (s.lane l).sf sf)

theorem State.windowEnded_lane (l n corr unc : Nat) (sd sf : Bool) (s : State) : (s.windowEnded l n corr unc sd sf).lane l =
    { s.lane l with sd := sd, sf := sf, winCw := 0, winCorr := 0, winUncorr := 0 } := by
  rw [State.windowEnded, State.changeTold_lane, State.changeTold_lane, State.windowJudged, State.lane_modLane_same,
    State.fecSeen_lane]

theorem State.windowEnded_adds (l n corr unc : Nat) (sd sf : Bool) (s : State) :
    Adds [.evt, .host, .ring, .log, .cnt, .out, .line] s (s.windowEnded l n corr unc sd sf) :=
  (((State.fecSeen_laneKept l n corr unc s).adds.trans (State.modLane_adds _ _ _)).trans (State.changeTold_adds _ _ _ _ _)).trans
    (State.changeTold_adds _ _ _ _ _)

theorem exec_sdSfWindow {l : Lane} (n corr unc : Nat) (hAct : (s.lane l.val).act ≠ .off) :
    exec (.sdSfWindow l n corr unc) s = .next (s.windowEnded l.val n corr unc
      (((s.fecSeen l.val n corr unc).lane l.val).degraded (s.cfg.lane l.val).sdThr)
      (decide ((s.cfg.lane l.val).sfThr ≤ ((s.fecSeen l.val n corr unc).lane l.val).winUncorr))) :=
  congrArg Host.Outcome.next (if_neg hAct)

theorem sdSfWindow_judges {l : Lane} (n corr unc : Nat) (hAct : (s.lane l.val).act ≠ .off) :
    completesWith (.sdSfWindow l n corr unc) s (fun t =>
      let cw := (s.lane l.val).winCw + n
      t.lane l.val = { s.lane l.val with
        sd := (t.lane l.val).sd, sf := decide ((s.cfg.lane l.val).sfThr ≤ (s.lane l.val).winUncorr + unc)
        winCw := 0, winCorr := 0, winUncorr := 0 }
      ∧ ((t.lane l.val).sd = true ↔ 0 < cw
          ∧ cw * 1984 ≤ ((s.lane l.val).winCorr + corr) * 10 ^ (s.cfg.lane l.val).sdThr)
      ∧ ((t.lane l.val).sd ≠ (s.lane l.val).sd → t.pends (128 + 16 * l.val + 3))
      ∧ ((t.lane l.val).sf ≠ (s.lane l.val).sf → t.pends (128 + 16 * l.val + 4))
      ∧ t = { s.reporting t with line := t.line }) := by
  refine ⟨_, exec_sdSfWindow n corr unc hAct, ?_⟩
  have hSeen := State.fecSeen_lane l.val n corr unc s
  have hSd := LaneState.degraded_iff ((s.fecSeen l.val n corr unc).lane l.val) (s.cfg.lane l.val).sdThr
  have hSf : ((s.fecSeen l.val n corr unc).lane l.val).winUncorr = (s.lane l.val).winUncorr + unc := (congrArg LaneState.winUncorr hSeen :)
  rw [hSf]
  generalize ((s.fecSeen l.val n corr unc).lane l.val).degraded (s.cfg.lane l.val).sdThr = sd at hSd ⊢
  generalize decide ((s.cfg.lane l.val).sfThr ≤ (s.lane l.val).winUncorr + unc) = sf
  rw [hSeen] at hSd
  have hLane := s.windowEnded_lane l.val n corr unc sd sf
  have hLater := State.changeTold_adds (C := reportParts) l.val 4 (s.lane l.val).sf sf
    (((s.fecSeen l.val n corr unc).windowJudged l.val sd sf).changeTold l.val 3 (s.lane l.val).sd sd)
  refine ⟨?_, ?_, fun h => hLater.pending _ (State.changeTold_pends _ _ ?_ _), fun h => State.changeTold_pends _ _ ?_ _,
    (s.windowEnded_adds _ _ _ _ _ _).lineFrame⟩
  · rw [hLane]
  · rw [hLane]
    exact hSd
  · rwa [hLane] at h
  · rwa [hLane] at h

/-! ### RSSI_TRIG -/

/-- The strobe of a lane's module, and its diagnostics due. -/
def State.rssiStrobed (l rise : Nat) (s : State) : State :=
  let s1 := (s.modLane l (fun x => { x with rssiAt := s.bnd })).emit (.rssi l rise ((rise + rssiLen) % (8 * tideMod)))
  { s1 with craft := { s1.craft with ddm := Tab.modify {} s1.craft.ddm l (fun d => { d with due := true }) } }

theorem State.rssiDue_iff (l : Nat) (s : State) : s.rssiDue l = true ↔ (s.lane l).act = .o5 ∧ (s.lane l).rssiAt + 8000 ≤ s.bnd
    ∧ (s.lane l).txDis = false ∧ (s.lane l).burst.any (fun b => decide (rssiLast ≤ b.2 - b.1)) = true := by
  simp only [State.rssiDue, Bool.and_eq_true, decide_eq_true_eq, Bool.not_eq_true', and_assoc]

theorem rssiTrig_strobes {l : Lane} (first last : Nat) (hAct : (s.lane l.val).act = .o5) (hTx : (s.lane l.val).txDis = false)
    (hAt : (s.lane l.val).rssiAt + 8000 ≤ s.bnd) (hBurst : (s.lane l.val).burst = some (first, last))
    (hLong : first + 99533 ≤ last) :
    completesWith (.rssiTrig l) s (fun t =>
      .rssi l.val ((first + 49766) % (8 * tideMod)) (((first + 49766) % (8 * tideMod) + 24883) % (8 * tideMod)) ∈ t.out
      ∧ t.lane l.val = { s.lane l.val with rssiAt := s.bnd }
      ∧ (Tab.get {} t.craft.ddm l.val : Ddm).due = true
      ∧ t = { s with line := t.line, craft := { s.craft with ddm := t.craft.ddm }, out := t.out }) := by
  have hDue : s.rssiDue l.val = true := by
    have hAny : (s.lane l.val).burst.any (fun b => decide (rssiLast ≤ b.2 - b.1)) = true := by
      rw [hBurst]
      exact decide_eq_true (by dsimp only; unfold rssiLast; omega)
    exact (s.rssiDue_iff l.val).mpr ⟨hAct, hAt, hTx, hAny⟩
  refine ⟨s.rssiStrobed l.val ((first + 49766) % (8 * tideMod)), ?_, List.mem_cons_self, State.lane_modLane_same _ _ s, ?_, rfl⟩
  · have hExec : exec (.rssiTrig l) s = .next (if s.rssiDue l.val then
        s.rssiStrobed l.val ((((s.lane l.val).burst.getD (0, 0)).1 + rssiRise) % (8 * tideMod)) else s) := rfl
    rw [hExec, if_pos hDue, hBurst]
    rfl
  · have hDdm : (Tab.get {} (s.rssiStrobed l.val ((first + 49766) % (8 * tideMod))).craft.ddm l.val : Ddm)
        = { Tab.get {} s.craft.ddm l.val with due := true } :=
      Tab.get_modify_same ({} : Ddm) s.craft.ddm l.val (fun d => { d with due := true })
    rw [hDdm]

theorem rssiTrig_idle {l : Lane} (h : (s.lane l.val).act ≠ .o5 ∨ (s.lane l.val).burst = none) :
    exec (.rssiTrig l) s = .next s := by
  refine congrArg Host.Outcome.next (if_neg (fun hDue => ?_))
  obtain ⟨hAct, _, _, hAny⟩ := (s.rssiDue_iff l.val).mp hDue
  rcases h with h | h
  · exact h hAct
  · rw [h] at hAny
    exact absurd hAny (by decide)

/-! ### The rogue-burst guard -/

theorem State.syncTx_lane (l : Nat) (s : State) : (s.syncTx l).lane l = { s.lane l with txDis := !s.txMay l } :=
  State.lane_modLane_same _ _ s

/-- The instants of a lane's trips within 480,000 frames, with the one now. -/
def State.trips (l : Nat) (s : State) : List Nat := s.bnd :: (s.lane l).rogueAt.filter (fun t => decide (s.bnd ≤ t + 480000))

/-- The guard has tripped: the transmitter is off, and the guard latched from the third trip on. -/
def State.tripped (l : Nat) (s : State) : State :=
  ((((s.modLane l (fun x => { x with rogue := true, rogueLatch := x.rogueLatch || decide (3 ≤ (s.trips l).length)
                                     rogueAt := s.trips l })).syncTx l).inc (lnCnt l 21)).lnEvent l 5 0)

theorem exec_lnRogue (l : Lane) (s : State) : exec (.lnRogue l) s = .next
    (if decide (3 ≤ (s.trips l.val).length) && !(s.lane l.val).rogueLatch then (s.tripped l.val).lnEvent l.val 6 0
      else s.tripped l.val) := rfl

theorem State.tripped_adds (l : Nat) (s : State) (hC : Covers [.evt, .host, .ring, .log, .cnt, .out, .line] C := by rfl) :
    Adds C s (s.tripped l) :=
  Adds.mono (D := [.evt, .host, .ring, .log, .cnt, .out, .line]) ((((State.modLane_adds _ _ s).trans (State.modLane_adds _ _ _)).trans
    (State.inc_adds _ _)).trans (State.lnEvent_adds _ _ _ _)) hC

/-- The lane whose guard has tripped, but for its transmitter. -/
def LaneState.trippedAt (x : LaneState) (bnd : Nat) : LaneState :=
  { x with rogue := true
           rogueLatch := x.rogueLatch || decide (3 ≤ (bnd :: x.rogueAt.filter (fun t => decide (bnd ≤ t + 480000))).length)
           rogueAt := bnd :: x.rogueAt.filter (fun t => decide (bnd ≤ t + 480000)) }

theorem State.tripped_lane (l : Nat) (s : State) :
    (s.tripped l).lane l = { (s.lane l).trippedAt s.bnd with txDis := true } := by
  have hTrip : (s.modLane l (fun x => { x with rogue := true, rogueLatch := x.rogueLatch || decide (3 ≤ (s.trips l).length)
                                               rogueAt := s.trips l })).lane l = (s.lane l).trippedAt s.bnd :=
    State.lane_modLane_same _ _ s
  have hRogue : ((s.lane l).trippedAt s.bnd).rogue = true := rfl
  rw [State.tripped, State.lnEvent_lane, State.inc_lane, State.syncTx_lane, State.txMay, hTrip, hRogue]
  simp

theorem lnRogue_trips (l : Lane) (s : State) : completesWith (.lnRogue l) s (fun t =>
    (t.lane l.val).rogue = true ∧ (t.lane l.val).txDis = true ∧ t.pends (128 + 16 * l.val + 5)
    ∧ (t.lane l.val).rogueLatch = ((s.lane l.val).rogueLatch
        || decide (2 ≤ ((s.lane l.val).rogueAt.filter (fun x => decide (s.bnd ≤ x + 480000))).length))
    ∧ t = { s.reporting t with line := t.line }) := by
  refine ⟨_, exec_lnRogue l s, ?_⟩
  have hTripped := s.tripped_lane l.val
  have hAdds := State.tripped_adds (C := [.evt, .host, .ring, .log, .cnt, .out, .line]) l.val s
  have hPends : (s.tripped l.val).pends (128 + 16 * l.val + 5) := State.lnEvent_pends _ _ _ _
  have hLater : Adds reportParts (s.tripped l.val)
      (if decide (3 ≤ (s.trips l.val).length) && !(s.lane l.val).rogueLatch then (s.tripped l.val).lnEvent l.val 6 0
        else s.tripped l.val) := .ite (State.lnEvent_adds _ _ _ _) (.refl _ _)
  generalize (if decide (3 ≤ (s.trips l.val).length) && !(s.lane l.val).rogueLatch then (s.tripped l.val).lnEvent l.val 6 0
        else s.tripped l.val) = t at hLater ⊢
  have hLane := (hLater.lane l.val).trans hTripped
  have hTrips : decide (3 ≤ (s.bnd :: (s.lane l.val).rogueAt.filter (fun x => decide (s.bnd ≤ x + 480000))).length)
      = decide (2 ≤ ((s.lane l.val).rogueAt.filter (fun x => decide (s.bnd ≤ x + 480000))).length) := by
    rw [List.length_cons]
    exact decide_eq_decide.mpr (by omega)
  refine ⟨by rw [hLane]; rfl, by rw [hLane], hLater.pending _ hPends, ?_, (hAdds.trans (hLater.mono rfl)).lineFrame⟩
  rw [hLane]
  exact congrArg ((s.lane l.val).rogueLatch || ·) hTrips

theorem rogueGuardRelease_frees (l : Lane) (s : State) : completesWith (.rogueGuardRelease l) s (fun t =>
    (t.lane l.val).rogue = false
    ∧ ((s.lane l.val).act = .o5 → (s.lane l.val).rogueLatch = false → s.clk.rootHold = false → (t.lane l.val).txDis = false)
    ∧ t = { s with line := t.line }) := by
  refine ⟨(s.modLane l.val (fun x => { x with rogue := false })).syncTx l.val, rfl, ?_, fun hAct hLatch hRoot => ?_, rfl⟩
  · rw [State.syncTx_lane, State.lane_modLane_same]
  · have hClk : (s.modLane l.val (fun x => { x with rogue := false })).clk.rootHold = false := hRoot
    rw [State.syncTx_lane, State.txMay, State.lane_modLane_same, hClk, hAct, hLatch]
    simp

/-! ### OMCI messages from the line -/

/-- A message that a lane takes. -/
def State.omciTaken (l : Lane) (b mic : List Byte) (s : State) : State :=
  let s1 := s.inc (lnCnt l.val 14)
  if mic != s.omciMic l.val false b then s1.inc (lnCnt l.val 16)
  else if 32 ≤ (s.line.omciHeld.filter (fun x => x.1 == l.val)).length then (s1.inc (lnCnt l.val 17)).lnEvent l.val 14 0
  else ({ s1 with line := { s1.line with omciHeld := s1.line.omciHeld ++ [(l.val, b)] } }).flushOmci

theorem exec_omciDownstream {l : Lane} {b mic : List Byte} (hId : (s.lane l.val).onuId.isSome = true)
    (hSync : (s.lane l.val).sync = true) : exec (.omciDownstream l b mic) s = .next (s.omciTaken l b mic) :=
  congrArg Host.Outcome.next (if_neg (by
    rw [hSync, Bool.not_true, Bool.or_false, Bool.not_eq_true, Option.isNone_eq_false_iff]
    exact hId))

/-- A message with a good check is held behind the others. -/
def State.omciHeldBy (l : Lane) (b : List Byte) (s : State) : State :=
  { s.inc (lnCnt l.val 14) with line := { s.line with omciHeld := s.line.omciHeld ++ [(l.val, b)] } }

theorem State.omciTaken_good {l : Lane} {b mic : List Byte} (hMic : mic = s.omciMic l.val false b)
    (hRoom : (s.line.omciHeld.filter (fun x => x.1 == l.val)).length < 32) :
    s.omciTaken l b mic = (s.omciHeldBy l b).flushOmci := by
  have hLine : (s.inc (lnCnt l.val 14)).line = s.line := (State.inc_adds (C := reportParts) _ s).within.line rfl
  rw [State.omciTaken, if_neg (by simp [hMic]), if_neg (by omega), hLine]
  rfl

theorem omciDownstream_bad {l : Lane} {b mic : List Byte} (hId : (s.lane l.val).onuId.isSome = true)
    (hSync : (s.lane l.val).sync = true) (hMic : mic ≠ s.omciMic l.val false b) :
    completesWith (.omciDownstream l b mic) s (fun t =>
      t.line = s.line ∧ Tab.get 0 t.cnt (lnCnt l.val 16) = (Tab.get 0 s.cnt (lnCnt l.val 16) + 1) % 2 ^ 40
      ∧ t = s.reporting t) := by
  refine ⟨_, exec_omciDownstream hId hSync, ?_⟩
  have hTaken : s.omciTaken l b mic = (s.inc (lnCnt l.val 14)).inc (lnCnt l.val 16) := if_pos (by simp [hMic])
  have hAdds : Adds reportParts s ((s.inc (lnCnt l.val 14)).inc (lnCnt l.val 16)) := (State.inc_adds _ s).trans (State.inc_adds _ _)
  have hBeside : besideMailboxes (lnCnt l.val 16) := by
    unfold besideMailboxes lnCnt
    omega
  have hOther : lnCnt l.val 16 ≠ lnCnt l.val 14 := by
    unfold lnCnt
    omega
  rw [hTaken]
  refine ⟨hAdds.within.line rfl, ?_, hAdds.within.reporting⟩
  rw [State.inc, State.count_cnt_same hBeside, State.inc, State.count_cnt_other hBeside hOther]

/-- During a warm CP restart nothing is delivered (R874). -/
theorem State.deliverOmci_halted {s : State} (h : s.start.fwState = 3) (fuel : Nat) : s.deliverOmci fuel = s := by
  cases fuel with
  | zero => rfl
  | succ fuel =>
    unfold State.deliverOmci
    split
    · rfl
    · exact if_pos (by simp [h])

theorem omciDownstream_held {l : Lane} {b mic : List Byte} (hId : (s.lane l.val).onuId.isSome = true)
    (hSync : (s.lane l.val).sync = true) (hMic : mic = s.omciMic l.val false b) (hFw : s.start.fwState = 3)
    (hRoom : (s.line.omciHeld.filter (fun x => x.1 == l.val)).length < 32) :
    completesWith (.omciDownstream l b mic) s (fun t =>
      t.line = { s.line with omciHeld := s.line.omciHeld ++ [(l.val, b)] } ∧ t = { s.reporting t with line := t.line }) := by
  refine ⟨_, exec_omciDownstream hId hSync, ?_⟩
  have hInc : Adds [.evt, .host, .ring, .log, .cnt, .out, .line] s (s.inc (lnCnt l.val 14)) := State.inc_adds _ s
  have hHeld : Adds [.evt, .host, .ring, .log, .cnt, .out, .line] s (s.omciHeldBy l b) := hInc.trans (adds_of_eq rfl rfl)
  have hHalted : (s.omciHeldBy l b).start.fwState = 3 := (congrArg Start.fwState (hHeld.within.start rfl)).trans hFw
  rw [State.omciTaken_good hMic hRoom, State.flushOmci, State.deliverOmci_halted hHalted]
  exact ⟨rfl, hHeld.lineFrame⟩

/-- Settles O25: the activation state moves as the tables say, and what leaves it alone keeps it; each monitoring command
acts on its own lane. -/
theorem lineStateCommands : Obligations.LineStateCommands := by
  refine ⟨fun s l => ⟨lnLos_on, lnLos_off, fun hOff d => congrArg Host.Outcome.next (if_pos (by simp [hOff])), lnLods_lost,
      fun hLost => congrArg Host.Outcome.next (if_pos (by simp [hLost])), fun hAct => ?_,
      fun hAct => congrArg Host.Outcome.next (if_neg hAct), fun hAct => ?_, fun hAct => congrArg Host.Outcome.next (if_neg hAct), ?_⟩,
    fun s l => ⟨sdSfWindow_judges, rssiTrig_strobes, rssiTrig_idle, lnRogue_trips l s, rogueGuardRelease_frees l s,
      fun b mic => omciDownstream_bad, fun b mic => omciDownstream_held, fun b mic hId hSync hMic hRoom => ?_⟩⟩
  · exact ⟨_, congrArg Host.Outcome.next (if_pos hAct), State.timedOut l 5 s⟩
  · exact ⟨_, congrArg Host.Outcome.next (if_pos hAct), State.timedOut l 6 s⟩
  · rintro f rfl hSync hAct hHold hRoot
    exact downstreamFrame_takes hSync hAct hHold hRoot
  · exact (exec_omciDownstream hId hSync).trans (congrArg Host.Outcome.next (State.omciTaken_good hMic hRoom))

end Sys2Proof.Machine
end

section
/-!
# Downstream PLOAM messages that a lane hears for the first time (R122, R124, R147, Table LN-4)
-/
namespace Sys2Proof.Machine

-- One theorem after another: the stacks of many that wait at once would exceed the memory of the check.
set_option Elab.async false

variable {C : List Part} {s t u v : State} {l : Nat} {h : PloamHdr} {m : PloamMsg} {r : Option PloamUp}

/-- What a PLOAM message touches. -/
def ploamParts : List Part := [.evt, .host, .ring, .log, .cnt, .out, .fresh, .power, .line, .pool, .cipher, .adm]

theorem Adds.ploamFrame (k : Adds ploamParts s t) : t = { s.reporting t with
    fresh := t.fresh, power := t.power, line := t.line, pool := t.pool, cipher := t.cipher, adm := t.adm } := k.within.eq_merge

/-! ### A message is heard, executed and answered once -/

/-- A message is executed: it is remembered with its response, and the response queued. -/
def State.ploamDone (l : Nat) (h : PloamHdr) (m : PloamMsg) (r : Option PloamUp) (s : State) : State :=
  (s.remember l h m r).respond l r

/-- A message is counted. -/
def State.ploamCounted (l : Nat) (s : State) : State := s.inc (lnCnt l 10)

theorem State.ploamCounted_adds (l : Nat) (s : State) (hC : Covers reportParts C := by rfl) : Adds C s (s.ploamCounted l) :=
  State.inc_adds _ s hC

theorem State.ploamCounted_lane (l n : Nat) (s : State) : (s.ploamCounted l).lane n = s.lane n := State.inc_lane _ _ s

theorem State.ploamIn_hears (hHears : s.hears l h m) : s.ploamIn l h m =
    (doPloam l h m (s.ploamCounted l)).2.ploamDone l h m (doPloam l h m (s.ploamCounted l)).1 := by
  obtain ⟨hAct, hSync, hId, hFw, hMemo⟩ := hHears
  have hOwn : (h.unicast && (s.lane l).onuId.isNone) = false := by
    cases hUni : h.unicast with
    | false => rfl
    | true => simpa using hId hUni
  rw [State.ploamIn, if_neg (by simp [hAct, hSync, hOwn]), if_neg hFw]
  unfold State.ploamOnce
  rw [State.inc_lane, hMemo]
  rfl

theorem State.ploamDone_none (l : Nat) (h : PloamHdr) (m : PloamMsg) (s : State) :
    s.ploamDone l h m none = s.remember l h m none := rfl

theorem State.queuePloam_adds (l : Nat) (m : PloamUp) (s : State) :
    Adds [.evt, .host, .ring, .log, .cnt, .out, .line] s (s.queuePloam l m) :=
  .ite ((State.inc_adds _ s).trans (State.lnEvent_adds _ _ _ _)) (State.modLane_adds _ _ s)

/-- What a lane keeps when a message is remembered and answered. -/
def LaneState.aside (x : LaneState) : LaneState := { x with memo := [], upq := [] }

theorem State.remember_laneKept (l : Nat) (h : PloamHdr) (m : PloamMsg) (r : Option PloamUp) (s : State) :
    LaneKept (fun x => { x with memo := [] }) [.evt, .host, .ring, .log, .cnt, .out, .line] s (s.remember l h m r) :=
  .ite (State.modLane_laneKept l (fun x => { x with memo := ({ seqno := h.seqno, msg := m, resp := r } :: x.memo).take 16 })
    (fun _ => rfl) s) (.refl s)

theorem State.queuePloam_laneKept (l : Nat) (m : PloamUp) (s : State) :
    LaneKept (fun x => { x with upq := [] }) [.evt, .host, .ring, .log, .cnt, .out, .line] s (s.queuePloam l m) :=
  .ite ((State.inc_laneKept _ s).trans (State.raise_laneKept _ _ _ _))
    (State.modLane_laneKept l (fun x => { x with upq := x.upq ++ [m] }) (fun _ => rfl) s)

theorem State.queuePloam_room {l : Nat} (hRoom : (s.lane l).upq.length < 8) (m : PloamUp) :
    s.queuePloam l m = s.modLane l (fun x => { x with upq := x.upq ++ [m] }) := if_neg (by omega)

theorem State.respond_laneKept (l : Nat) (r : Option PloamUp) (s : State) :
    LaneKept (fun x => { x with upq := [] }) [.evt, .host, .ring, .log, .cnt, .out, .line] s (s.respond l r) := by
  cases r with
  | none => exact .refl s
  | some m => exact s.queuePloam_laneKept l m

theorem State.ploamDone_laneKept (l : Nat) (h : PloamHdr) (m : PloamMsg) (r : Option PloamUp) (s : State) :
    LaneKept LaneState.aside [.evt, .host, .ring, .log, .cnt, .out, .line] s (s.ploamDone l h m r) :=
  ((s.remember_laneKept l h m r).map LaneState.aside (fun x => { x with upq := [] }) (fun _ => rfl)).trans
    ((State.respond_laneKept l r _).map LaneState.aside (fun x => { x with memo := [] }) (fun _ => rfl))

/-- A response is queued where the queue has room (R149). -/
theorem State.ploamDone_upq (h : PloamHdr) (m : PloamMsg) (r : PloamUp) (hRoom : (s.lane l).upq.length < 8) :
    ((s.ploamDone l h m (some r)).lane l).upq = (s.lane l).upq ++ [r] := by
  have hUpq : ((s.remember l h m (some r)).lane l).upq = (s.lane l).upq :=
    (congrArg LaneState.upq ((s.remember_laneKept l h m (some r)).lane l) :)
  have hRoom' : ((s.remember l h m (some r)).lane l).upq.length < 8 := by rwa [hUpq]
  have hDone : s.ploamDone l h m (some r) =
      (s.remember l h m (some r)).modLane l (fun x => { x with upq := x.upq ++ [r] }) := State.queuePloam_room hRoom' r
  rw [hDone, State.lane_modLane_same, hUpq]

/-- From `s` a message has led to `v` with response `r`, which `t` has answered. -/
structure Heard (l : Nat) (r : Option PloamUp) (s v t : State) : Prop where
  adds : Adds ploamParts s t
  aside : (t.lane l).aside = (v.lane l).aside
  answered : ∀ a, r = some a → (v.lane l).upq.length < 8 → (t.lane l).upq = (v.lane l).upq ++ [a]
  silent : r = none → (t.lane l).upq = (v.lane l).upq
  later : Adds [.evt, .host, .ring, .log, .cnt, .out, .line] v t
  o7 : t.line.o7Store = v.line.o7Store

/-- A field of the lane that neither an answer nor a cancelled caravan moves. -/
theorem Heard.field {β : Type} (k : Heard l r s v t) {x : LaneState} (hv : v.stillOf l = x) (F : LaneState → β)
    (hAside : ∀ y, F y.aside = F y := by exact fun _ => rfl) (hStill : ∀ y, F y.still = F y := by exact fun _ => rfl) :
    F (t.lane l) = F x :=
  (hAside _).symm.trans ((congrArg F k.aside).trans ((hAside _).trans ((hStill _).symm.trans (congrArg F hv))))

theorem State.ploamDone_heard (h : PloamHdr) (m : PloamMsg) (r : Option PloamUp)
    (hDid : Adds ploamParts (s.ploamCounted l) v) : Heard l r s v (v.ploamDone l h m r) where
  adds := ((s.ploamCounted_adds (C := ploamParts) l).trans hDid).trans ((v.ploamDone_laneKept l h m r).adds.mono rfl)
  aside := (v.ploamDone_laneKept l h m r).lane l
  answered := by
    rintro a rfl hRoom
    exact State.ploamDone_upq h m a hRoom
  silent := by
    rintro rfl
    exact (congrArg LaneState.upq ((v.remember_laneKept l h m none).lane l) :)
  later := (v.ploamDone_laneKept l h m r).adds
  o7 := (v.ploamDone_laneKept l h m r).o7

/-- A command whose message the lane hears: what executing the message gives, remembered and answered. -/
theorem completes_hears {i : Instr} {P : State → Prop} (hExec : exec i s = .next (s.ploamIn l h m)) (hHears : s.hears l h m)
    (hDid : doPloam l h m (s.ploamCounted l) = (r, v)) (hAdds : Adds ploamParts (s.ploamCounted l) v)
    (hP : ∀ t, Heard l r s v t → P t) : completesWith i s P := by
  refine ⟨v.ploamDone l h m r, ?_, hP _ (State.ploamDone_heard h m r hAdds)⟩
  rw [hExec, State.ploamIn_hears hHears, hDid]

/-! ### Burst profiles (R130, R143) -/

/-- A lane with a new burst profile, the one that it replaces behind it. -/
def LaneState.profiled (p : BurstProfile) (x : LaneState) : LaneState :=
  { x with profiles := p :: (x.profiles.filter (fun q => q.index == p.index && q.since != p.since)).take 1
             ++ x.profiles.filter (fun q => q.index != p.index) }

/-- The device with the profile held, the lane ranged on to O2-3 where it was the last that O1.2 waits for. -/
def State.profileHeld (l : Nat) (p : BurstProfile) (c : Bool) (s : State) : State :=
  if c && decide ((s.lane l).act = .o12) then (s.modLane l (LaneState.profiled p)).setAct l .o23
  else s.modLane l (LaneState.profiled p)

theorem State.profileHeld_adds (l : Nat) (p : BurstProfile) (c : Bool) (s : State) : Adds ploamParts s (s.profileHeld l p c) :=
  .ite (Adds.trans (C := ploamParts) (State.modLane_adds _ _ s) ((State.setAct_adds _ _ _).mono rfl)) (State.modLane_adds _ _ s)

theorem State.profileHeld_still (l : Nat) (p : BurstProfile) (c : Bool) (s : State) : (s.profileHeld l p c).stillOf l =
    { (s.stillOf l).profiled p with act := if c = true ∧ (s.lane l).act = .o12 then .o23 else (s.lane l).act } := by
  have hCond : (c && decide ((s.lane l).act = .o12)) = true ↔ c = true ∧ (s.lane l).act = .o12 := by
    rw [Bool.and_eq_true, decide_eq_true_iff]
  unfold State.profileHeld
  by_cases hUp : c = true ∧ (s.lane l).act = .o12
  · rw [if_pos (hCond.mpr hUp), if_pos hUp, State.setAct_still, State.stillOf_modLane_same]
    rfl
  · rw [if_neg (fun e => hUp (hCond.mp e)), if_neg hUp, State.stillOf_modLane_same]
    rfl

/-- A profile that a lane hears of: not in force for the frame that carries it. -/
def State.newProfile (l i p d : Nat) (f : Bool) (s : State) : BurstProfile :=
  { index := i, preamble := p, delimiter := d, fec := f, since := (s.lane l).lastDs }

theorem burstProfile_done {l : Lane} {i : Fin 4} {p d : Nat} {f c : Bool} (hHears : s.hears l.val h (.burstProfile i p d f c)) :
    completesWith (.burstProfile l h i p d ⟨f, c⟩) s (fun t =>
      (t.lane l.val).profiles.head? = some
        { index := i, preamble := p, delimiter := d, fec := f, since := (s.lane l.val).lastDs }
      ∧ (t.lane l.val).act = (if c = true ∧ (s.lane l.val).act = .o12 then .o23 else (s.lane l.val).act)
      ∧ t = { s.reporting t with
          fresh := t.fresh, power := t.power, line := t.line, pool := t.pool, cipher := t.cipher, adm := t.adm }) := by
  have hLane := s.ploamCounted_lane l.val l.val
  refine completes_hears rfl hHears
    (v := (s.ploamCounted l.val).profileHeld l.val ((s.ploamCounted l.val).newProfile l.val i p d f) c) rfl
    (State.profileHeld_adds _ _ _ _) (fun t hHeard => ?_)
  have hStill := State.profileHeld_still l.val ((s.ploamCounted l.val).newProfile l.val i p d f) c (s.ploamCounted l.val)
  rw [State.newProfile, hLane] at hStill hHeard
  refine ⟨?_, hHeard.field hStill LaneState.act, hHeard.adds.ploamFrame⟩
  rw [hHeard.field hStill LaneState.profiles]
  rfl

/-! ### Assign_ONU-ID and Ranging_Time (R130, R140 to R142, R152) -/

/-- A lane in O4 with its ONU-ID and the keys of the activation. -/
def State.identified (l id : Nat) (s : State) : State :=
  ((((s.modLane l (fun x => { x with onuId := some id })).rederive l).setAct l .o4).actEvent l 1 0)

theorem State.identified_adds (l id : Nat) (s : State) : Adds ploamParts s (s.identified l id) :=
  Adds.trans (C := ploamParts) (Adds.trans (C := ploamParts) (Adds.trans (C := ploamParts) (State.modLane_adds _ _ s)
    (State.rederive_adds _ _)) ((State.setAct_adds _ _ _).mono rfl)) (State.actEvent_adds _ _ _ _)

theorem State.identified_still (l id : Nat) (s : State) :
    (s.identified l id).stillOf l = { s.stillOf l with act := .o4, onuId := some id } := by
  have hEvent (u : State) : (u.actEvent l 1 0).stillOf l = u.stillOf l := congrArg LaneState.still (u.actEvent_lane l 1 0 l)
  have hKeys (u : State) : (u.rederive l).stillOf l = u.stillOf l := rfl
  rw [State.identified, hEvent, State.setAct_still, hKeys, State.stillOf_modLane_same]
  rfl

theorem doOnuId_own {l : Nat} {id : Nat} (hAct : (s.lane l).act = .o23) :
    doOnuId l (s.serialOf l) id s = (none, s.identified l id) := if_neg (by simp [hAct])

theorem State.ploamCounted_start (l : Nat) (s : State) : (s.ploamCounted l).start = s.start :=
  (s.ploamCounted_adds (C := reportParts) l).within.start rfl

theorem State.ploamCounted_cfg (l : Nat) (s : State) : (s.ploamCounted l).cfg = s.cfg :=
  (s.ploamCounted_adds (C := reportParts) l).within.cfg rfl

theorem State.ploamCounted_line (l : Nat) (s : State) : (s.ploamCounted l).line = s.line :=
  (s.ploamCounted_adds (C := reportParts) l).within.line rfl

theorem State.ploamCounted_cipher (l : Nat) (s : State) : (s.ploamCounted l).cipher = s.cipher :=
  (s.ploamCounted_adds (C := reportParts) l).within.cipher rfl

theorem State.ploamCounted_serialOf (l n : Nat) (s : State) : (s.ploamCounted l).serialOf n = s.serialOf n := by
  rw [State.serialOf, State.ploamCounted_start, State.ploamCounted_cfg]
  rfl

theorem State.ploamCounted_is25 (l : Nat) (s : State) : (s.ploamCounted l).is25 = s.is25 := by
  rw [State.is25, State.ploamCounted_cfg]
  rfl

theorem assignOnuId_done {l : Lane} {id : Nat} (hHears : s.hears l.val h (.assignOnuId (s.serialOf l.val) id))
    (hAct : (s.lane l.val).act = .o23) : completesWith (.assignOnuId l h (s.serialOf l.val) id) s (fun t =>
      (t.lane l.val).act = .o4 ∧ (t.lane l.val).onuId = some id ∧ t.pends (192 + 8 * l.val + 1)
      ∧ t = { s.reporting t with
          fresh := t.fresh, power := t.power, line := t.line, pool := t.pool, cipher := t.cipher, adm := t.adm }) := by
  have hDid : doOnuId l.val (s.serialOf l.val) id (s.ploamCounted l.val) = (none, (s.ploamCounted l.val).identified l.val id) := by
    rw [← s.ploamCounted_serialOf l.val l.val]
    exact doOnuId_own (by rwa [State.ploamCounted_lane])
  refine completes_hears rfl hHears hDid (State.identified_adds _ _ _) (fun t hHeard => ?_)
  have hStill := State.identified_still l.val id (s.ploamCounted l.val)
  exact ⟨hHeard.field hStill LaneState.act,
    hHeard.field hStill LaneState.onuId,
    hHeard.later.pending _ (State.actEvent_pends _ 1 _ _), hHeard.adds.ploamFrame⟩

/-- A lane whose EqD is new, ranged on to O5. -/
def State.rangedTo (l bits : Nat) (s : State) : State := ((s.setEqd l bits).setAct l .o5).actEvent l 2 0

theorem State.rangedTo_adds (l bits : Nat) (s : State) : Adds ploamParts s (s.rangedTo l bits) :=
  Adds.trans (C := ploamParts) (Adds.trans (C := ploamParts) (State.modLane_adds _ _ s) ((State.setAct_adds _ _ _).mono rfl))
    (State.actEvent_adds _ _ _ _)

theorem State.rangedTo_still (l bits : Nat) (s : State) : (s.rangedTo l bits).stillOf l =
    { s.stillOf l with
      act := .o5, eqd := eqdOf s.is25 bits, eqdFrom := (s.lane l).lastDs
      eqdOld := if (s.lane l).eqdFrom = (s.lane l).lastDs then (s.lane l).eqdOld else (s.lane l).eqd } := by
  have hEvent (u : State) : (u.actEvent l 2 0).stillOf l = u.stillOf l := congrArg LaneState.still (u.actEvent_lane l 2 0 l)
  rw [State.rangedTo, hEvent, State.setAct_still, State.setEqd, State.stillOf_modLane_same]
  rfl

theorem doRanging_o4 {l bits : Nat} (hAct : (s.lane l).act = .o4) (hBits : bits ≤ eqdMaxBits s.is25) :
    doRanging l h true false bits s = ackTo h ackOk (s.rangedTo l bits) := by
  unfold doRanging
  rw [if_neg (by simp [hAct])]
  dsimp only
  rw [if_neg (by simpa using hBits), if_pos rfl, if_pos hAct]
  rfl

theorem rangingTime_done {l : Lane} {bits : Nat} (hHears : s.hears l.val h (.rangingTime true false bits))
    (hAct : (s.lane l.val).act = .o4) (hBits : bits ≤ eqdMaxBits s.is25) :
    completesWith (.rangingTime l h true false bits) s (fun t =>
      (t.lane l.val).act = .o5 ∧ (t.lane l.val).eqd = eqdOf s.is25 bits
      ∧ (t.lane l.val).eqdFrom = (s.lane l.val).lastDs ∧ t.pends (192 + 8 * l.val + 2)
      ∧ t = { s.reporting t with
          fresh := t.fresh, power := t.power, line := t.line, pool := t.pool, cipher := t.cipher, adm := t.adm }) := by
  have hDid : doRanging l.val h true false bits (s.ploamCounted l.val) = ackTo h ackOk ((s.ploamCounted l.val).rangedTo l.val bits) :=
    doRanging_o4 (by rwa [State.ploamCounted_lane]) (by rwa [State.ploamCounted_is25])
  refine completes_hears rfl hHears hDid (State.rangedTo_adds _ _ _) (fun t hHeard => ?_)
  have hStill := State.rangedTo_still l.val bits (s.ploamCounted l.val)
  rw [State.ploamCounted_is25, State.ploamCounted_lane] at hStill
  exact ⟨hHeard.field hStill LaneState.act,
    hHeard.field hStill LaneState.eqd,
    hHeard.field hStill LaneState.eqdFrom,
    hHeard.later.pending _ (State.actEvent_pends _ 2 _ _), hHeard.adds.ploamFrame⟩

/-- An EqD beyond the largest changes nothing of the device (R142). -/
theorem doRanging_beyond {l bits : Nat} (hBits : eqdMaxBits s.is25 < bits) : ∃ r, doRanging l h true false bits s = (r, s) := by
  unfold doRanging
  dsimp only
  split
  · exact ⟨none, rfl⟩
  · rw [if_pos (by simpa using hBits)]
    exact ⟨_, rfl⟩

theorem rangingTime_beyond {l : Lane} {bits : Nat} (hHears : s.hears l.val h (.rangingTime true false bits))
    (hBits : eqdMaxBits s.is25 < bits) : completesWith (.rangingTime l h true false bits) s (fun t =>
      (t.lane l.val).act = (s.lane l.val).act ∧ (t.lane l.val).eqd = (s.lane l.val).eqd
      ∧ t = { s.reporting t with
          fresh := t.fresh, power := t.power, line := t.line, pool := t.pool, cipher := t.cipher, adm := t.adm }) := by
  obtain ⟨r, hDid⟩ := doRanging_beyond (h := h) (l := l.val) (s := s.ploamCounted l.val) (by rwa [State.ploamCounted_is25])
  refine completes_hears rfl hHears hDid (.refl _ _) (fun t hHeard => ?_)
  have hStill := congrArg LaneState.still (s.ploamCounted_lane l.val l.val)
  exact ⟨hHeard.field hStill LaneState.act, hHeard.field hStill LaneState.eqd, hHeard.adds.ploamFrame⟩

end Sys2Proof.Machine
end

section
/-!
# What each downstream PLOAM message does (R134, R135, R138, R139, R147, R151, R153, R175, R176)
-/
namespace Sys2Proof.Machine

-- One theorem after another: the stacks of many that wait at once would exceed the memory of the check.
set_option Elab.async false

variable {C : List Part} {s t u v : State} {l : Nat} {h : PloamHdr} {m : PloamMsg} {r : Option PloamUp}

/-! ### Deactivate_ONU-ID and Disable_Serial_Number (R134, R135, R175, R176) -/

theorem deactivateOnuId_done {l : Lane} (hHears : s.hears l.val h .deactivate) (hAct : (s.lane l.val).act = .o5) :
    completesWith (.deactivateOnuId l h) s (fun t =>
      (t.lane l.val).act = (if (s.lane l.val).los then .o11 else .o12) ∧ (t.lane l.val).onuId = none
      ∧ (t.lane l.val).eqd = {} ∧ (t.lane l.val).allocs = [] ∧ (t.lane l.val).upq = []
      ∧ t.pends (192 + 8 * l.val + 3)
      ∧ t = { s.reporting t with
          fresh := t.fresh, power := t.power, line := t.line, pool := t.pool, cipher := t.cipher, adm := t.adm }) := by
  have hDid : doDeactivate l.val (s.ploamCounted l.val) = (none, ((s.ploamCounted l.val).actEvent l.val 3 0).toO1 l.val) := by
    unfold doDeactivate
    rw [State.ploamCounted_lane, hAct]
  have hTold : Adds ploamParts (s.ploamCounted l.val) ((s.ploamCounted l.val).actEvent l.val 3 0) := State.actEvent_adds _ _ _ _
  have hO1 := State.toO1_adds l.val ((s.ploamCounted l.val).actEvent l.val 3 0)
  refine completes_hears rfl hHears hDid (hTold.trans (hO1.mono rfl)) (fun t hHeard => ?_)
  have hStill := State.toO1_still l.val ((s.ploamCounted l.val).actEvent l.val 3 0)
  rw [State.actEvent_lane, State.ploamCounted_lane] at hStill
  have hO1Of : (s.lane l.val).o1Of = if (s.lane l.val).los then .o11 else .o12 := by
    obtain ⟨_, hSync, _⟩ := hHears
    rw [LaneState.o1Of, hSync]
    cases (s.lane l.val).los <;> rfl
  exact ⟨(hHeard.field hStill LaneState.act).trans hO1Of, hHeard.field hStill LaneState.onuId, hHeard.field hStill LaneState.eqd,
    hHeard.field hStill LaneState.allocs, (hHeard.silent rfl).trans (congrArg LaneState.upq hStill),
    hHeard.later.pending _ (hO1.pending _ (State.actEvent_pends _ 3 _ _)), hHeard.adds.ploamFrame⟩

theorem State.storeO7_adds (l : Nat) (on : Bool) (s : State) (hC : Covers [.power, .line] C := by rfl) :
    Adds C s (s.storeO7 l on) := Adds.mono (D := [.power, .line]) (adds_of_eq rfl rfl) hC

/-- What precedes the entry to O7: its record and the end of a burst. -/
def State.o7Stored (l : Nat) (s : State) : State := (s.storeO7 l true).cutBurst l

theorem State.o7Stored_adds (l : Nat) (s : State) (hC : Covers [.power, .line, .out] C := by rfl) : Adds C s (s.o7Stored l) :=
  Adds.mono (D := [.power, .line, .out]) ((State.storeO7_adds _ _ s).trans (State.cutBurst_adds _ _)) hC

theorem State.o7Stored_laneRecord (l : Nat) (s : State) :
    (s.o7Stored l).laneRecord l = (s.stillOf l, putBit s.line.o7Store l true) := State.cutBurst_laneRecord l l _

theorem State.toO7_adds (l : Nat) (s : State) : Adds ploamParts s (s.toO7 l) :=
  Adds.trans (C := ploamParts) (Adds.trans (C := ploamParts) (Adds.trans (C := ploamParts) (s.o7Stored_adds l)
    ((State.forgetLane_adds _ _).mono rfl)) ((State.setAct_adds _ _ _).mono rfl)) (State.actEvent_adds _ _ _ _)

theorem State.toO7_still (l : Nat) (s : State) : (s.toO7 l).stillOf l = { (s.stillOf l).forgotten with act := .o7 } := by
  have hEvent (u : State) : (u.actEvent l 4 0).stillOf l = u.stillOf l := congrArg LaneState.still (u.actEvent_lane l 4 0 l)
  have hStored : (s.o7Stored l).stillOf l = s.stillOf l := congrArg Prod.fst (s.o7Stored_laneRecord l)
  have hToO7 : s.toO7 l = (((s.o7Stored l).forgetLane l).setAct l .o7).actEvent l 4 0 := rfl
  rw [hToO7, hEvent, State.setAct_still, State.forgetLane_still, hStored]

theorem State.toO7_o7Store (l : Nat) (s : State) : (s.toO7 l).line.o7Store = putBit s.line.o7Store l true := by
  have hEvent := State.raise_laneKept (F := LaneState.any) (C := reportParts) (192 + 8 * l + 4)
    ((((s.o7Stored l).forgetLane l).setAct l .o7).obj 0xE l) 0 (((s.o7Stored l).forgetLane l).setAct l .o7)
  exact hEvent.o7.trans ((State.setAct_keeps _ _ _).o7.trans ((State.forgetLane_keeps _ _).o7.trans
    (congrArg Prod.snd (s.o7Stored_laneRecord l))))

theorem disableSerialNumber_done {l : Lane} (hHears : s.hears l.val h (.disableSerial false (s.serialOf l.val)))
    (hAct : (s.lane l.val).act ≠ .o7) : completesWith (.disableSerialNumber l h false (s.serialOf l.val)) s (fun t =>
      (t.lane l.val).act = .o7 ∧ (t.lane l.val).onuId = none ∧ t.line.o7Store = putBit s.line.o7Store l.val true
      ∧ t = { s.reporting t with
          fresh := t.fresh, power := t.power, line := t.line, pool := t.pool, cipher := t.cipher, adm := t.adm }) := by
  have hDid : doDisable l.val false (s.serialOf l.val) (s.ploamCounted l.val) = (none, (s.ploamCounted l.val).toO7 l.val) := by
    unfold doDisable
    rw [State.ploamCounted_serialOf, if_neg (not_not.mpr rfl), State.ploamCounted_lane, if_pos (by simp [hAct])]
  refine completes_hears rfl hHears hDid (State.toO7_adds _ _) (fun t hHeard => ?_)
  have hStill := State.toO7_still l.val (s.ploamCounted l.val)
  refine ⟨hHeard.field hStill LaneState.act, hHeard.field hStill LaneState.onuId, ?_, hHeard.adds.ploamFrame⟩
  rw [hHeard.o7, State.toO7_o7Store, State.ploamCounted_line]

/-! ### Messages that only answer (R122, R124, R138, R139) -/

/-- A message that changes nothing and is answered by `a`, where the queue has room. -/
theorem answer_done {l : Lane} {i : Instr} {a : PloamUp} (hExec : exec i s = .next (s.ploamIn l.val h m))
    (hHears : s.hears l.val h m) (hDid : doPloam l.val h m (s.ploamCounted l.val) = (some a, s.ploamCounted l.val))
    (hRoom : (s.lane l.val).upq.length < 8) : completesWith i s (fun t =>
      (t.lane l.val).upq = (s.lane l.val).upq ++ [a] ∧ (t.lane l.val).act = (s.lane l.val).act
      ∧ t = { s.reporting t with
          fresh := t.fresh, power := t.power, line := t.line, pool := t.pool, cipher := t.cipher, adm := t.adm }) := by
  refine completes_hears hExec hHears hDid (.refl _ _) (fun t hHeard => ?_)
  have hAnswered := hHeard.answered a rfl
  have hStill := congrArg LaneState.still (s.ploamCounted_lane l.val l.val)
  rw [State.ploamCounted_lane] at hAnswered
  exact ⟨hAnswered hRoom, hHeard.field hStill LaneState.act, hHeard.adds.ploamFrame⟩

theorem doRegistration_some (hId : (s.lane l).onuId.isSome = true) :
    doRegistration l s = (some (.registration (s.cfg.lane l).regId), s) := if_pos hId

theorem ackTo_unicast (hUni : h.unicast = true) (code : Nat) (s : State) :
    ackTo h code s = (some (.acknowledge h.seqno code), s) := by rw [ackTo, if_pos hUni]

theorem doUnknown_unicast (hUni : h.unicast = true) (s : State) :
    doUnknown h true s = (some (.acknowledge h.seqno ackUnknown), s) := (if_pos rfl).trans (ackTo_unicast hUni _ s)

/-! ### Assign_Alloc-ID (R151, R215) -/

/-- A lane takes an Alloc-ID; the grants of its index begin anew. -/
def State.allocTaken (l id : Nat) (s : State) : State :=
  let s1 := s.modLane l (fun y => { y with allocs := y.allocs ++ [id] })
  match s1.indexOf l id with
  | none => s1
  | some a => s1.modAlloc a (fun y => { y with grants := Tab.set [] y.grants l [] })

theorem State.allocTaken_still (l id : Nat) (s : State) :
    (s.allocTaken l id).stillOf l = { s.stillOf l with allocs := (s.lane l).allocs ++ [id] } := by
  have hTaken : (s.modLane l (fun y => { y with allocs := y.allocs ++ [id] })).stillOf l =
      { s.stillOf l with allocs := (s.lane l).allocs ++ [id] } := State.stillOf_modLane_same _ _ s
  unfold State.allocTaken
  dsimp only
  split
  · exact hTaken
  · exact hTaken

theorem State.allocTaken_adds (l id : Nat) (s : State) : Adds ploamParts s (s.allocTaken l id) := by
  unfold State.allocTaken
  dsimp only
  split
  · exact State.modLane_adds _ _ s
  · exact (State.modLane_adds _ _ s).trans (State.modAlloc_adds _ _ _)

theorem doAlloc_new {id : Nat} (hId : (s.lane l).onuId.isSome = true) (hNew : (s.lane l).allocs.contains id = false)
    (hCount : s.allocCount < 128) : doAlloc l h id false s = ackTo h ackOk ((s.allocTaken l id).actEvent l 7 0) := by
  unfold doAlloc
  dsimp only
  rw [if_neg (by simp [Option.isSome_iff_ne_none.mp hId]), if_neg Bool.false_ne_true, hNew, if_neg Bool.false_ne_true, if_neg (by omega)]
  rfl

/-- A lane gives up an Alloc-ID: its caravans are cancelled and its index left. -/
def State.allocGiven (l id : Nat) (s : State) : State :=
  let s1 := s.modLane l (fun y => { y with allocs := y.allocs.filter (· != id) })
  match s1.indexOf l id with
  | none => s1
  | some a => (s1.cancel (fun c => c.lane == l && c.alloc == id)).leaveIndex a l

theorem State.allocGiven_still (l id : Nat) (s : State) :
    (s.allocGiven l id).stillOf l = { s.stillOf l with allocs := (s.lane l).allocs.filter (· != id) } := by
  have hGiven : (s.modLane l (fun y => { y with allocs := y.allocs.filter (· != id) })).stillOf l =
      { s.stillOf l with allocs := (s.lane l).allocs.filter (· != id) } := State.stillOf_modLane_same _ _ s
  unfold State.allocGiven
  dsimp only
  split
  · exact hGiven
  next a _ => exact (((State.cancel_laneKept _ _).trans (State.leaveIndex_laneKept a l _)).lane l).trans hGiven

theorem State.allocGiven_adds (l id : Nat) (s : State) : Adds ploamParts s (s.allocGiven l id) := by
  unfold State.allocGiven
  dsimp only
  split
  · exact State.modLane_adds _ _ s
  · exact Adds.trans (C := ploamParts) (State.modLane_adds _ _ s)
      (((State.cancel_laneKept _ _).trans (State.leaveIndex_laneKept _ l _)).adds.mono rfl)

theorem doAlloc_known {id : Nat} (hId : (s.lane l).onuId.isSome = true) (hKnown : (s.lane l).allocs.contains id = true) :
    doAlloc l h id true s = ackTo h ackOk ((s.allocGiven l id).actEvent l 7 0) := by
  unfold doAlloc
  dsimp only
  rw [if_neg (by simp [Option.isSome_iff_ne_none.mp hId]), if_pos rfl, hKnown, if_neg (by decide)]
  rfl

/-- An Alloc-ID that is taken or given up: the lane's Alloc-IDs, and the event. -/
theorem alloc_done {l : Lane} {id : Nat} {remove : Bool} {x : List Nat} (hHears : s.hears l.val h (.assignAllocId id remove))
    (hDid : doAlloc l.val h id remove (s.ploamCounted l.val) = ackTo h ackOk (v.actEvent l.val 7 0))
    (hAdds : Adds ploamParts (s.ploamCounted l.val) v) (hAllocs : (v.stillOf l.val).allocs = x) :
    completesWith (.assignAllocId l h id remove) s (fun t => (t.lane l.val).allocs = x ∧ t.pends (192 + 8 * l.val + 7)
      ∧ t = { s.reporting t with
          fresh := t.fresh, power := t.power, line := t.line, pool := t.pool, cipher := t.cipher, adm := t.adm }) := by
  refine completes_hears rfl hHears hDid (hAdds.trans (State.actEvent_adds _ _ _ _)) (fun t hHeard => ?_)
  have hStill := congrArg LaneState.still (v.actEvent_lane l.val 7 0 l.val)
  exact ⟨(hHeard.field hStill LaneState.allocs).trans hAllocs, hHeard.later.pending _ (State.actEvent_pends _ 7 _ _),
    hHeard.adds.ploamFrame⟩

/-! ### Key_Control (R153, R580) -/

/-- A generated key in the shadow of a bank, counted and told. -/
def State.keyMade (l b : Nat) (s : State) : State := (((s.genKey.2).writeBank l b s.genKey.1).inc 0x5C9).raise 546 (slotObj l) 0

theorem State.genKey_adds (s : State) : Adds ploamParts s s.genKey.2 := by
  have hReady (c : Cipher) : Adds ploamParts s { s with cipher := c } := adds_of_eq rfl rfl
  have hDraw (u : State) : Adds ploamParts u u.drawKey.2 := adds_of_eq rfl rfl
  exact ((hReady _).trans (State.inc_adds _ _)).trans (hDraw _)

theorem State.keyMade_adds (l b : Nat) (s : State) : Adds ploamParts s (s.keyMade l b) :=
  ((s.genKey_adds.trans (State.modBank_adds _ _ _ _)).trans (State.inc_adds _ _)).trans (State.raise_adds _ _ _ _)

theorem State.bank_modBank_same (slot b : Nat) (f : Bank → Bank) (s : State) :
    (s.modBank slot b f).bank slot b = f (s.bank slot b) := Tab.get_modify_same _ _ _ _

theorem State.keyMade_bank (l b : Nat) (s : State) : ((s.keyMade l b).bank l b).shadow.isSome = true := by
  have hAfter : Adds reportParts ((s.genKey.2).writeBank l b s.genKey.1) (s.keyMade l b) :=
    (State.inc_adds _ _).trans (State.raise_adds _ _ _ _)
  have hBank : ((s.genKey.2).writeBank l b s.genKey.1).bank l b =
      { s.genKey.2.bank l b with shadow := some s.genKey.1, erased := false } :=
    State.bank_modBank_same l b (fun x => { x with shadow := some s.genKey.1, erased := false }) s.genKey.2
  have hSame : (s.keyMade l b).bank l b = ((s.genKey.2).writeBank l b s.genKey.1).bank l b := by
    rw [State.bank, hAfter.within.cipher rfl]
    rfl
  rw [hSame, hBank]
  rfl

theorem doKey_generate {b : BankNo} (hId : (s.lane l).onuId.isSome = true) (hEntropy : s.cipher.entropyOk = true) :
    ∃ r, doKey l h true b s = (r, s.keyMade l b.val) := by
  unfold doKey
  rw [if_neg (by simp [Option.isSome_iff_ne_none.mp hId]), if_pos rfl, hEntropy, if_neg (by decide)]
  exact ⟨_, rfl⟩

theorem keyControl_generates {l : Lane} {b : BankNo} (hHears : s.hears l.val h (.keyControl true b))
    (hId : (s.lane l.val).onuId.isSome = true) (hEntropy : s.cipher.entropyOk = true) :
    completesWith (.keyControl l h true b) s (fun t => (t.bank l.val b.val).shadow.isSome = true ∧ t.pends 546
      ∧ t = { s.reporting t with
          fresh := t.fresh, power := t.power, line := t.line, pool := t.pool, cipher := t.cipher, adm := t.adm }) := by
  obtain ⟨r, hDid⟩ := doKey_generate (h := h) (b := b) (l := l.val) (s := s.ploamCounted l.val)
    (by rwa [State.ploamCounted_lane]) (by rwa [State.ploamCounted_cipher])
  refine completes_hears rfl hHears hDid (State.keyMade_adds _ _ _) (fun t hHeard => ?_)
  have hBank : t.bank l.val b.val = ((s.ploamCounted l.val).keyMade l.val b.val).bank l.val b.val := by
    rw [State.bank, hHeard.later.within.cipher rfl]
    rfl
  refine ⟨?_, hHeard.later.pending _ (State.raise_pends _ _ _ _), hHeard.adds.ploamFrame⟩
  rw [hBank]
  exact State.keyMade_bank _ _ _

theorem doKey_report {b : BankNo} {k : BitVec 128} (hId : (s.lane l).onuId.isSome = true) (hKey : (s.bank l b.val).newest = some k) :
    doKey l h false b s = (some (.keyReport (b.val + 1) (aesEcb (s.kekOf l) k)), s) := by
  unfold doKey
  rw [if_neg (by simp [Option.isSome_iff_ne_none.mp hId]), if_neg Bool.false_ne_true, hKey]

theorem keyControl_reports {l : Lane} {b : BankNo} {k : BitVec 128} (hHears : s.hears l.val h (.keyControl false b))
    (hId : (s.lane l.val).onuId.isSome = true) (hKey : (s.bank l.val b.val).newest = some k) :
    completesWith (.keyControl l h false b) s (fun t =>
      ((s.lane l.val).upq.length < 8 →
        (t.lane l.val).upq = (s.lane l.val).upq ++ [.keyReport (b.val + 1) (aesEcb (s.kekOf l.val) k)])
      ∧ t.cipher = s.cipher
      ∧ t = { s.reporting t with
          fresh := t.fresh, power := t.power, line := t.line, pool := t.pool, cipher := t.cipher, adm := t.adm }) := by
  have hCipher := s.ploamCounted_cipher l.val
  have hKek : (s.ploamCounted l.val).kekOf l.val = s.kekOf l.val := by
    rw [State.kekOf, State.mskOf, hCipher]
    rfl
  have hBank : (s.ploamCounted l.val).bank l.val b.val = s.bank l.val b.val := by
    rw [State.bank, hCipher]
    rfl
  have hDid : doKey l.val h false b (s.ploamCounted l.val) =
      (some (.keyReport (b.val + 1) (aesEcb (s.kekOf l.val) k)), s.ploamCounted l.val) := by
    rw [← hKek]
    exact doKey_report (by rwa [State.ploamCounted_lane]) (by rwa [hBank])
  refine completes_hears rfl hHears hDid (.refl _ _) (fun t hHeard => ?_)
  have hAnswered := hHeard.answered _ rfl
  rw [State.ploamCounted_lane] at hAnswered
  exact ⟨hAnswered, (hHeard.later.within.cipher rfl).trans hCipher, hHeard.adds.ploamFrame⟩

/-! ### A repeated message (R147) -/

/-- A message that the lane's memory holds is answered again as it was. -/
theorem ploamDuplicate_answers {l : Lane} {a : PloamUp} (hAct : (s.lane l.val).act ≠ .off)
    (hSync : (s.lane l.val).sync = true) (hId : (s.lane l.val).onuId.isSome = true) (hFw : s.start.fwState ≠ 3)
    (hRoom : (s.lane l.val).upq.length < 8)
    (hMemo : (s.lane l.val).memo.find? (fun x => h.unicast && x.seqno == h.seqno && x.msg == m) =
      some { seqno := h.seqno, msg := m, resp := some a }) :
    completesWith (.ploamDuplicate l h m) s (fun t =>
      (t.lane l.val).upq = (s.lane l.val).upq ++ [a] ∧ (t.lane l.val).act = (s.lane l.val).act
      ∧ (t.lane l.val).memo = (s.lane l.val).memo ∧ t = { s.reporting t with line := t.line }) := by
  have hCounted := s.ploamCounted_lane l.val l.val
  have hIn : s.ploamIn l.val h m = (s.ploamCounted l.val).queuePloam l.val a := by
    have hOnce : (s.ploamCounted l.val).ploamOnce l.val h m = (s.ploamCounted l.val).queuePloam l.val a := by
      unfold State.ploamOnce
      rw [hCounted, hMemo]
      rfl
    rw [State.ploamIn, if_neg (by simp [hAct, hSync, Option.isSome_iff_ne_none.mp hId]), if_neg hFw]
    exact hOnce
  have hQueued : (s.ploamCounted l.val).queuePloam l.val a =
      (s.ploamCounted l.val).modLane l.val (fun x => { x with upq := x.upq ++ [a] }) := State.queuePloam_room (by rwa [hCounted]) a
  refine ⟨_, congrArg Host.Outcome.next (hIn.trans hQueued), ?_⟩
  have hAdds : Adds [.evt, .host, .ring, .log, .cnt, .out, .line] s
      ((s.ploamCounted l.val).modLane l.val (fun x => { x with upq := x.upq ++ [a] })) :=
    (s.ploamCounted_adds l.val).trans (State.modLane_adds _ _ _)
  have hLane := State.lane_modLane_same l.val (fun x => { x with upq := x.upq ++ [a] }) (s.ploamCounted l.val)
  rw [hCounted] at hLane
  generalize (s.ploamCounted l.val).modLane l.val (fun x => { x with upq := x.upq ++ [a] }) = t at hAdds hLane ⊢
  exact ⟨(congrArg LaneState.upq hLane :), (congrArg LaneState.act hLane :), (congrArg LaneState.memo hLane :), hAdds.lineFrame⟩

/-- Settles O23: each message that a lane hears for the first time, by what executing it gives and how it is answered. -/
theorem ploamMessages : Obligations.PloamMessages := by
  intro s l h
  refine ⟨fun i p d f c => burstProfile_done, fun id => assignOnuId_done, fun bits => rangingTime_done,
    fun bits => rangingTime_beyond, deactivateOnuId_done, disableSerialNumber_done, fun hHears hId hRoom => ?_,
    fun id hHears hId hNew hCount => ?_, fun id hHears hId hKnown => ?_, fun b => keyControl_generates,
    fun b k => keyControl_reports, fun hHears hUni hRoom => ?_, fun code hHears hUni hRoom => ?_,
    fun m r _ hAct hSync hId hFw => ploamDuplicate_answers hAct hSync hId hFw⟩
  · have hDid := doRegistration_some (s := s.ploamCounted l.val) (l := l.val) (by rwa [State.ploamCounted_lane])
    rw [State.ploamCounted_cfg] at hDid
    obtain ⟨t, hExec, hUpq, _, hFrame⟩ := answer_done (i := .requestRegistration l h) rfl hHears hDid hRoom
    exact ⟨t, hExec, hUpq, hFrame⟩
  · have hLane := s.ploamCounted_lane l.val l.val
    have hTaken := State.allocTaken_still l.val id (s.ploamCounted l.val)
    rw [hLane] at hTaken
    refine alloc_done hHears (doAlloc_new (by rwa [hLane]) (by rwa [hLane]) ?_) (State.allocTaken_adds _ _ _)
      (congrArg LaneState.allocs hTaken :)
    rwa [State.allocCount, State.ploamCounted_line]
  · have hLane := s.ploamCounted_lane l.val l.val
    have hGiven := State.allocGiven_still l.val id (s.ploamCounted l.val)
    rw [hLane] at hGiven
    exact alloc_done hHears (doAlloc_known (by rwa [hLane]) (by rwa [hLane])) (State.allocGiven_adds _ _ _)
      (congrArg LaneState.allocs hGiven :)
  · exact answer_done rfl hHears (ackTo_unicast hUni _ _) hRoom
  · exact answer_done rfl hHears (doUnknown_unicast hUni _) hRoom

end Sys2Proof.Machine
end

section
/-!
# The length of a ring frame (R425 to R431, Tables QY-1, QY-2 and QY-17)

A lane is dealt as many containers as begin in its frame, so its data bytes fill the payload whatever the pointer says.
-/
namespace Sys2Proof.Machine

-- One theorem after another: the stacks of many that wait at once would exceed the memory of the check.
set_option Elab.async false

/-! ### Bytes of a frame -/

theorem scramble_length (st : BitVec 58) (b : List Byte) : (scramble st b).1.length = b.length := by
  induction b generalizing st with
  | nil => rfl
  | cons x t ih => exact congrArg (· + 1) (ih _)

theorem padTo_length (n : Nat) (l : List Byte) : (padTo n l).length = max n l.length := by
  rw [padTo, List.length_append, List.length_replicate]
  omega

theorem creditBytes_length (r : Option CreditRec) : (creditBytes r).length = 4 := by
  cases r with
  | none => rfl
  | some r => exact beBytes_length 4 _

theorem headBytes_length (h : RingHead) : (headBytes h).length = 55 := by
  simp [headBytes, creditBytes_length, padTo_length, List.length_take]

/-- A container is 272 bytes on the ring; more only if its cell is longer than any that a ring brings. -/
theorem containerBytes_length (c : Container) : 272 ≤ (containerBytes c).length := by
  simp only [containerBytes, headerBytes, List.length_append, beBytes_length, padTo_length]
  omega

theorem flatMap_containerBytes_length (cs : List Container) : 272 * cs.length ≤ (cs.flatMap containerBytes).length := by
  induction cs with
  | nil => exact Nat.zero_le _
  | cons c t ih =>
    have hHead := containerBytes_length c
    rw [List.flatMap_cons, List.length_append, List.length_cons]
    omega

/-! ### Containers dealt to two lanes (R431) -/

theorem deal_length (zero : Bool) (k0 k1 : Nat) (cs : List Container) (h : cs.length = k0 + k1) :
    (deal zero k0 k1 cs).1.length = k0 ∧ (deal zero k0 k1 cs).2.length = k1 := by
  induction cs generalizing zero k0 k1 with
  | nil =>
    rw [List.length_nil] at h
    exact ⟨by simp only [deal, List.length_nil]; omega, by simp only [deal, List.length_nil]; omega⟩
  | cons c t ih =>
    rw [List.length_cons] at h
    unfold deal
    by_cases hZero : ((zero && k0 != 0) || k1 == 0) = true
    · have hk0 : k0 ≠ 0 := by
        rintro rfl
        have : k1 = 0 := by simpa using hZero
        omega
      obtain ⟨h0, h1⟩ := ih false (k0 - 1) k1 (by omega)
      rw [if_pos hZero]
      exact ⟨by rw [List.length_cons, h0]; omega, h1⟩
    · have hk1 : k1 ≠ 0 := by
        rintro rfl
        exact hZero (by simp)
      obtain ⟨h0, h1⟩ := ih true k0 (k1 - 1) (by omega)
      rw [if_neg hZero]
      exact ⟨h0, by rw [List.length_cons, h1]; omega⟩

theorem attachReturns_length (cs : List Container) (l : List CreditRec) : (attachReturns cs l).1.length = cs.length := by
  induction cs generalizing l with
  | nil => rfl
  | cons c t ih =>
    unfold attachReturns
    split
    · exact congrArg (· + 1) (ih l)
    · exact congrArg (· + 1) (ih _)

theorem le_ceilDiv_mul (a b : Nat) (hb : 0 < b) : a ≤ b * ceilDiv a b := by
  have hDiv := Nat.div_add_mod (a + (b - 1)) b
  have hMod := Nat.mod_lt (a + (b - 1)) hb
  rw [ceilDiv]
  omega

/-! ### The frame of one lane -/

/-- The payload of a frame: its data bytes, with a byte stuffed or taken into the overhead by a justification. -/
def payOf (just : Nat) (now : List Byte) : List Byte :=
  if just = 1 then 0 :: now else if just = 2 then now.drop 1 else now

theorem payOf_length {just : Nat} {now : List Byte} (h : now.length = dataBytes just) : (payOf just now).length = ringPayload := by
  unfold dataBytes at h
  unfold payOf
  split at h
  next h1 =>
    rw [if_pos h1, List.length_cons, h]
    rfl
  next h1 =>
    rw [if_neg h1]
    split at h
    next h2 =>
      rw [if_pos h2, List.length_drop, h]
      rfl
    next h2 => rw [if_neg h2, h]

/-- The overhead that a lane sends, with what the pointer and the parity add to it. -/
def RingLane.headOf (h : RingHead) (just : Nat) (now : List Byte) (x : RingLane) : List Byte :=
  headBytes { h with
    ndf := if x.newPtr then 9 else 6, bip := x.txBip
    ptr := if just = 1 then x.txCut.length ^^^ iBits else if just = 2 then x.txCut.length ^^^ dBits else x.txCut.length
    stuff := if just = 2 then now.headD 0 else 0 }

theorem RingLane.send_wire (h : RingHead) (just : Nat) (cs : List Container) (x : RingLane) : (x.send h just cs).2 =
    alignPattern ++ (scramble x.txScr (x.headOf h just ((x.txCut ++ cs.flatMap containerBytes).take (dataBytes just))
      ++ [crc8 (x.headOf h just ((x.txCut ++ cs.flatMap containerBytes).take (dataBytes just)))]
      ++ payOf just ((x.txCut ++ cs.flatMap containerBytes).take (dataBytes just)))).1 := rfl

/-- A lane that is dealt the containers that begin in its frame sends a whole frame. -/
theorem RingLane.send_length (h : RingHead) (just : Nat) (cs : List Container) (x : RingLane)
    (hDealt : cs.length = slotsOf just x.txCut.length) : (x.send h just cs).2.length = ringFrameBytes := by
  have hCells := flatMap_containerBytes_length cs
  have hSlots := le_ceilDiv_mul (dataBytes just - x.txCut.length) 272 (by decide)
  have hNow : ((x.txCut ++ cs.flatMap containerBytes).take (dataBytes just)).length = dataBytes just := by
    rw [hDealt, slotsOf] at hCells
    rw [List.length_take, List.length_append]
    omega
  rw [RingLane.send_wire, List.length_append, scramble_length, List.length_append, List.length_append, payOf_length hNow,
    RingLane.headOf, headBytes_length, List.length_singleton]
  unfold alignPattern ringPayload ringFrameBytes
  simp only [List.length_cons, List.length_nil]

theorem RingLane.send_newPtr (h : RingHead) (just : Nat) (cs : List Container) (x : RingLane) :
    (x.send h just cs).1.newPtr = false := rfl

end Sys2Proof.Machine
end

section
/-!
# A side transmits its two frames (R425, R431, R446, R448, R455)
-/
namespace Sys2Proof.Machine

-- One theorem after another: the stacks of many that wait at once would exceed the memory of the check.
set_option Elab.async false

variable {C : List Part} {s t u : State}

/-! ### What sending containers leaves of the lanes -/

theorem Sends.lanes {r k : Ring} (h : Sends r k) : k.lanes = r.lanes := (congrArg Ring.lanes h.rest :)

/-- From `s` to `t` the pool and what reporting changes may have moved, the lanes of the ring have not. -/
structure Fills (s t : State) : Prop where
  adds : Adds poolParts s t
  lanes : t.ring.lanes = s.ring.lanes

theorem Fills.refl (s : State) : Fills s s := ⟨.refl _ s, rfl⟩

theorem Fills.trans (h : Fills s t) (k : Fills t u) : Fills s u := ⟨h.adds.trans k.adds, k.lanes.trans h.lanes⟩

theorem Fills.ite {c : Prop} [Decidable c] (ht : Fills s t) (hu : Fills s u) : Fills s (if c then t else u) := by
  split
  · exact ht
  · exact hu

theorem State.inc_fills (i : Nat) (s : State) : Fills s (s.inc i) := ⟨State.inc_adds i s, ((Sends.refl s.ring).inc i).lanes⟩

theorem State.eccRead_fills (e : Ecc) (obj : Nat) (s : State) : Fills s (s.eccRead e obj) := by
  refine ⟨State.eccRead_adds e obj s, ?_⟩
  cases e with
  | none => rfl
  | corrected => exact (((Sends.refl s.ring).inc 0x5C0).raiseWin 8000 256 0 obj 0).lanes
  | uncorrectable => exact (((Sends.refl s.ring).inc 0x5C1).raise 257 obj 0).lanes

theorem State.flushWaiting_fills (q : Nat) (s : State) : Fills s (s.flushWaiting q) := by
  refine ⟨State.flushWaiting_adds q s, ?_⟩
  unfold State.flushWaiting
  split
  · rfl
  next n _ =>
    split
    · rfl
    · exact ((Sends.refl s.ring).flushNow q n).lanes

theorem State.sendTransit_fills (d c : Nat) (x : Container) (s : State) : Fills s (s.sendTransit d c x) := by
  have hTaken (a : Tab (List Container)) (b r : Tab Bool) :
      Fills s { s with ring := { s.ring with transit := a, altTransit := b, altReply := r } } := ⟨adds_of_eq rfl rfl, rfl⟩
  exact (hTaken _ _ _).trans (State.inc_fills _ _)

/-- A cell leaves its queue and the pool. -/
def State.cellFreed (q n : Nat) (f : Queue → Queue) (s : State) : State := (((s.modQueue q f).freeQueued n).threshold q).poolLow

theorem State.cellFreed_fills (q n : Nat) (f : Queue → Queue) (s : State) : Fills s (s.cellFreed q n f) := by
  have hFreed : Fills s ((s.modQueue q f).freeQueued n) :=
    ⟨Adds.trans (C := poolParts) (State.modQueue_adds _ _ s) (State.freeQueued_adds _ _), rfl⟩
  have hTold (v : State) : Fills v ((v.threshold q).poolLow) :=
    ⟨(State.threshold_adds q v).trans (State.poolLow_adds _), ((Sends.refl v.ring).threshold q).poolLow.lanes⟩
  exact hFreed.trans (hTold _)

theorem State.sendLocal_fills (d c q turns : Nat) (e : Ecc) (s : State) : Fills s (s.sendLocal d c q turns e).1 := by
  have hLink (v : State) (a b k : Nat) (f : CreditLink → CreditLink) : Fills v (v.modLink a b k f) :=
    ⟨State.modLink_adds _ _ _ _ v, rfl⟩
  have hTurned (v : State) (x : Tab Nat) (y : Tab Bool) : Fills v { v with ring := { v.ring with rr := x, altTransit := y } } :=
    ⟨adds_of_eq rfl rfl, rfl⟩
  unfold State.sendLocal
  split
  · exact .refl s
  next p0 t _ =>
    have hSent (v w : State) (hv : Fills v w) (b : Bool) : Fills v (if b then w.flushWaiting q else w) :=
      .ite (hv.trans (State.flushWaiting_fills q _)) hv
    dsimp only
    exact hSent _ _ (((((State.eccRead_fills e _ s).trans (hLink _ _ _ _ _)).trans (State.cellFreed_fills q _ _ _)).trans
      (State.inc_fills _ _)).trans (hTurned _ _ _)) _

theorem State.sendClass_fills {d c : Nat} {ecc : List Ecc} {r : State × Option Container × List Ecc}
    (h : s.sendClass d c ecc = some r) : Fills s r.1 := by
  have hTransit (x : Container) := State.sendTransit_fills d c x s
  have hLocal (q : Nat × Nat) := State.sendLocal_fills d c q.1 q.2 (ecc.headD .none) s
  unfold State.sendClass at h
  dsimp only at h
  split at h
  · cases h
    exact hTransit _
  · cases h
    exact hLocal _
  · split at h
    · cases h
      exact hLocal _
    · cases h
      exact hTransit _
  · cases h

/-- The class that the next container is of: the highest one that has any. -/
theorem State.sendNext_cases {d : Nat} {ecc : List Ecc} {r : State × Option Container × List Ecc}
    (h : (((s.sendClass d 0 ecc).orElse (fun _ => s.sendClass d 1 ecc)).orElse (fun _ =>
        s.sendClass d 2 ecc)).orElse (fun _ => s.sendClass d 3 ecc) = some r) : ∃ c, s.sendClass d c ecc = some r := by
  cases h0 : s.sendClass d 0 ecc with
  | some x => exact ⟨0, by rw [h0] at h ⊢; exact h⟩
  | none =>
    cases h1 : s.sendClass d 1 ecc with
    | some x => exact ⟨1, by rw [h0, h1] at h; rw [h1]; exact h⟩
    | none =>
      cases h2 : s.sendClass d 2 ecc with
      | some x => exact ⟨2, by rw [h0, h1, h2] at h; rw [h2]; exact h⟩
      | none => exact ⟨3, by rw [h0, h1, h2] at h; exact h⟩

theorem State.fillRing_fills (d n : Nat) (ecc : List Ecc) (s : State) : Fills s (s.fillRing d n ecc).1 := by
  induction n generalizing ecc s with
  | zero => exact .refl s
  | succ n ih =>
    unfold State.fillRing
    split
    · exact .refl s
    next r h =>
      obtain ⟨c, hc⟩ := State.sendNext_cases h
      exact (State.sendClass_fills hc).trans (ih _ _)

/-- No more containers are chosen than begin in the two frames. -/
theorem State.fillRing_length (d n : Nat) (ecc : List Ecc) (s : State) : (s.fillRing d n ecc).2.length ≤ n := by
  induction n generalizing ecc s with
  | zero => exact Nat.le_refl 0
  | succ n ih =>
    unfold State.fillRing
    split
    · exact Nat.zero_le _
    next r _ =>
      have hRest := ih r.2.2 r.1
      have hOne : r.2.1.toList.length ≤ 1 := by
        cases r.2.1 with
        | none => exact Nat.zero_le 1
        | some x => exact Nat.le_refl 1
      rw [List.length_append]
      omega

/-! ### The two frames are sent -/

theorem State.rlane_modRlane_same (d n : Nat) (f : RingLane → RingLane) (s : State) :
    (s.modRlane d n f).rlane d n = f (s.rlane d n) := Tab.get_modify_same _ _ _ _

theorem State.rlane_modRlane_other {d n e m : Nat} (f : RingLane → RingLane) (s : State) (h : 2 * e + m ≠ 2 * d + n) :
    (s.modRlane d n f).rlane e m = s.rlane e m := Tab.get_modify_other _ _ f h

theorem State.rlane_of_lanes (h : t.ring.lanes = s.ring.lanes) (d n : Nat) : t.rlane d n = s.rlane d n := by
  rw [State.rlane, h]
  rfl

/-- The overhead that a side sends on a lane, but for the pointer and the parity. -/
def State.frameHead (s : State) (d : Nat) (cr : List CreditRec) (slot : List Byte) : RingHead :=
  { frameNo := s.tide.frame % 65536, label := s.txLabel d, req := (s.txRequest d).1, spanFar := Fin.ofNat 16 (s.txRequest d).2.1
    txNode := Fin.ofNat 16 s.self, longPath := (s.txRequest d).2.2, status := if (s.side d).wrapped then 2 else 0, ndf := 6
    ptr := 0, stuff := 0, credits := cr, slot := slot, bip := 0 }

theorem State.sendLane_eq (d n just : Nat) (cs : List Container) (cr : List CreditRec) (slot : List Byte) (s : State) :
    s.sendLane d n just cs cr slot =
      (s.modRlane d n (fun _ => ((s.rlane d n).send (s.frameHead d cr slot) just cs).1)).emit
        (.ringFrame d n ((s.rlane d n).send (s.frameHead d cr slot) just cs).2) := rfl

/-- Lane `n` of side `d` has sent a whole frame. -/
structure SendsFrame (d n : Nat) (s t : State) : Prop where
  out : ∃ w, t.out = .ringFrame d n w :: s.out ∧ w.length = ringFrameBytes
  newPtr : (t.rlane d n).newPtr = false
  lanes : ∀ m, m ≠ n → t.rlane d m = s.rlane d m
  adds : Adds reportParts s t

theorem State.sendLane_sends {d n just : Nat} {cs : List Container} (cr : List CreditRec) (slot : List Byte) {s : State}
    (h : cs.length = slotsOf just (s.rlane d n).txCut.length) : SendsFrame d n s (s.sendLane d n just cs cr slot) := by
  rw [State.sendLane_eq]
  have hLength := (s.rlane d n).send_length (s.frameHead d cr slot) just cs h
  have hNew := (s.rlane d n).send_newPtr (s.frameHead d cr slot) just cs
  generalize ((s.rlane d n).send (s.frameHead d cr slot) just cs) = r at hLength hNew ⊢
  refine ⟨⟨r.2, rfl, hLength⟩, ?_, fun m hm => ?_, (State.modRlane_adds _ _ _ s).trans (State.emit_adds _ _)⟩
  · exact (congrArg RingLane.newPtr (State.rlane_modRlane_same d n (fun _ => r.1) s)).trans hNew
  · exact State.rlane_modRlane_other (fun _ => r.1) s (by omega)

theorem State.takeSlot_fills (d : Nat) (s : State) : Adds reportParts s (s.takeSlot d).1 ∧ (s.takeSlot d).1.ring.lanes = s.ring.lanes := by
  unfold State.takeSlot
  split
  · exact ⟨.refl _ s, rfl⟩
  next x t _ =>
    have hTaken : Adds reportParts s (s.modSide d (fun y => { y with dccTx := t })) := State.modSide_adds _ _ s
    dsimp only
    split
    · exact ⟨hTaken.trans (State.inc_adds _ _), ((Sends.refl _).inc (s := s.modSide d (fun y => { y with dccTx := t })) _).lanes⟩
    · exact ⟨hTaken, rfl⟩

/-- The return records that the containers of a frame took with them are gone. -/
def State.returnsLeft (d : Nat) (l : List CreditRec) (s : State) : State :=
  { s with ring := { s.ring with returns := Tab.set [] s.ring.returns d (l.drop 4) } }

/-- The frames of a side whose containers are chosen: `k0` and `k1` begin on its lanes. -/
def State.sendTwo (d just k0 k1 : Nat) (cs : List Container) (s : State) : State :=
  let a := attachReturns cs (Tab.get [] s.ring.returns d)
  let c := deal true k0 k1 (a.1 ++ List.replicate (k0 + k1 - a.1.length) idleContainer)
  let t0 := (s.returnsLeft d a.2).takeSlot d
  let t1 := t0.1.takeSlot d
  (t1.1.sendLane d 0 just c.1 (a.2.take 2) t0.2).sendLane d 1 just c.2 ((a.2.drop 2).take 2) t1.2

/-- Both lanes of side `d` have sent a whole frame. -/
structure SendsTwo (d : Nat) (s t : State) : Prop where
  out : ∃ w0 w1 r, t.out = .ringFrame d 1 w1 :: .ringFrame d 0 w0 :: r ∧ w0.length = ringFrameBytes ∧ w1.length = ringFrameBytes
  newPtr0 : (t.rlane d 0).newPtr = false
  newPtr1 : (t.rlane d 1).newPtr = false
  adds : Adds reportParts s t

theorem State.sendTwo_sends {d just k0 k1 : Nat} {cs : List Container} (h0 : k0 = slotsOf just (s.rlane d 0).txCut.length)
    (h1 : k1 = slotsOf just (s.rlane d 1).txCut.length) (hCs : cs.length ≤ k0 + k1) :
    SendsTwo d s (s.sendTwo d just k0 k1 cs) := by
  unfold State.sendTwo
  dsimp only
  have hAttached := attachReturns_length cs (Tab.get [] s.ring.returns d)
  generalize attachReturns cs (Tab.get [] s.ring.returns d) = a at hAttached ⊢
  obtain ⟨hDealt0, hDealt1⟩ := deal_length true k0 k1 (a.1 ++ List.replicate (k0 + k1 - a.1.length) idleContainer)
    (by rw [List.length_append, List.length_replicate]; omega)
  generalize deal true k0 k1 (a.1 ++ List.replicate (k0 + k1 - a.1.length) idleContainer) = c at hDealt0 hDealt1 ⊢
  have hReturns : Adds reportParts s (s.returnsLeft d a.2) := adds_of_eq rfl rfl
  obtain ⟨hAdds0, hLanes0⟩ := State.takeSlot_fills d (s.returnsLeft d a.2)
  generalize (s.returnsLeft d a.2).takeSlot d = t0 at hAdds0 hLanes0 ⊢
  obtain ⟨hAdds1, hLanes1⟩ := State.takeSlot_fills d t0.1
  generalize t0.1.takeSlot d = t1 at hAdds1 hLanes1 ⊢
  have hLanes : t1.1.ring.lanes = s.ring.lanes := hLanes1.trans hLanes0
  have hFirst := State.sendLane_sends (d := d) (n := 0) (just := just) (a.2.take 2) t0.2 (s := t1.1)
    (by rw [hDealt0, h0, State.rlane_of_lanes hLanes])
  generalize t1.1.sendLane d 0 just c.1 (a.2.take 2) t0.2 = u at hFirst ⊢
  have hSecond := State.sendLane_sends (d := d) (n := 1) (just := just) ((a.2.drop 2).take 2) t1.2 (s := u)
    (by rw [hDealt1, h1, hFirst.lanes 1 (by decide), State.rlane_of_lanes hLanes])
  generalize u.sendLane d 1 just c.2 ((a.2.drop 2).take 2) t1.2 = v at hSecond ⊢
  obtain ⟨w0, hOut0, hw0⟩ := hFirst.out
  obtain ⟨w1, hOut1, hw1⟩ := hSecond.out
  refine ⟨⟨w0, w1, t1.1.out, by rw [hOut1, hOut0], hw0, hw1⟩, ?_, hSecond.newPtr,
    (((hReturns.trans hAdds0).trans hAdds1).trans hFirst.adds).trans hSecond.adds⟩
  rw [hSecond.lanes 0 (by decide)]
  exact hFirst.newPtr

end Sys2Proof.Machine
end

section
/-!
# RING_FRAME_TRANSMIT, RG_PTR_JUMP and the ends of a credit re-initialisation (R425, R437, R452)
-/
namespace Sys2Proof.Machine

-- One theorem after another: the stacks of many that wait at once would exceed the memory of the check.
set_option Elab.async false

variable {C : List Part} {s t u : State}

/-! ### The frames of a side -/

/-- Whether a side carries containers (R438). -/
def State.carriesRing (s : State) (d : Nat) : Bool := decide (s.txLabel d = 1) && !(s.side d).managerSeen

/-- A side begins its frames. -/
def State.framesBegun (d : Nat) (y : RingSide) (s : State) : State :=
  s.modSide d (fun _ => { y with lastTx := s.tide.frame + 1 })

/-- The containers of a side's frames. -/
def State.frameRun (d k : Nat) (y : RingSide) (ecc : List Ecc) (s : State) : State × List Container :=
  if s.carriesRing d then State.fillRing d k ecc (s.framesBegun d y) else (s.framesBegun d y, [])

theorem State.sendFrames_eq (d j : Nat) (ecc : List Ecc) (s : State) {y : Nat × RingSide} {k0 k1 : Nat}
    (hy : y = (s.side d).justify j ((s.rlane d 0).newPtr || (s.rlane d 1).newPtr))
    (h0 : k0 = slotsOf y.1 (s.rlane d 0).txCut.length) (h1 : k1 = slotsOf y.1 (s.rlane d 1).txCut.length) :
    s.sendFrames d j ecc =
      State.sendTwo d y.1 k0 k1 (s.frameRun d (k0 + k1) y.2 ecc).2 (s.frameRun d (k0 + k1) y.2 ecc).1 := by
  subst hy h0 h1
  rfl

theorem State.framesBegun_fills (d : Nat) (y : RingSide) (s : State) : Fills s (s.framesBegun d y) :=
  ⟨State.modSide_adds _ _ s, rfl⟩

theorem State.frameRun_fills (d k : Nat) (y : RingSide) (ecc : List Ecc) (s : State) : Fills s (s.frameRun d k y ecc).1 := by
  unfold State.frameRun
  split
  · exact (s.framesBegun_fills d y).trans (State.fillRing_fills _ _ _ _)
  · exact s.framesBegun_fills d y

theorem State.frameRun_length (d k : Nat) (y : RingSide) (ecc : List Ecc) (s : State) : (s.frameRun d k y ecc).2.length ≤ k := by
  unfold State.frameRun
  split
  · exact State.fillRing_length _ _ _ _
  · exact Nat.zero_le _

theorem State.frameRun_idle {d k : Nat} {y : RingSide} {ecc : List Ecc} (h : s.carriesRing d = false) :
    (s.frameRun d k y ecc).1.pool = s.pool := by
  rw [State.frameRun, if_neg (by simp [h])]
  rfl

/-- From `s` to `t` side `d` has sent its two frames. -/
structure SendsFrames (d : Nat) (s t : State) : Prop where
  out : ∃ w0 w1 r, t.out = .ringFrame d 1 w1 :: .ringFrame d 0 w0 :: r ∧ w0.length = ringFrameBytes ∧ w1.length = ringFrameBytes
  newPtr0 : (t.rlane d 0).newPtr = false
  newPtr1 : (t.rlane d 1).newPtr = false
  idle : s.carriesRing d = false → t.pool = s.pool
  adds : Adds poolParts s t

theorem State.sendFrames_sends (d j : Nat) (ecc : List Ecc) (s : State) : SendsFrames d s (s.sendFrames d j ecc) := by
  rw [State.sendFrames_eq d j ecc s rfl rfl rfl]
  generalize (s.side d).justify j ((s.rlane d 0).newPtr || (s.rlane d 1).newPtr) = y
  have hRun := s.frameRun_fills d (slotsOf y.1 (s.rlane d 0).txCut.length + slotsOf y.1 (s.rlane d 1).txCut.length) y.2 ecc
  have hLength := s.frameRun_length d (slotsOf y.1 (s.rlane d 0).txCut.length + slotsOf y.1 (s.rlane d 1).txCut.length) y.2 ecc
  have hIdle (h : s.carriesRing d = false) := State.frameRun_idle (y := y.2) (ecc := ecc)
    (k := slotsOf y.1 (s.rlane d 0).txCut.length + slotsOf y.1 (s.rlane d 1).txCut.length) h
  generalize s.frameRun d (slotsOf y.1 (s.rlane d 0).txCut.length + slotsOf y.1 (s.rlane d 1).txCut.length) y.2 ecc = r
    at hRun hLength hIdle ⊢
  have hLane (n : Nat) := State.rlane_of_lanes hRun.lanes d n
  have hTwo := State.sendTwo_sends (d := d) (just := y.1) (k0 := slotsOf y.1 (s.rlane d 0).txCut.length)
    (k1 := slotsOf y.1 (s.rlane d 1).txCut.length) (s := r.1) (by rw [hLane]) (by rw [hLane]) hLength
  exact ⟨hTwo.out, hTwo.newPtr0, hTwo.newPtr1, fun h => (hTwo.adds.within.pool rfl).trans (hIdle h), hRun.adds.trans (hTwo.adds.mono rfl)⟩

/-! ### RING_FRAME_TRANSMIT -/

/-- The device at the beginning of the frame that side `d` sends. -/
def State.atFrame (d : Nat) (s : State) : State :=
  if s.tide.tick = 0 && (s.side d).lastTx != s.tide.frame + 1 then s else s.until ((s.tide.frame + 1) * frameTicks)

theorem State.atFrame_adds (d : Nat) (s : State) (hC : Covers passParts C := by rfl) : Adds C s (s.atFrame d) :=
  .ite (.refl _ s) (State.until_adds _ s hC)

theorem State.atFrame_lasts (d : Nat) (s : State) : Lasts s.ring (s.atFrame d).ring := by
  unfold State.atFrame
  split
  · exact .refl _
  · exact State.until_lasts _ s

/-- Whether a side carries containers rests on what lasts of the ring. -/
theorem State.carriesRing_of_lasts (h : Lasts s.ring t.ring) (hPool : t.pool = s.pool) (d : Nat) :
    t.carriesRing d = s.carriesRing d := by
  have hPrbs : (t.side d).prbs = (s.side d).prbs := (congrArg RingSide.prbs (h.side d) :)
  have hSeen : (t.side d).managerSeen = (s.side d).managerSeen := (congrArg RingSide.managerSeen (h.side d) :)
  have hOn : t.ring.enabled = s.ring.enabled := (congrArg Ring.enabled h.rest :)
  have hJoin : t.ring.join = s.ring.join := (congrArg Ring.join h.rest :)
  rw [State.carriesRing, State.carriesRing, State.txLabel, State.txLabel, hPrbs, hSeen, hOn, hJoin, hPool]

theorem exec_ringFrameTransmit {d : Side} {j : Fin 3} {ecc : List Ecc} (hOn : s.ringOn d.val = true) :
    exec (.ringFrameTransmit ⟨⟨d, j⟩, ecc⟩) s = .next ((s.atFrame d.val).sendFrames d.val j.val ecc) :=
  congrArg Host.Outcome.next (if_neg (by simp [hOn]))

theorem exec_ringFrameTransmit_off {d : Side} {j : Fin 3} {ecc : List Ecc} (hOff : s.ringOn d.val = false) :
    exec (.ringFrameTransmit ⟨⟨d, j⟩, ecc⟩) s = .next s := congrArg Host.Outcome.next (if_pos (by simp [hOff]))

theorem ringFrameTransmit_sends {d : Side} {j : Fin 3} {ecc : List Ecc} (hOn : s.ringOn d.val = true) :
    completesWith (.ringFrameTransmit ⟨⟨d, j⟩, ecc⟩) s (fun t =>
      (∃ w0 w1 r, t.out = .ringFrame d.val 1 w1 :: .ringFrame d.val 0 w0 :: r
        ∧ w0.length = ringFrameBytes ∧ w1.length = ringFrameBytes)
      ∧ (t.rlane d.val 0).newPtr = false ∧ (t.rlane d.val 1).newPtr = false
      ∧ (s.txLabel d.val ≠ 1 ∨ (s.side d.val).managerSeen = true → t.pool = s.pool)
      ∧ t = { s.passing t with pool := t.pool }) := by
  refine ⟨_, exec_ringFrameTransmit hOn, ?_⟩
  have hAt := State.atFrame_adds (C := .pool :: passParts) d.val s
  have hPool : (s.atFrame d.val).pool = s.pool := (State.atFrame_adds (C := passParts) d.val s).within.pool rfl
  have hCarries := State.carriesRing_of_lasts (State.atFrame_lasts d.val s) hPool d.val
  have hSends := State.sendFrames_sends d.val j.val ecc (s.atFrame d.val)
  generalize (s.atFrame d.val).sendFrames d.val j.val ecc = t at hSends ⊢
  refine ⟨hSends.out, hSends.newPtr0, hSends.newPtr1, fun h => ?_, (hAt.trans (hSends.adds.mono rfl)).within.eq_merge⟩
  have hIdle : s.carriesRing d.val = false := by
    rw [State.carriesRing]
    rcases h with h | h
    · simp [h]
    · simp [h]
  exact (hSends.idle (hCarries.trans hIdle)).trans hPool

/-! ### RG_PTR_JUMP (R437) -/

theorem State.rgEvent_pends (d k detail : Nat) (s : State) : (s.rgEvent d k detail).pends (320 + 32 * d + k) :=
  State.raise_pends s _ _ _

/-- A pointer jump, counted and told. -/
def State.jumped (d n v : Nat) (s : State) : State :=
  ((s.modRlane d n (fun x => { x with txCut := List.replicate (v % 272) 0, newPtr := true })).inc (rgCnt d 20)).rgEvent d 9 0

theorem State.jumped_lanes (d n v : Nat) (s : State) : (s.jumped d n v).ring.lanes =
    (s.modRlane d n (fun x => { x with txCut := List.replicate (v % 272) 0, newPtr := true })).ring.lanes :=
  (((Sends.refl _).inc (s := s.modRlane d n (fun x => { x with txCut := List.replicate (v % 272) 0, newPtr := true }))
    (rgCnt d 20)).raise _ _ _).lanes

theorem rgPtrJump_jumps {d : Side} (n : Fin 2) (v : Nat) (hOn : s.ringOn d.val = true) :
    completesWith (.rgPtrJump d n v) s (fun t =>
      t.rlane d.val n.val = { s.rlane d.val n.val with txCut := List.replicate (v % 272) 0, newPtr := true }
      ∧ (∀ j, j ≠ 2 * d.val + n.val → Tab.get {} t.ring.lanes j = Tab.get {} s.ring.lanes j)
      ∧ t.pends (320 + 32 * d.val + 9) ∧ t = s.reporting t) := by
  have hLanes := State.jumped_lanes d.val n.val v s
  have hAdds : Adds reportParts s (s.jumped d.val n.val v) :=
    ((State.modRlane_adds _ _ _ s).trans (State.inc_adds _ _)).trans (State.rgEvent_adds _ _ _ _)
  refine ⟨s.jumped d.val n.val v, congrArg Host.Outcome.next (if_neg (by simp [hOn])), ?_, fun j hj => ?_,
    State.rgEvent_pends _ _ _ _, hAdds.within.reporting⟩
  · rw [State.rlane_of_lanes hLanes, State.rlane_modRlane_same]
  · rw [hLanes]
    exact Tab.get_modify_other ({} : RingLane) s.ring.lanes (fun x => { x with txCut := List.replicate (v % 272) 0, newPtr := true }) hj

/-! ### CREDIT_REINIT and CREDIT_REINIT_ACK (R452) -/

/-- The destination's end of a link begins anew, with the other epoch. -/
def State.endToggled (src c : Nat) (s : State) : State :=
  s.modEnd src s.self c (fun _ => { consumed := 0, epoch := !(s.end_ src s.self c).epoch })

theorem creditReinit_begins (src : NodeNo) (c : Fin 8) (n : Nat) (s : State) :
    completesWith (.creditReinit src c n) s (fun t =>
      t.end_ src.val s.self c.val = { consumed := 0, epoch := !(s.end_ src.val s.self c.val).epoch }
      ∧ (∀ j, j ≠ linkKey src.val s.self c.val → Tab.get {} t.ring.ends j = Tab.get {} s.ring.ends j)
      ∧ t.ring.links = s.ring.links ∧ t = s.reporting t) := by
  have hSends := (Sends.refl (s.endToggled src.val c.val).ring).dcc src.val (.creditReinitAck c (s.end_ src.val s.self c.val).consumed)
  have hEnds : _ = (s.endToggled src.val c.val).ring.ends := (congrArg Ring.ends hSends.rest :)
  have hAdds : Adds reportParts s ((s.endToggled src.val c.val).dcc src.val (.creditReinitAck c (s.end_ src.val s.self c.val).consumed)) :=
    Adds.trans (t := s.endToggled src.val c.val) (adds_of_eq rfl rfl) (State.dcc_adds _ _ _)
  refine ⟨_, rfl, ?_, fun j hj => ?_, (congrArg Ring.links hSends.rest :), hAdds.within.reporting⟩
  · exact (congrArg (fun l => Tab.get ({} : CreditEnd) l (linkKey src.val s.self c.val)) hEnds).trans
      (Tab.get_modify_same ({} : CreditEnd) s.ring.ends _ (fun _ => { consumed := 0, epoch := !(s.end_ src.val s.self c.val).epoch }))
  · exact (congrArg (fun l => Tab.get ({} : CreditEnd) l j) hEnds).trans
      (Tab.get_modify_other ({} : CreditEnd) s.ring.ends (fun _ => { consumed := 0, epoch := !(s.end_ src.val s.self c.val).epoch }) hj)

/-- The source's end of a link has its full credit, with the other epoch. -/
def State.linkRenewed (dst c : Nat) (s : State) : State :=
  s.modLink s.self dst c (fun _ => { held := initCredit c, epoch := !(s.link_ s.self dst c).epoch, moved := s.bnd })

theorem creditReinitAck_ends {dst : NodeNo} {c : Fin 8} (n : Nat) (h : (s.link_ s.self dst.val c.val).reinit = true) :
    completesWith (.creditReinitAck dst c n) s (fun t =>
      t.link_ s.self dst.val c.val =
        { held := initCredit c.val, epoch := !(s.link_ s.self dst.val c.val).epoch, moved := s.bnd }
      ∧ (∀ j, j ≠ linkKey s.self dst.val c.val → Tab.get {} t.ring.links j = Tab.get {} s.ring.links j)
      ∧ t = s.reporting t) := by
  have hSends := (Sends.refl (s.linkRenewed dst.val c.val).ring).count (rgCnt (s.ring.sideOf dst.val) 21)
    (((s.link_ s.self dst.val c.val).sent + 65536 - n % 65536) % 65536)
  have hLinks : _ = (s.linkRenewed dst.val c.val).ring.links := (congrArg Ring.links hSends.rest :)
  have hAdds : Adds reportParts s ((s.linkRenewed dst.val c.val).count (rgCnt (s.ring.sideOf dst.val) 21)
      (((s.link_ s.self dst.val c.val).sent + 65536 - n % 65536) % 65536)) :=
    Adds.trans (C := reportParts) (State.modLink_adds _ _ _ _ s) (State.count_adds _ _ _)
  refine ⟨_, congrArg Host.Outcome.next (if_neg (by simp [h])), ?_, fun j hj => ?_, hAdds.within.reporting⟩
  · exact (congrArg (fun l => Tab.get ({} : CreditLink) l (linkKey s.self dst.val c.val)) hLinks).trans
      (Tab.get_modify_same ({} : CreditLink) s.ring.links _
        (fun _ => { held := initCredit c.val, epoch := !(s.link_ s.self dst.val c.val).epoch, moved := s.bnd }))
  · exact (congrArg (fun l => Tab.get ({} : CreditLink) l j) hLinks).trans
      (Tab.get_modify_other ({} : CreditLink) s.ring.links
        (fun _ => { held := initCredit c.val, epoch := !(s.link_ s.self dst.val c.val).epoch, moved := s.bnd }) hj)

theorem exec_creditReinitAck_idle {dst : NodeNo} {c : Fin 8} {n : Nat} (h : (s.link_ s.self dst.val c.val).reinit = false) :
    exec (.creditReinitAck dst c n) s = .next s := congrArg Host.Outcome.next (if_pos (by simp [h]))

theorem exec_ringFrameReceive_off {d : Side} {n : Fin 2} {w : List Byte} (h : s.ringOn d.val = false) :
    exec (.ringFrameReceive d n w) s = .next s := congrArg Host.Outcome.next (if_pos (by simp [h]))

theorem exec_rgPtrJump_off {d : Side} {n : Fin 2} {v : Nat} (h : s.ringOn d.val = false) :
    exec (.rgPtrJump d n v) s = .next s := congrArg Host.Outcome.next (if_pos (by simp [h]))

end Sys2Proof.Machine
end

section
/-!
# What the overhead of a ring frame leaves of the lanes and of a counter

`Attends F i s t`: a defect, a label, a request or a credit record may wrap, unwrap, report and send; `F` of every ring
lane and counter `i` stay.
-/
namespace Sys2Proof.Machine

-- One theorem after another: the stacks of many that wait at once would exceed the memory of the check.
set_option Elab.async false

/-- `t` is `s` but for what a wrap and its reports move; `F` of every ring lane and counter `i` stay. -/
structure Attends {α : Type} (F : RingLane → α) (i : Nat) (s t : State) : Prop where
  wraps : Wraps s t
  lane : ∀ e n, F (t.rlane e n) = F (s.rlane e n)
  count : Tab.get 0 t.cnt i = Tab.get 0 s.cnt i

section
variable {α : Type} {F : RingLane → α} {i : Nat} {s t u : State}

theorem Attends.refl (s : State) : Attends F i s s := ⟨.refl s, fun _ _ => rfl, rfl⟩

theorem Attends.trans (h : Attends F i s t) (k : Attends F i t u) : Attends F i s u :=
  ⟨h.wraps.trans k.wraps, fun e n => (k.lane e n).trans (h.lane e n), k.count.trans h.count⟩

theorem Attends.ite {c : Prop} [Decidable c] (ht : Attends F i s t) (hu : Attends F i s u) :
    Attends F i s (if c then t else u) := by
  split
  · exact ht
  · exact hu

theorem Attends.foldl {ι : Type} {f : State → ι → State} (h : ∀ t x, Attends F i t (f t x)) (l : List ι) (s : State) :
    Attends F i s (l.foldl f s) := by
  induction l generalizing s with
  | nil => exact .refl s
  | cons x l ih => exact (h s x).trans (ih (f s x))

/-- What leaves the table of lanes and the counters alone. -/
theorem Adds.attends (h : Adds [.ring] s t) (hLanes : t.ring.lanes = s.ring.lanes) : Attends F i s t :=
  ⟨(h.mono (C := reportParts) rfl).wraps, fun e n => congrArg F (State.rlane_of_lanes hLanes e n),
    congrArg (fun c => Tab.get 0 c i) (h.within.cnt rfl)⟩

theorem State.modSide_attends (d : Nat) (f : RingSide → RingSide) (s : State) : Attends F i s (s.modSide d f) :=
  Adds.attends (State.modSide_adds d f s) rfl

theorem State.modLink_attends (a b c : Nat) (f : CreditLink → CreditLink) (s : State) : Attends F i s (s.modLink a b c f) :=
  Adds.attends (State.modLink_adds a b c f s) rfl

theorem State.setReq_attends (d : Nat) (s : State) : Attends F i s (s.setReq d) := State.modSide_attends _ _ s

theorem State.modRlane_attends (d n : Nat) (f : RingLane → RingLane) (hf : ∀ x, F (f x) = F x) (s : State) :
    Attends F i s (s.modRlane d n f) := by
  refine ⟨(State.modRlane_adds (C := reportParts) d n f s).wraps, fun e m => ?_, rfl⟩
  by_cases h : 2 * e + m = 2 * d + n
  · have hSame : (s.modRlane d n f).rlane e m = f (s.rlane e m) := by
      rw [State.rlane, State.rlane, h]
      exact Tab.get_modify_same _ _ _ _
    rw [hSame, hf]
  · exact congrArg F (State.rlane_modRlane_other f s h)

theorem State.dcc_attends (n : Nat) (b : DccBody) (s : State) : Attends F i s (s.dcc n b) :=
  Adds.attends (adds_of_eq rfl rfl) ((Sends.refl s.ring).dcc n b).lanes

end

section
variable {α : Type} {F : RingLane → α} {i : Nat} (hi : besideMailboxes i)
include hi

theorem State.raise_attends (src obj detail : Nat) (s : State) : Attends F i s (s.raise src obj detail) :=
  ⟨(State.raise_adds (C := reportParts) src obj detail s).wraps,
    fun e n => congrArg F (State.rlane_of_lanes ((Sends.refl s.ring).raise src obj detail).lanes e n), State.raise_cnt hi _ _ _ s⟩

theorem State.rgEvent_attends (d k detail : Nat) (s : State) : Attends F i s (s.rgEvent d k detail) :=
  State.raise_attends hi _ _ _ s

theorem State.rgFirst_attends (d k : Nat) (s : State) : Attends F i s (s.rgFirst d k) :=
  ⟨(State.raiseWin_adds (C := reportParts) _ _ _ _ _ s).wraps,
    fun e n => congrArg F (State.rlane_of_lanes ((Sends.refl s.ring).raiseWin _ _ _ _ _).lanes e n), State.raiseWin_cnt hi _ _ _ _ _ s⟩

theorem State.inc_attends {k : Nat} (hk : i ≠ k) (s : State) : Attends F i s (s.inc k) :=
  ⟨(State.inc_adds (C := reportParts) k s).wraps,
    fun e n => congrArg F (State.rlane_of_lanes ((Sends.refl s.ring).inc k).lanes e n), State.count_cnt_other hi hk 1 s⟩

theorem State.releaseBypass_attends (s : State) : Attends F i s s.releaseBypass := by
  have hOpened : Attends F i s s.bypassed := ⟨(s.bypassed_adds (C := reportParts)).wraps, fun _ _ => rfl, rfl⟩
  rw [State.releaseBypass_eq]
  exact .ite (hOpened.trans (State.raise_attends hi _ _ _ _)) (.refl s)

/-! ### Training and defects (R458, R472, Table QY-9) -/

theorem State.train_attends (d : Nat) (s : State) : Attends F i s (s.train d) := by
  have hTold (b : Bool) : Attends F i s (s.trainTold d b) :=
    (State.modSide_attends _ _ s).trans (State.rgEvent_attends hi _ _ _ _)
  rw [State.train_eq]
  exact .ite (.refl s) (.ite (hTold _) ((hTold _).trans (State.releaseBypass_attends hi _)))

theorem State.enterDefect_attends (d : Nat) (sd : Bool) (s : State) : Attends F i s (s.enterDefect d sd) := by
  rw [State.enterDefect_eq]
  exact .ite (.refl s) (((State.modSide_attends _ _ s).trans (State.setReq_attends _ _)).trans (State.rgEvent_attends hi _ _ _ _))

end

/-- What a lane keeps of its pointer, its alignment and what it has brought when a defect is declared. -/
def RingLane.held (x : RingLane) : Nat × Nat × Bool × List (Nat × Container) × List (Nat × List Byte) :=
  (x.value, x.badPtr, x.inFrame, x.rxDone, x.rxSlots)

section
variable {i : Nat} (hi : besideMailboxes i)

theorem State.setCond_attends (d : Nat) (c : RingDefect) (on : Bool) (s : State) :
    Attends RingLane.held i s (s.setCond d c on) := by
  cases c with
  | los =>
    exact (State.modRlane_attends (F := RingLane.held) d 0 (fun x => { x with los := on }) (fun _ => rfl) s).trans
      (State.modRlane_attends d 1 (fun x => { x with los := on }) (fun _ => rfl) _)
  | lof =>
    exact (State.modRlane_attends (F := RingLane.held) d 0 (fun x => { x with lof := on }) (fun _ => rfl) s).trans
      (State.modRlane_attends d 1 (fun x => { x with lof := on }) (fun _ => rfl) _)
  | lop =>
    exact (State.modRlane_attends (F := RingLane.held) d 0 (fun x => { x with lop := on }) (fun _ => rfl) s).trans
      (State.modRlane_attends d 1 (fun x => { x with lop := on }) (fun _ => rfl) _)
  | sd => exact .refl s
  | _ => exact State.modSide_attends _ _ s

include hi

theorem State.declare_attends (d : Nat) (c : RingDefect) (s : State) : Attends RingLane.held i s (s.declare d c) := by
  have hTold : Attends RingLane.held i s (s.condTold d c) := by
    unfold State.condTold
    split
    · exact (State.setCond_attends d c true s).trans (State.rgEvent_attends hi _ _ _ _)
    · exact State.setCond_attends d c true s
  have hNoted : Attends RingLane.held i s (s.condNoted d c) := .ite hTold (hTold.trans (State.modSide_attends _ _ _))
  rw [State.declare_eq]
  exact (hNoted.trans (State.enterDefect_attends hi _ _ _)).trans (State.train_attends hi _ _)

theorem State.bipCheck_attends (d n : Nat) (s : State) : Attends RingLane.held i s (s.bipCheck d n) := by
  have hBip : Attends RingLane.held i s (if 40 ≤ (s.rlane d n).bip80 && !(s.side d).bipSf then s.declare d .bip else s) :=
    .ite (State.declare_attends hi d .bip s) (.refl s)
  exact .ite (hBip.trans (State.declare_attends hi d .sd _)) hBip

end

/-! ### Links, wraps and requests (R452, R453, R459, R463, R464) -/

section
variable {α : Type} {F : RingLane → α} {i : Nat} (hi : besideMailboxes i) (hOwn : ∀ e k, 0 < k → k < 32 → i ≠ rgCnt e k)
include hi hOwn

theorem State.reinitLink_attends (dst c : Nat) (s : State) : Attends F i s (s.reinitLink dst c) :=
  (((State.modLink_attends s.self dst c (fun l => { l with reinit := true }) s).trans
    (State.inc_attends hi (hOwn _ 22 (by decide) (by decide)) _)).trans (State.rgEvent_attends hi _ _ _ _)).trans
      (State.dcc_attends _ _ _)

theorem State.reinitWhere_attends (p : Nat → Bool) (s : State) : Attends F i s (s.reinitWhere p) :=
  .foldl (fun t n => .foldl (fun v c => v.reinitLink_attends hi hOwn n c) _ t) _ s

theorem State.unwrap_attends (d : Nat) (s : State) : Attends F i s (s.unwrap d) := by
  have hSpan : Attends F i s (s.unwrapped d) := (State.modSide_attends _ _ s).trans (State.setReq_attends _ _)
  have hCnt (v : State) : v.timingSide.recheck.cnt = v.cnt := by
    unfold State.timingSide
    split <;> rfl
  have hSwitch (v : State) : Attends F i v v.timingSide.recheck :=
    ⟨v.timingSide_recheck_wraps, fun e n => congrArg F (State.rlane_of_lanes (congrArg Ring.lanes v.timingSide_recheck_ring) e n),
      congrArg (fun c => Tab.get 0 c i) (hCnt v)⟩
  rw [State.unwrap_eq]
  exact .ite (((hSpan.trans (State.raise_attends hi _ _ _ _)).trans (State.reinitWhere_attends hi hOwn _ _)).trans (hSwitch _)) hSpan

theorem State.afterClear_attends (d : Nat) (s : State) : Attends F i s (s.afterClear d) := by
  have hWaits : Attends F i s (s.waits d) := (State.modSide_attends _ _ s).trans (State.setReq_attends _ _)
  rw [State.afterClear_eq]
  exact .ite (State.setReq_attends d s) (.ite (State.setReq_attends d s)
    (.ite (State.unwrap_attends hi hOwn d s) (hWaits.trans (State.raise_attends hi _ _ _ _))))

theorem State.acceptReq_attends (d : Nat) (r : Nat × Nat × Bool) (s : State) : Attends F i s (s.acceptReq d r) := by
  have hAccepted : Attends F i s (s.modSide d (fun x => { x with reqRx := r.1, spanFar := r.2.1, longRx := r.2.2 })) :=
    State.modSide_attends _ _ s
  have hLinks (v : State) (b : Bool) (p : Nat → Bool) : Attends F i v (if b then v.reinitWhere p else v) :=
    .ite (State.reinitWhere_attends hi hOwn p v) (.refl v)
  have hFreed (v : State) (k : Nat) (b : Bool) : Attends F i v (if b then v.unwrap k else v) :=
    .ite (State.unwrap_attends hi hOwn k v) (.refl v)
  unfold State.acceptReq
  dsimp only
  exact ((hAccepted.trans (hLinks _ _ _)).trans (hLinks _ _ _)).trans (.foldl (fun v k => hFreed v k _) _ _)

theorem State.srq_attends (d : Nat) (f : RingHead) (s : State) : Attends F i s (s.srq d f) := by
  have hSeen (g : RingSide → RingSide) : Attends F i s (s.modSide d g) := State.modSide_attends d g s
  have hNeighbour (v : State) (b : Bool) (g : RingSide → RingSide) :
      Attends F i v (if b then (v.modSide d g).rgEvent d 18 0 else v) :=
    .ite ((State.modSide_attends d g v).trans (State.rgEvent_attends hi _ _ _ _)) (.refl v)
  have hReq (v : State) (b : Bool) (r : Nat × Nat × Bool) : Attends F i v (if b then v.acceptReq d r else v) :=
    .ite (State.acceptReq_attends hi hOwn d r v) (.refl v)
  unfold State.srq
  dsimp only
  exact ((hSeen _).trans (hNeighbour _ _ _)).trans (hReq _ _ _)

end

/-! ### Labels and credit records (R438, R439, R449) -/

section
variable {i : Nat} (hi : besideMailboxes i) (hOwn : ∀ e k, 0 < k → k < 32 → i ≠ rgCnt e k)
include hi hOwn

theorem State.acceptLabel_attends (d l : Nat) (s : State) : Attends RingLane.held i s (s.acceptLabel d l) := by
  have hAccepted : Attends RingLane.held i s (s.modSide d (fun x => { x with labelRx := l })) := State.modSide_attends _ _ s
  have hCleared := hAccepted.trans (State.modSide_attends d (fun x => { x with labelSf := false }) _)
  have hOther (v : State) : Attends RingLane.held i v
      (if !labelKnown l then v.rgEvent d 3 0 else if l = 0xFF then v.rgEvent d 4 0 else v) :=
    .ite (State.rgEvent_attends hi _ _ _ v) (.ite (State.rgEvent_attends hi _ _ _ v) (.refl v))
  unfold State.acceptLabel
  dsimp only
  split
  · exact .ite ((hCleared.trans (State.modSide_attends _ _ _)).trans (State.afterClear_attends hi hOwn _ _)) hCleared
  · exact .ite (hAccepted.trans (hOther _)) ((hAccepted.trans (hOther _)).trans (State.declare_attends hi d .labelSf _))

theorem State.labelIn_attends (d : Nat) (f : RingHead) (s : State) : Attends RingLane.held i s (s.labelIn d f) := by
  have hSeen (g : RingSide → RingSide) : Attends RingLane.held i s (s.modSide d g) := State.modSide_attends d g s
  have hAccepts (v : State) (b : Bool) : Attends RingLane.held i v (if b then v.acceptLabel d f.label else v) :=
    .ite (State.acceptLabel_attends hi hOwn d f.label v) (.refl v)
  unfold State.labelIn
  dsimp only
  exact (hSeen _).trans (hAccepts _ _)

omit hi hOwn in
theorem State.creditIn_attends (d me : Nat) (s : State) (r : CreditRec) :
    Attends RingLane.held i s (if r.owner.val = me then s.creditBack r else s.putReturn (other d) r) := by
  have hBack : Attends RingLane.held i s (s.creditBack r) := by
    rw [State.creditBack_eq]
    exact .ite (.refl s) (State.modLink_attends _ _ _ _ s)
  exact .ite hBack (Adds.attends (adds_of_eq rfl rfl) rfl)

/-- The overhead of a frame moves neither the pointers nor what the lanes have brought. -/
theorem State.overhead_attends (d n : Nat) (h : RingHead) (was : RingLane) (rx : PtrRead) (s : State) :
    Attends RingLane.held i s (s.overhead d n h was rx) := by
  have hBip (b : Bool) : Attends RingLane.held i s (s.modRlane d n (RingLane.bip b)) :=
    State.modRlane_attends d n (RingLane.bip b) (fun _ => rfl) s
  have hJust (v : State) : Attends RingLane.held i v
      (if rx.just = 1 then v.inc (rgCnt d 18) else if rx.just = 2 then v.inc (rgCnt d 19) else v) :=
    .ite (State.inc_attends hi (hOwn d 18 (by decide) (by decide)) v)
      (.ite (State.inc_attends hi (hOwn d 19 (by decide) (by decide)) v) (.refl v))
  have hLop (v : State) (b : Bool) : Attends RingLane.held i v (if b then v.declare d .lop else v) :=
    .ite (State.declare_attends hi d .lop v) (.refl v)
  have hErr (v : State) (b : Bool) : Attends RingLane.held i v (if b then (v.inc (rgCnt d 1)).rgFirst d 8 else v) :=
    .ite ((State.inc_attends hi (hOwn d 1 (by decide) (by decide)) v).trans (State.rgFirst_attends hi _ _ _)) (.refl v)
  have hLabel (v : State) (b : Bool) : Attends RingLane.held i v (if b then (v.labelIn d h).srq d h else v) :=
    .ite ((State.labelIn_attends hi hOwn d h v).trans (State.srq_attends hi hOwn d h _)) (.refl v)
  unfold State.overhead
  dsimp only
  exact ((((((hBip _).trans (hJust _)).trans (hLop _ _)).trans (hErr _ _)).trans (State.bipCheck_attends hi _ _ _)).trans
    (hLabel _ _)).trans (.foldl (fun v r => State.creditIn_attends d s.self v r) _ _)

end

end Sys2Proof.Machine
end

section
/-!
# A ring frame is received (R426 to R433, R438, R465)
-/
namespace Sys2Proof.Machine

-- One theorem after another: the stacks of many that wait at once would exceed the memory of the check.
set_option Elab.async false

variable {s t u : State} {d n : Nat}

/-! ### The lane after its alignment and descrambler -/

/-- The lane and the descrambled bytes of a frame. -/
def State.opened (d n : Nat) (w : List Byte) (s : State) : RingLane × List Byte :=
  ((s.rlane d n).align (w.take 8 == alignPattern)).open_ w

/-- The side with that lane, its training following. -/
def State.aligned (d n : Nat) (x : RingLane) (s : State) : State := (s.modRlane d n (fun _ => x)).train d

theorem State.aligned_adds (d n : Nat) (x : RingLane) (s : State) : Adds reportParts s (s.aligned d n x) :=
  (State.modRlane_adds _ _ _ s).trans (State.train_adds _ _)

theorem State.aligned_attends {i : Nat} (hi : besideMailboxes i) (d n : Nat) (x : RingLane) (s : State) :
    Attends id i (s.modRlane d n (fun _ => x)) (s.aligned d n x) := State.train_attends hi _ _

theorem State.aligned_lane (d n : Nat) (x : RingLane) (s : State) : (s.aligned d n x).rlane d n = x :=
  ((State.aligned_attends (i := 0) (Or.inl (by decide)) d n x s).lane d n).trans (State.rlane_modRlane_same d n _ s)

theorem State.aligned_other (x : RingLane) (s : State) {m : Nat} (h : m ≠ n) : (s.aligned d n x).rlane d m = s.rlane d m :=
  ((State.aligned_attends (i := 0) (Or.inl (by decide)) d n x s).lane d m).trans (State.rlane_modRlane_other _ s (by omega))

theorem State.aligned_cnt {i : Nat} (hi : besideMailboxes i) (d n : Nat) (x : RingLane) (s : State) :
    Tab.get 0 (s.aligned d n x).cnt i = Tab.get 0 s.cnt i := (State.aligned_attends hi d n x s).count

/-! ### A lane out of frame (R430) -/

/-- What a lane that is out of frame has brought is lost. -/
def RingLane.emptied (x : RingLane) : RingLane := { x with rxCut := none, rxDone := [], rxSlots := [], rxBip := none }

theorem State.laneLost_adds (d n : Nat) (s : State) : Adds reportParts s (s.laneLost d n) :=
  (State.modRlane_adds _ _ _ s).trans (State.modSide_adds _ _ _)

theorem State.laneLost_lane (d n : Nat) (s : State) : (s.laneLost d n).rlane d n = (s.rlane d n).emptied :=
  State.rlane_modRlane_same d n RingLane.emptied s

theorem State.laneLof_adds (d n : Nat) (s : State) : Adds reportParts s (s.laneLof d n) :=
  (((State.modRlane_adds _ _ _ s).trans (State.rgEvent_adds _ _ _ _)).trans (State.modSide_adds _ _ _)).trans
    (State.enterDefect_adds _ _ _)

theorem State.laneLof_lane (d n : Nat) (s : State) : (s.laneLof d n).rlane d n = { s.rlane d n with lof := true } := by
  have hi : besideMailboxes 0 := Or.inl (by decide)
  have hTold : Attends id 0 (s.modRlane d n (fun x => { x with lof := true })) (s.laneLof d n) :=
    ((State.rgEvent_attends hi _ _ _ _).trans (State.modSide_attends _ _ _)).trans (State.enterDefect_attends hi _ _ _)
  exact (hTold.lane d n).trans (State.rlane_modRlane_same d n (fun x => { x with lof := true }) s)

theorem State.ringFrame_lost {w : List Byte} (h : (s.opened d n w).1.inFrame = false) : s.ringFrame d n w =
    (if 3 ≤ (s.opened d n w).1.oof && !(s.rlane d n).lof
      then ((s.aligned d n (s.opened d n w).1).laneLost d n).laneLof d n else (s.aligned d n (s.opened d n w).1).laneLost d n, []) :=
  if_pos (by rw [Bool.not_eq_true']; exact h)

/-- A lane that stays out of frame keeps its LOF until it is aligned again. -/
theorem RingLane.align_lof {x : RingLane} {ok : Bool} (h : (x.align ok).inFrame = false) : (x.align ok).lof = x.lof := by
  have hIn : (if 2 ≤ (if ok then min 2 (x.good + 1) else 0) then true
      else if 4 ≤ (if ok then 0 else min 4 (x.bad + 1)) then false else x.inFrame) = false := h
  rw [RingLane.align]
  dsimp only
  rw [hIn]
  rfl

theorem State.opened_lof {w : List Byte} (h : (s.opened d n w).1.inFrame = false) :
    (s.opened d n w).1.lof = (s.rlane d n).lof := RingLane.align_lof (x := s.rlane d n) (ok := w.take 8 == alignPattern) h

theorem exec_ringFrameReceive_of {e : Side} {m : Fin 2} {w : List Byte} (hOn : s.ringOn e.val = true)
    (h : s.ringFrame e.val m.val w = (t, [])) : exec (.ringFrameReceive e m w) s = .next t := by
  refine congrArg Host.Outcome.next ((if_neg (by simp [hOn])).trans ?_)
  rw [h]
  rfl

theorem ringFrameReceive_lost {e : Side} {m : Fin 2} {w : List Byte} (hOn : s.ringOn e.val = true)
    (h : (s.opened e.val m.val w).1.inFrame = false) : completesWith (.ringFrameReceive e m w) s (fun t =>
      t.rlane e.val m.val = { (s.opened e.val m.val w).1 with
        lof := (s.opened e.val m.val w).1.lof || decide (3 ≤ (s.opened e.val m.val w).1.oof)
        rxCut := none, rxDone := [], rxSlots := [], rxBip := none }
      ∧ t = s.reporting t) := by
  refine ⟨_, exec_ringFrameReceive_of hOn (State.ringFrame_lost h), ?_⟩
  have hLof := State.opened_lof h
  generalize s.opened e.val m.val w = x at hLof ⊢
  have hLost : Adds reportParts s ((s.aligned e.val m.val x.1).laneLost e.val m.val) :=
    (s.aligned_adds _ _ _).trans (State.laneLost_adds _ _ _)
  have hLane : ((s.aligned e.val m.val x.1).laneLost e.val m.val).rlane e.val m.val = x.1.emptied := by
    rw [State.laneLost_lane, State.aligned_lane]
  generalize (s.aligned e.val m.val x.1).laneLost e.val m.val = v at hLost hLane ⊢
  rw [← hLof]
  split
  next hUp =>
    obtain ⟨hOof, _⟩ := Bool.and_eq_true_iff.mp hUp
    refine ⟨?_, (hLost.trans (State.laneLof_adds _ _ _)).within.reporting⟩
    rw [State.laneLof_lane, hLane, hOof, Bool.or_true]
    rfl
  next hUp =>
    have hKept : (x.1.lof || decide (3 ≤ x.1.oof)) = x.1.lof := by
      cases hl : x.1.lof with
      | true => rfl
      | false =>
        rw [hl] at hUp
        simpa using hUp
    refine ⟨?_, hLost.within.reporting⟩
    rw [hLane, hKept]
    rfl

/-! ### What a lane brings while the other one is out of frame (R438, R465) -/

/-- Where the boundaries of a lane stand. -/
def RingLane.boundary (x : RingLane) : Nat × Nat := (x.value, x.badPtr)

theorem State.laneIn_adds (d n no : Nat) (rx : PtrRead) (data slot : List Byte) (s : State) :
    Adds reportParts s (s.laneIn d n no rx data slot) := State.modRlane_adds _ _ _ s

theorem State.laneIn_attends {i : Nat} (d n no : Nat) (rx : PtrRead) (data slot : List Byte) (s : State) :
    Attends RingLane.boundary i s (s.laneIn d n no rx data slot) := by
  refine State.modRlane_attends d n _ ?_ s
  exact fun _ => rfl

/-- A lane that has brought nothing and not given it on. -/
def RingLane.given (x : RingLane) : Prop := x.rxDone = [] ∧ x.rxSlots = []

theorem State.laneIn_given (no : Nat) (rx : PtrRead) (data slot : List Byte) {s : State}
    (h : (s.rlane d (other n)).inFrame = false) : ((s.laneIn d n no rx data slot).rlane d n).given := by
  unfold State.laneIn
  rw [State.rlane_modRlane_same, h]
  exact ⟨rfl, rfl⟩

theorem State.laneIn_other (no : Nat) (rx : PtrRead) (data slot : List Byte) (s : State) {m : Nat} (h : m ≠ n) :
    (s.laneIn d n no rx data slot).rlane d m = s.rlane d m := State.rlane_modRlane_other _ s (by omega)

/-! ### Nothing to merge -/

/-- A side whose lanes have given on what they brought, in order. -/
def State.merged (d : Nat) (s : State) : State := ((s.mergeContainers d).1.mergeSlots d).1

theorem State.mergeContainers_adds (d : Nat) (s : State) : Adds reportParts s (s.mergeContainers d).1 :=
  (State.modRlane_adds _ _ _ s).trans (State.modRlane_adds _ _ _ _)

theorem State.mergeSlots_adds (d : Nat) (s : State) : Adds reportParts s (s.mergeSlots d).1 :=
  (State.modRlane_adds _ _ _ s).trans (State.modRlane_adds _ _ _ _)

theorem State.merged_adds (d : Nat) (s : State) : Adds reportParts s (s.merged d) :=
  (s.mergeContainers_adds d).trans (State.mergeSlots_adds _ _)

theorem State.mergeContainers_attends {i : Nat} (d : Nat) (s : State) :
    Attends (fun x => (x.boundary, x.rxSlots)) i s (s.mergeContainers d).1 := by
  refine (State.modRlane_attends d 0 _ ?_ s).trans (State.modRlane_attends d 1 _ ?_ _)
  all_goals exact fun _ => rfl

theorem State.mergeSlots_attends {i : Nat} (d : Nat) (s : State) : Attends RingLane.boundary i s (s.mergeSlots d).1 := by
  refine (State.modRlane_attends d 0 _ ?_ s).trans (State.modRlane_attends d 1 _ ?_ _)
  all_goals exact fun _ => rfl

theorem State.merged_attends {i : Nat} (d : Nat) (s : State) : Attends RingLane.boundary i s (s.merged d) := by
  have hFirst : Attends (fun x => (x.boundary, x.rxSlots)) i s (s.mergeContainers d).1 := s.mergeContainers_attends d
  exact Attends.trans ⟨hFirst.wraps, fun e n => congrArg Prod.fst (hFirst.lane e n), hFirst.count⟩ (State.mergeSlots_attends d _)

theorem State.mergeContainers_none (h0 : (s.rlane d 0).given) (h1 : (s.rlane d 1).given) : (s.mergeContainers d).2 = [] := by
  unfold State.mergeContainers
  dsimp only
  rw [h0.1, h1.1]
  rfl

theorem State.mergeSlots_none (h0 : (s.rlane d 0).rxSlots = []) (h1 : (s.rlane d 1).rxSlots = []) : (s.mergeSlots d).2 = [] := by
  unfold State.mergeSlots
  dsimp only
  rw [h0, h1]
  rfl

/-- A frame of a lane in frame that leaves nothing to be given on. -/
theorem State.ringFrame_given {w : List Byte} (hIn : (s.opened d n w).1.inFrame = true)
    (hFrame : (s.aligned d n (s.opened d n w).1).frameIn d n (s.opened d n w).2 (s.rlane d n) = t)
    (h0 : (t.rlane d 0).given) (h1 : (t.rlane d 1).given) : s.ringFrame d n w = (t.merged d, []) := by
  have hSlots (e : Nat) : ((t.mergeContainers d).1.rlane d e).rxSlots = (t.rlane d e).rxSlots :=
    congrArg Prod.snd ((t.mergeContainers_attends (i := 0) d).lane d e)
  have hMerged : s.ringFrame d n w =
      (((t.mergeContainers d).1.containersIn d (t.mergeContainers d).2).mergeSlots d).1.slotsIn d
        (((t.mergeContainers d).1.containersIn d (t.mergeContainers d).2).mergeSlots d).2 := by
    rw [← hFrame]
    exact if_neg (by rw [Bool.not_eq_true', Bool.not_eq_false]; exact hIn)
  rw [hMerged, State.mergeContainers_none h0 h1, State.containersIn,
    State.mergeSlots_none ((hSlots 0).trans h0.2) ((hSlots 1).trans h1.2)]
  rfl

/-! ### The overhead of the frame (R428 to R436) -/

/-- The frame counted, and the lane with its pointer. -/
def State.pointed (d n : Nat) (bad : Bool) (x : RingLane) (s : State) : State :=
  ((s.inc (rgCnt d 0)).modSide d (fun y => if n = 0 then { y with lane0Bad := bad } else y)).modRlane d n (fun _ => x)

/-- A frame whose overhead fails: counted, told once in a while. -/
def State.headBad (d n : Nat) (s : State) : State :=
  ((s.pointed d n true (s.rlane d n).pointerOn.1).inc (rgCnt d 2)).rgFirst d 7

theorem State.frameIn_bad {b : List Byte} (hBad : headOk b = false) (was : RingLane) (s : State) :
    ∃ no rx data slot, s.frameIn d n b was = (s.headBad d n).laneIn d n no rx data slot := by
  unfold State.frameIn
  dsimp only
  rw [hBad]
  exact ⟨_, _, _, _, rfl⟩

theorem State.frameIn_good {b : List Byte} (hOk : headOk b = true) (was : RingLane) (s : State) :
    ∃ no rx data slot, s.frameIn d n b was = ((s.pointed d n false ((s.rlane d n).pointer (parseHead b)).1).overhead d n
      (parseHead b) was ((s.rlane d n).pointer (parseHead b)).2).laneIn d n no rx data slot := by
  unfold State.frameIn
  dsimp only
  rw [hOk]
  exact ⟨_, _, _, _, rfl⟩

theorem State.pointed_adds (d n : Nat) (bad : Bool) (x : RingLane) (s : State) : Adds reportParts s (s.pointed d n bad x) :=
  ((State.inc_adds _ s).trans (State.modSide_adds _ _ _)).trans (State.modRlane_adds _ _ _ _)

theorem State.pointed_lane (d n : Nat) (bad : Bool) (x : RingLane) (s : State) : (s.pointed d n bad x).rlane d n = x :=
  State.rlane_modRlane_same d n (fun _ => x) _

theorem State.pointed_other {m : Nat} (h : m ≠ n) (bad : Bool) (x : RingLane) (s : State) :
    (s.pointed d n bad x).rlane d m = s.rlane d m :=
  (State.rlane_modRlane_other (fun _ => x) _ (by omega)).trans
    (State.rlane_of_lanes ((Sends.refl s.ring).inc (rgCnt d 0)).lanes d m)

theorem besideMailboxes_rgCnt (d : Nat) {k : Nat} (hd : d < 2) (hk : k < 32) : besideMailboxes (rgCnt d k) :=
  Or.inl (by unfold rgCnt; omega)

theorem State.pointed_cnt (hd : d < 2) (bad : Bool) (x : RingLane) (s : State) :
    Tab.get 0 (s.pointed d n bad x).cnt (rgCnt d 0) = (Tab.get 0 s.cnt (rgCnt d 0) + 1) % 2 ^ 40 :=
  State.count_cnt_same (besideMailboxes_rgCnt d hd (by decide)) 1 s

theorem State.pointed_cnt_other {k : Nat} (hd : d < 2) (hk : k < 32) (h0 : 0 < k) (bad : Bool) (x : RingLane) (s : State) :
    Tab.get 0 (s.pointed d n bad x).cnt (rgCnt d k) = Tab.get 0 s.cnt (rgCnt d k) :=
  State.count_cnt_other (besideMailboxes_rgCnt d hd hk) (by unfold rgCnt; omega) 1 s

theorem State.headBad_adds (d n : Nat) (s : State) : Adds reportParts s (s.headBad d n) :=
  ((State.pointed_adds _ _ _ _ s).trans (State.inc_adds _ _)).trans (State.raiseWin_adds _ _ _ _ _ _)

theorem State.headBad_attends (hd : d < 2) (s : State) :
    Attends id (rgCnt d 0) (s.pointed d n true (s.rlane d n).pointerOn.1) (s.headBad d n) :=
  (State.inc_attends (besideMailboxes_rgCnt d hd (by decide)) (by unfold rgCnt; omega) _).trans
    (State.rgFirst_attends (besideMailboxes_rgCnt d hd (by decide)) _ _ _)

theorem State.headBad_cnt (hd : d < 2) (s : State) :
    Tab.get 0 (s.headBad d n).cnt (rgCnt d 2) = (Tab.get 0 s.cnt (rgCnt d 2) + 1) % 2 ^ 40 := by
  have hi : besideMailboxes (rgCnt d 2) := besideMailboxes_rgCnt d hd (by decide)
  calc Tab.get 0 (s.headBad d n).cnt (rgCnt d 2)
      = Tab.get 0 ((s.pointed d n true (s.rlane d n).pointerOn.1).inc (rgCnt d 2)).cnt (rgCnt d 2) :=
        (State.rgFirst_attends (F := id) hi d 7 _).count
    _ = (Tab.get 0 (s.pointed d n true (s.rlane d n).pointerOn.1).cnt (rgCnt d 2) + 1) % 2 ^ 40 :=
        State.count_cnt_same hi 1 _
    _ = (Tab.get 0 s.cnt (rgCnt d 2) + 1) % 2 ^ 40 := by
        rw [State.pointed_cnt_other hd (by decide) (by decide)]

/-! ### The frame of a lane whose neighbour is out of frame -/

theorem both_of_other {p : Nat → Prop} (hn : n < 2) (h : p n) (ho : p (other n)) : p 0 ∧ p 1 := by
  obtain rfl | rfl : n = 0 ∨ n = 1 := by omega
  · exact ⟨h, ho⟩
  · exact ⟨ho, h⟩

theorem other_ne (hn : n < 2) : other n ≠ n := by
  unfold other
  omega

/-- The frame of a lane over a state `u` whose other lane is out of frame and has given on what it brought. -/
theorem State.ringFrame_alone {w : List Byte} {no : Nat} {rx : PtrRead} {data slot : List Byte} (hn : n < 2)
    (hIn : (s.opened d n w).1.inFrame = true)
    (hFrame : (s.aligned d n (s.opened d n w).1).frameIn d n (s.opened d n w).2 (s.rlane d n) = u.laneIn d n no rx data slot)
    (hOut : (u.rlane d (other n)).inFrame = false) (hGiven : (u.rlane d (other n)).given) :
    ∃ t, s.ringFrame d n w = (t, []) ∧ Adds reportParts u t ∧ ∀ i, Attends RingLane.boundary i u t := by
  have hBoth : ((u.laneIn d n no rx data slot).rlane d 0).given ∧ ((u.laneIn d n no rx data slot).rlane d 1).given := by
    refine both_of_other (p := fun e => ((u.laneIn d n no rx data slot).rlane d e).given) hn (State.laneIn_given _ _ _ _ hOut) ?_
    rw [State.laneIn_other no rx data slot u (other_ne hn)]
    exact hGiven
  exact ⟨_, State.ringFrame_given hIn hFrame hBoth.1 hBoth.2, (u.laneIn_adds _ _ _ _ _ _).trans (State.merged_adds _ _),
    fun i => (u.laneIn_attends _ _ _ _ _ _).trans (State.merged_attends _ _)⟩

theorem ringFrameReceive_bad {e : Side} {m : Fin 2} {w : List Byte} (hOn : s.ringOn e.val = true)
    (hIn : (s.opened e.val m.val w).1.inFrame = true) (hOut : (s.rlane e.val (other m.val)).inFrame = false)
    (hGiven : (s.rlane e.val (other m.val)).given) (hBad : headOk (s.opened e.val m.val w).2 = false) :
    completesWith (.ringFrameReceive e m w) s (fun t =>
      (t.rlane e.val m.val).value = nextValue (s.opened e.val m.val w).1.value ringPayload
      ∧ (t.rlane e.val m.val).badPtr = (s.opened e.val m.val w).1.badPtr
      ∧ Tab.get 0 t.cnt (rgCnt e.val 0) = (Tab.get 0 s.cnt (rgCnt e.val 0) + 1) % 2 ^ 40
      ∧ Tab.get 0 t.cnt (rgCnt e.val 2) = (Tab.get 0 s.cnt (rgCnt e.val 2) + 1) % 2 ^ 40 ∧ t = s.reporting t) := by
  have hd : e.val < 2 := e.isLt
  have hNe := other_ne m.isLt
  obtain ⟨no, rx, data, slot, hFrame⟩ := State.frameIn_bad (d := e.val) (n := m.val) hBad (s.rlane e.val m.val)
    (s.aligned e.val m.val (s.opened e.val m.val w).1)
  have hAligned := s.aligned_adds e.val m.val (s.opened e.val m.val w).1
  have hLane := s.aligned_lane e.val m.val (s.opened e.val m.val w).1
  have hOther := State.aligned_other (d := e.val) (s.opened e.val m.val w).1 s hNe
  have hCnt (k : Nat) (hk : k < 32) := State.aligned_cnt (besideMailboxes_rgCnt e.val hd hk) e.val m.val (s.opened e.val m.val w).1 s
  generalize hA : s.aligned e.val m.val (s.opened e.val m.val w).1 = a at hFrame hAligned hLane hOther hCnt
  have hTold := State.headBad_attends (n := m.val) hd a
  have hFar : (a.headBad e.val m.val).rlane e.val (other m.val) = s.rlane e.val (other m.val) :=
    ((hTold.lane _ _).trans (State.pointed_other hNe _ _ _)).trans hOther
  obtain ⟨t, hEq, hAdds, hKeeps⟩ := State.ringFrame_alone (u := a.headBad e.val m.val) (w := w) m.isLt hIn
    (by rw [hA]; exact hFrame) (by rw [hFar]; exact hOut) (by rw [hFar]; exact hGiven)
  have hOwn : (a.headBad e.val m.val).rlane e.val m.val = (s.opened e.val m.val w).1.pointerOn.1 := by
    rw [← hLane]
    exact (hTold.lane _ _).trans (State.pointed_lane _ _ _ _ _)
  have hBoundary := (hKeeps 0).lane e.val m.val
  rw [hOwn] at hBoundary
  refine ⟨t, exec_ringFrameReceive_of hOn hEq, congrArg Prod.fst hBoundary, congrArg Prod.snd hBoundary, ?_, ?_,
    ((hAligned.trans (a.headBad_adds _ _)).trans hAdds).within.reporting⟩
  · rw [(hKeeps _).count, hTold.count, State.pointed_cnt hd, hCnt 0 (by decide)]
  · rw [(hKeeps _).count, State.headBad_cnt hd, hCnt 2 (by decide)]

theorem ringFrameReceive_good {e : Side} {m : Fin 2} {w : List Byte} (hOn : s.ringOn e.val = true)
    (hIn : (s.opened e.val m.val w).1.inFrame = true) (hOut : (s.rlane e.val (other m.val)).inFrame = false)
    (hGiven : (s.rlane e.val (other m.val)).given) (hOk : headOk (s.opened e.val m.val w).2 = true) :
    completesWith (.ringFrameReceive e m w) s (fun t =>
      (t.rlane e.val m.val).value = ((s.opened e.val m.val w).1.pointer (parseHead (s.opened e.val m.val w).2)).1.value
      ∧ (t.rlane e.val m.val).badPtr = ((s.opened e.val m.val w).1.pointer (parseHead (s.opened e.val m.val w).2)).1.badPtr
      ∧ Tab.get 0 t.cnt (rgCnt e.val 0) = (Tab.get 0 s.cnt (rgCnt e.val 0) + 1) % 2 ^ 40
      ∧ t = { s.reporting t with
          tide := { s.tide with timingNext := t.tide.timingNext }, adm := { s.adm with due := t.adm.due } }) := by
  have hd : e.val < 2 := e.isLt
  have hNe := other_ne m.isLt
  have hi : besideMailboxes (rgCnt e.val 0) := besideMailboxes_rgCnt e.val hd (by decide)
  obtain ⟨no, rx, data, slot, hFrame⟩ := State.frameIn_good (d := e.val) (n := m.val) hOk (s.rlane e.val m.val)
    (s.aligned e.val m.val (s.opened e.val m.val w).1)
  have hAligned := s.aligned_adds e.val m.val (s.opened e.val m.val w).1
  have hLane := s.aligned_lane e.val m.val (s.opened e.val m.val w).1
  have hOther := State.aligned_other (d := e.val) (s.opened e.val m.val w).1 s hNe
  have hCnt := State.aligned_cnt hi e.val m.val (s.opened e.val m.val w).1 s
  rw [hLane] at hFrame
  generalize hA : s.aligned e.val m.val (s.opened e.val m.val w).1 = a at hFrame hAligned hOther hCnt
  generalize hP : (s.opened e.val m.val w).1.pointer (parseHead (s.opened e.val m.val w).2) = p at hFrame ⊢
  have hOver := State.overhead_attends hi (fun _ k h0 hk => by unfold rgCnt; omega) e.val m.val
    (parseHead (s.opened e.val m.val w).2) (s.rlane e.val m.val) p.2 (a.pointed e.val m.val false p.1)
  generalize (a.pointed e.val m.val false p.1).overhead e.val m.val _ _ _ = v at hOver hFrame
  have hFar : (v.rlane e.val (other m.val)).held = (s.rlane e.val (other m.val)).held := by
    rw [hOver.lane, State.pointed_other hNe, hOther]
  obtain ⟨_, _, hFrameFar, hDoneFar, hSlotsFar⟩ := by
    simpa only [RingLane.held, Prod.mk.injEq] using hFar
  obtain ⟨t, hEq, _, hKeeps⟩ := State.ringFrame_alone (u := v) (w := w) m.isLt hIn (by rw [hA]; exact hFrame) (hFrameFar.trans hOut)
    ⟨hDoneFar.trans hGiven.1, hSlotsFar.trans hGiven.2⟩
  have hHeld : (v.rlane e.val m.val).held = p.1.held := by
    rw [hOver.lane, State.pointed_lane]
  have hBoundary := (hKeeps 0).lane e.val m.val
  refine ⟨t, exec_ringFrameReceive_of hOn hEq, (congrArg Prod.fst hBoundary).trans (congrArg (fun x => x.1) hHeld),
    (congrArg Prod.snd hBoundary).trans (congrArg (fun x => x.2.1) hHeld), ?_, ?_⟩
  · rw [(hKeeps _).count, hOver.count, State.pointed_cnt hd, hCnt]
  · exact Wraps.frame (((hAligned.trans (State.pointed_adds _ _ _ _ a)).wraps.trans hOver.wraps).trans (hKeeps 0).wraps)

/-! ### The obligation -/

/-- Settles O42: a received frame by the lane's alignment and its overhead, a transmitted pair by its lengths. -/
theorem ringTrafficCommands : Obligations.RingTrafficCommands := by
  unfold Obligations.RingTrafficCommands
  intro s d
  refine ⟨fun n w hOn => ⟨ringFrameReceive_lost hOn, ?_, ?_⟩, fun j ecc hOn => ringFrameTransmit_sends hOn,
    fun n v hOn => rgPtrJump_jumps n v hOn, fun n w v j ecc hOff => ⟨exec_ringFrameReceive_off hOff,
      exec_ringFrameTransmit_off hOff, exec_rgPtrJump_off hOff⟩, fun src c n => creditReinit_begins src c n s,
    fun dst c n h => creditReinitAck_ends n h, fun dst c n h => exec_creditReinitAck_idle h⟩
  · exact fun hIn hOut hDone hSlots hBad => ringFrameReceive_bad hOn hIn hOut ⟨hDone, hSlots⟩ hBad
  · exact fun hIn hOut hDone hSlots hOk => ringFrameReceive_good hOn hIn hOut ⟨hDone, hSlots⟩ hOk

end Sys2Proof.Machine
end

section
/-!
# What reports and changes of the blocks leave

The commits that wait, the configuration, the snapshot, the images, the node table and the Tide word: one rule for
each operation, in the order of the model's files.
-/
namespace Sys2Proof.Machine

-- One theorem after another: the stacks of many that wait at once would exceed the memory of the check.
set_option Elab.async false

/-! ### The host's accepted commits under reports -/

theorem Steady.accepted {h k : HostIf} (a : Steady h k) : k.accepted = h.accepted := (congrArg HostIf.accepted a.rest :)

section
variable (s : State)

@[simp] theorem State.setEvt_accepted (e : Events) (b : Bool) : (s.setEvt e b).host.accepted = s.host.accepted :=
  ((Steady.refl s.host).setEvt e b).accepted

@[simp] theorem State.raise_accepted (src obj detail : Nat) : (s.raise src obj detail).host.accepted = s.host.accepted :=
  ((Steady.refl s.host).raise src obj detail).accepted

@[simp] theorem State.raiseWin_accepted (n src sub obj detail : Nat) :
    (s.raiseWin n src sub obj detail).host.accepted = s.host.accepted :=
  ((Steady.refl s.host).raiseWin n src sub obj detail).accepted

@[simp] theorem State.postHalf_accepted (w : W32) (o : Nat) : (s.postHalf w o).host.accepted = s.host.accepted :=
  ((Steady.refl s.host).postHalf w o).accepted

@[simp] theorem State.count_accepted (i n : Nat) : (s.count i n).host.accepted = s.host.accepted :=
  ((Steady.refl s.host).count i n).accepted

@[simp] theorem State.inc_accepted (i : Nat) : (s.inc i).host.accepted = s.host.accepted := s.count_accepted i 1

theorem State.answerEvents_accepted (i j m : Nat) (st : Status) :
    (((s.inc i).inc j).answerEvents m st).host.accepted = s.host.accepted :=
  ((((Steady.refl s.host).inc i).inc j).answerEvents m st).accepted

@[simp] theorem State.answer_accepted (o : Nat) (q : Req) (st : Status) (p : List Byte) :
    (s.answer o q st p).host.accepted = s.host.accepted := by
  simp only [State.answer]
  split
  · rfl
  · exact (State.answerEvents_accepted _ _ _ _ _).trans (HostIf.flushBox_steady _ _).accepted

@[simp] theorem State.reply_accepted (o : Nat) (q : Req) (st : Status) :
    (s.reply o q st).host.accepted = s.host.accepted := s.answer_accepted o q st []

@[simp] theorem State.complete_accepted (m k : Nat) (st : Status) (p : List Byte) :
    (s.complete m k st p).host.accepted = s.host.accepted := by
  unfold State.complete
  split
  · rfl
  · dsimp only
    split
    · rfl
    · split
      · exact (HostIf.flushBox_steady _ _).accepted
      · exact (State.raise_accepted _ _ _ _).trans (HostIf.flushBox_steady _ _).accepted

@[simp] theorem State.answerOn_accepted (w : Wait) (st : Status) (p : List Byte) :
    (s.answerOn w st p).host.accepted = s.host.accepted := by
  unfold State.answerOn
  refine State.foldl_same (fun t => t.host.accepted) (fun t m => ?_) _ s
  split
  · split
    · exact State.answer_accepted t _ _ _ _
    · rfl
  · rfl

end

@[simp] theorem HostIf.modBox_accepted (m : Nat) (f : Mbx → Mbx) (h : HostIf) : (h.modBox m f).accepted = h.accepted := rfl

/-! ### What stands firm -/

/-- What neither a report nor a change of the blocks touches: the commits that wait, the configuration, the snapshot, the
role and the images, the node table and the Tide word. -/
structure Firm where
  accepted : List Accepted
  cfg : Cfg
  snap : Snapshot
  manager : Bool
  bankA : ImgBank
  bankB : ImgBank
  nodes : Tab NodeEntry
  word : Nat × Nat

def State.firm (s : State) : Firm :=
  { accepted := s.host.accepted, cfg := s.cfg, snap := s.snap, manager := s.start.manager, bankA := s.start.bankA
    bankB := s.start.bankB, nodes := s.ring.nodes, word := (s.tide.frame, s.tide.tick) }

/-- An update that leaves them, stated of the record's constructor. -/
@[simp] theorem State.firm_mk {s : State} {k : Start} {tide : Tide} {host : HostIf} {ring : Ring}
    (hRole : k.manager = s.start.manager) (hA : k.bankA = s.start.bankA) (hB : k.bankB = s.start.bankB)
    (hHost : host.accepted = s.host.accepted) (hRing : ring.nodes = s.ring.nodes) (hFrame : tide.frame = s.tide.frame)
    (hTick : tide.tick = s.tide.tick) (pending : List Instr) (now bnd fresh : Nat) (out : List Emission) (power : Power)
    (clk : Clocks) (line : Line) (pool : Pool) (sched : Sched) (ports : Tab Port) (e1s : Tab E1) (cipher : Cipher)
    (evt : Events) (cnt : Tab Nat) (adm : Admission) (cistern : Cistern) (log : Logbook) (craft : Craft) :
    State.firm ⟨pending, now, bnd, fresh, out, k, power, clk, tide, line, pool, sched, ports, e1s, cipher, ring, host,
      evt, cnt, s.snap, s.cfg, adm, cistern, log, craft⟩ = s.firm := by
  simp only [State.firm, hRole, hA, hB, hHost, hRing, hFrame, hTick]

theorem Reports.firm {s t : State} (h : Reports s t) (hHost : t.host.accepted = s.host.accepted)
    (hRing : t.ring.nodes = s.ring.nodes) : t.firm = s.firm := by
  obtain ⟨_, _, _, _, _, _, rfl⟩ := h
  exact State.firm_mk rfl rfl rfl hHost hRing rfl rfl ..

@[simp] theorem State.firm_ite (c : Prop) [Decidable c] (s t : State) :
    (if c then s else t).firm = if c then s.firm else t.firm := apply_ite _ _ _ _

@[simp] theorem State.firm_fst_ite {α : Type} (c : Prop) [Decidable c] (p q : State × α) :
    (if c then p else q).1.firm = if c then p.1.firm else q.1.firm := by split <;> rfl

@[simp] theorem State.firm_snd_ite {α : Type} (c : Prop) [Decidable c] (p q : α × State) :
    (if c then p else q).2.firm = if c then p.2.firm else q.2.firm := by split <;> rfl

/-- A fold whose every step leaves them. -/
@[simp] theorem State.firm_foldl {α : Type} {f : State → α → State} (h : ∀ t x, (f t x).firm = t.firm) (l : List α)
    (s : State) : (l.foldl f s).firm = s.firm := State.foldl_same State.firm h l s

@[simp] theorem State.firm_foldr {α : Type} {f : α → State → State} (h : ∀ x t, (f x t).firm = t.firm) (l : List α)
    (s : State) : (l.foldr f s).firm = s.firm := by
  induction l with
  | nil => rfl
  | cons x l ih => rw [List.foldr_cons, h, ih]

@[simp] theorem Start.putStore_images (c : Cfg) (k : Start) : (k.putStore c).1.manager = k.manager
    ∧ (k.putStore c).1.bankA = k.bankA ∧ (k.putStore c).1.bankB = k.bankB := by
  unfold Start.putStore
  dsimp only
  split <;> exact ⟨rfl, rfl, rfl⟩

@[simp] theorem State.raise_nodes (src obj detail : Nat) (s : State) :
    (s.raise src obj detail).ring.nodes = s.ring.nodes := ((Sends.refl s.ring).raise _ _ _).nodes

@[simp] theorem State.raiseWin_nodes (n src sub obj detail : Nat) (s : State) :
    (s.raiseWin n src sub obj detail).ring.nodes = s.ring.nodes := ((Sends.refl s.ring).raiseWin _ _ _ _ _).nodes

@[simp] theorem State.count_nodes (i n : Nat) (s : State) : (s.count i n).ring.nodes = s.ring.nodes :=
  ((Sends.refl s.ring).count _ _).nodes

@[simp] theorem State.inc_nodes (i : Nat) (s : State) : (s.inc i).ring.nodes = s.ring.nodes := s.count_nodes i 1

@[simp] theorem State.dcc_nodes (n : Nat) (b : DccBody) (s : State) : (s.dcc n b).ring.nodes = s.ring.nodes :=
  ((Sends.refl s.ring).dcc n b).nodes

theorem Lasts.nodes {r k : Ring} (h : Lasts r k) : k.nodes = r.nodes := (congrArg Ring.nodes h.rest :)

theorem State.answerOn_nodes (w : Wait) (st : Status) (p : List Byte) (s : State) :
    (s.answerOn w st p).ring.nodes = s.ring.nodes := (State.answerOn_lasts w st p s).nodes

/-! ### The operations of Sys2Proof/Machine/Flash -/

@[simp] theorem State.flashWrite_firm (addr size : Nat) (b : List Byte) (s : State) :
    (s.flashWrite addr size b).firm = s.firm := by simp [State.flashWrite]

/-! ### The operations of Sys2Proof/Machine/Ops -/

@[simp] theorem State.putStore_firm (c : Cfg) (s : State) : (s.putStore c).firm = s.firm := by
  simp [State.putStore]

@[simp] theorem State.modLane_firm (l : Nat) (f : LaneState → LaneState) (s : State) :
    (s.modLane l f).firm = s.firm := by simp [State.modLane]

@[simp] theorem State.modAlloc_firm (a : Nat) (f : AllocState → AllocState) (s : State) :
    (s.modAlloc a f).firm = s.firm := by simp [State.modAlloc]

@[simp] theorem State.modGroup_firm (g : Nat) (f : GroupState → GroupState) (s : State) :
    (s.modGroup g f).firm = s.firm := by simp [State.modGroup]

@[simp] theorem State.modJoinLane_firm (l : Nat) (f : JoinLane → JoinLane) (s : State) :
    (s.modJoinLane l f).firm = s.firm := by simp [State.modJoinLane]

@[simp] theorem State.modQueue_firm (q : Nat) (f : Queue → Queue) (s : State) : (s.modQueue q f).firm = s.firm := by
  simp [State.modQueue]

@[simp] theorem State.modPort_firm (p : Nat) (f : Port → Port) (s : State) : (s.modPort p f).firm = s.firm := by
  simp [State.modPort]

@[simp] theorem State.modE1_firm (p : Nat) (f : E1 → E1) (s : State) : (s.modE1 p f).firm = s.firm := by
  simp [State.modE1]

@[simp] theorem State.modSide_firm (d : Nat) (f : RingSide → RingSide) (s : State) : (s.modSide d f).firm = s.firm := by
  simp [State.modSide]

@[simp] theorem State.modBox_firm (m : Nat) (f : Mbx → Mbx) (s : State) : (s.modBox m f).firm = s.firm :=
  State.firm_mk rfl rfl rfl rfl rfl rfl rfl ..

@[simp] theorem State.modBank_firm (slot b : Nat) (f : Bank → Bank) (s : State) :
    (s.modBank slot b f).firm = s.firm := by simp [State.modBank]

@[simp] theorem State.emit_firm (e : Emission) (s : State) : (s.emit e).firm = s.firm := by simp [State.emit]

@[simp] theorem State.setClk_firm (f : Clocks → Clocks) (s : State) : (s.setClk f).firm = s.firm := by
  simp [State.setClk]

@[simp] theorem State.syncTx_firm (l : Nat) (s : State) : (s.syncTx l).firm = s.firm := by simp [State.syncTx]

@[simp] theorem State.syncIdle_firm (s : State) : s.syncIdle.firm = s.firm := by simp [State.syncIdle]

@[simp] theorem State.gateOn_firm (mask : W32) (s : State) : (s.gateOn mask).firm = s.firm := by simp [State.gateOn]

@[simp] theorem State.gateOff_firm (mask : W32) (s : State) : (s.gateOff mask).firm = s.firm := by simp [State.gateOff]

@[simp] theorem State.dcc_firm (n : Nat) (b : DccBody) (s : State) : (s.dcc n b).firm = s.firm :=
  (State.dcc_reports s n b).firm rfl (s.dcc_nodes n b)

@[simp] theorem State.raise_firm (src obj detail : Nat) (s : State) : (s.raise src obj detail).firm = s.firm :=
  (State.raise_reports s src obj detail).firm (s.raise_accepted src obj detail) (s.raise_nodes src obj detail)

@[simp] theorem State.raiseWin_firm (n src sub obj detail : Nat) (s : State) :
    (s.raiseWin n src sub obj detail).firm = s.firm :=
  (State.raiseWin_reports s n src sub obj detail).firm
    (s.raiseWin_accepted n src sub obj detail) (s.raiseWin_nodes n src sub obj detail)

@[simp] theorem State.postHalf_firm (w : W32) (o : Nat) (s : State) : (s.postHalf w o).firm = s.firm := by
  simp [State.postHalf]

@[simp] theorem State.count_firm (i n : Nat) (s : State) : (s.count i n).firm = s.firm :=
  (State.count_reports s i n).firm (s.count_accepted i n) (s.count_nodes i n)

@[simp] theorem State.inc_firm (i : Nat) (s : State) : (s.inc i).firm = s.firm :=
  (State.inc_reports s i).firm (s.inc_accepted i) (s.inc_nodes i)

@[simp] theorem State.answer_firm (o : Nat) (q : Req) (st : Status) (p : List Byte) (s : State) :
    (s.answer o q st p).firm = s.firm :=
  (State.answer_reports s o q st p).firm (s.answer_accepted o q st p) (s.answer_nodes o q st p)

@[simp] theorem State.complete_firm (m k : Nat) (st : Status) (p : List Byte) (s : State) :
    (s.complete m k st p).firm = s.firm :=
  (State.complete_reports s m k st p).firm (s.complete_accepted m k st p) (s.complete_nodes m k st p)

@[simp] theorem State.answerOn_firm (w : Wait) (st : Status) (p : List Byte) (s : State) :
    (s.answerOn w st p).firm = s.firm :=
  (State.answerOn_reports s w st p).firm (s.answerOn_accepted w st p) (s.answerOn_nodes w st p)

/-! ### The operations of Sys2Proof/Machine/Frame -/

@[simp] theorem State.idleChange_firm (s : State) : s.idleChange.firm = s.firm := by
  unfold State.idleChange
  split <;> simp

@[simp] theorem State.laneIdleCheck_firm (s : State) (l : Nat) : (s.laneIdleCheck l).firm = s.firm := by
  simp [State.laneIdleCheck]

@[simp] theorem State.sendTs0_firm (s : State) (p : Nat) : (s.sendTs0 p).firm = s.firm := by simp [State.sendTs0]

@[simp] theorem State.e1Send_firm (p : Nat) (frame : List Byte) (s : State) : (s.e1Send p frame).firm = s.firm := by
  simp [State.e1Send]

@[simp] theorem State.e1Boundary_firm (s : State) (p : Nat) : (s.e1Boundary p).firm = s.firm := by
  simp only [State.e1Boundary]
  split
  · simp
  · split <;> simp

@[simp] theorem State.reoffset_firm {f : Tide → Tide} (hFrame : ∀ x, (f x).frame = x.frame)
    (hTick : ∀ x, (f x).tick = x.tick) (s : State) : (s.reoffset f).firm = s.firm := by
  simp [State.reoffset, hFrame, hTick]

@[simp] theorem State.timingTake_firm (s : State) : s.timingTake.firm = s.firm := by
  unfold State.timingTake
  split <;> simp

@[simp] theorem State.refresh_firm (s : State) : s.refresh.firm = s.firm := by simp [State.refresh]

@[simp] theorem State.boundary_firm (s : State) : s.boundary.firm = s.firm := by simp [State.boundary]

@[simp] theorem State.muxRequest_firm (key : Nat) (toB : Bool) (s : State) : (s.muxRequest key toB).firm = s.firm := by
  simp [State.muxRequest]

@[simp] theorem State.recheck_firm (s : State) : s.recheck.firm = s.firm := by simp [State.recheck]

end Sys2Proof.Machine
end

section
/-!
# What a change of the blocks leaves
-/
namespace Sys2Proof.Machine

-- One theorem after another: the stacks of many that wait at once would exceed the memory of the check.
set_option Elab.async false

/-! ### The operations of Sys2Proof/Machine/Packets -/

@[simp] theorem State.qthPost_firm (entry : W32) (obj : Nat) (s : State) : (s.qthPost entry obj).firm = s.firm := by
  simp [State.qthPost]

@[simp] theorem State.threshold_firm (q : Nat) (s : State) : (s.threshold q).firm = s.firm := by simp [State.threshold]

@[simp] theorem State.poolLow_firm (s : State) : s.poolLow.firm = s.firm := by simp [State.poolLow]

@[simp] theorem State.takeQueued_firm (n : Nat) (s : State) : (s.takeQueued n).firm = s.firm := by
  simp [State.takeQueued]

@[simp] theorem State.freeQueued_firm (n : Nat) (s : State) : (s.freeQueued n).firm = s.firm := by
  simp [State.freeQueued]

@[simp] theorem State.queueDrop_firm (q n : Nat) (s : State) : (s.queueDrop q n).firm = s.firm := by
  simp [State.queueDrop]

@[simp] theorem State.link_firm (q : Nat) (p : Packet) (s : State) : (s.link q p).firm = s.firm := by simp [State.link]

@[simp] theorem State.freePacket_firm (q : Nat) (p : Packet) (s : State) : (s.freePacket q p).firm = s.firm := by
  simp [State.freePacket]

@[simp] theorem State.removeAll_firm (q : Nat) (gone keep : List Packet) (s : State) :
    (s.removeAll q gone keep).firm = s.firm := by simp [State.removeAll]

@[simp] theorem State.mapWriter_firm (w : Nat) (f : Packet → Packet) (s : State) : (s.mapWriter w f).firm = s.firm := by
  simp [State.mapWriter]

@[simp] theorem State.endWrite_firm (w : Nat) (bad trunc : Bool) (s : State) :
    (s.endWrite w bad trunc).firm = s.firm := by
  unfold State.endWrite
  split <;> simp

@[simp] theorem State.dropWrite_firm (w q : Nat) (p : Packet) (s : State) : (s.dropWrite w q p).firm = s.firm := by
  simp [State.dropWrite]

@[simp] theorem State.spoilWrite_firm (w : Nat) (s : State) : (s.spoilWrite w).firm = s.firm := by
  unfold State.spoilWrite
  split <;> simp

@[simp] theorem State.setRx_firm (p : Nat) (fin : Bool) (x : RxFrame) (s : State) :
    (s.setRx p fin x).firm = s.firm := by simp [State.setRx]

@[simp] theorem State.loseRx_firm (p : Nat) (fin : Bool) (s : State) : (s.loseRx p fin).firm = s.firm := by
  simp [State.loseRx]

@[simp] theorem State.flushNow_firm (q n : Nat) (s : State) : (s.flushNow q n).firm = s.firm := by simp [State.flushNow]

@[simp] theorem State.flushPoint_firm (q : Nat) (s : State) : (s.flushPoint q).firm = s.firm := by
  simp [State.flushPoint]

@[simp] theorem State.flushWaiting_firm (q : Nat) (s : State) : (s.flushWaiting q).firm = s.firm := by
  unfold State.flushWaiting
  split <;> simp

/-! ### The operations of Sys2Proof/Machine/E1 -/

@[simp] theorem State.e1Event_firm (p k detail : Nat) (s : State) : (s.e1Event p k detail).firm = s.firm := by
  simp [State.e1Event]

@[simp] theorem State.slipRestart_firm (p : Nat) (s : State) : (s.slipRestart p).firm = s.firm := by
  simp [State.slipRestart]

@[simp] theorem State.e1Slip_firm (p i : Nat) (s : State) : (s.e1Slip p i).firm = s.firm := by simp [State.e1Slip]

@[simp] theorem State.cesRestart_firm (p : Nat) (s : State) : (s.cesRestart p).firm = s.firm := by
  simp [State.cesRestart]

@[simp] theorem State.cesStop_firm (p : Nat) (s : State) : (s.cesStop p).firm = s.firm := by simp [State.cesStop]

@[simp] theorem State.cesRestore_firm (p : Nat) (s : State) : (s.cesRestore p).firm = s.firm := by
  simp [State.cesRestore]

/-! ### The operations of Sys2Proof/Machine/Sched -/

@[simp] theorem State.modGate_firm (p : Nat) (f : Gate → Gate) (s : State) : (s.modGate p f).firm = s.firm := by
  simp [State.modGate]

@[simp] theorem State.shape_firm (q : Nat) (s : State) : (s.shape q).firm = s.firm := by
  unfold State.shape
  split <;> simp

/-! ### The operations of Sys2Proof/Machine/Ports -/

@[simp] theorem State.spEvent_firm (p k detail : Nat) (s : State) : (s.spEvent p k detail).firm = s.firm := by
  simp [State.spEvent]

@[simp] theorem State.txDone_firm (p : Nat) (t : TxFrame) (s : State) : (s.txDone p t).firm = s.firm := by
  simp [State.txDone]

@[simp] theorem State.endedEarly_firm (w : Nat) (s : State) : (s.endedEarly w).firm = s.firm := by
  simp [State.endedEarly]

@[simp] theorem State.cutTx_firm (p : Nat) (own : Bool) (s : State) : (s.cutTx p own).firm = s.firm := by
  unfold State.cutTx
  split <;> simp

@[simp] theorem State.cutRx_firm (p : Nat) (s : State) : (s.cutRx p).firm = s.firm := by
  simp only [State.cutRx]
  split
  · simp
  · split <;> simp

@[simp] theorem State.linkDown_firm (p : Nat) (s : State) : (s.linkDown p).firm = s.firm := by simp [State.linkDown]

/-! ### The operations of Sys2Proof/Machine/Cipher -/

@[simp] theorem State.putVault_firm (v : Nat) (k : Option (BitVec 128)) (s : State) :
    (s.putVault v k).firm = s.firm := by simp [State.putVault]

@[simp] theorem State.putSession_firm (l : Nat) (k : Option (BitVec 128)) (s : State) :
    (s.putSession l k).firm = s.firm := by simp [State.putSession]

@[simp] theorem State.underive_firm (l : Nat) (s : State) : (s.underive l).firm = s.firm := by simp [State.underive]

@[simp] theorem State.dispatch_firm (n : Nat) (s : State) : (s.dispatch n).firm = s.firm := by simp [State.dispatch]

/-! ### The operations of Sys2Proof/Machine/Caravan -/

@[simp] theorem State.actEvent_firm (l k detail : Nat) (s : State) : (s.actEvent l k detail).firm = s.firm := by
  simp [State.actEvent]

@[simp] theorem State.debitUp_firm (q tier n : Nat) (s : State) : (s.debitUp q tier n).firm = s.firm := by
  simp [State.debitUp]

@[simp] theorem State.refundUp_firm (q tier n : Nat) (s : State) : (s.refundUp q tier n).firm = s.firm := by
  simp [State.refundUp]

@[simp] theorem State.dropOver_firm (q : Nat) (l : List Packet) (s : State) : (s.dropOver q l).firm = s.firm := by
  induction l generalizing s with
  | nil => rfl
  | cons p t ih => simp [State.dropOver, ih]

@[simp] theorem State.dropOvers_firm (a : Nat) (s : State) : (s.dropOvers a).firm = s.firm := by simp [State.dropOvers]

@[simp] theorem State.chargeDrr_firm (a ptr : Nat) (deltas : List (Nat × Int)) (s : State) :
    (s.chargeDrr a ptr deltas).firm = s.firm := by simp [State.chargeDrr]

@[simp] theorem State.toQueued_firm (n : Nat) (s : State) : (s.toQueued n).firm = s.firm := by simp [State.toQueued]

@[simp] theorem State.popHead_firm (q : Nat) (s : State) : (s.popHead q).firm = s.firm := by simp [State.popHead]

@[simp] theorem State.pushHead_firm (q : Nat) (p : Packet) (s : State) : (s.pushHead q p).firm = s.firm := by
  simp [State.pushHead]

@[simp] theorem State.raWindow_firm (a : Nat) (s : State) : (s.raWindow a).firm = s.firm := by simp [State.raWindow]

@[simp] theorem State.unstage_firm (a : Nat) (l : List Staged) (s : State) : (s.unstage a l).firm = s.firm := by
  simp [State.unstage]

@[simp] theorem State.rewindRaw_firm (a : Nat) (gone : Staged → Bool) (s : State) :
    (s.rewindRaw a gone).firm = s.firm := by simp [State.rewindRaw]

@[simp] theorem State.rewindIf_firm (a : Nat) (gone : Staged → Bool) (s : State) :
    (s.rewindIf a gone).firm = s.firm := by simp [State.rewindIf]

@[simp] theorem State.rewindAll_firm (a : Nat) (s : State) : (s.rewindAll a).firm = s.firm := by simp [State.rewindAll]

@[simp] theorem State.keyDrop_firm (l q : Nat) (p : Packet) (s : State) : (s.keyDrop l q p).firm = s.firm := by
  simp [State.keyDrop]

@[simp] theorem State.takeSeq_firm (g : Option Nat) (s : State) : (s.takeSeq g).2.firm = s.firm := by
  unfold State.takeSeq
  split <;> simp

@[simp] theorem Fill.bind_firm (grp : Option Nat) (k : Bind) (n : Nat) (p : Packet) (f : Fill) :
    (f.bind grp k n p).st.firm = f.st.firm := by simp [Fill.bind]

@[simp] theorem Fill.keepRest_firm (a : Nat) (k : Bind) (n : Nat) (p : Packet) (f : Fill) :
    (f.keepRest a k n p).st.firm = f.st.firm := by
  unfold Fill.keepRest
  split <;> simp

@[simp] theorem Fill.rest_firm (a : Nat) (grp : Option Nat) (f : Fill) : (f.rest a grp).st.firm = f.st.firm := by
  unfold Fill.rest
  split <;> simp

@[simp] theorem Fill.number_firm (p : Packet) (f : Fill) : (f.number p).2.st.firm = f.st.firm := by
  simp [Fill.number]

@[simp] theorem Fill.staged_firm (a l : Nat) (grp : Option Nat) (xs : List Staged) (f : Fill) :
    (f.staged a l grp xs).st.firm = f.st.firm := by
  induction xs generalizing f with
  | nil => rfl
  | cons x t ih =>
    simp only [Fill.staged]
    split
    · rfl
    · split <;> simp [ih]

@[simp] theorem Fill.sched_firm (a l : Nat) (grp : Option Nat) (n : Nat) (f : Fill) :
    (f.sched a l grp n).st.firm = f.st.firm := by
  induction n generalizing f with
  | zero => rfl
  | succ n ih =>
    simp only [Fill.sched]
    split
    · rfl
    · split
      · simp
      · split
        · simp
        · split
          · simp
          · split <;> simp [ih]

@[simp] theorem Fill.index_firm (a l : Nat) (f : Fill) : (f.index a l).st.firm = f.st.firm := by
  unfold Fill.index
  split <;> simp

@[simp] theorem Fill.bindOmci_firm (l n : Nat) (p : Packet) (f : Fill) : (f.bindOmci l n p).st.firm = f.st.firm := by
  simp [Fill.bindOmci]

@[simp] theorem Fill.omciRest_firm (l : Nat) (f : Fill) : (f.omciRest l).st.firm = f.st.firm := by
  unfold Fill.omciRest
  split <;> simp

@[simp] theorem State.unbindOmci_firm (l : Nat) (i : BurstItem) (s : State) : (s.unbindOmci l i).firm = s.firm := by
  simp [State.unbindOmci]

@[simp] theorem State.unbindUp_firm (a : Nat) (i : BurstItem) (s : State) : (s.unbindUp a i).firm = s.firm := by
  simp [State.unbindUp]

@[simp] theorem State.unbind_firm (c : Caravan) (i : BurstItem) (s : State) : (s.unbind c i).firm = s.firm := by
  unfold State.unbind
  split <;> simp

@[simp] theorem State.unwind_firm (c : Caravan) (s : State) : (s.unwind c).firm = s.firm := by
  simp only [State.unwind]
  split <;> simp

@[simp] theorem State.cancel_firm (which : Caravan → Bool) (s : State) : (s.cancel which).firm = s.firm := by
  simp [State.cancel]

@[simp] theorem State.cancelLane_firm (l : Nat) (s : State) : (s.cancelLane l).firm = s.firm := by
  simp [State.cancelLane]

@[simp] theorem State.dropRest_firm (a : Nat) (s : State) : (s.dropRest a).firm = s.firm := by
  unfold State.dropRest
  split <;> simp

@[simp] theorem State.leaveIndex_firm (a l : Nat) (s : State) : (s.leaveIndex a l).firm = s.firm := by
  simp [State.leaveIndex]

@[simp] theorem State.dropOmci_firm (l : Nat) (s : State) : (s.dropOmci l).firm = s.firm := by
  unfold State.dropOmci
  split <;> simp

/-! ### The operations of Sys2Proof/Machine/Bonded -/

@[simp] theorem State.putCtrl_firm (m : CtrlMsg) (s : State) : (s.putCtrl m).firm = s.firm := by
  unfold State.putCtrl
  split <;> simp

@[simp] theorem State.sendCtrl_firm (g : Nat) (b : CtrlBody) (s : State) : (s.sendCtrl g b).firm = s.firm := by
  simp [State.sendCtrl]

@[simp] theorem State.sendGroupState_firm (g : Nat) (s : State) : (s.sendGroupState g).firm = s.firm := by
  simp [State.sendGroupState]

@[simp] theorem State.leaveGroup_firm (l reason g : Nat) (s : State) : (s.leaveGroup l reason g).firm = s.firm := by
  simp [State.leaveGroup]

@[simp] theorem State.groupDown_firm (l g : Nat) (s : State) : (s.groupDown l g).firm = s.firm := by
  simp [State.groupDown]

@[simp] theorem State.laneLeave_firm (l reason : Nat) (s : State) : (s.laneLeave l reason).firm = s.firm := by
  simp [State.laneLeave]

@[simp] theorem State.announceLane_firm (l : Nat) (s : State) : (s.announceLane l).firm = s.firm := by
  simp [State.announceLane]

@[simp] theorem State.freeFrags_firm (g : Nat) (s : State) : (s.freeFrags g).firm = s.firm := by simp [State.freeFrags]

/-! ### The operations of Sys2Proof/Machine/Line -/

@[simp] theorem State.setAct_firm (l : Nat) (a : Act) (s : State) : (s.setAct l a).firm = s.firm := by
  simp [State.setAct]

@[simp] theorem State.forgetLane_firm (l : Nat) (s : State) : (s.forgetLane l).firm = s.firm := by
  simp [State.forgetLane]

@[simp] theorem State.dropParts_firm (l : Nat) (s : State) : (s.dropParts l).firm = s.firm := by simp [State.dropParts]

/-! ### The operations of Sys2Proof/Machine/Switch -/

@[simp] theorem State.laneStart_firm (l : Nat) (s : State) : (s.laneStart l).firm = s.firm := by simp [State.laneStart]

@[simp] theorem State.laneStop_firm (l : Nat) (s : State) : (s.laneStop l).firm = s.firm := by simp [State.laneStop]

@[simp] theorem State.laneRerate_firm (l : Nat) (s : State) : (s.laneRerate l).firm = s.firm := by
  simp [State.laneRerate]

@[simp] theorem State.laneSwitch_firm (old : Cfg) (s : State) (l : Nat) : (s.laneSwitch old l).firm = s.firm := by
  simp [State.laneSwitch]

@[simp] theorem State.membersLeave_firm (new : Cfg) (s : State) : (s.membersLeave new).firm = s.firm := by
  simp [State.membersLeave]

@[simp] theorem State.groupsSwitch_firm (old : Cfg) (s : State) : (s.groupsSwitch old).firm = s.firm := by
  simp [State.groupsSwitch]

@[simp] theorem State.allocsSwitch_firm (old : Cfg) (s : State) : (s.allocsSwitch old).firm = s.firm := by
  simp [State.allocsSwitch]

@[simp] theorem State.rearm_firm (l : Nat) (s : State) : (s.rearm l).firm = s.firm := by simp [State.rearm]

@[simp] theorem State.portSwitch_firm (old : Cfg) (s : State) (p : Nat) : (s.portSwitch old p).firm = s.firm := by
  simp [State.portSwitch]

@[simp] theorem State.shaperSwitch_firm (old : Cfg) (q : Nat) (s : State) : (s.shaperSwitch old q).firm = s.firm := by
  simp [State.shaperSwitch]

@[simp] theorem State.policerSwitch_firm (old : Cfg) (k : Nat) (s : State) : (s.policerSwitch old k).firm = s.firm := by
  simp [State.policerSwitch]

@[simp] theorem State.queueSwitch_firm (old : Cfg) (q : Nat) (s : State) : (s.queueSwitch old q).firm = s.firm := by
  simp [State.queueSwitch]

@[simp] theorem State.disableUp_firm (old : Cfg) (q : Nat) (s : State) : (s.disableUp old q).firm = s.firm := by
  simp [State.disableUp]

@[simp] theorem State.queuesSwitch_firm (old : Cfg) (s : State) : (s.queuesSwitch old).firm = s.firm := by
  simp [State.queuesSwitch]

@[simp] theorem State.gateSwitch_firm (o : Nat) (g : GateCfg) (s : State) : (s.gateSwitch o g).firm = s.firm := by
  simp [State.gateSwitch]

@[simp] theorem State.e1Switch_firm (old : Cfg) (s : State) (p : Nat) : (s.e1Switch old p).firm = s.firm := by
  simp [State.e1Switch]

@[simp] theorem State.cesSwitch_firm (old : Cfg) (s : State) (p : Nat) : (s.cesSwitch old p).firm = s.firm := by
  simp [State.cesSwitch]

@[simp] theorem State.tideBefore_firm (s : State) : s.tideBefore.firm = s.firm := by simp [State.tideBefore]

@[simp] theorem State.tideAfter_firm (old : Cfg) (s : State) : (s.tideAfter old).firm = s.firm := by
  simp [State.tideAfter]

@[simp] theorem State.reown_firm (old : Cfg) (s : State) : (s.reown old).firm = s.firm := by simp [State.reown]

@[simp] theorem State.gateUsed_firm (s : State) : s.gateUsed.firm = s.firm := by simp [State.gateUsed]

@[simp] theorem State.gateUnused_firm (old : Cfg) (s : State) : (s.gateUnused old).firm = s.firm := by
  simp [State.gateUnused]

@[simp] theorem State.settingAct_firm (x : Setting) (s : State) : (s.settingAct x).firm = s.firm := by
  unfold State.settingAct
  split <;> simp

@[simp] theorem State.follow_firm (old : Cfg) (s : State) : (s.follow old).firm = s.firm := by simp [State.follow]

/-! ### The operations of Sys2Proof/Machine/Start -/

@[simp] theorem State.setStart_firm {f : Start → Start} (hRole : ∀ k, (f k).manager = k.manager) (hA : ∀ k, (f k).bankA = k.bankA)
    (hB : ∀ k, (f k).bankB = k.bankB) (s : State) : (s.setStart f).firm = s.firm := by
  simp [State.setStart, hRole, hA, hB]

@[simp] theorem State.endDiag_firm (o : Nat) (s : State) : (s.endDiag o).firm = s.firm := by
  unfold State.endDiag
  split <;> simp

@[simp] theorem State.drawWords_firm (n : Nat) (s : State) : (s.drawWords n).2.firm = s.firm := by
  simp [State.drawWords]

/-! ### The operations of Sys2Proof/Machine/Session -/

@[simp] theorem State.relayParts_firm (staged : List StagedCmd) (frame : Nat) (s : State) :
    (s.relayParts staged frame).firm = s.firm := by simp [State.relayParts]

/-! ### The operations of Sys2Proof/Machine/Maint -/

@[simp] theorem State.dropTests_firm (old : Cfg) (s : State) : (s.dropTests old).firm = s.firm := by
  refine State.firm_foldl (fun t x => ?_) _ s
  split
  · rfl
  · simp

end Sys2Proof.Machine
end

section
/-!
# Transactions (R643, R645 to R647, R674, R675)
-/
namespace Sys2Proof.Machine

-- One theorem after another: the stacks of many that wait at once would exceed the memory of the check.
set_option Elab.async false

variable {s : State} {q : Req}

/-! ### The configuration store (R886) -/

theorem Start.putStore_stored (c : Cfg) (k : Start) : (k.putStore c).1.stored.isSome = true := by
  have hUsed (j : Start) (h : j.store0.good = true ∨ j.store1.good = true) : j.storeUsed.isSome = true := by
    unfold Start.storeUsed
    rcases h with h | h
    · rw [h]
      cases j.store1.good <;> rfl
    · rw [h]
      cases j.store0.good <;> rfl
  rw [Start.stored, Option.isSome_map]
  unfold Start.putStore
  dsimp only
  split
  · exact hUsed _ (.inr rfl)
  · exact hUsed _ (.inl rfl)

theorem State.putStore_stored (c : Cfg) (h : s.start.hasFlash = true) : (s.putStore c).start.stored.isSome = true := by
  unfold State.putStore
  rw [h]
  exact Start.putStore_stored c s.start

/-! ### A transaction opens and ends -/

theorem txnOpenBody_go (h : q.payload = []) (s : State) : txnOpenBody q s = .go (fun s =>
    if (s.box q.mbx.val).txn.isSome then s.reply 0x0200 q (.ignored 2)
    else (s.putTxn q.mbx.val (some { staged := [], bytes := 0, lastCmd := s.now })).reply 0x0200 q .done) :=
  if_neg (not_not_intro h)

theorem txnAbortBody_go (h : q.payload = []) (s : State) : txnAbortBody q s = .go (fun s =>
    if (s.box q.mbx.val).txn.isNone then s.reply 0x0202 q (.ignored 4)
    else (s.putTxn q.mbx.val none).reply 0x0202 q .done) := if_neg (not_not_intro h)

theorem txnOpen_completes (hPay : q.payload = []) (h : s.admits 0x0200 q) : completesWith (.txnOpen q) s (fun t =>
    (if (s.box q.mbx.val).txn.isSome then t.answers 0x0200 q 3 [] ∧ (t.box q.mbx.val).txn = (s.box q.mbx.val).txn
      else t.answers 0x0200 q 0 [] ∧ (t.box q.mbx.val).txn = some { staged := [], bytes := 0, lastCmd := s.now })
    ∧ t = s.reporting t) := by
  have hManager := State.admits_isManager h
  refine ⟨_, (congrArg Host.Outcome.next (State.serve_go h (txnOpenBody_go hPay _)) :), ?_⟩
  rw [State.dropSeg_box, State.dropSeg_now]
  split
  · refine ⟨⟨State.answer_answers hManager _ _ _ _, ?_⟩, ((s.dropSeg_reports _ q).trans (State.answer_reports _ _ _ _ _)).reporting⟩
    rw [State.reply, State.answer_txn hManager, State.dropSeg_box]
  · obtain ⟨hAnswers, hOpen, hFrame⟩ := State.modTxn_answer hManager 0x0200 q .done []
      (some { staged := [], bytes := 0, lastCmd := s.now })
    exact ⟨⟨hAnswers, hOpen⟩, ((s.dropSeg_reports _ q).trans hFrame).reporting⟩

theorem txnAbort_completes (hPay : q.payload = []) (h : s.admits 0x0202 q) : completesWith (.txnAbort q) s (fun t =>
    (if (s.box q.mbx.val).txn.isSome then t.answers 0x0202 q 0 [] else t.answers 0x0202 q 3 [])
    ∧ (t.box q.mbx.val).txn = none ∧ t = s.reporting t) := by
  have hManager := State.admits_isManager h
  refine ⟨_, (congrArg Host.Outcome.next (State.serve_go h (txnAbortBody_go hPay _)) :), ?_⟩
  rw [State.dropSeg_box]
  cases hTxn : (s.box q.mbx.val).txn with
  | none =>
    refine ⟨State.answer_answers hManager 0x0202 q (.ignored 4) [], ?_, ((s.dropSeg_reports _ q).trans (State.answer_reports _ _ _ _ _)).reporting⟩
    exact (State.answer_txn hManager _ _ _ _).trans ((congrArg Mbx.txn (s.dropSeg_box _ q _)).trans hTxn)
  | some u =>
    obtain ⟨hAnswers, hEnded, hFrame⟩ := State.modTxn_answer hManager 0x0202 q .done [] none
    exact ⟨hAnswers, hEnded, ((s.dropSeg_reports _ q).trans hFrame).reporting⟩

/-! ### A commit (R396 to R406, R645, R674) -/

/-- What TXN_COMMIT does to a mailbox. -/
def State.commit (q : Req) (s : State) : State :=
  match (s.box q.mbx.val).txn with
  | none => s.reply 0x0201 q (.ignored 1)
  | some t =>
    match s.commitFail q.mbx.val t.staged with
    | some (f, n) => ((s.putTxn q.mbx.val (some { t with lastCmd := s.now })).answer 0x0201 q .refused
        (refusal f n)).raise 302 f.object f.reason
    | none => (s.accept q.mbx.val t.staged).answer 0x0201 q .accepted (leBytes 8 s.switchFrame)

theorem txnCommitBody_go (h : q.payload = []) (s : State) : txnCommitBody q s = .go (State.commit q) :=
  if_neg (not_not_intro h)

theorem exec_txnCommit (hPay : q.payload = []) (h : s.admits 0x0201 q) :
    exec (.txnCommit q) s = .next ((s.dropSeg 0x0201 q).commit q) :=
  congrArg Host.Outcome.next (State.serve_go h (txnCommitBody_go hPay _))

theorem State.dropSeg_commitFail (opc : Nat) (q : Req) (s : State) (m : Nat) (l : List StagedCmd) :
    (s.dropSeg opc q).commitFail m l = s.commitFail m l := State.dropSeg_same (fun t => t.commitFail m l) (fun _ => rfl) opc q s

theorem txnCommit_without (hPay : q.payload = []) (h : s.admits 0x0201 q) (hTxn : (s.box q.mbx.val).txn = none) :
    completesWith (.txnCommit q) s (fun t => t.answers 0x0201 q 3 [] ∧ t = s.reporting t) := by
  have hNone : ((s.dropSeg 0x0201 q).box q.mbx.val).txn = none := (congrArg Mbx.txn (s.dropSeg_box _ q _)).trans hTxn
  refine ⟨_, exec_txnCommit hPay h, ?_⟩
  simp only [State.commit, hNone]
  exact ⟨State.answer_answers (State.admits_isManager h) 0x0201 q (.ignored 1) [],
    ((s.dropSeg_reports _ q).trans (State.answer_reports _ _ _ _ _)).reporting⟩

theorem txnCommit_refused {u : Txn} {f : Fail} {n : Nat} (hPay : q.payload = []) (h : s.admits 0x0201 q)
    (hTxn : (s.box q.mbx.val).txn = some u) (hFail : s.commitFail q.mbx.val u.staged = some (f, n)) :
    completesWith (.txnCommit q) s (fun t =>
      t.answers 0x0201 q 2 (refusal f n) ∧ (t.box q.mbx.val).txn = some { u with lastCmd := s.now } ∧ t.pends 302
      ∧ t.host.accepted = s.host.accepted ∧ t = s.reporting t) := by
  have hSome : ((s.dropSeg 0x0201 q).box q.mbx.val).txn = some u := (congrArg Mbx.txn (s.dropSeg_box _ q _)).trans hTxn
  refine ⟨_, exec_txnCommit hPay h, ?_⟩
  simp only [State.commit, hSome, State.dropSeg_commitFail, hFail, State.dropSeg_now]
  obtain ⟨hAnswers, hKept, hFrame⟩ := State.modTxn_answer (State.admits_isManager h) 0x0201 q .refused (refusal f n)
    (some { u with lastCmd := s.now })
  have hTold := (Steady.refl (((s.dropSeg 0x0201 q).putTxn q.mbx.val (some { u with lastCmd := s.now })).answer 0x0201 q
    .refused (refusal f n)).host).raise 302 f.object f.reason
  refine ⟨State.answers_of_steady hTold hAnswers, (congrArg Mbx.txn (hTold.core q.mbx.val) :).trans hKept,
    State.raise_pends _ _ _ _, ?_, (((s.dropSeg_reports _ q).trans hFrame).trans (State.raise_reports _ _ _ _)).reporting⟩
  rw [State.raise_accepted, State.answer_accepted]
  exact (s.dropSeg_steady _ q).accepted

/-! ### A commit that is accepted (R645, R646, R886) -/

/-- What an accepted commit touches beside reporting. -/
def acceptParts : List Part := .fresh :: .start :: reportParts

theorem State.relayParts_reports (l : List StagedCmd) (n : Nat) (s : State) : Reports s (s.relayParts l n) := by
  unfold State.relayParts
  refine Reports.foldl _ (fun t k => ?_) _ s
  exact (Reports.foldl _ (fun u x => State.dcc_reports u _ _) _ t).trans (State.dcc_reports _ _ _)

theorem State.relayParts_host (l : List StagedCmd) (n : Nat) (s : State) : (s.relayParts l n).host = s.host := by
  unfold State.relayParts
  refine State.foldl_same (fun t => t.host) (fun t k => ?_) _ s
  rw [State.dcc_host]
  exact State.foldl_same (fun u => u.host) (fun u x => State.dcc_host u _ _) _ t

/-- `s` with one more accepted commit. -/
def State.accepting (m : Nat) (l : List StagedCmd) (s : State) : State :=
  { s with host := { s.host with accepted := s.host.accepted ++ [{ mbx := m, frame := s.switchFrame, staged := l }] } }

/-- The same, stored, its transaction ended. -/
def State.stored (m : Nat) (l : List StagedCmd) (s : State) : State :=
  ((s.accepting m l).putStore (s.accepting m l).storedCfg).modBox m (fun b =>
    { b with txn := none, lastSwitch := s.switchFrame })

theorem State.accept_eq (m : Nat) (l : List StagedCmd) (s : State) :
    s.accept m l = (s.stored m l).relayParts l s.switchFrame := rfl

section
variable (m : Nat) (l : List StagedCmd) (s : State)

theorem State.accept_host : (s.accept m l).host = (s.stored m l).host := State.relayParts_host _ _ _

theorem State.stored_accepted : (s.stored m l).host.accepted =
    s.host.accepted ++ [{ mbx := m, frame := s.switchFrame, staged := l }] :=
  congrArg HostIf.accepted ((State.putStore_within _ _).host rfl)

theorem State.accept_box : (s.accept m l).box m = (s.stored m l).box m :=
  congrArg (fun h : HostIf => h.box m) (State.accept_host m l s)

theorem State.accept_txn : ((s.accept m l).box m).txn = none :=
  (congrArg Mbx.txn (State.accept_box m l s)).trans (congrArg Mbx.txn (State.box_modBox_same m _ _))

theorem State.accept_lastSwitch : ((s.accept m l).box m).lastSwitch = s.switchFrame :=
  (congrArg Mbx.lastSwitch (State.accept_box m l s)).trans (congrArg Mbx.lastSwitch (State.box_modBox_same m _ _))

theorem State.accept_start : (s.accept m l).start = ((s.accepting m l).putStore (s.accepting m l).storedCfg).start :=
  (State.relayParts_reports _ _ _).start

theorem State.accept_isManager : (s.accept m l).isManager = s.isManager := by
  rw [State.isManager, State.accept_start, State.isManager]
  exact congrArg Firm.manager (State.putStore_firm _ _)

theorem State.accept_within : Within acceptParts s (s.accept m l) := by
  have hHeld : Within acceptParts s (s.accepting m l) := within_of_eq_merge rfl
  have hBox (t : State) (f : Mbx → Mbx) : Within acceptParts t (t.modBox m f) := within_of_eq_merge rfl
  exact ((hHeld.trans ((State.putStore_within _ _).mono rfl)).trans (hBox _ _)).trans ((State.relayParts_reports _ _ _).within.mono rfl)

end

theorem txnCommit_accepted {u : Txn} (hPay : q.payload = []) (h : s.admits 0x0201 q) (hTxn : (s.box q.mbx.val).txn = some u)
    (hFail : s.commitFail q.mbx.val u.staged = none) : completesWith (.txnCommit q) s (fun t =>
      t.answers 0x0201 q 1 (leBytes 8 s.switchFrame) ∧ (t.box q.mbx.val).txn = none
      ∧ (t.box q.mbx.val).lastSwitch = s.switchFrame
      ∧ t.host.accepted = s.host.accepted ++ [{ mbx := q.mbx.val, frame := s.switchFrame, staged := u.staged }]
      ∧ (s.start.hasFlash = true → t.start.stored.isSome = true) ∧ t.start.stores s.start
      ∧ t = { s.reporting t with fresh := t.fresh, start := t.start }) := by
  have hSome : ((s.dropSeg 0x0201 q).box q.mbx.val).txn = some u := (congrArg Mbx.txn (s.dropSeg_box _ q _)).trans hTxn
  have hFrame : (s.dropSeg 0x0201 q).switchFrame = s.switchFrame :=
    State.dropSeg_same State.switchFrame (fun _ => rfl) _ _ s
  have hManager : ((s.dropSeg 0x0201 q).accept q.mbx.val u.staged).isManager = true :=
    (State.accept_isManager _ _ _).trans (State.admits_isManager h)
  have hHost := State.accept_host q.mbx.val u.staged (s.dropSeg 0x0201 q)
  have hStart := State.accept_start q.mbx.val u.staged (s.dropSeg 0x0201 q)
  have hWithin := (s.dropSeg_reports 0x0201 q).within.mono (D := acceptParts) rfl |>.trans
    (State.accept_within q.mbx.val u.staged (s.dropSeg 0x0201 q))
  refine ⟨_, exec_txnCommit hPay h, ?_⟩
  simp only [State.commit, hSome, State.dropSeg_commitFail, hFail]
  have hAnswer := State.answer_reports ((s.dropSeg 0x0201 q).accept q.mbx.val u.staged) 0x0201 q .accepted
    (leBytes 8 (s.dropSeg 0x0201 q).switchFrame)
  have hAnswers := State.answer_answers hManager 0x0201 q .accepted (leBytes 8 (s.dropSeg 0x0201 q).switchFrame)
  have hTxnKept := State.answer_txn hManager 0x0201 q .accepted (leBytes 8 (s.dropSeg 0x0201 q).switchFrame)
  have hLast := State.answer_lastSwitch hManager 0x0201 q .accepted (leBytes 8 (s.dropSeg 0x0201 q).switchFrame)
  rw [State.accept_txn] at hTxnKept
  rw [State.accept_lastSwitch] at hLast
  rw [hFrame] at hAnswers hLast hTxnKept hAnswer ⊢
  refine ⟨hAnswers, hTxnKept, hLast, ?_, fun hFlash => ?_, ?_, (hWithin.trans (hAnswer.within.mono rfl)).eq_merge⟩
  · rw [State.answer_accepted, hHost, State.stored_accepted, hFrame, (s.dropSeg_steady _ q).accepted]
  · rw [hAnswer.start, hStart]
    exact State.putStore_stored _ (by rw [← hFlash]; exact congrArg Start.hasFlash (s.dropSeg_start _ q))
  · rw [hAnswer.start, hStart, ← s.dropSeg_start 0x0201 q]
    exact State.putStore_stores _ _

end Sys2Proof.Machine
end

section
/-!
# The switch-over of a commit (R644, R645, R663, R886)
-/
namespace Sys2Proof.Machine

-- One theorem after another: the stacks of many that wait at once would exceed the memory of the check.
set_option Elab.async false

/-! ### The commit whose frame comes first -/

/-- The earlier of two commits, the first of two for one frame. -/
def Accepted.earlier (o : Option Accepted) (a : Accepted) : Option Accepted :=
  match o with
  | none => some a
  | some b => if a.frame < b.frame then some a else some b

theorem Accepted.earlier_some {o : Option Accepted} {a b : Accepted} (h : Accepted.earlier o a = some b) :
    (b = a ∨ o = some b) ∧ b.frame ≤ a.frame ∧ ∀ c, o = some c → b.frame ≤ c.frame := by
  cases o with
  | none =>
    obtain rfl := Option.some.inj h
    exact ⟨.inl rfl, le_refl _, nofun⟩
  | some c =>
    unfold Accepted.earlier at h
    dsimp only at h
    split at h
    next hLess =>
      obtain rfl := Option.some.inj h
      exact ⟨.inl rfl, le_refl _, fun e he => by
        obtain rfl := Option.some.inj he
        exact hLess.le⟩
    next hLess =>
      obtain rfl := Option.some.inj h
      exact ⟨.inr rfl, not_lt.mp hLess, fun e he => by
        obtain rfl := Option.some.inj he
        exact le_refl _⟩

theorem foldl_earlier_some {l : List Accepted} {o : Option Accepted} {b : Accepted}
    (h : l.foldl Accepted.earlier o = some b) :
    (b ∈ l ∨ o = some b) ∧ (∀ a ∈ l, b.frame ≤ a.frame) ∧ ∀ c, o = some c → b.frame ≤ c.frame := by
  induction l generalizing o with
  | nil => exact ⟨.inr h, nofun, fun c hc => by
      obtain rfl := Option.some.inj (h.symm.trans hc)
      exact le_refl _⟩
  | cons a l ih =>
    obtain ⟨hIn, hAll, hFirst⟩ := ih (o := Accepted.earlier o a) h
    obtain ⟨d, hd⟩ : ∃ d, Accepted.earlier o a = some d := by
      cases o with
      | none => exact ⟨a, rfl⟩
      | some c => exact ⟨_, (apply_ite some (a.frame < c.frame) a c).symm⟩
    obtain ⟨hFrom, hNew, hOld⟩ := Accepted.earlier_some hd
    have hLe := hFirst d hd
    refine ⟨?_, List.forall_mem_cons.mpr ⟨hLe.trans hNew, hAll⟩, fun c hc => hLe.trans (hOld c hc)⟩
    rcases hIn with hIn | hIs
    · exact .inl (List.mem_cons_of_mem _ hIn)
    · obtain rfl := Option.some.inj (hd.symm.trans hIs)
      exact hFrom.imp (fun hb => List.mem_cons.mpr (.inl hb)) id

theorem HostIf.nextCommit_some {h : HostIf} {a : Accepted} (ha : h.nextCommit = some a) :
    a ∈ h.accepted ∧ ∀ b ∈ h.accepted, a.frame ≤ b.frame := by
  obtain ⟨hIn, hAll, _⟩ := foldl_earlier_some (l := h.accepted) (o := none) ha
  exact ⟨hIn.resolve_right nofun, hAll⟩

/-! ### The passage of time to the switch-over's frame -/

theorem State.putTime_firm (now bnd : Nat) (t : Tide) (s : State) :
    (s.putTime now bnd t).firm = { s.firm with word := (t.frame, t.tick) } := rfl

theorem State.until_firm (x : Nat) (s : State) : (s.until x).firm = { s.firm with word := (s.until x).firm.word } := by
  have hCome (d : Nat) : (s.comeTo d).firm = { s.firm with word := (s.comeTo d).firm.word } := by
    unfold State.comeTo
    rw [State.putTime_firm]
  rcases State.until_cases x s with h | ⟨d, h | h⟩ <;> rw [h]
  · exact hCome d
  · rw [State.boundary_firm]
    exact hCome d

/-! ### The configuration comes into force -/

/-- The configuration with staged commands applied, on a manager with the workers' parts kept. -/
def State.switched (l : List StagedCmd) (s : State) : Cfg :=
  if s.isManager then l.foldl (Cfg.keepParts s.joinedNodes) (s.cfg.applyAll l) else s.cfg.applyAll l

/-- `s` with a new configuration, the lists of admission trimmed to it. -/
def State.putCfg (c : Cfg) (s : State) : State := { s with cfg := c, adm := s.adm.trim c }

theorem State.putCfg_firm (c : Cfg) (s : State) : (s.putCfg c).firm = { s.firm with cfg := c } := rfl

theorem State.switchIn_eq (l : List StagedCmd) (s : State) : s.switchIn l =
    l.foldl (fun t x => t.settingAct x.setting) (((((s.tideBefore).membersLeave (s.switched l)).putCfg (s.switched l)).putStore
      (((s.tideBefore).membersLeave (s.switched l)).putCfg (s.switched l)).storedCfg).follow s.cfg) := rfl

theorem State.switchIn_firm (l : List StagedCmd) (s : State) : (s.switchIn l).firm = { s.firm with cfg := s.switched l } := by
  have hActs (t : State) : (l.foldl (fun t x => t.settingAct x.setting) t).firm = t.firm :=
    State.firm_foldl (fun t x => State.settingAct_firm x.setting t) l t
  rw [State.switchIn_eq, hActs, State.follow_firm, State.putStore_firm, State.putCfg_firm, State.membersLeave_firm,
    State.tideBefore_firm]

theorem State.joinedNodes_of_nodes {s t : State} (h : t.ring.nodes = s.ring.nodes) : t.joinedNodes = s.joinedNodes :=
  List.filter_congr fun n _ => by rw [State.joined, State.joined, State.node_of_nodes h]

theorem State.switched_of_firm {s t : State} (hCfg : t.firm.cfg = s.firm.cfg) (hRole : t.firm.manager = s.firm.manager)
    (hNodes : t.firm.nodes = s.firm.nodes) (l : List StagedCmd) : t.switched l = s.switched l := by
  have hJoined : t.joinedNodes = s.joinedNodes := State.joinedNodes_of_nodes hNodes
  have hManager : t.isManager = s.isManager := hRole
  have hOld : t.cfg = s.cfg := hCfg
  rw [State.switched, hJoined, hManager, hOld, State.switched]

/-! ### COMMIT_SWITCH_OVER -/

/-- `s` without an accepted commit. -/
def State.taken (a : Accepted) (s : State) : State :=
  { s with host := { s.host with accepted := s.host.accepted.erase a } }

theorem State.taken_firm (a : Accepted) (s : State) :
    (s.taken a).firm = { s.firm with accepted := s.firm.accepted.erase a } := rfl

/-- The state after the switch-over of a commit. -/
def State.switchOver (a : Accepted) (s : State) : State :=
  (((s.until (a.frame * frameTicks)).taken a).switchIn a.staged).dropTests (s.until (a.frame * frameTicks)).cfg

theorem exec_commitSwitchOver_none {s : State} (h : s.host.nextCommit = none) : exec .commitSwitchOver s = .next s := by
  refine congrArg Host.Outcome.next ?_
  rw [h]

theorem exec_commitSwitchOver {s : State} {a : Accepted} (h : s.host.nextCommit = some a) :
    exec .commitSwitchOver s = .next (s.switchOver a) := by
  refine congrArg Host.Outcome.next ?_
  rw [h]
  rfl

theorem State.switchOver_firm (a : Accepted) (s : State) : (s.switchOver a).firm =
    { s.firm with accepted := s.firm.accepted.erase a, cfg := s.switched a.staged, word := (s.until (a.frame * frameTicks)).firm.word } := by
  have hUntil := State.until_firm (a.frame * frameTicks) s
  have hSwitched : ((s.until (a.frame * frameTicks)).taken a).switched a.staged = s.switched a.staged :=
    State.switched_of_firm (by rw [State.taken_firm, hUntil]) (by rw [State.taken_firm, hUntil])
      (by rw [State.taken_firm, hUntil]) _
  unfold State.switchOver
  rw [State.dropTests_firm, State.switchIn_firm, hSwitched, State.taken_firm]
  generalize s.until (a.frame * frameTicks) = t at hUntil ⊢
  rw [hUntil]

theorem commitSwitchOver_completes {s : State} {a : Accepted} (h : s.host.nextCommit = some a) :
    completesWith .commitSwitchOver s (fun t =>
      a ∈ s.host.accepted ∧ (∀ b ∈ s.host.accepted, a.frame ≤ b.frame)
      ∧ t.host.accepted = s.host.accepted.erase a
      ∧ t.cfg = (if s.isManager then a.staged.foldl (Cfg.keepParts s.joinedNodes) (s.cfg.applyAll a.staged)
          else s.cfg.applyAll a.staged)
      ∧ t.snap = s.snap ∧ t.pending = s.pending
      ∧ t.fuses = s.fuses ∧ t.start.bankA = s.start.bankA ∧ t.start.bankB = s.start.bankB) := by
  obtain ⟨hIn, hFirst⟩ := HostIf.nextCommit_some h
  have hExec := exec_commitSwitchOver h
  have hKept := exec_kept .commitSwitchOver s _ hExec
  have hFirm := State.switchOver_firm a s
  exact ⟨_, hExec, hIn, hFirst, congrArg Firm.accepted hFirm, congrArg Firm.cfg hFirm, congrArg Firm.snap hFirm,
    congrArg Prod.fst hKept, congrArg Prod.snd hKept, congrArg Firm.bankA hFirm, congrArg Firm.bankB hFirm⟩

/-- Settles O51: the ends of a transaction, and what stands firm through the switch-over of its commit. -/
theorem transactionCommands : Obligations.TransactionCommands := by
  unfold Obligations.TransactionCommands
  exact ⟨fun s q hPay => ⟨txnOpen_completes hPay, txnCommit_without hPay, fun u f n h hTxn hFail =>
    txnCommit_refused hPay h hTxn hFail, fun u h hTxn hFail => txnCommit_accepted hPay h hTxn hFail,
    txnAbort_completes hPay⟩, fun s => ⟨exec_commitSwitchOver_none, fun a h => commitSwitchOver_completes h⟩⟩

end Sys2Proof.Machine
end

section
/-!
# Where Tide stands: packets, ports and the pool

One rule for each operation that leaves the Tide word, in the order of the model's files. A rule unfolds the operation,
splits what it branches on, and leaves each branch to the rules of the operations it calls.
-/
namespace Sys2Proof.Machine

-- One theorem after another: the stacks of many that wait at once would exceed the memory of the check.
set_option Elab.async false

variable (s : State)

/-! ### The place of Tide -/

/-- Where Tide stands: its frame and its tick. -/
def Tide.place (t : Tide) : Nat × Nat := (t.frame, t.tick)

@[simp] theorem State.place_tide : s.tide.place = s.firm.word := rfl

/-- An update of Tide that leaves where it stands, stated of the record's constructor. -/
@[simp] theorem Tide.place_mk (t : Tide) (state : TideState) (hi : W32) (stepCnt anchor holdAcc : Nat)
    (holdRun : Option Nat) (limitRaised deciding : Bool) (stepAt : Option (Nat × Nat)) (error : Int) (errAt : Nat)
    (alarms : Tab Alarm) (pulse : Pulse) (rangers : Tab Ranger) (announced : Option (Nat × Nat)) (offEast offWest : Nat)
    (timingWest : Bool) (timingNext : Option Bool) (ranged : Bool) (corr : Int) (corrAt : Nat) :
    Tide.place ⟨t.frame, t.tick, state, hi, stepCnt, anchor, holdAcc, holdRun, limitRaised, deciding, stepAt, error, errAt,
      alarms, pulse, rangers, announced, offEast, offWest, timingWest, timingNext, ranged, corr, corrAt⟩ = t.place := rfl

@[simp] theorem Tide.place_holdStop (now : Nat) (t : Tide) : (t.holdStop now).place = t.place := rfl
@[simp] theorem Tide.place_holdClear (t : Tide) : t.holdClear.place = t.place := rfl

@[simp] theorem Tide.place_putOffset (d n : Nat) (t : Tide) : (t.putOffset d n).place = t.place := by
  unfold Tide.putOffset
  split <;> rfl

@[simp] theorem State.word_mk (pending : List Instr) (now bnd fresh : Nat) (out : List Emission) (start : Start)
    (power : Power) (clk : Clocks) (tide : Tide) (line : Line) (pool : Pool) (sched : Sched) (ports : Tab Port)
    (e1s : Tab E1) (cipher : Cipher) (ring : Ring) (host : HostIf) (evt : Events) (cnt : Tab Nat) (snap : Snapshot)
    (cfg : Cfg) (adm : Admission) (cistern : Cistern) (log : Logbook) (craft : Craft) :
    (State.firm ⟨pending, now, bnd, fresh, out, start, power, clk, tide, line, pool, sched, ports, e1s, cipher, ring, host,
      evt, cnt, snap, cfg, adm, cistern, log, craft⟩).word = tide.place := rfl

@[simp] theorem Firm.word_ite (c : Prop) [Decidable c] (f g : Firm) :
    (if c then f else g).word = if c then f.word else g.word := apply_ite _ _ _ _

theorem State.word_ite (c : Prop) [Decidable c] (t u : State) :
    (if c then t else u).firm.word = if c then t.firm.word else u.firm.word := 
    apply_ite (fun v : State => v.firm.word) _ _ _

theorem State.word_of_ite {c : Prop} [Decidable c] {r t u : State} (hr : r.firm.word = u.firm.word)
    (ht : t.firm.word = u.firm.word) : (if c then r else t).firm.word = u.firm.word := by
  rw [State.word_ite, hr, ht, ite_self]

@[simp] theorem State.word_foldl {α : Type} {f : State → α → State} (h : ∀ t x, (f t x).firm.word = t.firm.word)
    (l : List α) (u : State) : (l.foldl f u).firm.word = u.firm.word := State.foldl_same (fun t => t.firm.word) h l u

@[simp] theorem State.word_foldr {α : Type} {f : α → State → State} (h : ∀ x t, (f x t).firm.word = t.firm.word)
    (l : List α) (u : State) : (l.foldr f u).firm.word = u.firm.word := by
  induction l with
  | nil => rfl
  | cons x l ih => rw [List.foldr_cons, h, ih]

theorem Reports.word {t : State} (h : Reports s t) : t.firm.word = s.firm.word := by
  obtain ⟨_, _, _, _, _, _, rfl⟩ := h
  rfl

/-- If the outcome is a next state, Tide stands there where it stands in `s`. -/
def SameWord (s : State) (o : Host.Outcome State Fault Refusal) : Prop := ∀ t, o = .next t → t.firm.word = s.firm.word

@[simp] theorem sameWord_next (t : State) : SameWord s (.next t) ↔ t.firm.word = s.firm.word := by
  simp [SameWord]

/-- What a request does, if it does anything, leaves Tide where it stands. -/
def Verdict.sameWord : Verdict → Prop
  | .no _ => True
  | .go f => ∀ s, (f s).firm.word = s.firm.word

@[simp] theorem Verdict.sameWord_no (st : Status) : (Verdict.no st).sameWord := trivial

@[simp] theorem Verdict.sameWord_go (f : State → State) :
    (Verdict.go f).sameWord ↔ ∀ s, (f s).firm.word = s.firm.word := Iff.rfl

@[simp] theorem Verdict.sameWord_ite (c : Prop) [Decidable c] (v w : Verdict) :
    (if c then v else w).sameWord ↔ if c then v.sameWord else w.sameWord := by split <;> rfl

theorem Verdict.sameWord_of_ite {c : Prop} [Decidable c] {v w : Verdict} (hv : v.sameWord) (hw : w.sameWord) :
    (if c then v else w).sameWord := by
  split
  · exact hv
  · exact hw

@[simp] theorem State.setStart_word (f : Start → Start) : (s.setStart f).firm.word = s.firm.word := rfl
@[simp] theorem State.reoffset_word (f : Tide → Tide) : (s.reoffset f).firm.word = (f s.tide).place := rfl
@[simp] theorem State.putStore_word (c : Cfg) : (s.putStore c).firm.word = s.firm.word := by rw [State.putStore_firm]

/-! ### Sys2Proof/Machine/Flash -/

@[simp] theorem State.header_word (f : Start → Start) : (s.header f).firm.word = s.firm.word := by simp [State.header]

/-! ### Sys2Proof/Machine/Ops -/

@[simp] theorem State.modNode_word (n : Nat) (f : NodeEntry → NodeEntry) : (s.modNode n f).firm.word = s.firm.word := by
  simp [State.modNode]

@[simp] theorem State.modLsw_word (k : Nat) (f : Lsw → Lsw) : (s.modLsw k f).firm.word = s.firm.word := by
  simp [State.modLsw]

@[simp] theorem State.syncTxs_word : s.syncTxs.firm.word = s.firm.word := by simp [State.syncTxs]

@[simp] theorem State.cutBurst_word (l : Nat) : (s.cutBurst l).firm.word = s.firm.word := by
  unfold State.cutBurst
  split <;> simp

@[simp] theorem State.relock_word : s.relock.firm.word = s.firm.word := by simp [State.relock]

@[simp] theorem State.hostAccess_word {f : State → State} (h : ∀ s, (f s).firm.word = s.firm.word) (a : HostAccess) :
    (s.hostAccess a f).firm.word = s.firm.word := by simp [State.hostAccess, h]

@[simp] theorem State.dccOn_word (d dst : Nat) (body : DccBody) : (s.dccOn d dst body).firm.word = s.firm.word := by
  simp [State.dccOn]

@[simp] theorem State.dccRaw_word (d : Nat) (m : DccMsg) : (s.dccRaw d m).firm.word = s.firm.word := by
  simp [State.dccRaw]

@[simp] theorem State.dccBcast_word (body : DccBody) : (s.dccBcast body).firm.word = s.firm.word := by
  simp [State.dccBcast]

@[simp] theorem State.logRec_word (k : Nat) (d : List Byte) : (s.logRec k d).firm.word = s.firm.word :=
  (State.logRec_reports s k d).word

@[simp] theorem State.setEvt_word (e : Events) (b : Bool) : (s.setEvt e b).firm.word = s.firm.word :=
  (State.setEvt_reports s e b).word

@[simp] theorem State.reply_word (o : Nat) (q : Req) (st : Status) : (s.reply o q st).firm.word = s.firm.word :=
  (State.reply_reports s o q st).word

@[simp] theorem State.await_word (o : Nat) (q : Req) (w : Wait) : (s.await o q w).firm.word = s.firm.word :=
  (State.await_reports s o q w).word

@[simp] theorem State.deferOp_word {run : State → State} (h : ∀ s, (run s).firm.word = s.firm.word) (opc : Nat)
    (q : Req) (object : Nat) : (s.defer_ opc q object run).firm.word = s.firm.word := by simp [State.defer_, h]

/-! ### Sys2Proof/Machine/Packets -/

@[simp] theorem State.eccRead_word (e : Ecc) (obj : Nat) : (s.eccRead e obj).firm.word = s.firm.word := by
  unfold State.eccRead
  split <;> simp

@[simp] theorem State.refusedCell_word (q owner : Nat) (t : Take) :
    (s.refusedCell q owner t).firm.word = s.firm.word := by
  simp [State.refusedCell]

@[simp] theorem State.offer_word (q : Nat) (p : Packet) : (s.offer q p).1.firm.word = s.firm.word := by
  simp only [State.offer]
  split
  · simp
  · split
    · simp
    · split
      · simp
      · split
        · simp
        · split <;> simp

@[simp] theorem State.offerUp_word (q cls : Nat) (p : Packet) : (s.offerUp q cls p).1.firm.word = s.firm.word := by
  unfold State.offerUp
  split <;> simp

@[simp] theorem State.moreWrite_word (w : Nat) (b : List Byte) : (s.moreWrite w b).1.firm.word = s.firm.word := by
  simp only [State.moreWrite]
  split
  · simp
  · split <;> simp

/-! ### Sys2Proof/Machine/E1 -/

@[simp] theorem State.framer_word (p : Nat) (frame : List Byte) : (s.framer p frame).firm.word = s.firm.word := by
  simp [State.framer]

theorem execSlipBufferWrite_word (p : E1No) (frame : List Byte) : SameWord s (execSlipBufferWrite p frame s) := by
  simp [execSlipBufferWrite]

theorem execCesPacketise_word (p : E1No) : SameWord s (execCesPacketise p s) := by simp [execCesPacketise]

@[simp] theorem State.jbMargin_word (p depth : Nat) (m : Int) : (s.jbMargin p depth m).firm.word = s.firm.word := by
  simp [State.jbMargin]

@[simp] theorem State.cesDiscard_word (p : Nat) (pkt : Packet) (i : Nat) :
    (s.cesDiscard p pkt i).firm.word = s.firm.word := by simp [State.cesDiscard]

@[simp] theorem State.cesHold_word (p base : Nat) (pkt : Packet) : (s.cesHold p base pkt).firm.word = s.firm.word := by
  simp [State.cesHold]

@[simp] theorem State.cesPlace_word (p : Nat) (pkt : Packet) : (s.cesPlace p pkt).firm.word = s.firm.word := by
  simp [State.cesPlace]

theorem execCesPacketArrival_word (p : E1No) : SameWord s (execCesPacketArrival p s) := by
  unfold execCesPacketArrival
  split <;> simp

@[simp] theorem State.cesLops_word (p : Nat) : (s.cesLops p).firm.word = s.firm.word := by simp [State.cesLops]

@[simp] theorem State.playFrames_word (p : Nat) (fs : List (List Byte)) :
    (s.playFrames p fs).firm.word = s.firm.word := by
  simp [State.playFrames]

@[simp] theorem State.cesLost_word (p : Nat) : (s.cesLost p).firm.word = s.firm.word := by simp [State.cesLost]

@[simp] theorem State.cesPlay_word (p : Nat) (b : List Byte) : (s.cesPlay p b).firm.word = s.firm.word := by
  simp [State.cesPlay]

@[simp] theorem State.e1Mark_word (p : Nat) (d : E1Defect) (on : Bool) : (s.e1Mark p d on).firm.word = s.firm.word := by
  simp [State.e1Mark]

@[simp] theorem State.e1Timing_word (p : Nat) (toRclk : Bool) : (s.e1Timing p toRclk).firm.word = s.firm.word := by
  simp [State.e1Timing]

theorem execRclkLoss_word (p : E1No) : SameWord s (execRclkLoss p s) := by simp [execRclkLoss]

theorem execCrc4SearchTimeout_word (p : E1No) : SameWord s (execCrc4SearchTimeout p s) := by
  simp [execCrc4SearchTimeout]

theorem execE1Defect_word (p : E1No) (d : E1Defect) (declared : Bool) : SameWord s (execE1Defect p d declared s) := by
  simp only [execE1Defect]
  split
  · simp
  · split <;> simp

@[simp] theorem State.e1Step_word : s.e1Step.firm.word = s.firm.word := by simp [State.e1Step]

/-! ### Sys2Proof/Machine/Sched -/

@[simp] theorem State.endTurn_word (q : Nat) : (s.endTurn q).firm.word = s.firm.word := by simp [State.endTurn]

@[simp] theorem State.putGate_word (p : Nat) (g : Gate) : (s.putGate p g).firm.word = s.firm.word := by
  simp [State.putGate]

@[simp] theorem State.gatesStep_word : s.gatesStep.firm.word = s.firm.word := by
  refine State.word_foldl (fun t p => ?_) _ s
  simp only
  split <;> simp

@[simp] theorem State.wheelStep_word : s.wheelStep.firm.word = s.firm.word := by
  refine State.word_foldl (fun t q => ?_) _ s
  split <;> simp

@[simp] theorem State.dropHead_word (q : Nat) (p : Packet) (oversize : Bool) :
    (s.dropHead q p oversize).firm.word = s.firm.word := by simp [State.dropHead]

@[simp] theorem State.dropHeads_word (q : Nat) (l : List Packet) : (s.dropHeads q l).firm.word = s.firm.word := by
  induction l generalizing s with
  | nil => rfl
  | cons p t ih => simp only [State.dropHeads]; split <;> simp [ih]

@[simp] theorem State.putDeficits_word (l : List DrrQ) : (s.putDeficits l).firm.word = s.firm.word := by
  simp [State.putDeficits]

@[simp] theorem State.startFrame_word (p q : Nat) : (s.startFrame p q).firm.word = s.firm.word := by
  unfold State.startFrame
  split <;> simp

theorem execEgressStart_word (p : PortNo) : SameWord s (execEgressStart p s) := by
  simp only [execEgressStart]
  split
  · simp
  · split
    · simp
    · split <;> simp

@[simp] theorem State.clipDeficit_word (q : Nat) : (s.clipDeficit q).firm.word = s.firm.word := by
  simp [State.clipDeficit]

@[simp] theorem State.police_word (k len : Nat) (input : Colour) :
    (s.police k len input).1.firm.word = s.firm.word := by
  simp [State.police]

@[simp] theorem State.copyTo_word (g q : Nat) (p : Packet) : (s.copyTo g q p).firm.word = s.firm.word := by
  simp only [State.copyTo]
  split <;> simp

theorem execMcastReplicate_word (r : CellRead (Fin 256) Ecc) : SameWord s (execMcastReplicate r s) := by
  simp only [execMcastReplicate]
  split <;> simp

/-! ### Sys2Proof/Machine/Ports -/

@[simp] theorem State.spFirst_word (p k : Nat) : (s.spFirst p k).firm.word = s.firm.word := by simp [State.spFirst]

@[simp] theorem State.countFrame_word (p base : Nat) (b : List Byte) (len : Nat) (ok : Bool) :
    (s.countFrame p base b len ok).firm.word = s.firm.word := by simp [State.countFrame]

@[simp] theorem State.pauseClass_word (p c quanta : Nat) : (s.pauseClass p c quanta).firm.word = s.firm.word := by
  simp [State.pauseClass]

@[simp] theorem State.macControl_word (p : Nat) (b : List Byte) : (s.macControl p b).firm.word = s.firm.word := by
  simp [State.macControl]

@[simp] theorem State.sendPause_word (p quanta : Nat) : (s.sendPause p quanta).firm.word = s.firm.word := by
  simp [State.sendPause]

theorem execPauseExpiry_word (p : PortNo) (c : Fin 8) : SameWord s (execPauseExpiry p c s) := by simp [execPauseExpiry]
theorem execPauseTx_word (p : PortNo) : SameWord s (execPauseTx p s) := by simp [execPauseTx]

@[simp] theorem State.rxRefused_word (p owner : Nat) (e : Entered) :
    (s.rxRefused p owner e).firm.word = s.firm.word := by
  simp [State.rxRefused]

@[simp] theorem State.rxOpen_word (p : Nat) (x : RxFrame) : (s.rxOpen p x).firm.word = s.firm.word := by
  simp only [State.rxOpen]
  split
  · simp
  · split <;> simp

@[simp] theorem State.rxPart_word (p : Nat) (old x : RxFrame) : (s.rxPart p old x).firm.word = s.firm.word := by
  unfold State.rxPart
  split <;> simp

@[simp] theorem State.rxStore_word (p : Nat) (w : RxWrite) (o : Nat) (e : ClassCfg) (b : List Byte) (n : Nat)
    (dei trunc : Bool) : (s.rxStore p w o e b n dei trunc).firm.word = s.firm.word := by
  simp only [State.rxStore]
  split
  · simp
  · split
    · simp
    · rw [State.endWrite_firm]
      split
      · split <;> simp
      · simp
  · rfl

@[simp] theorem State.enterFrame_word (p len : Nat) (x : RxFrame) (b : List Byte) (n : Nat) (trunc : Bool) :
    (s.enterFrame p len x b n trunc).firm.word = s.firm.word := by
  simp only [State.enterFrame]
  split
  · simp
  · split
    · simp
    · split <;> simp

@[simp] theorem State.rxEnd_word (p n : Nat) (x : RxFrame) : (s.rxEnd p n x).firm.word = s.firm.word := by
  simp [State.rxEnd]

theorem execFrameReceive_word (p : PortNo) (bytes : List Byte) (last : Bool) :
    SameWord s (execFrameReceive p bytes last s) := by simp [execFrameReceive]

@[simp] theorem State.txRest_word (t : TxFrame) : (s.txRest t).firm.word = s.firm.word := by simp [State.txRest]

theorem execFrameTransmit_word (r : CellRead PortNo Ecc) : SameWord s (execFrameTransmit r s) := by
  simp only [execFrameTransmit]
  split <;> simp

@[simp] theorem State.setFault_word (p code : Nat) : (s.setFault p code).firm.word = s.firm.word := by
  simp [State.setFault]

@[simp] theorem State.linkHold_word (p : Nat) : (s.linkHold p).firm.word = s.firm.word := by simp [State.linkHold]

theorem execSpLinkUp_word (p : PortNo) (learned : Option (Fin 6)) : SameWord s (execSpLinkUp p learned s) := by
  unfold execSpLinkUp
  split <;> simp

theorem execSpLinkDown_word (p : PortNo) : SameWord s (execSpLinkDown p s) := by simp [execSpLinkDown]

theorem execSpFault_word (p : PortNo) (code : Fin 6) (learned : Option (Fin 6)) :
    SameWord s (execSpFault p code learned s) := by simp [execSpFault]

theorem execPhyPoll_word (p : PortNo) (answer : Option (BitVec 16)) : SameWord s (execPhyPoll p answer s) := by
  simp only [execPhyPoll]
  split
  · simp
  · split <;> simp

/-! ### Sys2Proof/Machine/PoolCmds -/

theorem execQthRelay_word (node : NodeNo) (queue : Fin 4096) (frame : BitVec 16) :
    SameWord s (execQthRelay node queue frame s) := by simp [execQthRelay]

@[simp] theorem State.readQthFifo_word : s.readQthFifo.firm.word = s.firm.word := by
  unfold State.readQthFifo
  split <;> simp

theorem execQthFifoDataRead_word : SameWord s (execQthFifoDataRead s) := by simp [execQthFifoDataRead]

@[simp] theorem State.readCntFifo_word : s.readCntFifo.firm.word = s.firm.word := by
  unfold State.readCntFifo
  split <;> simp

theorem execCntFifoDataRead_word : SameWord s (execCntFifoDataRead s) := by simp [execCntFifoDataRead]
theorem execCntHalf_word (index : BitVec 16) : SameWord s (execCntHalf index s) := by simp [execCntHalf]

theorem execRolloverRelay_word (node : NodeNo) (index : BitVec 16) (frame : BitVec 12) :
    SameWord s (execRolloverRelay node index frame s) := by simp [execRolloverRelay]

theorem execFlushAct_word (q : Fin 4096) : SameWord s (execFlushAct q s) := by simp [execFlushAct]

@[simp] theorem State.breach_word (cls obj reason : Nat) : (s.breach cls obj reason).firm.word = s.firm.word := by
  simp [State.breach]

@[simp] theorem State.holdRx_word (p : Nat) : (s.holdRx p).firm.word = s.firm.word := by simp [State.holdRx]
@[simp] theorem State.holdReasm_word : s.holdReasm.firm.word = s.firm.word := by simp [State.holdReasm]
@[simp] theorem State.startRecount_word : s.startRecount.firm.word = s.firm.word := by simp [State.startRecount]

@[simp] theorem State.descError_word (q position : Nat) : (s.descError q position).firm.word = s.firm.word := by
  simp [State.descError]

theorem execDescriptorEccError_word (q : Fin 4096) (position : Nat) :
    SameWord s (execDescriptorEccError q position s) := by simp [execDescriptorEccError]

@[simp] theorem State.linkRead_word (e : Ecc) (q n : Nat) : (s.linkRead e q n).firm.word = s.firm.word := by
  simp [State.linkRead]

theorem execPacketEnqueue_word (q : Fin 4096) (r : CellRead (List Byte) Ecc) :
    SameWord s (execPacketEnqueue q r s) := by
  simp [execPacketEnqueue]

@[simp] theorem State.cutList_word (q n : Nat) : (s.cutList q n).firm.word = s.firm.word := by simp [State.cutList]

@[simp] theorem State.releaseFlushes_word : s.releaseFlushes.firm.word = s.firm.word := by
  rw [State.releaseFlushes, State.word_foldl, State.word_foldl]
  · simp
  · intro t m
    split
    · split <;> simp
    · rfl

theorem execLedgerRecountDone_word : SameWord s (execLedgerRecountDone s) := by simp [execLedgerRecountDone]
theorem execSweepBorrow_word (cells : Nat) : SameWord s (execSweepBorrow cells s) := by simp [execSweepBorrow]
@[simp] theorem State.retireOne_word : s.retireOne.firm.word = s.firm.word := by simp [State.retireOne]

theorem execSweepReturn_word (cells : Nat) (r : CellRead Nat (List Ecc)) : SameWord s (execSweepReturn cells r s) := by
  simp [execSweepReturn]

/-! ### Sys2Proof/Machine/Snap -/

@[simp] theorem State.takeSnapshot_word (asker : Option Nat) : (s.takeSnapshot asker).firm.word = s.firm.word := by
  simp [State.takeSnapshot]

end Sys2Proof.Machine
end

section
/-!
# Where Tide stands: Tide, clocks, caravans and the line
-/
namespace Sys2Proof.Machine

-- One theorem after another: the stacks of many that wait at once would exceed the memory of the check.
set_option Elab.async false

variable (s : State)

/-! ### Sys2Proof/Machine/Tide -/

@[simp] theorem State.modAlarm_word (k : Nat) (f : Alarm → Alarm) : (s.modAlarm k f).firm.word = s.firm.word := by
  simp [State.modAlarm]

@[simp] theorem State.fireAlarm_word (k : Nat) (late : Bool) : (s.fireAlarm k late).firm.word = s.firm.word := by
  simp [State.fireAlarm]

@[simp] theorem State.alarmDue_word (k : Nat) : (s.alarmDue k).firm.word = s.firm.word := by simp [State.alarmDue]

@[simp] theorem State.alarmStep_word (old : Nat) (k : Nat) : (s.alarmStep old k).firm.word = s.firm.word := by
  simp [State.alarmStep]

@[simp] theorem State.alarmsStep_word (old : Nat) : (s.alarmsStep old).firm.word = s.firm.word := by
  simp [State.alarmsStep]

@[simp] theorem State.setTide_word (f : Tide → Tide) : (s.setTide f).firm.word = (f s.tide).place := rfl

@[simp] theorem State.setPulse_word (f : Pulse → Pulse) : (s.setPulse f).firm.word = s.firm.word := by
  simp [State.setPulse]

@[simp] theorem State.pulseLow_word : s.pulseLow.firm.word = s.firm.word := by simp [State.pulseLow]

@[simp] theorem State.pulseHigh_word (fall : Nat) : (s.pulseHigh fall).firm.word = s.firm.word := by
  simp [State.pulseHigh]

@[simp] theorem State.pulseHold_word : s.pulseHold.firm.word = s.firm.word := by simp [State.pulseHold]

@[simp] theorem State.pulseStep_word (old : Nat) : (s.pulseStep old).firm.word = s.firm.word := by
  simp [State.pulseStep]

@[simp] theorem State.pulseLoad_word : s.pulseLoad.firm.word = s.firm.word := by simp [State.pulseLoad]
@[simp] theorem State.syncTo_word (n : Nat) : (s.syncTo n).firm.word = s.firm.word := by simp [State.syncTo]
@[simp] theorem State.syncAll_word : s.syncAll.firm.word = s.firm.word := by simp [State.syncAll]
@[simp] theorem State.reanchor_word (old : Nat) : (s.reanchor old).firm.word = s.firm.word := by simp [State.reanchor]
@[simp] theorem State.anchorRoot_word : s.anchorRoot.firm.word = s.firm.word := by simp [State.anchorRoot]
@[simp] theorem State.enterAnchored_word : s.enterAnchored.firm.word = s.firm.word := by simp [State.enterAnchored]
@[simp] theorem State.enterHoldover_word : s.enterHoldover.firm.word = s.firm.word := by simp [State.enterHoldover]
@[simp] theorem State.moveAnchor_word (l : Nat) : (s.moveAnchor l).firm.word = s.firm.word := by simp [State.moveAnchor]
@[simp] theorem State.lockRegained_word : s.lockRegained.firm.word = s.firm.word := by simp [State.lockRegained]
theorem execTideHoldover_word : SameWord s (execTideHoldover s) := by simp [execTideHoldover]

theorem execTideReacquireDecision_word (frame tick : Nat) : SameWord s (execTideReacquireDecision frame tick s) := by
  simp [execTideReacquireDecision]

theorem execTideSlewDone_word : SameWord s (execTideSlewDone s) := by simp [execTideSlewDone]

theorem execTideAbandonPending_word : SameWord s (execTideAbandonPending s) := by
  simp only [execTideAbandonPending]
  split
  · simp
  · split
    · simp
    · split <;> simp

theorem execTideAnchorMove_word : SameWord s (execTideAnchorMove s) := by
  simp only [execTideAnchorMove]
  split
  · simp
  · split <;> simp

theorem execTideAnchorReturn_word : SameWord s (execTideAnchorReturn s) := by simp [execTideAnchorReturn]
theorem execTideHoldLimit_word : SameWord s (execTideHoldLimit s) := by simp [execTideHoldLimit]
@[simp] theorem State.readTideLo_word : s.readTideLo.firm.word = s.firm.word := by simp [State.readTideLo]
theorem execTideLoRead_word : SameWord s (execTideLoRead s) := by simp [execTideLoRead]

@[simp] theorem State.modRanger_word (n : Nat) (f : Ranger → Ranger) : (s.modRanger n f).firm.word = s.firm.word := by
  simp [State.modRanger]

theorem execTsReq_word (node : NodeNo) (side : Side) (rtt : Nat) : SameWord s (execTsReq node side rtt s) := by
  simp [execTsReq]

@[simp] theorem State.rangeFail_word (n d : Nat) : (s.rangeFail n d).firm.word = s.firm.word := by
  simp [State.rangeFail]

theorem execWorkerRemeasure_word (node : NodeNo) (rttEast rttWest : Nat) :
    SameWord s (execWorkerRemeasure node rttEast rttWest s) := by simp [execWorkerRemeasure]

theorem execRangingReplyTimeout_word (node : NodeNo) (side : Side) :
    SameWord s (execRangingReplyTimeout node side s) := by
  simp [execRangingReplyTimeout]

theorem execRangingRetry_word (node : NodeNo) : SameWord s (execRangingRetry node s) := by simp [execRangingRetry]

/-! ### Sys2Proof/Machine/Clock -/

theorem execOscAccepted_word : SameWord s (execOscAccepted s) := by simp [execOscAccepted]
theorem execOscStartTimeout_word : SameWord s (execOscStartTimeout s) := by simp [execOscStartTimeout]
theorem execReferenceFail_word : SameWord s (execReferenceFail s) := by simp [execReferenceFail]
theorem execRootUnlock_word : SameWord s (execRootUnlock s) := by simp [execRootUnlock]
theorem execAonRcCalibration_word : SameWord s (execAonRcCalibration s) := by simp [execAonRcCalibration]

theorem execClkMuxSwitchRequest_word (m : Mux) (toB : Bool) : SameWord s (execClkMuxSwitchRequest m toB s) := by
  simp [execClkMuxSwitchRequest]

theorem execClkDeadSource_word (m : Mux) (newSource : Bool) : SameWord s (execClkDeadSource m newSource s) := by
  simp only [execClkDeadSource]
  split <;> simp

theorem execClkGateStart_word (bit : Fin 30) : SameWord s (execClkGateStart bit s) := by simp [execClkGateStart]
@[simp] theorem State.pcieLink_word (up : Bool) : (s.pcieLink up).firm.word = s.firm.word := by simp [State.pcieLink]
theorem execClkRefclkLoss_word (eth : Bool) : SameWord s (execClkRefclkLoss eth s) := by simp [execClkRefclkLoss]
theorem execRefclkReturn_word (eth : Bool) : SameWord s (execRefclkReturn eth s) := by simp [execRefclkReturn]
theorem execHostPcieLink_word (up : Bool) : SameWord s (execHostPcieLink up s) := by simp [execHostPcieLink]
theorem execPciePerst_word (released : Bool) : SameWord s (execPciePerst released s) := by simp [execPciePerst]
theorem execClkSteerLimit_word : SameWord s (execClkSteerLimit s) := by simp [execClkSteerLimit]

/-! ### Sys2Proof/Machine/Cipher -/

@[simp] theorem State.writeBank_word (slot b : Nat) (k : BitVec 128) :
    (s.writeBank slot b k).firm.word = s.firm.word := by
  simp [State.writeBank]

@[simp] theorem State.latchBank_word (slot b : Nat) : (s.latchBank slot b).firm.word = s.firm.word := by
  simp [State.latchBank]

@[simp] theorem State.eraseBank_word (slot b : Nat) : (s.eraseBank slot b).firm.word = s.firm.word := by
  simp [State.eraseBank]

theorem execKeyZeroise_word (slot : Fin 256) (bank : BankNo) : SameWord s (execKeyZeroise slot bank s) := by
  simp [execKeyZeroise]

@[simp] theorem State.drawKey_word : s.drawKey.2.firm.word = s.firm.word := by simp [State.drawKey]
@[simp] theorem State.reseed_word : s.reseed.firm.word = s.firm.word := by simp [State.reseed]
@[simp] theorem State.genKey_word : s.genKey.2.firm.word = s.firm.word := by simp [State.genKey]
theorem execCyEntropyFail_word : SameWord s (execCyEntropyFail s) := by simp [execCyEntropyFail]

theorem execEntropyRetest_word (samples : List Bool) : SameWord s (execEntropyRetest samples s) := by
  simp [execEntropyRetest]

theorem execCyFallbackNonce_word : SameWord s (execCyFallbackNonce s) := by simp [execCyFallbackNonce]
theorem execDrbgReseed_word : SameWord s (execDrbgReseed s) := by simp [execDrbgReseed]
@[simp] theorem State.rederive_word (l : Nat) : (s.rederive l).firm.word = s.firm.word := by simp [State.rederive]

@[simp] theorem State.loadMsk_word (l : Nat) (k : Option (BitVec 128)) : (s.loadMsk l k).firm.word = s.firm.word := by
  simp [State.loadMsk]

theorem execVaultRerandomise_word : SameWord s (execVaultRerandomise s) := by simp [execVaultRerandomise]

/-! ### Sys2Proof/Machine/Caravan -/

@[simp] theorem State.lnEvent_word (l k detail : Nat) : (s.lnEvent l k detail).firm.word = s.firm.word := by
  simp [State.lnEvent]

@[simp] theorem State.lnFirst_word (l k : Nat) : (s.lnFirst l k).firm.word = s.firm.word := by simp [State.lnFirst]
@[simp] theorem State.toStaged_word (n : Nat) : (s.toStaged n).firm.word = s.firm.word := by simp [State.toStaged]

@[simp] theorem State.stageLoop_word (a n : Nat) : (s.stageLoop a n).firm.word = s.firm.word := by
  induction n generalizing s with
  | zero => rfl
  | succ n ih =>
    simp only [State.stageLoop]
    split
    · simp
    · split <;> simp [ih]

theorem execRunAheadStage_word (a : Fin 128) : SameWord s (execRunAheadStage a s) := by simp [execRunAheadStage]

theorem execStagedCellTimeout_word (a : Fin 128) : SameWord s (execStagedCellTimeout a s) := by
  unfold execStagedCellTimeout
  split <;> simp

theorem execCvRunaheadSuspend_word (a : Fin 128) : SameWord s (execCvRunaheadSuspend a s) := by
  simp [execCvRunaheadSuspend]

theorem execRunaheadResume_word (a : Fin 128) : SameWord s (execRunaheadResume a s) := by simp [execRunaheadResume]

@[simp] theorem Fill.omciQueue_word (l : Nat) (xs : List Packet) (f : Fill) :
    (f.omciQueue l xs).st.firm.word = f.st.firm.word := by
  induction xs generalizing f with
  | nil => rfl
  | cons x t ih => simp [Fill.omciQueue, ih]

@[simp] theorem Fill.omci_word (l : Nat) (f : Fill) : (f.omci l).st.firm.word = f.st.firm.word := by
  unfold Fill.omci
  split <;> simp

@[simp] theorem State.missed_word (l : Nat) : (s.missed l).firm.word = s.firm.word := by simp [State.missed]

@[simp] theorem State.fillGrant_word (l : Nat) (idx : Option Nat) (own : Bool) (space : Nat) :
    (s.fillGrant l idx own space).st.firm.word = s.firm.word := by
  simp only [State.fillGrant]
  split <;> simp

@[simp] theorem State.commitGrant_word (l : Nat) (a : AllocStruct) (g : Grant) (p : Place) :
    (s.commitGrant l a g p).firm.word = s.firm.word := by
  simp only [State.commitGrant]
  split <;> simp

@[simp] theorem State.placeGrant_word (l : Nat) (a : AllocStruct) (g : Grant) (launch trim psbu first : Nat)
    (cont fec : Bool) : (s.placeGrant l a g launch trim psbu first cont fec).firm.word = s.firm.word := by
  simp [State.placeGrant]

@[simp] theorem State.noteGrant_word (l frame : Nat) : (s.noteGrant l frame).firm.word = s.firm.word := by
  simp [State.noteGrant]

@[simp] theorem State.laneGranted_word (l : Nat) : (s.laneGranted l).firm.word = s.firm.word := by
  simp [State.laneGranted]

@[simp] theorem State.serveGrant_word (n : Nat) (a : AllocStruct) (g : Grant) :
    (s.serveGrant n a g).firm.word = s.firm.word := by
  simp only [State.serveGrant]
  refine State.word_of_ite (by simp) (State.word_of_ite (by simp) ?_)
  split
  · simp
  · split
    · split <;> simp
    · simp

theorem execAllocationStructure_word (l : Lane) (a : AllocStruct) : SameWord s (execAllocationStructure l a s) := by
  simp [execAllocationStructure]

theorem execCvNotReady_word (l : Lane) : SameWord s (execCvNotReady l s) := by
  unfold execCvNotReady
  split <;> simp

@[simp] theorem State.exitCheck_word (a : Nat) (p : Packet) (q : Nat) :
    (s.exitCheck a p q).1.firm.word = s.firm.word := by
  simp [State.exitCheck]

@[simp] theorem State.itemKey_word (l : Nat) (i : BurstItem) : (s.itemKey l i).1.firm.word = s.firm.word := by
  simp [State.itemKey]

@[simp] theorem State.eccBound_word (i : BurstItem) (e : Ecc) : (s.eccBound i e).firm.word = s.firm.word := by
  simp [State.eccBound]

@[simp] theorem State.sendItem_word (c : Caravan) (n : Nat) (i0 : BurstItem) (e : Ecc) :
    (s.sendItem c n i0 e).1.firm.word = s.firm.word := by simp [State.sendItem]

@[simp] theorem State.sendItems_word (c : Caravan) (ecc : List Ecc) (n : Nat) (l : List BurstItem) :
    (s.sendItems c ecc n l).1.firm.word = s.firm.word := by
  induction l generalizing n s with
  | nil => rfl
  | cons i t ih => simp [State.sendItems, ih]

@[simp] theorem State.grantServed_word (c : Caravan) : (s.grantServed c).firm.word = s.firm.word := by
  unfold State.grantServed
  split <;> simp

@[simp] theorem State.benSent_word (c : Caravan) : (s.benSent c).firm.word = s.firm.word := by simp [State.benSent]

@[simp] theorem State.burstSent_word (c : Caravan) (frames : List UpXgem) :
    (s.burstSent c frames).firm.word = s.firm.word := by
  simp only [State.burstSent]
  split
  · split <;> simp
  · split <;> simp

/-! ### Sys2Proof/Machine/Bonded -/

theorem execBlSkew_word (l : Lane) (count anchorCount : Nat) : SameWord s (execBlSkew l count anchorCount s) := by
  simp [execBlSkew]

@[simp] theorem State.groupUp_word (g l : Nat) : (s.groupUp g l).firm.word = s.firm.word := by simp [State.groupUp]

@[simp] theorem State.joinGroup_word (l g : Nat) : (s.joinGroup l g).firm.word = s.firm.word := by
  simp [State.joinGroup]

theorem execBlLaneJoin_word (l : Lane) : SameWord s (execBlLaneJoin l s) := by simp [execBlLaneJoin]
theorem execBondingHoldReset_word (l : Lane) : SameWord s (execBondingHoldReset l s) := by simp [execBondingHoldReset]
@[simp] theorem State.resync_word (g seq : Nat) : (s.resync g seq).firm.word = s.firm.word := by simp [State.resync]

@[simp] theorem State.farState_word (g cfgMask window nextSeq : Nat) :
    (s.farState g cfgMask window nextSeq).firm.word = s.firm.word := by
  unfold State.farState
  split <;> simp

@[simp] theorem State.actCtrl_word (g : Nat) (b : CtrlBody) : (s.actCtrl g b).firm.word = s.firm.word := by
  unfold State.actCtrl
  split <;> simp

@[simp] theorem State.ctrlAcked_word (g : Nat) (b : CtrlBody) : (s.ctrlAcked g b).firm.word = s.firm.word := by
  unfold State.ctrlAcked
  split <;> simp

theorem execBondingControlMessage_word (l : Lane) (msg : CtrlMsg) : SameWord s (execBondingControlMessage l msg s) := by
  simp only [execBondingControlMessage]
  split
  · simp
  · split
    · split <;> simp
    · simp

theorem execBondingControlResend_word (g : Fin 64) (msgSeq : Nat) :
    SameWord s (execBondingControlResend g msgSeq s) := by
  unfold execBondingControlResend
  split <;> simp

theorem execGroupState_word (g : Fin 64) : SameWord s (execGroupState g s) := by simp [execGroupState]

@[simp] theorem State.enterDown_word (id : Nat) (frame : List Byte) :
    (s.enterDown id frame).firm.word = s.firm.word := by
  simp only [State.enterDown]
  split
  · simp
  · split <;> simp

@[simp] theorem State.tagErr_word (g : Nat) : (s.tagErr g).firm.word = s.firm.word := by simp [State.tagErr]

@[simp] theorem State.assemble_word (g : Nat) (f : HeldFrag) : (s.assemble g f).firm.word = s.firm.word := by
  simp only [State.assemble]
  split
  · simp
  · split <;> simp

@[simp] theorem State.releaseHeld_word (g n : Nat) : (s.releaseHeld g n).firm.word = s.firm.word := by
  induction n generalizing s with
  | zero => rfl
  | succ n ih =>
    simp only [State.releaseHeld]
    split
    · rfl
    · split <;> simp [ih]

@[simp] theorem State.retime_word (g : Nat) : (s.retime g).firm.word = s.firm.word := by simp [State.retime]

@[simp] theorem State.releaseFrom_word (g : Nat) : (s.releaseFrom g).firm.word = s.firm.word := by
  simp [State.releaseFrom]

@[simp] theorem State.windowExpire_word (g : Nat) : (s.windowExpire g).firm.word = s.firm.word := by
  simp only [State.windowExpire]
  split
  · simp
  · split <;> simp

theorem execReseqWindowExpiry_word (g : Fin 64) : SameWord s (execReseqWindowExpiry g s) := by
  simp [execReseqWindowExpiry]

@[simp] theorem State.holdFrag_word (g : Nat) (f : HeldFrag) : (s.holdFrag g f).firm.word = s.firm.word := by
  simp [State.holdFrag]

@[simp] theorem State.placeFrag_word (g : Nat) (f : HeldFrag) : (s.placeFrag g f).firm.word = s.firm.word := by
  unfold State.placeFrag
  split <;> simp

@[simp] theorem State.fragment_word (g : Nat) (f : HeldFrag) : (s.fragment g f).firm.word = s.firm.word := by
  unfold State.fragment
  split <;> simp

@[simp] theorem State.bondedXgem_word (id : Nat) (lf : Bool) (payload : List Byte) :
    (s.bondedXgem id lf payload).firm.word = s.firm.word := by simp [State.bondedXgem]

/-! ### Sys2Proof/Machine/Line -/

@[simp] theorem State.toO1_word (l : Nat) : (s.toO1 l).firm.word = s.firm.word := by simp [State.toO1]

@[simp] theorem State.storeO7_word (l : Nat) (on : Bool) : (s.storeO7 l on).firm.word = s.firm.word := by
  simp [State.storeO7]

@[simp] theorem State.toO7_word (l : Nat) : (s.toO7 l).firm.word = s.firm.word := by simp [State.toO7]

@[simp] theorem State.lineLost_word (l : Nat) : (s.lineLost l).firm.word = s.firm.word := by
  unfold State.lineLost
  split <;> simp

@[simp] theorem State.loseSync_word (l : Nat) : (s.loseSync l).firm.word = s.firm.word := by simp [State.loseSync]
theorem execLnLos_word (l : Lane) (declared : Bool) : SameWord s (execLnLos l declared s) := by simp [execLnLos]
theorem execLnLods_word (l : Lane) : SameWord s (execLnLods l s) := by simp [execLnLods]

@[simp] theorem State.setPart_word (l port : Nat) (p : Option (List Byte × Bool)) :
    (s.setPart l port p).firm.word = s.firm.word := by simp [State.setPart]

@[simp] theorem State.breakPart_word (l : Nat) (x : XgemFrame) : (s.breakPart l x).firm.word = s.firm.word := by
  simp [State.breakPart]

@[simp] theorem State.xgemPayload_word (l : Nat) (x : XgemFrame) (data : List Byte) :
    (s.xgemPayload l x data).firm.word = s.firm.word := by
  simp only [State.xgemPayload]
  split
  · simp
  · split <;> simp

@[simp] theorem State.followKey_word (l slot : Nat) (x : XgemFrame) :
    (s.followKey l slot x).firm.word = s.firm.word := by
  simp [State.followKey]

@[simp] theorem State.xgemKey_word (l n : Nat) (x : XgemFrame) : (s.xgemKey l n x).1.firm.word = s.firm.word := by
  simp [State.xgemKey]

@[simp] theorem State.xgemFrame_word (l n : Nat) (x : XgemFrame) : (s.xgemFrame l n x).firm.word = s.firm.word := by
  simp only [State.xgemFrame]
  split
  · simp
  · split
    · simp
    · split
      · simp
      · split
        · simp
        · split <;> simp

@[simp] theorem State.xgemFrames_word (l n : Nat) (xs : List XgemFrame) :
    (s.xgemFrames l n xs).firm.word = s.firm.word := by
  induction xs generalizing n s with
  | nil => rfl
  | cons x t ih => simp [State.xgemFrames, ih]

@[simp] theorem State.gainSync_word (l : Nat) : (s.gainSync l).firm.word = s.firm.word := by simp [State.gainSync]

@[simp] theorem State.syncAct_word (l : Nat) : (s.syncAct l).firm.word = s.firm.word := by
  simp only [State.syncAct]
  split
  · simp
  · split <;> simp

@[simp] theorem State.fecSeen_word (l codewords corrected uncorrectable : Nat) :
    (s.fecSeen l codewords corrected uncorrectable).firm.word = s.firm.word := by simp [State.fecSeen]

theorem execDownstreamFrame_word (f : DsFrame) : SameWord s (execDownstreamFrame f s) := by simp [execDownstreamFrame]

@[simp] theorem State.queuePloam_word (l : Nat) (m : PloamUp) : (s.queuePloam l m).firm.word = s.firm.word := by
  simp [State.queuePloam]

@[simp] theorem ackTo_word (h : PloamHdr) (code : Nat) : (ackTo h code s).2.firm.word = s.firm.word := by simp [ackTo]

@[simp] theorem doProfile_word (l : Nat) (h : PloamHdr) (index preamble delimiter : Nat) (fec complete : Bool) :
    (doProfile l h index preamble delimiter fec complete s).2.firm.word = s.firm.word := by simp [doProfile]

@[simp] theorem doOnuId_word (l : Nat) (serial : BitVec 64) (onuId : Nat) :
    (doOnuId l serial onuId s).2.firm.word = s.firm.word := by
  unfold doOnuId
  split <;> simp

@[simp] theorem State.setEqd_word (l bits : Nat) : (s.setEqd l bits).firm.word = s.firm.word := by simp [State.setEqd]

@[simp] theorem doRanging_word (l : Nat) (h : PloamHdr) (absolute negative : Bool) (bits : Nat) :
    (doRanging l h absolute negative bits s).2.firm.word = s.firm.word := by simp [doRanging]

@[simp] theorem doDeactivate_word (l : Nat) : (doDeactivate l s).2.firm.word = s.firm.word := by
  unfold doDeactivate
  split <;> simp

@[simp] theorem doDisable_word (l : Nat) (enable : Bool) (serial : BitVec 64) :
    (doDisable l enable serial s).2.firm.word = s.firm.word := by simp [doDisable]

@[simp] theorem doRegistration_word (l : Nat) : (doRegistration l s).2.firm.word = s.firm.word := by
  unfold doRegistration
  split <;> simp

@[simp] theorem doAlloc_word (l : Nat) (h : PloamHdr) (allocId : Nat) (remove : Bool) :
    (doAlloc l h allocId remove s).2.firm.word = s.firm.word := by
  simp only [doAlloc]
  split
  · rfl
  · split
    · split
      · simp
      · rw [ackTo_word, State.actEvent_firm]
        split <;> simp
    · split
      · simp
      · split
        · simp
        · rw [ackTo_word, State.actEvent_firm]
          split <;> simp

@[simp] theorem doKey_word (l : Nat) (h : PloamHdr) (generate : Bool) (b : BankNo) :
    (doKey l h generate b s).2.firm.word = s.firm.word := by
  simp only [doKey]
  split
  · simp
  · split
    · simp
    · split <;> simp

@[simp] theorem doUnknown_word (h : PloamHdr) (ackRequired : Bool) :
    (doUnknown h ackRequired s).2.firm.word = s.firm.word := by
  unfold doUnknown
  split <;> simp

@[simp] theorem doPloam_word (l : Nat) (h : PloamHdr) (m : PloamMsg) : (doPloam l h m s).2.firm.word = s.firm.word := by
  unfold doPloam
  split <;> simp

@[simp] theorem State.remember_word (l : Nat) (h : PloamHdr) (m : PloamMsg) (resp : Option PloamUp) :
    (s.remember l h m resp).firm.word = s.firm.word := by simp [State.remember]

@[simp] theorem State.respond_word (l : Nat) (r : Option PloamUp) : (s.respond l r).firm.word = s.firm.word := by
  unfold State.respond
  split <;> simp

@[simp] theorem State.ploamOnce_word (l : Nat) (h : PloamHdr) (m : PloamMsg) :
    (s.ploamOnce l h m).firm.word = s.firm.word := by
  unfold State.ploamOnce
  split <;> simp

@[simp] theorem State.ploamIn_word (l : Nat) (h : PloamHdr) (m : PloamMsg) :
    (s.ploamIn l h m).firm.word = s.firm.word := by simp [State.ploamIn]

theorem execBurstProfile_word (l : Lane) (h : PloamHdr) (index : Fin 4) (preamble delimiter : Nat)
    (flags : ProfileFlags) : SameWord s (execBurstProfile l h index preamble delimiter flags s) := by
  simp [execBurstProfile]

theorem execAssignOnuId_word (l : Lane) (h : PloamHdr) (serial : BitVec 64) (onuId : Nat) :
    SameWord s (execAssignOnuId l h serial onuId s) := by simp [execAssignOnuId]

theorem execRangingTime_word (l : Lane) (h : PloamHdr) (absolute negative : Bool) (bits : Nat) :
    SameWord s (execRangingTime l h absolute negative bits s) := by simp [execRangingTime]

theorem execDeactivateOnuId_word (l : Lane) (h : PloamHdr) : SameWord s (execDeactivateOnuId l h s) := by
  simp [execDeactivateOnuId]

theorem execDisableSerialNumber_word (l : Lane) (h : PloamHdr) (enable : Bool) (serial : BitVec 64) :
    SameWord s (execDisableSerialNumber l h enable serial s) := by simp [execDisableSerialNumber]

theorem execRequestRegistration_word (l : Lane) (h : PloamHdr) : SameWord s (execRequestRegistration l h s) := by
  simp [execRequestRegistration]

theorem execAssignAllocId_word (l : Lane) (h : PloamHdr) (allocId : Nat) (remove : Bool) :
    SameWord s (execAssignAllocId l h allocId remove s) := by simp [execAssignAllocId]

theorem execKeyControl_word (l : Lane) (h : PloamHdr) (generate : Bool) (bank : BankNo) :
    SameWord s (execKeyControl l h generate bank s) := by simp [execKeyControl]

theorem execSleepAllow_word (l : Lane) (h : PloamHdr) : SameWord s (execSleepAllow l h s) := by simp [execSleepAllow]

theorem execPloamUnknownType_word (l : Lane) (h : PloamHdr) (code : Nat) (ackRequired : Bool) :
    SameWord s (execPloamUnknownType l h code ackRequired s) := by simp [execPloamUnknownType]

theorem execPloamDuplicate_word (l : Lane) (h : PloamHdr) (msg : PloamMsg) :
    SameWord s (execPloamDuplicate l h msg s) := by simp [execPloamDuplicate]

theorem execPloamMicFail_word (l : Lane) : SameWord s (execPloamMicFail l s) := by simp [execPloamMicFail]

@[simp] theorem State.replayPloam_word (l : Nat) : (s.replayPloam l).firm.word = s.firm.word := by
  simp [State.replayPloam]

theorem execTo1Expiry_word (l : Lane) : SameWord s (execTo1Expiry l s) := by simp [execTo1Expiry]
theorem execTo2Expiry_word (l : Lane) : SameWord s (execTo2Expiry l s) := by simp [execTo2Expiry]

@[simp] theorem State.deliverOmci_word (n : Nat) : (s.deliverOmci n).firm.word = s.firm.word := by
  induction n generalizing s with
  | zero => rfl
  | succ n ih =>
    simp only [State.deliverOmci]
    split <;> simp [ih]

@[simp] theorem State.flushOmci_word : s.flushOmci.firm.word = s.firm.word := by simp [State.flushOmci]

theorem execOmciDownstream_word (l : Lane) (msg mic : List Byte) : SameWord s (execOmciDownstream l msg mic s) := by
  simp [execOmciDownstream]

theorem execSdSfWindow_word (l : Lane) (codewords corrected uncorrectable : Nat) :
    SameWord s (execSdSfWindow l codewords corrected uncorrectable s) := by simp [execSdSfWindow]

theorem execRssiTrig_word (l : Lane) : SameWord s (execRssiTrig l s) := by simp [execRssiTrig]
theorem execLnRogue_word (l : Lane) : SameWord s (execLnRogue l s) := by simp [execLnRogue]

theorem execRogueGuardRelease_word (l : Lane) : SameWord s (execRogueGuardRelease l s) := by
  simp [execRogueGuardRelease]

end Sys2Proof.Machine
end

section
/-!
# Where Tide stands: the ring, membership and admission
-/
namespace Sys2Proof.Machine

-- One theorem after another: the stacks of many that wait at once would exceed the memory of the check.
set_option Elab.async false

variable (s : State)

/-! ### Sys2Proof/Machine/Ring -/

@[simp] theorem State.rgEvent_word (d k detail : Nat) : (s.rgEvent d k detail).firm.word = s.firm.word := by
  simp [State.rgEvent]

@[simp] theorem State.rgFirst_word (d k : Nat) : (s.rgFirst d k).firm.word = s.firm.word := by simp [State.rgFirst]

@[simp] theorem State.modRlane_word (d n : Nat) (f : RingLane → RingLane) :
    (s.modRlane d n f).firm.word = s.firm.word := by simp [State.modRlane]

@[simp] theorem State.rework_word : s.rework.firm.word = s.firm.word := by simp [State.rework]

@[simp] theorem State.modLink_word (src dst c : Nat) (f : CreditLink → CreditLink) :
    (s.modLink src dst c f).firm.word = s.firm.word := by simp [State.modLink]

@[simp] theorem State.modEnd_word (src dst c : Nat) (f : CreditEnd → CreditEnd) :
    (s.modEnd src dst c f).firm.word = s.firm.word := by simp [State.modEnd]

@[simp] theorem State.initCredits_word (n : Nat) : (s.initCredits n).firm.word = s.firm.word := by
  simp [State.initCredits]

@[simp] theorem State.creditBack_word (r : CreditRec) : (s.creditBack r).firm.word = s.firm.word := by
  simp [State.creditBack]

@[simp] theorem State.putReturn_word (d : Nat) (r : CreditRec) : (s.putReturn d r).firm.word = s.firm.word := by
  simp [State.putReturn]

@[simp] theorem State.consume_word (c : Container) : (s.consume c).firm.word = s.firm.word := by simp [State.consume]

@[simp] theorem State.reinitLink_word (dst c : Nat) : (s.reinitLink dst c).firm.word = s.firm.word := by
  simp [State.reinitLink]

@[simp] theorem State.reinitWhere_word (p : Nat → Bool) : (s.reinitWhere p).firm.word = s.firm.word := by
  simp [State.reinitWhere]

@[simp] theorem State.onReinit_word (src : Nat) (c : Fin 8) : (s.onReinit src c).firm.word = s.firm.word := by
  simp [State.onReinit]

@[simp] theorem State.onReinitAck_word (dst c consumed : Nat) :
    (s.onReinitAck dst c consumed).firm.word = s.firm.word := by simp [State.onReinitAck]

theorem execCreditReinit_word (src : NodeNo) (cclass : Fin 8) (sent : Nat) :
    SameWord s (execCreditReinit src cclass sent s) := by simp [execCreditReinit]

theorem execCreditReinitAck_word (dst : NodeNo) (cclass : Fin 8) (consumed : Nat) :
    SameWord s (execCreditReinitAck dst cclass consumed s) := by simp [execCreditReinitAck]

@[simp] theorem State.releaseBypass_word : s.releaseBypass.firm.word = s.firm.word := by simp [State.releaseBypass]
theorem execBypassRelease_word : SameWord s (execBypassRelease s) := by simp [execBypassRelease]
@[simp] theorem State.train_word (d : Nat) : (s.train d).firm.word = s.firm.word := by simp [State.train]
@[simp] theorem State.setReq_word (d : Nat) : (s.setReq d).firm.word = s.firm.word := by simp [State.setReq]

@[simp] theorem State.enterDefect_word (d : Nat) (sd : Bool) : (s.enterDefect d sd).firm.word = s.firm.word := by
  simp [State.enterDefect]

@[simp] theorem State.setCond_word (d : Nat) (c : RingDefect) (on : Bool) :
    (s.setCond d c on).firm.word = s.firm.word := by
  unfold State.setCond
  split <;> simp

@[simp] theorem State.declare_word (d : Nat) (c : RingDefect) : (s.declare d c).firm.word = s.firm.word := by
  unfold State.declare
  split <;> simp

@[simp] theorem State.timingCheck_word : s.timingCheck.firm.word = s.firm.word := by simp [State.timingCheck]

theorem execRingDefect_word (side : Side) (d : RingDefect) : SameWord s (execRingDefect side d s) := by
  simp [execRingDefect]

@[simp] theorem State.timingSide_word : s.timingSide.firm.word = s.firm.word := by simp [State.timingSide]
@[simp] theorem State.unwrap_word (d : Nat) : (s.unwrap d).firm.word = s.firm.word := by simp [State.unwrap]
@[simp] theorem State.afterClear_word (d : Nat) : (s.afterClear d).firm.word = s.firm.word := by simp [State.afterClear]

theorem execRingDefectClear_word (side : Side) (d : RingDefect) : SameWord s (execRingDefectClear side d s) := by
  simp [execRingDefectClear]

theorem execRingWrap_word (side : Side) : SameWord s (execRingWrap side s) := by simp [execRingWrap]
theorem execWtrExpiry_word (side : Side) : SameWord s (execWtrExpiry side s) := by simp [execWtrExpiry]

@[simp] theorem State.acceptReq_word (d : Nat) (r : Nat × Nat × Bool) : (s.acceptReq d r).firm.word = s.firm.word := by
  simp [State.acceptReq]

@[simp] theorem State.srq_word (d : Nat) (f : RingHead) : (s.srq d f).firm.word = s.firm.word := by simp [State.srq]

@[simp] theorem State.acceptLabel_word (d l : Nat) : (s.acceptLabel d l).firm.word = s.firm.word := by
  simp [State.acceptLabel]

@[simp] theorem State.labelIn_word (d : Nat) (f : RingHead) : (s.labelIn d f).firm.word = s.firm.word := by
  simp [State.labelIn]

@[simp] theorem State.passOn_word (d : Nat) (c : Container) : (s.passOn d c).firm.word = s.firm.word := by
  simp [State.passOn]

@[simp] theorem State.setReasm_word (k : Nat) (r : Option Reasm) : (s.setReasm k r).firm.word = s.firm.word := by
  simp [State.setReasm]

@[simp] theorem State.freeRing_word (n : Nat) : (s.freeRing n).firm.word = s.firm.word := by simp [State.freeRing]

@[simp] theorem State.dropReasm_word (k : Nat) : (s.dropReasm k).firm.word = s.firm.word := by
  unfold State.dropReasm
  split <;> simp

@[simp] theorem State.linkRing_word (r : Reasm) (check : W32) : (s.linkRing r check).firm.word = s.firm.word := by
  simp [State.linkRing]

@[simp] theorem State.addCell_word (k : Nat) (c : Container) (r : Reasm) :
    (s.addCell k c r).firm.word = s.firm.word := by
  simp only [State.addCell]
  split
  · simp
  · split <;> simp

@[simp] theorem State.takeContainer_word (d : Nat) (c : Container) : (s.takeContainer d c).firm.word = s.firm.word := by
  simp only [State.takeContainer]
  split
  · simp
  · split
    · simp
    · split <;> simp

@[simp] theorem State.containerIn_word (d : Nat) (c : Container) : (s.containerIn d c).firm.word = s.firm.word := by
  simp [State.containerIn]

@[simp] theorem State.containersIn_word (d : Nat) (cs : List Container) :
    (s.containersIn d cs).firm.word = s.firm.word := by
  induction cs generalizing s with
  | nil => rfl
  | cons x t ih => simp [State.containersIn, ih]

@[simp] theorem State.bipCheck_word (d n : Nat) : (s.bipCheck d n).firm.word = s.firm.word := by simp [State.bipCheck]

@[simp] theorem State.overhead_word (d n : Nat) (h : RingHead) (was : RingLane) (rx : PtrRead) :
    (s.overhead d n h was rx).firm.word = s.firm.word := by simp [State.overhead]

@[simp] theorem State.mergeContainers_word (d : Nat) : (s.mergeContainers d).1.firm.word = s.firm.word := by
  simp [State.mergeContainers]

@[simp] theorem State.mergeSlots_word (d : Nat) : (s.mergeSlots d).1.firm.word = s.firm.word := by
  simp [State.mergeSlots]

@[simp] theorem State.slotsIn_word (d : Nat) (cs : List (List Byte)) : (s.slotsIn d cs).1.firm.word = s.firm.word := by
  induction cs generalizing s with
  | nil => rfl
  | cons x t ih => simp [State.slotsIn, ih]

@[simp] theorem State.laneLost_word (d n : Nat) : (s.laneLost d n).firm.word = s.firm.word := by simp [State.laneLost]
@[simp] theorem State.laneLof_word (d n : Nat) : (s.laneLof d n).firm.word = s.firm.word := by simp [State.laneLof]

@[simp] theorem State.laneIn_word (d n no : Nat) (rx : PtrRead) (data : List Byte) (slot : List Byte) :
    (s.laneIn d n no rx data slot).firm.word = s.firm.word := by simp [State.laneIn]

@[simp] theorem State.frameIn_word (d n : Nat) (b : List Byte) (was : RingLane) :
    (s.frameIn d n b was).firm.word = s.firm.word := by simp [State.frameIn]

@[simp] theorem State.ringFrame_word (d n : Nat) (wire : List Byte) :
    (s.ringFrame d n wire).1.firm.word = s.firm.word := by simp [State.ringFrame]

theorem execRgPtrJump_word (side : Side) (lane : Fin 2) (value : Nat) :
    SameWord s (execRgPtrJump side lane value s) := by
  simp [execRgPtrJump]

@[simp] theorem State.sendTransit_word (d c : Nat) (x : Container) : (s.sendTransit d c x).firm.word = s.firm.word := by
  simp [State.sendTransit]

@[simp] theorem State.sendLocal_word (d c q turns : Nat) (e : Ecc) :
    (s.sendLocal d c q turns e).1.firm.word = s.firm.word := by
  unfold State.sendLocal
  split <;> simp

theorem State.sendClass_word {d c : Nat} {ecc : List Ecc} {s : State} {r : State × Option Container × List Ecc}
    (h : s.sendClass d c ecc = some r) : r.1.firm.word = s.firm.word := by
  simp only [State.sendClass] at h
  split at h
  · cases h; simp
  · cases h; simp
  · split at h <;> cases h <;> simp
  · cases h

@[simp] theorem State.fillRing_word (d n : Nat) (ecc : List Ecc) : (s.fillRing d n ecc).1.firm.word = s.firm.word := by
  induction n generalizing ecc s with
  | zero => rfl
  | succ n ih =>
    simp only [State.fillRing]
    split
    · rfl
    next r h =>
      have hr : r.1.firm.word = s.firm.word := by
        simp only [Option.orElse_eq_or, Option.or_eq_some_iff] at h
        obtain ((h | ⟨_, h⟩) | ⟨_, h⟩) | ⟨_, h⟩ := h <;> exact State.sendClass_word h
      rw [ih, hr]

@[simp] theorem State.sendLane_word (d n just : Nat) (cs : List Container) (cr : List CreditRec) (slot : List Byte) :
    (s.sendLane d n just cs cr slot).firm.word = s.firm.word := by simp [State.sendLane]

@[simp] theorem State.takeSlot_word (d : Nat) : (s.takeSlot d).1.firm.word = s.firm.word := by
  unfold State.takeSlot
  split <;> simp

@[simp] theorem State.sendFrames_word (d j : Nat) (ecc : List Ecc) :
    (s.sendFrames d j ecc).firm.word = s.firm.word := by
  simp [State.sendFrames]

/-! ### Sys2Proof/Machine/Join -/

@[simp] theorem State.setJoin_word (f : JoinState → JoinState) : (s.setJoin f).firm.word = s.firm.word := by
  simp [State.setJoin]

@[simp] theorem State.joinSend_word (d dst : Nat) (body : DccBody) :
    (s.joinSend d dst body).firm.word = s.firm.word := by
  simp [State.joinSend]

@[simp] theorem State.dropFrom_word (n : Nat) : (s.dropFrom n).firm.word = s.firm.word := by simp [State.dropFrom]

@[simp] theorem State.flushToward_word (n : Nat) : (s.flushToward n).firm.word = s.firm.word := by
  simp [State.flushToward]

@[simp] theorem State.faultNode_word (n : Nat) : (s.faultNode n).firm.word = s.firm.word := by
  refine State.word_foldl (fun t m => ?_) _ s
  simp only
  split <;> simp

@[simp] theorem State.setSummary_word (n : Nat) (on : Bool) : (s.setSummary n on).firm.word = s.firm.word := by
  simp [State.setSummary]

@[simp] theorem State.nodeLeave_word (n : Nat) : (s.nodeLeave n).firm.word = s.firm.word := by simp [State.nodeLeave]
theorem execLeave_word (n : NodeNo) : SameWord s (execLeave n s) := by simp [execLeave]

theorem execWorkerGoneTimeout_word (n : NodeNo) : SameWord s (execWorkerGoneTimeout n s) := by
  simp [execWorkerGoneTimeout]

@[simp] theorem State.enrol_word (n : Nat) (moved : Bool) (q : JoinRequest) :
    (s.enrol n moved q).firm.word = s.firm.word := by simp [State.enrol]

@[simp] theorem State.refuseJoin_word (reason : Nat) (q : JoinRequest) :
    (s.refuseJoin reason q).firm.word = s.firm.word := by simp [State.refuseJoin]

@[simp] theorem State.chainFull_word (q : JoinRequest) : (s.chainFull q).firm.word = s.firm.word := by
  simp [State.chainFull]

@[simp] theorem State.decideJoin_word (q : JoinRequest) : (s.decideJoin q).firm.word = s.firm.word := by
  simp only [State.decideJoin]
  split
  · simp
  · split
    · simp
    · split
      · simp
      · split
        · simp
        · split
          · simp
          · split <;> simp

@[simp] theorem State.onJoinReq_word (q : JoinRequest) : (s.onJoinReq q).firm.word = s.firm.word := by
  simp only [State.onJoinReq]
  split
  · simp
  · split
    · simp
    · split <;> simp

theorem execJoinReq_word (r : JoinRequest) : SameWord s (execJoinReq r s) := by simp [execJoinReq]

theorem execJoinCollectionEnd_word : SameWord s (execJoinCollectionEnd s) := by
  unfold execJoinCollectionEnd
  split <;> simp

@[simp] theorem State.sendParts_word (n : Nat) : (s.sendParts n).firm.word = s.firm.word := by simp [State.sendParts]
@[simp] theorem State.nodeJoined_word (n : Nat) : (s.nodeJoined n).firm.word = s.firm.word := by simp [State.nodeJoined]
theorem execJoinComplete_word (n : NodeNo) : SameWord s (execJoinComplete n s) := by simp [execJoinComplete]
theorem execJoinHoldoffReset_word (n : NodeNo) : SameWord s (execJoinHoldoffReset n s) := by simp [execJoinHoldoffReset]
@[simp] theorem State.joinFail_word : s.joinFail.firm.word = s.firm.word := by simp [State.joinFail]
@[simp] theorem State.joinBegin_word : s.joinBegin.firm.word = s.firm.word := by simp [State.joinBegin]
theorem execJoinAttemptStart_word : SameWord s (execJoinAttemptStart s) := by simp [execJoinAttemptStart]
theorem execJoinHoldoffExpiry_word : SameWord s (execJoinHoldoffExpiry s) := by simp [execJoinHoldoffExpiry]
theorem execJoinAttemptTimeout_word : SameWord s (execJoinAttemptTimeout s) := by simp [execJoinAttemptTimeout]

@[simp] theorem State.onAccept_word (n gen : Nat) (nonce : BitVec 64) (chain : BitVec 128) :
    (s.onAccept n gen nonce chain).firm.word = s.firm.word := by simp [State.onAccept]

theorem execJoinAccept_word (number : NodeNo) (a : JoinGrant) : SameWord s (execJoinAccept number a s) := by
  simp [execJoinAccept]

@[simp] theorem State.onRefuse_word (reason : Nat) : (s.onRefuse reason).firm.word = s.firm.word := by
  simp [State.onRefuse]

theorem execJoinRefuse_word (reason : Nat) : SameWord s (execJoinRefuse reason s) := by simp [execJoinRefuse]
theorem execManagerLost_word : SameWord s (execManagerLost s) := by simp [execManagerLost]
theorem execHello_word : SameWord s (execHello s) := by simp [execHello]

@[simp] theorem State.sendImage_word (d n : Nat) : (s.sendImage d n).firm.word = s.firm.word := by
  simp [State.sendImage]

theorem execImgReq_word (n : NodeNo) : SameWord s (execImgReq n s) := by simp [execImgReq]

@[simp] theorem State.onBlock_word (n : Nat) (b : List Byte) : (s.onBlock n b).firm.word = s.firm.word := by
  simp [State.onBlock]

@[simp] theorem State.unreachable_word (n : Nat) : (s.unreachable n).firm.word = s.firm.word := by
  simp [State.unreachable]

theorem execDccRetransmit_word (peer : NodeNo) (msgSeq : Nat) : SameWord s (execDccRetransmit peer msgSeq s) := by
  simp only [execDccRetransmit]
  split <;> simp

@[simp] theorem State.pump_word (n k : Nat) : (s.pump n k).firm.word = s.firm.word := by
  induction k generalizing s with
  | zero => rfl
  | succ k ih =>
    simp only [State.pump]
    split <;> simp [ih]

@[simp] theorem State.dccAcked_word (n ack : Nat) : (s.dccAcked n ack).firm.word = s.firm.word := by
  simp only [State.dccAcked]
  split <;> simp

/-! ### Sys2Proof/Machine/Ledger -/

@[simp] theorem State.auditCells_word : s.auditCells.firm.word = s.firm.word := by simp [State.auditCells]

@[simp] theorem State.auditLink_word (n c : Nat) : (s.auditLink n c).firm.word = s.firm.word := by
  simp [State.auditLink]

@[simp] theorem State.auditCredits_word : s.auditCredits.firm.word = s.firm.word := by simp [State.auditCredits]
@[simp] theorem State.auditQueue_word (q : Nat) : (s.auditQueue q).firm.word = s.firm.word := by simp [State.auditQueue]

@[simp] theorem State.auditPolicer_word (k : Nat) : (s.auditPolicer k).firm.word = s.firm.word := by
  simp [State.auditPolicer]

@[simp] theorem State.auditTokens_word : s.auditTokens.firm.word = s.firm.word := by simp [State.auditTokens]

/-! ### Sys2Proof/Machine/Admit -/

@[simp] theorem State.evtTo_word (m src obj : Nat) : (s.evtTo m src obj).firm.word = s.firm.word := by
  simp [State.evtTo]

@[simp] theorem State.raiseList_word (src : Nat) (l : List Nat) : (s.raiseList src l).firm.word = s.firm.word := by
  unfold State.raiseList
  split
  · rfl
  · simp only
    rw [State.word_foldl, State.raise_firm]
    intro u b
    split <;> simp

@[simp] theorem State.shedObj_word (o : Nat) : (s.shedObj o).firm.word = s.firm.word := by simp [State.shedObj]
@[simp] theorem State.restoreObj_word (o : Nat) : (s.restoreObj o).firm.word = s.firm.word := by simp [State.restoreObj]
@[simp] theorem State.rerun_word (restore : Bool) : (s.rerun restore).firm.word = s.firm.word := by simp [State.rerun]

end Sys2Proof.Machine
end

section
/-!
# Where Tide stands: resets, power and starts
-/
namespace Sys2Proof.Machine

-- One theorem after another: the stacks of many that wait at once would exceed the memory of the check.
set_option Elab.async false

variable (s : State)

/-! ### Sys2Proof/Machine/Reset -/

@[simp] theorem State.afterReset_word : s.afterReset.firm.word = s.firm.word := by simp [State.afterReset]
@[simp] theorem State.latchRole_word : s.latchRole.firm.word = s.firm.word := by simp [State.latchRole]

@[simp] theorem State.setWake_word (f : WakeRecord → WakeRecord) : (s.setWake f).firm.word = s.firm.word := by
  simp [State.setWake]

@[simp] theorem State.railFault_word (k phase : Nat) (void : Bool) :
    (s.railFault k phase void).firm.word = s.firm.word := by simp [State.railFault]

@[simp] theorem State.setPower_word (f : Power → Power) : (s.setPower f).firm.word = s.firm.word := by
  simp [State.setPower]

@[simp] theorem State.railOn_word (k : Nat) : (s.railOn k).firm.word = s.firm.word := by simp [State.railOn]
@[simp] theorem State.railOff_word (k : Nat) : (s.railOff k).firm.word = s.firm.word := by simp [State.railOff]
@[simp] theorem State.railsUp_word : s.railsUp.firm.word = s.firm.word := by simp [State.railsUp]
@[simp] theorem State.clocksOff_word : s.clocksOff.firm.word = s.firm.word := by simp [State.clocksOff]
@[simp] theorem State.rewindEvery_word : s.rewindEvery.firm.word = s.firm.word := by simp [State.rewindEvery]

@[simp] theorem State.lanesDark_word (which : Nat → Bool) : (s.lanesDark which).firm.word = s.firm.word := by
  simp [State.lanesDark]

@[simp] theorem State.portsHold_word : s.portsHold.firm.word = s.firm.word := by simp [State.portsHold]
@[simp] theorem State.ringDark_word : s.ringDark.firm.word = s.firm.word := by simp [State.ringDark]
@[simp] theorem State.goDark_word : s.goDark.firm.word = s.firm.word := by simp [State.goDark]

@[simp] theorem State.entryWake_word (cause wake timer : Nat) (thermal : Bool) :
    (s.entryWake cause wake timer thermal).firm.word = s.firm.word := by simp [State.entryWake]

/-! ### Sys2Proof/Machine/Cistern -/

@[simp] theorem State.setCs_word (f : Cistern → Cistern) : (s.setCs f).firm.word = s.firm.word := by simp [State.setCs]
@[simp] theorem State.flushLog_word (vin : Bool) : (s.flushLog vin).firm.word = s.firm.word := by simp [State.flushLog]
@[simp] theorem State.lswStart_word (k : Nat) : (s.lswStart k).firm.word = s.firm.word := by simp [State.lswStart]

@[simp] theorem State.lswDrop_word (k : Nat) (st : LswState) : (s.lswDrop k st).firm.word = s.firm.word := by
  simp [State.lswDrop]

@[simp] theorem State.lswNext_word : s.lswNext.firm.word = s.firm.word := by
  unfold State.lswNext
  split <;> simp

@[simp] theorem State.lswBegin_word : s.lswBegin.firm.word = s.firm.word := by simp [State.lswBegin]
theorem execLswOn_word (k : Fin 4) : SameWord s (execLswOn k s) := by simp [execLswOn]
theorem execLswFail_word (k : Fin 4) (cause : Fin 5) : SameWord s (execLswFail k cause s) := by simp [execLswFail]
theorem execLswRetryExpiry_word (k : Fin 4) : SameWord s (execLswRetryExpiry k s) := by simp [execLswRetryExpiry]

theorem execLswFailCountClear_word (k : Fin 4) : SameWord s (execLswFailCountClear k s) := by
  simp [execLswFailCountClear]

theorem execLswPres_word (k : Fin 4) : SameWord s (execLswPres k s) := by simp [execLswPres]
theorem execLswReinsertion_word (k : Fin 4) : SameWord s (execLswReinsertion k s) := by simp [execLswReinsertion]
@[simp] theorem State.charge_word : s.charge.firm.word = s.firm.word := by simp [State.charge]

@[simp] theorem State.dgReady_word (on : Bool) : (s.dgReady on).firm.word = s.firm.word := by
  simp only [State.dgReady]
  split
  · simp
  · split <;> simp

@[simp] theorem State.storeAbsent_word : s.storeAbsent.firm.word = s.firm.word := by simp [State.storeAbsent]

@[simp] theorem State.readiness_word (store : Nat) : (s.readiness store).firm.word = s.firm.word := by
  simp [State.readiness]

@[simp] theorem State.shedLoads_word : s.shedLoads.firm.word = s.firm.word := by simp [State.shedLoads]
@[simp] theorem State.portsGate_word : s.portsGate.firm.word = s.firm.word := by simp [State.portsGate]

@[simp] theorem State.vinSteps_word : s.vinSteps.firm.word = s.firm.word := by
  simp only [State.vinSteps]
  split
  · split <;> simp
  · split <;> simp

theorem execVinFail_word : SameWord s (execVinFail s) := by simp [execVinFail]
@[simp] theorem State.lswResume_word : s.lswResume.firm.word = s.firm.word := by simp [State.lswResume]

theorem execCisternMonitorSample_word (vinBall storeBall : Nat) :
    SameWord s (execCisternMonitorSample vinBall storeBall s) := by simp [execCisternMonitorSample]

theorem execProbeChargeStart_word : SameWord s (execProbeChargeStart s) := by simp [execProbeChargeStart]
theorem execProbeChargeEnd_word : SameWord s (execProbeChargeEnd s) := by simp [execProbeChargeEnd]
@[simp] theorem State.mgrShed_word : s.mgrShed.firm.word = s.firm.word := by simp [State.mgrShed]
theorem execCsMgrShed_word : SameWord s (execCsMgrShed s) := by simp [execCsMgrShed]
@[simp] theorem State.shedRestore_word : s.shedRestore.firm.word = s.firm.word := by simp [State.shedRestore]
theorem execWorkerShedRestore_word : SameWord s (execWorkerShedRestore s) := by simp [execWorkerShedRestore]

/-! ### Sys2Proof/Machine/Power -/

@[simp] theorem State.drained_word (e : Entry) : (s.drained e).firm.word = s.firm.word := by simp [State.drained]
@[simp] theorem State.enterNow_word (e : Entry) : (s.enterNow e).firm.word = s.firm.word := by simp [State.enterNow]
theorem execCpWaitHalt_word (irqPending : Bool) : SameWord s (execCpWaitHalt irqPending s) := by simp [execCpWaitHalt]
@[simp] theorem State.railsAreUp_word : s.railsAreUp.firm.word = s.firm.word := by simp [State.railsAreUp]

theorem execRailPowerGood_word (k : Fin 6) : SameWord s (execRailPowerGood k s) := by
  simp only [execRailPowerGood]
  split
  · simp
  · split
    · simp
    · split
      · simp
      · split <;> simp
    · simp

@[simp] theorem State.railsDrop_word : s.railsDrop.firm.word = s.firm.word := by simp [State.railsDrop]
theorem execPowerUpRetry_word : SameWord s (execPowerUpRetry s) := by simp [execPowerUpRetry]
@[simp] theorem State.thermalShed_word : s.thermalShed.firm.word = s.firm.word := by simp [State.thermalShed]
@[simp] theorem State.enterStep_word (k : Nat) : (s.enterStep k).firm.word = s.firm.word := by simp [State.enterStep]
@[simp] theorem State.thermalMoor_word : s.thermalMoor.firm.word = s.firm.word := by simp [State.thermalMoor]
@[simp] theorem State.stepsTo_word (n : Nat) : (s.stepsTo n).firm.word = s.firm.word := by simp [State.stepsTo]

@[simp] theorem State.sensors_word (l : List (Option Int)) : (s.sensors l).firm.word = s.firm.word := by
  simp [State.sensors]

@[simp] theorem State.stepCounts_word (tj : Option Int) : (s.stepCounts tj).firm.word = s.firm.word := by
  simp [State.stepCounts]

@[simp] theorem State.thermal_word (l : List (Option Int)) : (s.thermal l).firm.word = s.firm.word := by
  simp [State.thermal]

@[simp] theorem State.leaveStep_word (k : Nat) : (s.leaveStep k).firm.word = s.firm.word := by
  simp only [State.leaveStep]
  rw [State.word_ite, State.raise_firm, ite_self]
  split
  · rw [State.recheck_firm, State.word_foldl]
    · simp
    · intro t l
      split
      · split <;> simp
      · rfl
  · split <;> simp

theorem execThermalStepExit_word (step : Fin 4) : SameWord s (execThermalStepExit step s) := by
  simp [execThermalStepExit]

/-! ### Sys2Proof/Machine/Start -/

@[simp] theorem State.bootCipher_word : s.bootCipher.firm.word = s.firm.word := by simp [State.bootCipher]
@[simp] theorem State.newNonce_word : s.newNonce.firm.word = s.firm.word := by simp [State.newNonce]
@[simp] theorem State.ringStart_word : s.ringStart.firm.word = s.firm.word := by simp [State.ringStart]
@[simp] theorem State.commitStored_word : s.commitStored.firm.word = s.firm.word := by simp [State.commitStored]

@[simp] theorem State.imageRec_word (b : Bool) (what : Nat) : (s.imageRec b what).firm.word = s.firm.word := by
  simp [State.imageRec]

@[simp] theorem State.imageStart_word (e : Nat) : (s.imageStart e).firm.word = s.firm.word := by
  unfold State.imageStart
  split <;> simp

@[simp] theorem State.startEvents_word : s.startEvents.firm.word = s.firm.word := by simp [State.startEvents]
@[simp] theorem State.craftStart_word : s.craftStart.firm.word = s.firm.word := by simp [State.craftStart]
@[simp] theorem State.startCp_word : s.startCp.firm.word = s.firm.word := by simp [State.startCp]
@[simp] theorem State.startUp_word : s.startUp.firm.word = s.firm.word := by simp [State.startUp]
@[simp] theorem State.bootMarks_word : s.bootMarks.firm.word = s.firm.word := by simp [State.bootMarks]
@[simp] theorem State.bootBank_word (b : Bool) : (s.bootBank b).firm.word = s.firm.word := by simp [State.bootBank]

@[simp] theorem State.bootNone_word : s.bootNone.firm.word = s.firm.word := by
  unfold State.bootNone
  split <;> simp

@[simp] theorem State.bootByHeader_word : s.bootByHeader.firm.word = s.firm.word := by simp [State.bootByHeader]

@[simp] theorem State.boot_word : s.boot.firm.word = s.firm.word := by
  simp only [State.boot]
  split
  · simp
  · split
    · simp
    · split
      · simp
      · split <;> simp

theorem execNoValidBankRetry_word : SameWord s (execNoValidBankRetry s) := by simp [execNoValidBankRetry]
@[simp] theorem State.firstLock_word : s.firstLock.firm.word = s.firm.word := by simp [State.firstLock]
@[simp] theorem State.mooredLock_word : s.mooredLock.firm.word = s.firm.word := by simp [State.mooredLock]
@[simp] theorem State.resume_word : s.resume.firm.word = s.firm.word := by simp [State.resume]
theorem execRootLock_word : SameWord s (execRootLock s) := by simp [execRootLock]

theorem execThermalSample_word (t0 t1 t2 t3 : Option Int) : SameWord s (execThermalSample t0 t1 t2 t3 s) := by
  simp [execThermalSample]

theorem execResetNRelease_word : SameWord s (execResetNRelease s) := by simp [execResetNRelease]
@[simp] theorem State.abortTxn_word (m : Nat) : (s.abortTxn m).firm.word = s.firm.word := by simp [State.abortTxn]
@[simp] theorem State.stopOp_word (m seq : Nat) : (s.stopOp m seq).firm.word = s.firm.word := by simp [State.stopOp]

@[simp] theorem State.stopped_word (d : Deferred) : (s.stopped d).2.firm.word = s.firm.word := by
  unfold State.stopped
  split <;> simp

@[simp] theorem State.abortOp_word (m : Nat) (d : Deferred) : (s.abortOp m d).firm.word = s.firm.word := by
  simp [State.abortOp]

@[simp] theorem State.abortOps_word (m : Nat) : (s.abortOps m).firm.word = s.firm.word := by simp [State.abortOps]
@[simp] theorem State.warmRestart_word : s.warmRestart.firm.word = s.firm.word := by simp [State.warmRestart]
@[simp] theorem State.runImage_word : s.runImage.firm.word = s.firm.word := by simp [State.runImage]

@[simp] theorem State.reload_word : s.reload.firm.word = s.firm.word := by
  unfold State.reload
  split <;> simp

theorem execWarmRestartDone_word : SameWord s (execWarmRestartDone s) := by simp [execWarmRestartDone]
theorem execWatchdogRestart_word : SameWord s (execWatchdogRestart s) := by simp [execWatchdogRestart]
theorem execWatchdogCountClear_word : SameWord s (execWatchdogCountClear s) := by simp [execWatchdogCountClear]
theorem execConfirmWindowExpiry_word : SameWord s (execConfirmWindowExpiry s) := by simp [execConfirmWindowExpiry]

@[simp] theorem State.dropTransit_word (d : Nat) : (s.dropTransit d).firm.word = s.firm.word := by
  simp [State.dropTransit]

@[simp] theorem State.abortRing_word (d : Nat) : (s.abortRing d).firm.word = s.firm.word := by simp [State.abortRing]

end Sys2Proof.Machine
end

section
/-!
# Where Tide stands: requests
-/
namespace Sys2Proof.Machine

-- One theorem after another: the stacks of many that wait at once would exceed the memory of the check.
set_option Elab.async false

variable (s : State)

/-! ### Sys2Proof/Machine/Session -/

@[simp] theorem State.dropSeg_word (opc : Nat) (q : Req) : (s.dropSeg opc q).firm.word = s.firm.word := by
  simp [State.dropSeg]

@[simp] theorem State.serve_word {body : Req → State → Verdict} (h : ∀ q s, (body q s).sameWord) (opc : Nat)
    (q : Req) : (s.serve opc q body).firm.word = s.firm.word := by
  have hb := h q (s.dropSeg opc q)
  simp only [State.serve]
  split
  · simp
  · split
    · simp
    · split
      · simp
      next f hf =>
        rw [hf] at hb
        split
        · simp
        · rw [hb, State.dropSeg_word]

@[simp] theorem State.atNode_word {here : State → State} (h : ∀ s, (here s).firm.word = s.firm.word) (opc : Nat)
    (q : Req) (n : Nat) : (s.atNode opc q n here).firm.word = s.firm.word := by simp [State.atNode, h]

@[simp] theorem helloBody_sameWord (q : Req) : (helloBody q s).sameWord := by simp [helloBody]

@[simp] theorem opAbortBody_sameWord (q : Req) : (opAbortBody q s).sameWord := by
  unfold opAbortBody
  split
  · simp
  · intro t
    simp only
    split <;> simp

@[simp] theorem identBody_sameWord (q : Req) : (identBody q s).sameWord := by simp [identBody]
@[simp] theorem statusBody_sameWord (q : Req) : (statusBody q s).sameWord := by simp [statusBody]
@[simp] theorem txnOpenBody_sameWord (q : Req) : (txnOpenBody q s).sameWord := by simp [txnOpenBody]

@[simp] theorem State.accept_word (m : Nat) (staged : List StagedCmd) :
    (s.accept m staged).firm.word = s.firm.word := by
  simp [State.accept]

@[simp] theorem txnCommitBody_sameWord (q : Req) : (txnCommitBody q s).sameWord := by
  unfold txnCommitBody
  split
  · simp
  · intro t
    simp only
    split
    · simp
    · split <;> simp

@[simp] theorem txnAbortBody_sameWord (q : Req) : (txnAbortBody q s).sameWord := by simp [txnAbortBody]
@[simp] theorem txnStatusBody_sameWord (q : Req) : (txnStatusBody q s).sameWord := by simp [txnStatusBody]
@[simp] theorem lineStatusBody_sameWord (q : Req) : (lineStatusBody q s).sameWord := by simp [lineStatusBody]
@[simp] theorem ringStatusBody_sameWord (q : Req) : (ringStatusBody q s).sameWord := by simp [ringStatusBody]
@[simp] theorem portStatusBody_sameWord (q : Req) : (portStatusBody q s).sameWord := by simp [portStatusBody]
@[simp] theorem mdioBody_sameWord (q : Req) : (mdioBody q s).sameWord := by simp [mdioBody]

@[simp] theorem State.protect_word (q : Req) (d cmd : Nat) : (s.protect q d cmd).firm.word = s.firm.word := by
  simp [State.protect]

@[simp] theorem ringProtectBody_sameWord (q : Req) : (ringProtectBody q s).sameWord := by simp [ringProtectBody]
@[simp] theorem ringRenumberBody_sameWord (q : Req) : (ringRenumberBody q s).sameWord := by simp [ringRenumberBody]
@[simp] theorem nodeResetBody_sameWord (q : Req) : (nodeResetBody q s).sameWord := by simp [nodeResetBody]
theorem execMbxHello_word (q : Req) : SameWord s (execMbxHello q s) := by simp [execMbxHello]
theorem execOpAbort_word (q : Req) : SameWord s (execOpAbort q s) := by simp [execOpAbort]
theorem execIdentGet_word (q : Req) : SameWord s (execIdentGet q s) := by simp [execIdentGet]
theorem execStatusGet_word (q : Req) : SameWord s (execStatusGet q s) := by simp [execStatusGet]
theorem execTxnOpen_word (q : Req) : SameWord s (execTxnOpen q s) := by simp [execTxnOpen]
theorem execTxnCommit_word (q : Req) : SameWord s (execTxnCommit q s) := by simp [execTxnCommit]
theorem execTxnAbort_word (q : Req) : SameWord s (execTxnAbort q s) := by simp [execTxnAbort]
theorem execTxnStatus_word (q : Req) : SameWord s (execTxnStatus q s) := by simp [execTxnStatus]
theorem execLineStatusGet_word (q : Req) : SameWord s (execLineStatusGet q s) := by simp [execLineStatusGet]
theorem execRingStatusGet_word (q : Req) : SameWord s (execRingStatusGet q s) := by simp [execRingStatusGet]
theorem execPortStatusGet_word (q : Req) : SameWord s (execPortStatusGet q s) := by simp [execPortStatusGet]
theorem execMdioAccess_word (q : Req) : SameWord s (execMdioAccess q s) := by simp [execMdioAccess]
theorem execRingProtectCmd_word (q : Req) : SameWord s (execRingProtectCmd q s) := by simp [execRingProtectCmd]
theorem execRingRenumber_word (q : Req) : SameWord s (execRingRenumber q s) := by simp [execRingRenumber]
theorem execNodeReset_word (q : Req) : SameWord s (execNodeReset q s) := by simp [execNodeReset]

/-! ### Sys2Proof/Machine/Prov -/

@[simp] theorem State.stage_word (opc : Nat) (q : Req) (x : Setting) (named : List Nat) :
    (s.stage opc q x named).firm.word = s.firm.word := by
  unfold State.stage
  split <;> simp

@[simp] theorem stageBody_sameWord (opc : Nat) (hasObj : Bool) (form : List Byte → Option (Setting × List Nat))
    (q : Req) : (stageBody opc hasObj form q s).sameWord := by
  simp only [stageBody]
  refine Verdict.sameWord_of_ite trivial (Verdict.sameWord_of_ite trivial ?_)
  split
  · trivial
  · split
    · trivial
    · simp

theorem execBerthSet_word (q : Req) : SameWord s (execBerthSet q s) := by simp [execBerthSet]
theorem execLineModeSet_word (q : Req) : SameWord s (execLineModeSet q s) := by simp [execLineModeSet]
theorem execLineLaneSet_word (q : Req) : SameWord s (execLineLaneSet q s) := by simp [execLineLaneSet]
theorem execRingSet_word (q : Req) : SameWord s (execRingSet q s) := by simp [execRingSet]
theorem execPortSet_word (q : Req) : SameWord s (execPortSet q s) := by simp [execPortSet]
theorem execQueueSet_word (q : Req) : SameWord s (execQueueSet q s) := by simp [execQueueSet]
theorem execSchedSet_word (q : Req) : SameWord s (execSchedSet q s) := by simp [execSchedSet]
theorem execShaperSet_word (q : Req) : SameWord s (execShaperSet q s) := by simp [execShaperSet]
theorem execGateListSet_word (q : Req) : SameWord s (execGateListSet q s) := by simp [execGateListSet]
theorem execPolicerSet_word (q : Req) : SameWord s (execPolicerSet q s) := by simp [execPolicerSet]
theorem execClassifierSet_word (q : Req) : SameWord s (execClassifierSet q s) := by simp [execClassifierSet]
theorem execAllocMapSet_word (q : Req) : SameWord s (execAllocMapSet q s) := by simp [execAllocMapSet]
theorem execXgemMapSet_word (q : Req) : SameWord s (execXgemMapSet q s) := by simp [execXgemMapSet]
theorem execMcastSet_word (q : Req) : SameWord s (execMcastSet q s) := by simp [execMcastSet]
theorem execPoolReserveSet_word (q : Req) : SameWord s (execPoolReserveSet q s) := by simp [execPoolReserveSet]
theorem execE1Set_word (q : Req) : SameWord s (execE1Set q s) := by simp [execE1Set]
theorem execCesSet_word (q : Req) : SameWord s (execCesSet q s) := by simp [execCesSet]
theorem execCisternSet_word (q : Req) : SameWord s (execCisternSet q s) := by simp [execCisternSet]
theorem execTideSet_word (q : Req) : SameWord s (execTideSet q s) := by simp [execTideSet]

/-! ### Sys2Proof/Machine/Maint -/

@[simp] theorem queueFlushBody_sameWord (q : Req) : (queueFlushBody q s).sameWord := by simp [queueFlushBody]
@[simp] theorem keyLoadBody_sameWord (q : Req) : (keyLoadBody q s).sameWord := by simp [keyLoadBody]

@[simp] theorem State.eraseIf_word (slot b : Nat) : (s.eraseIf slot b).firm.word = s.firm.word := by
  simp [State.eraseIf]

@[simp] theorem keyEraseBody_sameWord (q : Req) : (keyEraseBody q s).sameWord := by simp [keyEraseBody]
@[simp] theorem cntReadBody_sameWord (q : Req) : (cntReadBody q s).sameWord := by simp [cntReadBody]
@[simp] theorem cntSnapshotBody_sameWord (q : Req) : (cntSnapshotBody q s).sameWord := by simp [cntSnapshotBody]

theorem execSnapshotFillDone_word : SameWord s (execSnapshotFillDone s) := by
  unfold execSnapshotFillDone
  split <;> simp

@[simp] theorem State.powerSet_word (q : Req) : (s.powerSet q).firm.word = s.firm.word := by simp [State.powerSet]
@[simp] theorem pwrStateBody_sameWord (q : Req) : (pwrStateBody q s).sameWord := by simp [pwrStateBody]

@[simp] theorem State.lswSet_word (q : Req) (k action win : Nat) :
    (s.lswSet q k action win).firm.word = s.firm.word := by
  simp only [State.lswSet]
  split <;> simp

@[simp] theorem lswBody_sameWord (q : Req) : (lswBody q s).sameWord := by simp [lswBody]
theorem execQueueFlush_word (q : Req) : SameWord s (execQueueFlush q s) := by simp [execQueueFlush]
theorem execKeyLoad_word (q : Req) : SameWord s (execKeyLoad q s) := by simp [execKeyLoad]
theorem execKeyErase_word (q : Req) : SameWord s (execKeyErase q s) := by simp [execKeyErase]
theorem execCntRead_word (q : Req) : SameWord s (execCntRead q s) := by simp [execCntRead]
theorem execCntSnapshot_word (q : Req) : SameWord s (execCntSnapshot q s) := by simp [execCntSnapshot]
theorem execPwrStateSet_word (q : Req) : SameWord s (execPwrStateSet q s) := by simp [execPwrStateSet]

theorem execLswEnable_word (q : Req) (node : NodeNo) (switch : Fin 4) (window : Byte) :
    SameWord s (execLswEnable q node switch window s) := by simp [execLswEnable]

theorem execLswDisable_word (q : Req) (node : NodeNo) (switch : Fin 4) (window : Byte) :
    SameWord s (execLswDisable q node switch window s) := by simp [execLswDisable]

theorem execLswRearm_word (q : Req) (node : NodeNo) (switch : Fin 4) (window : Byte) :
    SameWord s (execLswRearm q node switch window s) := by simp [execLswRearm]

/-! ### Sys2Proof/Machine/Firmware -/

@[simp] theorem fwBeginBody_sameWord (q : Req) : (fwBeginBody q s).sameWord := by simp [fwBeginBody]

@[simp] theorem State.putBlock_word (w : FwWrite) (data : List Byte) : (s.putBlock w data).firm.word = s.firm.word := by
  simp [State.putBlock]

@[simp] theorem State.putLast_word (w : FwWrite) : (s.putLast w).firm.word = s.firm.word := by simp [State.putLast]

@[simp] theorem fwBlockBody_sameWord (q : Req) : (fwBlockBody q s).sameWord := by
  unfold fwBlockBody
  simp only
  split
  · simp
  · intro t
    simp only
    split <;> simp

theorem execFwEraseDone_word : SameWord s (execFwEraseDone s) := by
  simp only [execFwEraseDone]
  split
  · simp
  · split
    · simp
    · split <;> simp

@[simp] theorem fwEndBody_sameWord (q : Req) : (fwEndBody q s).sameWord := by
  unfold fwEndBody
  simp only
  split
  · simp
  · intro t
    simp only
    split <;> simp

theorem execFwVerifyDone_word (flashOk : Bool) : SameWord s (execFwVerifyDone flashOk s) := by
  unfold execFwVerifyDone
  split <;> simp

@[simp] theorem fwActivateBody_sameWord (q : Req) : (fwActivateBody q s).sameWord := by simp [fwActivateBody]
@[simp] theorem fwConfirmBody_sameWord (q : Req) : (fwConfirmBody q s).sameWord := by simp [fwConfirmBody]

theorem execWorkerImageUpdate_word (n : NodeNo) : SameWord s (execWorkerImageUpdate n s) := by
  simp [execWorkerImageUpdate]

@[simp] theorem logbookBody_sameWord (q : Req) : (logbookBody q s).sameWord := by simp [logbookBody]
theorem execFwWriteBegin_word (q : Req) : SameWord s (execFwWriteBegin q s) := by simp [execFwWriteBegin]
theorem execFwWriteBlock_word (q : Req) : SameWord s (execFwWriteBlock q s) := by simp [execFwWriteBlock]
theorem execFwWriteEnd_word (q : Req) : SameWord s (execFwWriteEnd q s) := by simp [execFwWriteEnd]
theorem execFwActivate_word (q : Req) : SameWord s (execFwActivate q s) := by simp [execFwActivate]
theorem execFwConfirm_word (q : Req) : SameWord s (execFwConfirm q s) := by simp [execFwConfirm]
theorem execLogbookRead_word (q : Req) : SameWord s (execLogbookRead q s) := by simp [execLogbookRead]

/-! ### Sys2Proof/Machine/Diag -/

@[simp] theorem selftestBody_sameWord (q : Req) : (selftestBody q s).sameWord := by
  simp only [selftestBody]
  split
  · simp
  · rw [Verdict.sameWord_go]
    exact fun u => State.atNode_word u (fun t => by split <;> simp) _ _ _

@[simp] theorem State.retireCells_word (n : Nat) : (s.retireCells n).firm.word = s.firm.word := by
  simp [State.retireCells]

theorem execSelftestDone_word (tested retired failedUnits durationMs : Nat) :
    SameWord s (execSelftestDone tested retired failedUnits durationMs s) := by
  unfold execSelftestDone
  split <;> simp

@[simp] theorem State.beginDiag_word (o : Nat) (d : Diag) : (s.beginDiag o d).firm.word = s.firm.word := by
  unfold State.beginDiag
  split <;> simp

@[simp] theorem loopbackBody_sameWord (q : Req) : (loopbackBody q s).sameWord := by simp [loopbackBody]
@[simp] theorem prbsBody_sameWord (q : Req) : (prbsBody q s).sameWord := by simp [prbsBody]
@[simp] theorem State.maintEnter_word : s.maintEnter.firm.word = s.firm.word := by simp [State.maintEnter]
@[simp] theorem State.maintLeave_word : s.maintLeave.firm.word = s.firm.word := by simp [State.maintLeave]
@[simp] theorem maintBody_sameWord (q : Req) : (maintBody q s).sameWord := by simp [maintBody]

@[simp] theorem State.omciSegment_word (q : Req) (l : Nat) (more : Bool) (data : List Byte) :
    (s.omciSegment q l more data).firm.word = s.firm.word := by simp [State.omciSegment]

@[simp] theorem omciBody_sameWord (q : Req) : (omciBody q s).sameWord := by simp [omciBody]
@[simp] theorem State.evtConfig_word (q : Req) : (s.evtConfig q).firm.word = s.firm.word := by simp [State.evtConfig]
@[simp] theorem State.setMsg_word (q : Req) : (s.setMsg q).firm.word = s.firm.word := by simp [State.setMsg]
@[simp] theorem evtConfigBody_sameWord (q : Req) : (evtConfigBody q s).sameWord := by simp [evtConfigBody]

@[simp] theorem State.evtClear_word (g : Nat) (w : W32) : (s.evtClear g w).firm.word = s.firm.word := by
  simp [State.evtClear]

@[simp] theorem evtAckBody_sameWord (q : Req) : (evtAckBody q s).sameWord := by simp [evtAckBody]
@[simp] theorem evtFetchBody_sameWord (q : Req) : (evtFetchBody q s).sameWord := by simp [evtFetchBody]

@[simp] theorem State.setAlarm_word (k : Nat) (a : Alarm) (q : Req) : (s.setAlarm k a q).firm.word = s.firm.word := by
  simp [State.setAlarm]

@[simp] theorem alarmBody_sameWord (q : Req) : (alarmBody q s).sameWord := by simp [alarmBody]
@[simp] theorem pulseBody_sameWord (q : Req) : (pulseBody q s).sameWord := by simp [pulseBody]
theorem execDiagSelftest_word (q : Req) : SameWord s (execDiagSelftest q s) := by simp [execDiagSelftest]
theorem execDiagLoopback_word (q : Req) : SameWord s (execDiagLoopback q s) := by simp [execDiagLoopback]
theorem execDiagPrbs_word (q : Req) : SameWord s (execDiagPrbs q s) := by simp [execDiagPrbs]
theorem execDiagMaintenance_word (q : Req) : SameWord s (execDiagMaintenance q s) := by simp [execDiagMaintenance]
theorem execOmciSend_word (q : Req) : SameWord s (execOmciSend q s) := by simp [execOmciSend]
theorem execEvtConfig_word (q : Req) : SameWord s (execEvtConfig q s) := by simp [execEvtConfig]
theorem execEvtAck_word (q : Req) : SameWord s (execEvtAck q s) := by simp [execEvtAck]
theorem execEvtFetch_word (q : Req) : SameWord s (execEvtFetch q s) := by simp [execEvtFetch]
theorem execTideAlarmSet_word (q : Req) : SameWord s (execTideAlarmSet q s) := by simp [execTideAlarmSet]
theorem execTidePulseSet_word (q : Req) : SameWord s (execTidePulseSet q s) := by simp [execTidePulseSet]

end Sys2Proof.Machine
end

section
/-!
# Where Tide stands: mailboxes, the craft port and relaying
-/
namespace Sys2Proof.Machine

-- One theorem after another: the stacks of many that wait at once would exceed the memory of the check.
set_option Elab.async false

variable (s : State)

/-! ### Sys2Proof/Machine/Mailbox -/

theorem bodyOf_sameWord {opc : Nat} {b : Req → State → Verdict} (h : bodyOf opc = some b) (q : Req) :
    (b q s).sameWord := by
  unfold bodyOf at h
  split at h <;> cases h <;> simp

@[simp] theorem State.runCommand_word (opc : Nat) (q : Req) : (s.runCommand opc q).firm.word = s.firm.word := by
  unfold State.runCommand
  split
  · simp
  next b _ hb => exact State.serve_word s (fun q u => bodyOf_sameWord u hb q) _ _
  · simp

@[simp] theorem State.dbReq_word (m n : Nat) : (s.dbReq m n).firm.word = s.firm.word := by simp [State.dbReq]
@[simp] theorem State.deliver_word (m : Nat) : (s.deliver m).firm.word = s.firm.word := by simp [State.deliver]
@[simp] theorem State.dbRpl_word (m n : Nat) : (s.dbRpl m n).firm.word = s.firm.word := by simp [State.dbRpl]

theorem execMbxDbReqWrite_word (m : MbxNo) (value : W32) : SameWord s (execMbxDbReqWrite m value s) := by
  simp [execMbxDbReqWrite]

theorem execMbxDbRplWrite_word (m : MbxNo) (value : W32) : SameWord s (execMbxDbRplWrite m value s) := by
  simp [execMbxDbRplWrite]

@[simp] theorem State.dropReq_word (m : Nat) : (s.dropReq m).firm.word = s.firm.word := by simp [State.dropReq]

@[simp] theorem State.resend_word (m : Nat) (msg : Msg) : (s.resend m msg).firm.word = s.firm.word := by
  simp [State.resend]

@[simp] theorem State.receive_word (m opc : Nat) (q : Req) (crc : W32) :
    (s.receive m opc q crc).firm.word = s.firm.word := by
  simp only [State.receive]
  split <;> simp

@[simp] theorem State.takeReq_word (m : Nat) : (s.takeReq m).firm.word = s.firm.word := by simp [State.takeReq]
@[simp] theorem State.turnEnd_word (m : Nat) : (s.turnEnd m).firm.word = s.firm.word := by simp [State.turnEnd]

@[simp] theorem State.turn_word (ms : List Nat) : (s.turn ms).firm.word = s.firm.word := by
  induction ms generalizing s with
  | nil => rfl
  | cons m t ih => simp [State.turn, ih]

theorem execMailboxRequest_word : SameWord s (execMailboxRequest s) := by simp [execMailboxRequest]
theorem execTxnIdleTimeout_word (m : MbxNo) : SameWord s (execTxnIdleTimeout m s) := by simp [execTxnIdleTimeout]

theorem execEvtStatusWrite_word (g : Fin 20) (value : W32) : SameWord s (execEvtStatusWrite g value s) := by
  simp [execEvtStatusWrite]

@[simp] theorem State.evtRoute_word (a : Nat) (w : W32) : (s.evtRoute a w).firm.word = s.firm.word := by
  simp [State.evtRoute]

theorem execEvtEnableWrite_word (addr : Nat) (value : W32) : SameWord s (execEvtEnableWrite addr value s) := by
  simp [execEvtEnableWrite]

@[simp] theorem State.unmask_word (v : Nat) : (s.unmask v).firm.word = s.firm.word := by simp [State.unmask]
theorem execVectorUnmask_word (v : Fin 8) : SameWord s (execVectorUnmask v s) := by simp [execVectorUnmask]

@[simp] theorem State.msixWrite_word (a : Nat) (w : W32) : (s.msixWrite a w).firm.word = s.firm.word := by
  simp [State.msixWrite]

@[simp] theorem State.regWrite_word (a : Nat) (w : W32) : (s.regWrite a w).firm.word = s.firm.word := by
  simp [State.regWrite]

@[simp] theorem State.winWrite_word (a : Nat) (w : W32) (be : BitVec 4) :
    (s.winWrite a w be).firm.word = s.firm.word := by
  simp [State.winWrite]

@[simp] theorem State.hostWrite_word (a : Nat) (w : W32) (be : BitVec 4) :
    (s.hostWrite a w be).firm.word = s.firm.word := by simp [State.hostWrite]

theorem execRegisterWrite_word (addr : Nat) (value : W32) (byteEnables : BitVec 4) :
    SameWord s (execRegisterWrite addr value byteEnables s) := by simp [execRegisterWrite]

@[simp] theorem State.hostRead_word (a : Nat) : (s.hostRead a).firm.word = s.firm.word := by simp [State.hostRead]

@[simp] theorem State.spiWords_word (addr : Nat) (words : List W32) (cutShort : Bool) :
    (s.spiWords addr words cutShort).firm.word = s.firm.word := by simp [State.spiWords]

@[simp] theorem State.spiReads_word (addr words : Nat) : (s.spiReads addr words).firm.word = s.firm.word := by
  simp [State.spiReads]

theorem execSpiWrite_word (addr : Nat) (words : List W32) (cutShort : Bool) :
    SameWord s (execSpiWrite addr words cutShort s) := by simp [execSpiWrite]

theorem execSpiRead_word (addr : Nat) (words : Nat) : SameWord s (execSpiRead addr words s) := by simp [execSpiRead]

@[simp] theorem State.completeAccess_word (a : HostAccess) : (s.complete_ a).firm.word = s.firm.word := by
  unfold State.complete_
  split <;> simp

@[simp] theorem State.rootRelease_word : s.rootRelease.firm.word = s.firm.word := by simp [State.rootRelease]

theorem execClockHoldRelease_word (lane : Option Lane) : SameWord s (execClockHoldRelease lane s) := by
  unfold execClockHoldRelease
  split <;> simp

theorem execHeartbeat_word : SameWord s (execHeartbeat s) := by simp [execHeartbeat]

/-! ### Sys2Proof/Machine/Craft -/

theorem execLogbookFlush_word : SameWord s (execLogbookFlush s) := by simp [execLogbookFlush]

@[simp] theorem State.relayLog_word (n kind : Nat) (data : List Byte) :
    (s.relayLog n kind data).firm.word = s.firm.word := by simp [State.relayLog]

theorem execLogbookRelay_word (n : NodeNo) (kind : Nat) (data : List Byte) :
    SameWord s (execLogbookRelay n kind data s) := by simp [execLogbookRelay]

theorem execFlashProgram_word (r : FlashRegion) (firstOk secondOk : Bool) :
    SameWord s (execFlashProgram r firstOk secondOk s) := by
  unfold execFlashProgram
  split <;> simp

@[simp] theorem State.setCraft_word (f : Craft → Craft) : (s.setCraft f).firm.word = s.firm.word := by
  simp [State.setCraft]

@[simp] theorem State.uartDrop_word (k : Nat) : (s.uartDrop k).firm.word = s.firm.word := by simp [State.uartDrop]

theorem execUartCharacter_word (c : Byte) (err : CharError) : SameWord s (execUartCharacter c err s) := by
  simp only [execUartCharacter]
  split
  · simp
  · split <;> simp

@[simp] theorem State.shellSend_word (opc : Nat) (p : List Byte) : (s.shellSend opc p).firm.word = s.firm.word := by
  simp [State.shellSend]

@[simp] theorem State.shellHello_word : s.shellHello.firm.word = s.firm.word := by simp [State.shellHello]
theorem execLongBreak_word : SameWord s (execLongBreak s) := by simp [execLongBreak]
theorem execShortBreak_word : SameWord s (execShortBreak s) := by simp [execShortBreak]

@[simp] theorem State.storeCraft_word (f : Craft → Craft) : (s.storeCraft f).firm.word = s.firm.word := by
  simp [State.storeCraft]

@[simp] theorem State.trialGood_word : s.trialGood.firm.word = s.firm.word := by simp [State.trialGood]

theorem execUartTrialTimeout_word : SameWord s (execUartTrialTimeout s) := by
  unfold execUartTrialTimeout
  split <;> simp

@[simp] theorem State.say_word (t : List Char) : (s.say t).firm.word = s.firm.word := by simp [State.say]
@[simp] theorem State.errArg_word (f : String) : (s.errArg f).firm.word = s.firm.word := by simp [State.errArg]

@[simp] theorem State.lineUart_word (baud bits parity stop fifo rx tx : Nat) :
    (s.lineUart baud bits parity stop fifo rx tx).firm.word = s.firm.word := by
  unfold State.lineUart
  split <;> simp

@[simp] theorem State.lineDdm_word (lane : Nat) : (s.lineDdm lane).firm.word = s.firm.word := by simp [State.lineDdm]

@[simp] theorem State.lineGpio_word (pin func level debounce : Nat) :
    (s.lineGpio pin func level debounce).firm.word = s.firm.word := by simp [State.lineGpio]

@[simp] theorem State.lineArrives_word : s.lineArrives.firm.word = s.firm.word := by simp [State.lineArrives]

theorem State.lineLocal_word {ws : List (List Char)} {s t : State} (h : s.lineLocal ws = some t) :
    t.firm.word = s.firm.word := by
  cases ws with
  | nil => cases h
  | cons w ws =>
    simp only [State.lineLocal] at h
    split_ifs at h <;> cases h
    all_goals
      split
      · simp
      · split
        · simp
        · split <;> simp

@[simp] theorem State.runLine_word (line : List Char) : (s.runLine line).firm.word = s.firm.word := by
  simp only [State.runLine]
  split
  next t h => simp [State.lineLocal_word h]
  · split <;> simp

theorem execShellLine_word (line : List Char) : SameWord s (execShellLine line s) := by simp [execShellLine]

theorem execShellRaw_word (opc : BitVec 16) (payload : List Byte) : SameWord s (execShellRaw opc payload s) := by
  simp [execShellRaw]

theorem execShellUart_word (baud bits parity stop fifo rxtrig txtrig : Nat) :
    SameWord s (execShellUart baud bits parity stop fifo rxtrig txtrig s) := by simp [execShellUart]

theorem execShellDdm_word (lane : Nat) : SameWord s (execShellDdm lane s) := by simp [execShellDdm]

theorem execShellGpio_word (pin func level debounce : Nat) : SameWord s (execShellGpio pin func level debounce s) := by
  simp [execShellGpio]

@[simp] theorem State.shellChar_word (b : Byte) : (s.shellChar b).firm.word = s.firm.word := by
  simp only [State.shellChar]
  split
  · split <;> simp
  · simp

@[simp] theorem State.serveRx_word (l : List Byte) : (s.serveRx l).firm.word = s.firm.word := by
  induction l generalizing s with
  | nil => rfl
  | cons x t ih => simp [State.serveRx, ih]

theorem execUartRxService_word : SameWord s (execUartRxService s) := by simp [execUartRxService]

@[simp] theorem State.ddmFlags_word (l : Nat) (old new : List Byte) :
    (s.ddmFlags l old new).firm.word = s.firm.word := by
  simp [State.ddmFlags]

@[simp] theorem State.modI2c_word (m : Nat) (f : I2c → I2c) : (s.modI2c m f).firm.word = s.firm.word := by
  simp [State.modI2c]

@[simp] theorem State.i2cStop_word (m : Nat) : (s.i2cStop m).firm.word = s.firm.word := by simp [State.i2cStop]

theorem execCfI2cStuck_word (m : Fin 2) (stillLow : Bool) : SameWord s (execCfI2cStuck m stillLow s) := by
  simp [execCfI2cStuck]

theorem execI2cStretchTimeout_word (m : Fin 2) : SameWord s (execI2cStretchTimeout m s) := by
  simp [execI2cStretchTimeout]

theorem execGpioEdge_word (pin : Fin 16) (level : Bool) : SameWord s (execGpioEdge pin level s) := by
  simp [execGpioEdge]

theorem execStatusLedBlink_word : SameWord s (execStatusLedBlink s) := by simp [execStatusLedBlink]

/-! ### Sys2Proof/Machine/Masked -/

@[simp] theorem State.doJob_word (e : Nat) (p : MaskPart) (i : Nat) (jobs : List MaskPart) :
    (s.doJob e p i jobs).firm.word = s.firm.word := by simp [State.doJob]

@[simp] theorem State.maskStall_word (clocks : Nat) : (s.maskStall clocks).firm.word = s.firm.word := by
  simp [State.maskStall]

theorem execMaskedJob_word (turn : MaskTurn) (stallClocks : Nat) : SameWord s (execMaskedJob turn stallClocks s) := by
  simp only [execMaskedJob]
  split <;> simp

/-! ### Sys2Proof/Machine/Relay -/

@[simp] theorem State.mirror_word (code anchor : Nat) : (s.mirror code anchor).firm.word = s.firm.word := by
  simp only [State.mirror]
  split
  · simp
  · split <;> simp

@[simp] theorem State.keepPart_word (m : Nat) (x : StagedCmd) : (s.keepPart m x).firm.word = s.firm.word := by
  simp [State.keepPart]

@[simp] theorem State.onRelayCmd_word (opc : Nat) (seq : BitVec 16) (mbx : MbxNo) (payload : List Byte) :
    (s.onRelayCmd opc seq mbx payload).firm.word = s.firm.word := by
  simp only [State.onRelayCmd]
  split
  · simp
  · split
    · split <;> simp
    · simp

theorem execRelayCmd_word (opc : Nat) (seq : BitVec 16) (mbx : MbxNo) (payload : List Byte) :
    SameWord s (execRelayCmd opc seq mbx payload s) := by simp [execRelayCmd]

@[simp] theorem State.onCommitPart_word (frame : Nat) : (s.onCommitPart frame).firm.word = s.firm.word := by
  unfold State.onCommitPart
  split <;> simp

@[simp] theorem State.relayAnswer_word (n opc : Nat) (q : Req) (st : Status) (payload : List Byte) :
    (s.relayAnswer n opc q st payload).firm.word = s.firm.word := by simp [State.relayAnswer]

@[simp] theorem State.relayComplete_word (n m seq : Nat) (st : Status) (payload : List Byte) :
    (s.relayComplete n m seq st payload).firm.word = s.firm.word := by simp [State.relayComplete]

@[simp] theorem State.onRelayRsp_word (n opc : Nat) (seq : BitVec 16) (mbx : MbxNo) (status : Nat)
    (payload : List Byte) : (s.onRelayRsp n opc seq mbx status payload).firm.word = s.firm.word := by
  simp only [State.onRelayRsp]
  split
  · simp
  · split <;> simp

theorem execRelayRsp_word (n : NodeNo) (opc : Nat) (seq : BitVec 16) (mbx : MbxNo) (status : Nat)
    (payload : List Byte) : SameWord s (execRelayRsp n opc seq mbx status payload s) := by simp [execRelayRsp]

@[simp] theorem State.raiseFar_word (n src tide obj detail : Nat) :
    (s.raiseFar n src tide obj detail).firm.word = s.firm.word := by simp [State.raiseFar]

@[simp] theorem State.onReport_word (n : Nat) (r : WorkerReport) : (s.onReport n r).firm.word = s.firm.word := by
  simp only [State.onReport]
  split
  · simp
  · split <;> simp

theorem execEvent_word (n : NodeNo) (r : WorkerReport) : SameWord s (execEvent n r s) := by simp [execEvent]
@[simp] theorem State.bootFromRing_word : s.bootFromRing.firm.word = s.firm.word := by simp [State.bootFromRing]
@[simp] theorem State.imageGood_word : s.imageGood.firm.word = s.firm.word := by simp [State.imageGood]
@[simp] theorem State.imageBad_word : s.imageBad.firm.word = s.firm.word := by simp [State.imageBad]
theorem execRingBootDone_word (node : NodeNo) : SameWord s (execRingBootDone node s) := by simp [execRingBootDone]

@[simp] theorem State.forwardDcc_word (d ttl : Nat) (b : List Byte) :
    (s.forwardDcc d ttl b).firm.word = s.firm.word := by
  simp [State.forwardDcc]

@[simp] theorem State.resetAcked_word (n : Nat) : (s.resetAcked n).firm.word = s.firm.word := by
  simp only [State.resetAcked]
  rw [State.word_ite, State.nodeLeave_word, ite_self]
  refine State.word_foldl (fun t m => ?_) _ s
  split <;> simp

@[simp] theorem State.ackFrom_word (n ack : Nat) : (s.ackFrom n ack).firm.word = s.firm.word := by simp [State.ackFrom]
@[simp] theorem State.sendAck_word (n : Nat) : (s.sendAck n).firm.word = s.firm.word := by simp [State.sendAck]

@[simp] theorem State.onQth_word (n : Nat) (entry : W32) : (s.onQth n entry).firm.word = s.firm.word := by
  simp [State.onQth]

@[simp] theorem State.onCnt_word (n : Nat) (entry : W32) : (s.onCnt n entry).firm.word = s.firm.word := by
  simp [State.onCnt]

end Sys2Proof.Machine
end

section
/-!
# Where Tide may move

The operations that move the Tide word: the passage of time, a Tide word that is loaded, and cold resets. Each leaves a
word that R28 and R29 allow.
-/
namespace Sys2Proof.Machine

-- One theorem after another: the stacks of many that wait at once would exceed the memory of the check.
set_option Elab.async false

/-- The frame and the tick of a word that R28 and R29 allow. -/
def InRange (w : Nat × Nat) : Prop := w.2 < frameTicks ∧ w.1 < frameWrap

@[simp] theorem inRange_ite (c : Prop) [Decidable c] (v w : Nat × Nat) :
    InRange (if c then v else w) ↔ if c then InRange v else InRange w := by split <;> rfl

theorem inRange_of_mod (f t : Nat) : InRange (f % frameWrap, t % frameTicks) :=
  ⟨Nat.mod_lt _ (by decide), Nat.mod_lt _ (by decide)⟩

/-- If the outcome is a next state, its Tide word is one that R28 and R29 allow. -/
def NextInRange (o : Host.Outcome State Fault Refusal) : Prop := ∀ t, o = .next t → InRange t.firm.word

@[simp] theorem nextInRange_next (t : State) : NextInRange (.next t) ↔ InRange t.firm.word := by
  simp [NextInRange]

theorem SameWord.inRange {s : State} {o : Host.Outcome State Fault Refusal} (h : SameWord s o) (hs : InRange s.firm.word) :
    NextInRange o := fun t ho => by rwa [h t ho]

/-- A fold whose every step leaves a word in range. -/
theorem State.inRange_foldl {α : Type} {f : State → α → State}
    (h : ∀ t x, InRange t.firm.word → InRange (f t x).firm.word) (l : List α) (u : State) (hu : InRange u.firm.word) :
    InRange (l.foldl f u).firm.word := by
  induction l generalizing u with
  | nil => exact hu
  | cons x l ih => exact ih _ (h u x hu)

section
variable {s : State} (h : InRange s.firm.word)
include h

/-! ### Time -/

@[simp] theorem State.until_inRange (x : Nat) : InRange (s.until x).firm.word := by
  have hCome (d : Nat) : InRange (s.comeTo d).firm.word := inRange_of_mod _ _
  rcases State.until_cases x s with hx | ⟨d, hx | hx⟩ <;> rw [hx]
  · exact h
  · exact hCome d
  · rw [State.boundary_firm]
    exact hCome d

@[simp] theorem State.untilNow_inRange (e : Option Nat) : InRange (s.untilNow e).firm.word := by
  unfold State.untilNow
  split
  · exact State.until_inRange h _
  · exact h

omit h in
@[simp] theorem State.putTide_inRange (frame tick : Nat) (s : State) : InRange (s.putTide frame tick).firm.word := by
  rw [State.putTide, State.boundary_firm]
  exact inRange_of_mod _ _

omit h in
@[simp] theorem State.applyStep_inRange (count tick : Nat) (s : State) : InRange (s.applyStep count tick).firm.word := by
  simp [State.applyStep]

omit h in
@[simp] theorem State.coldReset_inRange (por : Bool) (cause : Nat) (s : State) :
    InRange (s.coldReset por cause).firm.word := inRange_of_mod 0 0

/-! ### Sys2Proof/Machine/E1 to Sys2Proof/Machine/Sched -/

theorem execSlipBufferRead_inRange (p : E1No) : NextInRange (execSlipBufferRead p s) := by
  simp only [execSlipBufferRead]
  split
  · simp [h]
  · split <;> simp [h]

theorem execPlayoutStartInstant_inRange (r : CellRead E1No Ecc) : NextInRange (execPlayoutStartInstant r s) := by
  simp only [execPlayoutStartInstant]
  split
  · simp [h]
  · split <;> simp [h]

theorem execRclkReturn_inRange (p : E1No) : NextInRange (execRclkReturn p s) := by simp [execRclkReturn, h]

theorem execGateSwap_inRange (p : PortNo) : NextInRange (execGateSwap p s) := by
  unfold execGateSwap
  split <;> simp [h]

theorem execGateChange_inRange (p : PortNo) : NextInRange (execGateChange p s) := by simp [execGateChange, h]

theorem execCalendarRelease_inRange (q : Fin 128) : NextInRange (execCalendarRelease q s) := by
  unfold execCalendarRelease
  split <;> simp [h]

theorem execCalendarUnpark_inRange : NextInRange (execCalendarUnpark s) := by
  simp only [execCalendarUnpark, nextInRange_next]
  split
  · exact h
  · refine State.inRange_foldl (fun t q ht => ?_) _ _ (State.until_inRange h _)
    split <;> simp [ht]

/-! ### Sys2Proof/Machine/Tide -/

theorem execTideAlarm_inRange (k : Fin 64) : NextInRange (execTideAlarm k s) := by simp [execTideAlarm, h]
theorem execTidePulseRise_inRange : NextInRange (execTidePulseRise s) := by simp [execTidePulseRise, h]
theorem execTidePulseFall_inRange : NextInRange (execTidePulseFall s) := by simp [execTidePulseFall, h]
theorem execTideAnchored_inRange (count : Nat) : NextInRange (execTideAnchored count s) := by simp [execTideAnchored, h]

theorem execTideStep_inRange (count : Nat) : NextInRange (execTideStep count s) := by
  unfold execTideStep
  split <;> simp [h]

theorem execWorkerStepAnnounce_inRange (count : Nat) : NextInRange (execWorkerStepAnnounce count s) := by
  unfold execWorkerStepAnnounce
  split <;> simp [h]

/-! ### Sys2Proof/Machine/Clock to Sys2Proof/Machine/Admit -/

theorem execCoreDividerChange_inRange : NextInRange (execCoreDividerChange s) := by
  unfold execCoreDividerChange
  split <;> simp [h]

theorem execBurstLaunch_inRange (r : CellRead Lane (List Ecc)) : NextInRange (execBurstLaunch r s) := by
  simp only [execBurstLaunch]
  split
  · simp [h]
  · split <;> simp [h]

theorem execRingFrameTransmit_inRange (r : CellRead RingSend (List Ecc)) : NextInRange (execRingFrameTransmit r s) := by
  simp [execRingFrameTransmit, h]

theorem execAdmissionRecheck_inRange : NextInRange (execAdmissionRecheck s) := by
  unfold execAdmissionRecheck
  split <;> simp [h]

/-! ### Sys2Proof/Machine/Cistern to Sys2Proof/Machine/Start -/

theorem execVinFailShedLoads_inRange : NextInRange (execVinFailShedLoads s) := by simp [execVinFailShedLoads, h]

@[simp] theorem State.rideThrough_inRange : InRange s.rideThrough.firm.word := by simp [State.rideThrough, h]

theorem execCsVinReturn_inRange : NextInRange (execCsVinReturn s) := by simp [execCsVinReturn, h]

theorem execMooredEntry_inRange : NextInRange (execMooredEntry s) := by
  unfold execMooredEntry
  split <;> simp [h]

theorem execBeachedEntry_inRange : NextInRange (execBeachedEntry s) := by
  unfold execBeachedEntry
  split <;> simp [h]

theorem execDrainEnd_inRange : NextInRange (execDrainEnd s) := by
  unfold execDrainEnd
  split <;> simp [h]

omit h in
@[simp] theorem State.wakeStart_inRange (cause : Nat) (s : State) : InRange (s.wakeStart cause).firm.word := by
  simp [State.wakeStart]

@[simp] theorem State.mooredExit_inRange (cause : Nat) : InRange (s.mooredExit cause).firm.word := by
  simp [State.mooredExit, h]

@[simp] theorem State.wake_inRange (cause : Nat) : InRange (s.wake cause).firm.word := by
  unfold State.wake
  dsimp only
  split <;> simp [h]

theorem execPwWake_inRange (cause : Nat) : NextInRange (execPwWake cause s) := by simp [execPwWake, h]

@[simp] theorem State.railsAreDown_inRange (st : Pwr) : InRange (s.railsAreDown st).firm.word := by
  simp only [State.railsAreDown]
  split <;> simp [h]

theorem execRailPgWindowExpiry_inRange (k : Fin 6) : NextInRange (execRailPgWindowExpiry k s) := by
  simp only [execRailPgWindowExpiry]
  split
  · simp [h]
  · split <;> simp [h]

theorem execRailPowerDownStep_inRange (pgFell : Bool) : NextInRange (execRailPowerDownStep pgFell s) := by
  simp only [execRailPowerDownStep]
  split
  · simp [h]
  · split <;> simp [h]
  · simp [h]

theorem execRailPgLost_inRange (k : Fin 6) : NextInRange (execRailPgLost k s) := by simp [execRailPgLost, h]

theorem execRailFailInPowerDown_inRange (k : Fin 6) : NextInRange (execRailFailInPowerDown k s) := by
  simp only [execRailFailInPowerDown]
  split
  · simp [h]
  · split <;> simp [h]

end

end Sys2Proof.Machine
end

section
/-!
# Tide stays a Tide word (R28, R29)

Starts, partial resets, the messages of the DCC and a CORE clock; every command, and with it every step.
-/
namespace Sys2Proof.Machine

-- One theorem after another: the stacks of many that wait at once would exceed the memory of the check.
set_option Elab.async false

section
variable {s : State} (h : InRange s.firm.word)
include h

/-! ### Sys2Proof/Machine/Start -/

omit h in
theorem execPowerOnReset_inRange : NextInRange (execPowerOnReset s) := by simp [execPowerOnReset]

omit h in
theorem execPowerOnResetAssert_inRange : NextInRange (execPowerOnResetAssert s) := by simp [execPowerOnResetAssert]

theorem execResetNAssert_inRange : NextInRange (execResetNAssert s) := by simp [execResetNAssert, h]

theorem execHostCommandReset_inRange (value : W32) : NextInRange (execHostCommandReset value s) := by
  simp [execHostCommandReset, h]

@[simp] theorem State.ringReset_inRange : InRange s.ringReset.firm.word := by simp [State.ringReset, h]

theorem execWarmCpRestart_inRange : NextInRange (execWarmCpRestart s) := by
  unfold execWarmCpRestart
  split
  · simp [h]
  · split <;> simp [h]

theorem execWatchdogBite_inRange : NextInRange (execWatchdogBite s) := by simp [execWatchdogBite, h]

/-! ### Sys2Proof/Machine/Audit -/

@[simp] theorem State.burstEnd_inRange (l : Nat) : InRange (s.burstEnd l).firm.word := by
  unfold State.burstEnd
  split <;> simp [h]

@[simp] theorem State.partialReset_inRange (d : ResetDomain) : InRange (s.partial_ d).firm.word := by
  unfold State.partial_
  split
  case h_5 => exact State.inRange_foldl (fun t l ht => State.burstEnd_inRange ht l) [0, 1, 2, 3] s h
  all_goals simp [h]

theorem execPartialReset_inRange (d : ResetDomain) : NextInRange (execPartialReset d s) := by simp [execPartialReset, h]

@[simp] theorem State.grantBreaches_inRange (l n : Nat) : InRange (s.grantBreaches l n).firm.word := by
  simp [State.grantBreaches, h]

@[simp] theorem State.auditGrants_inRange : InRange s.auditGrants.firm.word := by
  refine State.inRange_foldl (fun t x ht => ?_) _ _ h
  split <;> simp [ht]

theorem execLedgerAudit_inRange : NextInRange (execLedgerAudit s) := by simp [execLedgerAudit, h]

/-! ### Sys2Proof/Machine/Maint to Sys2Proof/Machine/Craft -/

theorem execCommitSwitchOver_inRange : NextInRange (execCommitSwitchOver s) := by
  cases hNext : s.host.nextCommit with
  | none =>
    intro t ht
    obtain rfl := Host.Outcome.next.inj ((exec_commitSwitchOver_none hNext).symm.trans ht)
    exact h
  | some a =>
    intro t ht
    obtain rfl := Host.Outcome.next.inj ((exec_commitSwitchOver hNext).symm.trans ht)
    rw [State.switchOver_firm]
    exact State.until_inRange h _

theorem execLoopbackExpiry_inRange (object : W32) : NextInRange (execLoopbackExpiry object s) := by
  unfold execLoopbackExpiry
  split <;> simp [h]

theorem execPrbsDone_inRange (object : W32) (bits errors syncLosses : Nat) :
    NextInRange (execPrbsDone object bits errors syncLosses s) := by
  unfold execPrbsDone
  split <;> simp [h]

@[simp] theorem State.i2cSelect_inRange (m : Nat) (seg : Bool) : InRange (s.i2cSelect m seg).firm.word := by
  simp [State.i2cSelect, h]

theorem execDdmRead_inRange (l : Lane) (pageA2 : Bool) (data : Option (List Byte)) :
    NextInRange (execDdmRead l pageA2 data s) := by
  simp only [execDdmRead]
  split
  · simp [h]
  · split <;> simp [h]

/-! ### Sys2Proof/Machine/Relay -/

omit h in
@[simp] theorem State.takeTide_inRange (nonce : BitVec 64) (frame : Nat) (s : State) :
    InRange (s.takeTide nonce frame).firm.word := by simp [State.takeTide]

@[simp] theorem State.onSync_inRange (nonce : BitVec 64) (frame code anchor : Nat) :
    InRange (s.onSync nonce frame code anchor).firm.word := by simp [State.onSync, h]

theorem execTideSync_inRange (nonce : BitVec 64) (frame : Nat) (state : Fin 4) (anchor : Lane) :
    NextInRange (execTideSync nonce frame state anchor s) := by simp [execTideSync, h]

@[simp] theorem State.onHello_inRange (src : Nat) (nonce : BitVec 64) : InRange (s.onHello src nonce).firm.word := by
  simp [State.onHello, h]

@[simp] theorem State.deliverDcc_inRange (d n : Nat) (body : DccBody) : InRange (s.deliverDcc d n body).firm.word := by
  unfold State.deliverDcc
  split <;> simp [h]

@[simp] theorem State.inOrder_inRange (d : Nat) (m : DccMsg) : InRange (s.inOrder d m).firm.word := by
  simp [State.inOrder, h]

@[simp] theorem State.dccOk_inRange (d : Nat) (m : DccMsg) : InRange (s.dccOk d m).firm.word := by
  simp [State.dccOk, h]

@[simp] theorem State.takeDcc_inRange (d : Nat) (x : DccHead) (b : List Byte) : InRange (s.takeDcc d x b).firm.word := by
  simp only [State.takeDcc]
  split
  · simp [h]
  · split <;> simp [h]

theorem execImgBlock_inRange (side : Side) (node : NodeNo) (bytes : List Byte) :
    NextInRange (execImgBlock side node bytes s) := by simp [execImgBlock, h]

@[simp] theorem State.dccIn_inRange (d : Nat) (b : List Byte) : InRange (s.dccIn d b).firm.word := by
  unfold State.dccIn
  split <;> simp [h]

theorem execDccMessageReceive_inRange (side : Side) (message mac : List Byte) :
    NextInRange (execDccMessageReceive side message mac s) := by simp [execDccMessageReceive, h]

theorem execRingFrameReceive_inRange (side : Side) (lane : Fin 2) (wire : List Byte) :
    NextInRange (execRingFrameReceive side lane wire s) := by
  simp only [execRingFrameReceive, nextInRange_next]
  split
  · exact h
  · exact State.inRange_foldl (fun t m ht => State.dccIn_inRange ht _ _) _ _ (by simp [h])

/-! ### Every clock and every command -/

omit h in
/-- A clock that is no longer than a frame leaves a word in range. -/
theorem Tide.advance_inRange {n : Nat} (hn : n ≤ frameTicks) (ht : InRange s.firm.word) : InRange (s.tide.advance n).place := by
  obtain ⟨hTick, hFrame⟩ := ht
  have hLess : s.tide.tick < frameTicks := hTick
  unfold Tide.advance
  split
  next hIn => exact ⟨hIn, hFrame⟩
  next hOut =>
    refine ⟨?_, Nat.mod_lt _ (by decide)⟩
    change s.tide.tick + n - frameTicks < frameTicks
    omega

omit h in
/-- A state that holds a word in range keeps it over the frame boundary that may be due. -/
theorem State.boundaryUnless_inRange {u : State} (hu : InRange u.firm.word) (k : Prop) [Decidable k] (b : Nat) :
    InRange (if k then u else ({ u with bnd := b } : State).boundary).firm.word := by
  split
  · exact hu
  · rw [State.boundary_firm]
    exact hu

theorem coreClock_inRange : InRange (coreClock s).firm.word := by
  have hTicks : coreTicks s ≤ frameTicks := by
    unfold coreTicks
    split <;> decide
  have hTide : InRange (if tideRuns s then s.tide.advance (coreTicks s) else s.tide).place := by
    split
    · exact Tide.advance_inRange hTicks h
    · exact h
  unfold coreClock
  refine State.boundaryUnless_inRange ?_ _ _
  exact hTide

end

theorem exec_inRange {s : State} (hs : InRange s.firm.word) (i : Instr) : NextInRange (exec i s) := by
  cases i with
  | powerOnReset => exact execPowerOnReset_inRange
  | resetNAssert => exact execResetNAssert_inRange hs
  | noValidBankRetry => exact (execNoValidBankRetry_word s).inRange hs
  | hostCommandReset value => exact execHostCommandReset_inRange hs value
  | pciePerst released => exact (execPciePerst_word s released).inRange hs
  | watchdogRestart => exact (execWatchdogRestart_word s).inRange hs
  | watchdogBite => exact execWatchdogBite_inRange hs
  | watchdogCountClear => exact (execWatchdogCountClear_word s).inRange hs
  | warmCpRestart => exact execWarmCpRestart_inRange hs
  | warmRestartDone => exact (execWarmRestartDone_word s).inRange hs
  | partialReset d => exact execPartialReset_inRange hs d
  | railPowerGood k => exact (execRailPowerGood_word s k).inRange hs
  | railPgWindowExpiry k => exact execRailPgWindowExpiry_inRange hs k
  | powerUpRetry => exact (execPowerUpRetry_word s).inRange hs
  | railPowerDownStep pgFell => exact execRailPowerDownStep_inRange hs pgFell
  | railPgLost k => exact execRailPgLost_inRange hs k
  | railFailInPowerDown k => exact execRailFailInPowerDown_inRange hs k
  | oscAccepted => exact (execOscAccepted_word s).inRange hs
  | oscStartTimeout => exact (execOscStartTimeout_word s).inRange hs
  | referenceFail => exact (execReferenceFail_word s).inRange hs
  | rootLock => exact (execRootLock_word s).inRange hs
  | rootUnlock => exact (execRootUnlock_word s).inRange hs
  | clockHoldRelease lane => exact (execClockHoldRelease_word s lane).inRange hs
  | aonRcCalibration => exact (execAonRcCalibration_word s).inRange hs
  | clkMuxSwitchRequest m toB => exact (execClkMuxSwitchRequest_word s m toB).inRange hs
  | clkDeadSource m newSource => exact (execClkDeadSource_word s m newSource).inRange hs
  | clkGateStart bit => exact (execClkGateStart_word s bit).inRange hs
  | clkRefclkLoss eth => exact (execClkRefclkLoss_word s eth).inRange hs
  | clkSteerLimit => exact (execClkSteerLimit_word s).inRange hs
  | coreDividerChange => exact execCoreDividerChange_inRange hs
  | tideAnchored count => exact execTideAnchored_inRange hs count
  | tideHoldover => exact (execTideHoldover_word s).inRange hs
  | tideReacquireDecision frame tick => exact (execTideReacquireDecision_word s frame tick).inRange hs
  | tideSlewDone => exact (execTideSlewDone_word s).inRange hs
  | tideStep count => exact execTideStep_inRange hs count
  | tideAbandonPending => exact (execTideAbandonPending_word s).inRange hs
  | tideAnchorMove => exact (execTideAnchorMove_word s).inRange hs
  | tideAnchorReturn => exact (execTideAnchorReturn_word s).inRange hs
  | tideHoldLimit => exact (execTideHoldLimit_word s).inRange hs
  | tideSync nonce frame state anchor => exact execTideSync_inRange hs nonce frame state anchor
  | tsReq node side rtt => exact (execTsReq_word s node side rtt).inRange hs
  | workerRemeasure node rttEast rttWest => exact (execWorkerRemeasure_word s node rttEast rttWest).inRange hs
  | rangingReplyTimeout node side => exact (execRangingReplyTimeout_word s node side).inRange hs
  | rangingRetry node => exact (execRangingRetry_word s node).inRange hs
  | workerStepAnnounce count => exact execWorkerStepAnnounce_inRange hs count
  | tideAlarm k => exact execTideAlarm_inRange hs k
  | tidePulseRise => exact execTidePulseRise_inRange hs
  | tidePulseFall => exact execTidePulseFall_inRange hs
  | tideLoRead => exact (execTideLoRead_word s).inRange hs
  | downstreamFrame f => exact (execDownstreamFrame_word s f).inRange hs
  | lnLos l declared => exact (execLnLos_word s l declared).inRange hs
  | lnLods l => exact (execLnLods_word s l).inRange hs
  | burstProfile l h index preamble delimiter flags =>
    exact (execBurstProfile_word s l h index preamble delimiter flags).inRange hs
  | assignOnuId l h serial onuId => exact (execAssignOnuId_word s l h serial onuId).inRange hs
  | rangingTime l h absolute negative bits => exact (execRangingTime_word s l h absolute negative bits).inRange hs
  | deactivateOnuId l h => exact (execDeactivateOnuId_word s l h).inRange hs
  | disableSerialNumber l h enable serial => exact (execDisableSerialNumber_word s l h enable serial).inRange hs
  | requestRegistration l h => exact (execRequestRegistration_word s l h).inRange hs
  | assignAllocId l h allocId remove => exact (execAssignAllocId_word s l h allocId remove).inRange hs
  | keyControl l h generate bank => exact (execKeyControl_word s l h generate bank).inRange hs
  | sleepAllow l h => exact (execSleepAllow_word s l h).inRange hs
  | ploamUnknownType l h code ackRequired => exact (execPloamUnknownType_word s l h code ackRequired).inRange hs
  | ploamDuplicate l h msg => exact (execPloamDuplicate_word s l h msg).inRange hs
  | ploamMicFail l => exact (execPloamMicFail_word s l).inRange hs
  | to1Expiry l => exact (execTo1Expiry_word s l).inRange hs
  | to2Expiry l => exact (execTo2Expiry_word s l).inRange hs
  | omciDownstream l msg mic => exact (execOmciDownstream_word s l msg mic).inRange hs
  | sdSfWindow l codewords corrected uncorrectable =>
    exact (execSdSfWindow_word s l codewords corrected uncorrectable).inRange hs
  | rssiTrig l => exact (execRssiTrig_word s l).inRange hs
  | lnRogue l => exact (execLnRogue_word s l).inRange hs
  | rogueGuardRelease l => exact (execRogueGuardRelease_word s l).inRange hs
  | allocationStructure l a => exact (execAllocationStructure_word s l a).inRange hs
  | runAheadStage a => exact (execRunAheadStage_word s a).inRange hs
  | stagedCellTimeout a => exact (execStagedCellTimeout_word s a).inRange hs
  | cvRunaheadSuspend a => exact (execCvRunaheadSuspend_word s a).inRange hs
  | runaheadResume a => exact (execRunaheadResume_word s a).inRange hs
  | cvNotReady l => exact (execCvNotReady_word s l).inRange hs
  | burstLaunch r => exact execBurstLaunch_inRange hs r
  | reseqWindowExpiry g => exact (execReseqWindowExpiry_word s g).inRange hs
  | blSkew l count anchorCount => exact (execBlSkew_word s l count anchorCount).inRange hs
  | blLaneJoin l => exact (execBlLaneJoin_word s l).inRange hs
  | bondingHoldReset l => exact (execBondingHoldReset_word s l).inRange hs
  | bondingControlMessage l msg => exact (execBondingControlMessage_word s l msg).inRange hs
  | bondingControlResend g msgSeq => exact (execBondingControlResend_word s g msgSeq).inRange hs
  | groupState g => exact (execGroupState_word s g).inRange hs
  | packetEnqueue q r => exact (execPacketEnqueue_word s q r).inRange hs
  | qthRelay node queue frame => exact (execQthRelay_word s node queue frame).inRange hs
  | qthFifoDataRead => exact (execQthFifoDataRead_word s).inRange hs
  | cntFifoDataRead => exact (execCntFifoDataRead_word s).inRange hs
  | cntHalf index => exact (execCntHalf_word s index).inRange hs
  | rolloverRelay node index frame => exact (execRolloverRelay_word s node index frame).inRange hs
  | flushAct q => exact (execFlushAct_word s q).inRange hs
  | descriptorEccError q position => exact (execDescriptorEccError_word s q position).inRange hs
  | ledgerAudit => exact execLedgerAudit_inRange hs
  | ledgerRecountDone => exact (execLedgerRecountDone_word s).inRange hs
  | sweepBorrow cells => exact (execSweepBorrow_word s cells).inRange hs
  | sweepReturn cells r => exact (execSweepReturn_word s cells r).inRange hs
  | calendarRelease q => exact execCalendarRelease_inRange hs q
  | calendarUnpark => exact execCalendarUnpark_inRange hs
  | gateSwap p => exact execGateSwap_inRange hs p
  | gateChange p => exact execGateChange_inRange hs p
  | egressStart p => exact (execEgressStart_word s p).inRange hs
  | mcastReplicate r => exact (execMcastReplicate_word s r).inRange hs
  | frameReceive p bytes last => exact (execFrameReceive_word s p bytes last).inRange hs
  | pauseExpiry p c => exact (execPauseExpiry_word s p c).inRange hs
  | pauseTx p => exact (execPauseTx_word s p).inRange hs
  | frameTransmit r => exact (execFrameTransmit_word s r).inRange hs
  | spLinkUp p learned => exact (execSpLinkUp_word s p learned).inRange hs
  | spLinkDown p => exact (execSpLinkDown_word s p).inRange hs
  | spFault p code learned => exact (execSpFault_word s p code learned).inRange hs
  | phyPoll p answer => exact (execPhyPoll_word s p answer).inRange hs
  | rclkLoss p => exact (execRclkLoss_word s p).inRange hs
  | rclkReturn p => exact execRclkReturn_inRange hs p
  | slipBufferRead p => exact execSlipBufferRead_inRange hs p
  | cesPacketise p => exact (execCesPacketise_word s p).inRange hs
  | cesPacketArrival p => exact (execCesPacketArrival_word s p).inRange hs
  | playoutStartInstant r => exact execPlayoutStartInstant_inRange hs r
  | crc4SearchTimeout p => exact (execCrc4SearchTimeout_word s p).inRange hs
  | e1Defect p d declared => exact (execE1Defect_word s p d declared).inRange hs
  | cyEntropyFail => exact (execCyEntropyFail_word s).inRange hs
  | entropyRetest samples => exact (execEntropyRetest_word s samples).inRange hs
  | cyFallbackNonce => exact (execCyFallbackNonce_word s).inRange hs
  | drbgReseed => exact (execDrbgReseed_word s).inRange hs
  | vaultRerandomise => exact (execVaultRerandomise_word s).inRange hs
  | keyZeroise slot bank => exact (execKeyZeroise_word s slot bank).inRange hs
  | maskedJob turn stallClocks => exact (execMaskedJob_word s turn stallClocks).inRange hs
  | ringFrameReceive side lane wire => exact execRingFrameReceive_inRange hs side lane wire
  | rgPtrJump side lane value => exact (execRgPtrJump_word s side lane value).inRange hs
  | ringFrameTransmit r => exact execRingFrameTransmit_inRange hs r
  | ringDefect side d => exact (execRingDefect_word s side d).inRange hs
  | ringWrap side => exact (execRingWrap_word s side).inRange hs
  | ringDefectClear side d => exact (execRingDefectClear_word s side d).inRange hs
  | wtrExpiry side => exact (execWtrExpiry_word s side).inRange hs
  | dccMessageReceive side message mac => exact execDccMessageReceive_inRange hs side message mac
  | dccRetransmit peer msgSeq => exact (execDccRetransmit_word s peer msgSeq).inRange hs
  | hello => exact (execHello_word s).inRange hs
  | workerGoneTimeout n => exact (execWorkerGoneTimeout_word s n).inRange hs
  | managerLost => exact (execManagerLost_word s).inRange hs
  | joinReq r => exact (execJoinReq_word s r).inRange hs
  | joinCollectionEnd => exact (execJoinCollectionEnd_word s).inRange hs
  | joinAccept number a => exact (execJoinAccept_word s number a).inRange hs
  | joinRefuse reason => exact (execJoinRefuse_word s reason).inRange hs
  | joinAttemptStart => exact (execJoinAttemptStart_word s).inRange hs
  | joinAttemptTimeout => exact (execJoinAttemptTimeout_word s).inRange hs
  | joinHoldoffExpiry => exact (execJoinHoldoffExpiry_word s).inRange hs
  | joinComplete n => exact (execJoinComplete_word s n).inRange hs
  | imgReq n => exact (execImgReq_word s n).inRange hs
  | imgBlock side node bytes => exact execImgBlock_inRange hs side node bytes
  | ringBootDone node => exact (execRingBootDone_word s node).inRange hs
  | creditReinit src cclass sent => exact (execCreditReinit_word s src cclass sent).inRange hs
  | creditReinitAck dst cclass consumed => exact (execCreditReinitAck_word s dst cclass consumed).inRange hs
  | leave n => exact (execLeave_word s n).inRange hs
  | relayCmd opc seq mbx payload => exact (execRelayCmd_word s opc seq mbx payload).inRange hs
  | relayRsp n opc seq mbx status payload => exact (execRelayRsp_word s n opc seq mbx status payload).inRange hs
  | event n r => exact (execEvent_word s n r).inRange hs
  | bypassRelease => exact (execBypassRelease_word s).inRange hs
  | mbxDbReqWrite m value => exact (execMbxDbReqWrite_word s m value).inRange hs
  | mbxDbRplWrite m value => exact (execMbxDbRplWrite_word s m value).inRange hs
  | mailboxRequest => exact (execMailboxRequest_word s).inRange hs
  | txnIdleTimeout m => exact (execTxnIdleTimeout_word s m).inRange hs
  | commitSwitchOver => exact execCommitSwitchOver_inRange hs
  | admissionRecheck => exact execAdmissionRecheck_inRange hs
  | evtStatusWrite g value => exact (execEvtStatusWrite_word s g value).inRange hs
  | evtEnableWrite addr value => exact (execEvtEnableWrite_word s addr value).inRange hs
  | vectorUnmask v => exact (execVectorUnmask_word s v).inRange hs
  | spiWrite addr words cutShort => exact (execSpiWrite_word s addr words cutShort).inRange hs
  | spiRead addr words => exact (execSpiRead_word s addr words).inRange hs
  | registerWrite addr value byteEnables => exact (execRegisterWrite_word s addr value byteEnables).inRange hs
  | mbxHello q => exact (execMbxHello_word s q).inRange hs
  | opAbort q => exact (execOpAbort_word s q).inRange hs
  | identGet q => exact (execIdentGet_word s q).inRange hs
  | statusGet q => exact (execStatusGet_word s q).inRange hs
  | berthSet q => exact (execBerthSet_word s q).inRange hs
  | txnOpen q => exact (execTxnOpen_word s q).inRange hs
  | txnCommit q => exact (execTxnCommit_word s q).inRange hs
  | txnAbort q => exact (execTxnAbort_word s q).inRange hs
  | txnStatus q => exact (execTxnStatus_word s q).inRange hs
  | lineModeSet q => exact (execLineModeSet_word s q).inRange hs
  | lineLaneSet q => exact (execLineLaneSet_word s q).inRange hs
  | lineStatusGet q => exact (execLineStatusGet_word s q).inRange hs
  | ringStatusGet q => exact (execRingStatusGet_word s q).inRange hs
  | ringSet q => exact (execRingSet_word s q).inRange hs
  | ringProtectCmd q => exact (execRingProtectCmd_word s q).inRange hs
  | ringRenumber q => exact (execRingRenumber_word s q).inRange hs
  | nodeReset q => exact (execNodeReset_word s q).inRange hs
  | portSet q => exact (execPortSet_word s q).inRange hs
  | portStatusGet q => exact (execPortStatusGet_word s q).inRange hs
  | mdioAccess q => exact (execMdioAccess_word s q).inRange hs
  | queueSet q => exact (execQueueSet_word s q).inRange hs
  | queueFlush q => exact (execQueueFlush_word s q).inRange hs
  | schedSet q => exact (execSchedSet_word s q).inRange hs
  | shaperSet q => exact (execShaperSet_word s q).inRange hs
  | gateListSet q => exact (execGateListSet_word s q).inRange hs
  | policerSet q => exact (execPolicerSet_word s q).inRange hs
  | classifierSet q => exact (execClassifierSet_word s q).inRange hs
  | allocMapSet q => exact (execAllocMapSet_word s q).inRange hs
  | xgemMapSet q => exact (execXgemMapSet_word s q).inRange hs
  | mcastSet q => exact (execMcastSet_word s q).inRange hs
  | poolReserveSet q => exact (execPoolReserveSet_word s q).inRange hs
  | e1Set q => exact (execE1Set_word s q).inRange hs
  | cesSet q => exact (execCesSet_word s q).inRange hs
  | keyLoad q => exact (execKeyLoad_word s q).inRange hs
  | keyErase q => exact (execKeyErase_word s q).inRange hs
  | cntRead q => exact (execCntRead_word s q).inRange hs
  | cntSnapshot q => exact (execCntSnapshot_word s q).inRange hs
  | snapshotFillDone => exact (execSnapshotFillDone_word s).inRange hs
  | pwrStateSet q => exact (execPwrStateSet_word s q).inRange hs
  | lswEnable q node switch window => exact (execLswEnable_word s q node switch window).inRange hs
  | lswDisable q node switch window => exact (execLswDisable_word s q node switch window).inRange hs
  | lswRearm q node switch window => exact (execLswRearm_word s q node switch window).inRange hs
  | cisternSet q => exact (execCisternSet_word s q).inRange hs
  | fwWriteBegin q => exact (execFwWriteBegin_word s q).inRange hs
  | fwWriteBlock q => exact (execFwWriteBlock_word s q).inRange hs
  | fwWriteEnd q => exact (execFwWriteEnd_word s q).inRange hs
  | fwVerifyDone flashOk => exact (execFwVerifyDone_word s flashOk).inRange hs
  | fwActivate q => exact (execFwActivate_word s q).inRange hs
  | fwConfirm q => exact (execFwConfirm_word s q).inRange hs
  | confirmWindowExpiry => exact (execConfirmWindowExpiry_word s).inRange hs
  | workerImageUpdate n => exact (execWorkerImageUpdate_word s n).inRange hs
  | logbookRead q => exact (execLogbookRead_word s q).inRange hs
  | diagSelftest q => exact (execDiagSelftest_word s q).inRange hs
  | selftestDone tested retired failedUnits durationMs =>
    exact (execSelftestDone_word s tested retired failedUnits durationMs).inRange hs
  | diagLoopback q => exact (execDiagLoopback_word s q).inRange hs
  | loopbackExpiry object => exact execLoopbackExpiry_inRange hs object
  | diagPrbs q => exact (execDiagPrbs_word s q).inRange hs
  | prbsDone object bits errors syncLosses => exact execPrbsDone_inRange hs object bits errors syncLosses
  | diagMaintenance q => exact (execDiagMaintenance_word s q).inRange hs
  | omciSend q => exact (execOmciSend_word s q).inRange hs
  | evtConfig q => exact (execEvtConfig_word s q).inRange hs
  | evtAck q => exact (execEvtAck_word s q).inRange hs
  | evtFetch q => exact (execEvtFetch_word s q).inRange hs
  | tideAlarmSet q => exact (execTideAlarmSet_word s q).inRange hs
  | tidePulseSet q => exact (execTidePulseSet_word s q).inRange hs
  | tideSet q => exact (execTideSet_word s q).inRange hs
  | mooredEntry => exact execMooredEntry_inRange hs
  | drainEnd => exact execDrainEnd_inRange hs
  | cpWaitHalt irqPending => exact (execCpWaitHalt_word s irqPending).inRange hs
  | beachedEntry => exact execBeachedEntry_inRange hs
  | pwWake cause => exact execPwWake_inRange hs cause
  | thermalSample t0 t1 t2 t3 => exact (execThermalSample_word s t0 t1 t2 t3).inRange hs
  | thermalStepExit step => exact (execThermalStepExit_word s step).inRange hs
  | cisternMonitorSample vinBall storeBall => exact (execCisternMonitorSample_word s vinBall storeBall).inRange hs
  | probeChargeStart => exact (execProbeChargeStart_word s).inRange hs
  | probeChargeEnd => exact (execProbeChargeEnd_word s).inRange hs
  | vinFail => exact (execVinFail_word s).inRange hs
  | vinFailShedLoads => exact execVinFailShedLoads_inRange hs
  | csVinReturn => exact execCsVinReturn_inRange hs
  | csMgrShed => exact (execCsMgrShed_word s).inRange hs
  | workerShedRestore => exact (execWorkerShedRestore_word s).inRange hs
  | lswOn k => exact (execLswOn_word s k).inRange hs
  | lswFail k cause => exact (execLswFail_word s k cause).inRange hs
  | lswRetryExpiry k => exact (execLswRetryExpiry_word s k).inRange hs
  | lswFailCountClear k => exact (execLswFailCountClear_word s k).inRange hs
  | lswPres k => exact (execLswPres_word s k).inRange hs
  | lswReinsertion k => exact (execLswReinsertion_word s k).inRange hs
  | logbookFlush => exact (execLogbookFlush_word s).inRange hs
  | logbookRelay n kind data => exact (execLogbookRelay_word s n kind data).inRange hs
  | flashProgram r firstOk secondOk => exact (execFlashProgram_word s r firstOk secondOk).inRange hs
  | uartCharacter c err => exact (execUartCharacter_word s c err).inRange hs
  | uartRxService => exact (execUartRxService_word s).inRange hs
  | longBreak => exact (execLongBreak_word s).inRange hs
  | shortBreak => exact (execShortBreak_word s).inRange hs
  | shellLine line => exact (execShellLine_word s line).inRange hs
  | shellRaw opc payload => exact (execShellRaw_word s opc payload).inRange hs
  | shellUart baud bits parity stop fifo rxtrig txtrig =>
    exact (execShellUart_word s baud bits parity stop fifo rxtrig txtrig).inRange hs
  | uartTrialTimeout => exact (execUartTrialTimeout_word s).inRange hs
  | shellDdm lane => exact (execShellDdm_word s lane).inRange hs
  | shellGpio pin func level debounce => exact (execShellGpio_word s pin func level debounce).inRange hs
  | ddmRead l pageA2 data => exact execDdmRead_inRange hs l pageA2 data
  | cfI2cStuck m stillLow => exact (execCfI2cStuck_word s m stillLow).inRange hs
  | i2cStretchTimeout m => exact (execI2cStretchTimeout_word s m).inRange hs
  | gpioEdge pin level => exact (execGpioEdge_word s pin level).inRange hs
  | statusLedBlink => exact (execStatusLedBlink_word s).inRange hs
  | slipBufferWrite p frame => exact (execSlipBufferWrite_word s p frame).inRange hs
  | hostPcieLink up => exact (execHostPcieLink_word s up).inRange hs
  | refclkReturn eth => exact (execRefclkReturn_word s eth).inRange hs
  | heartbeat => exact (execHeartbeat_word s).inRange hs
  | joinHoldoffReset n => exact (execJoinHoldoffReset_word s n).inRange hs
  | fwEraseDone => exact (execFwEraseDone_word s).inRange hs
  | resetNRelease => exact (execResetNRelease_word s).inRange hs
  | powerOnResetAssert => exact execPowerOnResetAssert_inRange

theorem step_inRange {s t : State} (hs : InRange s.firm.word) (hStep : step s = .next t) : InRange t.firm.word := by
  unfold step at hStep
  split at hStep
  · cases hStep
    exact coreClock_inRange hs
  next c rest _ => exact exec_inRange (s := { s with pending := rest }) hs c t hStep

/-- Settles O6: the operations that move Tide leave a word in range, and the others leave Tide where it stands. -/
theorem tideStaysInRange : Obligations.TideStaysInRange := by
  unfold Obligations.TideStaysInRange
  exact fun s t h hStep => step_inRange h hStep

end Sys2Proof.Machine
end
